-- ==== Sys2Proof/Word.lean ====
section
/-! DEFINITION.  The word of the registers, the byte of buffers and memories, and the place of a
field in a register. -/

namespace Sys2Proof

/-- A register word: registers are 32 bits wide unless stated otherwise (spec/00, Conventions). -/
abbrev Word := BitVec 32

/-- A byte of a frame, buffer or memory. -/
abbrev Byte := BitVec 8

/-- A field of a register: the storage key of the register, the field's lowest bit and its width. -/
structure Field where
  key : Nat
  lo : Nat
  width : Nat
  deriving DecidableEq, Repr

/-- The storage key of copy `q` of a register that is kept in one copy per requester or engine. -/
def copyKey (q addr : Nat) : Nat := addr + 4294967296 * (q + 1)

/-- Bits `lo` to `lo + w - 1` of a word, as a number. -/
def Word.field (x : Word) (lo w : Nat) : Nat := x.toNat / 2 ^ lo % 2 ^ w

/-- The word `x` with bits `lo` to `lo + w - 1` replaced by the low `w` bits of `v`. -/
def Word.setField (x : Word) (lo w v : Nat) : Word :=
  BitVec.ofNat 32 (x.toNat - x.field lo w * 2 ^ lo + v % 2 ^ w * 2 ^ lo)

/-- A `w`-bit number read as two's complement. -/
def signedOf (w v : Nat) : Int := if 2 * v < 2 ^ w then (v : Int) else (v : Int) - 2 ^ w

/-- The low `w` bits of the two's complement form of an integer, as a number. -/
def unsignedOf (w : Nat) (i : Int) : Nat := (i % 2 ^ w).toNat

/-- An integer held within `lo` and `hi`. -/
def clampInt (lo hi i : Int) : Int := if i < lo then lo else if hi < i then hi else i

/-- A number held at `m` beyond it. -/
def satNat (m v : Nat) : Nat := if m < v then m else v

/-- The little-endian number of a list of bytes. -/
def bytesLE : List Byte → Nat
  | [] => 0
  | b :: r => b.toNat + 256 * bytesLE r

/-- The big-endian number of a list of bytes. -/
def bytesBE (l : List Byte) : Nat := bytesLE l.reverse

/-- `n` bytes of a number, least significant first. -/
def leBytes : Nat → Nat → List Byte
  | 0, _ => []
  | n + 1, v => BitVec.ofNat 8 v :: leBytes n (v / 256)

end Sys2Proof
end

