-- ==== Sys2Proof/Syntax.lean ====
section
/-! DEFINITION.  The commands of the block: one constructor per row of spec/opcode_table.json, with the
operands the row's rule gives it, and the small types of those operands.  A measured quantity that a threshold or a
filter of the configuration judges is an operand with a default, as are the errors that an engine's reads find (log
entries 159 and 160): `mv` and `uv` are voltages in millivolts and microvolts, `cur` a current in 10 mA, `held` the
nanoseconds for which the condition has held. -/

namespace Sys2Proof

/-- A requester of a register access or command (R22, one register copy per requester): an engine,
the two-wire host bus, the quad port or the hierarchy link. -/
inductive Req where
  | engine (e : Fin 16)
  | hostBus
  | quad
  | link
  deriving DecidableEq, Repr

/-- A source of a set-point command, coded as LOOP_LOCK.PERM and OWNER name them (R76). -/
inductive Src where
  | hostBus
  | quad
  | il (n : Fin 2)
  | engine (e : Fin 16)
  | fabric
  deriving DecidableEq, Repr

/-- One failed check of a self-test: its item and index (R318, R320, BIST_START.ITEM and INDEX). -/
structure Check where
  item : BitVec 4
  index : Byte
  deriving DecidableEq, Repr

/-- What the word in flight of a cut commit reads (R254). -/
inductive InFlight where
  | old
  | new
  | poisoned
  deriving DecidableEq, Repr

/-- How the loss of power meets a running commit (R51, R254): the commit completes, or it is cut when
`words` words are written and one is in flight. -/
inductive Cut where
  | completes
  | cut (words : Nat) (inFlight : InFlight)
  deriving DecidableEq, Repr

/-- The house rails of Table 3.2. -/
inductive HouseRail where
  | vcc5
  | vdd08
  | vdda18
  | vddio33
  | vbn
  deriving DecidableEq, Repr

/-- Why a pack is marked absent (R185). -/
inductive AbsentWhy where
  | batIdOpen
  | tsOpen
  | currentCollapse
  deriving DecidableEq, Repr

/-- The estimates a survey burst yields (R114), as the measurement gives them in the units of the SV_RES
registers, and whether a crossover was found in the measured band. -/
structure Estimate where
  cap : Nat
  esr : Nat
  ind : Nat
  fc : Nat
  pm : Nat
  crossover : Bool
  deriving DecidableEq, Repr

/-- A memory with SEC-DED words of the engine subsystem (R228). -/
inductive EccMem where
  | sram
  | itcm (e : Fin 16)
  | dtcm (e : Fin 16)
  deriving DecidableEq, Repr

/-- What the ECC of a word finds (R228). -/
inductive EccErr where
  | none
  | single
  | double
  deriving DecidableEq, Repr

/-- The packet error code of a bus message: left out, right or wrong, or the byte as sent, which the device judges
(R266). -/
inductive Pec where
  | absent
  | good
  | bad
  | byte (b : Byte)
  deriving DecidableEq, Repr

/-- One message on the two-wire bus after its command code: whether it reads, the data bytes written,
the number of bytes the controller clocks out, the PEC byte, and whether it ran to its end; `errs` are the errors that
its reads of the shared SRAM find, in their order (R228). -/
structure BusMsg where
  read : Bool
  data : List Byte
  clocked : Nat
  pec : Pec
  complete : Bool
  errs : List EccErr := []
  deriving DecidableEq, Repr

/-- How a quad-port frame is sent and ends (R286): whether its request CRC is right and whether QCS_N rose at its end.
`crc` is the CRC as sent, which the device then judges; `flags` is the header's FLAGS byte, `op` an OP byte other than
those of Table 14.7 in place of the row's own, and `len` the LEN of a STATUS frame.  `errs` are the errors that its reads
of the shared SRAM find (R228). -/
structure QuadEnd where
  crcOk : Bool
  complete : Bool
  crc : Option (BitVec 16) := none
  flags : Byte := 0#8
  op : Option Byte := none
  addr : Word := 0#32
  len : Nat := 0
  errs : List EccErr := []
  deriving DecidableEq, Repr

/-- The header of a received link frame: its port, source, destination and sequence number (the general frame of spec/15,
R291), and whether its CRC is right. -/
structure FrameId where
  port : Fin 4
  src : Byte
  dst : Byte
  seq : BitVec 16
  crcOk : Bool := true
  deriving DecidableEq, Repr

/-- One operation of the test access port (R42). -/
inductive TapOp where
  | reset
  | shiftIr (instruction : Byte)
  | shiftDr (bits : List Bool)
  | update
  deriving DecidableEq, Repr

/-- What a phase samples over one switching cycle (R97, R101, R104, R106): valley, centre and peak of
the sense voltage in 0.1 mV about ISNS_REF. -/
structure CycleSamples where
  valley : Int
  centre : Int
  peak : Int
  deriving DecidableEq, Repr

/-- The commands, one constructor per row of spec/opcode_table.json. -/
inductive Instr where
  /-- VIN_RISE_START (R45): VIN rising above 5.0 V starts the device from unpowered at t0 of Table 3.3. -/
  | vinRiseStart
  /-- FLACON_EXIT (R60): SVC_N held low for 200 ms, or VIN_SNS above 6.0 V, ends flacon mode and starts from t0 with a fresh strap reading. -/
  | flaconExit (svc : Bool)
  /-- START_BEGIN (R50): A start begins at t0, or at t2 after a wake, a brown-out that kept the base-note domain powered, or the restart command. -/
  | startBegin
  /-- STRAP_READING_DONE (R36): After 200 µs of source current the ADDR balls are binned, the address is latched and the address matcher is enabled. -/
  | strapReadingDone (mv0 mv1 : Nat) (ft : BitVec 4)
  /-- START_LEDGER_READ (R319): At t6 the drydown record, bank selector, clock word and page 0 are read, and the device decides on start-up self-test and the clock source. -/
  | startLedgerRead
  /-- STARTUP_SELF_TEST_END (R320): Start-up self-test finishes its items within 40 ms, raising FS_62 or FS_58 for each failure after repeat, and t7 follows. -/
  | startupSelfTestEnd (fails : List Check) (duration : Nat := 0)
  /-- ACCORD_LOAD_START (R14): At t7 the engines are powered and the loader starts streaming and judging both banks. -/
  | accordLoadStart
  /-- BANKS_JUDGED (R13): Both banks are judged and given cause codes, FS_52 is raised for a failing bank, and the bank to load is chosen. -/
  | banksJudged
  /-- FABRIC_CONFIGURED (R14): The last tile group is configured with its safe-value latches and the loader replays the stored parameters. -/
  | fabricConfigured
  /-- SEQUENCER_RELEASE (R20): At t3 RWL fields lock, balls take their Accord levels, engines leave reset and the sequencer is released. -/
  | sequencerRelease
  /-- LOG_SCAN_END (R258): The start scan of the event log finds the head, and writing of queued log records resumes there. -/
  | logScanEnd
  /-- UVLO (R51): HSUP below 3.6 V for 2 µs causes a brown-out that clears the safe latch. -/
  | uvlo (cut : Cut)
  /-- BROWN_OUT (R51): A house-rail reset-limit crossing puts outputs to their safe levels, removes the top-note domain and records the cause. -/
  | brownOut (rail : HouseRail) (cut : Cut)
  /-- BROWN_OUT_RESTART (R51): 10 ms after a reset-limit brown-out with HSUP above 3.6 V, the device starts again from t2. -/
  | brownOutRestart
  /-- BN_POR (R51): VBN falling below 2.50 V is a base-note power-on reset and the device becomes unpowered. -/
  | bnPor (cut : Cut)
  /-- HSUP_OVERVOLTAGE (R46): HSUP above 62.0 V for 1 µs stops HB5 switching and raises FS_61. -/
  | hsupOvervoltage
  /-- HSUP_OV_RECOVER (R46): HSUP falling below 60.5 V lets HB5 resume switching. -/
  | hsupOvRecover
  /-- HOUSE_RAIL_EXCURSION (R48): A house rail outside its window for 2 µs raises FS_61, and VCC5 above 5.60 V stops HB5 until it falls below 5.20 V. -/
  | houseRailExcursion (rail : HouseRail) (high : Bool)
  /-- XIN_QUALIFIED (R52): A selected XIN found in range within 5 ms of t6 takes over from REF100 through holdover. -/
  | xinQualified
  /-- XIN_QUALIFY_TIMEOUT (R52): A selected XIN not qualified by 5 ms after t6 leaves the device on REF100, sets XIN_FAIL and raises FS_60. -/
  | xinQualifyTimeout
  /-- XIN_MONITOR_FAIL (R53): XIN loses amplitude or frequency, the PLLs move to REF100 in holdover and FS_60 is raised. -/
  | xinMonitorFail
  /-- REF100_MONITOR_FAIL (R53): REF100 is found outside ±5 % of BNO over 1 ms and FS_60 is raised. -/
  | ref100MonitorFail
  /-- BNO_MONITOR_FAIL (R53): BNO is found outside ±5 % of the reference over 1 ms, FS_60 is raised and park entry is refused until cleared. -/
  | bnoMonitorFail
  /-- PLLP_UNLOCK (R86): PLL_P loses lock, every PWM ball goes to mid, running loops hold their integrator and reference, and FS_60 is raised. -/
  | pllpUnlock
  /-- PLLP_RELOCK (R86): PLL_P regains lock within 10 µs and each running loop restarts from LOOP_VOUT with power-good masked. -/
  | pllpRelock
  /-- PLLP_UNLOCK_TIMEOUT (R86): PLL_P out of lock longer than 10 µs puts every running loop in FAULT with cause CLK. -/
  | pllpUnlockTimeout
  /-- PLLE_UNLOCK (R54): PLL_E loses lock, tiles take their safe values, engines halt, and timing falls back to the reference clock. -/
  | plleUnlock
  /-- PLLE_RELOCK (R54): PLL_E regains lock and the loader starts reconfiguring every tile group from the active bank. -/
  | plleRelock
  /-- PLLE_RECONFIG_DONE (R54): The last tile group is reconfigured after a PLL_E dropout and all tile outputs are released together, unfrozen. -/
  | plleReconfigDone
  /-- PLLM_UNLOCK (R53): PLL_M loses lock, converter words are flagged invalid and FS_60 is raised. -/
  | pllmUnlock
  /-- PLLM_RELOCK (R53): PLL_M regains lock and converter words become valid again. -/
  | pllmRelock
  /-- POWER_DOWN_TO_PARK (R61): A power command to park is accepted or refused, arms the wake sources and starts the rail power-down. -/
  | powerDownToPark (r : Req) (m : Option BusMsg := none)
  /-- POWER_DOWN_TO_FLACON (R60): A power command to flacon is accepted, or refused while VIN_SNS is above 6.0 V, and starts the rail power-down. -/
  | powerDownToFlacon (r : Req) (vinAbove6 : Bool) (m : Option BusMsg := none)
  /-- PARK_ENTRY (R56): Once drydown has written its record and the Ledger is drained, balls take park levels and the top-note domain is powered down. -/
  | parkEntry (bnoPeriod : Nat)
  /-- FLACON_ENTRY (R60): At the end of a power-down to flacon the battery switch opens and only the BAT and VIN_SNS comparators remain. -/
  | flaconEntry
  /-- WAKE_INPUT_WAKE (R57): An enabled WAKE_n held at its active level for the filter time wakes the device from park. -/
  | wakeInputWake (n : Fin 4)
  /-- BUS_ADDRESS_WAKE (R271): The address matcher acknowledges the device's own address in park, stretches SCL and wakes the device. -/
  | busAddressWake
  /-- LINK_ACTIVITY_WAKE (R57): 32 or more transitions within 8 base-note ticks on an enabled link wake the device from park. -/
  | linkActivityWake (n : Fin 4)
  /-- SVC_N_WAKE (R57): SVC_N low for 200 ms with EN_SVC set wakes the device from park. -/
  | svcNWake
  /-- PARK_ALARM_WAKE (R57): Coarse hierarchy time reaching SYS_PARK_ALARM with EN_ALARM set wakes the device. -/
  | parkAlarmWake
  /-- LC_TRANSITION_REQUEST (R62): A SYS_LC_CMD write requests the next life-cycle state, which is accepted and committed, or refused with a RESULT code. -/
  | lcTransitionRequest (r : Req) (w : Word)
  /-- RETURN_REQUEST_JUDGED (R63): A signed return request is judged within 1 ms, after which the nonce is renewed and the request registers are cleared. -/
  | returnRequestJudged
  /-- SCRUB_FRAME_READ (R26): The scrubber reads a frame of a configured, unfrozen tile and corrects a single-cell upset in place. -/
  | scrubFrameRead (tile : Fin 4096) (frame : Fin 128)
  /-- TILE_RELOAD_REQUEST (R28): An ACRD_TILE_RELOAD write with its key starts the reload of a frozen tile, or is ignored. -/
  | tileReloadRequest (r : Req) (w : Word)
  /-- TILE_RELOAD_DONE (R28): A tile reload completes, releasing the tile, or fails its check and sets RELOAD_ERR and raises FS_52. -/
  | tileReloadDone
  /-- VERIFY_STAGED (R29): The VERIFY_STAGED command starts judging the inactive bank, or the bank that BANK names under the factory default. -/
  | verifyStaged (r : Req) (bank : Bool)
  /-- VERIFY_STAGED_DONE (R29): Staged verification finishes, sets VCAUSE and VDONE and, on a pass, loads shadow registers and sets STAGED_OK. -/
  | verifyStagedDone
  /-- SELECT_STAGED (R29): The SELECT_STAGED command rewrites the bank selector to the staged bank while STAGED_OK is 1. -/
  | selectStaged (r : Req) (bank : Bool)
  /-- PARAM_WRITE (R21): A parameter write command is judged, applied to its field or file, and extends the journal and digest, or returns a refusal code. -/
  | paramWrite (r : Req) (id : BitVec 12) (value : Word) (persist : Bool) (m : Option BusMsg := none)
  /-- PARAM_READ (R19): A parameter command reads a parameter's present value into ACRD_PARAM_VAL. -/
  | paramRead (r : Req) (id : BitVec 12)
  /-- PARAM_READ_DEFAULT (R19): A parameter command reads a parameter's default into ACRD_PARAM_VAL. -/
  | paramReadDefault (r : Req) (id : BitVec 12)
  /-- SCHEDULED_SWITCH (R31): At time T the action lines are latched and held, the shadow registers take effect, and the fabric is configured from the staged bank. -/
  | scheduledSwitch
  /-- SWITCH_RELEASE (R31): At T + 3,000 µs parameters are replayed, all action lines are released together and the staged bank becomes active. -/
  | switchRelease
  /-- FABRIC_TERM_CHANGE (R132): A rail fabric-term action line changes level and the rail's start condition is re-judged. -/
  | fabricTermChange (n : Fin 64) (level : Bool)
  /-- FABRIC_GROUP_SHUTDOWN (R330): A rising edge on ACT_064 to ACT_079 requests a group shut-down and holds the group's re-sequence while the line stays at 1. -/
  | fabricGroupShutdown (n : Fin 16) (level : Bool)
  /-- FABRIC_URGENT_REQUEST (R204): A rising edge on ACT_080 to ACT_095 requests an urgent conversion of the channel mapped in MEAS_URG_MAP. -/
  | fabricUrgentRequest (n : Fin 16) (level : Bool)
  /-- FABRIC_FS63_RAISE (R330): A rising edge on ACT_096 to ACT_159 raises FS_63 with its sub-code. -/
  | fabricFs63Raise (n : Fin 64) (level : Bool)
  /-- FABRIC_GP_LEVEL (R330): An ACT_160 to ACT_183 level sets a GP output that the Accord gives to the fabric. -/
  | fabricGpLevel (n : Fin 24) (level : Bool)
  /-- FABRIC_RSTO_ASSERT (R157): An ACT_184 to ACT_191 level asserts or releases the fabric source of an RSTO output. -/
  | fabricRstoAssert (n : Fin 8) (level : Bool)
  /-- FABRIC_SETPOINT_COMMAND (R77): A rising edge on ACT_192 to ACT_215 issues a set-point command to LOOP_FSET's target, which the lock never refuses. -/
  | fabricSetpointCommand (n : Fin 24) (level : Bool)
  /-- FABRIC_EVENT_RAISE (R239): A rising edge on ACT_216 to ACT_247 raises EV_096 to EV_127. -/
  | fabricEventRaise (n : Fin 32) (level : Bool)
  /-- FABRIC_SNAPSHOT_REQUEST (R148): A rising edge on ACT_248 requests a snapshot captured with rail number 0xFF. -/
  | fabricSnapshotRequest (level : Bool)
  /-- TILE_TIMER_EXPIRY (R12): A tile event timer reaches its reload count and drives the tile's logic. -/
  | tileTimerExpiry (tile : Fin 4096) (timer : Fin 2)
  /-- SETPOINT_COMMAND (R73): An engine, host or quad-port write of LOOP_VSET is one set-point command, accepted or refused by the loop's rules. -/
  | setpointCommand (r : Req) (n : Fin 24) (w : Word)
  /-- SLEW_TICK (R74): Every 100 ns the set-point generator moves the reference toward the target and ends START or STOP when the ramp completes. -/
  | slewTick (n : Fin 24)
  /-- COMPENSATOR_UPDATE (R66): A compensator update computes u and the duties, applies the current limit, balance trims, diode emulation and shed restores. -/
  | compensatorUpdate (n : Fin 24) (errs : List Int)
  /-- TELEMETRY_UPDATE (R90): Every 1 µs LOOP_VOUT and LOOP_IOUT are updated, and inrush and forecast fulfilment are judged on them. -/
  | telemetryUpdate (n : Fin 24) (errs : List Int)
  /-- PG_MASK_END (R79): TSET after the reference reaches its final target, the power-good mask ends and the thresholds return to the final target. -/
  | pgMaskEnd (n : Fin 24)
  /-- LOOP_OVERVOLTAGE (R82): An over-voltage held past its filter drives the loop's phases low, puts the loop in FAULT and raises FS_nn. -/
  | loopOvervoltage (n : Fin 24) (ceiling : Bool) (uv held : Nat := 0)
  /-- LOOP_OV_CLEAR (R82): The output falling below the target moves the phases held low by an over-voltage to mid. -/
  | loopOvClear (n : Fin 24) (uv : Nat := 0)
  /-- LOOP_UNDERVOLTAGE (R83): The output below the under-voltage threshold for TUV puts the loop in FAULT with cause UV and raises FS_nn. -/
  | loopUndervoltage (n : Fin 24) (uv held : Nat := 0)
  /-- LOOP_OC_FAULT (R84): The loop current limit held for TILF puts the loop in FAULT with cause OC and raises FS_nn. -/
  | loopOcFault (n : Fin 24)
  /-- NL_ENTRY (R69): CNT + 1 consecutive error words beyond a threshold put the loop in the nonlinear state and drive its phases. -/
  | nlEntry (n : Fin 24) (errs : List Int)
  /-- NL_EXIT (R69): The nonlinear state ends on error return, TMAX or the loop limit, and interleaved switching resumes. -/
  | nlExit (n : Fin 24) (err : Int := 0)
  /-- PHASE_SHED (R89): The per-phase current below IS for TSHED sheds the highest-numbered active slot. -/
  | phaseShed (n : Fin 24)
  /-- RESPACING (R95): At the loop's position-0 edge the new active set takes its positions and the transitional periods run. -/
  | respacing (n : Fin 24)
  /-- LOCK_TAKE (R76): A write of LOOP_LOCK.TAKE by a permitted source takes the free command lock, or is refused and counted. -/
  | lockTake (src : Src) (n : Fin 24)
  /-- LOCK_RELEASE (R78): A write of LOOP_LOCK.RELEASE by the holder releases the command lock. -/
  | lockRelease (src : Src) (n : Fin 24)
  /-- LOCK_TIMEOUT (R78): TOUT milliseconds without an accepted command from the holder release the lock. -/
  | lockTimeout (n : Fin 24)
  /-- SYNC_IN_LOST (R71): No qualifying SYNC_IN edge within 1.5 reference periods sets LOST and raises a device event. -/
  | syncInLost
  /-- SYNC_IN_EDGE (R71): A qualifying SYNC_IN edge lets the reference acquire or track at the limited rate. -/
  | syncInEdge (period : Nat)
  /-- PHASE_POS_LIMIT (R98): A phase current reaching PH_ILIM.LIM in its on-interval drives the phase low for the rest of the cycle. -/
  | phasePosLimit (p : Fin 48) (cur : Int := 0)
  /-- PHASE_NEG_LIMIT (R98): A phase current below −NEG in its off-interval drives the phase to mid for the rest of the cycle. -/
  | phaseNegLimit (p : Fin 48) (cur : Int := 0)
  /-- PHASE_OPEN (R104): OPENCNT reaching 64 loses the phase with cause OPEN and raises FS_24. -/
  | phaseOpen (p : Fin 48)
  /-- PHASE_STAGE_FAULT (R103): TMF low beyond the SFF filter outside the start blank loses the phase with cause STAGE and raises FS_26. -/
  | phaseStageFault (p : Fin 48) (low : Bool := true) (held : Nat := 0)
  /-- STAGE_BLANK_END (R103): At the end of the stage-fault blank after a loop start, a TMF still low loses the phase with cause STAGE. -/
  | stageBlankEnd (p : Fin 48) (tmfLow : Bool)
  /-- PHASE_HOT (R103): 16 consecutive TMF readings above TSHUT lose the phase with cause HOT and raise FS_26. -/
  | phaseHot (p : Fin 48)
  /-- PHASE_TEMP_WARNING (R102): 16 consecutive TMF readings above TWARN enter warning and raise FS_27. -/
  | phaseTempWarning (p : Fin 48)
  /-- PHASE_TEMP_WARNING_END (R102): 16 consecutive TMF readings below TWARN − THYS end the phase's warning. -/
  | phaseTempWarningEnd (p : Fin 48)
  /-- SENSE_SUSPECT_RANGE (R106): Samples beyond ±1.1 V in 4 consecutive cycles make the phase sense-suspect and raise FS_25. -/
  | senseSuspectRange (p : Fin 48)
  /-- SENSE_SUSPECT_FLUX (R106): 256 consecutive evaluated out-of-tolerance flux cycles make the phase sense-suspect and raise FS_25. -/
  | senseSuspectFlux (p : Fin 48)
  /-- ISNS_REF_FAIL (R106): ISNS_REF outside 1.10 V to 1.30 V for 10 µs makes every healthy phase sense-suspect and raises FS_25 once. -/
  | isnsRefFail (mv : BitVec 12)
  /-- SURVEY_BURST_START (R111): A survey burst begins on its schedule when the permission conditions hold. -/
  | surveyBurstStart (n : Fin 24)
  /-- SURVEY_FORCE (R111): A write of SV_CFG.FORCE starts a burst at once if the permission conditions hold. -/
  | surveyForce (n : Fin 24)
  /-- SURVEY_PAUSE (R113): A failed permission condition returns the perturbation to 0 and discards the sequence in progress. -/
  | surveyPause (n : Fin 24)
  /-- SURVEY_RESUME (R113): Permission conditions held again for 1 ms resume the burst with a fresh sequence. -/
  | surveyResume (n : Fin 24)
  /-- SURVEY_TIMEOUT (R113): A burst not complete within 500 ms is abandoned and counted in SV_CNT.ABORT. -/
  | surveyTimeout (n : Fin 24)
  /-- SURVEY_BURST_END (R114): A burst completes its sequences and the loop starts computing its estimates. -/
  | surveyBurstEnd (n : Fin 24)
  /-- SURVEY_RESULT (R114): Estimates are produced within 2 ms and, when valid, may retune coefficients and set health alarms. -/
  | surveyResult (n : Fin 24) (est : Estimate)
  /-- INTENT_SETPOINT (R122): An accepted SETPOINT frame at edge 32 is a set-point command from IL_n and is answered ACK. -/
  | intentSetpoint (il : Fin 2) (frame : Word)
  /-- INTENT_FORECAST (R123): An accepted FORECAST frame sets the step time, restores shed phases and starts the pre-raise. -/
  | intentForecast (il : Fin 2) (frame : Word)
  /-- INTENT_BAD_FRAME (R121): A command frame with a bad CHK, TYPE or LOOP is answered NACK and applies nothing. -/
  | intentBadFrame (il : Fin 2) (frame : Word)
  /-- INTENT_SHORT_TRANSACTION (R119): A transaction of fewer than 32 edges is discarded and counted in IL_ERR.SHORT. -/
  | intentShortTransaction (il : Fin 2)
  /-- FORECAST_PREPOSITION (R124): At T − TLEAD each active phase lengthens or shortens its on-intervals by the pre-position. -/
  | forecastPreposition (n : Fin 24)
  /-- FORECAST_UNFULFILLED (R126): A forecast not fulfilled by T + WIN unwinds its pre-raise, counts UNF and pulses the link alert. -/
  | forecastUnfulfilled (n : Fin 24)
  /-- PRERAISE_HOLD_END (R126): THOLD after fulfilment the pre-raise starts unwinding at PRATE. -/
  | preraiseHoldEnd (n : Fin 24)
  /-- SEQUENCER_TICK (R133): Every 250 ns the sequencer evaluates every rail record, admits the queue head and issues starts, stops and reactions. -/
  | sequencerTick
  /-- RAIL_ON_REQUEST (R132): An on request moves the rail from OFF to WAIT. -/
  | railOnRequest (r : Req) (n : Fin 64) (m : Option BusMsg := none)
  /-- RAIL_OFF_REQUEST (R144): An off request clears the rail's request and stops it with its local-dependent closure. -/
  | railOffRequest (r : Req) (n : Fin 64) (m : Option BusMsg := none)
  /-- RAIL_CLEAR_LATCH (R141): A clear moves a LATCHED rail to OFF, or to WAIT when requested. -/
  | railClearLatch (r : Req) (n : Fin 64) (m : Option BusMsg := none)
  /-- RAIL_QUALIFIED (R136): Power-good held for PGQ without a break moves the rail to GOOD and records SEQ_RAIL_TON. -/
  | railQualified (n : Fin 64)
  /-- RAIL_START_TIMEOUT (R136): ONMAX expiring before GOOD raises FS_28 and gives the rail a reacting fault. -/
  | railStartTimeout (n : Fin 64)
  /-- RAIL_CHATTER_LIMIT (R136): CHAT exceeding its limit raises FS_29 and gives the rail a reacting fault with cause PG unstable. -/
  | railChatterLimit (n : Fin 64)
  /-- RAIL_DISCHARGE_TIMEOUT (R144): OFFMAX expiring before the off test raises FS_30 and counts the rail as off. -/
  | railDischargeTimeout (n : Fin 64)
  /-- RETRY_DELAY_END (R141): The retry delay ends and the rail returns to WAIT. -/
  | retryDelayEnd (n : Fin 64)
  /-- RETRY_COUNT_CLEAR (R141): TRC seconds of unbroken GOOD return the rail's RETRY count to 0. -/
  | retryCountClear (n : Fin 64)
  /-- GROUP_SHUTDOWN_REQUEST (R142): A SEQ_GRP_CTRL write requests a shut-down of the group's closure. -/
  | groupShutdownRequest (r : Req) (g : Fin 16)
  /-- GROUP_CLOSURE_OFF (R142): The last rail of a group closure passes its off test and the closure latches or waits RSDLY. -/
  | groupClosureOff (g : Fin 16)
  /-- GROUP_RESEQUENCE (R142): RSDLY ends and the closure's requested rails return to WAIT. -/
  | groupResequence (g : Fin 16)
  /-- GROUP_STABLE (R142): Every rail of the group in GOOD for TSTABLE returns RSCNT to 0. -/
  | groupStable (g : Fin 16)
  /-- SYSTEM_RESET_HOLD_END (R142): THOLD after the last rail is off, latches and counts are cleared and sequencing restarts as at release. -/
  | systemResetHoldEnd
  /-- SYSTEM_STABLE (R142): Every AUTO rail in GOOD for TSTABLE returns SYSCNT to 0. -/
  | systemStable
  /-- SEQ_RESUME (R142): The RESUME command leaves HALT, clears SYSCNT and continues the system reset at step 4. -/
  | seqResume (r : Req)
  /-- SNAPSHOT_PLACED (R147): A captured snapshot is placed in the Ledger commit buffer, freeing its entry and serving the oldest pending request. -/
  | snapshotPlaced
  /-- MON_CROSSING (R152): A monitor input crosses a threshold and its raw ABOVE or BELOW state changes. -/
  | monCrossing (n : Fin 64) (mv uv : Nat)
  /-- MON_FILTER_EXPIRY (R153): The raw state held for FILT changes the filtered state, which may raise FS_32, give a rail fault and assert an RSTO. -/
  | monFilterExpiry (n : Fin 64)
  /-- VIN_LOSS_SET (R156): VIN_SNS below LOSS for LFILT sets LOSS, which may trigger a hand-over. -/
  | vinLossSet (mv held : Nat := 0)
  /-- VIN_LOSS_CLEAR (R156): VIN_SNS back above LOSS plus hysteresis for LFILT clears LOSS. -/
  | vinLossClear (mv held : Nat := 0)
  /-- VIN_WINDOW_EXIT (R156): VIN_SNS outside UVT or OVT for WFILT sets LOW or HIGH and raises FS_34. -/
  | vinWindowExit (high : Bool) (mv held : Nat := 0)
  /-- VIN_WINDOW_RETURN (R156): VIN_SNS back inside the window for WFILT clears LOW or HIGH. -/
  | vinWindowReturn (high : Bool) (mv held : Nat := 0)
  /-- RSTO_MINW_END (R158): The minimum low time of an RSTO output ends, and its release delay starts if no source is active. -/
  | rstoMinwEnd (n : Fin 8)
  /-- RSTO_RELEASE (R158): The release delay ends, the RSTO ball is released and its watchdog is rearmed. -/
  | rstoRelease (n : Fin 8)
  /-- WD_ANSWER (R160): A host write of SUP_WD_ANS is judged as a good service or a bad write at its completion tick. -/
  | wdAnswer (r : Req) (ans : BitVec 16) (m : Option BusMsg := none)
  /-- WD_CLOSED_END (R160): The closed window ends and the open window begins. -/
  | wdClosedEnd
  /-- WD_TIMEOUT (R160): The open or first window ends without a good service, counts an error and begins a new closed window. -/
  | wdTimeout
  /-- SOFT_START_END (R168): VSYS within 200 mV of its source drives the pair fully and enters ON_VIN or ON_BAT. -/
  | softStartEnd
  /-- SOFT_START_TIMEOUT (R168): A soft start not done in time turns the pair off, enters NOSRC and sets SSFAIL. -/
  | softStartTimeout
  /-- VIN_STABLE (R174): TRET without an excursion makes VIN stable, leaving NOSRC or starting RETURN. -/
  | vinStable
  /-- REVERSE_DETECT (R170): VIN_SNS below VSYS_SNS by 10 mV for 200 ns turns the input pair off and triggers a hand-over when enabled. -/
  | reverseDetect (present : Bool := true)
  /-- VSYS_LOW_DETECT (R170): VSYS_SNS below VLOW for 200 ns triggers a hand-over when enabled. -/
  | vsysLowDetect (present : Bool := true)
  /-- HANDOVER_COMPLETE (R172): The battery switch reaches 5 V, or 10 µs pass, and the path enters ON_BAT and raises FS_40. -/
  | handoverComplete (slow : Bool)
  /-- BSW_REVERSE_OFF (R173): VSYS more than 50 mV above BAT_SNS for 50 µs turns the battery switch off. -/
  | bswReverseOff (off : Bool := true)
  /-- PACK_WARNING (R173): BAT_SNS below NCELL × VWARN for 1 ms enters the warning condition. -/
  | packWarning (mv held : Nat := 0)
  /-- PACK_WARNING_END (R173): BAT_SNS above the warning level for 1 ms ends the warning condition. -/
  | packWarningEnd (mv held : Nat := 0)
  /-- PACK_CUT (R173): BAT_SNS below NCELL × VCUT for 1 ms enters the cut condition, raises FS_42 and opens the battery path. -/
  | packCut (mv held : Nat := 0)
  /-- PACK_CUT_END (R173): BAT_SNS above the cut level for 1 ms ends the cut condition. -/
  | packCutEnd (mv held : Nat := 0)
  /-- RETURN_TRANSFER (R175): The input pair carries current forward, the battery switch turns off and the path enters ON_VIN. -/
  | returnTransfer
  /-- RETURN_NO_TRANSFER (R176): The drop target at DMAX for 1 ms without transfer abandons the return and counts RETFAIL. -/
  | returnNoTransfer
  /-- CHARGER_SOURCE_RETURN (R178): 1 s after a source is again present the charger returns from SUSPEND to DETECT. -/
  | chargerSourceReturn
  /-- PRECHARGE_EXIT (R179): The cell voltage at or above VPRE for 1 s moves the charger from PRECHARGE to CC. -/
  | prechargeExit (cellMv : Nat)
  /-- PRECHARGE_TIMEOUT (R179): PRECHARGE lasting TPRE is a charger fault with cause 1. -/
  | prechargeTimeout
  /-- CHARGER_STEP_END (R180): The cell voltage reaching a step's VEND or the CV level moves the charger to the next step or to CV. -/
  | chargerStepEnd (cellMv : Nat)
  /-- CHARGER_TERMINATION (R180): Current below ITERM for 30 s in CV moves the charger to DONE. -/
  | chargerTermination
  /-- CHARGER_RECHARGE (R180): The cell voltage below the CV level minus VRCH moves the charger from DONE back to CC. -/
  | chargerRecharge (cellMv : Nat)
  /-- FAST_CHARGE_TIMEOUT (R180): Time in CC and CV reaching TFAST is a charger fault with cause 2. -/
  | fastChargeTimeout
  /-- PACK_ZONE_CHANGE (R181): A TS reading crosses a zone bound, the caps change and a zone without charge permit suspends the charger. -/
  | packZoneChange (uv : Nat)
  /-- CHARGER_FAULT (R183): An over-voltage, TS short or over-current condition puts the charger in FAULT and raises FS_42. -/
  | chargerFault (cause : Fin 8)
  /-- CHARGER_CLEAR (R183): The CLEAR command moves a charger in FAULT to DETECT. -/
  | chargerClear (r : Req)
  /-- CHARGER_RESTART (R183): The restart command puts the charger at DETECT. -/
  | chargerRestart (r : Req)
  /-- CHARGER_SOFT_LIMIT (R182): A PATH_CHG_SOFT write lowers the effective charge current and voltage within 10 ms. -/
  | chargerSoftLimit (r : Req) (w : Word)
  /-- PACK_PRESENT (R184): BAT_ID and TS reading present after the 100 µs filter make the pack present. -/
  | packPresent (batId ts : Bool)
  /-- PACK_ABSENT (R185): An open BAT_ID or TS, or a sudden current collapse, marks the pack absent, raises FS_41 and acts on the path. -/
  | packAbsent (why : AbsentWhy)
  /-- PRESENCE_PROBE (R186): Every 1 s an absent pack is probed with 50 mA for 10 ms, and two present results clear the mark. -/
  | presenceProbe (present : Bool)
  /-- PEER_MODE_OFF (R187): A PATH_PEER.MODE write of 0 turns both peer gates off, first restoring the battery switch from PEER_OUT. -/
  | peerModeOff (r : Req)
  /-- PEER_MODE_IN (R187): A PATH_PEER.MODE write of 1 turns PG_B on and PG_A off. -/
  | peerModeIn (r : Req)
  /-- PEER_MODE_OUT (R188): A PATH_PEER.MODE write of 2 starts the charger in reverse toward PEER_OUT when permitted. -/
  | peerModeOut (r : Req) (batAboveWarn : Bool)
  /-- PEER_OUT_ESTABLISHED (R188): Reverse current held for 1 ms with VSYS near V turns the battery switch off and PG_A on. -/
  | peerOutEstablished
  /-- PEER_OUT_UNDERVOLTAGE (R188): VSYS below 0.85 × V for 10 µs ends PEER_OUT and raises FS_42 with cause 7. -/
  | peerOutUndervoltage
  /-- LONG_PRESS (R190): SVC_N held for LPT opens the battery switch, disables the BAT leg and inhibits hand-over. -/
  | longPress (vinInside : Bool)
  /-- LONG_PRESS_END (R190): 300 ms after a long press the inhibition lifts and the battery switch may close again. -/
  | longPressEnd (supplyLost : Bool)
  /-- CONVERTER_WORD (R194): A converter completes a word that updates latest value, accumulator, tracker and queue, and ends or advances its visit. -/
  | converterWord (k : Fin 8) (code : Int)
  /-- URGENT_REQUEST (R204): An engine's MEAS_URG_REQ.GO queues an urgent conversion, or is refused when 4 wait. -/
  | urgentRequest (e : Fin 16) (ch : Fin 256)
  /-- SNAPSHOT_TAKE (R200): The TAKE operation captures all channel sums, counts and extremes into a buffer, or is refused while READY is 0. -/
  | snapshotTake (r : Req) (buf : Fin 4) (m : Option BusMsg := none)
  /-- SNAPSHOT_CLEAR (R200): The CLEAR operation clears the live accumulators and trackers of every channel. -/
  | snapshotClear (r : Req) (buf : Fin 4) (m : Option BusMsg := none)
  /-- SNAPSHOT_TAKE_CLEAR (R200): The TAKE_CLEAR operation captures and clears the live accumulators at the same instant. -/
  | snapshotTakeClear (r : Req) (buf : Fin 4) (m : Option BusMsg := none)
  /-- SNAPSHOT_READY (R200): Within 20 µs the new snapshot replaces the old one, SEQ increments and READY becomes 1. -/
  | snapshotReady (buf : Fin 4)
  /-- QUEUE_RELEASE (R203): An engine write of MEAS_Q_PTR.RD removes queue entries when OWNER is 1. -/
  | queueRelease (e : Fin 16) (rd : BitVec 12)
  /-- GRACE_EXPIRY (R215): A grace timer expires and the source requests its group shut-down or system reset, or enters the safe state. -/
  | graceExpiry (n : Fin 64)
  /-- IMMEDIATE_ESCALATION (R216): An immediate source escalates in the sequencer tick after its raise. -/
  | immediateEscalation (n : Fin 64)
  /-- FAULT_ACK (R214): A write of 1 to an FLT_ACK bit stops that source's running grace timer, or marks a late acknowledgement. -/
  | faultAck (r : Req) (n : Fin 64) (m : Option BusMsg := none)
  /-- FAULT_CLEAR (R218): A write of 1 to an FSTAT bit clears it unless its grace timer runs. -/
  | faultClear (r : Req) (n : Fin 64)
  /-- FAULT_INJECT (R225): An FLT_INJ write raises a source through the collector's path in FACTORY and RETURN, or is refused. -/
  | faultInject (r : Req) (n : Fin 64)
  /-- RESTART_COMMAND (R221): An accepted FLT_RESTART in the safe state writes a restart record and waits for the Ledger to drain. -/
  | restartCommand (r : Req) (m : Option BusMsg := none)
  /-- RESTART_DRAINED (R221): The Ledger is drained, the safe latch is cleared and the brown-out steps run before the start 10 ms later. -/
  | restartDrained
  /-- DIE_TEMP_WARNING (R325): A die rising above 135 °C raises FS_35. -/
  | dieTempWarning
  /-- DIE_TEMP_SHUTDOWN (R325): A die above 160 °C for 10 µs raises FS_36, which escalates at once to the safe state. -/
  | dieTempShutdown
  /-- ENGINE_INSTRUCTION (R226): An engine executes one instruction, with its accesses checked by the MPU and ECC. -/
  | engineInstruction (e : Fin 16) (errs : List EccErr := [])
  /-- SRAM_SCRUB (R228): The background scrubber reads an SRAM or TCM word and corrects or poisons it. -/
  | sramScrub (mem : EccMem) (addr : Nat) (err : EccErr)
  /-- INTERRUPT_TAKEN (R237): A pending source above threshold and running level interrupts the engine at the next instruction boundary. -/
  | interruptTaken (e : Fin 16)
  /-- EIC_CLAIM (R237): A read of EIC_CLAIM claims the highest-level qualifying source and pushes its level. -/
  | eicClaim (e : Fin 16)
  /-- EIC_COMPLETE (R237): A write of EIC_COMPLETE pops the claimed level and acknowledges a forwarded event, or sets BADCOMP. -/
  | eicComplete (e : Fin 16) (src : Byte)
  /-- LOCKSTEP_MISMATCH (R229): A lockstep mismatch halts the engine pair, raises FS_45 and releases its DMA, semaphores and interrupts. -/
  | lockstepMismatch (e : Fin 16)
  /-- TAKEOVER (R231): An ENG_TKO write by a permitted spare halts the spare and starts reloading it with the halted engine's program. -/
  | takeover (e : Fin 16) (frm : Fin 16)
  /-- TAKEOVER_RELEASE (R231): Within 150 µs the spare is released at the halted engine's entry with its resources. -/
  | takeoverRelease (e : Fin 16)
  /-- SEM_ACQUIRE (R233): A read of a free semaphore acquires it for the reader, and a read of a held one returns its holder. -/
  | semAcquire (r : Req) (n : Fin 64)
  /-- SEM_RELEASE (R233): A write of 0 by the holder releases the semaphore. -/
  | semRelease (r : Req) (n : Fin 64) (w : Word)
  /-- DMA_START (R236): START loads the descriptor and begins or resumes the transfer. -/
  | dmaStart (e : Fin 16) (c : Fin 32) (errs : List EccErr := [])
  /-- DMA_SUSPEND (R236): SUSPEND stops the transfer at the next beat boundary with state 3. -/
  | dmaSuspend (e : Fin 16) (c : Fin 32)
  /-- DMA_ABORT (R236): ABORT stops the transfer at the next beat boundary with state 6. -/
  | dmaAbort (e : Fin 16) (c : Fin 32)
  /-- DMA_BEAT (R235): A channel moves one beat, and at the end or on an error writes PROGRESS and raises its local source. -/
  | dmaBeat (c : Fin 32) (errs : List EccErr := [])
  /-- EVENT_FORWARD (R240): The forwarder delivers the lowest-numbered pending event to its engines and the link. -/
  | eventForward
  /-- FORWARD_TIMEOUT (R241): A forward not acknowledged within TACK is ended, counted as a miss and recorded. -/
  | forwardTimeout
  /-- SOFTWARE_EVENT_RAISE (R239): An EVT_RAISE write raises software event EV_076 to EV_095. -/
  | softwareEventRaise (r : Req) (sw : BitVec 5)
  /-- HOST_EVENT_CLEAR (R242): A host write of 1 clears EVT_PEND bits, releasing ALERT_N when none remains. -/
  | hostEventClear (mask : BitVec 128) (r : Req := .hostBus) (m : Option BusMsg := none)
  /-- DOORBELL (R237): An ENG_DOORBELL write sets the doorbell source pending in the target engines. -/
  | doorbell (e : Fin 16) (targets : BitVec 16)
  /-- TIMER_COMPARE_MATCH (R237): Hierarchy time reaching ENG_TCMP sets LS_162 pending. -/
  | timerCompareMatch (e : Fin 16)
  /-- WAITING_WRITE_PLACED (R251): A write that waited for a running or full-buffer commit takes its slot when the commit ends. -/
  | waitingWritePlaced
  /-- COMMIT_COMMAND (R252): The COMMIT command requests a Ledger commit. -/
  | commitCommand (r : Req)
  /-- COMMIT_AGE_EXPIRY (R252): The oldest buffered write reaching TAGE requests a commit. -/
  | commitAgeExpiry
  /-- COMMIT_GUARD_RELEASE (R252): VCC5 passing 4.30 V starts a commit held by the guard. -/
  | commitGuardRelease
  /-- COMMIT_END (R252): A commit finishes writing its pages, frees their slots and raises EV_064. -/
  | commitEnd
  /-- RECORD_READ (R255): A record read returns the valid copy with the higher generation, or the buffered value. -/
  | recordRead (r : Req) (rec : BitVec 9)
  /-- RECORD_SET (R256): A SET buffers a new record value for the older copy, or is refused. -/
  | recordSet (r : Req) (rec : BitVec 9) (value : BitVec 64)
  /-- RECORD_ADD (R256): An ADD buffers the record value plus an increment, saturating, or is refused. -/
  | recordAdd (r : Req) (rec : BitVec 9) (inc : Word)
  /-- LOG_RECORD_ADD (R259): An LEDG_LOG_CMD write queues an engine event-log record, or drops or refuses it. -/
  | logRecordAdd (r : Req) (code : Byte) (source : BitVec 16)
  /-- PAGE (R280): The PAGE command reads or selects the loop for paged commands. -/
  | page (m : BusMsg)
  /-- OPERATION (R280): The OPERATION command requests the page's rail on or off, or reads its request. -/
  | operation (m : BusMsg)
  /-- CLEAR_FAULTS (R281): The CLEAR_FAULTS command clears the page's latched status bits and STATUS_CML. -/
  | clearFaults (m : BusMsg)
  /-- CAPABILITY (R280): The CAPABILITY command returns 0xD0. -/
  | capability (m : BusMsg)
  /-- VOUT_MODE (R280): The VOUT_MODE command returns 0x14. -/
  | voutMode (m : BusMsg)
  /-- VOUT_COMMAND (R280): The VOUT_COMMAND command issues a host set-point command or returns the target. -/
  | voutCommand (m : BusMsg)
  /-- VOUT_MAX (R280): The VOUT_MAX command returns LOOP_VLIM.VMAX. -/
  | voutMax (m : BusMsg)
  /-- VOUT_TRANSITION_RATE (R280): The VOUT_TRANSITION_RATE command writes or reads LOOP_SLEW.RATE in linear11. -/
  | voutTransitionRate (m : BusMsg)
  /-- VOUT_MIN (R280): The VOUT_MIN command returns LOOP_VLIM.VMIN. -/
  | voutMin (m : BusMsg)
  /-- VOUT_OV_FAULT_LIMIT (R280): The VOUT_OV_FAULT_LIMIT command returns target plus OVM. -/
  | voutOvFaultLimit (m : BusMsg)
  /-- VOUT_UV_FAULT_LIMIT (R280): The VOUT_UV_FAULT_LIMIT command returns target minus UVM. -/
  | voutUvFaultLimit (m : BusMsg)
  /-- IOUT_OC_FAULT_LIMIT (R280): The IOUT_OC_FAULT_LIMIT command returns LOOP_ILIM_EFF in linear11. -/
  | ioutOcFaultLimit (m : BusMsg)
  /-- STATUS_BYTE (R281): The STATUS_BYTE command reads the low status byte or clears latched bits. -/
  | statusByte (m : BusMsg)
  /-- STATUS_WORD (R281): The STATUS_WORD command reads the status word, clearing BUSY, or clears latched bits. -/
  | statusWord (m : BusMsg)
  /-- STATUS_VOUT (R281): The STATUS_VOUT command reads or clears the page's voltage fault bits. -/
  | statusVout (m : BusMsg)
  /-- STATUS_IOUT (R281): The STATUS_IOUT command reads or clears the page's current bits. -/
  | statusIout (m : BusMsg)
  /-- STATUS_TEMPERATURE (R281): The STATUS_TEMPERATURE command reads or clears the page's temperature bits. -/
  | statusTemperature (m : BusMsg)
  /-- STATUS_CML (R281): The STATUS_CML command reads or clears the communication status bits. -/
  | statusCml (m : BusMsg)
  /-- STATUS_MFR_SPECIFIC (R281): The STATUS_MFR_SPECIFIC command reads or clears the page's manufacturer bits. -/
  | statusMfrSpecific (m : BusMsg)
  /-- READ_VIN (R280): The READ_VIN command returns CH_063's latest value in linear11. -/
  | readVin (m : BusMsg)
  /-- READ_VOUT (R280): The READ_VOUT command returns LOOP_VOUT. -/
  | readVout (m : BusMsg)
  /-- READ_IOUT (R280): The READ_IOUT command returns LOOP_IOUT in linear11. -/
  | readIout (m : BusMsg)
  /-- READ_TEMPERATURE_1 (R280): The READ_TEMPERATURE_1 command returns the hottest assigned phase of the page's loop. -/
  | readTemperature1 (m : BusMsg)
  /-- READ_TEMPERATURE_2 (R280): The READ_TEMPERATURE_2 command returns the hottest valid die-temperature channel. -/
  | readTemperature2 (m : BusMsg)
  /-- PMBUS_REVISION (R280): The PMBUS_REVISION command returns 0x44. -/
  | pmbusRevision (m : BusMsg)
  /-- MFR_ID (R280): The MFR_ID command returns MALTANIK. -/
  | mfrId (m : BusMsg)
  /-- MFR_MODEL (R280): The MFR_MODEL command returns DN8256. -/
  | mfrModel (m : BusMsg)
  /-- MFR_REVISION (R280): The MFR_REVISION command returns the revision bytes of Ledger page 0. -/
  | mfrRevision (m : BusMsg)
  /-- MFR_SERIAL (R280): The MFR_SERIAL command returns the serial bytes of Ledger page 0. -/
  | mfrSerial (m : BusMsg)
  /-- WIN_ADDR (R282): The WIN_ADDR command sets or reads the window address and read length. -/
  | winAddr (m : BusMsg)
  /-- WIN_DATA (R283): The WIN_DATA command reads or writes bytes at the window address and advances it. -/
  | winData (m : BusMsg)
  /-- Q_READ (R203): The Q_READ command returns whole queue entries, removed only when the transfer completes. -/
  | qRead (m : BusMsg)
  /-- Q_STATUS (R282): The Q_STATUS command returns MEAS_Q_STAT. -/
  | qStatus (m : BusMsg)
  /-- SNAP_READ (R282): The SNAP_READ_0 to SNAP_READ_3 commands return one channel of a snapshot buffer. -/
  | snapRead (buf : Fin 4) (m : BusMsg)
  /-- LATEST (R282): The LATEST command returns a channel's latest value and status. -/
  | latest (m : BusMsg)
  /-- EVT_PEND (R282): The EVT_PEND command returns the host pending bits. -/
  | evtPend (m : BusMsg)
  /-- FSTAT (R282): The FSTAT command returns FLT_STAT_LO and FLT_STAT_HI. -/
  | fstat (m : BusMsg)
  /-- WD_CHAL (R282): The WD_CHAL command returns the watchdog challenge. -/
  | wdChal (m : BusMsg)
  /-- PARAM_STAT (R282): The PARAM_STAT command returns the host-bus parameter status. -/
  | paramStat (m : BusMsg)
  /-- DIGEST (R282): The DIGEST command returns the digest, image version, SVN and load status. -/
  | digest (m : BusMsg)
  /-- SYS_INFO (R282): The SYS_INFO command returns status, causes, first fault and hierarchy time. -/
  | sysInfo (m : BusMsg)
  /-- RAIL_STATUS (R282): The RAIL_STATUS command returns a rail's status and counts. -/
  | railStatus (m : BusMsg)
  /-- MBOX_WRITE (R284): The MBOX_WRITE command places a message in the inbound mailbox and raises EV_066. -/
  | mboxWrite (m : BusMsg)
  /-- MBOX_READ (R284): The MBOX_READ command returns the outbound message, removed when the read completes. -/
  | mboxRead (m : BusMsg)
  /-- MBOX_INBOUND_RELEASE (R284): An engine write of INREL frees the inbound mailbox. -/
  | mboxInboundRelease (e : Fin 16)
  /-- MBOX_OUTBOUND_POST (R284): An engine write of OUTLEN posts an outbound message. -/
  | mboxOutboundPost (e : Fin 16) (len : BitVec 7)
  /-- UNKNOWN_COMMAND (R282): An unknown or reserved command code is refused at its command-code byte with STATUS_CML bit 7. -/
  | unknownCommand (code : Byte)
  /-- BUS_TRANSACTION_ABANDON (R267): A repeated START or STOP in place of an acknowledge or data bit abandons the transaction and raises FS_57. -/
  | busTransactionAbandon
  /-- BUS_TIMEOUT (R270): SCL low for more than 30 ms resets the bus interface. -/
  | busTimeout
  /-- HOST_NOTIFY (R275): A newly set pending bit, once the interval allows, sends a Host Notify to address 0x08. -/
  | hostNotify (lost : Bool)
  /-- ALERT_RESPONSE (R276): A read at 0x0C while ALERT_N is low returns the device's address. -/
  | alertResponse (lost : Bool) (acked : Bool := true)
  /-- CONTROLLER_RETRY (R273): After an arbitration loss and 50 µs of free bus the device retries its message. -/
  | controllerRetry (lost : Bool)
  /-- QUAD_WIN_READ (R286): A WIN_READ frame returns window data with status and CRC. -/
  | quadWinRead (addr : Word) (len : Nat) (q : QuadEnd)
  /-- QUAD_WIN_WRITE (R286): A WIN_WRITE frame writes window data when answered 0xA5 and QCS_N rises. -/
  | quadWinWrite (addr : Word) (data : List Byte) (q : QuadEnd)
  /-- QUAD_Q_READ (R203): A Q_READ frame returns up to N queue entries, removed when the frame ends with a valid CRC. -/
  | quadQRead (n : Nat) (q : QuadEnd)
  /-- QUAD_STATUS (R286): A STATUS frame returns QP_STATUS and QP_CNT. -/
  | quadStatus (q : QuadEnd)
  /-- QUAD_BANK_STORE_DONE (R286): An inactive-bank write frame is stored within 150 µs of its end. -/
  | quadBankStoreDone
  /-- LINK_BRINGUP_BURST (R289): A port not up sends a comma burst at its randomised interval. -/
  | linkBringupBurst (p : Fin 4)
  /-- LINK_UP (R289): A burst answered by the peer brings the link up with a window master. -/
  | linkUp (p : Fin 4) (first : Bool)
  /-- LINK_DOWN (R290): Missing commas for 44 µs or 16 failed frames take the port down and raise FS_53. -/
  | linkDown (p : Fin 4)
  /-- HELLO_TIMER (R292): Every 100 ms an up port sends HELLO. -/
  | helloTimer (p : Fin 4)
  /-- HELLO (R292): A received HELLO sets the peer's depth, chooses the upstream port and blocks redundant ports. -/
  | hello (p : Fin 4) (role depth devPin dev : Byte) (hash : BitVec 64) (toManager : Bool) (f : Option FrameId := none) (hops : Nat := 0)
  /-- ASSIGN (R293): A received ASSIGN joins the WORKER with its number and depth. -/
  | assign (f : FrameId) (hash : BitVec 64) (dev depth : Byte)
  /-- TSYNC_TIMER (R294): Every 1 ms a joined WORKER sends TSYNC_REQ to its upstream peer. -/
  | tsyncTimer
  /-- TSYNC_REQ (R294): A parent receiving TSYNC_REQ records t2 and answers with TSYNC_RSP. -/
  | tsyncReq (p : Fin 4) (f : Option FrameId := none) (t3 : Option (BitVec 64) := none)
  /-- TSYNC_RSP (R295): A child computes offset and delay and steps or slews its time. -/
  | tsyncRsp (t1 t2 t3 t4 : Int) (f : Option FrameId := none)
  /-- ALIGNMENT_TIMEOUT (R295): 20 ms without a completed exchange raises FS_54 and returns the WORKER to ACQUIRE. -/
  | alignmentTimeout
  /-- STATUS_FRAME (R297): A received status frame updates a remote rail line and is relayed. -/
  | statusFrame (p : Fin 4) (dev rs chk : Byte)
  /-- RVEC_TIMER (R296): Every 10 ms an RVEC is sent for every device whose vector the device holds. -/
  | rvecTimer
  /-- RVEC (R297): A received RVEC updates that device's remote lines at its end and is relayed. -/
  | rvec (p : Fin 4) (dev : Byte) (vec : BitVec 64) (newer : BitVec 64) (f : Option FrameId := none)
  /-- REMOTE_STATUS_STALE (R297): No status from a device for 30 ms sets its remote lines to 0. -/
  | remoteStatusStale (dev : Fin 64)
  /-- EVENT_FRAME (R299): A received EVENT enters LINK_RXEV, is recorded and raises EV_068. -/
  | eventFrame (f : FrameId) (ev : Fin 128) (raised : BitVec 64)
  /-- ACK_FRAME (R301): A received ACK completes its frame and fills LINK_TX_ACK. -/
  | ackFrame (src : Byte) (seq : BitVec 16) (result : Byte) (data : List Byte) (f : Option FrameId := none)
  /-- FRAME_RESEND (R291): A frame unacknowledged for 2 ms is resent, up to 8 sends. -/
  | frameResend (seq : BitVec 16)
  /-- PROBE_TIMER (R303): Every PPER ms the MANAGER broadcasts PROBE. -/
  | probeTimer
  /-- PROBE (R303): A received PROBE is answered with epoch and digest. -/
  | probe (src : Byte) (epoch : Word) (pper : BitVec 16) (f : Option FrameId := none)
  /-- ANSWER (R303): The MANAGER judges an answer against LINK_EXP and raises FS_55 on mismatch. -/
  | answer (dev : Fin 64) (epoch : Word) (digest : BitVec 64) (f : Option FrameId := none)
  /-- PROBE_MISSING (R303): No PROBE for 3 × PPER raises FS_55 at the WORKER. -/
  | probeMissing
  /-- MISMATCH (R303): A received MISMATCH raises FS_55 at the WORKER. -/
  | mismatch (f : FrameId) (epoch : Word) (expected : BitVec 64)
  /-- PARAM_FRAME (R300): A received PARAM is a parameter write from the hierarchy link, acknowledged with result and digest. -/
  | paramFrame (f : FrameId) (id : BitVec 12) (value : Word) (persist : Bool)
  /-- BANK_WR (R300): A received BANK_WR writes the inactive bank, or is refused. -/
  | bankWr (f : FrameId) (off : Word) (data : List Byte)
  /-- VERIFY_FRAME (R300): A received VERIFY runs VERIFY_STAGED and acknowledges the result and predicted digest. -/
  | verifyFrame (f : FrameId)
  /-- SWITCH_AT (R305): A received SWITCH_AT is accepted, setting SWITCH_PEND, or refused with a cause. -/
  | switchAt (f : FrameId) (t : BitVec 64) (epoch : Word)
  /-- GO (R306): A received GO commits the target to switch at T. -/
  | go (f : FrameId) (epoch : Word)
  /-- CANCEL (R306): A received CANCEL before T cancels the switch. -/
  | cancel (f : FrameId) (epoch : Word)
  /-- SWITCH_SELF_CANCEL (R306): A target holding no GO at T − 1 ms cancels itself with cause 7. -/
  | switchSelfCancel
  /-- GO_LEAD_REACHED (R306): At T − GOLEAD the MANAGER sends GO when every target has accepted, and CANCEL otherwise. -/
  | goLeadReached
  /-- LINK_CMD_PARK (R300): A COMMAND frame with code 0x01 is a power command to park. -/
  | linkCmdPark (f : FrameId)
  /-- LINK_CMD_FLACON (R300): A COMMAND frame with code 0x02 is a power command to flacon. -/
  | linkCmdFlacon (f : FrameId) (vinAbove6 : Bool)
  /-- LINK_CMD_RESTART (R300): A COMMAND frame with code 0x03 is the restart command. -/
  | linkCmdRestart (f : FrameId)
  /-- LINK_CMD_SELECT_STAGED (R300): A COMMAND frame with code 0x04 is SELECT_STAGED. -/
  | linkCmdSelectStaged (f : FrameId)
  /-- RD_FRAME (R300): A received RD reads register, trace or Ledger space and is answered with RDATA. -/
  | rdFrame (f : FrameId) (addr : Word) (len : Nat)
  /-- WR_FRAME (R300): A received WR writes register or Ledger space when RMW permits. -/
  | wrFrame (f : FrameId) (addr : Word) (data : List Byte)
  /-- RDATA (R300): A received RDATA places the read data in LINK_TX_BUF. -/
  | rdata (src : Byte) (addr : Word) (data : List Byte) (f : Option FrameId := none)
  /-- PDONE (R302): A received PDONE lets the MANAGER send the next cascaded COMMAND. -/
  | pdone (f : FrameId) (dest : Byte)
  /-- CASCADE_WAIT_EXPIRY (R302): TWAIT passing without PDONE lets the MANAGER send the next cascaded COMMAND. -/
  | cascadeWaitExpiry
  /-- LINK_TX_PARAM (R300): A LINK_TX_CMD of type 0x0B sends PARAM from the MANAGER. -/
  | linkTxParam (e : Fin 16) (dst : Byte) (len : BitVec 9)
  /-- LINK_TX_BANK_WR (R300): A LINK_TX_CMD of type 0x0C sends BANK_WR. -/
  | linkTxBankWr (e : Fin 16) (dst : Byte) (len : BitVec 9)
  /-- LINK_TX_VERIFY (R300): A LINK_TX_CMD of type 0x0D sends VERIFY. -/
  | linkTxVerify (e : Fin 16) (dst : Byte) (len : BitVec 9)
  /-- LINK_TX_COMMAND (R300): A LINK_TX_CMD of type 0x11 sends COMMAND. -/
  | linkTxCommand (e : Fin 16) (dst : Byte) (len : BitVec 9)
  /-- LINK_TX_RD (R300): A LINK_TX_CMD of type 0x12 sends RD. -/
  | linkTxRd (e : Fin 16) (dst : Byte) (len : BitVec 9)
  /-- LINK_TX_WR (R300): A LINK_TX_CMD of type 0x13 sends WR. -/
  | linkTxWr (e : Fin 16) (dst : Byte) (len : BitVec 9)
  /-- SWITCH_ARM (R305): ARM at the MANAGER sends SWITCH_AT with the next epoch to every target. -/
  | switchArm (r : Req)
  /-- SWITCH_CANCEL (R306): CANCEL at the MANAGER sends CANCEL to every target. -/
  | switchCancel (r : Req)
  /-- ORPHAN_DETECT (R308): TDET after the upstream port goes down with no route, the orphan policy applies. -/
  | orphanDetect
  /-- ORPHAN_PARK (R308): TPD after orphan detection under policy park, a power-down to park is commanded. -/
  | orphanPark
  /-- RXEV_READ (R299): A read of LINK_RXEV returns and removes the oldest received event. -/
  | rxevRead (r : Req)
  /-- TRACE_WRITE (R311): A LINK_TRC_WR_CMD write adds an engine or host record, or refuses a low SOURCE. -/
  | traceWrite (r : Req) (code source : BitVec 16)
  /-- TRACE_UNFREEZE (R310): UNFREEZE resumes writing of a frozen trace. -/
  | traceUnfreeze (r : Req)
  /-- SLICE_INSTANT (R313): At each slice instant each domain starts its next eligible slice, or counts a deferral. -/
  | sliceInstant
  /-- SLICE_END (R315): A slice ends with a pass, a single failure to repeat, or a confirmed failure that raises its source. -/
  | sliceEnd (dom : Fin 3) (pass : Bool)
  /-- DRYDOWN_START (R316): A commanded power-down with every rail off begins drydown. -/
  | drydownStart (tj : Int)
  /-- DRYDOWN_CHECKS_DONE (R318): Drydown finishes its items and writes the drydown record for commit. -/
  | drydownChecksDone (fails : List Check) (duration : Nat)
  /-- BIST_RUN_SLICE (R321): A BIST_CMD run-slice runs one slice on one resource in FACTORY or RETURN. -/
  | bistRunSlice (r : Req) (code index : Byte) (pass : Bool)
  /-- BIST_RUN_DRYDOWN (R321): A BIST_CMD run-drydown runs drydown with every rail off and reports in BIST_CMDRES. -/
  | bistRunDrydown (r : Req) (fails : List Check)
  /-- REGISTER_WRITE (R7): A write to a register without behaviour of its own updates it by its access code, or is ignored. -/
  | registerWrite (r : Req) (addr : Word) (w : Word)
  /-- TOP_NOTE_DOMAIN_UP (R50): The house rails and LDOs reach their windows and REF100 and the three PLLs lock (t2 to t5 of Table 3.3): IO and AN balls take their configuring levels, top-note clocks run, the clock monitors arm and the fault collector starts. -/
  | topNoteDomainUp
  /-- CELL_UPSET (R27): A single-event upset flips a configuration cell of a tile, to be corrected or to freeze the tile when the scrubber next reads its frame. -/
  | cellUpset (tile : Fin 4096) (cell : Fin 8192)
  /-- TAP_OPERATION (R42): The IEEE 1149.1 test access port is clocked in FACTORY or RETURN, shifting instructions and data and, under a boundary-scan instruction, driving the digital balls of domains IO and BN. -/
  | tapOperation (op : TapOp)
  /-- PIN_STATE_LINE_CHANGE (R43): A ball level reported on IN_0896 to IN_0940 (WAKE_n, SVC_N, SYNC_IN, RSTO, FLT_N, SAFE_N, GP or ALERT_N readback, link activity) changes and the fabric re-evaluates its dependent logic. -/
  | pinStateLineChange (line : Fin 45) (level : Bool)
  /-- HIERARCHY_TIME_BIT_EDGE (R43): One of hierarchy-time bits 10 to 41 toggles on IN_0960 to IN_0991 and can start tile timers or change fabric logic. -/
  | hierarchyTimeBitEdge (k : Fin 32)
  /-- VCC5_OV_RECOVER (R48): VCC5 falling below 5.20 V after an over-voltage stop lets HB5 resume switching. -/
  | vcc5OvRecover
  /-- PARK_VIN_UVLO_CHANGE (R59): In park, VIN falling below UVLO enables the BAT leg so the base-note domain runs from BAT, and VIN returning above UVLO disables the leg again. -/
  | parkVinUvloChange (below batAbove5 : Bool)
  /-- SWITCHING_CYCLE_END (R101): A phase's switching cycle ends: its samples update PH_IOUT and PH_IPV, OPENCNT and the flux and range counts advance or reset, and the loop's offset ramp and period bookkeeping move on. -/
  | switchingCycleEnd (p : Fin 48) (c : CycleSamples)
  /-- TMF_READING (R102): Every 10 µs a phase port reads TMF_nn, updates PH_TEMP and TMAX, and advances or resets the warning, warning-end and hot counts. -/
  | tmfReading (p : Fin 48) (mv : Nat)
  /-- VIN_EXCURSION (R174): An unfiltered LOW or HIGH comparator on VIN_SNS goes outside or returns, restarting the VIN-stable count and abandoning a RETURN in progress. -/
  | vinExcursion (outside : Bool)
  /-- VSYS_OK_CHANGE (R191): VSYS_SNS crosses PATH_VSYS.VOK, changing VSYS_OK on IN_0490, which the Accord uses in its rails' fabric terms. -/
  | vsysOkChange (ok : Bool)
  /-- SVC_N_CHANGE (R190): SVC_N falls, starting the long-press timer after its 20 ms debounce, or is released, stopping the timer and timing the 100 ms release that another long press needs. -/
  | svcNChange (low : Bool)
  /-- DIE_TEMP_COOL (R325): Both dies falling below 130 °C re-arm the die-temperature warning so that FS_35 can be raised again. -/
  | dieTempCool
  deriving DecidableEq, Repr

end Sys2Proof
end

