-- ==== Sys2Proof/Decode.lean ====
section
/-! DEFINITION.  The command a word of the opcode table spells.  Every row of spec/opcode_table.json gives no bits
(`fields` is empty, no width), so no word spells a command. -/

namespace Sys2Proof

/-- The command that a word of `nbits` bits spells by the bits of spec/opcode_table.json: none, since no row of
the table has bits. -/
def decodeTableWord (_nbits _w : Nat) : Option Instr := none

end Sys2Proof
end

