-- ==== Sys2Proof/Machine/Crypto.lean ====
section
/-! DEFINITION.  The check codes and signatures the spec names: CRC-32 (R11), CRC-16/CCITT (R258),
CRC-8 (R266), SHA-256 and ECDSA over P-256 (R11, R63).  The constants of SHA-256 and P-256 are those
of the standards the spec names. -/

namespace Sys2Proof.Machine

/-! ## Cyclic redundancy checks -/

/-- One bit step of the reflected CRC-32 of IEEE 802.3. -/
def crc32Bit (c : BitVec 32) : BitVec 32 :=
  if c.getLsbD 0 then (c >>> 1) ^^^ 0xEDB88320#32 else c >>> 1

/-- One byte step of CRC-32. -/
def crc32Byte (c : BitVec 32) (b : Byte) : BitVec 32 :=
  let x := c ^^^ b.setWidth 32
  crc32Bit (crc32Bit (crc32Bit (crc32Bit (crc32Bit (crc32Bit (crc32Bit (crc32Bit x)))))))

/-- The CRC-32 of R11: initial value all ones, final inversion. -/
def crc32 (l : List Byte) : BitVec 32 := ~~~(l.foldl crc32Byte 0xFFFFFFFF#32)

/-- One bit step of a left-shifting CRC-16 with polynomial 0x1021. -/
def crc16Bit (c : BitVec 16) : BitVec 16 :=
  if c.getLsbD 15 then (c <<< 1) ^^^ 0x1021#16 else c <<< 1

/-- One byte step of CRC-16/CCITT. -/
def crc16Byte (c : BitVec 16) (b : Byte) : BitVec 16 :=
  let x := c ^^^ (b.setWidth 16 <<< 8)
  crc16Bit (crc16Bit (crc16Bit (crc16Bit (crc16Bit (crc16Bit (crc16Bit (crc16Bit x)))))))

/-- The CRC-16/CCITT of R258: initial 0xFFFF, no reflection, no final inversion. -/
def crc16 (l : List Byte) : BitVec 16 := l.foldl crc16Byte 0xFFFF#16

/-- One bit step of CRC-8 with polynomial 0x07. -/
def crc8Bit (c : BitVec 8) : BitVec 8 := if c.msb then (c <<< 1) ^^^ 0x07#8 else c <<< 1

/-- One byte step of CRC-8. -/
def crc8Byte (c : BitVec 8) (b : Byte) : BitVec 8 :=
  crc8Bit (crc8Bit (crc8Bit (crc8Bit (crc8Bit (crc8Bit (crc8Bit (crc8Bit (c ^^^ b))))))))

/-- The CRC-8 of the SMBus PEC (R120, R266): initial 0x00, no reflection, no final inversion. -/
def crc8 (l : List Byte) : BitVec 8 := l.foldl crc8Byte 0x00#8

/-! ## SHA-256 -/

/-- Whether `n` is a prime, for small `n`: no number from 2 on divides it. -/
def smallPrime (n : Nat) : Bool := 2 ≤ n && (List.range (n - 2)).all (fun i => n % (i + 2) ≠ 0)

/-- The first 64 primes: those up to 311. -/
def firstPrimes : List Nat := (List.range 312).filter smallPrime

/-- The largest number below `b + 2 ^ k` and from `b` on whose power `e` is at most `x`. -/
def rootFloor (e x : Nat) : (k : Nat) → (b : Nat) → Nat
  | 0, b => b
  | k + 1, b => rootFloor e x k (if (b + 2 ^ k) ^ e ≤ x then b + 2 ^ k else b)

/-- The first 32 bits of the fraction of the root of degree `e` of `n`. -/
def rootBits (e n : Nat) : Word := BitVec.ofNat 32 (rootFloor e (n * 2 ^ (32 * e)) 38 0)

/-- The 64 round constants of SHA-256: from the cube roots of the first 64 primes. -/
def shaRoundWords : List Word := firstPrimes.map (rootBits 3)

/-- The initial hash value of SHA-256: from the square roots of the first eight primes. -/
def shaInit : List Word := (firstPrimes.take 8).map (rootBits 2)

/-- The exclusive or of a word turned right by each of a list of amounts. -/
def turned (x : Word) (l : List Nat) : Word := l.foldl (fun y n => y ^^^ x.rotateRight n) 0#32

/-- One round over the eight working words, with `kw` the sum of the round's constant and schedule word. -/
def shaRound : List Word → Word → List Word
  | [a, b, c, d, e, f, g, h], kw =>
    let up := h + turned e [6, 11, 25] + (g ^^^ (e &&& (f ^^^ g))) + kw
    [up + turned a [2, 13, 22] + ((a &&& (b ||| c)) ||| (b &&& c)), a, b, c, d + up, e, f, g]
  | v, _ => v

/-- The next word of the message schedule from the last sixteen, newest first. -/
def shaNext (w : List Word) : Word :=
  let near := w.getD 1 0
  let far := w.getD 14 0
  (turned near [17, 19] ^^^ (near >>> 10)) + w.getD 6 0 + (turned far [7, 18] ^^^ (far >>> 3)) + w.getD 15 0

/-- `n` more words of the schedule, newest first. -/
def shaSchedule : Nat → List Word → List Word
  | 0, w => w
  | n + 1, w => shaSchedule n (shaNext w :: w)

/-- One block: sixteen big-endian words. -/
def shaBlock (v ws : List Word) : List Word :=
  let kws := List.zipWith (· + ·) shaRoundWords (shaSchedule 48 ws.reverse).reverse
  List.zipWith (· + ·) v (kws.foldl shaRound v)

/-- The big-endian words of a list of bytes. -/
def beWords : List Byte → List Word
  | a :: b :: c :: d :: r => (a ++ b ++ c ++ d : BitVec 32) :: beWords r
  | _ => []

/-- The padding of a message of `n` bytes. -/
def shaPad (n : Nat) : List Byte :=
  0x80#8 :: (List.replicate ((119 - n % 64) % 64) 0#8 ++ (leBytes 8 (8 * n)).reverse)

/-- Hash of whole blocks, `k` of them. -/
def shaBlocks : Nat → List Word → List Word → List Word
  | 0, v, _ => v
  | k + 1, v, ws => shaBlocks k (shaBlock v (ws.take 16)) (ws.drop 16)

/-- SHA-256 of a list of bytes, as 32 bytes. -/
def sha256 (l : List Byte) : List Byte :=
  let m := l ++ shaPad l.length
  (shaBlocks (m.length / 64) shaInit (beWords m)).flatMap (fun w => (leBytes 4 w.toNat).reverse)

/-! ## ECDSA over P-256 -/

/-- The prime of the field of P-256. -/
def p256P : Nat := 0xFFFFFFFF00000001000000000000000000000000FFFFFFFFFFFFFFFFFFFFFFFF

/-- The order of the group of P-256. -/
def p256N : Nat := 0xFFFFFFFF00000000FFFFFFFFFFFFFFFFBCE6FAADA7179E84F3B9CAC2FC632551

/-- The coefficient b of P-256. -/
def p256B : Nat := 0x5AC635D8AA3A93E7B3EBBD55769886BC651D06B0CC53B0F63BCE3C3E27D2604B

/-- The base point of P-256. -/
def p256G : Nat × Nat :=
  (0x6B17D1F2E12C4247F8BCE6E563A440F277037D812DEB33A0F4A13945D898C296,
   0x4FE342E2FE1A7F9B8EE7EB4A7C0F9E162BCE33576B315ECECBB6406837BF51F5)

/-- `b ^ e mod m`, over `fuel` bits of `e`, times `acc`. -/
def powMod (m : Nat) : (fuel : Nat) → (b e acc : Nat) → Nat
  | 0, _, _, acc => acc
  | k + 1, b, e, acc => powMod m k (b * b % m) (e / 2) (if e % 2 = 1 then acc * b % m else acc)

/-- The inverse modulo a prime of 256 bits. -/
def invMod (m a : Nat) : Nat := powMod m 256 (a % m) (m - 2) 1

/-- The sum of two points of P-256; `none` is the point at infinity. -/
def p256Add : Option (Nat × Nat) → Option (Nat × Nat) → Option (Nat × Nat)
  | none, q => q
  | q, none => q
  | some (x1, y1), some (x2, y2) =>
    let p := p256P
    if x1 = x2 ∧ (y1 + y2) % p = 0 then none
    else
      let l := if x1 = x2
        then (3 * x1 * x1 + (p - 3)) * invMod p (2 * y1) % p
        else ((y2 + p - y1) % p) * invMod p ((x2 + p - x1) % p) % p
      let x3 := (l * l + 2 * p - x1 - x2) % p
      some (x3, (l * ((x1 + p - x3) % p) + p - y1) % p)

/-- `k` times the point `q`, over `fuel` bits, added to `acc`. -/
def p256Mul : (fuel : Nat) → Nat → Option (Nat × Nat) → Option (Nat × Nat) → Option (Nat × Nat)
  | 0, _, _, acc => acc
  | n + 1, k, q, acc =>
    p256Mul n (k / 2) (p256Add q q) (if k % 2 = 1 then p256Add acc q else acc)

/-- Whether a point lies on P-256. -/
def p256On (q : Nat × Nat) : Bool :=
  decide (q.1 < p256P) && decide (q.2 < p256P) &&
  decide (q.2 * q.2 % p256P = (q.1 * q.1 * q.1 + (p256P - 3) * q.1 + p256B) % p256P)

/-- Whether the 64-byte signature `sig` (r then s, big-endian) of a 32-byte digest is valid for the
64-byte public key `pub` (X then Y, big-endian). -/
def ecdsaOk (pub sig digest : List Byte) : Bool :=
  let r := bytesBE (sig.take 32)
  let s := bytesBE ((sig.drop 32).take 32)
  let q := (bytesBE (pub.take 32), bytesBE ((pub.drop 32).take 32))
  let n := p256N
  if r = 0 ∨ n ≤ r ∨ s = 0 ∨ n ≤ s ∨ p256On q = false then false
  else
    let w := invMod n s
    let u1 := bytesBE digest * w % n
    let u2 := r * w % n
    match p256Add (p256Mul 256 u1 (some p256G) none) (p256Mul 256 u2 (some q) none) with
    | none => false
    | some (x, _) => x % n = r

end Sys2Proof.Machine
end

