-- ==== Sys2Proof/Config.lean ====
section
/-! DEFINITION.  What the spec leaves open: constants without a body, so that no proof can see a
value of them.  A free value is applied to the operands it depends on or to the plain counter
`State.freeCount`. -/

namespace Sys2Proof.Config

/-- A value of the device's noise source (R63): a fresh 64-bit nonce for each index. -/
opaque nonce : Nat → BitVec 64

/-- The state from which the watchdog's free-running LFSR runs in a start, for each index: R161 gives the generator and
no starting state. -/
opaque lfsr : Nat → BitVec 16

/-- The voltage at a ball in millivolts, each time it is looked at: an input of the device that no command carries.
Balls: 0 VIN, 1 VIN_SNS, 2 BAT, 3 BAT_SNS. -/
opaque ballMv : (ball look : Nat) → Int

/-- The 64 state bits of a tile after its logic has run, for each index: the spec gives no encoding of the routing
cells (Table 1.6). -/
opaque tileBits : Nat → BitVec 64

/-- A bit that TDO shifts out, by the index of the shift and the bit's place: the spec gives the port and no content
of its registers (R41, R42). -/
opaque tapBit : (shift place : Nat) → Bool

/-- The boundary-scan cell that sets a digital ball (R42: the spec gives no order of the cells). -/
opaque scanCell : (ball : Nat) → Nat

/-- A 32-bit value the spec does not state, for each index. -/
opaque freeWord : Nat → Word

/-- A byte the spec does not state, for each index. -/
opaque freeByte : Nat → Byte

/-- The bytes of a block the spec does not state, by the block's index and the place of the byte. -/
opaque freeBlock : (k place : Nat) → Byte

/-- The register words a RAIL_TOPOLOGY, DEPENDENCY, FAULT_MAP or BLOCK_CONFIG section of type `ty` and
these bytes gives (the spec names the sections' content and not their byte layout). -/
opaque sectionRegs : (ty : Nat) → List Byte → List (Nat × Word)

/-- Whether such a section is well laid out, where the spec states no layout to judge. -/
opaque sectionLayoutOk : (ty : Nat) → List Byte → Bool

/-- The connections of a cell stream from tile outputs to action lines, as tile, output and line: the spec gives no
encoding of the routing cells (Table 1.6). -/
opaque tileOutputs : List Byte → List (Nat × Nat × Nat)

/-- The code that the calibration pages of the Ledger, given as number and bytes, make of a converter's code at a gain
code: R195 and R248 name the pages and no layout. -/
opaque calibrate : (k g : Nat) → List (Nat × List Byte) → Int → Int

/-- The die temperature in 0.01 °C that a converter code of a TD channel gives: R195 and Table 10.2 give
the range and not the scale. -/
opaque dieTemp : Int → Int

/-- An integer the spec does not state, for each index. -/
opaque freeInt : Nat → Int

/-- What the CODE of a kind of sillage record is drawn from where no rule states it. -/
opaque recordDraw : Nat → Nat

/-- The draw for kind `k` as a 16-bit CODE that is none of those used already. -/
def freshCode (used : List Nat) (k : Nat) : Nat :=
  (used.mergeSort (fun a b => decide (a ≤ b))).foldl (fun c u => if u ≤ c then c + 1 else c) (recordDraw k % (65536 - used.length))

/-- The CODEs of the kinds `ks` of one SOURCE after those that the spec gives there: each has its own (R334). -/
def sourceCodes (given ks : List Nat) : List Nat := ks.foldl (fun l k => l ++ [freshCode l k]) given

/-- The CODE of a kind of sillage record whose CODE no rule states: 1 survey burst (R114); 2 open input found, 3 open
input ended (R206), 4 cross-check (R208); 5 to 8 those of a load-intent link (R119 to R128), beside the host write 0x0001;
9 lockstep mismatch (R229), 10 missed event (R240); 11 a slice passed on its repeat (R315), beside 0x0001 to 0x0003.  Each
kind has its own within its SOURCE (R334). -/
def recordCode (k : Nat) : Nat :=
  let from_ := fun (lo : Nat) => (List.range (k + 1 - lo)).map (fun i => lo + i)
  if 2 ≤ k ∧ k ≤ 4 then (sourceCodes [] (from_ 2)).getLastD 0
  else if 5 ≤ k ∧ k ≤ 8 then (sourceCodes [1] (from_ 5)).getLastD 0
  else if 9 ≤ k ∧ k ≤ 10 then (sourceCodes [] (from_ 9)).getLastD 0
  else if k = 11 then (sourceCodes [1, 2, 3] [11]).getLastD 0
  else recordDraw k % 65536

/-- The DATA of such a record where no rule states it, for each kind and instance. -/
opaque recordData : Nat → Nat → Nat

/-- The digest of the factory-default Accord (R15, R24: the ROM's content is not given). -/
opaque romDigest : BitVec 64

/-- The words ACRD_VERSION, ACRD_SVN, ACRD_BOUND and ACRD_TOPO report of the factory-default Accord. -/
opaque romWord : Nat → Word

/-- Whether a test instruction is a boundary-scan instruction that drives balls (R42: the spec gives no codes). -/
opaque tapDrives : Byte → Bool

/-- The serial hash of HELLO and ASSIGN (Table 15.1: the spec names it and gives no function), of the serial bytes. -/
opaque serialHash : List Byte → BitVec 64

/-- The read-only machine CSRs of an engine whose values R226 does not state (misa, mvendorid, marchid, mimpid),
by CSR number. -/
opaque engineCsr : Nat → Word

end Sys2Proof.Config
end

