-- ==== Sys2Proof/Machine/RegNames.lean ====
section
/-! DEFINITION.  The name of every register of the spec and of every field of it: the storage key of
the register (its address; a register kept in one copy per requester or engine adds 2^32 times the
code of the copy) and the place of the field, from the register tables of spec/01 to spec/16. -/

namespace Sys2Proof.Machine.R

/-! Registers of spec/01_accord.md. -/

/-- ACRD_STATUS, ACRD block, spec/01_accord.md: Reports the load, bank and fabric state. -/
def ACRD_STATUS.reg : Nat := 0x400D0000
def ACRD_STATUS.VCAUSE : Field := ⟨ACRD_STATUS.reg, 20, 3⟩
def ACRD_STATUS.VDONE : Field := ⟨ACRD_STATUS.reg, 19, 1⟩
def ACRD_STATUS.BLANK_A : Field := ⟨ACRD_STATUS.reg, 18, 1⟩
def ACRD_STATUS.BLANK_B : Field := ⟨ACRD_STATUS.reg, 17, 1⟩
def ACRD_STATUS.STAGED_OK : Field := ⟨ACRD_STATUS.reg, 16, 1⟩
def ACRD_STATUS.SWITCH_PEND : Field := ⟨ACRD_STATUS.reg, 15, 1⟩
def ACRD_STATUS.HOLD : Field := ⟨ACRD_STATUS.reg, 14, 1⟩
def ACRD_STATUS.FROZEN_ANY : Field := ⟨ACRD_STATUS.reg, 13, 1⟩
def ACRD_STATUS.RELOAD_BUSY : Field := ⟨ACRD_STATUS.reg, 12, 1⟩
def ACRD_STATUS.RELOAD_ERR : Field := ⟨ACRD_STATUS.reg, 11, 1⟩
def ACRD_STATUS.FALLBACK : Field := ⟨ACRD_STATUS.reg, 10, 1⟩
def ACRD_STATUS.DEFAULTS_IN_USE : Field := ⟨ACRD_STATUS.reg, 9, 1⟩
def ACRD_STATUS.LOADED : Field := ⟨ACRD_STATUS.reg, 8, 1⟩
def ACRD_STATUS.ACTIVE : Field := ⟨ACRD_STATUS.reg, 6, 2⟩
def ACRD_STATUS.CAUSE_A : Field := ⟨ACRD_STATUS.reg, 3, 3⟩
def ACRD_STATUS.CAUSE_B : Field := ⟨ACRD_STATUS.reg, 0, 3⟩

/-- ACRD_CTRL, ACRD block, spec/01_accord.md: Issues loader commands. -/
def ACRD_CTRL.reg : Nat := 0x400D0004
def ACRD_CTRL.KEY : Field := ⟨ACRD_CTRL.reg, 24, 8⟩
def ACRD_CTRL.BANK : Field := ⟨ACRD_CTRL.reg, 4, 1⟩
def ACRD_CTRL.CMD : Field := ⟨ACRD_CTRL.reg, 0, 4⟩

/-- ACRD_VERSION, ACRD block, spec/01_accord.md: Reports the running image's version. -/
def ACRD_VERSION.reg : Nat := 0x400D0008
def ACRD_VERSION.IMAGE_VERSION : Field := ⟨ACRD_VERSION.reg, 0, 32⟩

/-- ACRD_SVN, ACRD block, spec/01_accord.md: Reports security versions. -/
def ACRD_SVN.reg : Nat := 0x400D000C
def ACRD_SVN.FLOOR : Field := ⟨ACRD_SVN.reg, 16, 16⟩
def ACRD_SVN.SVN : Field := ⟨ACRD_SVN.reg, 0, 16⟩

/-- ACRD_DIGEST_LO, ACRD block, spec/01_accord.md: Report the Accord digest (R24). -/
def ACRD_DIGEST_LO.reg : Nat := 0x400D0010
def ACRD_DIGEST_LO.DIGEST : Field := ⟨ACRD_DIGEST_LO.reg, 0, 32⟩

/-- ACRD_DIGEST_HI, ACRD block, spec/01_accord.md: Report the Accord digest (R24). -/
def ACRD_DIGEST_HI.reg : Nat := 0x400D0014
def ACRD_DIGEST_HI.DIGEST : Field := ⟨ACRD_DIGEST_HI.reg, 0, 32⟩

/-- ACRD_TOPO_LO, ACRD block, spec/01_accord.md: Report TOPO_SIG. -/
def ACRD_TOPO_LO.reg : Nat := 0x400D0018
def ACRD_TOPO_LO.TOPO : Field := ⟨ACRD_TOPO_LO.reg, 0, 32⟩

/-- ACRD_TOPO_HI, ACRD block, spec/01_accord.md: Report TOPO_SIG. -/
def ACRD_TOPO_HI.reg : Nat := 0x400D001C
def ACRD_TOPO_HI.TOPO : Field := ⟨ACRD_TOPO_HI.reg, 0, 32⟩

/-- ACRD_BOUND, ACRD block, spec/01_accord.md: Reports the stated reaction bound. -/
def ACRD_BOUND.reg : Nat := 0x400D0020
def ACRD_BOUND.BOUND_NS : Field := ⟨ACRD_BOUND.reg, 0, 16⟩

/-- ACRD_JOURNAL, ACRD block, spec/01_accord.md: Counts journal writes since the last load. -/
def ACRD_JOURNAL.reg : Nat := 0x400D0024
def ACRD_JOURNAL.SAT : Field := ⟨ACRD_JOURNAL.reg, 31, 1⟩
def ACRD_JOURNAL.COUNT : Field := ⟨ACRD_JOURNAL.reg, 0, 31⟩

/-- ACRD_PARAM_VAL, ACRD block, spec/01_accord.md: Carries the value of a parameter command; one copy per requester. -/
def ACRD_PARAM_VAL.reg (q : Nat) : Nat := copyKey q (0x400D0030)
def ACRD_PARAM_VAL.VALUE (q : Nat) : Field := ⟨ACRD_PARAM_VAL.reg q, 0, 32⟩

/-- ACRD_PARAM_CMD, ACRD block, spec/01_accord.md: Starts a parameter command; one copy per requester. -/
def ACRD_PARAM_CMD.reg (q : Nat) : Nat := copyKey q (0x400D0034)
def ACRD_PARAM_CMD.OP (q : Nat) : Field := ⟨ACRD_PARAM_CMD.reg q, 30, 2⟩
def ACRD_PARAM_CMD.PERSIST (q : Nat) : Field := ⟨ACRD_PARAM_CMD.reg q, 29, 1⟩
def ACRD_PARAM_CMD.ID (q : Nat) : Field := ⟨ACRD_PARAM_CMD.reg q, 0, 12⟩

/-- ACRD_PARAM_STAT, ACRD block, spec/01_accord.md: Reports the requester's last parameter command. -/
def ACRD_PARAM_STAT.reg (q : Nat) : Nat := copyKey q (0x400D0038)
def ACRD_PARAM_STAT.DONE (q : Nat) : Field := ⟨ACRD_PARAM_STAT.reg q, 31, 1⟩
def ACRD_PARAM_STAT.RESULT (q : Nat) : Field := ⟨ACRD_PARAM_STAT.reg q, 16, 3⟩

/-- ACRD_SCRUB_CNT, ACRD block, spec/01_accord.md: Counts corrected cell upsets since the last load. -/
def ACRD_SCRUB_CNT.reg : Nat := 0x400D0040
def ACRD_SCRUB_CNT.SAT : Field := ⟨ACRD_SCRUB_CNT.reg, 31, 1⟩
def ACRD_SCRUB_CNT.COUNT : Field := ⟨ACRD_SCRUB_CNT.reg, 0, 31⟩

/-- ACRD_SCRUB_LAST, ACRD block, spec/01_accord.md: Locates the latest upset found. -/
def ACRD_SCRUB_LAST.reg : Nat := 0x400D0044
def ACRD_SCRUB_LAST.UNCORR : Field := ⟨ACRD_SCRUB_LAST.reg, 31, 1⟩
def ACRD_SCRUB_LAST.TILE : Field := ⟨ACRD_SCRUB_LAST.reg, 7, 12⟩
def ACRD_SCRUB_LAST.FRAME : Field := ⟨ACRD_SCRUB_LAST.reg, 0, 7⟩

/-- ACRD_FROZEN_CNT, ACRD block, spec/01_accord.md: Counts the tiles now frozen. -/
def ACRD_FROZEN_CNT.reg : Nat := 0x400D0048
def ACRD_FROZEN_CNT.COUNT : Field := ⟨ACRD_FROZEN_CNT.reg, 0, 13⟩

/-- ACRD_FROZEN_GRP_LO, ACRD block, spec/01_accord.md: Mark the tile groups that hold a frozen tile. -/
def ACRD_FROZEN_GRP_LO.reg : Nat := 0x400D0050
def ACRD_FROZEN_GRP_LO.GRP : Field := ⟨ACRD_FROZEN_GRP_LO.reg, 0, 32⟩

/-- ACRD_FROZEN_GRP_HI, ACRD block, spec/01_accord.md: Mark the tile groups that hold a frozen tile. -/
def ACRD_FROZEN_GRP_HI.reg : Nat := 0x400D0054
def ACRD_FROZEN_GRP_HI.GRP : Field := ⟨ACRD_FROZEN_GRP_HI.reg, 0, 32⟩

/-- ACRD_TILE_RELOAD, ACRD block, spec/01_accord.md: Requests a tile reload (R28). -/
def ACRD_TILE_RELOAD.reg : Nat := 0x400D0058
def ACRD_TILE_RELOAD.KEY : Field := ⟨ACRD_TILE_RELOAD.reg, 24, 8⟩
def ACRD_TILE_RELOAD.TILE : Field := ⟨ACRD_TILE_RELOAD.reg, 0, 12⟩

/-- ACRD_PFAIL, ACRD block, spec/01_accord.md: Flag the parameter pages that failed their CRC at the last load. -/
def ACRD_PFAIL.reg (n : Nat) : Nat := 0x400D0100 + 0x4 * n
def ACRD_PFAIL.PAGE (n : Nat) : Field := ⟨ACRD_PFAIL.reg n, 0, 32⟩

/-! Registers of spec/03_supplies_park.md. -/

/-- SYS_STATUS, SYS block, spec/03_supplies_park.md: Reports the device's state and supply. -/
def SYS_STATUS.reg : Nat := 0x40000000
def SYS_STATUS.LC : Field := ⟨SYS_STATUS.reg, 21, 3⟩
def SYS_STATUS.PHASE : Field := ⟨SYS_STATUS.reg, 18, 3⟩
def SYS_STATUS.DEFAULTS_IN_USE : Field := ⟨SYS_STATUS.reg, 17, 1⟩
def SYS_STATUS.ON_BAT : Field := ⟨SYS_STATUS.reg, 16, 1⟩
def SYS_STATUS.STARTUP_TEST : Field := ⟨SYS_STATUS.reg, 15, 1⟩
def SYS_STATUS.PWR_REFUSED : Field := ⟨SYS_STATUS.reg, 14, 1⟩
def SYS_STATUS.DEST_FLACON : Field := ⟨SYS_STATUS.reg, 13, 1⟩
def SYS_STATUS.VBN_OK : Field := ⟨SYS_STATUS.reg, 4, 1⟩
def SYS_STATUS.VDDIO33_OK : Field := ⟨SYS_STATUS.reg, 3, 1⟩
def SYS_STATUS.VDDA18_OK : Field := ⟨SYS_STATUS.reg, 2, 1⟩
def SYS_STATUS.VDD08_OK : Field := ⟨SYS_STATUS.reg, 1, 1⟩
def SYS_STATUS.VCC5_OK : Field := ⟨SYS_STATUS.reg, 0, 1⟩

/-- SYS_PWR_CMD, SYS block, spec/03_supplies_park.md: Issues power commands. -/
def SYS_PWR_CMD.reg : Nat := 0x40000004
def SYS_PWR_CMD.KEY : Field := ⟨SYS_PWR_CMD.reg, 24, 8⟩
def SYS_PWR_CMD.CMD : Field := ⟨SYS_PWR_CMD.reg, 0, 4⟩

/-- SYS_RESET_CAUSE, SYS block, spec/03_supplies_park.md: Reports why the present start began; the device sets it at t1 of Table 3.3. -/
def SYS_RESET_CAUSE.reg : Nat := 0x40000008
def SYS_RESET_CAUSE.SAFE_SRC : Field := ⟨SYS_RESET_CAUSE.reg, 12, 6⟩
def SYS_RESET_CAUSE.HOUSE_CNT : Field := ⟨SYS_RESET_CAUSE.reg, 8, 4⟩
def SYS_RESET_CAUSE.HOUSE_LOCKOUT : Field := ⟨SYS_RESET_CAUSE.reg, 7, 1⟩
def SYS_RESET_CAUSE.FLACON_EXIT : Field := ⟨SYS_RESET_CAUSE.reg, 6, 1⟩
def SYS_RESET_CAUSE.PARK_WAKE : Field := ⟨SYS_RESET_CAUSE.reg, 5, 1⟩
def SYS_RESET_CAUSE.HOUSE : Field := ⟨SYS_RESET_CAUSE.reg, 4, 1⟩
def SYS_RESET_CAUSE.UVLO : Field := ⟨SYS_RESET_CAUSE.reg, 3, 1⟩
def SYS_RESET_CAUSE.SAFE_HELD : Field := ⟨SYS_RESET_CAUSE.reg, 2, 1⟩
def SYS_RESET_CAUSE.BN_POR : Field := ⟨SYS_RESET_CAUSE.reg, 0, 1⟩

/-- SYS_WAKE_CFG, SYS block, spec/03_supplies_park.md: Enables wake sources; it is loaded from BLOCK_CONFIG at t3 of Table 1.7. -/
def SYS_WAKE_CFG.reg : Nat := 0x40000010
def SYS_WAKE_CFG.POL : Field := ⟨SYS_WAKE_CFG.reg, 20, 4⟩
def SYS_WAKE_CFG.EN_WAKE : Field := ⟨SYS_WAKE_CFG.reg, 16, 4⟩
def SYS_WAKE_CFG.EN_LINK : Field := ⟨SYS_WAKE_CFG.reg, 12, 4⟩
def SYS_WAKE_CFG.EN_BUS : Field := ⟨SYS_WAKE_CFG.reg, 11, 1⟩
def SYS_WAKE_CFG.EN_SVC : Field := ⟨SYS_WAKE_CFG.reg, 10, 1⟩
def SYS_WAKE_CFG.EN_ALARM : Field := ⟨SYS_WAKE_CFG.reg, 9, 1⟩
def SYS_WAKE_CFG.FILT : Field := ⟨SYS_WAKE_CFG.reg, 0, 4⟩

/-- SYS_WAKE_CAUSE, SYS block, spec/03_supplies_park.md: Reports the wake sources of the last wake (R57). -/
def SYS_WAKE_CAUSE.reg : Nat := 0x40000014
def SYS_WAKE_CAUSE.LATCHED : Field := ⟨SYS_WAKE_CAUSE.reg, 11, 1⟩
def SYS_WAKE_CAUSE.ALARM : Field := ⟨SYS_WAKE_CAUSE.reg, 10, 1⟩
def SYS_WAKE_CAUSE.SVC : Field := ⟨SYS_WAKE_CAUSE.reg, 9, 1⟩
def SYS_WAKE_CAUSE.BUS : Field := ⟨SYS_WAKE_CAUSE.reg, 8, 1⟩
def SYS_WAKE_CAUSE.LINK : Field := ⟨SYS_WAKE_CAUSE.reg, 4, 4⟩
def SYS_WAKE_CAUSE.WAKE : Field := ⟨SYS_WAKE_CAUSE.reg, 0, 4⟩

/-- SYS_PARK_ALARM_LO, SYS block, spec/03_supplies_park.md: Set the park alarm time. -/
def SYS_PARK_ALARM_LO.reg : Nat := 0x40000018
def SYS_PARK_ALARM_LO.ALARM : Field := ⟨SYS_PARK_ALARM_LO.reg, 0, 32⟩

/-- SYS_PARK_ALARM_HI, SYS block, spec/03_supplies_park.md: Set the park alarm time. -/
def SYS_PARK_ALARM_HI.reg : Nat := 0x4000001C
def SYS_PARK_ALARM_HI.ALARM : Field := ⟨SYS_PARK_ALARM_HI.reg, 0, 32⟩

/-- SYS_CLK_STATUS, SYS block, spec/03_supplies_park.md: Reports the clock source and monitor results. -/
def SYS_CLK_STATUS.reg : Nat := 0x40000020
def SYS_CLK_STATUS.SRC : Field := ⟨SYS_CLK_STATUS.reg, 8, 1⟩
def SYS_CLK_STATUS.XIN_SEL : Field := ⟨SYS_CLK_STATUS.reg, 7, 1⟩
def SYS_CLK_STATUS.XIN_FAIL : Field := ⟨SYS_CLK_STATUS.reg, 6, 1⟩
def SYS_CLK_STATUS.REF_FAIL : Field := ⟨SYS_CLK_STATUS.reg, 5, 1⟩
def SYS_CLK_STATUS.BNO_FAIL : Field := ⟨SYS_CLK_STATUS.reg, 4, 1⟩
def SYS_CLK_STATUS.PLLP_UNLOCK : Field := ⟨SYS_CLK_STATUS.reg, 3, 1⟩
def SYS_CLK_STATUS.PLLE_UNLOCK : Field := ⟨SYS_CLK_STATUS.reg, 2, 1⟩
def SYS_CLK_STATUS.PLLM_UNLOCK : Field := ⟨SYS_CLK_STATUS.reg, 1, 1⟩
def SYS_CLK_STATUS.LOCKED : Field := ⟨SYS_CLK_STATUS.reg, 0, 1⟩

/-- SYS_LC_STATUS, SYS block, spec/03_supplies_park.md: Reports life-cycle requests (R62, R63). -/
def SYS_LC_STATUS.reg : Nat := 0x40000030
def SYS_LC_STATUS.NEXT : Field := ⟨SYS_LC_STATUS.reg, 21, 3⟩
def SYS_LC_STATUS.PEND : Field := ⟨SYS_LC_STATUS.reg, 20, 1⟩
def SYS_LC_STATUS.RESULT : Field := ⟨SYS_LC_STATUS.reg, 16, 4⟩

/-- SYS_LC_CMD, SYS block, spec/03_supplies_park.md: Requests a life-cycle transition (R62). -/
def SYS_LC_CMD.reg : Nat := 0x40000034
def SYS_LC_CMD.KEY : Field := ⟨SYS_LC_CMD.reg, 24, 8⟩
def SYS_LC_CMD.TO : Field := ⟨SYS_LC_CMD.reg, 0, 3⟩

/-- SYS_LC_NONCE_LO, SYS block, spec/03_supplies_park.md: Report the return-request nonce (R63). -/
def SYS_LC_NONCE_LO.reg : Nat := 0x40000038
def SYS_LC_NONCE_LO.NONCE : Field := ⟨SYS_LC_NONCE_LO.reg, 0, 32⟩

/-- SYS_LC_NONCE_HI, SYS block, spec/03_supplies_park.md: Report the return-request nonce (R63). -/
def SYS_LC_NONCE_HI.reg : Nat := 0x4000003C
def SYS_LC_NONCE_HI.NONCE : Field := ⟨SYS_LC_NONCE_HI.reg, 0, 32⟩

/-- SYS_LC_REQ, SYS block, spec/03_supplies_park.md: Hold the signed return request (R63). -/
def SYS_LC_REQ.reg (i : Nat) : Nat := 0x40000100 + 0x4 * i
def SYS_LC_REQ.DATA (i : Nat) : Field := ⟨SYS_LC_REQ.reg i, 0, 32⟩

/-! Registers of spec/04_loop_array.md. -/

/-- LOOP_CFG, LOOP block, spec/04_loop_array.md: Sets the loop's structure. -/
def LOOP_CFG.reg (n : Nat) : Nat := 0x40010000 + 0x400 * n
def LOOP_CFG.NMINF (n : Nat) : Field := ⟨LOOP_CFG.reg n, 24, 5⟩
def LOOP_CFG.UPD (n : Nat) : Field := ⟨LOOP_CFG.reg n, 21, 3⟩
def LOOP_CFG.MOD (n : Nat) : Field := ⟨LOOP_CFG.reg n, 20, 1⟩
def LOOP_CFG.OFFM (n : Nat) : Field := ⟨LOOP_CFG.reg n, 19, 1⟩

/-- LOOP_VSET, LOOP block, spec/04_loop_array.md: Issues an engine, host or quad-port set-point command; a write is one command. -/
def LOOP_VSET.reg (n : Nat) : Nat := 0x40010004 + 0x400 * n
def LOOP_VSET.RATE (n : Nat) : Field := ⟨LOOP_VSET.reg n, 16, 10⟩
def LOOP_VSET.TARGET (n : Nat) : Field := ⟨LOOP_VSET.reg n, 0, 16⟩

/-- LOOP_SLEW, LOOP block, spec/04_loop_array.md: Sets default and start slew rates. -/
def LOOP_SLEW.reg (n : Nat) : Nat := 0x40010008 + 0x400 * n
def LOOP_SLEW.START_RATE (n : Nat) : Field := ⟨LOOP_SLEW.reg n, 16, 10⟩
def LOOP_SLEW.RATE (n : Nat) : Field := ⟨LOOP_SLEW.reg n, 0, 10⟩

/-- LOOP_VLIM, LOOP block, spec/04_loop_array.md: Bounds accepted targets. -/
def LOOP_VLIM.reg (n : Nat) : Nat := 0x4001000C + 0x400 * n
def LOOP_VLIM.VMAX (n : Nat) : Field := ⟨LOOP_VLIM.reg n, 16, 16⟩
def LOOP_VLIM.VMIN (n : Nat) : Field := ⟨LOOP_VLIM.reg n, 0, 16⟩

/-- LOOP_SYNC, LOOP block, spec/04_loop_array.md: Sets the frequency multiple and phase offset. -/
def LOOP_SYNC.reg (n : Nat) : Nat := 0x40010010 + 0x400 * n
def LOOP_SYNC.MUL (n : Nat) : Field := ⟨LOOP_SYNC.reg n, 16, 4⟩
def LOOP_SYNC.OFS (n : Nat) : Field := ⟨LOOP_SYNC.reg n, 0, 12⟩

/-- LOOP_FF, LOOP block, spec/04_loop_array.md: Sets the stage-supply feed-forward. -/
def LOOP_FF.reg (n : Nat) : Nat := 0x40010014 + 0x400 * n
def LOOP_FF.VNOM (n : Nat) : Field := ⟨LOOP_FF.reg n, 16, 16⟩
def LOOP_FF.EN (n : Nat) : Field := ⟨LOOP_FF.reg n, 8, 1⟩
def LOOP_FF.CH (n : Nat) : Field := ⟨LOOP_FF.reg n, 0, 8⟩

/-- LOOP_DLIM, LOOP block, spec/04_loop_array.md: Clamps phase duty. -/
def LOOP_DLIM.reg (n : Nat) : Nat := 0x40010018 + 0x400 * n
def LOOP_DLIM.DMAX (n : Nat) : Field := ⟨LOOP_DLIM.reg n, 16, 16⟩
def LOOP_DLIM.DMIN (n : Nat) : Field := ⟨LOOP_DLIM.reg n, 0, 16⟩

/-- LOOP_CK, LOOP block, spec/04_loop_array.md: Hold the commissioned compensator coefficients (R66). -/
def LOOP_CK.reg (n : Nat) : Nat := 0x4001001C + 0x400 * n
def LOOP_CK.COEF (n : Nat) : Field := ⟨LOOP_CK.reg n, 0, 24⟩

/-- LOOP_CZ1, LOOP block, spec/04_loop_array.md: Hold the commissioned compensator coefficients (R66). -/
def LOOP_CZ1.reg (n : Nat) : Nat := 0x40010020 + 0x400 * n
def LOOP_CZ1.COEF (n : Nat) : Field := ⟨LOOP_CZ1.reg n, 0, 24⟩

/-- LOOP_CZ2, LOOP block, spec/04_loop_array.md: Hold the commissioned compensator coefficients (R66). -/
def LOOP_CZ2.reg (n : Nat) : Nat := 0x40010024 + 0x400 * n
def LOOP_CZ2.COEF (n : Nat) : Field := ⟨LOOP_CZ2.reg n, 0, 24⟩

/-- LOOP_CP1, LOOP block, spec/04_loop_array.md: Hold the commissioned compensator coefficients (R66). -/
def LOOP_CP1.reg (n : Nat) : Nat := 0x40010028 + 0x400 * n
def LOOP_CP1.COEF (n : Nat) : Field := ⟨LOOP_CP1.reg n, 0, 24⟩

/-- LOOP_CP2, LOOP block, spec/04_loop_array.md: Hold the commissioned compensator coefficients (R66). -/
def LOOP_CP2.reg (n : Nat) : Nat := 0x4001002C + 0x400 * n
def LOOP_CP2.COEF (n : Nat) : Field := ⟨LOOP_CP2.reg n, 0, 24⟩

/-- LOOP_CP3, LOOP block, spec/04_loop_array.md: Hold the commissioned compensator coefficients (R66). -/
def LOOP_CP3.reg (n : Nat) : Nat := 0x40010030 + 0x400 * n
def LOOP_CP3.COEF (n : Nat) : Field := ⟨LOOP_CP3.reg n, 0, 24⟩

/-- LOOP_CK_EFF, LOOP block, spec/04_loop_array.md: Report the coefficients in use (R68). -/
def LOOP_CK_EFF.reg (n : Nat) : Nat := 0x40010034 + 0x400 * n
def LOOP_CK_EFF.COEF (n : Nat) : Field := ⟨LOOP_CK_EFF.reg n, 0, 24⟩

/-- LOOP_CZ1_EFF, LOOP block, spec/04_loop_array.md: Report the coefficients in use (R68). -/
def LOOP_CZ1_EFF.reg (n : Nat) : Nat := 0x40010038 + 0x400 * n
def LOOP_CZ1_EFF.COEF (n : Nat) : Field := ⟨LOOP_CZ1_EFF.reg n, 0, 24⟩

/-- LOOP_CZ2_EFF, LOOP block, spec/04_loop_array.md: Report the coefficients in use (R68). -/
def LOOP_CZ2_EFF.reg (n : Nat) : Nat := 0x4001003C + 0x400 * n
def LOOP_CZ2_EFF.COEF (n : Nat) : Field := ⟨LOOP_CZ2_EFF.reg n, 0, 24⟩

/-- LOOP_NL, LOOP block, spec/04_loop_array.md: Sets the nonlinear path (R69). -/
def LOOP_NL.reg (n : Nat) : Nat := 0x40010040 + 0x400 * n
def LOOP_NL.EN (n : Nat) : Field := ⟨LOOP_NL.reg n, 31, 1⟩
def LOOP_NL.OVSL (n : Nat) : Field := ⟨LOOP_NL.reg n, 30, 1⟩
def LOOP_NL.TH_U (n : Nat) : Field := ⟨LOOP_NL.reg n, 24, 6⟩
def LOOP_NL.TH_O (n : Nat) : Field := ⟨LOOP_NL.reg n, 16, 6⟩
def LOOP_NL.CNT (n : Nat) : Field := ⟨LOOP_NL.reg n, 8, 2⟩
def LOOP_NL.TMAX (n : Nat) : Field := ⟨LOOP_NL.reg n, 0, 8⟩

/-- LOOP_PROT, LOOP block, spec/04_loop_array.md: Sets the over- and under-voltage margins. -/
def LOOP_PROT.reg (n : Nat) : Nat := 0x40010044 + 0x400 * n
def LOOP_PROT.OVF (n : Nat) : Field := ⟨LOOP_PROT.reg n, 16, 5⟩
def LOOP_PROT.UVM (n : Nat) : Field := ⟨LOOP_PROT.reg n, 8, 8⟩
def LOOP_PROT.OVM (n : Nat) : Field := ⟨LOOP_PROT.reg n, 0, 8⟩

/-- LOOP_OVABS, LOOP block, spec/04_loop_array.md: Sets the absolute over-voltage ceiling. -/
def LOOP_OVABS.reg (n : Nat) : Nat := 0x40010048 + 0x400 * n
def LOOP_OVABS.VABS (n : Nat) : Field := ⟨LOOP_OVABS.reg n, 0, 16⟩

/-- LOOP_PGW, LOOP block, spec/04_loop_array.md: Sets the power-good window. -/
def LOOP_PGW.reg (n : Nat) : Nat := 0x4001004C + 0x400 * n
def LOOP_PGW.PGH (n : Nat) : Field := ⟨LOOP_PGW.reg n, 8, 8⟩
def LOOP_PGW.PGL (n : Nat) : Field := ⟨LOOP_PGW.reg n, 0, 8⟩

/-- LOOP_ILIM, LOOP block, spec/04_loop_array.md: Sets the loop current limit. -/
def LOOP_ILIM.reg (n : Nat) : Nat := 0x40010050 + 0x400 * n
def LOOP_ILIM.TILF (n : Nat) : Field := ⟨LOOP_ILIM.reg n, 16, 10⟩
def LOOP_ILIM.LIM (n : Nat) : Field := ⟨LOOP_ILIM.reg n, 0, 15⟩

/-- LOOP_TIME, LOOP block, spec/04_loop_array.md: Sets the settle, under-voltage and shedding times. -/
def LOOP_TIME.reg (n : Nat) : Nat := 0x40010054 + 0x400 * n
def LOOP_TIME.TSHED (n : Nat) : Field := ⟨LOOP_TIME.reg n, 20, 10⟩
def LOOP_TIME.TUV (n : Nat) : Field := ⟨LOOP_TIME.reg n, 10, 10⟩
def LOOP_TIME.TSET (n : Nat) : Field := ⟨LOOP_TIME.reg n, 0, 10⟩

/-- LOOP_DE, LOOP block, spec/04_loop_array.md: Sets diode emulation (R88). -/
def LOOP_DE.reg (n : Nat) : Nat := 0x40010058 + 0x400 * n
def LOOP_DE.EN (n : Nat) : Field := ⟨LOOP_DE.reg n, 31, 1⟩
def LOOP_DE.ZCD (n : Nat) : Field := ⟨LOOP_DE.reg n, 24, 7⟩
def LOOP_DE.OFF (n : Nat) : Field := ⟨LOOP_DE.reg n, 12, 12⟩
def LOOP_DE.ON (n : Nat) : Field := ⟨LOOP_DE.reg n, 0, 12⟩

/-- LOOP_SHED, LOOP block, spec/04_loop_array.md: Sets phase shedding (R89). -/
def LOOP_SHED.reg (n : Nat) : Nat := 0x4001005C + 0x400 * n
def LOOP_SHED.EN (n : Nat) : Field := ⟨LOOP_SHED.reg n, 31, 1⟩
def LOOP_SHED.NMIN (n : Nat) : Field := ⟨LOOP_SHED.reg n, 24, 5⟩
def LOOP_SHED.IA (n : Nat) : Field := ⟨LOOP_SHED.reg n, 16, 8⟩
def LOOP_SHED.IS (n : Nat) : Field := ⟨LOOP_SHED.reg n, 8, 8⟩

/-- LOOP_LOCK, LOOP block, spec/04_loop_array.md: Takes, releases and reports the command lock (R76, R78). -/
def LOOP_LOCK.reg (n : Nat) : Nat := 0x40010060 + 0x400 * n
def LOOP_LOCK.TAKE (n : Nat) : Field := ⟨LOOP_LOCK.reg n, 31, 1⟩
def LOOP_LOCK.RELEASE (n : Nat) : Field := ⟨LOOP_LOCK.reg n, 30, 1⟩
def LOOP_LOCK.TOUT (n : Nat) : Field := ⟨LOOP_LOCK.reg n, 16, 8⟩
def LOOP_LOCK.PERM (n : Nat) : Field := ⟨LOOP_LOCK.reg n, 8, 5⟩
def LOOP_LOCK.OWNER (n : Nat) : Field := ⟨LOOP_LOCK.reg n, 0, 5⟩

/-- LOOP_STATUS, LOOP block, spec/04_loop_array.md: Reports the loop state. -/
def LOOP_STATUS.reg (n : Nat) : Nat := 0x40010064 + 0x400 * n
def LOOP_STATUS.STATE (n : Nat) : Field := ⟨LOOP_STATUS.reg n, 28, 4⟩
def LOOP_STATUS.CAUSE (n : Nat) : Field := ⟨LOOP_STATUS.reg n, 25, 3⟩
def LOOP_STATUS.CAUSE_ALL (n : Nat) : Field := ⟨LOOP_STATUS.reg n, 19, 6⟩
def LOOP_STATUS.PG_MASK (n : Nat) : Field := ⟨LOOP_STATUS.reg n, 18, 1⟩
def LOOP_STATUS.IN_PG (n : Nat) : Field := ⟨LOOP_STATUS.reg n, 17, 1⟩
def LOOP_STATUS.ILIM (n : Nat) : Field := ⟨LOOP_STATUS.reg n, 16, 1⟩
def LOOP_STATUS.DE (n : Nat) : Field := ⟨LOOP_STATUS.reg n, 15, 1⟩
def LOOP_STATUS.FCLAMP (n : Nat) : Field := ⟨LOOP_STATUS.reg n, 14, 1⟩
def LOOP_STATUS.SAT_E (n : Nat) : Field := ⟨LOOP_STATUS.reg n, 13, 1⟩
def LOOP_STATUS.NACT (n : Nat) : Field := ⟨LOOP_STATUS.reg n, 5, 5⟩
def LOOP_STATUS.NHLT (n : Nat) : Field := ⟨LOOP_STATUS.reg n, 0, 5⟩

/-- LOOP_VREF, LOOP block, spec/04_loop_array.md: Reports the target and ramp value. -/
def LOOP_VREF.reg (n : Nat) : Nat := 0x40010068 + 0x400 * n
def LOOP_VREF.TARGET (n : Nat) : Field := ⟨LOOP_VREF.reg n, 16, 16⟩
def LOOP_VREF.REF (n : Nat) : Field := ⟨LOOP_VREF.reg n, 0, 16⟩

/-- LOOP_VOUT, LOOP block, spec/04_loop_array.md: Reports the averaged output (R90). -/
def LOOP_VOUT.reg (n : Nat) : Nat := 0x4001006C + 0x400 * n
def LOOP_VOUT.VOUT (n : Nat) : Field := ⟨LOOP_VOUT.reg n, 0, 16⟩

/-- LOOP_IOUT, LOOP block, spec/04_loop_array.md: Reports the averaged loop current (R90). -/
def LOOP_IOUT.reg (n : Nat) : Nat := 0x40010070 + 0x400 * n
def LOOP_IOUT.IOUT (n : Nat) : Field := ⟨LOOP_IOUT.reg n, 0, 24⟩

/-- LOOP_ILIM_EFF, LOOP block, spec/04_loop_array.md: Reports the effective current limit (R84). -/
def LOOP_ILIM_EFF.reg (n : Nat) : Nat := 0x40010074 + 0x400 * n
def LOOP_ILIM_EFF.LIM (n : Nat) : Field := ⟨LOOP_ILIM_EFF.reg n, 0, 15⟩

/-- LOOP_REFUSE, LOOP block, spec/04_loop_array.md: Counts refused commands. -/
def LOOP_REFUSE.reg (n : Nat) : Nat := 0x40010078 + 0x400 * n
def LOOP_REFUSE.SAT (n : Nat) : Field := ⟨LOOP_REFUSE.reg n, 31, 1⟩
def LOOP_REFUSE.REASON (n : Nat) : Field := ⟨LOOP_REFUSE.reg n, 28, 3⟩
def LOOP_REFUSE.SRC (n : Nat) : Field := ⟨LOOP_REFUSE.reg n, 16, 5⟩
def LOOP_REFUSE.COUNT (n : Nat) : Field := ⟨LOOP_REFUSE.reg n, 0, 16⟩

/-- LOOP_NL_CNT, LOOP block, spec/04_loop_array.md: Counts nonlinear entries since the last start. -/
def LOOP_NL_CNT.reg (n : Nat) : Nat := 0x4001007C + 0x400 * n
def LOOP_NL_CNT.SAT_O (n : Nat) : Field := ⟨LOOP_NL_CNT.reg n, 31, 1⟩
def LOOP_NL_CNT.OVER (n : Nat) : Field := ⟨LOOP_NL_CNT.reg n, 16, 15⟩
def LOOP_NL_CNT.SAT_U (n : Nat) : Field := ⟨LOOP_NL_CNT.reg n, 15, 1⟩
def LOOP_NL_CNT.UNDER (n : Nat) : Field := ⟨LOOP_NL_CNT.reg n, 0, 15⟩

/-- LOOP_FSET, LOOP block, spec/04_loop_array.md: Holds the target of the loop's fabric set-point command (R76, R77). -/
def LOOP_FSET.reg (n : Nat) : Nat := 0x40010080 + 0x400 * n
def LOOP_FSET.TARGET (n : Nat) : Field := ⟨LOOP_FSET.reg n, 0, 16⟩

/-- LOOP_REF_CFG, LOOP block, spec/04_loop_array.md: Sets the sync reference (R70, R71). -/
def LOOP_REF_CFG.reg : Nat := 0x40016000
def LOOP_REF_CFG.OUT : Field := ⟨LOOP_REF_CFG.reg, 18, 1⟩
def LOOP_REF_CFG.SRC : Field := ⟨LOOP_REF_CFG.reg, 17, 1⟩
def LOOP_REF_CFG.PER : Field := ⟨LOOP_REF_CFG.reg, 0, 17⟩

/-- LOOP_REF_STATUS, LOOP block, spec/04_loop_array.md: Reports the sync reference. -/
def LOOP_REF_STATUS.reg : Nat := 0x40016004
def LOOP_REF_STATUS.LOST : Field := ⟨LOOP_REF_STATUS.reg, 18, 1⟩
def LOOP_REF_STATUS.LOCKED : Field := ⟨LOOP_REF_STATUS.reg, 17, 1⟩
def LOOP_REF_STATUS.PER : Field := ⟨LOOP_REF_STATUS.reg, 0, 17⟩

/-! Registers of spec/05_phase_ports.md. -/

/-- PH_CFG, PHASE block, spec/05_phase_ports.md: Assigns the phase to a loop and slot (R93). -/
def PH_CFG.reg (n : Nat) : Nat := 0x40020000 + 0x100 * n
def PH_CFG.EN (n : Nat) : Field := ⟨PH_CFG.reg n, 31, 1⟩
def PH_CFG.SLOT (n : Nat) : Field := ⟨PH_CFG.reg n, 8, 5⟩
def PH_CFG.LOOP (n : Nat) : Field := ⟨PH_CFG.reg n, 0, 5⟩

/-- PH_ISNS, PHASE block, spec/05_phase_ports.md: Sets the current-sense scale (R97). -/
def PH_ISNS.reg (n : Nat) : Nat := 0x40020004 + 0x100 * n
def PH_ISNS.GAIN (n : Nat) : Field := ⟨PH_ISNS.reg n, 16, 12⟩
def PH_ISNS.OFS (n : Nat) : Field := ⟨PH_ISNS.reg n, 0, 12⟩

/-- PH_ILIM, PHASE block, spec/05_phase_ports.md: Sets the cycle-by-cycle limits (R98). -/
def PH_ILIM.reg (n : Nat) : Nat := 0x40020008 + 0x100 * n
def PH_ILIM.NEG (n : Nat) : Field := ⟨PH_ILIM.reg n, 16, 10⟩
def PH_ILIM.LIM (n : Nat) : Field := ⟨PH_ILIM.reg n, 0, 10⟩

/-- PH_IND, PHASE block, spec/05_phase_ports.md: Holds the commissioned inductance and path resistance (R99, R106). -/
def PH_IND.reg (n : Nat) : Nat := 0x4002000C + 0x100 * n
def PH_IND.RPATH (n : Nat) : Field := ⟨PH_IND.reg n, 16, 12⟩
def PH_IND.L (n : Nat) : Field := ⟨PH_IND.reg n, 0, 16⟩

/-- PH_TMF, PHASE block, spec/05_phase_ports.md: Sets the temperature scale and stage-fault timing (R102, R103). -/
def PH_TMF.reg (n : Nat) : Nat := 0x40020010 + 0x100 * n
def PH_TMF.TOFS (n : Nat) : Field := ⟨PH_TMF.reg n, 16, 10⟩
def PH_TMF.TSLOPE (n : Nat) : Field := ⟨PH_TMF.reg n, 8, 8⟩
def PH_TMF.SBLK (n : Nat) : Field := ⟨PH_TMF.reg n, 5, 3⟩
def PH_TMF.SFF (n : Nat) : Field := ⟨PH_TMF.reg n, 0, 5⟩

/-- PH_TLIM, PHASE block, spec/05_phase_ports.md: Sets the temperature levels (R102, R103). -/
def PH_TLIM.reg (n : Nat) : Nat := 0x40020014 + 0x100 * n
def PH_TLIM.THYS (n : Nat) : Field := ⟨PH_TLIM.reg n, 16, 4⟩
def PH_TLIM.TSHUT (n : Nat) : Field := ⟨PH_TLIM.reg n, 8, 8⟩
def PH_TLIM.TWARN (n : Nat) : Field := ⟨PH_TLIM.reg n, 0, 8⟩

/-- PH_TIME, PHASE block, spec/05_phase_ports.md: Sets sampling blank and pulse limits (R96, R97). -/
def PH_TIME.reg (n : Nat) : Nat := 0x40020018 + 0x100 * n
def PH_TIME.MINOFF (n : Nat) : Field := ⟨PH_TIME.reg n, 16, 8⟩
def PH_TIME.MINON (n : Nat) : Field := ⟨PH_TIME.reg n, 8, 8⟩
def PH_TIME.BLANK (n : Nat) : Field := ⟨PH_TIME.reg n, 0, 5⟩

/-- PH_STATUS, PHASE block, spec/05_phase_ports.md: Reports the phase state. -/
def PH_STATUS.reg (n : Nat) : Nat := 0x40020020 + 0x100 * n
def PH_STATUS.STATE (n : Nat) : Field := ⟨PH_STATUS.reg n, 29, 3⟩
def PH_STATUS.LOSS (n : Nat) : Field := ⟨PH_STATUS.reg n, 27, 2⟩
def PH_STATUS.SUSPECT (n : Nat) : Field := ⟨PH_STATUS.reg n, 26, 1⟩
def PH_STATUS.SUSC (n : Nat) : Field := ⟨PH_STATUS.reg n, 24, 2⟩
def PH_STATUS.WARN (n : Nat) : Field := ⟨PH_STATUS.reg n, 23, 1⟩
def PH_STATUS.TMF_LOW (n : Nat) : Field := ⟨PH_STATUS.reg n, 22, 1⟩
def PH_STATUS.TRIM_SAT (n : Nat) : Field := ⟨PH_STATUS.reg n, 21, 1⟩
def PH_STATUS.SUB (n : Nat) : Field := ⟨PH_STATUS.reg n, 20, 1⟩
def PH_STATUS.OCP (n : Nat) : Field := ⟨PH_STATUS.reg n, 19, 1⟩
def PH_STATUS.OCN (n : Nat) : Field := ⟨PH_STATUS.reg n, 18, 1⟩
def PH_STATUS.BLANKING (n : Nat) : Field := ⟨PH_STATUS.reg n, 17, 1⟩
def PH_STATUS.POS (n : Nat) : Field := ⟨PH_STATUS.reg n, 8, 5⟩
def PH_STATUS.OPENCNT (n : Nat) : Field := ⟨PH_STATUS.reg n, 0, 8⟩

/-- PH_IOUT, PHASE block, spec/05_phase_ports.md: Reports the phase current (R101). -/
def PH_IOUT.reg (n : Nat) : Nat := 0x40020024 + 0x100 * n
def PH_IOUT.IOUT (n : Nat) : Field := ⟨PH_IOUT.reg n, 0, 24⟩

/-- PH_IPV, PHASE block, spec/05_phase_ports.md: Reports the last cycle's peak and valley. -/
def PH_IPV.reg (n : Nat) : Nat := 0x40020028 + 0x100 * n
def PH_IPV.IPK (n : Nat) : Field := ⟨PH_IPV.reg n, 16, 16⟩
def PH_IPV.IVAL (n : Nat) : Field := ⟨PH_IPV.reg n, 0, 16⟩

/-- PH_TEMP, PHASE block, spec/05_phase_ports.md: Reports the stage temperature. -/
def PH_TEMP.reg (n : Nat) : Nat := 0x4002002C + 0x100 * n
def PH_TEMP.TMAX (n : Nat) : Field := ⟨PH_TEMP.reg n, 16, 16⟩
def PH_TEMP.TEMP (n : Nat) : Field := ⟨PH_TEMP.reg n, 0, 16⟩

/-- PH_TRIM, PHASE block, spec/05_phase_ports.md: Reports the balance trim (R99). -/
def PH_TRIM.reg (n : Nat) : Nat := 0x40020030 + 0x100 * n
def PH_TRIM.TRIM (n : Nat) : Field := ⟨PH_TRIM.reg n, 0, 16⟩

/-- PH_FLUX, PHASE block, spec/05_phase_ports.md: Reports the flux check (R106). -/
def PH_FLUX.reg (n : Nat) : Nat := 0x40020034 + 0x100 * n
def PH_FLUX.DEV (n : Nat) : Field := ⟨PH_FLUX.reg n, 16, 16⟩
def PH_FLUX.CNT (n : Nat) : Field := ⟨PH_FLUX.reg n, 0, 9⟩

/-- PH_OCCNT, PHASE block, spec/05_phase_ports.md: Counts limit actions since the last loop start (R98). -/
def PH_OCCNT.reg (n : Nat) : Nat := 0x40020038 + 0x100 * n
def PH_OCCNT.SAT_N (n : Nat) : Field := ⟨PH_OCCNT.reg n, 31, 1⟩
def PH_OCCNT.NEG (n : Nat) : Field := ⟨PH_OCCNT.reg n, 16, 15⟩
def PH_OCCNT.SAT_P (n : Nat) : Field := ⟨PH_OCCNT.reg n, 15, 1⟩
def PH_OCCNT.POS (n : Nat) : Field := ⟨PH_OCCNT.reg n, 0, 15⟩

/-- PH_LBAL, PHASE block, spec/05_phase_ports.md: Sets the balance loop of LOOP_nn (R99, R100). -/
def PH_LBAL.reg (n : Nat) : Nat := 0x40024000 + 0x10 * n
def PH_LBAL.EN (n : Nat) : Field := ⟨PH_LBAL.reg n, 31, 1⟩
def PH_LBAL.FRZ (n : Nat) : Field := ⟨PH_LBAL.reg n, 16, 8⟩
def PH_LBAL.FC (n : Nat) : Field := ⟨PH_LBAL.reg n, 0, 16⟩

/-- PH_LSTAT, PHASE block, spec/05_phase_ports.md: Reports the phases of LOOP_nn. -/
def PH_LSTAT.reg (n : Nat) : Nat := 0x40024004 + 0x10 * n
def PH_LSTAT.NLOST (n : Nat) : Field := ⟨PH_LSTAT.reg n, 19, 5⟩
def PH_LSTAT.NSUSP (n : Nat) : Field := ⟨PH_LSTAT.reg n, 14, 5⟩
def PH_LSTAT.NOSENSE (n : Nat) : Field := ⟨PH_LSTAT.reg n, 13, 1⟩
def PH_LSTAT.SAT (n : Nat) : Field := ⟨PH_LSTAT.reg n, 12, 1⟩
def PH_LSTAT.RESP (n : Nat) : Field := ⟨PH_LSTAT.reg n, 0, 12⟩

/-- PH_REF_STATUS, PHASE block, spec/05_phase_ports.md: Reports ISNS_REF (R106). -/
def PH_REF_STATUS.reg : Nat := 0x40025000
def PH_REF_STATUS.FAIL : Field := ⟨PH_REF_STATUS.reg, 16, 1⟩
def PH_REF_STATUS.VREF : Field := ⟨PH_REF_STATUS.reg, 0, 12⟩

/-! Registers of spec/06_survey_intent.md. -/

/-- SV_CFG, LOOP block, spec/06_survey_intent.md: Enables and shapes the survey (R111, R112). -/
def SV_CFG.reg (n : Nat) : Nat := 0x40010100 + 0x400 * n
def SV_CFG.EN (n : Nat) : Field := ⟨SV_CFG.reg n, 31, 1⟩
def SV_CFG.RETUNE (n : Nat) : Field := ⟨SV_CFG.reg n, 30, 1⟩
def SV_CFG.FORCE (n : Nat) : Field := ⟨SV_CFG.reg n, 29, 1⟩
def SV_CFG.AMP (n : Nat) : Field := ⟨SV_CFG.reg n, 24, 5⟩
def SV_CFG.CHIP (n : Nat) : Field := ⟨SV_CFG.reg n, 20, 4⟩
def SV_CFG.PERIOD (n : Nat) : Field := ⟨SV_CFG.reg n, 0, 12⟩

/-- SV_BND, LOOP block, spec/06_survey_intent.md: Bounds retuning (R115). -/
def SV_BND.reg (n : Nat) : Nat := 0x40010104 + 0x400 * n
def SV_BND.STEP (n : Nat) : Field := ⟨SV_BND.reg n, 16, 8⟩
def SV_BND.KB (n : Nat) : Field := ⟨SV_BND.reg n, 8, 8⟩
def SV_BND.ZB (n : Nat) : Field := ⟨SV_BND.reg n, 0, 8⟩

/-- SV_TGT, LOOP block, spec/06_survey_intent.md: Sets retune targets and the margin alarm. -/
def SV_TGT.reg (n : Nat) : Nat := 0x40010108 + 0x400 * n
def SV_TGT.PMT (n : Nat) : Field := ⟨SV_TGT.reg n, 24, 8⟩
def SV_TGT.PMMIN (n : Nat) : Field := ⟨SV_TGT.reg n, 16, 8⟩
def SV_TGT.FCT (n : Nat) : Field := ⟨SV_TGT.reg n, 0, 16⟩

/-- SV_CCOMM, LOOP block, spec/06_survey_intent.md: Holds the commissioned capacitance. -/
def SV_CCOMM.reg (n : Nat) : Nat := 0x4001010C + 0x400 * n
def SV_CCOMM.C (n : Nat) : Field := ⟨SV_CCOMM.reg n, 0, 20⟩

/-- SV_HLIM, LOOP block, spec/06_survey_intent.md: Sets the health alarm levels (R116). -/
def SV_HLIM.reg (n : Nat) : Nat := 0x40010110 + 0x400 * n
def SV_HLIM.HFLT (n : Nat) : Field := ⟨SV_HLIM.reg n, 8, 8⟩
def SV_HLIM.HWARN (n : Nat) : Field := ⟨SV_HLIM.reg n, 0, 8⟩

/-- SV_RES_C, LOOP block, spec/06_survey_intent.md: Reports estimated capacitance. -/
def SV_RES_C.reg (n : Nat) : Nat := 0x40010120 + 0x400 * n
def SV_RES_C.C (n : Nat) : Field := ⟨SV_RES_C.reg n, 0, 20⟩

/-- SV_RES_ESR, LOOP block, spec/06_survey_intent.md: Reports estimated ESR and mean inductance. -/
def SV_RES_ESR.reg (n : Nat) : Nat := 0x40010124 + 0x400 * n
def SV_RES_ESR.L (n : Nat) : Field := ⟨SV_RES_ESR.reg n, 16, 16⟩
def SV_RES_ESR.ESR (n : Nat) : Field := ⟨SV_RES_ESR.reg n, 0, 16⟩

/-- SV_RES_FC, LOOP block, spec/06_survey_intent.md: Reports measured crossover and margin. -/
def SV_RES_FC.reg (n : Nat) : Nat := 0x4001012C + 0x400 * n
def SV_RES_FC.PM (n : Nat) : Field := ⟨SV_RES_FC.reg n, 24, 8⟩
def SV_RES_FC.FC (n : Nat) : Field := ⟨SV_RES_FC.reg n, 0, 16⟩

/-- SV_STATUS, LOOP block, spec/06_survey_intent.md: Reports survey state and health. -/
def SV_STATUS.reg (n : Nat) : Nat := 0x40010130 + 0x400 * n
def SV_STATUS.STATE (n : Nat) : Field := ⟨SV_STATUS.reg n, 30, 2⟩
def SV_STATUS.HEALTH (n : Nat) : Field := ⟨SV_STATUS.reg n, 16, 8⟩
def SV_STATUS.PML (n : Nat) : Field := ⟨SV_STATUS.reg n, 6, 1⟩
def SV_STATUS.HF (n : Nat) : Field := ⟨SV_STATUS.reg n, 5, 1⟩
def SV_STATUS.HW (n : Nat) : Field := ⟨SV_STATUS.reg n, 4, 1⟩
def SV_STATUS.BOUND (n : Nat) : Field := ⟨SV_STATUS.reg n, 3, 1⟩
def SV_STATUS.RESULT (n : Nat) : Field := ⟨SV_STATUS.reg n, 0, 3⟩

/-- SV_CNT, LOOP block, spec/06_survey_intent.md: Counts surveys since the last start. -/
def SV_CNT.reg (n : Nat) : Nat := 0x40010134 + 0x400 * n
def SV_CNT.SAT_A (n : Nat) : Field := ⟨SV_CNT.reg n, 31, 1⟩
def SV_CNT.ABORT (n : Nat) : Field := ⟨SV_CNT.reg n, 16, 15⟩
def SV_CNT.SAT_R (n : Nat) : Field := ⟨SV_CNT.reg n, 15, 1⟩
def SV_CNT.RETUNE (n : Nat) : Field := ⟨SV_CNT.reg n, 0, 15⟩

/-- IL_FC, LOOP block, spec/06_survey_intent.md: Sets the loop's forecast response (R124, R125). -/
def IL_FC.reg (n : Nat) : Nat := 0x40010140 + 0x400 * n
def IL_FC.EN (n : Nat) : Field := ⟨IL_FC.reg n, 31, 1⟩
def IL_FC.PEND (n : Nat) : Field := ⟨IL_FC.reg n, 30, 1⟩
def IL_FC.ENV (n : Nat) : Field := ⟨IL_FC.reg n, 24, 6⟩
def IL_FC.KV (n : Nat) : Field := ⟨IL_FC.reg n, 10, 10⟩
def IL_FC.PRATE (n : Nat) : Field := ⟨IL_FC.reg n, 0, 10⟩

/-- IL_FCNT1, LOOP block, spec/06_survey_intent.md: Counts forecast outcomes since the last start. -/
def IL_FCNT1.reg (n : Nat) : Nat := 0x40010144 + 0x400 * n
def IL_FCNT1.SAT_U (n : Nat) : Field := ⟨IL_FCNT1.reg n, 31, 1⟩
def IL_FCNT1.UNF (n : Nat) : Field := ⟨IL_FCNT1.reg n, 16, 15⟩
def IL_FCNT1.SAT_F (n : Nat) : Field := ⟨IL_FCNT1.reg n, 15, 1⟩
def IL_FCNT1.FUL (n : Nat) : Field := ⟨IL_FCNT1.reg n, 0, 15⟩

/-- IL_FCNT2, LOOP block, spec/06_survey_intent.md: Counts accepted and dropped forecasts since the last start. -/
def IL_FCNT2.reg (n : Nat) : Nat := 0x40010148 + 0x400 * n
def IL_FCNT2.SAT_D (n : Nat) : Field := ⟨IL_FCNT2.reg n, 31, 1⟩
def IL_FCNT2.DROP (n : Nat) : Field := ⟨IL_FCNT2.reg n, 16, 15⟩
def IL_FCNT2.SAT_A (n : Nat) : Field := ⟨IL_FCNT2.reg n, 15, 1⟩
def IL_FCNT2.ACC (n : Nat) : Field := ⟨IL_FCNT2.reg n, 0, 15⟩

/-- IL_CFG, HOST block, spec/06_survey_intent.md: Configures link IL_n. -/
def IL_CFG.reg (n : Nat) : Nat := 0x400A0800 + 0x40 * n
def IL_CFG.EN (n : Nat) : Field := ⟨IL_CFG.reg n, 31, 1⟩
def IL_CFG.TRSP (n : Nat) : Field := ⟨IL_CFG.reg n, 30, 1⟩
def IL_CFG.FRATE (n : Nat) : Field := ⟨IL_CFG.reg n, 16, 10⟩
def IL_CFG.TLEAD (n : Nat) : Field := ⟨IL_CFG.reg n, 8, 8⟩

/-- IL_LMASK, HOST block, spec/06_survey_intent.md: Names the loops the link may address. -/
def IL_LMASK.reg (n : Nat) : Nat := 0x400A0804 + 0x40 * n
def IL_LMASK.LOOPS (n : Nat) : Field := ⟨IL_LMASK.reg n, 0, 24⟩

/-- IL_TIME, HOST block, spec/06_survey_intent.md: Sets forecast judgement times (R126). -/
def IL_TIME.reg (n : Nat) : Nat := 0x400A0808 + 0x40 * n
def IL_TIME.WIN (n : Nat) : Field := ⟨IL_TIME.reg n, 8, 8⟩
def IL_TIME.THOLD (n : Nat) : Field := ⟨IL_TIME.reg n, 0, 8⟩

/-- IL_STAT, HOST block, spec/06_survey_intent.md: Reports the link. -/
def IL_STAT.reg (n : Nat) : Nat := 0x400A080C + 0x40 * n
def IL_STAT.READY (n : Nat) : Field := ⟨IL_STAT.reg n, 31, 1⟩
def IL_STAT.SEQ (n : Nat) : Field := ⟨IL_STAT.reg n, 0, 16⟩

/-- IL_ERR, HOST block, spec/06_survey_intent.md: Counts link errors since the last start. -/
def IL_ERR.reg (n : Nat) : Nat := 0x400A0810 + 0x40 * n
def IL_ERR.SAT_N (n : Nat) : Field := ⟨IL_ERR.reg n, 31, 1⟩
def IL_ERR.NACK (n : Nat) : Field := ⟨IL_ERR.reg n, 16, 15⟩
def IL_ERR.SAT_S (n : Nat) : Field := ⟨IL_ERR.reg n, 15, 1⟩
def IL_ERR.SHORT (n : Nat) : Field := ⟨IL_ERR.reg n, 0, 15⟩

/-- IL_LAST_TS_LO, HOST block, spec/06_survey_intent.md: Report the time of the last accepted command (R128). -/
def IL_LAST_TS_LO.reg (n : Nat) : Nat := 0x400A0818 + 0x40 * n
def IL_LAST_TS_LO.TS (n : Nat) : Field := ⟨IL_LAST_TS_LO.reg n, 0, 32⟩

/-- IL_LAST_TS_HI, HOST block, spec/06_survey_intent.md: Report the time of the last accepted command (R128). -/
def IL_LAST_TS_HI.reg (n : Nat) : Nat := 0x400A081C + 0x40 * n
def IL_LAST_TS_HI.TS (n : Nat) : Field := ⟨IL_LAST_TS_HI.reg n, 0, 32⟩

/-! Registers of spec/07_sequencer.md. -/

/-- SEQ_RAIL_CFG, SEQ block, spec/07_sequencer.md: Binds the rail (R129). -/
def SEQ_RAIL_CFG.reg (n : Nat) : Nat := 0x40030000 + 0x100 * n
def SEQ_RAIL_CFG.EN (n : Nat) : Field := ⟨SEQ_RAIL_CFG.reg n, 31, 1⟩
def SEQ_RAIL_CFG.KIND (n : Nat) : Field := ⟨SEQ_RAIL_CFG.reg n, 30, 1⟩
def SEQ_RAIL_CFG.AUTO (n : Nat) : Field := ⟨SEQ_RAIL_CFG.reg n, 29, 1⟩
def SEQ_RAIL_CFG.SAFE (n : Nat) : Field := ⟨SEQ_RAIL_CFG.reg n, 28, 1⟩
def SEQ_RAIL_CFG.GPPOL (n : Nat) : Field := ⟨SEQ_RAIL_CFG.reg n, 27, 1⟩
def SEQ_RAIL_CFG.INGRP (n : Nat) : Field := ⟨SEQ_RAIL_CFG.reg n, 26, 1⟩
def SEQ_RAIL_CFG.GRP (n : Nat) : Field := ⟨SEQ_RAIL_CFG.reg n, 20, 4⟩
def SEQ_RAIL_CFG.MON (n : Nat) : Field := ⟨SEQ_RAIL_CFG.reg n, 12, 6⟩
def SEQ_RAIL_CFG.GP (n : Nat) : Field := ⟨SEQ_RAIL_CFG.reg n, 5, 5⟩
def SEQ_RAIL_CFG.LOOP (n : Nat) : Field := ⟨SEQ_RAIL_CFG.reg n, 0, 5⟩

/-- SEQ_RAIL_QUAL, SEQ block, spec/07_sequencer.md: Sets qualification (R136). -/
def SEQ_RAIL_QUAL.reg (n : Nat) : Nat := 0x40030004 + 0x100 * n
def SEQ_RAIL_QUAL.CHAT (n : Nat) : Field := ⟨SEQ_RAIL_QUAL.reg n, 16, 8⟩
def SEQ_RAIL_QUAL.PGQ (n : Nat) : Field := ⟨SEQ_RAIL_QUAL.reg n, 0, 14⟩

/-- SEQ_RAIL_TMO, SEQ block, spec/07_sequencer.md: Sets the start and discharge time-outs. -/
def SEQ_RAIL_TMO.reg (n : Nat) : Nat := 0x40030008 + 0x100 * n
def SEQ_RAIL_TMO.OFFMAX (n : Nat) : Field := ⟨SEQ_RAIL_TMO.reg n, 16, 14⟩
def SEQ_RAIL_TMO.ONMAX (n : Nat) : Field := ⟨SEQ_RAIL_TMO.reg n, 0, 14⟩

/-- SEQ_RAIL_INRUSH, SEQ block, spec/07_sequencer.md: Declares inrush (R133, R137). -/
def SEQ_RAIL_INRUSH.reg (n : Nat) : Nat := 0x4003000C + 0x100 * n
def SEQ_RAIL_INRUSH.ICHEN (n : Nat) : Field := ⟨SEQ_RAIL_INRUSH.reg n, 31, 1⟩
def SEQ_RAIL_INRUSH.ICH (n : Nat) : Field := ⟨SEQ_RAIL_INRUSH.reg n, 16, 8⟩
def SEQ_RAIL_INRUSH.DECL (n : Nat) : Field := ⟨SEQ_RAIL_INRUSH.reg n, 0, 12⟩

/-- SEQ_RAIL_DEP_LO, SEQ block, spec/07_sequencer.md: Name local parents. -/
def SEQ_RAIL_DEP_LO.reg (n : Nat) : Nat := 0x40030010 + 0x100 * n
def SEQ_RAIL_DEP_LO.PARENT (n : Nat) : Field := ⟨SEQ_RAIL_DEP_LO.reg n, 0, 32⟩

/-- SEQ_RAIL_DEP_HI, SEQ block, spec/07_sequencer.md: Name local parents. -/
def SEQ_RAIL_DEP_HI.reg (n : Nat) : Nat := 0x40030014 + 0x100 * n
def SEQ_RAIL_DEP_HI.PARENT (n : Nat) : Field := ⟨SEQ_RAIL_DEP_HI.reg n, 0, 32⟩

/-- SEQ_RAIL_TERM, SEQ block, spec/07_sequencer.md: Enables the fabric and remote terms (R132). -/
def SEQ_RAIL_TERM.reg (n : Nat) : Nat := 0x40030018 + 0x100 * n
def SEQ_RAIL_TERM.FAB (n : Nat) : Field := ⟨SEQ_RAIL_TERM.reg n, 31, 1⟩
def SEQ_RAIL_TERM.REMEN (n : Nat) : Field := ⟨SEQ_RAIL_TERM.reg n, 0, 4⟩

/-- SEQ_RAIL_REM, SEQ block, spec/07_sequencer.md: Names remote terms. -/
def SEQ_RAIL_REM.reg (n : Nat) : Nat := 0x4003001C + 0x100 * n
def SEQ_RAIL_REM.REM3 (n : Nat) : Field := ⟨SEQ_RAIL_REM.reg n, 24, 8⟩
def SEQ_RAIL_REM.REM2 (n : Nat) : Field := ⟨SEQ_RAIL_REM.reg n, 16, 8⟩
def SEQ_RAIL_REM.REM1 (n : Nat) : Field := ⟨SEQ_RAIL_REM.reg n, 8, 8⟩
def SEQ_RAIL_REM.REM0 (n : Nat) : Field := ⟨SEQ_RAIL_REM.reg n, 0, 8⟩

/-- SEQ_RAIL_REACT, SEQ block, spec/07_sequencer.md: Sets the fault reaction (R140, R141). -/
def SEQ_RAIL_REACT.reg (n : Nat) : Nat := 0x40030020 + 0x100 * n
def SEQ_RAIL_REACT.REACT (n : Nat) : Field := ⟨SEQ_RAIL_REACT.reg n, 30, 2⟩
def SEQ_RAIL_REACT.EXH (n : Nat) : Field := ⟨SEQ_RAIL_REACT.reg n, 28, 2⟩
def SEQ_RAIL_REACT.RETRIES (n : Nat) : Field := ⟨SEQ_RAIL_REACT.reg n, 24, 4⟩
def SEQ_RAIL_REACT.RDLY (n : Nat) : Field := ⟨SEQ_RAIL_REACT.reg n, 0, 14⟩

/-- SEQ_RAIL_OFF, SEQ block, spec/07_sequencer.md: Sets the off test (R129). -/
def SEQ_RAIL_OFF.reg (n : Nat) : Nat := 0x40030024 + 0x100 * n
def SEQ_RAIL_OFF.CH (n : Nat) : Field := ⟨SEQ_RAIL_OFF.reg n, 16, 8⟩
def SEQ_RAIL_OFF.OFFV (n : Nat) : Field := ⟨SEQ_RAIL_OFF.reg n, 0, 12⟩

/-- SEQ_RAIL_CTRL, SEQ block, spec/07_sequencer.md: Requests the rail on or off. -/
def SEQ_RAIL_CTRL.reg (n : Nat) : Nat := 0x40030028 + 0x100 * n
def SEQ_RAIL_CTRL.KEY (n : Nat) : Field := ⟨SEQ_RAIL_CTRL.reg n, 24, 8⟩
def SEQ_RAIL_CTRL.CMD (n : Nat) : Field := ⟨SEQ_RAIL_CTRL.reg n, 0, 2⟩

/-- SEQ_RAIL_STATUS, SEQ block, spec/07_sequencer.md: Reports the rail. -/
def SEQ_RAIL_STATUS.reg (n : Nat) : Nat := 0x4003002C + 0x100 * n
def SEQ_RAIL_STATUS.STATE (n : Nat) : Field := ⟨SEQ_RAIL_STATUS.reg n, 28, 4⟩
def SEQ_RAIL_STATUS.CAUSE (n : Nat) : Field := ⟨SEQ_RAIL_STATUS.reg n, 25, 3⟩
def SEQ_RAIL_STATUS.PD (n : Nat) : Field := ⟨SEQ_RAIL_STATUS.reg n, 24, 1⟩
def SEQ_RAIL_STATUS.FLT (n : Nat) : Field := ⟨SEQ_RAIL_STATUS.reg n, 23, 1⟩
def SEQ_RAIL_STATUS.REQ (n : Nat) : Field := ⟨SEQ_RAIL_STATUS.reg n, 22, 1⟩
def SEQ_RAIL_STATUS.WFAB (n : Nat) : Field := ⟨SEQ_RAIL_STATUS.reg n, 21, 1⟩
def SEQ_RAIL_STATUS.WREM (n : Nat) : Field := ⟨SEQ_RAIL_STATUS.reg n, 20, 1⟩
def SEQ_RAIL_STATUS.WLOC (n : Nat) : Field := ⟨SEQ_RAIL_STATUS.reg n, 19, 1⟩
def SEQ_RAIL_STATUS.WBUD (n : Nat) : Field := ⟨SEQ_RAIL_STATUS.reg n, 18, 1⟩
def SEQ_RAIL_STATUS.WSTAG (n : Nat) : Field := ⟨SEQ_RAIL_STATUS.reg n, 17, 1⟩
def SEQ_RAIL_STATUS.RANK (n : Nat) : Field := ⟨SEQ_RAIL_STATUS.reg n, 0, 6⟩

/-- SEQ_RAIL_CNT, SEQ block, spec/07_sequencer.md: Counts faults, retries and chatter. -/
def SEQ_RAIL_CNT.reg (n : Nat) : Nat := 0x40030030 + 0x100 * n
def SEQ_RAIL_CNT.SAT_F (n : Nat) : Field := ⟨SEQ_RAIL_CNT.reg n, 31, 1⟩
def SEQ_RAIL_CNT.FAULTS (n : Nat) : Field := ⟨SEQ_RAIL_CNT.reg n, 16, 15⟩
def SEQ_RAIL_CNT.RETRY (n : Nat) : Field := ⟨SEQ_RAIL_CNT.reg n, 12, 4⟩
def SEQ_RAIL_CNT.SAT_R (n : Nat) : Field := ⟨SEQ_RAIL_CNT.reg n, 11, 1⟩
def SEQ_RAIL_CNT.CHAT (n : Nat) : Field := ⟨SEQ_RAIL_CNT.reg n, 0, 8⟩

/-- SEQ_RAIL_INRPK, SEQ block, spec/07_sequencer.md: Reports the measured inrush of the last start (R137). -/
def SEQ_RAIL_INRPK.reg (n : Nat) : Nat := 0x40030034 + 0x100 * n
def SEQ_RAIL_INRPK.PEAK (n : Nat) : Field := ⟨SEQ_RAIL_INRPK.reg n, 0, 12⟩

/-- SEQ_RAIL_TON, SEQ block, spec/07_sequencer.md: Reports the time from start issue to GOOD of the last start. -/
def SEQ_RAIL_TON.reg (n : Nat) : Nat := 0x40030038 + 0x100 * n
def SEQ_RAIL_TON.TON (n : Nat) : Field := ⟨SEQ_RAIL_TON.reg n, 0, 24⟩

/-- SEQ_GRP_CFG, SEQ block, spec/07_sequencer.md: Sets the group's re-sequencing (R142). -/
def SEQ_GRP_CFG.reg (g : Nat) : Nat := 0x40034000 + 0x10 * g
def SEQ_GRP_CFG.RESEQ (g : Nat) : Field := ⟨SEQ_GRP_CFG.reg g, 31, 1⟩
def SEQ_GRP_CFG.MAXRS (g : Nat) : Field := ⟨SEQ_GRP_CFG.reg g, 24, 4⟩
def SEQ_GRP_CFG.RSDLY (g : Nat) : Field := ⟨SEQ_GRP_CFG.reg g, 0, 14⟩

/-- SEQ_GRP_CTRL, SEQ block, spec/07_sequencer.md: Requests a group shut-down. -/
def SEQ_GRP_CTRL.reg (g : Nat) : Nat := 0x40034004 + 0x10 * g
def SEQ_GRP_CTRL.KEY (g : Nat) : Field := ⟨SEQ_GRP_CTRL.reg g, 24, 8⟩
def SEQ_GRP_CTRL.SHUT (g : Nat) : Field := ⟨SEQ_GRP_CTRL.reg g, 0, 1⟩

/-- SEQ_GRP_STATUS, SEQ block, spec/07_sequencer.md: Reports the group. -/
def SEQ_GRP_STATUS.reg (g : Nat) : Nat := 0x40034008 + 0x10 * g
def SEQ_GRP_STATUS.STATE (g : Nat) : Field := ⟨SEQ_GRP_STATUS.reg g, 30, 2⟩
def SEQ_GRP_STATUS.EXH (g : Nat) : Field := ⟨SEQ_GRP_STATUS.reg g, 29, 1⟩
def SEQ_GRP_STATUS.SAT (g : Nat) : Field := ⟨SEQ_GRP_STATUS.reg g, 28, 1⟩
def SEQ_GRP_STATUS.RSCNT (g : Nat) : Field := ⟨SEQ_GRP_STATUS.reg g, 24, 4⟩

/-- SEQ_CFG, SEQ block, spec/07_sequencer.md: Sets stagger, retry clearing and the battery group (R133, R141, R149). -/
def SEQ_CFG.reg : Nat := 0x40035000
def SEQ_CFG.BATEN : Field := ⟨SEQ_CFG.reg, 31, 1⟩
def SEQ_CFG.BATGRP : Field := ⟨SEQ_CFG.reg, 24, 4⟩
def SEQ_CFG.TRC : Field := ⟨SEQ_CFG.reg, 16, 8⟩
def SEQ_CFG.TSTAG : Field := ⟨SEQ_CFG.reg, 0, 10⟩

/-- SEQ_BUDGET, SEQ block, spec/07_sequencer.md: Sets the inrush budgets (R134). -/
def SEQ_BUDGET.reg : Nat := 0x40035004
def SEQ_BUDGET.BAT : Field := ⟨SEQ_BUDGET.reg, 16, 16⟩
def SEQ_BUDGET.VIN : Field := ⟨SEQ_BUDGET.reg, 0, 16⟩

/-- SEQ_SYS, SEQ block, spec/07_sequencer.md: Sets the system reset (R142). -/
def SEQ_SYS.reg : Nat := 0x40035008
def SEQ_SYS.RSTOM : Field := ⟨SEQ_SYS.reg, 24, 8⟩
def SEQ_SYS.MAXSR : Field := ⟨SEQ_SYS.reg, 20, 4⟩
def SEQ_SYS.TSTABLE : Field := ⟨SEQ_SYS.reg, 8, 8⟩
def SEQ_SYS.THOLD : Field := ⟨SEQ_SYS.reg, 0, 8⟩

/-- SEQ_STATUS, SEQ block, spec/07_sequencer.md: Reports the sequencer. -/
def SEQ_STATUS.reg : Nat := 0x4003500C
def SEQ_STATUS.REACT : Field := ⟨SEQ_STATUS.reg, 29, 3⟩
def SEQ_STATUS.HALT : Field := ⟨SEQ_STATUS.reg, 28, 1⟩
def SEQ_STATUS.OVERBUD : Field := ⟨SEQ_STATUS.reg, 27, 1⟩
def SEQ_STATUS.ONBAT : Field := ⟨SEQ_STATUS.reg, 26, 1⟩
def SEQ_STATUS.SYSCNT : Field := ⟨SEQ_STATUS.reg, 22, 4⟩
def SEQ_STATUS.SAT : Field := ⟨SEQ_STATUS.reg, 21, 1⟩
def SEQ_STATUS.RAMPSUM : Field := ⟨SEQ_STATUS.reg, 0, 16⟩

/-- SEQ_CTRL, SEQ block, spec/07_sequencer.md: Resumes after HALT. -/
def SEQ_CTRL.reg : Nat := 0x40035010
def SEQ_CTRL.KEY : Field := ⟨SEQ_CTRL.reg, 24, 8⟩
def SEQ_CTRL.RESUME : Field := ⟨SEQ_CTRL.reg, 0, 1⟩

/-- SEQ_SNAP, SEQ block, spec/07_sequencer.md: Reports snapshot capture (R147, R148). -/
def SEQ_SNAP.reg : Nat := 0x40035014
def SEQ_SNAP.SAT : Field := ⟨SEQ_SNAP.reg, 31, 1⟩
def SEQ_SNAP.MERGED : Field := ⟨SEQ_SNAP.reg, 16, 15⟩
def SEQ_SNAP.BUSY : Field := ⟨SEQ_SNAP.reg, 7, 3⟩
def SEQ_SNAP.PEND : Field := ⟨SEQ_SNAP.reg, 0, 7⟩

/-! Registers of spec/08_supervisors.md. -/

/-- SUP_MON_CFG, SUP block, spec/08_supervisors.md: Configures monitor n. -/
def SUP_MON_CFG.reg (n : Nat) : Nat := 0x40040000 + 0x10 * n
def SUP_MON_CFG.EN (n : Nat) : Field := ⟨SUP_MON_CFG.reg n, 31, 1⟩
def SUP_MON_CFG.FSEN (n : Nat) : Field := ⟨SUP_MON_CFG.reg n, 30, 1⟩
def SUP_MON_CFG.RSEN (n : Nat) : Field := ⟨SUP_MON_CFG.reg n, 29, 1⟩
def SUP_MON_CFG.RSTO (n : Nat) : Field := ⟨SUP_MON_CFG.reg n, 26, 3⟩
def SUP_MON_CFG.FILT (n : Nat) : Field := ⟨SUP_MON_CFG.reg n, 16, 7⟩
def SUP_MON_CFG.HYS (n : Nat) : Field := ⟨SUP_MON_CFG.reg n, 0, 4⟩

/-- SUP_MON_THR, SUP block, spec/08_supervisors.md: Sets monitor n's thresholds. -/
def SUP_MON_THR.reg (n : Nat) : Nat := 0x40040004 + 0x10 * n
def SUP_MON_THR.HI (n : Nat) : Field := ⟨SUP_MON_THR.reg n, 16, 10⟩
def SUP_MON_THR.LO (n : Nat) : Field := ⟨SUP_MON_THR.reg n, 0, 10⟩

/-- SUP_MON_STATUS, SUP block, spec/08_supervisors.md: Reports monitor n. -/
def SUP_MON_STATUS.reg (n : Nat) : Nat := 0x40040008 + 0x10 * n
def SUP_MON_STATUS.INSIDE (n : Nat) : Field := ⟨SUP_MON_STATUS.reg n, 31, 1⟩
def SUP_MON_STATUS.ABOVE (n : Nat) : Field := ⟨SUP_MON_STATUS.reg n, 30, 1⟩
def SUP_MON_STATUS.BELOW (n : Nat) : Field := ⟨SUP_MON_STATUS.reg n, 29, 1⟩
def SUP_MON_STATUS.ARMED (n : Nat) : Field := ⟨SUP_MON_STATUS.reg n, 28, 1⟩
def SUP_MON_STATUS.BOUND (n : Nat) : Field := ⟨SUP_MON_STATUS.reg n, 27, 1⟩
def SUP_MON_STATUS.SAT (n : Nat) : Field := ⟨SUP_MON_STATUS.reg n, 16, 1⟩
def SUP_MON_STATUS.COUNT (n : Nat) : Field := ⟨SUP_MON_STATUS.reg n, 0, 16⟩

/-- SUP_VIN_THR, SUP block, spec/08_supervisors.md: Sets the VIN window. -/
def SUP_VIN_THR.reg : Nat := 0x40040400
def SUP_VIN_THR.OVT : Field := ⟨SUP_VIN_THR.reg, 16, 10⟩
def SUP_VIN_THR.UVT : Field := ⟨SUP_VIN_THR.reg, 0, 10⟩

/-- SUP_VIN_CFG, SUP block, spec/08_supervisors.md: Sets the loss comparator and the window filter. -/
def SUP_VIN_CFG.reg : Nat := 0x40040404
def SUP_VIN_CFG.LOSS : Field := ⟨SUP_VIN_CFG.reg, 16, 10⟩
def SUP_VIN_CFG.LFILT : Field := ⟨SUP_VIN_CFG.reg, 12, 3⟩
def SUP_VIN_CFG.WFILT : Field := ⟨SUP_VIN_CFG.reg, 0, 8⟩

/-- SUP_VIN_STATUS, SUP block, spec/08_supervisors.md: Reports the VIN supervisors. -/
def SUP_VIN_STATUS.reg : Nat := 0x40040408
def SUP_VIN_STATUS.LOSS : Field := ⟨SUP_VIN_STATUS.reg, 31, 1⟩
def SUP_VIN_STATUS.LOW : Field := ⟨SUP_VIN_STATUS.reg, 30, 1⟩
def SUP_VIN_STATUS.HIGH : Field := ⟨SUP_VIN_STATUS.reg, 29, 1⟩
def SUP_VIN_STATUS.SAT : Field := ⟨SUP_VIN_STATUS.reg, 16, 1⟩
def SUP_VIN_STATUS.COUNT : Field := ⟨SUP_VIN_STATUS.reg, 0, 16⟩

/-- SUP_RSTO_CFG, SUP block, spec/08_supervisors.md: Configures the output (R157, R158). -/
def SUP_RSTO_CFG.reg (n : Nat) : Nat := 0x40040500 + 0x10 * n
def SUP_RSTO_CFG.EN (n : Nat) : Field := ⟨SUP_RSTO_CFG.reg n, 31, 1⟩
def SUP_RSTO_CFG.SRC (n : Nat) : Field := ⟨SUP_RSTO_CFG.reg n, 24, 4⟩
def SUP_RSTO_CFG.MINW (n : Nat) : Field := ⟨SUP_RSTO_CFG.reg n, 16, 8⟩
def SUP_RSTO_CFG.RDLY (n : Nat) : Field := ⟨SUP_RSTO_CFG.reg n, 0, 12⟩

/-- SUP_RSTO_GATE_LO, SUP block, spec/08_supervisors.md: Name the gating rails. -/
def SUP_RSTO_GATE_LO.reg (n : Nat) : Nat := 0x40040504 + 0x10 * n
def SUP_RSTO_GATE_LO.RAIL (n : Nat) : Field := ⟨SUP_RSTO_GATE_LO.reg n, 0, 32⟩

/-- SUP_RSTO_GATE_HI, SUP block, spec/08_supervisors.md: Name the gating rails. -/
def SUP_RSTO_GATE_HI.reg (n : Nat) : Nat := 0x40040508 + 0x10 * n
def SUP_RSTO_GATE_HI.RAIL (n : Nat) : Field := ⟨SUP_RSTO_GATE_HI.reg n, 0, 32⟩

/-- SUP_RSTO_STATUS, SUP block, spec/08_supervisors.md: Reports the output. -/
def SUP_RSTO_STATUS.reg (n : Nat) : Nat := 0x4004050C + 0x10 * n
def SUP_RSTO_STATUS.LOW (n : Nat) : Field := ⟨SUP_RSTO_STATUS.reg n, 31, 1⟩
def SUP_RSTO_STATUS.DELAY (n : Nat) : Field := ⟨SUP_RSTO_STATUS.reg n, 30, 1⟩
def SUP_RSTO_STATUS.ACT (n : Nat) : Field := ⟨SUP_RSTO_STATUS.reg n, 25, 5⟩
def SUP_RSTO_STATUS.SAT (n : Nat) : Field := ⟨SUP_RSTO_STATUS.reg n, 16, 1⟩
def SUP_RSTO_STATUS.COUNT (n : Nat) : Field := ⟨SUP_RSTO_STATUS.reg n, 0, 16⟩

/-- SUP_WD_CFG, SUP block, spec/08_supervisors.md: Configures the watchdog (R160, R164, R165). -/
def SUP_WD_CFG.reg : Nat := 0x40040600
def SUP_WD_CFG.EN : Field := ⟨SUP_WD_CFG.reg, 31, 1⟩
def SUP_WD_CFG.RSTO : Field := ⟨SUP_WD_CFG.reg, 28, 3⟩
def SUP_WD_CFG.RSEN : Field := ⟨SUP_WD_CFG.reg, 27, 1⟩
def SUP_WD_CFG.ERRLIM : Field := ⟨SUP_WD_CFG.reg, 24, 3⟩
def SUP_WD_CFG.TFIRST : Field := ⟨SUP_WD_CFG.reg, 16, 8⟩
def SUP_WD_CFG.OPEN : Field := ⟨SUP_WD_CFG.reg, 8, 8⟩
def SUP_WD_CFG.CLOSED : Field := ⟨SUP_WD_CFG.reg, 0, 8⟩

/-- SUP_WD_KEY, SUP block, spec/08_supervisors.md: Holds the answer key (R161). -/
def SUP_WD_KEY.reg : Nat := 0x40040604
def SUP_WD_KEY.KEY : Field := ⟨SUP_WD_KEY.reg, 0, 16⟩

/-- SUP_WD_CHAL, SUP block, spec/08_supervisors.md: Shows the present challenge. -/
def SUP_WD_CHAL.reg : Nat := 0x40040608
def SUP_WD_CHAL.CHAL : Field := ⟨SUP_WD_CHAL.reg, 0, 16⟩

/-- SUP_WD_ANS, SUP block, spec/08_supervisors.md: Takes the host's answer; each write is judged (R160). -/
def SUP_WD_ANS.reg : Nat := 0x4004060C
def SUP_WD_ANS.ANS : Field := ⟨SUP_WD_ANS.reg, 0, 16⟩

/-- SUP_WD_STATUS, SUP block, spec/08_supervisors.md: Reports the watchdog. -/
def SUP_WD_STATUS.reg : Nat := 0x40040610
def SUP_WD_STATUS.STATE : Field := ⟨SUP_WD_STATUS.reg, 29, 3⟩
def SUP_WD_STATUS.EXP : Field := ⟨SUP_WD_STATUS.reg, 28, 1⟩
def SUP_WD_STATUS.ERRCNT : Field := ⟨SUP_WD_STATUS.reg, 24, 3⟩
def SUP_WD_STATUS.SEQ : Field := ⟨SUP_WD_STATUS.reg, 0, 16⟩

/-- SUP_WD_CNT, SUP block, spec/08_supervisors.md: Counts watchdog errors since the start. -/
def SUP_WD_CNT.reg : Nat := 0x40040614
def SUP_WD_CNT.SAT_B : Field := ⟨SUP_WD_CNT.reg, 31, 1⟩
def SUP_WD_CNT.BAD : Field := ⟨SUP_WD_CNT.reg, 20, 11⟩
def SUP_WD_CNT.SAT_T : Field := ⟨SUP_WD_CNT.reg, 19, 1⟩
def SUP_WD_CNT.TOUT : Field := ⟨SUP_WD_CNT.reg, 8, 11⟩
def SUP_WD_CNT.SAT_E : Field := ⟨SUP_WD_CNT.reg, 7, 1⟩
def SUP_WD_CNT.EXPC : Field := ⟨SUP_WD_CNT.reg, 0, 7⟩

/-! Registers of spec/09_backup_path.md. -/

/-- PATH_CFG, PATH block, spec/09_backup_path.md: Enables hand-over triggers and sets soft start and the declared input limit. -/
def PATH_CFG.reg : Nat := 0x40060000
def PATH_CFG.HOEN : Field := ⟨PATH_CFG.reg, 31, 1⟩
def PATH_CFG.REVEN : Field := ⟨PATH_CFG.reg, 30, 1⟩
def PATH_CFG.VLEN : Field := ⟨PATH_CFG.reg, 29, 1⟩
def PATH_CFG.LOSSEN : Field := ⟨PATH_CFG.reg, 28, 1⟩
def PATH_CFG.TINH : Field := ⟨PATH_CFG.reg, 27, 1⟩
def PATH_CFG.PEEREN : Field := ⟨PATH_CFG.reg, 26, 1⟩
def PATH_CFG.SSR : Field := ⟨PATH_CFG.reg, 16, 8⟩
def PATH_CFG.IIN : Field := ⟨PATH_CFG.reg, 0, 12⟩

/-- PATH_VSYS, PATH block, spec/09_backup_path.md: Sets the VSYS levels. -/
def PATH_VSYS.reg : Nat := 0x40060004
def PATH_VSYS.VOK : Field := ⟨PATH_VSYS.reg, 16, 10⟩
def PATH_VSYS.VLOW : Field := ⟨PATH_VSYS.reg, 0, 10⟩

/-- PATH_RET, PATH block, spec/09_backup_path.md: Sets the return (R174, R175). -/
def PATH_RET.reg : Nat := 0x40060008
def PATH_RET.TRET : Field := ⟨PATH_RET.reg, 16, 9⟩
def PATH_RET.DMAX : Field := ⟨PATH_RET.reg, 0, 8⟩

/-- PATH_BAT, PATH block, spec/09_backup_path.md: Describes the pack. -/
def PATH_BAT.reg : Nat := 0x4006000C
def PATH_BAT.NCELL : Field := ⟨PATH_BAT.reg, 28, 3⟩
def PATH_BAT.VWARN : Field := ⟨PATH_BAT.reg, 18, 9⟩
def PATH_BAT.VCUT : Field := ⟨PATH_BAT.reg, 0, 9⟩

/-- PATH_STATUS, PATH block, spec/09_backup_path.md: Reports the path. -/
def PATH_STATUS.reg : Nat := 0x40060010
def PATH_STATUS.STATE : Field := ⟨PATH_STATUS.reg, 28, 4⟩
def PATH_STATUS.TRIG : Field := ⟨PATH_STATUS.reg, 25, 3⟩
def PATH_STATUS.PRESENT : Field := ⟨PATH_STATUS.reg, 24, 1⟩
def PATH_STATUS.ABSENT : Field := ⟨PATH_STATUS.reg, 23, 1⟩
def PATH_STATUS.INHIBIT : Field := ⟨PATH_STATUS.reg, 22, 1⟩
def PATH_STATUS.BSW_SLOW : Field := ⟨PATH_STATUS.reg, 21, 1⟩
def PATH_STATUS.VSYS_OK : Field := ⟨PATH_STATUS.reg, 20, 1⟩
def PATH_STATUS.VIN_STABLE : Field := ⟨PATH_STATUS.reg, 19, 1⟩
def PATH_STATUS.WARN : Field := ⟨PATH_STATUS.reg, 18, 1⟩
def PATH_STATUS.CUT : Field := ⟨PATH_STATUS.reg, 17, 1⟩
def PATH_STATUS.PEER : Field := ⟨PATH_STATUS.reg, 15, 2⟩
def PATH_STATUS.SSFAIL : Field := ⟨PATH_STATUS.reg, 14, 1⟩

/-- PATH_CNT, PATH block, spec/09_backup_path.md: Counts transitions since the start. -/
def PATH_CNT.reg : Nat := 0x40060014
def PATH_CNT.SAT_H : Field := ⟨PATH_CNT.reg, 31, 1⟩
def PATH_CNT.HO : Field := ⟨PATH_CNT.reg, 16, 15⟩
def PATH_CNT.SAT_R : Field := ⟨PATH_CNT.reg, 15, 1⟩
def PATH_CNT.RET : Field := ⟨PATH_CNT.reg, 0, 15⟩

/-- PATH_CNT2, PATH block, spec/09_backup_path.md: Counts failed returns since the start (R176). -/
def PATH_CNT2.reg : Nat := 0x40060018
def PATH_CNT2.SAT_A : Field := ⟨PATH_CNT2.reg, 31, 1⟩
def PATH_CNT2.RETABORT : Field := ⟨PATH_CNT2.reg, 16, 15⟩
def PATH_CNT2.SAT_F : Field := ⟨PATH_CNT2.reg, 15, 1⟩
def PATH_CNT2.RETFAIL : Field := ⟨PATH_CNT2.reg, 0, 15⟩

/-- PATH_HO_TS_LO, PATH block, spec/09_backup_path.md: Report the time of the last hand-over trigger. -/
def PATH_HO_TS_LO.reg : Nat := 0x40060020
def PATH_HO_TS_LO.TS : Field := ⟨PATH_HO_TS_LO.reg, 0, 32⟩

/-- PATH_HO_TS_HI, PATH block, spec/09_backup_path.md: Report the time of the last hand-over trigger. -/
def PATH_HO_TS_HI.reg : Nat := 0x40060024
def PATH_HO_TS_HI.TS : Field := ⟨PATH_HO_TS_HI.reg, 0, 32⟩

/-- PATH_HO_DLY, PATH block, spec/09_backup_path.md: Reports the last hand-over's delay. -/
def PATH_HO_DLY.reg : Nat := 0x40060028
def PATH_HO_DLY.DLY : Field := ⟨PATH_HO_DLY.reg, 0, 16⟩

/-- PATH_CHG_CFG, PATH block, spec/09_backup_path.md: Configures the charger. -/
def PATH_CHG_CFG.reg : Nat := 0x40060040
def PATH_CHG_CFG.EN : Field := ⟨PATH_CHG_CFG.reg, 31, 1⟩
def PATH_CHG_CFG.CHGIN : Field := ⟨PATH_CHG_CFG.reg, 30, 1⟩
def PATH_CHG_CFG.FSW : Field := ⟨PATH_CHG_CFG.reg, 16, 8⟩
def PATH_CHG_CFG.RSH : Field := ⟨PATH_CHG_CFG.reg, 8, 8⟩
def PATH_CHG_CFG.VCHG : Field := ⟨PATH_CHG_CFG.reg, 0, 8⟩

/-- PATH_CHG_PRE, PATH block, spec/09_backup_path.md: Sets pre-charge (R179). -/
def PATH_CHG_PRE.reg : Nat := 0x40060044
def PATH_CHG_PRE.TPRE : Field := ⟨PATH_CHG_PRE.reg, 24, 8⟩
def PATH_CHG_PRE.IPRE : Field := ⟨PATH_CHG_PRE.reg, 16, 8⟩
def PATH_CHG_PRE.VPRE : Field := ⟨PATH_CHG_PRE.reg, 0, 9⟩

/-- PATH_CHG_STEP, PATH block, spec/09_backup_path.md: Set CC step s (R180). -/
def PATH_CHG_STEP.reg (s : Nat) : Nat := 0x40060048 + 0x4 * s
def PATH_CHG_STEP.EN (s : Nat) : Field := ⟨PATH_CHG_STEP.reg s, 31, 1⟩
def PATH_CHG_STEP.I (s : Nat) : Field := ⟨PATH_CHG_STEP.reg s, 16, 8⟩
def PATH_CHG_STEP.VEND (s : Nat) : Field := ⟨PATH_CHG_STEP.reg s, 0, 8⟩

/-- PATH_CHG_TERM, PATH block, spec/09_backup_path.md: Sets termination, recharge and the fast-charge timer. -/
def PATH_CHG_TERM.reg : Nat := 0x40060058
def PATH_CHG_TERM.TFAST : Field := ⟨PATH_CHG_TERM.reg, 24, 8⟩
def PATH_CHG_TERM.ITERM : Field := ⟨PATH_CHG_TERM.reg, 16, 8⟩
def PATH_CHG_TERM.VRCH : Field := ⟨PATH_CHG_TERM.reg, 8, 8⟩

/-- PATH_ZONE, PATH block, spec/09_backup_path.md: Define zone Z_k (R181). -/
def PATH_ZONE.reg (k : Nat) : Nat := 0x40060060 + 0x4 * k
def PATH_ZONE.CHG (k : Nat) : Field := ⟨PATH_ZONE.reg k, 31, 1⟩
def PATH_ZONE.DSG (k : Nat) : Field := ⟨PATH_ZONE.reg k, 30, 1⟩
def PATH_ZONE.TMAX (k : Nat) : Field := ⟨PATH_ZONE.reg k, 16, 8⟩
def PATH_ZONE.ICAP (k : Nat) : Field := ⟨PATH_ZONE.reg k, 8, 8⟩
def PATH_ZONE.VCAP (k : Nat) : Field := ⟨PATH_ZONE.reg k, 0, 8⟩

/-- PATH_TS_CFG, PATH block, spec/09_backup_path.md: Describes the pack NTC (R181). -/
def PATH_TS_CFG.reg : Nat := 0x40060078
def PATH_TS_CFG.HYS : Field := ⟨PATH_TS_CFG.reg, 24, 4⟩
def PATH_TS_CFG.NOM : Field := ⟨PATH_TS_CFG.reg, 16, 1⟩
def PATH_TS_CFG.BETA : Field := ⟨PATH_TS_CFG.reg, 0, 16⟩

/-- PATH_CHG_SOFT, PATH block, spec/09_backup_path.md: Carries engine limits below the hardware limits (R182). -/
def PATH_CHG_SOFT.reg : Nat := 0x4006007C
def PATH_CHG_SOFT.EN : Field := ⟨PATH_CHG_SOFT.reg, 31, 1⟩
def PATH_CHG_SOFT.ISOFT : Field := ⟨PATH_CHG_SOFT.reg, 16, 8⟩
def PATH_CHG_SOFT.VSOFT : Field := ⟨PATH_CHG_SOFT.reg, 0, 8⟩

/-- PATH_CHG_CTRL, PATH block, spec/09_backup_path.md: Issues charger commands. -/
def PATH_CHG_CTRL.reg : Nat := 0x40060080
def PATH_CHG_CTRL.KEY : Field := ⟨PATH_CHG_CTRL.reg, 24, 8⟩
def PATH_CHG_CTRL.CMD : Field := ⟨PATH_CHG_CTRL.reg, 0, 2⟩

/-- PATH_CHG_STATUS, PATH block, spec/09_backup_path.md: Reports the charger. -/
def PATH_CHG_STATUS.reg : Nat := 0x40060084
def PATH_CHG_STATUS.STATE : Field := ⟨PATH_CHG_STATUS.reg, 28, 4⟩
def PATH_CHG_STATUS.ZONE : Field := ⟨PATH_CHG_STATUS.reg, 25, 3⟩
def PATH_CHG_STATUS.STEP : Field := ⟨PATH_CHG_STATUS.reg, 23, 2⟩
def PATH_CHG_STATUS.CAUSE : Field := ⟨PATH_CHG_STATUS.reg, 20, 3⟩
def PATH_CHG_STATUS.ZCAP : Field := ⟨PATH_CHG_STATUS.reg, 19, 1⟩
def PATH_CHG_STATUS.SCAP : Field := ⟨PATH_CHG_STATUS.reg, 18, 1⟩
def PATH_CHG_STATUS.PRES : Field := ⟨PATH_CHG_STATUS.reg, 16, 2⟩

/-- PATH_CHG_MEAS, PATH block, spec/09_backup_path.md: Reports the charger's own measurements, refreshed every 1 ms. -/
def PATH_CHG_MEAS.reg : Nat := 0x40060088
def PATH_CHG_MEAS.VBAT : Field := ⟨PATH_CHG_MEAS.reg, 16, 16⟩
def PATH_CHG_MEAS.IBAT : Field := ⟨PATH_CHG_MEAS.reg, 0, 16⟩

/-- PATH_CHG_TMR, PATH block, spec/09_backup_path.md: Reports the safety timers. -/
def PATH_CHG_TMR.reg : Nat := 0x4006008C
def PATH_CHG_TMR.FAST : Field := ⟨PATH_CHG_TMR.reg, 16, 16⟩
def PATH_CHG_TMR.PRE : Field := ⟨PATH_CHG_TMR.reg, 0, 16⟩

/-- PATH_PEER, PATH block, spec/09_backup_path.md: Sets the peer port (R187, R188). -/
def PATH_PEER.reg : Nat := 0x40060090
def PATH_PEER.MODE : Field := ⟨PATH_PEER.reg, 30, 2⟩
def PATH_PEER.V : Field := ⟨PATH_PEER.reg, 16, 10⟩
def PATH_PEER.I : Field := ⟨PATH_PEER.reg, 0, 7⟩

/-- PATH_SVC, PATH block, spec/09_backup_path.md: Sets the long press (R190); held in the base-note domain. -/
def PATH_SVC.reg : Nat := 0x40060094
def PATH_SVC.LPT : Field := ⟨PATH_SVC.reg, 24, 5⟩
def PATH_SVC.LPACT : Field := ⟨PATH_SVC.reg, 1, 1⟩
def PATH_SVC.LPDONE : Field := ⟨PATH_SVC.reg, 0, 1⟩

/-! Registers of spec/10_measurement.md. -/

/-- MEAS_CH_CFG, MEAS block, spec/10_measurement.md: Configures the channel. -/
def MEAS_CH_CFG.reg (c : Nat) : Nat := 0x40050000 + 0x10 * c
def MEAS_CH_CFG.EN (c : Nat) : Field := ⟨MEAS_CH_CFG.reg c, 31, 1⟩
def MEAS_CH_CFG.OWEN (c : Nat) : Field := ⟨MEAS_CH_CFG.reg c, 30, 1⟩
def MEAS_CH_CFG.GAIN (c : Nat) : Field := ⟨MEAS_CH_CFG.reg c, 27, 3⟩
def MEAS_CH_CFG.DWELL (c : Nat) : Field := ⟨MEAS_CH_CFG.reg c, 16, 7⟩

/-- MEAS_CH_SCALE, MEAS block, spec/10_measurement.md: Scales a MON or AUX channel (R195); ignored on other channels. -/
def MEAS_CH_SCALE.reg (c : Nat) : Nat := 0x40050004 + 0x10 * c
def MEAS_CH_SCALE.UNIT (c : Nat) : Field := ⟨MEAS_CH_SCALE.reg c, 31, 1⟩
def MEAS_CH_SCALE.MUL (c : Nat) : Field := ⟨MEAS_CH_SCALE.reg c, 0, 24⟩

/-- MEAS_CH_STATUS, MEAS block, spec/10_measurement.md: Reports the channel. -/
def MEAS_CH_STATUS.reg (c : Nat) : Nat := 0x40050008 + 0x10 * c
def MEAS_CH_STATUS.LV (c : Nat) : Field := ⟨MEAS_CH_STATUS.reg c, 31, 1⟩
def MEAS_CH_STATUS.OPEN (c : Nat) : Field := ⟨MEAS_CH_STATUS.reg c, 30, 1⟩
def MEAS_CH_STATUS.OVR (c : Nat) : Field := ⟨MEAS_CH_STATUS.reg c, 29, 1⟩
def MEAS_CH_STATUS.ASAT (c : Nat) : Field := ⟨MEAS_CH_STATUS.reg c, 28, 1⟩
def MEAS_CH_STATUS.OWDEF (c : Nat) : Field := ⟨MEAS_CH_STATUS.reg c, 27, 1⟩
def MEAS_CH_STATUS.SCLR (c : Nat) : Field := ⟨MEAS_CH_STATUS.reg c, 26, 1⟩
def MEAS_CH_STATUS.XCK (c : Nat) : Field := ⟨MEAS_CH_STATUS.reg c, 25, 1⟩

/-- MEAS_MC_CFG, MEAS block, spec/10_measurement.md: Configures the converter. -/
def MEAS_MC_CFG.reg (k : Nat) : Nat := 0x40051000 + 0x20 * k
def MEAS_MC_CFG.EN (k : Nat) : Field := ⟨MEAS_MC_CFG.reg k, 31, 1⟩
def MEAS_MC_CFG.OSR (k : Nat) : Field := ⟨MEAS_MC_CFG.reg k, 24, 3⟩
def MEAS_MC_CFG.OWP (k : Nat) : Field := ⟨MEAS_MC_CFG.reg k, 16, 8⟩
def MEAS_MC_CFG.OWTH (k : Nat) : Field := ⟨MEAS_MC_CFG.reg k, 8, 8⟩

/-- MEAS_MC_STATUS, MEAS block, spec/10_measurement.md: Reports the converter. -/
def MEAS_MC_STATUS.reg (k : Nat) : Nat := 0x40051004 + 0x20 * k
def MEAS_MC_STATUS.RUN (k : Nat) : Field := ⟨MEAS_MC_STATUS.reg k, 31, 1⟩
def MEAS_MC_STATUS.URG (k : Nat) : Field := ⟨MEAS_MC_STATUS.reg k, 30, 1⟩
def MEAS_MC_STATUS.CH (k : Nat) : Field := ⟨MEAS_MC_STATUS.reg k, 25, 5⟩
def MEAS_MC_STATUS.UQ (k : Nat) : Field := ⟨MEAS_MC_STATUS.reg k, 22, 3⟩
def MEAS_MC_STATUS.ROUNDT (k : Nat) : Field := ⟨MEAS_MC_STATUS.reg k, 0, 22⟩

/-- MEAS_MC_CNT, MEAS block, spec/10_measurement.md: Counts urgent conversions since the start. -/
def MEAS_MC_CNT.reg (k : Nat) : Nat := 0x40051008 + 0x20 * k
def MEAS_MC_CNT.SAT_D (k : Nat) : Field := ⟨MEAS_MC_CNT.reg k, 31, 1⟩
def MEAS_MC_CNT.DROP (k : Nat) : Field := ⟨MEAS_MC_CNT.reg k, 16, 15⟩
def MEAS_MC_CNT.SAT_U (k : Nat) : Field := ⟨MEAS_MC_CNT.reg k, 15, 1⟩
def MEAS_MC_CNT.URG (k : Nat) : Field := ⟨MEAS_MC_CNT.reg k, 0, 15⟩

/-- MEAS_XCK, MEAS block, spec/10_measurement.md: Sets and reports cross-check pair k (R208). -/
def MEAS_XCK.reg (k : Nat) : Nat := 0x4005100C + 0x20 * k
def MEAS_XCK.EN (k : Nat) : Field := ⟨MEAS_XCK.reg k, 31, 1⟩
def MEAS_XCK.ACTIVE (k : Nat) : Field := ⟨MEAS_XCK.reg k, 30, 1⟩
def MEAS_XCK.CNT (k : Nat) : Field := ⟨MEAS_XCK.reg k, 28, 2⟩
def MEAS_XCK.TOL (k : Nat) : Field := ⟨MEAS_XCK.reg k, 16, 12⟩
def MEAS_XCK.DIFF (k : Nat) : Field := ⟨MEAS_XCK.reg k, 0, 16⟩

/-- MEAS_SNAP_CMD, MEAS block, spec/10_measurement.md: Commands a snapshot buffer (R200). -/
def MEAS_SNAP_CMD.reg : Nat := 0x40051200
def MEAS_SNAP_CMD.KEY : Field := ⟨MEAS_SNAP_CMD.reg, 24, 8⟩
def MEAS_SNAP_CMD.BUF : Field := ⟨MEAS_SNAP_CMD.reg, 2, 2⟩
def MEAS_SNAP_CMD.OP : Field := ⟨MEAS_SNAP_CMD.reg, 0, 2⟩

/-- MEAS_SNAP_SEL, MEAS block, spec/10_measurement.md: Selects the channel that the buffer's value registers show. -/
def MEAS_SNAP_SEL.reg (n : Nat) : Nat := 0x40051240 + 0x40 * n
def MEAS_SNAP_SEL.CH (n : Nat) : Field := ⟨MEAS_SNAP_SEL.reg n, 0, 8⟩

/-- MEAS_SNAP_STAT, MEAS block, spec/10_measurement.md: Reports the buffer. -/
def MEAS_SNAP_STAT.reg (n : Nat) : Nat := 0x40051244 + 0x40 * n
def MEAS_SNAP_STAT.READY (n : Nat) : Field := ⟨MEAS_SNAP_STAT.reg n, 31, 1⟩
def MEAS_SNAP_STAT.REJ (n : Nat) : Field := ⟨MEAS_SNAP_STAT.reg n, 30, 1⟩
def MEAS_SNAP_STAT.SAT (n : Nat) : Field := ⟨MEAS_SNAP_STAT.reg n, 29, 1⟩
def MEAS_SNAP_STAT.EMPTY (n : Nat) : Field := ⟨MEAS_SNAP_STAT.reg n, 28, 1⟩
def MEAS_SNAP_STAT.SEQ (n : Nat) : Field := ⟨MEAS_SNAP_STAT.reg n, 0, 16⟩

/-- MEAS_SNAP_SUM_LO, MEAS block, spec/10_measurement.md: Report the selected channel's captured sum. -/
def MEAS_SNAP_SUM_LO.reg (n : Nat) : Nat := 0x40051248 + 0x40 * n
def MEAS_SNAP_SUM_LO.SUM (n : Nat) : Field := ⟨MEAS_SNAP_SUM_LO.reg n, 0, 32⟩

/-- MEAS_SNAP_SUM_HI, MEAS block, spec/10_measurement.md: Report the selected channel's captured sum. -/
def MEAS_SNAP_SUM_HI.reg (n : Nat) : Nat := 0x4005124C + 0x40 * n
def MEAS_SNAP_SUM_HI.SUM (n : Nat) : Field := ⟨MEAS_SNAP_SUM_HI.reg n, 0, 32⟩

/-- MEAS_SNAP_CNT, MEAS block, spec/10_measurement.md: Reports the captured count. -/
def MEAS_SNAP_CNT.reg (n : Nat) : Nat := 0x40051250 + 0x40 * n
def MEAS_SNAP_CNT.CNT (n : Nat) : Field := ⟨MEAS_SNAP_CNT.reg n, 0, 24⟩

/-- MEAS_SNAP_MIN, MEAS block, spec/10_measurement.md: Report the captured minimum and maximum. -/
def MEAS_SNAP_MIN.reg (n : Nat) : Nat := 0x40051254 + 0x40 * n
def MEAS_SNAP_MIN.VAL (n : Nat) : Field := ⟨MEAS_SNAP_MIN.reg n, 0, 32⟩

/-- MEAS_SNAP_MAX, MEAS block, spec/10_measurement.md: Report the captured minimum and maximum. -/
def MEAS_SNAP_MAX.reg (n : Nat) : Nat := 0x40051258 + 0x40 * n
def MEAS_SNAP_MAX.VAL (n : Nat) : Field := ⟨MEAS_SNAP_MAX.reg n, 0, 32⟩

/-- MEAS_SNAP_TIME_LO, MEAS block, spec/10_measurement.md: Report the capture instant. -/
def MEAS_SNAP_TIME_LO.reg (n : Nat) : Nat := 0x4005125C + 0x40 * n
def MEAS_SNAP_TIME_LO.TS (n : Nat) : Field := ⟨MEAS_SNAP_TIME_LO.reg n, 0, 32⟩

/-- MEAS_SNAP_TIME_HI, MEAS block, spec/10_measurement.md: Report the capture instant. -/
def MEAS_SNAP_TIME_HI.reg (n : Nat) : Nat := 0x40051260 + 0x40 * n
def MEAS_SNAP_TIME_HI.TS (n : Nat) : Field := ⟨MEAS_SNAP_TIME_HI.reg n, 0, 32⟩

/-- MEAS_Q_CFG, MEAS block, spec/10_measurement.md: Configures the queue (R202, R203). -/
def MEAS_Q_CFG.reg : Nat := 0x40051400
def MEAS_Q_CFG.EN : Field := ⟨MEAS_Q_CFG.reg, 31, 1⟩
def MEAS_Q_CFG.OWNER : Field := ⟨MEAS_Q_CFG.reg, 30, 1⟩
def MEAS_Q_CFG.DEPTH : Field := ⟨MEAS_Q_CFG.reg, 0, 9⟩

/-- MEAS_Q_STAT, MEAS block, spec/10_measurement.md: Reports the queue. -/
def MEAS_Q_STAT.reg : Nat := 0x40051404
def MEAS_Q_STAT.FULL : Field := ⟨MEAS_Q_STAT.reg, 31, 1⟩
def MEAS_Q_STAT.EMPTY : Field := ⟨MEAS_Q_STAT.reg, 30, 1⟩
def MEAS_Q_STAT.SAT : Field := ⟨MEAS_Q_STAT.reg, 29, 1⟩
def MEAS_Q_STAT.COUNT : Field := ⟨MEAS_Q_STAT.reg, 16, 13⟩
def MEAS_Q_STAT.DROP : Field := ⟨MEAS_Q_STAT.reg, 0, 16⟩

/-- MEAS_Q_PTR, MEAS block, spec/10_measurement.md: Gives the ring indices. -/
def MEAS_Q_PTR.reg : Nat := 0x40051408
def MEAS_Q_PTR.WR : Field := ⟨MEAS_Q_PTR.reg, 16, 12⟩
def MEAS_Q_PTR.RD : Field := ⟨MEAS_Q_PTR.reg, 0, 12⟩

/-- MEAS_Q_SEQ, MEAS block, spec/10_measurement.md: Reports the next sequence number. -/
def MEAS_Q_SEQ.reg : Nat := 0x4005140C
def MEAS_Q_SEQ.SEQ : Field := ⟨MEAS_Q_SEQ.reg, 0, 16⟩

/-- MEAS_Q_DES, MEAS block, spec/10_measurement.md: Designate queue channels (R201). -/
def MEAS_Q_DES.reg (d : Nat) : Nat := 0x40051440 + 0x4 * d
def MEAS_Q_DES.EN (d : Nat) : Field := ⟨MEAS_Q_DES.reg d, 31, 1⟩
def MEAS_Q_DES.VONLY (d : Nat) : Field := ⟨MEAS_Q_DES.reg d, 30, 1⟩
def MEAS_Q_DES.CH (d : Nat) : Field := ⟨MEAS_Q_DES.reg d, 0, 8⟩

/-- MEAS_URG_REQ, MEAS block, spec/10_measurement.md: Requests an urgent conversion (R204). -/
def MEAS_URG_REQ.reg (q : Nat) : Nat := copyKey q (0x40051500)
def MEAS_URG_REQ.GO (q : Nat) : Field := ⟨MEAS_URG_REQ.reg q, 31, 1⟩
def MEAS_URG_REQ.CH (q : Nat) : Field := ⟨MEAS_URG_REQ.reg q, 0, 8⟩

/-- MEAS_URG_RES, MEAS block, spec/10_measurement.md: Reports the urgent value. -/
def MEAS_URG_RES.reg (q : Nat) : Nat := copyKey q (0x40051504)
def MEAS_URG_RES.VALUE (q : Nat) : Field := ⟨MEAS_URG_RES.reg q, 0, 32⟩

/-- MEAS_URG_STAT, MEAS block, spec/10_measurement.md: Reports the request. -/
def MEAS_URG_STAT.reg (q : Nat) : Nat := copyKey q (0x40051508)
def MEAS_URG_STAT.DONE (q : Nat) : Field := ⟨MEAS_URG_STAT.reg q, 31, 1⟩
def MEAS_URG_STAT.REFUSED (q : Nat) : Field := ⟨MEAS_URG_STAT.reg q, 30, 1⟩
def MEAS_URG_STAT.SAT (q : Nat) : Field := ⟨MEAS_URG_STAT.reg q, 29, 1⟩

/-- MEAS_URG_TS_LO, MEAS block, spec/10_measurement.md: Report the time stamp of the urgent word. -/
def MEAS_URG_TS_LO.reg (q : Nat) : Nat := copyKey q (0x4005150C)
def MEAS_URG_TS_LO.TS (q : Nat) : Field := ⟨MEAS_URG_TS_LO.reg q, 0, 32⟩

/-- MEAS_URG_TS_HI, MEAS block, spec/10_measurement.md: Report the time stamp of the urgent word. -/
def MEAS_URG_TS_HI.reg (q : Nat) : Nat := copyKey q (0x40051510)
def MEAS_URG_TS_HI.TS (q : Nat) : Field := ⟨MEAS_URG_TS_HI.reg q, 0, 32⟩

/-- MEAS_URG_MAP, MEAS block, spec/10_measurement.md: Fix the channels of the fabric's urgent lines. -/
def MEAS_URG_MAP.reg (m : Nat) : Nat := 0x40051580 + 0x4 * m
def MEAS_URG_MAP.CH3 (m : Nat) : Field := ⟨MEAS_URG_MAP.reg m, 24, 8⟩
def MEAS_URG_MAP.CH2 (m : Nat) : Field := ⟨MEAS_URG_MAP.reg m, 16, 8⟩
def MEAS_URG_MAP.CH1 (m : Nat) : Field := ⟨MEAS_URG_MAP.reg m, 8, 8⟩
def MEAS_URG_MAP.CH0 (m : Nat) : Field := ⟨MEAS_URG_MAP.reg m, 0, 8⟩

/-! Registers of spec/11_faults.md. -/

/-- FLT_STAT_LO, FLT block, spec/11_faults.md: Hold FSTAT (R211, R218). -/
def FLT_STAT_LO.reg : Nat := 0x40070000
def FLT_STAT_LO.FS : Field := ⟨FLT_STAT_LO.reg, 0, 32⟩

/-- FLT_STAT_HI, FLT block, spec/11_faults.md: Hold FSTAT (R211, R218). -/
def FLT_STAT_HI.reg : Nat := 0x40070004
def FLT_STAT_HI.FS : Field := ⟨FLT_STAT_HI.reg, 0, 32⟩

/-- FLT_ACK_LO, FLT block, spec/11_faults.md: Acknowledge sources (R214). -/
def FLT_ACK_LO.reg : Nat := 0x40070008
def FLT_ACK_LO.ACK : Field := ⟨FLT_ACK_LO.reg, 0, 32⟩

/-- FLT_ACK_HI, FLT block, spec/11_faults.md: Acknowledge sources (R214). -/
def FLT_ACK_HI.reg : Nat := 0x4007000C
def FLT_ACK_HI.ACK : Field := ⟨FLT_ACK_HI.reg, 0, 32⟩

/-- FLT_PEND_LO, FLT block, spec/11_faults.md: Show running grace timers. -/
def FLT_PEND_LO.reg : Nat := 0x40070010
def FLT_PEND_LO.PEND : Field := ⟨FLT_PEND_LO.reg, 0, 32⟩

/-- FLT_PEND_HI, FLT block, spec/11_faults.md: Show running grace timers. -/
def FLT_PEND_HI.reg : Nat := 0x40070014
def FLT_PEND_HI.PEND : Field := ⟨FLT_PEND_HI.reg, 0, 32⟩

/-- FLT_STATUS, FLT block, spec/11_faults.md: Reports the collector. -/
def FLT_STATUS.reg : Nat := 0x40070020
def FLT_STATUS.SAFE : Field := ⟨FLT_STATUS.reg, 31, 1⟩
def FLT_STATUS.LATE_ACK : Field := ⟨FLT_STATUS.reg, 30, 1⟩
def FLT_STATUS.INJ_REF : Field := ⟨FLT_STATUS.reg, 29, 1⟩
def FLT_STATUS.SAFE_SRC : Field := ⟨FLT_STATUS.reg, 8, 6⟩
def FLT_STATUS.ESC_ANY : Field := ⟨FLT_STATUS.reg, 7, 1⟩
def FLT_STATUS.ESC_SRC : Field := ⟨FLT_STATUS.reg, 0, 6⟩

/-- FLT_FIRST, FLT block, spec/11_faults.md: Names the first fault (R224). -/
def FLT_FIRST.reg : Nat := 0x40070024
def FLT_FIRST.VALID : Field := ⟨FLT_FIRST.reg, 31, 1⟩
def FLT_FIRST.SRC : Field := ⟨FLT_FIRST.reg, 0, 6⟩

/-- FLT_FIRST_TS_LO, FLT block, spec/11_faults.md: Report the first fault's time. -/
def FLT_FIRST_TS_LO.reg : Nat := 0x40070028
def FLT_FIRST_TS_LO.TS : Field := ⟨FLT_FIRST_TS_LO.reg, 0, 32⟩

/-- FLT_FIRST_TS_HI, FLT block, spec/11_faults.md: Report the first fault's time. -/
def FLT_FIRST_TS_HI.reg : Nat := 0x4007002C
def FLT_FIRST_TS_HI.TS : Field := ⟨FLT_FIRST_TS_HI.reg, 0, 32⟩

/-- FLT_NMASK_LO, FLT block, spec/11_faults.md: Select the sources that drive FLT_N (R220); loaded from FAULT_MAP. -/
def FLT_NMASK_LO.reg : Nat := 0x40070030
def FLT_NMASK_LO.MASK : Field := ⟨FLT_NMASK_LO.reg, 0, 32⟩

/-- FLT_NMASK_HI, FLT block, spec/11_faults.md: Select the sources that drive FLT_N (R220); loaded from FAULT_MAP. -/
def FLT_NMASK_HI.reg : Nat := 0x40070034
def FLT_NMASK_HI.MASK : Field := ⟨FLT_NMASK_HI.reg, 0, 32⟩

/-- FLT_SAFE_GP, FLT block, spec/11_faults.md: Sets safe-state levels of GP outputs not owned by rails (R219); loaded from FAULT_MAP. -/
def FLT_SAFE_GP.reg : Nat := 0x40070040
def FLT_SAFE_GP.LVL : Field := ⟨FLT_SAFE_GP.reg, 0, 24⟩

/-- FLT_SAFE_RSTO, FLT block, spec/11_faults.md: Sets safe-state RSTO levels (R219); loaded from FAULT_MAP. -/
def FLT_SAFE_RSTO.reg : Nat := 0x40070044
def FLT_SAFE_RSTO.ASSERT : Field := ⟨FLT_SAFE_RSTO.reg, 0, 8⟩

/-- FLT_INJ, FLT block, spec/11_faults.md: Injects a fault (R225). -/
def FLT_INJ.reg : Nat := 0x40070050
def FLT_INJ.KEY : Field := ⟨FLT_INJ.reg, 24, 8⟩
def FLT_INJ.SRC : Field := ⟨FLT_INJ.reg, 0, 6⟩

/-- FLT_RESTART, FLT block, spec/11_faults.md: Leaves the safe state (R221). -/
def FLT_RESTART.reg : Nat := 0x40070054
def FLT_RESTART.KEY : Field := ⟨FLT_RESTART.reg, 24, 8⟩

/-- FLT_GCFG, FLT block, spec/11_faults.md: Sets the corrected-fault log interval (R224); loaded from FAULT_MAP. -/
def FLT_GCFG.reg : Nat := 0x40070058
def FLT_GCFG.LOGINT : Field := ⟨FLT_GCFG.reg, 0, 8⟩

/-- FLT_CFG, FLT block, spec/11_faults.md: Report the class and escalation of FS_nn (R212, R213, R215, R216); loaded from FAULT_MAP. Reset values are those of Table 11.1. -/
def FLT_CFG.reg (n : Nat) : Nat := 0x40070100 + 0x4 * n
def FLT_CFG.CLASS (n : Nat) : Field := ⟨FLT_CFG.reg n, 30, 2⟩
def FLT_CFG.FLOOR (n : Nat) : Field := ⟨FLT_CFG.reg n, 28, 2⟩
def FLT_CFG.IMM (n : Nat) : Field := ⟨FLT_CFG.reg n, 27, 1⟩
def FLT_CFG.ACT (n : Nat) : Field := ⟨FLT_CFG.reg n, 26, 1⟩
def FLT_CFG.GRP (n : Nat) : Field := ⟨FLT_CFG.reg n, 22, 4⟩
def FLT_CFG.UNIT (n : Nat) : Field := ⟨FLT_CFG.reg n, 10, 1⟩
def FLT_CFG.M (n : Nat) : Field := ⟨FLT_CFG.reg n, 0, 10⟩

/-- FLT_CNT, FLT block, spec/11_faults.md: Count raises of FS_nn since the start. -/
def FLT_CNT.reg (n : Nat) : Nat := 0x40070200 + 0x4 * n
def FLT_CNT.SAT (n : Nat) : Field := ⟨FLT_CNT.reg n, 31, 1⟩
def FLT_CNT.COUNT (n : Nat) : Field := ⟨FLT_CNT.reg n, 0, 16⟩

/-! Registers of spec/12_engines.md. -/

/-- EVT_ROUTE, EVT block, spec/12_engines.md: Route EV_eee (R240, R242); loaded from ENGINE_CODE. -/
def EVT_ROUTE.reg (e : Nat) : Nat := 0x40080000 + 0x4 * e
def EVT_ROUTE.HOST (e : Nat) : Field := ⟨EVT_ROUTE.reg e, 31, 1⟩
def EVT_ROUTE.LINK (e : Nat) : Field := ⟨EVT_ROUTE.reg e, 30, 1⟩
def EVT_ROUTE.ENG (e : Nat) : Field := ⟨EVT_ROUTE.reg e, 0, 16⟩

/-- EVT_PEND, EVT block, spec/12_engines.md: Host pending bits (R242). -/
def EVT_PEND.reg (i : Nat) : Nat := 0x40080200 + 0x4 * i
def EVT_PEND.PEND (i : Nat) : Field := ⟨EVT_PEND.reg i, 0, 32⟩

/-- EVT_FWD_PEND, EVT block, spec/12_engines.md: Forwarder pending bits (R240). -/
def EVT_FWD_PEND.reg (i : Nat) : Nat := 0x40080210 + 0x4 * i
def EVT_FWD_PEND.PEND (i : Nat) : Field := ⟨EVT_FWD_PEND.reg i, 0, 32⟩

/-- EVT_FWD, EVT block, spec/12_engines.md: Reports the forward in progress. -/
def EVT_FWD.reg : Nat := 0x40080220
def EVT_FWD.BUSY : Field := ⟨EVT_FWD.reg, 31, 1⟩
def EVT_FWD.LINKW : Field := ⟨EVT_FWD.reg, 30, 1⟩
def EVT_FWD.EV : Field := ⟨EVT_FWD.reg, 23, 7⟩
def EVT_FWD.WAIT : Field := ⟨EVT_FWD.reg, 0, 16⟩

/-- EVT_CFG, EVT block, spec/12_engines.md: Sets the forward time-out (R241); loaded from BLOCK_CONFIG. -/
def EVT_CFG.reg : Nat := 0x40080224
def EVT_CFG.TACK : Field := ⟨EVT_CFG.reg, 0, 14⟩

/-- EVT_RAISE, EVT block, spec/12_engines.md: Raises a software event. -/
def EVT_RAISE.reg : Nat := 0x40080228
def EVT_RAISE.SW : Field := ⟨EVT_RAISE.reg, 0, 5⟩

/-- EVT_SATSRC, EVT block, spec/12_engines.md: Names blocks with a saturated counter (R239). -/
def EVT_SATSRC.reg : Nat := 0x4008022C
def EVT_SATSRC.BLK : Field := ⟨EVT_SATSRC.reg, 0, 14⟩

/-- ENG_TIME_LO, EVT block, spec/12_engines.md: Report hierarchy time. -/
def ENG_TIME_LO.reg : Nat := 0x40080230
def ENG_TIME_LO.TS : Field := ⟨ENG_TIME_LO.reg, 0, 32⟩

/-- ENG_TIME_HI, EVT block, spec/12_engines.md: Report hierarchy time. -/
def ENG_TIME_HI.reg : Nat := 0x40080234
def ENG_TIME_HI.TS : Field := ⟨ENG_TIME_HI.reg, 0, 32⟩

/-- EVT_CNT, EVT block, spec/12_engines.md: Count raises and missed forwards since the start. -/
def EVT_CNT.reg (e : Nat) : Nat := 0x40080400 + 0x4 * e
def EVT_CNT.SAT_M (e : Nat) : Field := ⟨EVT_CNT.reg e, 31, 1⟩
def EVT_CNT.MISS (e : Nat) : Field := ⟨EVT_CNT.reg e, 24, 7⟩
def EVT_CNT.SAT_R (e : Nat) : Field := ⟨EVT_CNT.reg e, 23, 1⟩
def EVT_CNT.RAISE (e : Nat) : Field := ⟨EVT_CNT.reg e, 0, 23⟩

/-- SEM, EVT block, spec/12_engines.md: Semaphore s (R233). -/
def SEM.reg (s : Nat) : Nat := 0x40080800 + 0x4 * s
def SEM.GOT (s : Nat) : Field := ⟨SEM.reg s, 31, 1⟩
def SEM.BROKEN (s : Nat) : Field := ⟨SEM.reg s, 30, 1⟩
def SEM.HELD (s : Nat) : Field := ⟨SEM.reg s, 29, 1⟩
def SEM.HOLDER (s : Nat) : Field := ⟨SEM.reg s, 0, 5⟩

/-- DMA_CH_CFG, EVT block, spec/12_engines.md: Sets ownership and priority. -/
def DMA_CH_CFG.reg (c : Nat) : Nat := 0x40081000 + 0x10 * c
def DMA_CH_CFG.OWNER (c : Nat) : Field := ⟨DMA_CH_CFG.reg c, 16, 5⟩
def DMA_CH_CFG.PRIO (c : Nat) : Field := ⟨DMA_CH_CFG.reg c, 0, 2⟩

/-- DMA_CH_DESC, EVT block, spec/12_engines.md: Holds the descriptor address. -/
def DMA_CH_DESC.reg (c : Nat) : Nat := 0x40081004 + 0x10 * c
def DMA_CH_DESC.ADDR (c : Nat) : Field := ⟨DMA_CH_DESC.reg c, 5, 27⟩

/-- DMA_CH_CTRL, EVT block, spec/12_engines.md: Starts, suspends or aborts (R236). -/
def DMA_CH_CTRL.reg (c : Nat) : Nat := 0x40081008 + 0x10 * c
def DMA_CH_CTRL.ABORT (c : Nat) : Field := ⟨DMA_CH_CTRL.reg c, 2, 1⟩
def DMA_CH_CTRL.SUSPEND (c : Nat) : Field := ⟨DMA_CH_CTRL.reg c, 1, 1⟩
def DMA_CH_CTRL.START (c : Nat) : Field := ⟨DMA_CH_CTRL.reg c, 0, 1⟩

/-- DMA_CH_STATUS, EVT block, spec/12_engines.md: Reports the channel. -/
def DMA_CH_STATUS.reg (c : Nat) : Nat := 0x4008100C + 0x10 * c
def DMA_CH_STATUS.STATE (c : Nat) : Field := ⟨DMA_CH_STATUS.reg c, 28, 4⟩
def DMA_CH_STATUS.CAUSE (c : Nat) : Field := ⟨DMA_CH_STATUS.reg c, 24, 4⟩
def DMA_CH_STATUS.DONE (c : Nat) : Field := ⟨DMA_CH_STATUS.reg c, 0, 24⟩

/-- ENG_CFG, EVT block, spec/12_engines.md: Reports the program and spare role; loaded from ENGINE_CODE. -/
def ENG_CFG.reg (e : Nat) : Nat := 0x40084000 + 0x800 * e
def ENG_CFG.PROG (e : Nat) : Field := ⟨ENG_CFG.reg e, 31, 1⟩
def ENG_CFG.SPARE_FOR (e : Nat) : Field := ⟨ENG_CFG.reg e, 0, 16⟩

/-- ENG_STATUS, EVT block, spec/12_engines.md: Reports the engine. -/
def ENG_STATUS.reg (e : Nat) : Nat := 0x40084004 + 0x800 * e
def ENG_STATUS.STATE (e : Nat) : Field := ⟨ENG_STATUS.reg e, 28, 4⟩
def ENG_STATUS.TKO (e : Nat) : Field := ⟨ENG_STATUS.reg e, 27, 1⟩
def ENG_STATUS.AS (e : Nat) : Field := ⟨ENG_STATUS.reg e, 20, 4⟩

/-- ENG_HALT_PC, EVT block, spec/12_engines.md: Reports the program counter at halt (R229). -/
def ENG_HALT_PC.reg (e : Nat) : Nat := 0x40084008 + 0x800 * e
def ENG_HALT_PC.PC (e : Nat) : Field := ⟨ENG_HALT_PC.reg e, 0, 32⟩

/-- ENG_TKO, EVT block, spec/12_engines.md: Requests a takeover (R231). -/
def ENG_TKO.reg (e : Nat) : Nat := 0x4008400C + 0x800 * e
def ENG_TKO.KEY (e : Nat) : Field := ⟨ENG_TKO.reg e, 24, 8⟩
def ENG_TKO.FROM (e : Nat) : Field := ⟨ENG_TKO.reg e, 0, 4⟩

/-- ENG_FLAG, EVT block, spec/12_engines.md: Sets the engine's software flags. Line IN_(0768 + 8e + b) carries the following: b = 0 running or waiting, 1 halted, 2 running level above 0, 3 waiting for interrupt, 4 to 7 SW[0] to SW[3]. -/
def ENG_FLAG.reg (e : Nat) : Nat := 0x40084010 + 0x800 * e
def ENG_FLAG.SW (e : Nat) : Field := ⟨ENG_FLAG.reg e, 0, 4⟩

/-- ENG_DOORBELL, EVT block, spec/12_engines.md: Rings other engines. -/
def ENG_DOORBELL.reg (e : Nat) : Nat := 0x40084014 + 0x800 * e
def ENG_DOORBELL.TARGET (e : Nat) : Field := ⟨ENG_DOORBELL.reg e, 0, 16⟩

/-- ENG_TCMP_LO, EVT block, spec/12_engines.md: Set the timer compare. -/
def ENG_TCMP_LO.reg (e : Nat) : Nat := 0x40084018 + 0x800 * e
def ENG_TCMP_LO.TS (e : Nat) : Field := ⟨ENG_TCMP_LO.reg e, 0, 32⟩

/-- ENG_TCMP_HI, EVT block, spec/12_engines.md: Set the timer compare. -/
def ENG_TCMP_HI.reg (e : Nat) : Nat := 0x4008401C + 0x800 * e
def ENG_TCMP_HI.TS (e : Nat) : Field := ⟨ENG_TCMP_HI.reg e, 0, 32⟩

/-- ENG_MPU_BASE, EVT block, spec/12_engines.md: Region start and permissions (R232); loaded from ENGINE_CODE. -/
def ENG_MPU_BASE.reg (e r : Nat) : Nat := 0x40084100 + 0x800 * e + 0x8 * r
def ENG_MPU_BASE.BASE (e r : Nat) : Field := ⟨ENG_MPU_BASE.reg e r, 5, 27⟩
def ENG_MPU_BASE.EN (e r : Nat) : Field := ⟨ENG_MPU_BASE.reg e r, 4, 1⟩
def ENG_MPU_BASE.X (e r : Nat) : Field := ⟨ENG_MPU_BASE.reg e r, 3, 1⟩
def ENG_MPU_BASE.W (e r : Nat) : Field := ⟨ENG_MPU_BASE.reg e r, 2, 1⟩
def ENG_MPU_BASE.R (e r : Nat) : Field := ⟨ENG_MPU_BASE.reg e r, 1, 1⟩

/-- ENG_MPU_LIM, EVT block, spec/12_engines.md: Region end; loaded from ENGINE_CODE. -/
def ENG_MPU_LIM.reg (e r : Nat) : Nat := 0x40084104 + 0x800 * e + 0x8 * r
def ENG_MPU_LIM.LIMIT (e r : Nat) : Field := ⟨ENG_MPU_LIM.reg e r, 5, 27⟩

/-- ENG_MPU_FADDR, EVT block, spec/12_engines.md: Address of the held refusal. -/
def ENG_MPU_FADDR.reg (e : Nat) : Nat := 0x40084180 + 0x800 * e
def ENG_MPU_FADDR.ADDR (e : Nat) : Field := ⟨ENG_MPU_FADDR.reg e, 0, 32⟩

/-- ENG_MPU_FINFO, EVT block, spec/12_engines.md: Describes the held refusal. -/
def ENG_MPU_FINFO.reg (e : Nat) : Nat := 0x40084184 + 0x800 * e
def ENG_MPU_FINFO.VALID (e : Nat) : Field := ⟨ENG_MPU_FINFO.reg e, 31, 1⟩
def ENG_MPU_FINFO.TYPE (e : Nat) : Field := ⟨ENG_MPU_FINFO.reg e, 6, 2⟩
def ENG_MPU_FINFO.CH (e : Nat) : Field := ⟨ENG_MPU_FINFO.reg e, 0, 6⟩

/-- EIC_LVL, EVT block, spec/12_engines.md: Source levels (R237); initial values from ENGINE_CODE. -/
def EIC_LVL.reg (e i : Nat) : Nat := 0x40084200 + 0x800 * e + 0x4 * i
def EIC_LVL.LVL (e i : Nat) : Field := ⟨EIC_LVL.reg e i, 0, 32⟩

/-- EIC_PEND, EVT block, spec/12_engines.md: Pending sources. -/
def EIC_PEND.reg (e i : Nat) : Nat := 0x40084280 + 0x800 * e + 0x4 * i
def EIC_PEND.PEND (e i : Nat) : Field := ⟨EIC_PEND.reg e i, 0, 32⟩

/-- EIC_THR, EVT block, spec/12_engines.md: Sets the threshold. -/
def EIC_THR.reg (e : Nat) : Nat := 0x400842A0 + 0x800 * e
def EIC_THR.THR (e : Nat) : Field := ⟨EIC_THR.reg e, 0, 4⟩

/-- EIC_CLAIM, EVT block, spec/12_engines.md: Claims a source; each read is one claim (R237). -/
def EIC_CLAIM.reg (e : Nat) : Nat := 0x400842A4 + 0x800 * e
def EIC_CLAIM.LVL (e : Nat) : Field := ⟨EIC_CLAIM.reg e, 16, 4⟩
def EIC_CLAIM.SRC (e : Nat) : Field := ⟨EIC_CLAIM.reg e, 0, 9⟩

/-- EIC_COMPLETE, EVT block, spec/12_engines.md: Completes the most recent claim. -/
def EIC_COMPLETE.reg (e : Nat) : Nat := 0x400842A8 + 0x800 * e
def EIC_COMPLETE.SRC (e : Nat) : Field := ⟨EIC_COMPLETE.reg e, 0, 8⟩

/-- EIC_STATUS, EVT block, spec/12_engines.md: Reports the controller. -/
def EIC_STATUS.reg (e : Nat) : Nat := 0x400842AC + 0x800 * e
def EIC_STATUS.BADCOMP (e : Nat) : Field := ⟨EIC_STATUS.reg e, 31, 1⟩
def EIC_STATUS.DEPTH (e : Nat) : Field := ⟨EIC_STATUS.reg e, 4, 4⟩
def EIC_STATUS.RUN (e : Nat) : Field := ⟨EIC_STATUS.reg e, 0, 4⟩

/-! Registers of spec/13_ledger.md. -/

/-- LEDG_CFG, LEDG block, spec/13_ledger.md: Sets repair, the wear warning and the commit age. -/
def LEDG_CFG.reg : Nat := 0x40090000
def LEDG_CFG.REPAIR : Field := ⟨LEDG_CFG.reg, 31, 1⟩
def LEDG_CFG.WWARN : Field := ⟨LEDG_CFG.reg, 16, 8⟩
def LEDG_CFG.TAGE : Field := ⟨LEDG_CFG.reg, 0, 16⟩

/-- LEDG_CTRL, LEDG block, spec/13_ledger.md: Requests a commit. -/
def LEDG_CTRL.reg : Nat := 0x40090004
def LEDG_CTRL.KEY : Field := ⟨LEDG_CTRL.reg, 24, 8⟩
def LEDG_CTRL.CMD : Field := ⟨LEDG_CTRL.reg, 0, 4⟩

/-- LEDG_STATUS, LEDG block, spec/13_ledger.md: Reports the buffer and the store. -/
def LEDG_STATUS.reg : Nat := 0x40090008
def LEDG_STATUS.BUSY : Field := ⟨LEDG_STATUS.reg, 31, 1⟩
def LEDG_STATUS.HELD : Field := ⟨LEDG_STATUS.reg, 30, 1⟩
def LEDG_STATUS.CUT : Field := ⟨LEDG_STATUS.reg, 29, 1⟩
def LEDG_STATUS.WEAR : Field := ⟨LEDG_STATUS.reg, 28, 1⟩
def LEDG_STATUS.SCAN : Field := ⟨LEDG_STATUS.reg, 27, 1⟩
def LEDG_STATUS.CALDEF : Field := ⟨LEDG_STATUS.reg, 26, 1⟩
def LEDG_STATUS.LCDEF : Field := ⟨LEDG_STATUS.reg, 25, 1⟩
def LEDG_STATUS.REVDEF : Field := ⟨LEDG_STATUS.reg, 24, 1⟩
def LEDG_STATUS.PAGES : Field := ⟨LEDG_STATUS.reg, 0, 7⟩

/-- LEDG_CNT, LEDG block, spec/13_ledger.md: Counts commits and refused writes since the start. -/
def LEDG_CNT.reg : Nat := 0x4009000C
def LEDG_CNT.SAT_C : Field := ⟨LEDG_CNT.reg, 31, 1⟩
def LEDG_CNT.COMMITS : Field := ⟨LEDG_CNT.reg, 16, 15⟩
def LEDG_CNT.SAT_R : Field := ⟨LEDG_CNT.reg, 15, 1⟩
def LEDG_CNT.REFUSED : Field := ⟨LEDG_CNT.reg, 0, 15⟩

/-- LEDG_ECC, LEDG block, spec/13_ledger.md: Counts read errors since the start. -/
def LEDG_ECC.reg : Nat := 0x40090010
def LEDG_ECC.SAT_C : Field := ⟨LEDG_ECC.reg, 31, 1⟩
def LEDG_ECC.CORR : Field := ⟨LEDG_ECC.reg, 16, 15⟩
def LEDG_ECC.SAT_U : Field := ⟨LEDG_ECC.reg, 15, 1⟩
def LEDG_ECC.UNCORR : Field := ⟨LEDG_ECC.reg, 0, 15⟩

/-- LEDG_ECC_ADDR, LEDG block, spec/13_ledger.md: Locates the last poisoned word read. -/
def LEDG_ECC_ADDR.reg : Nat := 0x40090014
def LEDG_ECC_ADDR.WORD : Field := ⟨LEDG_ECC_ADDR.reg, 3, 15⟩

/-- LEDG_RSTAT, LEDG block, spec/13_ledger.md: Reports the requester's last window access; one copy per requester. -/
def LEDG_RSTAT.reg (q : Nat) : Nat := copyKey q (0x40090018)
def LEDG_RSTAT.POISON (q : Nat) : Field := ⟨LEDG_RSTAT.reg q, 31, 1⟩
def LEDG_RSTAT.BUF (q : Nat) : Field := ⟨LEDG_RSTAT.reg q, 30, 1⟩
def LEDG_RSTAT.REFUSED (q : Nat) : Field := ⟨LEDG_RSTAT.reg q, 29, 1⟩

/-- LEDG_REC_CMD, LEDG block, spec/13_ledger.md: Starts a record operation; one copy per requester (R256). -/
def LEDG_REC_CMD.reg (q : Nat) : Nat := copyKey q (0x40090020)
def LEDG_REC_CMD.OP (q : Nat) : Field := ⟨LEDG_REC_CMD.reg q, 30, 2⟩
def LEDG_REC_CMD.REC (q : Nat) : Field := ⟨LEDG_REC_CMD.reg q, 0, 9⟩

/-- LEDG_REC_VAL_LO, LEDG block, spec/13_ledger.md: Carry the record value; one copy per requester. -/
def LEDG_REC_VAL_LO.reg (q : Nat) : Nat := copyKey q (0x40090024)
def LEDG_REC_VAL_LO.VAL (q : Nat) : Field := ⟨LEDG_REC_VAL_LO.reg q, 0, 32⟩

/-- LEDG_REC_VAL_HI, LEDG block, spec/13_ledger.md: Carry the record value; one copy per requester. -/
def LEDG_REC_VAL_HI.reg (q : Nat) : Nat := copyKey q (0x40090028)
def LEDG_REC_VAL_HI.VAL (q : Nat) : Field := ⟨LEDG_REC_VAL_HI.reg q, 0, 32⟩

/-- LEDG_REC_STAT, LEDG block, spec/13_ledger.md: Reports the requester's last record operation. -/
def LEDG_REC_STAT.reg (q : Nat) : Nat := copyKey q (0x4009002C)
def LEDG_REC_STAT.DONE (q : Nat) : Field := ⟨LEDG_REC_STAT.reg q, 31, 1⟩
def LEDG_REC_STAT.PENDING (q : Nat) : Field := ⟨LEDG_REC_STAT.reg q, 30, 1⟩
def LEDG_REC_STAT.SAT (q : Nat) : Field := ⟨LEDG_REC_STAT.reg q, 29, 1⟩
def LEDG_REC_STAT.RESULT (q : Nat) : Field := ⟨LEDG_REC_STAT.reg q, 26, 3⟩

/-- LEDG_LOG_CMD, LEDG block, spec/13_ledger.md: Queues an engine log record; one copy per requester (R259). -/
def LEDG_LOG_CMD.reg (q : Nat) : Nat := copyKey q (0x40090030)
def LEDG_LOG_CMD.CODE (q : Nat) : Field := ⟨LEDG_LOG_CMD.reg q, 24, 8⟩
def LEDG_LOG_CMD.SOURCE (q : Nat) : Field := ⟨LEDG_LOG_CMD.reg q, 0, 16⟩

/-- LEDG_LOG_DATA, LEDG block, spec/13_ledger.md: Holds the record DATA; one copy per requester. -/
def LEDG_LOG_DATA.reg (q : Nat) : Nat := copyKey q (0x40090034)
def LEDG_LOG_DATA.DATA (q : Nat) : Field := ⟨LEDG_LOG_DATA.reg q, 0, 16⟩

/-- LEDG_LOG_STAT, LEDG block, spec/13_ledger.md: Reports the event log. -/
def LEDG_LOG_STAT.reg : Nat := 0x40090038
def LEDG_LOG_STAT.SAT : Field := ⟨LEDG_LOG_STAT.reg, 31, 1⟩
def LEDG_LOG_STAT.DROP : Field := ⟨LEDG_LOG_STAT.reg, 20, 11⟩
def LEDG_LOG_STAT.QUEUE : Field := ⟨LEDG_LOG_STAT.reg, 14, 6⟩
def LEDG_LOG_STAT.PASS : Field := ⟨LEDG_LOG_STAT.reg, 13, 1⟩
def LEDG_LOG_STAT.HEAD : Field := ⟨LEDG_LOG_STAT.reg, 0, 13⟩

/-- LEDG_WEAR_0, LEDG block, spec/13_ledger.md: Reports wear bounds (R261). -/
def LEDG_WEAR_0.reg : Nat := 0x40090040
def LEDG_WEAR_0.LOG : Field := ⟨LEDG_WEAR_0.reg, 20, 10⟩
def LEDG_WEAR_0.SNAP : Field := ⟨LEDG_WEAR_0.reg, 10, 10⟩
def LEDG_WEAR_0.REC : Field := ⟨LEDG_WEAR_0.reg, 0, 10⟩

/-- LEDG_WEAR_1, LEDG block, spec/13_ledger.md: Reports wear bounds (R261). -/
def LEDG_WEAR_1.reg : Nat := 0x40090044
def LEDG_WEAR_1.USER : Field := ⟨LEDG_WEAR_1.reg, 10, 10⟩
def LEDG_WEAR_1.PARAM : Field := ⟨LEDG_WEAR_1.reg, 0, 10⟩

/-! Registers of spec/14_host_bus.md. -/

/-- HOST_CFG, HOST block, spec/14_host_bus.md: Configures the two-wire bus. -/
def HOST_CFG.reg : Nat := 0x400A0000
def HOST_CFG.PECREQ : Field := ⟨HOST_CFG.reg, 31, 1⟩
def HOST_CFG.HNEN : Field := ⟨HOST_CFG.reg, 30, 1⟩
def HOST_CFG.TRC : Field := ⟨HOST_CFG.reg, 29, 1⟩
def HOST_CFG.HNINT : Field := ⟨HOST_CFG.reg, 0, 8⟩

/-- HOST_STATUS, HOST block, spec/14_host_bus.md: Reports the two-wire bus. -/
def HOST_STATUS.reg : Nat := 0x400A0004
def HOST_STATUS.CML : Field := ⟨HOST_STATUS.reg, 24, 8⟩
def HOST_STATUS.PAGE : Field := ⟨HOST_STATUS.reg, 16, 8⟩
def HOST_STATUS.STRETCH : Field := ⟨HOST_STATUS.reg, 15, 1⟩
def HOST_STATUS.RECOV : Field := ⟨HOST_STATUS.reg, 14, 1⟩

/-- HOST_CNT, HOST block, spec/14_host_bus.md: Counts refused transactions since the start. -/
def HOST_CNT.reg : Nat := 0x400A0008
def HOST_CNT.SAT_P : Field := ⟨HOST_CNT.reg, 31, 1⟩
def HOST_CNT.PEC : Field := ⟨HOST_CNT.reg, 16, 15⟩
def HOST_CNT.SAT_R : Field := ⟨HOST_CNT.reg, 15, 1⟩
def HOST_CNT.PROTO : Field := ⟨HOST_CNT.reg, 0, 15⟩

/-- HOST_CNT2, HOST block, spec/14_host_bus.md: Counts controller events since the start (R273). -/
def HOST_CNT2.reg : Nat := 0x400A000C
def HOST_CNT2.SAT_A : Field := ⟨HOST_CNT2.reg, 31, 1⟩
def HOST_CNT2.ARB : Field := ⟨HOST_CNT2.reg, 16, 15⟩
def HOST_CNT2.SAT_H : Field := ⟨HOST_CNT2.reg, 15, 1⟩
def HOST_CNT2.HNDROP : Field := ⟨HOST_CNT2.reg, 0, 15⟩

/-- HOST_LAST_TS_LO, HOST block, spec/14_host_bus.md: Report the STOP time of the last applied write. -/
def HOST_LAST_TS_LO.reg : Nat := 0x400A0010
def HOST_LAST_TS_LO.TS : Field := ⟨HOST_LAST_TS_LO.reg, 0, 32⟩

/-- HOST_LAST_TS_HI, HOST block, spec/14_host_bus.md: Report the STOP time of the last applied write. -/
def HOST_LAST_TS_HI.reg : Nat := 0x400A0014
def HOST_LAST_TS_HI.TS : Field := ⟨HOST_LAST_TS_HI.reg, 0, 32⟩

/-- HOST_MBOX_STAT, HOST block, spec/14_host_bus.md: Controls the mailboxes (R284). -/
def HOST_MBOX_STAT.reg : Nat := 0x400A0020
def HOST_MBOX_STAT.INFULL : Field := ⟨HOST_MBOX_STAT.reg, 31, 1⟩
def HOST_MBOX_STAT.INREL : Field := ⟨HOST_MBOX_STAT.reg, 30, 1⟩
def HOST_MBOX_STAT.INLEN : Field := ⟨HOST_MBOX_STAT.reg, 23, 7⟩
def HOST_MBOX_STAT.OUTLEN : Field := ⟨HOST_MBOX_STAT.reg, 0, 7⟩

/-- HOST_MBOX_IN, HOST block, spec/14_host_bus.md: Hold the inbound message. -/
def HOST_MBOX_IN.reg (i : Nat) : Nat := 0x400A0100 + 0x4 * i
def HOST_MBOX_IN.DATA (i : Nat) : Field := ⟨HOST_MBOX_IN.reg i, 0, 32⟩

/-- HOST_MBOX_OUT, HOST block, spec/14_host_bus.md: Hold the outbound message. -/
def HOST_MBOX_OUT.reg (i : Nat) : Nat := 0x400A0140 + 0x4 * i
def HOST_MBOX_OUT.DATA (i : Nat) : Field := ⟨HOST_MBOX_OUT.reg i, 0, 32⟩

/-- HOST_PMST, HOST block, spec/14_host_bus.md: Report the latched PMBus status of LOOP_nn (R281). -/
def HOST_PMST.reg (n : Nat) : Nat := 0x400A0200 + 0x4 * n
def HOST_PMST.MFR (n : Nat) : Field := ⟨HOST_PMST.reg n, 24, 8⟩
def HOST_PMST.TEMP (n : Nat) : Field := ⟨HOST_PMST.reg n, 16, 8⟩
def HOST_PMST.IOUT (n : Nat) : Field := ⟨HOST_PMST.reg n, 8, 8⟩
def HOST_PMST.VOUT (n : Nat) : Field := ⟨HOST_PMST.reg n, 0, 8⟩

/-- QP_STATUS, HOST block, spec/14_host_bus.md: Reports the quad port. -/
def QP_STATUS.reg : Nat := 0x400A0300
def QP_STATUS.LAST : Field := ⟨QP_STATUS.reg, 24, 8⟩
def QP_STATUS.OP : Field := ⟨QP_STATUS.reg, 16, 8⟩
def QP_STATUS.BUSY : Field := ⟨QP_STATUS.reg, 15, 1⟩

/-- QP_CNT, HOST block, spec/14_host_bus.md: Counts quad refusals since the start. -/
def QP_CNT.reg : Nat := 0x400A0304
def QP_CNT.SAT_C : Field := ⟨QP_CNT.reg, 31, 1⟩
def QP_CNT.CRC : Field := ⟨QP_CNT.reg, 16, 15⟩
def QP_CNT.SAT_R : Field := ⟨QP_CNT.reg, 15, 1⟩
def QP_CNT.REF : Field := ⟨QP_CNT.reg, 0, 15⟩

/-! Registers of spec/15_hierarchy.md. -/

/-- LINK_CFG, LINK block, spec/15_hierarchy.md: Sets role-wide link options. -/
def LINK_CFG.reg : Nat := 0x400B0000
def LINK_CFG.MGR : Field := ⟨LINK_CFG.reg, 31, 1⟩
def LINK_CFG.AUTOEXP : Field := ⟨LINK_CFG.reg, 30, 1⟩
def LINK_CFG.RMW : Field := ⟨LINK_CFG.reg, 29, 1⟩
def LINK_CFG.RMR : Field := ⟨LINK_CFG.reg, 28, 1⟩
def LINK_CFG.PEN : Field := ⟨LINK_CFG.reg, 24, 4⟩
def LINK_CFG.PPER : Field := ⟨LINK_CFG.reg, 0, 14⟩

/-- LINK_ID, LINK block, spec/15_hierarchy.md: Reports the device's place in the hierarchy. -/
def LINK_ID.reg : Nat := 0x400B0004
def LINK_ID.ORPHAN : Field := ⟨LINK_ID.reg, 31, 1⟩
def LINK_ID.JOINED : Field := ⟨LINK_ID.reg, 30, 1⟩
def LINK_ID.UP : Field := ⟨LINK_ID.reg, 14, 2⟩
def LINK_ID.DEPTH : Field := ⟨LINK_ID.reg, 11, 3⟩
def LINK_ID.PINNED : Field := ⟨LINK_ID.reg, 8, 1⟩
def LINK_ID.DEV : Field := ⟨LINK_ID.reg, 0, 8⟩

/-- LINK_PD, LINK block, spec/15_hierarchy.md: Sets the power-down cascade (R302). -/
def LINK_PD.reg : Nat := 0x400B0008
def LINK_PD.CASC : Field := ⟨LINK_PD.reg, 31, 1⟩
def LINK_PD.TWAIT : Field := ⟨LINK_PD.reg, 0, 16⟩

/-- LINK_ORPH, LINK block, spec/15_hierarchy.md: Sets the orphan policy (R308). -/
def LINK_ORPH.reg : Nat := 0x400B000C
def LINK_ORPH.POL : Field := ⟨LINK_ORPH.reg, 30, 2⟩
def LINK_ORPH.GRP : Field := ⟨LINK_ORPH.reg, 24, 4⟩
def LINK_ORPH.TPD : Field := ⟨LINK_ORPH.reg, 16, 8⟩
def LINK_ORPH.TDET : Field := ⟨LINK_ORPH.reg, 0, 8⟩

/-- LINK_PORT_STATUS, LINK block, spec/15_hierarchy.md: Report LK_n. -/
def LINK_PORT_STATUS.reg (n : Nat) : Nat := 0x400B0010 + 0x4 * n
def LINK_PORT_STATUS.STATE (n : Nat) : Field := ⟨LINK_PORT_STATUS.reg n, 29, 3⟩
def LINK_PORT_STATUS.PEER (n : Nat) : Field := ⟨LINK_PORT_STATUS.reg n, 16, 8⟩
def LINK_PORT_STATUS.SAT (n : Nat) : Field := ⟨LINK_PORT_STATUS.reg n, 15, 1⟩
def LINK_PORT_STATUS.CRCERR (n : Nat) : Field := ⟨LINK_PORT_STATUS.reg n, 0, 15⟩

/-- LINK_PORT_CNT, LINK block, spec/15_hierarchy.md: Count LK_n events since the start. -/
def LINK_PORT_CNT.reg (n : Nat) : Nat := 0x400B0020 + 0x4 * n
def LINK_PORT_CNT.SAT_D (n : Nat) : Field := ⟨LINK_PORT_CNT.reg n, 31, 1⟩
def LINK_PORT_CNT.DOWN (n : Nat) : Field := ⟨LINK_PORT_CNT.reg n, 16, 15⟩
def LINK_PORT_CNT.SAT_R (n : Nat) : Field := ⟨LINK_PORT_CNT.reg n, 15, 1⟩
def LINK_PORT_CNT.RESEND (n : Nat) : Field := ⟨LINK_PORT_CNT.reg n, 0, 15⟩

/-- LINK_TIME_STATUS, LINK block, spec/15_hierarchy.md: Reports time alignment (R295). -/
def LINK_TIME_STATUS.reg : Nat := 0x400B0030
def LINK_TIME_STATUS.STATE : Field := ⟨LINK_TIME_STATUS.reg, 30, 2⟩
def LINK_TIME_STATUS.SAT : Field := ⟨LINK_TIME_STATUS.reg, 23, 1⟩
def LINK_TIME_STATUS.STEPS : Field := ⟨LINK_TIME_STATUS.reg, 16, 7⟩
def LINK_TIME_STATUS.OFS : Field := ⟨LINK_TIME_STATUS.reg, 0, 16⟩

/-- LINK_TIME_RATE, LINK block, spec/15_hierarchy.md: Reports the rate correction. -/
def LINK_TIME_RATE.reg : Nat := 0x400B0034
def LINK_TIME_RATE.RATE : Field := ⟨LINK_TIME_RATE.reg, 0, 32⟩

/-- LINK_TIME_DLY, LINK block, spec/15_hierarchy.md: Reports the upstream one-way delay. -/
def LINK_TIME_DLY.reg : Nat := 0x400B0038
def LINK_TIME_DLY.DLY : Field := ⟨LINK_TIME_DLY.reg, 0, 16⟩

/-- LINK_TCFG, LINK block, spec/15_hierarchy.md: Sets the step threshold. -/
def LINK_TCFG.reg : Nat := 0x400B003C
def LINK_TCFG.STEP : Field := ⟨LINK_TCFG.reg, 0, 16⟩

/-- LINK_TIME_STEP_LO, LINK block, spec/15_hierarchy.md: Report the last step. -/
def LINK_TIME_STEP_LO.reg : Nat := 0x400B0040
def LINK_TIME_STEP_LO.STEP : Field := ⟨LINK_TIME_STEP_LO.reg, 0, 32⟩

/-- LINK_TIME_STEP_HI, LINK block, spec/15_hierarchy.md: Report the last step. -/
def LINK_TIME_STEP_HI.reg : Nat := 0x400B0044
def LINK_TIME_STEP_HI.STEP : Field := ⟨LINK_TIME_STEP_HI.reg, 0, 32⟩

/-- LINK_EPOCH, LINK block, spec/15_hierarchy.md: Reports the epoch. -/
def LINK_EPOCH.reg : Nat := 0x400B0048
def LINK_EPOCH.EPOCH : Field := ⟨LINK_EPOCH.reg, 0, 32⟩

/-- LINK_PRES_LO, LINK block, spec/15_hierarchy.md: Report devices joined and mismatched. -/
def LINK_PRES_LO.reg : Nat := 0x400B0050
def LINK_PRES_LO.DEV : Field := ⟨LINK_PRES_LO.reg, 0, 32⟩

/-- LINK_PRES_HI, LINK block, spec/15_hierarchy.md: Report devices joined and mismatched. -/
def LINK_PRES_HI.reg : Nat := 0x400B0054
def LINK_PRES_HI.DEV : Field := ⟨LINK_PRES_HI.reg, 0, 32⟩

/-- LINK_MISM_LO, LINK block, spec/15_hierarchy.md: Report devices joined and mismatched. -/
def LINK_MISM_LO.reg : Nat := 0x400B0058
def LINK_MISM_LO.DEV : Field := ⟨LINK_MISM_LO.reg, 0, 32⟩

/-- LINK_MISM_HI, LINK block, spec/15_hierarchy.md: Report devices joined and mismatched. -/
def LINK_MISM_HI.reg : Nat := 0x400B005C
def LINK_MISM_HI.DEV : Field := ⟨LINK_MISM_HI.reg, 0, 32⟩

/-- LINK_SW_STATUS, LINK block, spec/15_hierarchy.md: Reports the switch (R305 to R307). -/
def LINK_SW_STATUS.reg : Nat := 0x400B0060
def LINK_SW_STATUS.STATE : Field := ⟨LINK_SW_STATUS.reg, 29, 3⟩
def LINK_SW_STATUS.RDEV : Field := ⟨LINK_SW_STATUS.reg, 16, 8⟩
def LINK_SW_STATUS.CAUSE : Field := ⟨LINK_SW_STATUS.reg, 0, 4⟩

/-- LINK_SW_T_LO, LINK block, spec/15_hierarchy.md: Hold T. -/
def LINK_SW_T_LO.reg : Nat := 0x400B0064
def LINK_SW_T_LO.T : Field := ⟨LINK_SW_T_LO.reg, 0, 32⟩

/-- LINK_SW_T_HI, LINK block, spec/15_hierarchy.md: Hold T. -/
def LINK_SW_T_HI.reg : Nat := 0x400B0068
def LINK_SW_T_HI.T : Field := ⟨LINK_SW_T_HI.reg, 0, 32⟩

/-- LINK_SW_MASK_LO, LINK block, spec/15_hierarchy.md: Name the targets. -/
def LINK_SW_MASK_LO.reg : Nat := 0x400B0070
def LINK_SW_MASK_LO.DEV : Field := ⟨LINK_SW_MASK_LO.reg, 0, 32⟩

/-- LINK_SW_MASK_HI, LINK block, spec/15_hierarchy.md: Name the targets. -/
def LINK_SW_MASK_HI.reg : Nat := 0x400B0074
def LINK_SW_MASK_HI.DEV : Field := ⟨LINK_SW_MASK_HI.reg, 0, 32⟩

/-- LINK_SW_CMD, LINK block, spec/15_hierarchy.md: Arms or cancels the switch. -/
def LINK_SW_CMD.reg : Nat := 0x400B0078
def LINK_SW_CMD.KEY : Field := ⟨LINK_SW_CMD.reg, 24, 8⟩
def LINK_SW_CMD.OP : Field := ⟨LINK_SW_CMD.reg, 0, 2⟩

/-- LINK_SW_CFG, LINK block, spec/15_hierarchy.md: Sets the GO lead. -/
def LINK_SW_CFG.reg : Nat := 0x400B007C
def LINK_SW_CFG.GOLEAD : Field := ⟨LINK_SW_CFG.reg, 0, 16⟩

/-- LINK_RXEV, LINK block, spec/15_hierarchy.md: Takes the oldest received event; each read removes it (R299). -/
def LINK_RXEV.reg : Nat := 0x400B0080
def LINK_RXEV.VALID : Field := ⟨LINK_RXEV.reg, 31, 1⟩
def LINK_RXEV.DROP : Field := ⟨LINK_RXEV.reg, 30, 1⟩
def LINK_RXEV.DEV : Field := ⟨LINK_RXEV.reg, 16, 8⟩
def LINK_RXEV.LEFT : Field := ⟨LINK_RXEV.reg, 8, 8⟩
def LINK_RXEV.EV : Field := ⟨LINK_RXEV.reg, 0, 7⟩

/-- LINK_TX_CMD, LINK block, spec/15_hierarchy.md: one copy per engine. Sends the frame held in LINK_TX_BUF (R300). -/
def LINK_TX_CMD.reg (q : Nat) : Nat := copyKey q (0x400B0090)
def LINK_TX_CMD.TYPE (q : Nat) : Field := ⟨LINK_TX_CMD.reg q, 24, 8⟩
def LINK_TX_CMD.DST (q : Nat) : Field := ⟨LINK_TX_CMD.reg q, 16, 8⟩
def LINK_TX_CMD.LEN (q : Nat) : Field := ⟨LINK_TX_CMD.reg q, 0, 9⟩

/-- LINK_TX_STAT, LINK block, spec/15_hierarchy.md: one copy per engine. Reports the frame. -/
def LINK_TX_STAT.reg (q : Nat) : Nat := copyKey q (0x400B0094)
def LINK_TX_STAT.DONE (q : Nat) : Field := ⟨LINK_TX_STAT.reg q, 31, 1⟩
def LINK_TX_STAT.BUSY (q : Nat) : Field := ⟨LINK_TX_STAT.reg q, 30, 1⟩
def LINK_TX_STAT.RESULT (q : Nat) : Field := ⟨LINK_TX_STAT.reg q, 16, 8⟩
def LINK_TX_STAT.SEQ (q : Nat) : Field := ⟨LINK_TX_STAT.reg q, 0, 16⟩

/-- LINK_TX_ACK, LINK block, spec/15_hierarchy.md: one copy per engine. Hold the ACK content (R301). -/
def LINK_TX_ACK.reg (q i : Nat) : Nat := copyKey q (0x400B0098 + 0x4 * i)
def LINK_TX_ACK.DATA (q i : Nat) : Field := ⟨LINK_TX_ACK.reg q i, 0, 32⟩

/-- LINK_TX_BUF, LINK block, spec/15_hierarchy.md: one copy per engine. Hold the payload, and receive RDATA. -/
def LINK_TX_BUF.reg (q i : Nat) : Nat := copyKey q (0x400B0200 + 0x4 * i)
def LINK_TX_BUF.DATA (q i : Nat) : Field := ⟨LINK_TX_BUF.reg q i, 0, 32⟩

/-- LINK_TRC_CFG, LINK block, spec/15_hierarchy.md: Configures the trace (R310). -/
def LINK_TRC_CFG.reg : Nat := 0x400B00B0
def LINK_TRC_CFG.EN : Field := ⟨LINK_TRC_CFG.reg, 31, 1⟩
def LINK_TRC_CFG.STOP : Field := ⟨LINK_TRC_CFG.reg, 30, 1⟩
def LINK_TRC_CFG.FRZF : Field := ⟨LINK_TRC_CFG.reg, 29, 1⟩
def LINK_TRC_CFG.POST : Field := ⟨LINK_TRC_CFG.reg, 0, 16⟩

/-- LINK_TRC_STAT, LINK block, spec/15_hierarchy.md: Reports the trace. -/
def LINK_TRC_STAT.reg : Nat := 0x400B00B4
def LINK_TRC_STAT.WRAPPED : Field := ⟨LINK_TRC_STAT.reg, 31, 1⟩
def LINK_TRC_STAT.FROZEN : Field := ⟨LINK_TRC_STAT.reg, 30, 1⟩
def LINK_TRC_STAT.WR : Field := ⟨LINK_TRC_STAT.reg, 0, 16⟩

/-- LINK_TRC_CNT, LINK block, spec/15_hierarchy.md: Count records written and discarded since the start. -/
def LINK_TRC_CNT.reg : Nat := 0x400B00B8
def LINK_TRC_CNT.SAT : Field := ⟨LINK_TRC_CNT.reg, 31, 1⟩
def LINK_TRC_CNT.COUNT : Field := ⟨LINK_TRC_CNT.reg, 0, 31⟩

/-- LINK_TRC_DROP, LINK block, spec/15_hierarchy.md: Count records written and discarded since the start. -/
def LINK_TRC_DROP.reg : Nat := 0x400B00BC
def LINK_TRC_DROP.SAT : Field := ⟨LINK_TRC_DROP.reg, 31, 1⟩
def LINK_TRC_DROP.COUNT : Field := ⟨LINK_TRC_DROP.reg, 0, 31⟩

/-- LINK_TRC_CTRL, LINK block, spec/15_hierarchy.md: Unfreezes the trace. -/
def LINK_TRC_CTRL.reg : Nat := 0x400B00C0
def LINK_TRC_CTRL.KEY : Field := ⟨LINK_TRC_CTRL.reg, 24, 8⟩
def LINK_TRC_CTRL.UNFREEZE : Field := ⟨LINK_TRC_CTRL.reg, 0, 1⟩

/-- LINK_TRC_WR_DATA, LINK block, spec/15_hierarchy.md: one copy per requester. Holds the record DATA. -/
def LINK_TRC_WR_DATA.reg (q : Nat) : Nat := copyKey q (0x400B00C4)
def LINK_TRC_WR_DATA.DATA (q : Nat) : Field := ⟨LINK_TRC_WR_DATA.reg q, 0, 32⟩

/-- LINK_TRC_WR_CMD, LINK block, spec/15_hierarchy.md: one copy per requester. Writes a record (R311). -/
def LINK_TRC_WR_CMD.reg (q : Nat) : Nat := copyKey q (0x400B00C8)
def LINK_TRC_WR_CMD.CODE (q : Nat) : Field := ⟨LINK_TRC_WR_CMD.reg q, 16, 16⟩
def LINK_TRC_WR_CMD.SOURCE (q : Nat) : Field := ⟨LINK_TRC_WR_CMD.reg q, 0, 16⟩

/-- LINK_EXP_LO, LINK block, spec/15_hierarchy.md: Hold the expected digest of DEV_nn (R304). -/
def LINK_EXP_LO.reg (n : Nat) : Nat := 0x400B0400 + 0x8 * n
def LINK_EXP_LO.DIGEST (n : Nat) : Field := ⟨LINK_EXP_LO.reg n, 0, 32⟩

/-- LINK_EXP_HI, LINK block, spec/15_hierarchy.md: Hold the expected digest of DEV_nn (R304). -/
def LINK_EXP_HI.reg (n : Nat) : Nat := 0x400B0404 + 0x8 * n
def LINK_EXP_HI.DIGEST (n : Nat) : Field := ⟨LINK_EXP_HI.reg n, 0, 32⟩

/-- LINK_RMAP, LINK block, spec/15_hierarchy.md: Report remote map entries 2i and 2i + 1 (R297). -/
def LINK_RMAP.reg (i : Nat) : Nat := 0x400B0800 + 0x4 * i
def LINK_RMAP.DEV1 (i : Nat) : Field := ⟨LINK_RMAP.reg i, 24, 8⟩
def LINK_RMAP.RAIL1 (i : Nat) : Field := ⟨LINK_RMAP.reg i, 16, 8⟩
def LINK_RMAP.DEV0 (i : Nat) : Field := ⟨LINK_RMAP.reg i, 8, 8⟩
def LINK_RMAP.RAIL0 (i : Nat) : Field := ⟨LINK_RMAP.reg i, 0, 8⟩

/-! Registers of spec/16_drydown.md. -/

/-- BIST_CFG, BIST block, spec/16_drydown.md: Sets the slice schedule (R313). -/
def BIST_CFG.reg : Nat := 0x400C0000
def BIST_CFG.EN : Field := ⟨BIST_CFG.reg, 31, 1⟩
def BIST_CFG.PER : Field := ⟨BIST_CFG.reg, 16, 8⟩
def BIST_CFG.OFS : Field := ⟨BIST_CFG.reg, 0, 10⟩

/-- BIST_MASK, BIST block, spec/16_drydown.md: Enables slice codes. -/
def BIST_MASK.reg : Nat := 0x400C0004
def BIST_MASK.EN : Field := ⟨BIST_MASK.reg, 2, 7⟩
def BIST_MASK.REF : Field := ⟨BIST_MASK.reg, 1, 1⟩

/-- BIST_STATUS, BIST block, spec/16_drydown.md: Reports the controller. -/
def BIST_STATUS.reg : Nat := 0x400C0008
def BIST_STATUS.STATE : Field := ⟨BIST_STATUS.reg, 29, 3⟩
def BIST_STATUS.DENIED : Field := ⟨BIST_STATUS.reg, 28, 1⟩
def BIST_STATUS.ACT : Field := ⟨BIST_STATUS.reg, 25, 3⟩

/-- BIST_CNT, BIST block, spec/16_drydown.md: Counts since the start. -/
def BIST_CNT.reg : Nat := 0x400C000C
def BIST_CNT.SAT_F : Field := ⟨BIST_CNT.reg, 31, 1⟩
def BIST_CNT.FAIL : Field := ⟨BIST_CNT.reg, 16, 15⟩
def BIST_CNT.SAT_D : Field := ⟨BIST_CNT.reg, 15, 1⟩
def BIST_CNT.DEFER : Field := ⟨BIST_CNT.reg, 0, 15⟩

/-- BIST_LAST, BIST block, spec/16_drydown.md: Holds the last confirmed slice failure (R315). -/
def BIST_LAST.reg : Nat := 0x400C0010
def BIST_LAST.VALID : Field := ⟨BIST_LAST.reg, 31, 1⟩
def BIST_LAST.CODE : Field := ⟨BIST_LAST.reg, 8, 8⟩
def BIST_LAST.INDEX : Field := ⟨BIST_LAST.reg, 0, 8⟩

/-- BIST_REC_LO, BIST block, spec/16_drydown.md: Report record 2 as read at t6 (R319). -/
def BIST_REC_LO.reg : Nat := 0x400C0014
def BIST_REC_LO.REC : Field := ⟨BIST_REC_LO.reg, 0, 32⟩

/-- BIST_REC_HI, BIST block, spec/16_drydown.md: Report record 2 as read at t6 (R319). -/
def BIST_REC_HI.reg : Nat := 0x400C0018
def BIST_REC_HI.REC : Field := ⟨BIST_REC_HI.reg, 0, 32⟩

/-- BIST_START, BIST block, spec/16_drydown.md: Reports this start's choice and start-up self-test (R319, R320). -/
def BIST_START.reg : Nat := 0x400C001C
def BIST_START.RAN : Field := ⟨BIST_START.reg, 31, 1⟩
def BIST_START.PASS : Field := ⟨BIST_START.reg, 30, 1⟩
def BIST_START.WHY : Field := ⟨BIST_START.reg, 28, 2⟩
def BIST_START.FAILS : Field := ⟨BIST_START.reg, 16, 8⟩
def BIST_START.ITEM : Field := ⟨BIST_START.reg, 12, 4⟩
def BIST_START.INDEX : Field := ⟨BIST_START.reg, 0, 8⟩

/-- BIST_CMD, BIST block, spec/16_drydown.md: Direct command (R321). -/
def BIST_CMD.reg : Nat := 0x400C0020
def BIST_CMD.KEY : Field := ⟨BIST_CMD.reg, 24, 8⟩
def BIST_CMD.OP : Field := ⟨BIST_CMD.reg, 16, 4⟩
def BIST_CMD.CODE : Field := ⟨BIST_CMD.reg, 8, 8⟩
def BIST_CMD.INDEX : Field := ⟨BIST_CMD.reg, 0, 8⟩

/-- BIST_CMDRES, BIST block, spec/16_drydown.md: Reports the last direct command. -/
def BIST_CMDRES.reg : Nat := 0x400C0024
def BIST_CMDRES.DONE : Field := ⟨BIST_CMDRES.reg, 31, 1⟩
def BIST_CMDRES.PASS : Field := ⟨BIST_CMDRES.reg, 30, 1⟩
def BIST_CMDRES.REFUSED : Field := ⟨BIST_CMDRES.reg, 29, 1⟩
def BIST_CMDRES.FAILS : Field := ⟨BIST_CMDRES.reg, 16, 8⟩
def BIST_CMDRES.ITEM : Field := ⟨BIST_CMDRES.reg, 12, 4⟩
def BIST_CMDRES.INDEX : Field := ⟨BIST_CMDRES.reg, 0, 8⟩

end Sys2Proof.Machine.R
end

