-- ==== Sys2Proof/Machine/RegMap.lean ====
section
/-! DEFINITION.  The register map of spec/01 to spec/16 as data: for every register its place, its
reset word and which of its bits a plain write reaches (Table 0.5, R7). -/

namespace Sys2Proof.Machine

/-- One row of the register map: `n1` copies `s1` bytes apart, each holding `n2` copies `s2` bytes
apart, from offset `off` of the block; the masks are the bits of each access code of Table 0.5, and `cut`
marks the lowest bit of every field. -/
structure RegRow where
  off : Nat
  n1 : Nat
  s1 : Nat
  n2 : Nat
  s2 : Nat
  ro : Nat
  rw : Nat
  rwl : Nat
  w1c : Nat
  wo : Nat
  reset : Nat
  cut : Nat
  deriving DecidableEq, Repr

/-- Registers of block SYS, part 0. -/
def regRowsSys0 : List RegRow := [
  ⟨0x0, 1, 0, 1, 0, 0xFFA01F, 0, 0, 0x4000, 0, 0x40000, 0x127E03F⟩,  -- SYS_STATUS
  ⟨0x4, 1, 0, 1, 0, 0, 0, 0, 0, 0xFF00000F, 0, 0x1000011⟩,  -- SYS_PWR_CMD
  ⟨0x8, 1, 0, 1, 0, 0x3FF04, 0, 0, 0xF9, 0, 0, 0x411FF⟩,  -- SYS_RESET_CAUSE
  ⟨0x10, 1, 0, 1, 0, 0, 0xFFFE0F, 0, 0, 0, 0xC00, 0x1111E11⟩,  -- SYS_WAKE_CFG
  ⟨0x14, 1, 0, 1, 0, 0xFFF, 0, 0, 0, 0, 0, 0x1F11⟩,  -- SYS_WAKE_CAUSE
  ⟨0x18, 1, 0, 1, 0, 0, 0xFFFFFFFF, 0, 0, 0, 0xFFFFFFFF, 0x1⟩,  -- SYS_PARK_ALARM_LO
  ⟨0x1C, 1, 0, 1, 0, 0, 0xFFFFFFFF, 0, 0, 0, 0xFFFFFFFF, 0x1⟩,  -- SYS_PARK_ALARM_HI
  ⟨0x20, 1, 0, 1, 0, 0x181, 0, 0, 0x7E, 0, 0, 0x3FF⟩,  -- SYS_CLK_STATUS
  ⟨0x30, 1, 0, 1, 0, 0xFF0000, 0, 0, 0, 0, 0, 0x1310001⟩,  -- SYS_LC_STATUS
  ⟨0x34, 1, 0, 1, 0, 0, 0, 0, 0, 0xFF000007, 0, 0x1000009⟩,  -- SYS_LC_CMD
  ⟨0x38, 1, 0, 1, 0, 0xFFFFFFFF, 0, 0, 0, 0, 0, 0x1⟩,  -- SYS_LC_NONCE_LO
  ⟨0x3C, 1, 0, 1, 0, 0xFFFFFFFF, 0, 0, 0, 0, 0, 0x1⟩,  -- SYS_LC_NONCE_HI
  ⟨0x100, 40, 0x4, 1, 0, 0, 0xFFFFFFFF, 0, 0, 0, 0, 0x1⟩]  -- SYS_LC_REQ

/-- Every register of block SYS. -/
def regRowsSys : List RegRow := regRowsSys0

/-- Registers of block LOOP, part 0. -/
def regRowsLoop0 : List RegRow := [
  ⟨0x0, 24, 0x400, 1, 0, 0, 0, 0x1FF80000, 0, 0, 0x1000000, 0x21380001⟩,  -- LOOP_CFG
  ⟨0x4, 24, 0x400, 1, 0, 0, 0x3FFFFFF, 0, 0, 0, 0, 0x4010001⟩,  -- LOOP_VSET
  ⟨0x8, 24, 0x400, 1, 0, 0, 0x3FF, 0x3FF0000, 0, 0, 0x140014, 0x4010401⟩,  -- LOOP_SLEW
  ⟨0xC, 24, 0x400, 1, 0, 0, 0, 0xFFFFFFFF, 0, 0, 0x4000400, 0x10001⟩,  -- LOOP_VLIM
  ⟨0x10, 24, 0x400, 1, 0, 0, 0, 0xF0FFF, 0, 0, 0x10000, 0x111001⟩,  -- LOOP_SYNC
  ⟨0x14, 24, 0x400, 1, 0, 0, 0, 0xFFFF01FF, 0, 0, 0x2EE00000, 0x10301⟩,  -- LOOP_FF
  ⟨0x18, 24, 0x400, 1, 0, 0, 0, 0xFFFFFFFF, 0, 0, 0, 0x10001⟩,  -- LOOP_DLIM
  ⟨0x1C, 24, 0x400, 1, 0, 0, 0, 0xFFFFFF, 0, 0, 0, 0x1000001⟩,  -- LOOP_CK
  ⟨0x20, 24, 0x400, 1, 0, 0, 0, 0xFFFFFF, 0, 0, 0, 0x1000001⟩,  -- LOOP_CZ1
  ⟨0x24, 24, 0x400, 1, 0, 0, 0, 0xFFFFFF, 0, 0, 0, 0x1000001⟩,  -- LOOP_CZ2
  ⟨0x28, 24, 0x400, 1, 0, 0, 0, 0xFFFFFF, 0, 0, 0, 0x1000001⟩,  -- LOOP_CP1
  ⟨0x2C, 24, 0x400, 1, 0, 0, 0, 0xFFFFFF, 0, 0, 0, 0x1000001⟩,  -- LOOP_CP2
  ⟨0x30, 24, 0x400, 1, 0, 0, 0, 0xFFFFFF, 0, 0, 0, 0x1000001⟩,  -- LOOP_CP3
  ⟨0x34, 24, 0x400, 1, 0, 0xFFFFFF, 0, 0, 0, 0, 0, 0x1000001⟩,  -- LOOP_CK_EFF
  ⟨0x38, 24, 0x400, 1, 0, 0xFFFFFF, 0, 0, 0, 0, 0, 0x1000001⟩,  -- LOOP_CZ1_EFF
  ⟨0x3C, 24, 0x400, 1, 0, 0xFFFFFF, 0, 0, 0, 0, 0, 0x1000001⟩,  -- LOOP_CZ2_EFF
  ⟨0x40, 24, 0x400, 1, 0, 0, 0, 0xFF3F03FF, 0, 0, 0x20200132, 0xC1410501⟩,  -- LOOP_NL
  ⟨0x44, 24, 0x400, 1, 0, 0, 0, 0x1FFFFF, 0, 0, 0x1919, 0x210101⟩,  -- LOOP_PROT
  ⟨0x48, 24, 0x400, 1, 0, 0, 0, 0xFFFF, 0, 0, 0x600, 0x10001⟩,  -- LOOP_OVABS
  ⟨0x4C, 24, 0x400, 1, 0, 0, 0, 0xFFFF, 0, 0, 0x1E1E, 0x10101⟩,  -- LOOP_PGW
  ⟨0x50, 24, 0x400, 1, 0, 0, 0, 0x3FF7FFF, 0, 0, 0xA0000, 0x4018001⟩,  -- LOOP_ILIM
  ⟨0x54, 24, 0x400, 1, 0, 0, 0, 0x3FFFFFFF, 0, 0, 0xA02832, 0x40100401⟩,  -- LOOP_TIME
  ⟨0x58, 24, 0x400, 1, 0, 0, 0, 0xFFFFFFFF, 0, 0, 0, 0x81001001⟩,  -- LOOP_DE
  ⟨0x5C, 24, 0x400, 1, 0, 0, 0, 0x9FFFFF00, 0, 0, 0x1000000, 0xA1010101⟩]  -- LOOP_SHED

/-- Registers of block LOOP, part 1. -/
def regRowsLoop1 : List RegRow := [
  ⟨0x60, 24, 0x400, 1, 0, 0x1F, 0, 0xFF1F00, 0, 0xC0000000, 0, 0xC1012121⟩,  -- LOOP_LOCK
  ⟨0x64, 24, 0x400, 1, 0, 0xFFFFE3FF, 0, 0, 0, 0, 0, 0x120FE421⟩,  -- LOOP_STATUS
  ⟨0x68, 24, 0x400, 1, 0, 0xFFFFFFFF, 0, 0, 0, 0, 0, 0x10001⟩,  -- LOOP_VREF
  ⟨0x6C, 24, 0x400, 1, 0, 0xFFFF, 0, 0, 0, 0, 0, 0x10001⟩,  -- LOOP_VOUT
  ⟨0x70, 24, 0x400, 1, 0, 0xFFFFFF, 0, 0, 0, 0, 0, 0x1000001⟩,  -- LOOP_IOUT
  ⟨0x74, 24, 0x400, 1, 0, 0x7FFF, 0, 0, 0, 0, 0, 0x8001⟩,  -- LOOP_ILIM_EFF
  ⟨0x78, 24, 0x400, 1, 0, 0xF01FFFFF, 0, 0, 0, 0, 0, 0x90210001⟩,  -- LOOP_REFUSE
  ⟨0x7C, 24, 0x400, 1, 0, 0xFFFFFFFF, 0, 0, 0, 0, 0, 0x80018001⟩,  -- LOOP_NL_CNT
  ⟨0x80, 24, 0x400, 1, 0, 0, 0, 0xFFFF, 0, 0, 0x400, 0x10001⟩,  -- LOOP_FSET
  ⟨0x6000, 1, 0, 1, 0, 0, 0, 0x7FFFF, 0, 0, 0x4B00, 0xE0001⟩,  -- LOOP_REF_CFG
  ⟨0x6004, 1, 0, 1, 0, 0x3FFFF, 0, 0, 0x40000, 0, 0, 0xE0001⟩,  -- LOOP_REF_STATUS
  ⟨0x100, 24, 0x400, 1, 0, 0, 0, 0xDFF00FFF, 0, 0x20000000, 0x440000A, 0xE1101001⟩,  -- SV_CFG
  ⟨0x104, 24, 0x400, 1, 0, 0, 0, 0xFFFFFF, 0, 0, 0x51E19, 0x1010101⟩,  -- SV_BND
  ⟨0x108, 24, 0x400, 1, 0, 0, 0, 0xFFFFFFFF, 0, 0, 0x2D1E03E8, 0x1010001⟩,  -- SV_TGT
  ⟨0x10C, 24, 0x400, 1, 0, 0, 0, 0xFFFFF, 0, 0, 0x3E8, 0x100001⟩,  -- SV_CCOMM
  ⟨0x110, 24, 0x400, 1, 0, 0, 0, 0xFFFF, 0, 0, 0x505A, 0x10101⟩,  -- SV_HLIM
  ⟨0x120, 24, 0x400, 1, 0, 0xFFFFF, 0, 0, 0, 0, 0, 0x100001⟩,  -- SV_RES_C
  ⟨0x124, 24, 0x400, 1, 0, 0xFFFFFFFF, 0, 0, 0, 0, 0, 0x10001⟩,  -- SV_RES_ESR
  ⟨0x12C, 24, 0x400, 1, 0, 0xFF00FFFF, 0, 0, 0, 0, 0, 0x1010001⟩,  -- SV_RES_FC
  ⟨0x130, 24, 0x400, 1, 0, 0xC0FF007F, 0, 0, 0, 0, 0, 0x410100F9⟩,  -- SV_STATUS
  ⟨0x134, 24, 0x400, 1, 0, 0xFFFFFFFF, 0, 0, 0, 0, 0, 0x80018001⟩,  -- SV_CNT
  ⟨0x140, 24, 0x400, 1, 0, 0x40000000, 0, 0xBF0FFFFF, 0, 0, 0x1401F464, 0xC1100401⟩,  -- IL_FC
  ⟨0x144, 24, 0x400, 1, 0, 0xFFFFFFFF, 0, 0, 0, 0, 0, 0x80018001⟩,  -- IL_FCNT1
  ⟨0x148, 24, 0x400, 1, 0, 0xFFFFFFFF, 0, 0, 0, 0, 0, 0x80018001⟩]  -- IL_FCNT2

/-- Every register of block LOOP. -/
def regRowsLoop : List RegRow := regRowsLoop0 ++ regRowsLoop1

/-- Registers of block PHASE, part 0. -/
def regRowsPhase0 : List RegRow := [
  ⟨0x0, 48, 0x100, 1, 0, 0, 0, 0x80001F1F, 0, 0, 0, 0x80002121⟩,  -- PH_CFG
  ⟨0x4, 48, 0x100, 1, 0, 0, 0, 0xFFF0FFF, 0, 0, 0x1F40000, 0x10011001⟩,  -- PH_ISNS
  ⟨0x8, 48, 0x100, 1, 0, 0, 0, 0x3FF03FF, 0, 0, 0xC80190, 0x4010401⟩,  -- PH_ILIM
  ⟨0xC, 48, 0x100, 1, 0, 0, 0, 0xFFFFFFF, 0, 0, 0xC80064, 0x10010001⟩,  -- PH_IND
  ⟨0x10, 48, 0x100, 1, 0, 0, 0, 0x3FFFFFF, 0, 0, 0x2585004, 0x4010121⟩,  -- PH_TMF
  ⟨0x14, 48, 0x100, 1, 0, 0, 0, 0xFFFFF, 0, 0, 0x59682, 0x110101⟩,  -- PH_TLIM
  ⟨0x18, 48, 0x100, 1, 0, 0, 0, 0xFFFF1F, 0, 0, 0x40406, 0x1010121⟩,  -- PH_TIME
  ⟨0x20, 48, 0x100, 1, 0, 0xFFFE1FFF, 0, 0, 0, 0, 0x1F00, 0x2DFE2101⟩,  -- PH_STATUS
  ⟨0x24, 48, 0x100, 1, 0, 0xFFFFFF, 0, 0, 0, 0, 0, 0x1000001⟩,  -- PH_IOUT
  ⟨0x28, 48, 0x100, 1, 0, 0xFFFFFFFF, 0, 0, 0, 0, 0, 0x10001⟩,  -- PH_IPV
  ⟨0x2C, 48, 0x100, 1, 0, 0xFFFFFFFF, 0, 0, 0, 0, 0, 0x10001⟩,  -- PH_TEMP
  ⟨0x30, 48, 0x100, 1, 0, 0xFFFF, 0, 0, 0, 0, 0, 0x10001⟩,  -- PH_TRIM
  ⟨0x34, 48, 0x100, 1, 0, 0xFFFF01FF, 0, 0, 0, 0, 0, 0x10201⟩,  -- PH_FLUX
  ⟨0x38, 48, 0x100, 1, 0, 0xFFFFFFFF, 0, 0, 0, 0, 0, 0x80018001⟩,  -- PH_OCCNT
  ⟨0x4000, 24, 0x10, 1, 0, 0, 0, 0x80FFFFFF, 0, 0, 0x503E8, 0x81010001⟩,  -- PH_LBAL
  ⟨0x4004, 24, 0x10, 1, 0, 0xFFFFFF, 0, 0, 0, 0, 0, 0x1087001⟩,  -- PH_LSTAT
  ⟨0x5000, 1, 0, 1, 0, 0xFFF, 0, 0, 0x10000, 0, 0, 0x31001⟩]  -- PH_REF_STATUS

/-- Every register of block PHASE. -/
def regRowsPhase : List RegRow := regRowsPhase0

/-- Registers of block SEQ, part 0. -/
def regRowsSeq0 : List RegRow := [
  ⟨0x0, 64, 0x100, 1, 0, 0, 0, 0xFCF3F3FF, 0, 0, 0x8000000, 0xFD141421⟩,  -- SEQ_RAIL_CFG
  ⟨0x4, 64, 0x100, 1, 0, 0, 0, 0xFF3FFF, 0, 0, 0x80064, 0x1014001⟩,  -- SEQ_RAIL_QUAL
  ⟨0x8, 64, 0x100, 1, 0, 0, 0, 0x3FFF3FFF, 0, 0, 0x640064, 0x40014001⟩,  -- SEQ_RAIL_TMO
  ⟨0xC, 64, 0x100, 1, 0, 0, 0, 0x80FF0FFF, 0, 0, 0, 0x81011001⟩,  -- SEQ_RAIL_INRUSH
  ⟨0x10, 64, 0x100, 1, 0, 0, 0, 0xFFFFFFFF, 0, 0, 0, 0x1⟩,  -- SEQ_RAIL_DEP_LO
  ⟨0x14, 64, 0x100, 1, 0, 0, 0, 0xFFFFFFFF, 0, 0, 0, 0x1⟩,  -- SEQ_RAIL_DEP_HI
  ⟨0x18, 64, 0x100, 1, 0, 0, 0, 0x8000000F, 0, 0, 0, 0x80000011⟩,  -- SEQ_RAIL_TERM
  ⟨0x1C, 64, 0x100, 1, 0, 0, 0, 0xFFFFFFFF, 0, 0, 0, 0x1010101⟩,  -- SEQ_RAIL_REM
  ⟨0x20, 64, 0x100, 1, 0, 0, 0, 0xFF003FFF, 0, 0, 0x4300000A, 0x51004001⟩,  -- SEQ_RAIL_REACT
  ⟨0x24, 64, 0x100, 1, 0, 0, 0, 0xFF0FFF, 0, 0, 0x64, 0x1011001⟩,  -- SEQ_RAIL_OFF
  ⟨0x28, 64, 0x100, 1, 0, 0, 0, 0, 0, 0xFF000003, 0, 0x1000005⟩,  -- SEQ_RAIL_CTRL
  ⟨0x2C, 64, 0x100, 1, 0, 0xFFFE003F, 0, 0, 0, 0, 0, 0x13FE0041⟩,  -- SEQ_RAIL_STATUS
  ⟨0x30, 64, 0x100, 1, 0, 0xFFFFF8FF, 0, 0, 0, 0, 0, 0x80011901⟩,  -- SEQ_RAIL_CNT
  ⟨0x34, 64, 0x100, 1, 0, 0xFFF, 0, 0, 0, 0, 0, 0x1001⟩,  -- SEQ_RAIL_INRPK
  ⟨0x38, 64, 0x100, 1, 0, 0xFFFFFF, 0, 0, 0, 0, 0, 0x1000001⟩,  -- SEQ_RAIL_TON
  ⟨0x4000, 16, 0x10, 1, 0, 0, 0, 0x8F003FFF, 0, 0, 0x300000A, 0x91004001⟩,  -- SEQ_GRP_CFG
  ⟨0x4004, 16, 0x10, 1, 0, 0, 0, 0, 0, 0xFF000001, 0, 0x1000003⟩,  -- SEQ_GRP_CTRL
  ⟨0x4008, 16, 0x10, 1, 0, 0xFF000000, 0, 0, 0, 0, 0, 0x71000001⟩,  -- SEQ_GRP_STATUS
  ⟨0x5000, 1, 0, 1, 0, 0, 0, 0x8FFF03FF, 0, 0, 0x3C0005, 0x91010401⟩,  -- SEQ_CFG
  ⟨0x5004, 1, 0, 1, 0, 0, 0, 0xFFFFFFFF, 0, 0, 0, 0x10001⟩,  -- SEQ_BUDGET
  ⟨0x5008, 1, 0, 1, 0, 0, 0, 0xFFF0FFFF, 0, 0, 0xFF300A0A, 0x1110101⟩,  -- SEQ_SYS
  ⟨0x500C, 1, 0, 1, 0, 0xF7E0FFFF, 0, 0, 0x8000000, 0, 0, 0x3C610001⟩,  -- SEQ_STATUS
  ⟨0x5010, 1, 0, 1, 0, 0, 0, 0, 0, 0xFF000001, 0, 0x1000003⟩,  -- SEQ_CTRL
  ⟨0x5014, 1, 0, 1, 0, 0xFFFF03FF, 0, 0, 0, 0, 0, 0x80010481⟩]  -- SEQ_SNAP

/-- Every register of block SEQ. -/
def regRowsSeq : List RegRow := regRowsSeq0

/-- Registers of block SUP, part 0. -/
def regRowsSup0 : List RegRow := [
  ⟨0x0, 64, 0x10, 1, 0, 0, 0, 0xFC7F000F, 0, 0, 0x40002, 0xE4810011⟩,  -- SUP_MON_CFG
  ⟨0x4, 64, 0x10, 1, 0, 0, 0, 0x3FF03FF, 0, 0, 0x3FF0000, 0x4010401⟩,  -- SUP_MON_THR
  ⟨0x8, 64, 0x10, 1, 0, 0xF801FFFF, 0, 0, 0, 0, 0, 0xF8030001⟩,  -- SUP_MON_STATUS
  ⟨0x400, 1, 0, 1, 0, 0, 0, 0x3FF03FF, 0, 0, 0x3C0003D, 0x4010401⟩,  -- SUP_VIN_THR
  ⟨0x404, 1, 0, 1, 0, 0, 0, 0x3FF70FF, 0, 0, 0x60200A, 0x4019101⟩,  -- SUP_VIN_CFG
  ⟨0x408, 1, 0, 1, 0, 0xE001FFFF, 0, 0, 0, 0, 0, 0xE0030001⟩,  -- SUP_VIN_STATUS
  ⟨0x500, 8, 0x10, 1, 0, 0, 0, 0x8FFF0FFF, 0, 0, 0x10A000A, 0x91011001⟩,  -- SUP_RSTO_CFG
  ⟨0x504, 8, 0x10, 1, 0, 0, 0, 0xFFFFFFFF, 0, 0, 0, 0x1⟩,  -- SUP_RSTO_GATE_LO
  ⟨0x508, 8, 0x10, 1, 0, 0, 0, 0xFFFFFFFF, 0, 0, 0, 0x1⟩,  -- SUP_RSTO_GATE_HI
  ⟨0x50C, 8, 0x10, 1, 0, 0xFE01FFFF, 0, 0, 0, 0, 0, 0xC2030001⟩,  -- SUP_RSTO_STATUS
  ⟨0x600, 1, 0, 1, 0, 0, 0, 0xFFFFFFFF, 0, 0, 0x3191414, 0x99010101⟩,  -- SUP_WD_CFG
  ⟨0x604, 1, 0, 1, 0, 0, 0, 0xFFFF, 0, 0, 0, 0x10001⟩,  -- SUP_WD_KEY
  ⟨0x608, 1, 0, 1, 0, 0xFFFF, 0, 0, 0, 0, 0, 0x10001⟩,  -- SUP_WD_CHAL
  ⟨0x60C, 1, 0, 1, 0, 0, 0, 0, 0, 0xFFFF, 0, 0x10001⟩,  -- SUP_WD_ANS
  ⟨0x610, 1, 0, 1, 0, 0xE700FFFF, 0, 0, 0x10000000, 0, 0, 0x39010001⟩,  -- SUP_WD_STATUS
  ⟨0x614, 1, 0, 1, 0, 0xFFFFFFFF, 0, 0, 0, 0, 0, 0x80180181⟩]  -- SUP_WD_CNT

/-- Every register of block SUP. -/
def regRowsSup : List RegRow := regRowsSup0

/-- Registers of block MEAS, part 0. -/
def regRowsMeas0 : List RegRow := [
  ⟨0x0, 256, 0x10, 1, 0, 0, 0, 0xF87F0000, 0, 0, 0x80000, 0xC8810001⟩,  -- MEAS_CH_CFG
  ⟨0x4, 256, 0x10, 1, 0, 0, 0, 0x80FFFFFF, 0, 0, 0x10000, 0x81000001⟩,  -- MEAS_CH_SCALE
  ⟨0x8, 256, 0x10, 1, 0, 0xD2000000, 0, 0, 0x2C000000, 0, 0, 0xFE000001⟩,  -- MEAS_CH_STATUS
  ⟨0x1000, 8, 0x20, 1, 0, 0, 0, 0x87FFFF00, 0, 0, 0x82002800, 0x89010101⟩,  -- MEAS_MC_CFG
  ⟨0x1004, 8, 0x20, 1, 0, 0xFFFFFFFF, 0, 0, 0, 0, 0, 0xC2400001⟩,  -- MEAS_MC_STATUS
  ⟨0x1008, 8, 0x20, 1, 0, 0xFFFFFFFF, 0, 0, 0, 0, 0, 0x80018001⟩,  -- MEAS_MC_CNT
  ⟨0x100C, 8, 0x20, 1, 0, 0x7000FFFF, 0, 0x8FFF0000, 0, 0, 0x83200000, 0xD0010001⟩,  -- MEAS_XCK
  ⟨0x1200, 1, 0, 1, 0, 0, 0, 0, 0, 0xFF00000F, 0, 0x1000015⟩,  -- MEAS_SNAP_CMD
  ⟨0x1240, 4, 0x40, 1, 0, 0, 0xFF, 0, 0, 0, 0, 0x101⟩,  -- MEAS_SNAP_SEL
  ⟨0x1244, 4, 0x40, 1, 0, 0xB000FFFF, 0, 0, 0x40000000, 0, 0x90000000, 0xF0010001⟩,  -- MEAS_SNAP_STAT
  ⟨0x1248, 4, 0x40, 1, 0, 0xFFFFFFFF, 0, 0, 0, 0, 0, 0x1⟩,  -- MEAS_SNAP_SUM_LO
  ⟨0x124C, 4, 0x40, 1, 0, 0xFFFFFFFF, 0, 0, 0, 0, 0, 0x1⟩,  -- MEAS_SNAP_SUM_HI
  ⟨0x1250, 4, 0x40, 1, 0, 0xFFFFFF, 0, 0, 0, 0, 0, 0x1000001⟩,  -- MEAS_SNAP_CNT
  ⟨0x1254, 4, 0x40, 1, 0, 0xFFFFFFFF, 0, 0, 0, 0, 0, 0x1⟩,  -- MEAS_SNAP_MIN
  ⟨0x1258, 4, 0x40, 1, 0, 0xFFFFFFFF, 0, 0, 0, 0, 0, 0x1⟩,  -- MEAS_SNAP_MAX
  ⟨0x125C, 4, 0x40, 1, 0, 0xFFFFFFFF, 0, 0, 0, 0, 0, 0x1⟩,  -- MEAS_SNAP_TIME_LO
  ⟨0x1260, 4, 0x40, 1, 0, 0xFFFFFFFF, 0, 0, 0, 0, 0, 0x1⟩,  -- MEAS_SNAP_TIME_HI
  ⟨0x1400, 1, 0, 1, 0, 0, 0, 0xC00001FF, 0, 0, 0x100, 0xC0000201⟩,  -- MEAS_Q_CFG
  ⟨0x1404, 1, 0, 1, 0, 0xFFFFFFFF, 0, 0, 0, 0, 0x40000000, 0xE0010001⟩,  -- MEAS_Q_STAT
  ⟨0x1408, 1, 0, 1, 0, 0xFFF0000, 0xFFF, 0, 0, 0, 0, 0x10011001⟩,  -- MEAS_Q_PTR
  ⟨0x140C, 1, 0, 1, 0, 0xFFFF, 0, 0, 0, 0, 0, 0x10001⟩,  -- MEAS_Q_SEQ
  ⟨0x1440, 16, 0x4, 1, 0, 0, 0, 0xC00000FF, 0, 0, 0, 0xC0000101⟩,  -- MEAS_Q_DES
  ⟨0x1500, 1, 0, 1, 0, 0, 0xFF, 0, 0, 0x80000000, 0, 0x80000101⟩,  -- MEAS_URG_REQ
  ⟨0x1504, 1, 0, 1, 0, 0xFFFFFFFF, 0, 0, 0, 0, 0, 0x1⟩]  -- MEAS_URG_RES

/-- Registers of block MEAS, part 1. -/
def regRowsMeas1 : List RegRow := [
  ⟨0x1508, 1, 0, 1, 0, 0xE0000000, 0, 0, 0, 0, 0, 0xE0000001⟩,  -- MEAS_URG_STAT
  ⟨0x150C, 1, 0, 1, 0, 0xFFFFFFFF, 0, 0, 0, 0, 0, 0x1⟩,  -- MEAS_URG_TS_LO
  ⟨0x1510, 1, 0, 1, 0, 0xFFFFFFFF, 0, 0, 0, 0, 0, 0x1⟩,  -- MEAS_URG_TS_HI
  ⟨0x1580, 4, 0x4, 1, 0, 0, 0, 0xFFFFFFFF, 0, 0, 0, 0x1010101⟩]  -- MEAS_URG_MAP

/-- Every register of block MEAS. -/
def regRowsMeas : List RegRow := regRowsMeas0 ++ regRowsMeas1

/-- Registers of block PATH, part 0. -/
def regRowsPath0 : List RegRow := [
  ⟨0x0, 1, 0, 1, 0, 0, 0, 0xFCFF0FFF, 0, 0, 0x50080190, 0xFD011001⟩,  -- PATH_CFG
  ⟨0x4, 1, 0, 1, 0, 0, 0, 0x3FF03FF, 0, 0, 0x600050, 0x4010401⟩,  -- PATH_VSYS
  ⟨0x8, 1, 0, 1, 0, 0, 0, 0x1FF00FF, 0, 0, 0x140032, 0x2010101⟩,  -- PATH_RET
  ⟨0xC, 1, 0, 1, 0, 0, 0, 0x77FC01FF, 0, 0, 0x437000A0, 0x98040201⟩,  -- PATH_BAT
  ⟨0x10, 1, 0, 1, 0, 0xFFDD8000, 0, 0, 0x224000, 0, 0, 0x13FEC001⟩,  -- PATH_STATUS
  ⟨0x14, 1, 0, 1, 0, 0xFFFFFFFF, 0, 0, 0, 0, 0, 0x80018001⟩,  -- PATH_CNT
  ⟨0x18, 1, 0, 1, 0, 0xFFFFFFFF, 0, 0, 0, 0, 0, 0x80018001⟩,  -- PATH_CNT2
  ⟨0x20, 1, 0, 1, 0, 0xFFFFFFFF, 0, 0, 0, 0, 0, 0x1⟩,  -- PATH_HO_TS_LO
  ⟨0x24, 1, 0, 1, 0, 0xFFFFFFFF, 0, 0, 0, 0, 0, 0x1⟩,  -- PATH_HO_TS_HI
  ⟨0x28, 1, 0, 1, 0, 0xFFFF, 0, 0, 0, 0, 0, 0x10001⟩,  -- PATH_HO_DLY
  ⟨0x40, 1, 0, 1, 0, 0, 0, 0xC0FFFFFF, 0, 0, 0x28648C, 0xC1010101⟩,  -- PATH_CHG_CFG
  ⟨0x44, 1, 0, 1, 0, 0, 0, 0xFFFF01FF, 0, 0, 0x1E0400C8, 0x1010201⟩,  -- PATH_CHG_PRE
  ⟨0x48, 4, 0x4, 1, 0, 0, 0, 0x80FF00FF, 0, 0, 0x2800B4, 0x81010101⟩,  -- PATH_CHG_STEP
  ⟨0x58, 1, 0, 1, 0, 0, 0, 0xFFFFFF00, 0, 0, 0xA141400, 0x1010101⟩,  -- PATH_CHG_TERM
  ⟨0x60, 6, 0x4, 1, 0, 0, 0, 0xC0FFFFFF, 0, 0, 0x407F0000, 0xC1010101⟩,  -- PATH_ZONE
  ⟨0x78, 1, 0, 1, 0, 0, 0, 0xF01FFFF, 0, 0, 0x2000D6B, 0x11030001⟩,  -- PATH_TS_CFG
  ⟨0x7C, 1, 0, 1, 0, 0, 0x80FF00FF, 0, 0, 0, 0xA000B4, 0x81010101⟩,  -- PATH_CHG_SOFT
  ⟨0x80, 1, 0, 1, 0, 0, 0, 0, 0, 0xFF000003, 0, 0x1000005⟩,  -- PATH_CHG_CTRL
  ⟨0x84, 1, 0, 1, 0, 0xFFFF0000, 0, 0, 0, 0, 0xE000000, 0x129D0001⟩,  -- PATH_CHG_STATUS
  ⟨0x88, 1, 0, 1, 0, 0xFFFFFFFF, 0, 0, 0, 0, 0, 0x10001⟩,  -- PATH_CHG_MEAS
  ⟨0x8C, 1, 0, 1, 0, 0xFFFFFFFF, 0, 0, 0, 0, 0, 0x10001⟩,  -- PATH_CHG_TMR
  ⟨0x90, 1, 0, 1, 0, 0, 0xC0000000, 0x3FF007F, 0, 0, 0xAA0028, 0x44010081⟩,  -- PATH_PEER
  ⟨0x94, 1, 0, 1, 0, 0x2, 0, 0x1F000000, 0x1, 0, 0x8000000, 0x21000007⟩]  -- PATH_SVC

/-- Every register of block PATH. -/
def regRowsPath : List RegRow := regRowsPath0

/-- Registers of block FLT, part 0. -/
def regRowsFlt0 : List RegRow := [
  ⟨0x0, 1, 0, 1, 0, 0, 0, 0, 0xFFFFFFFF, 0, 0, 0x1⟩,  -- FLT_STAT_LO
  ⟨0x4, 1, 0, 1, 0, 0, 0, 0, 0xFFFFFFFF, 0, 0, 0x1⟩,  -- FLT_STAT_HI
  ⟨0x8, 1, 0, 1, 0, 0, 0, 0, 0, 0xFFFFFFFF, 0, 0x1⟩,  -- FLT_ACK_LO
  ⟨0xC, 1, 0, 1, 0, 0, 0, 0, 0, 0xFFFFFFFF, 0, 0x1⟩,  -- FLT_ACK_HI
  ⟨0x10, 1, 0, 1, 0, 0xFFFFFFFF, 0, 0, 0, 0, 0, 0x1⟩,  -- FLT_PEND_LO
  ⟨0x14, 1, 0, 1, 0, 0xFFFFFFFF, 0, 0, 0, 0, 0, 0x1⟩,  -- FLT_PEND_HI
  ⟨0x20, 1, 0, 1, 0, 0x80003FBF, 0, 0, 0x60000000, 0, 0, 0xE00041C1⟩,  -- FLT_STATUS
  ⟨0x24, 1, 0, 1, 0, 0x8000003F, 0, 0, 0, 0, 0, 0x80000041⟩,  -- FLT_FIRST
  ⟨0x28, 1, 0, 1, 0, 0xFFFFFFFF, 0, 0, 0, 0, 0, 0x1⟩,  -- FLT_FIRST_TS_LO
  ⟨0x2C, 1, 0, 1, 0, 0xFFFFFFFF, 0, 0, 0, 0, 0, 0x1⟩,  -- FLT_FIRST_TS_HI
  ⟨0x30, 1, 0, 1, 0, 0xFFFFFFFF, 0, 0, 0, 0, 0xFFFFFFFF, 0x1⟩,  -- FLT_NMASK_LO
  ⟨0x34, 1, 0, 1, 0, 0xFFFFFFFF, 0, 0, 0, 0, 0xFFFFFFFF, 0x1⟩,  -- FLT_NMASK_HI
  ⟨0x40, 1, 0, 1, 0, 0xFFFFFF, 0, 0, 0, 0, 0, 0x1000001⟩,  -- FLT_SAFE_GP
  ⟨0x44, 1, 0, 1, 0, 0xFF, 0, 0, 0, 0, 0xFF, 0x101⟩,  -- FLT_SAFE_RSTO
  ⟨0x50, 1, 0, 1, 0, 0, 0, 0, 0, 0xFF00003F, 0, 0x1000041⟩,  -- FLT_INJ
  ⟨0x54, 1, 0, 1, 0, 0, 0, 0, 0, 0xFF000000, 0, 0x1000001⟩,  -- FLT_RESTART
  ⟨0x58, 1, 0, 1, 0, 0xFF, 0, 0, 0, 0, 0x1, 0x101⟩,  -- FLT_GCFG
  ⟨0x100, 64, 0x4, 1, 0, 0xFFC007FF, 0, 0, 0, 0, 0x4000000, 0x5C400C01⟩,  -- FLT_CFG
  ⟨0x200, 64, 0x4, 1, 0, 0x8000FFFF, 0, 0, 0, 0, 0, 0x80010001⟩]  -- FLT_CNT

/-- Every register of block FLT. -/
def regRowsFlt : List RegRow := regRowsFlt0

/-- Registers of block EVT, part 0. -/
def regRowsEvt0 : List RegRow := [
  ⟨0x0, 128, 0x4, 1, 0, 0xC000FFFF, 0, 0, 0, 0, 0, 0xC0010001⟩,  -- EVT_ROUTE
  ⟨0x200, 4, 0x4, 1, 0, 0, 0, 0, 0xFFFFFFFF, 0, 0, 0x1⟩,  -- EVT_PEND
  ⟨0x210, 4, 0x4, 1, 0, 0xFFFFFFFF, 0, 0, 0, 0, 0, 0x1⟩,  -- EVT_FWD_PEND
  ⟨0x220, 1, 0, 1, 0, 0xFF80FFFF, 0, 0, 0, 0, 0, 0xC0810001⟩,  -- EVT_FWD
  ⟨0x224, 1, 0, 1, 0, 0, 0, 0x3FFF, 0, 0, 0x3E8, 0x4001⟩,  -- EVT_CFG
  ⟨0x228, 1, 0, 1, 0, 0, 0, 0, 0, 0x1F, 0, 0x21⟩,  -- EVT_RAISE
  ⟨0x22C, 1, 0, 1, 0, 0, 0, 0, 0x3FFF, 0, 0, 0x4001⟩,  -- EVT_SATSRC
  ⟨0x230, 1, 0, 1, 0, 0xFFFFFFFF, 0, 0, 0, 0, 0, 0x1⟩,  -- ENG_TIME_LO
  ⟨0x234, 1, 0, 1, 0, 0xFFFFFFFF, 0, 0, 0, 0, 0, 0x1⟩,  -- ENG_TIME_HI
  ⟨0x400, 128, 0x4, 1, 0, 0xFFFFFFFF, 0, 0, 0, 0, 0, 0x81800001⟩,  -- EVT_CNT
  ⟨0x800, 64, 0x4, 1, 0, 0xE0000000, 0x1F, 0, 0, 0, 0, 0xE0000021⟩,  -- SEM
  ⟨0x1000, 32, 0x10, 1, 0, 0x1F0000, 0x3, 0, 0, 0, 0x1F0000, 0x210005⟩,  -- DMA_CH_CFG
  ⟨0x1004, 32, 0x10, 1, 0, 0, 0xFFFFFFE0, 0, 0, 0, 0, 0x21⟩,  -- DMA_CH_DESC
  ⟨0x1008, 32, 0x10, 1, 0, 0, 0, 0, 0, 0x7, 0, 0xF⟩,  -- DMA_CH_CTRL
  ⟨0x100C, 32, 0x10, 1, 0, 0xFFFFFFFF, 0, 0, 0, 0, 0, 0x11000001⟩,  -- DMA_CH_STATUS
  ⟨0x4000, 16, 0x800, 1, 0, 0x8000FFFF, 0, 0, 0, 0, 0, 0x80010001⟩,  -- ENG_CFG
  ⟨0x4004, 16, 0x800, 1, 0, 0xF8F00000, 0, 0, 0, 0, 0, 0x19100001⟩,  -- ENG_STATUS
  ⟨0x4008, 16, 0x800, 1, 0, 0xFFFFFFFF, 0, 0, 0, 0, 0, 0x1⟩,  -- ENG_HALT_PC
  ⟨0x400C, 16, 0x800, 1, 0, 0, 0, 0, 0, 0xFF00000F, 0, 0x1000011⟩,  -- ENG_TKO
  ⟨0x4010, 16, 0x800, 1, 0, 0, 0xF, 0, 0, 0, 0, 0x11⟩,  -- ENG_FLAG
  ⟨0x4014, 16, 0x800, 1, 0, 0, 0, 0, 0, 0xFFFF, 0, 0x10001⟩,  -- ENG_DOORBELL
  ⟨0x4018, 16, 0x800, 1, 0, 0, 0xFFFFFFFF, 0, 0, 0, 0xFFFFFFFF, 0x1⟩,  -- ENG_TCMP_LO
  ⟨0x401C, 16, 0x800, 1, 0, 0, 0xFFFFFFFF, 0, 0, 0, 0xFFFFFFFF, 0x1⟩,  -- ENG_TCMP_HI
  ⟨0x4100, 16, 0x800, 16, 0x8, 0xFFFFFFFE, 0, 0, 0, 0, 0, 0x3F⟩]  -- ENG_MPU_BASE

/-- Registers of block EVT, part 1. -/
def regRowsEvt1 : List RegRow := [
  ⟨0x4104, 16, 0x800, 16, 0x8, 0xFFFFFFE0, 0, 0, 0, 0, 0, 0x21⟩,  -- ENG_MPU_LIM
  ⟨0x4180, 16, 0x800, 1, 0, 0xFFFFFFFF, 0, 0, 0, 0, 0, 0x1⟩,  -- ENG_MPU_FADDR
  ⟨0x4184, 16, 0x800, 1, 0, 0xFF, 0, 0, 0x80000000, 0, 0, 0x80000141⟩,  -- ENG_MPU_FINFO
  ⟨0x4200, 16, 0x800, 32, 0x4, 0, 0xFFFFFFFF, 0, 0, 0, 0, 0x1⟩,  -- EIC_LVL
  ⟨0x4280, 16, 0x800, 8, 0x4, 0xFFFFFFFF, 0, 0, 0, 0, 0, 0x1⟩,  -- EIC_PEND
  ⟨0x42A0, 16, 0x800, 1, 0, 0, 0xF, 0, 0, 0, 0, 0x11⟩,  -- EIC_THR
  ⟨0x42A4, 16, 0x800, 1, 0, 0xF01FF, 0, 0, 0, 0, 0x1FF, 0x110201⟩,  -- EIC_CLAIM
  ⟨0x42A8, 16, 0x800, 1, 0, 0, 0, 0, 0, 0xFF, 0, 0x101⟩,  -- EIC_COMPLETE
  ⟨0x42AC, 16, 0x800, 1, 0, 0xFF, 0, 0, 0x80000000, 0, 0, 0x80000111⟩]  -- EIC_STATUS

/-- Every register of block EVT. -/
def regRowsEvt : List RegRow := regRowsEvt0 ++ regRowsEvt1

/-- Registers of block LEDG, part 0. -/
def regRowsLedg0 : List RegRow := [
  ⟨0x0, 1, 0, 1, 0, 0, 0, 0x80FFFFFF, 0, 0, 0x80500064, 0x81010001⟩,  -- LEDG_CFG
  ⟨0x4, 1, 0, 1, 0, 0, 0, 0, 0, 0xFF00000F, 0, 0x1000011⟩,  -- LEDG_CTRL
  ⟨0x8, 1, 0, 1, 0, 0xCF00007F, 0, 0, 0x30000000, 0, 0, 0xFF000081⟩,  -- LEDG_STATUS
  ⟨0xC, 1, 0, 1, 0, 0xFFFFFFFF, 0, 0, 0, 0, 0, 0x80018001⟩,  -- LEDG_CNT
  ⟨0x10, 1, 0, 1, 0, 0xFFFFFFFF, 0, 0, 0, 0, 0, 0x80018001⟩,  -- LEDG_ECC
  ⟨0x14, 1, 0, 1, 0, 0x3FFF8, 0, 0, 0, 0, 0, 0x40009⟩,  -- LEDG_ECC_ADDR
  ⟨0x18, 1, 0, 1, 0, 0xC0000000, 0, 0, 0x20000000, 0, 0, 0xE0000001⟩,  -- LEDG_RSTAT
  ⟨0x20, 1, 0, 1, 0, 0, 0, 0, 0, 0xC00001FF, 0, 0x40000201⟩,  -- LEDG_REC_CMD
  ⟨0x24, 1, 0, 1, 0, 0, 0xFFFFFFFF, 0, 0, 0, 0, 0x1⟩,  -- LEDG_REC_VAL_LO
  ⟨0x28, 1, 0, 1, 0, 0, 0xFFFFFFFF, 0, 0, 0, 0, 0x1⟩,  -- LEDG_REC_VAL_HI
  ⟨0x2C, 1, 0, 1, 0, 0xFC000000, 0, 0, 0, 0, 0, 0xE4000001⟩,  -- LEDG_REC_STAT
  ⟨0x30, 1, 0, 1, 0, 0, 0, 0, 0, 0xFF00FFFF, 0, 0x1010001⟩,  -- LEDG_LOG_CMD
  ⟨0x34, 1, 0, 1, 0, 0, 0xFFFF, 0, 0, 0, 0, 0x10001⟩,  -- LEDG_LOG_DATA
  ⟨0x38, 1, 0, 1, 0, 0xFFFFFFFF, 0, 0, 0, 0, 0, 0x80106001⟩,  -- LEDG_LOG_STAT
  ⟨0x40, 1, 0, 1, 0, 0x3FFFFFFF, 0, 0, 0, 0, 0, 0x40100401⟩,  -- LEDG_WEAR_0
  ⟨0x44, 1, 0, 1, 0, 0xFFFFF, 0, 0, 0, 0, 0, 0x100401⟩]  -- LEDG_WEAR_1

/-- Every register of block LEDG. -/
def regRowsLedg : List RegRow := regRowsLedg0

/-- Registers of block HOST, part 0. -/
def regRowsHost0 : List RegRow := [
  ⟨0x800, 2, 0x40, 1, 0, 0, 0, 0xC3FFFF00, 0, 0, 0x141E00, 0xC4010101⟩,  -- IL_CFG
  ⟨0x804, 2, 0x40, 1, 0, 0, 0, 0xFFFFFF, 0, 0, 0, 0x1000001⟩,  -- IL_LMASK
  ⟨0x808, 2, 0x40, 1, 0, 0, 0, 0xFFFF, 0, 0, 0x514, 0x10101⟩,  -- IL_TIME
  ⟨0x80C, 2, 0x40, 1, 0, 0x8000FFFF, 0, 0, 0, 0, 0, 0x80010001⟩,  -- IL_STAT
  ⟨0x810, 2, 0x40, 1, 0, 0xFFFFFFFF, 0, 0, 0, 0, 0, 0x80018001⟩,  -- IL_ERR
  ⟨0x818, 2, 0x40, 1, 0, 0xFFFFFFFF, 0, 0, 0, 0, 0, 0x1⟩,  -- IL_LAST_TS_LO
  ⟨0x81C, 2, 0x40, 1, 0, 0xFFFFFFFF, 0, 0, 0, 0, 0, 0x1⟩,  -- IL_LAST_TS_HI
  ⟨0x0, 1, 0, 1, 0, 0, 0, 0xE00000FF, 0, 0, 0xA, 0xE0000101⟩,  -- HOST_CFG
  ⟨0x4, 1, 0, 1, 0, 0xFFFFC000, 0, 0, 0, 0, 0, 0x101C001⟩,  -- HOST_STATUS
  ⟨0x8, 1, 0, 1, 0, 0xFFFFFFFF, 0, 0, 0, 0, 0, 0x80018001⟩,  -- HOST_CNT
  ⟨0xC, 1, 0, 1, 0, 0xFFFFFFFF, 0, 0, 0, 0, 0, 0x80018001⟩,  -- HOST_CNT2
  ⟨0x10, 1, 0, 1, 0, 0xFFFFFFFF, 0, 0, 0, 0, 0, 0x1⟩,  -- HOST_LAST_TS_LO
  ⟨0x14, 1, 0, 1, 0, 0xFFFFFFFF, 0, 0, 0, 0, 0, 0x1⟩,  -- HOST_LAST_TS_HI
  ⟨0x20, 1, 0, 1, 0, 0xBF800000, 0x7F, 0, 0, 0x40000000, 0, 0xC0800081⟩,  -- HOST_MBOX_STAT
  ⟨0x100, 16, 0x4, 1, 0, 0xFFFFFFFF, 0, 0, 0, 0, 0, 0x1⟩,  -- HOST_MBOX_IN
  ⟨0x140, 16, 0x4, 1, 0, 0, 0xFFFFFFFF, 0, 0, 0, 0, 0x1⟩,  -- HOST_MBOX_OUT
  ⟨0x200, 24, 0x4, 1, 0, 0, 0, 0, 0xFFFFFFFF, 0, 0, 0x1010101⟩,  -- HOST_PMST
  ⟨0x300, 1, 0, 1, 0, 0xFFFF8000, 0, 0, 0, 0, 0, 0x1018001⟩,  -- QP_STATUS
  ⟨0x304, 1, 0, 1, 0, 0xFFFFFFFF, 0, 0, 0, 0, 0, 0x80018001⟩]  -- QP_CNT

/-- Every register of block HOST. -/
def regRowsHost : List RegRow := regRowsHost0

/-- Registers of block LINK, part 0. -/
def regRowsLink0 : List RegRow := [
  ⟨0x0, 1, 0, 1, 0, 0x80000000, 0, 0x7F003FFF, 0, 0, 0x50000064, 0xF1004001⟩,  -- LINK_CFG
  ⟨0x4, 1, 0, 1, 0, 0xC000F9FF, 0, 0, 0, 0, 0x38FF, 0xC0014B01⟩,  -- LINK_ID
  ⟨0x8, 1, 0, 1, 0, 0, 0, 0x8000FFFF, 0, 0, 0x1F4, 0x80010001⟩,  -- LINK_PD
  ⟨0xC, 1, 0, 1, 0, 0, 0, 0xCFFF00FF, 0, 0, 0xA0032, 0x51010101⟩,  -- LINK_ORPH
  ⟨0x10, 4, 0x4, 1, 0, 0xE0FFFFFF, 0, 0, 0, 0, 0xFF0000, 0x21018001⟩,  -- LINK_PORT_STATUS
  ⟨0x20, 4, 0x4, 1, 0, 0xFFFFFFFF, 0, 0, 0, 0, 0, 0x80018001⟩,  -- LINK_PORT_CNT
  ⟨0x30, 1, 0, 1, 0, 0xC0FFFFFF, 0, 0, 0, 0, 0, 0x41810001⟩,  -- LINK_TIME_STATUS
  ⟨0x34, 1, 0, 1, 0, 0xFFFFFFFF, 0, 0, 0, 0, 0, 0x1⟩,  -- LINK_TIME_RATE
  ⟨0x38, 1, 0, 1, 0, 0xFFFF, 0, 0, 0, 0, 0, 0x10001⟩,  -- LINK_TIME_DLY
  ⟨0x3C, 1, 0, 1, 0, 0, 0, 0xFFFF, 0, 0, 0xA, 0x10001⟩,  -- LINK_TCFG
  ⟨0x40, 1, 0, 1, 0, 0xFFFFFFFF, 0, 0, 0, 0, 0, 0x1⟩,  -- LINK_TIME_STEP_LO
  ⟨0x44, 1, 0, 1, 0, 0xFFFFFFFF, 0, 0, 0, 0, 0, 0x1⟩,  -- LINK_TIME_STEP_HI
  ⟨0x48, 1, 0, 1, 0, 0xFFFFFFFF, 0, 0, 0, 0, 0, 0x1⟩,  -- LINK_EPOCH
  ⟨0x50, 1, 0, 1, 0, 0xFFFFFFFF, 0, 0, 0, 0, 0, 0x1⟩,  -- LINK_PRES_LO
  ⟨0x54, 1, 0, 1, 0, 0xFFFFFFFF, 0, 0, 0, 0, 0, 0x1⟩,  -- LINK_PRES_HI
  ⟨0x58, 1, 0, 1, 0, 0xFFFFFFFF, 0, 0, 0, 0, 0, 0x1⟩,  -- LINK_MISM_LO
  ⟨0x5C, 1, 0, 1, 0, 0xFFFFFFFF, 0, 0, 0, 0, 0, 0x1⟩,  -- LINK_MISM_HI
  ⟨0x60, 1, 0, 1, 0, 0xE0FF000F, 0, 0, 0, 0, 0xFF0000, 0x21010011⟩,  -- LINK_SW_STATUS
  ⟨0x64, 1, 0, 1, 0, 0, 0xFFFFFFFF, 0, 0, 0, 0, 0x1⟩,  -- LINK_SW_T_LO
  ⟨0x68, 1, 0, 1, 0, 0, 0xFFFFFFFF, 0, 0, 0, 0, 0x1⟩,  -- LINK_SW_T_HI
  ⟨0x70, 1, 0, 1, 0, 0, 0xFFFFFFFF, 0, 0, 0, 0, 0x1⟩,  -- LINK_SW_MASK_LO
  ⟨0x74, 1, 0, 1, 0, 0, 0xFFFFFFFF, 0, 0, 0, 0, 0x1⟩,  -- LINK_SW_MASK_HI
  ⟨0x78, 1, 0, 1, 0, 0, 0, 0, 0, 0xFF000003, 0, 0x1000005⟩,  -- LINK_SW_CMD
  ⟨0x7C, 1, 0, 1, 0, 0, 0, 0xFFFF, 0, 0, 0x5, 0x10001⟩]  -- LINK_SW_CFG

/-- Registers of block LINK, part 1. -/
def regRowsLink1 : List RegRow := [
  ⟨0x80, 1, 0, 1, 0, 0xC0FFFF7F, 0, 0, 0, 0, 0, 0xC1010181⟩,  -- LINK_RXEV
  ⟨0x90, 1, 0, 1, 0, 0, 0, 0, 0, 0xFFFF01FF, 0, 0x1010201⟩,  -- LINK_TX_CMD
  ⟨0x94, 1, 0, 1, 0, 0xC0FFFFFF, 0, 0, 0, 0, 0, 0xC1010001⟩,  -- LINK_TX_STAT
  ⟨0x98, 5, 0x4, 1, 0, 0xFFFFFFFF, 0, 0, 0, 0, 0, 0x1⟩,  -- LINK_TX_ACK
  ⟨0x200, 65, 0x4, 1, 0, 0, 0xFFFFFFFF, 0, 0, 0, 0, 0x1⟩,  -- LINK_TX_BUF
  ⟨0xB0, 1, 0, 1, 0, 0, 0, 0xE000FFFF, 0, 0, 0xA0001000, 0xE0010001⟩,  -- LINK_TRC_CFG
  ⟨0xB4, 1, 0, 1, 0, 0xC000FFFF, 0, 0, 0, 0, 0, 0xC0010001⟩,  -- LINK_TRC_STAT
  ⟨0xB8, 1, 0, 1, 0, 0xFFFFFFFF, 0, 0, 0, 0, 0, 0x80000001⟩,  -- LINK_TRC_CNT
  ⟨0xBC, 1, 0, 1, 0, 0xFFFFFFFF, 0, 0, 0, 0, 0, 0x80000001⟩,  -- LINK_TRC_DROP
  ⟨0xC0, 1, 0, 1, 0, 0, 0, 0, 0, 0xFF000001, 0, 0x1000003⟩,  -- LINK_TRC_CTRL
  ⟨0xC4, 1, 0, 1, 0, 0, 0xFFFFFFFF, 0, 0, 0, 0, 0x1⟩,  -- LINK_TRC_WR_DATA
  ⟨0xC8, 1, 0, 1, 0, 0, 0, 0, 0, 0xFFFFFFFF, 0, 0x10001⟩,  -- LINK_TRC_WR_CMD
  ⟨0x400, 64, 0x8, 1, 0, 0, 0xFFFFFFFF, 0, 0, 0, 0, 0x1⟩,  -- LINK_EXP_LO
  ⟨0x404, 64, 0x8, 1, 0, 0, 0xFFFFFFFF, 0, 0, 0, 0, 0x1⟩,  -- LINK_EXP_HI
  ⟨0x800, 128, 0x4, 1, 0, 0xFFFFFFFF, 0, 0, 0, 0, 0xFF00FF00, 0x1010101⟩]  -- LINK_RMAP

/-- Every register of block LINK. -/
def regRowsLink : List RegRow := regRowsLink0 ++ regRowsLink1

/-- Registers of block BIST, part 0. -/
def regRowsBist0 : List RegRow := [
  ⟨0x0, 1, 0, 1, 0, 0, 0, 0x80FF03FF, 0, 0, 0x800A0000, 0x81010401⟩,  -- BIST_CFG
  ⟨0x4, 1, 0, 1, 0, 0x2, 0, 0x1FC, 0, 0, 0x1FE, 0x207⟩,  -- BIST_MASK
  ⟨0x8, 1, 0, 1, 0, 0xEE000000, 0, 0, 0x10000000, 0, 0, 0x32000001⟩,  -- BIST_STATUS
  ⟨0xC, 1, 0, 1, 0, 0xFFFFFFFF, 0, 0, 0, 0, 0, 0x80018001⟩,  -- BIST_CNT
  ⟨0x10, 1, 0, 1, 0, 0xFFFF, 0, 0, 0x80000000, 0, 0, 0x80010101⟩,  -- BIST_LAST
  ⟨0x14, 1, 0, 1, 0, 0xFFFFFFFF, 0, 0, 0, 0, 0, 0x1⟩,  -- BIST_REC_LO
  ⟨0x18, 1, 0, 1, 0, 0xFFFFFFFF, 0, 0, 0, 0, 0, 0x1⟩,  -- BIST_REC_HI
  ⟨0x1C, 1, 0, 1, 0, 0xF0FFF0FF, 0, 0, 0, 0, 0, 0xD1011101⟩,  -- BIST_START
  ⟨0x20, 1, 0, 1, 0, 0, 0, 0, 0, 0xFF0FFFFF, 0, 0x1110101⟩,  -- BIST_CMD
  ⟨0x24, 1, 0, 1, 0, 0xE0FFF0FF, 0, 0, 0, 0, 0, 0xE1011101⟩]  -- BIST_CMDRES

/-- Every register of block BIST. -/
def regRowsBist : List RegRow := regRowsBist0

/-- Registers of block ACRD, part 0. -/
def regRowsAcrd0 : List RegRow := [
  ⟨0x0, 1, 0, 1, 0, 0x7FF7FF, 0, 0, 0x800, 0, 0, 0x9FFF49⟩,  -- ACRD_STATUS
  ⟨0x4, 1, 0, 1, 0, 0, 0, 0, 0, 0xFF00001F, 0, 0x1000031⟩,  -- ACRD_CTRL
  ⟨0x8, 1, 0, 1, 0, 0xFFFFFFFF, 0, 0, 0, 0, 0, 0x1⟩,  -- ACRD_VERSION
  ⟨0xC, 1, 0, 1, 0, 0xFFFFFFFF, 0, 0, 0, 0, 0, 0x10001⟩,  -- ACRD_SVN
  ⟨0x10, 1, 0, 1, 0, 0xFFFFFFFF, 0, 0, 0, 0, 0, 0x1⟩,  -- ACRD_DIGEST_LO
  ⟨0x14, 1, 0, 1, 0, 0xFFFFFFFF, 0, 0, 0, 0, 0, 0x1⟩,  -- ACRD_DIGEST_HI
  ⟨0x18, 1, 0, 1, 0, 0xFFFFFFFF, 0, 0, 0, 0, 0, 0x1⟩,  -- ACRD_TOPO_LO
  ⟨0x1C, 1, 0, 1, 0, 0xFFFFFFFF, 0, 0, 0, 0, 0, 0x1⟩,  -- ACRD_TOPO_HI
  ⟨0x20, 1, 0, 1, 0, 0xFFFF, 0, 0, 0, 0, 0, 0x10001⟩,  -- ACRD_BOUND
  ⟨0x24, 1, 0, 1, 0, 0xFFFFFFFF, 0, 0, 0, 0, 0, 0x80000001⟩,  -- ACRD_JOURNAL
  ⟨0x30, 1, 0, 1, 0, 0, 0xFFFFFFFF, 0, 0, 0, 0, 0x1⟩,  -- ACRD_PARAM_VAL
  ⟨0x34, 1, 0, 1, 0, 0, 0, 0, 0, 0xE0000FFF, 0, 0x60001001⟩,  -- ACRD_PARAM_CMD
  ⟨0x38, 1, 0, 1, 0, 0x80070000, 0, 0, 0, 0, 0, 0x80090001⟩,  -- ACRD_PARAM_STAT
  ⟨0x40, 1, 0, 1, 0, 0xFFFFFFFF, 0, 0, 0, 0, 0, 0x80000001⟩,  -- ACRD_SCRUB_CNT
  ⟨0x44, 1, 0, 1, 0, 0x8007FFFF, 0, 0, 0, 0, 0, 0x80080081⟩,  -- ACRD_SCRUB_LAST
  ⟨0x48, 1, 0, 1, 0, 0x1FFF, 0, 0, 0, 0, 0, 0x2001⟩,  -- ACRD_FROZEN_CNT
  ⟨0x50, 1, 0, 1, 0, 0xFFFFFFFF, 0, 0, 0, 0, 0, 0x1⟩,  -- ACRD_FROZEN_GRP_LO
  ⟨0x54, 1, 0, 1, 0, 0xFFFFFFFF, 0, 0, 0, 0, 0, 0x1⟩,  -- ACRD_FROZEN_GRP_HI
  ⟨0x58, 1, 0, 1, 0, 0, 0xFFF, 0, 0, 0xFF000000, 0, 0x1001001⟩,  -- ACRD_TILE_RELOAD
  ⟨0x100, 32, 0x4, 1, 0, 0xFFFFFFFF, 0, 0, 0, 0, 0, 0x1⟩]  -- ACRD_PFAIL

/-- Every register of block ACRD. -/
def regRowsAcrd : List RegRow := regRowsAcrd0

/-- The rows of the block that holds `addr`, by the block bases (R227, Table 12.1). -/
def regRowsAt (addr : Nat) : List RegRow :=
  match addr / 0x10000 with
  | 0x4000 => regRowsSys
  | 0x4001 => regRowsLoop
  | 0x4002 => regRowsPhase
  | 0x4003 => regRowsSeq
  | 0x4004 => regRowsSup
  | 0x4005 => regRowsMeas
  | 0x4006 => regRowsPath
  | 0x4007 => regRowsFlt
  | 0x4008 => regRowsEvt
  | 0x4009 => regRowsLedg
  | 0x400A => regRowsHost
  | 0x400B => regRowsLink
  | 0x400C => regRowsBist
  | 0x400D => regRowsAcrd
  | _ => []

/-- Whether row `r` holds a register at offset `off` of its block. -/
def RegRow.holds (r : RegRow) (off : Nat) : Bool :=
  r.off ≤ off &&
  (let d := off - r.off
   let i := if r.s1 = 0 then 0 else min (d / r.s1) (r.n1 - 1)
   let e := d - i * r.s1
   let j := if r.s2 = 0 then 0 else min (e / r.s2) (r.n2 - 1)
   e = j * r.s2)

/-- The row of the register at `addr`, if the map has one there. -/
def regRowOf (addr : Nat) : Option RegRow :=
  (regRowsAt addr).find? (fun r => r.holds (addr % 0x10000))

/-- Class (0 corrected, 1 uncorrected, 2 fatal), floor and grace in milliseconds of FS_n as Table 11.1
gives them; a corrected source has no grace (0). -/
def faultDefault (n : Nat) : Nat × Nat × Nat :=
  if n < 24 then (1, 1, 10)
  else match n with
    | 24 | 25 => (1, 0, 100)
    | 26 => (1, 1, 10)
    | 28 | 29 => (1, 0, 100)
    | 32 | 33 => (1, 0, 100)
    | 36 => (2, 2, 0)
    | 37 => (1, 0, 1000)
    | 42 => (1, 0, 1000)
    | 44 => (1, 1, 100)
    | 45 => (2, 2, 1)
    | 47 => (2, 1, 1)
    | 48 => (1, 1, 1)
    | 49 | 50 => (1, 0, 10)
    | 52 | 53 | 54 | 55 => (1, 0, 1000)
    | 58 => (1, 1, 100)
    | 59 => (1, 0, 1000)
    | 60 | 61 => (2, 1, 10)
    | 62 => (2, 2, 10)
    | 63 => (1, 0, 10)
    | _ => (0, 0, 0)

/-- Reset word of FLT_CFG_n: Table 11.1, escalation by system reset (ACT = 1), immediate for FS_36. -/
def faultCfgReset (n : Nat) : Nat :=
  let d := faultDefault n
  d.1 * 2 ^ 30 + d.2.1 * 2 ^ 28 + (if n = 36 then 2 ^ 27 else 0) + 2 ^ 26 +
    (if d.2.2 = 0 then 0 else 2 ^ 10) + d.2.2

/-- What the register of storage key `key` reads before anything has written it: the reset word of
the register tables of spec/01 to spec/16. -/
def resetWord (key : Nat) : Word :=
  let addr := key % 2 ^ 32
  if 0x40070100 ≤ addr ∧ addr < 0x40070200 then BitVec.ofNat 32 (faultCfgReset ((addr - 0x40070100) / 4))
  else if addr = 0x40060048 then 0x80000000#32 ||| (match regRowOf addr with | some r => BitVec.ofNat 32 r.reset | none => 0#32)
  else if 0x40051240 ≤ addr ∧ addr < 0x40051340 ∧ addr % 0x40 = 0x14 then 0x007FFFFF#32
  else if 0x40051240 ≤ addr ∧ addr < 0x40051340 ∧ addr % 0x40 = 0x18 then 0xFF800000#32
  else match regRowOf addr with
    | some r => BitVec.ofNat 32 r.reset
    | none => 0#32


end Sys2Proof.Machine
end

