-- ==== Sys2Proof/Machine/State.lean ====
section
/-! DEFINITION.  The state of the block: every register, buffer, memory, counter, mode and pin the
spec names, as plain data, and the queue of waiting commands.  Registers and memories are kept in
canonical sparse form (`Cells`). -/

namespace Sys2Proof.Machine

/-! ## Canonical sparse storage -/

/-- Sparse storage by key: the keys strictly rise, and no entry equals what an unlisted key reads as. -/
abbrev Cells (α : Type) := List (Nat × α)

/-- What key `k` reads as, if it is listed. -/
def Cells.find {α : Type} : Cells α → Nat → Option α
  | [], _ => none
  | (j, v) :: r, k => if j = k then some v else Cells.find r k

/-- The cells without key `k`. -/
def Cells.drop {α : Type} : Cells α → Nat → Cells α
  | [], _ => []
  | (j, v) :: r, k => if j = k then Cells.drop r k else (j, v) :: Cells.drop r k

/-- The cells with `v` at `k`, where `k` is not listed: in rising order of keys. -/
def Cells.place {α : Type} : Cells α → Nat → α → Cells α
  | [], k, v => [(k, v)]
  | (j, w) :: r, k, v => if k < j then (k, v) :: (j, w) :: r else (j, w) :: Cells.place r k v

/-- The cells after writing `v` at `k`, where an unlisted `k` reads as `d`. -/
def Cells.put {α : Type} [DecidableEq α] (d : α) (c : Cells α) (k : Nat) (v : α) : Cells α :=
  if v = d then c.drop k else (c.drop k).place k v

/-- The keys strictly rise. -/
def Cells.sorted {α : Type} : Cells α → Bool
  | [] => true
  | [_] => true
  | (j, _) :: (k, v) :: r => decide (j < k) && Cells.sorted ((k, v) :: r)

/-- The canonical form: rising keys, and no entry equal to what its key reads as when unlisted. -/
def Cells.wf {α : Type} [DecidableEq α] (d : Nat → α) (c : Cells α) : Bool :=
  c.sorted && c.all (fun e => decide (e.2 ≠ d e.1))

/-! ## Phases of life and of a start (R3 to R6, Tables 0.3, 1.7 and 3.3) -/

/-- The life phases of Table 0.3. -/
inductive Phase where
  | unpowered
  | flacon
  | park
  | start
  | run
  | powerDown
  | safe
  deriving DecidableEq, Repr

/-- How far the present start has come: the events of Table 3.3 and then of Table 1.7. -/
inductive Stage where
  | off
  | t0
  | t2
  | t5
  | t6
  | t7
  | judged
  | configured
  | released
  deriving DecidableEq, Repr

/-- The place of a stage in the order of a start. -/
def Stage.ord : Stage → Nat
  | .off => 0
  | .t0 => 1
  | .t2 => 2
  | .t5 => 3
  | .t6 => 4
  | .t7 => 5
  | .judged => 6
  | .configured => 7
  | .released => 8

/-- What a device that has browned out waits for (R51). -/
inductive BrownWait where
  | none
  | vinRise
  | tenMs
  | restart
  deriving DecidableEq, Repr

/-- A PLL: in lock, out of lock, or (PLL_E) in lock again with the fabric being reconfigured (R54). -/
inductive Pll where
  | off
  | locked
  | out
  | reconfiguring
  deriving DecidableEq, Repr

/-- Drydown of the present power-down (R316 to R318): not begun, running, its record written, and that committed. -/
inductive Dry where
  | idle
  | running
  | recorded
  | done
  deriving DecidableEq, Repr

/-- Supply front-end, clocks, park and life cycle: what the SYS registers do not hold (spec/02, spec/03).
`pinLines` are the levels last reported at the balls of Table 2.8 and `pinHeld` those at which something outside holds a
level against the device's own drive; `tapOut` is what TDO gave in the last shift; `plleLost` says whether PLL_E has
lost its lock in this start (R54).  `batLeg` says whether the phase and VIN let the BAT leg be enabled, and
`svcFrom` the local nanosecond at which SVC_N last went low. -/
structure SysState where
  phase : Phase
  stage : Stage
  address : Option Nat
  ft : Nat
  safeLatch : Option Nat
  brown : BrownWait
  nextCause : Nat
  wakeArmed : Bool
  wakePending : Nat
  hsupOv : Bool
  vcc5Ov : Bool
  batLeg : Bool
  bnoPeriod : Nat
  pllP : Pll
  pllE : Pll
  pllM : Pll
  plleLost : Bool
  xinWait : Bool
  dry : Dry
  selfTest : Bool
  lcJudging : Bool
  pinLines : Nat
  pinHeld : Nat
  tapReset : Bool
  tapIr : Nat
  tapDr : List Bool
  tapOut : List Bool
  scanDrive : Option (List Bool)
  svcLow : Bool
  svcFrom : Nat
  svcArmed : Bool
  deriving DecidableEq, Repr

/-- A parameter of the running image (Tables 1.10 and 1.14). -/
structure Param where
  id : Nat
  flags : Nat
  dflt : Word
  min : Word
  max : Word
  target : Nat
  lsb : Nat
  width : Nat
  deriving DecidableEq, Repr

/-- What the loader keeps of one image (R8 to R13): its header's fields, H_img, parameters, host permissions,
the words its block sections give registers, its hierarchy, engine and TILE_SAFE sections, the action line that each
connected tile output drives (tile, output, line), and where its tile checks lie in the bank. -/
structure Image where
  version : Word
  svn : Nat
  role : Nat
  devPin : Nat
  flags : Nat
  bound : Nat
  topo : BitVec 64
  hash : List Byte
  params : List Param
  hostPerm : List Byte
  regs : List (Nat × Word)
  hier : List Byte
  engines : List Byte
  safe : List Byte
  outputs : List (Nat × Nat × Nat)
  checkAt : Nat
  deriving DecidableEq, Repr

/-- One tile of the fabric: frozen, the cells now upset, the event timers that have expired since the configuration,
and its 64 state bits once its logic has changed them from their initial values (R12, R26 to R28). -/
structure Tile where
  frozen : Bool
  upsets : List Nat
  timerHit : Nat
  bits : Option (BitVec 64)
  deriving DecidableEq, Repr

/-- Loader, banks, fabric and live parameters (spec/01).  What a load found of each bank is kept here until t3,
from which on ACRD_STATUS shows it.  `safe` holds the tiles' safe-value latches, two bytes each (R14); `act` is the
level at which each action line acts and `heldAct` the one that the fabric gives it while the lines are held. -/
structure AcrdState where
  bankA : Cells Byte
  bankB : Cells Byte
  selB : Bool
  active : Option Bool
  image : Option Image
  staged : Option Image
  stagedBank : Option Bool
  verifying : Option Bool
  causeA : Nat
  causeB : Nat
  blankA : Bool
  blankB : Bool
  fallback : Bool
  defaults : Bool
  paramFile : Cells Word
  replayed : List (Nat × Word)
  journal : List Byte
  tiles : Cells Tile
  safe : List Byte
  reloading : Option Nat
  act : BitVec 256
  heldAct : BitVec 256
  switching : Bool
  deriving DecidableEq, Repr

/-! ## Loops, phases, survey, intent (spec/04 to spec/06) -/

/-- What a port drives its PWM ball to: mid, low, high, or the switching waveform (R39, R96). -/
inductive Drive where
  | mid
  | low
  | high
  | switching
  deriving DecidableEq, Repr

/-- A phase port: what the PH registers do not hold (spec/05): what a limit imposes for the rest of the cycle, the
last cycle-average current in 10 mA and the last sixteen, duty in Q0.16, trim in 2^-32, the counts of range and of
TMF readings, whether the substitute of R107 is in force, its position in PWM steps, the shift of the next cycle, the
pre-position left and its cycles, whether that begins with the next cycle (R124), and the number of its cycle in the
group of MUL (R70). -/
structure PhaseState where
  cut : Option Drive
  cyc : Int
  hist : List Int
  duty : Nat
  trimFine : Int
  range : Nat
  hot : Nat
  warm : Nat
  cool : Nat
  taken : Bool
  pos : Nat
  shift : Int
  ocp : Bool
  ocn : Bool
  preOn : Int
  preCyc : Nat
  preWait : Bool
  turn : Nat
  deriving DecidableEq, Repr

/-- The forecast a loop holds (R123 to R126): the link and frame that carried it, the step time and window in
local nanoseconds, the change and the current at acceptance in 10 mA, and how far it has come. -/
structure Forecast where
  link : Nat
  frame : Word
  time : Nat
  win : Nat
  delta : Int
  base : Int
  prepos : Bool
  fulfilled : Bool
  unwinding : Bool
  deriving DecidableEq, Repr

/-- A set-point command accepted since the last slew tick (R75, R76): the rank of its source, target and rate codes. -/
structure QueuedCmd where
  rank : Nat
  target : Nat
  rate : Nat
  deriving DecidableEq, Repr

/-- A loop: what the LOOP, SV and IL_FC registers do not hold (spec/04, spec/06).  Voltages are in
2^-24 V, targets in 2^-12 V, currents in 10 mA.  `restore` says that shed phases come back at the next position-0 edge
(R108), `placed` for how many phases the positions were computed (R94), and `lastRank` is the rank of the source last
taken since the last slew tick (R76). -/
structure LoopState where
  ref : Nat
  rate : Nat
  queued : List QueuedCmd
  moving : Bool
  hi : Nat
  lo : Nat
  pgHeld : Bool
  nlFrom : Option Nat
  nlUnder : Bool
  uvArmed : Bool
  ovLow : Bool
  clkHeld : Bool
  e1 : Int
  e2 : Int
  p1 : Int
  p2 : Int
  p3 : Int
  u : Int
  out : Int
  coefReload : Nat
  pend : List (Nat × Word × Word)
  deForced : Bool
  cur : Int
  curSum : Int
  curCnt : Nat
  refHist : List Nat
  ofsNow : Nat
  cycle : Nat
  respace : Bool
  restore : Bool
  placed : Nat
  lastRank : Nat
  svFirst : Bool
  svStart : Nat
  svRun : Nat
  svLeft : Nat
  svChip : Nat
  svLfsr : Nat
  svCur : Int
  svMoved : Bool
  pert : Int
  preraise : Int
  forecast : Option Forecast
  preTarget : Int
  deriving DecidableEq, Repr

/-! ## Sequencer (spec/07) -/

/-- What follows when a rail's stop ends (R140 to R146). -/
inductive StopFor where
  | none
  | retry
  | latch
  | offRequest
  | group
  | system
  | powerDown
  | safe
  deriving DecidableEq, Repr

/-- A rail: what the SEQ_RAIL registers do not hold.  The five times are those from which the start time-out,
the qualify timer, the discharge time-out, the retry delay and the unbroken GOOD time run; `chatDone` tells that the
present chatter count above its limit has been raised (R136, R150). -/
structure RailState where
  startNs : Nat
  onFrom : Option Nat
  qualFrom : Option Nat
  offFrom : Option Nat
  retryFrom : Option Nat
  goodFrom : Option Nat
  marked : Bool
  stopFor : StopFor
  reqAtShut : Bool
  inrushOver : Bool
  chatDone : Bool
  deriving DecidableEq, Repr

/-- A shut-down group: what the SEQ_GRP registers do not hold: its closure, whether a hand-over shut it down,
whether its re-sequence waits for the return to the boardnet, and whether its last shut-down latched (R142, R149). -/
structure GroupState where
  closure : List Nat
  byHandover : Bool
  waitReturn : Bool
  latched : Bool
  deriving DecidableEq, Repr

/-- A system reset in progress: none, stopping, holding, halted or re-sequencing (R142). -/
inductive SysReset where
  | none
  | stopping
  | holding
  | halted
  | resequencing
  deriving DecidableEq, Repr

/-- A captured or pending snapshot (R147, R148). -/
structure Snapshot where
  ftime : BitVec 64
  ctime : BitVec 64
  rail : Nat
  cause : Nat
  pd : Bool
  merged : Nat
  fstat : BitVec 64
  digest : BitVec 64
  channels : List (Nat × Nat)
  loops : List (Nat × Nat × Nat)
  deriving DecidableEq, Repr

/-- The sequencer beyond its rails and groups: the times of its last start and stop, the system reset, whether a
scheduled switch that changes the topology holds every start (R151), the
closures of off requests that still stop, the path state of the last tick, the captured and pending
snapshots, the remote lines IN_0512 to IN_0767, and the GP levels of the rails. -/
structure SeqState where
  lastStart : Option Nat
  lastStop : Option Nat
  sysReset : SysReset
  halting : Bool
  switchHold : Bool
  railsDown : Bool
  offClosures : List (List Nat)
  pathWas : Nat
  snapEntries : List Snapshot
  snapPending : List Snapshot
  remote : BitVec 256
  gpRail : BitVec 24
  deriving DecidableEq, Repr

/-! ## Supervisors (spec/08) -/

/-- Supervisors, resets and watchdog: what the SUP registers do not hold: the reset outputs a system reset
holds (R157), the SUP_WD_CFG the watchdog took at its last arming (R165), and the state from which the watchdog's LFSR
runs in this start with the local nanosecond of that (R161). -/
structure SupState where
  rstoSys : Nat
  wdCfg : Word
  lfsr : BitVec 16
  lfsrFrom : Nat
  deriving DecidableEq, Repr

/-! ## Backup power path and charger (spec/09) -/

/-- The charger's drive: off, charging the pack, probing an absent pack, or in reverse toward VSYS. -/
inductive ChgDrive where
  | off
  | forward
  | probe
  | reverse
  deriving DecidableEq, Repr

/-- The path and charger: what the PATH registers do not hold.  The gates of the three pairs, the present
hand-over's trigger time, what its completion must do, the excursion that lasts and the end of the last one, the readings of BAT_ID and
TS (none until judged), the pack conditions, the charger's paused timers in nanoseconds and its source, and whether a
hand-over has begun since the last sequencer tick (R149). -/
structure PathState where
  gin : Bool
  bsw : Bool
  pgA : Bool
  pgB : Bool
  chg : ChgDrive
  trigAt : Nat
  excEnd : Nat
  retStart : Nat
  safeAtHo : Bool
  afterHo : Bool
  excursion : Bool
  revCond : Bool
  vlowCond : Bool
  batId : Option Bool
  ts : Option Bool
  warnHold : Bool
  cutHold : Bool
  cutNow : Bool
  cvAt : Nat
  cvWas : Nat
  peerWait : Bool
  peerReturn : Bool
  source : Bool
  preLeft : Option Nat
  fastLeft : Option Nat
  released : Nat
  hoBegan : Bool
  deriving DecidableEq, Repr

/-! ## Measurement (spec/10) -/

/-- A channel: latest value, sum, count, minimum and maximum, the sum and count of the words of its last normal visit,
in its unit and at the ball, and the direction of its next open-wire check. -/
structure ChanState where
  latest : Int
  sum : Int
  cnt : Nat
  min : Int
  max : Int
  lastMean : Option (Int × Nat)
  lastBall : Option (Int × Nat)
  owFlip : Bool
  deriving DecidableEq, Repr

/-- A visit of a converter (R196, R197, R206): the converter channel, its settings at the visit's start, the
words and invalid words left, the open-wire current's direction, the sums of its valid words, and whether
it is an urgent conversion and for which engine. -/
structure Visit where
  ch : Nat
  gain : Nat
  osr : Nat
  dwell : Nat
  left : Nat
  inv : Nat
  ow : Option Bool
  n : Nat
  vsum : Int
  bsum : Int
  urgent : Option (Option Nat)
  deriving DecidableEq, Repr

/-- A converter: its visit, the channel, gain, open-wire current and OSR of the last one, the visit an urgent
conversion interrupted, the urgent requests that wait and how many have run in a row. -/
structure ConvState where
  visit : Option Visit
  last : Option (Nat × Nat × Option Bool × Nat)
  resume : Option Visit
  changed : Bool
  pos : Option Nat
  uq : List (Nat × Option Nat)
  row : Nat
  rounds : Nat
  owPick : Option Nat
  owRot : Nat
  roundStart : Nat
  deriving DecidableEq, Repr

/-- An entry of the sample queue (Table 10.4). -/
structure QEntry where
  value : BitVec 32
  ch : Byte
  flags : Byte
  seq : BitVec 16
  time : BitVec 64
  deriving DecidableEq, Repr

/-- One channel of a snapshot: sum, count, minimum, maximum, and whether the count was frozen. -/
structure SnapChan where
  sum : Int
  cnt : Nat
  min : Int
  max : Int
  frozen : Bool
  deriving DecidableEq, Repr

/-- A snapshot buffer: what it shows, and the capture that is to replace it (R200). -/
structure SnapBuf where
  time : BitVec 64
  chans : Cells SnapChan
  taken : Option (BitVec 64 × Cells SnapChan)
  deriving DecidableEq, Repr

/-- The measurement subsystem. -/
structure MeasState where
  chans : Cells ChanState
  convs : Cells ConvState
  queue : Cells QEntry
  bufs : Cells SnapBuf
  running : Bool
  deriving DecidableEq, Repr

/-! ## Fault collector (spec/11) -/

/-- What the FLT registers do not hold: the sources waiting to escalate at once (R216), those whose
grace timer has expired since their last raise (R214), the raises a corrected source has counted
toward its next event-log record (R224), the flag that FLT_FIRST is armed, whether FS_35 waits for the dies
to cool (R325), and whether the collector runs (R211). -/
structure FltState where
  immediate : List Nat
  expired : BitVec 64
  logCount : Cells Nat
  firstArmed : Bool
  dieHot : Bool
  collecting : Bool
  deriving DecidableEq, Repr

/-! ## Records and the Ledger (spec/13, spec/15) -/

/-- A record of the sillage trace (R309). -/
structure TraceRec where
  time : BitVec 64
  source : BitVec 16
  code : BitVec 16
  data : Word
  deriving DecidableEq, Repr

/-- A queued record of the event log (Table 13.4), before its index and check. -/
structure LogRec where
  time : BitVec 64
  source : BitVec 16
  code : Byte
  flags : Byte
  data : BitVec 16
  deriving DecidableEq, Repr

/-- Who asked for a Ledger write (R247, R251). -/
inductive Writer where
  | window (r : Req)
  | dma (c : Nat)
  | param (id : Nat) (value : Word)
  | record (rec : Nat) (value : BitVec 64)
  | log
  | snapshot
  | repair
  | lifeCycle
  deriving DecidableEq, Repr

/-- A write waiting for a running commit or a full buffer (R251), with the code of its requester, and whether it came
from outside after a wait for the drained Ledger began (R333). -/
structure WaitWrite where
  writer : Writer
  page : Nat
  off : Nat
  bytes : List Byte
  who : Nat
  late : Bool
  deriving DecidableEq, Repr

/-- One page slot of the commit buffer: page, image of its 64 bytes, dirty words, first word (R251), and whether a window
write is in it (R257). -/
structure Slot where
  page : Nat
  image : List Byte
  dirty : Nat
  start : Nat
  window : Bool
  deriving DecidableEq, Repr

/-- A record update that is buffered and not yet committed (R256): value, generation, copy B. -/
structure RecPend where
  value : BitVec 64
  gen : Nat
  copyB : Bool
  deriving DecidableEq, Repr

/-- What waits for the Ledger to be drained (R333). -/
inductive Drain where
  | none
  | park
  | restart
  deriving DecidableEq, Repr

/-- The Ledger: array, poison, commit buffer, queues (R246 to R261); `again` tells that a commit is requested and not
yet begun, `late` names the pages buffered only by writes from outside that came after a wait for the drained Ledger
began (R333), `owed` counts the raises of FS_50 that reads owe (R249), `lcRunning` is the life-cycle word on its way,
`lcBusy` says that the running commit is the one of that word, and `keyMove` the move to FACTORY that a first key hash
brings (R62). -/
structure LedgState where
  array : Cells (BitVec 64)
  poison : Cells Bool
  weak : Cells Bool
  slots : List Slot
  running : List Slot
  waiting : List WaitWrite
  logQueue : List LogRec
  logLost : Bool
  scanned : Bool
  recPend : Cells RecPend
  cutAt : Option (Nat × Nat)
  drain : Drain
  again : Bool
  late : List Nat
  owed : Nat
  recWear : Nat
  wearSeen : Nat
  lcRunning : Option Nat
  lcBusy : Bool
  keyMove : Bool
  deriving DecidableEq, Repr

/-! ## Engines, memory, DMA (spec/12) -/

/-- A policy engine (R226): program counter, registers x1 to x31, machine-mode CSRs, the claims not completed
(source and level, latest first), the effective timer compare and whether it may still match, and the two
tightly coupled memories with their poisoned words. -/
structure EngState where
  pc : Word
  xs : Cells Word
  mie : Bool
  mpie : Bool
  mieReg : Word
  mtvec : Word
  mscratch : Word
  mepc : Word
  mcause : Word
  mtval : Word
  minstret : BitVec 64
  claims : List (Nat × Nat)
  tcmpArmed : Bool
  itcm : Cells Word
  dtcm : Cells Word
  itcmBad : Cells Bool
  dtcmBad : Cells Bool
  deriving DecidableEq, Repr

/-- A DMA channel: the descriptor it runs (R234), where that lies, and the state in which it is to stop at the
next beat boundary (R235, R236): 0 none. -/
structure DmaState where
  desc : Word
  src : Word
  dst : Word
  len : Nat
  ctrl : Word
  next : Word
  stop : Nat
  deriving DecidableEq, Repr

/-- The engine subsystem beyond its registers: engines, shared SRAM with its poisoned words, channels, whether the
event being forwarded was raised again (R240), when each pending event was raised (R299), and the channel of each
priority that moved its last beat (R235). -/
structure EvtState where
  engines : Cells EngState
  sram : Cells (BitVec 64)
  sramBad : Cells Bool
  dma : Cells DmaState
  again : Bool
  raisedAt : Cells (BitVec 64)
  beatLast : Cells Nat
  eccNext : List EccErr
  deriving DecidableEq, Repr

/-! ## Host ports (spec/14) -/

/-- The host ports beyond their registers: the window address and read length of WIN_ADDR, whether the last
command code was refused and the bytes it answered, the latched STATUS_WORD bits of each loop, BUSY, the Host
Notify that waits, when the last was sent, its losses in a row and its message, the device's answer to the last
quad frame, the bank, offset and bytes of the bank frame being stored, and whether SCL is stretched after a wake by
the own address (R269, R271). -/
structure HostState where
  winAddr : Word
  winLen : Nat
  refused : Bool
  reply : List Byte
  pm : Cells (BitVec 16)
  busy : Bool
  notify : Bool
  notifiedAt : Option Nat
  losses : Nat
  message : List Byte
  quadData : List Byte
  quadStore : Option (Bool × Nat × List Byte)
  stretch : Bool
  deriving DecidableEq, Repr

/-! ## Hierarchy links (spec/15) and self-test (spec/16) -/

/-- A link port beyond LINK_PORT_STATUS: what its peer last reported, whether the peer leads to the MANAGER, and
whether this end sent the first burst. -/
structure PortState where
  peerRole : Nat
  peerDepth : Nat
  peerHash : BitVec 64
  leads : Bool
  first : Bool
  bad : Nat
  deriving DecidableEq, Repr

/-- A frame that waits for its acknowledgements (R291): sequence number, type, destination, payload, sends so
far, the devices yet to acknowledge, and the engine whose LINK_TX sent it. -/
structure OutFrame where
  seq : Nat
  typ : Nat
  dst : Nat
  payload : List Byte
  sends : Nat
  waits : List Nat
  engine : Option Nat
  deriving DecidableEq, Repr

/-- A frame handed to a port for sending: its type (0 a status frame, 0x100 a comma burst), source, destination, SEQ and payload. -/
structure SentFrame where
  port : Nat
  typ : Nat
  src : Nat
  dst : Nat
  seq : Nat
  payload : List Byte
  deriving DecidableEq, Repr

/-- The time servo beyond LINK_TIME_RATE (R295): the local time from which it counts, the rate correction in 2^-32, and the
offset that is being slewed away, in nanoseconds. -/
structure Servo where
  base : Nat
  rate : Int
  slew : Int
  deriving DecidableEq, Repr

/-- The links beyond their registers: ports, own SEQ, frames awaiting acknowledgement, the acknowledgements of the
last 64 SEQ per origin, the frames the last sending command sent, the port that leads to each device and to each
serial hash that waits for its number, the numbers given and held (MANAGER), the MANAGER's number (WORKER), the
engine that reads from each device, GOOD vectors, own GOOD lines as last sent, the receive queue, the time servo,
the probe's answers, pending digests, the VERIFY whose acknowledgement is owed, the scheduled switch, the power-down
cascade and the device to which a PDONE is owed. -/
structure LinkState where
  ports : Cells PortState
  seqNext : Nat
  out : List OutFrame
  seen : Cells (List (Nat × List Byte))
  sent : List SentFrame
  routes : Cells (Option Nat)
  hellos : List (BitVec 64 × Nat)
  given : List (BitVec 64 × Nat)
  holders : Cells (Option (BitVec 64))
  mgr : Nat
  rdWait : Cells (Option Nat)
  vectors : Cells (BitVec 64)
  goodWas : BitVec 64
  rxev : List (Nat × Nat)
  rxDrop : Bool
  first : Bool
  near : Nat
  far : Nat
  answered : BitVec 64
  missed : Cells Nat
  pendExp : Cells (Option (BitVec 64))
  fwdSeq : Option Nat
  verifyAck : Option (Nat × Nat × Nat)
  swEpoch : Word
  swT : BitVec 64
  swGo : Bool
  swTargets : List Nat
  swWait : List Nat
  casc : List Nat
  cascLast : List Nat
  cascWait : List Nat
  cascDest : Nat
  cascOn : Bool
  pdoneOwed : Option Nat
  servo : Servo
  deriving DecidableEq, Repr

/-- The self-test controller beyond its registers: the place of each domain in its rotation, the domains that
have completed theirs, the slice each domain runs, the one it must repeat, the time of the last slice instant, and
of a drydown the fatal raises so far, the temperature at its start and the time of that; whether it is one that BIST_CMD
began (`direct`), the failures, the duration and the count its record holds, and a value of record 2 that was buffered
before it.  `dryAt` is the start of a start-up self-test too. -/
structure BistState where
  place : Cells Nat
  rounds : Nat
  running : Cells (Option (Nat × Nat))
  again : Cells (Option (Nat × Nat))
  instant : Option Nat
  fatals : List Nat
  tj : Int
  dryAt : Nat
  direct : Bool
  dryFails : List (Nat × Nat)
  dryTime : Nat
  dryCount : Nat
  dryPrev : Option (BitVec 64)
  deriving DecidableEq, Repr

/-! ## The whole state -/

/-- The state of the block.  `clock` counts local time in halves of a nanosecond and never steps;
hierarchy time is `clock / 2 + htOfs` in nanoseconds, and what the servo of the links has added since its base.  `freeCount` is the model's own: it indexes the
free values of `Config`, and each use advances it.  `hiLatch` holds what a read of a LO register latched of its
HI register, `loLatch` what was written to a LO register whose HI write latches both. -/
structure State where
  pending : List Instr
  clock : Nat
  htOfs : Int
  freeCount : Nat
  regs : Cells Word
  timers : Cells (Option Nat)
  trace : Cells TraceRec
  tracePost : Option Nat
  sys : SysState
  acrd : AcrdState
  loops : Cells LoopState
  phases : Cells PhaseState
  ilReply : Cells Word
  rails : Cells RailState
  groups : Cells GroupState
  seq : SeqState
  sup : SupState
  path : PathState
  meas : MeasState
  flt : FltState
  ledg : LedgState
  evt : EvtState
  host : HostState
  link : LinkState
  bist : BistState
  hiLatch : Cells (Option Word)
  loLatch : Cells (Option Word)
  deriving DecidableEq, Repr

/-! ## Reset -/

/-- The supply front-end, clocks and life phase of an unpowered device (Table 0.3). -/
def SysState.reset : SysState where
  phase := .unpowered
  stage := .off
  address := none
  ft := 0
  safeLatch := none
  brown := .none
  nextCause := 0
  wakeArmed := false
  wakePending := 0
  hsupOv := false
  vcc5Ov := false
  batLeg := false
  bnoPeriod := 0
  pllP := .off
  pllE := .off
  pllM := .off
  plleLost := false
  xinWait := false
  dry := .idle
  selfTest := false
  lcJudging := false
  pinLines := 0
  pinHeld := 0
  tapReset := true
  tapIr := 0
  tapDr := []
  tapOut := []
  scanDrive := none
  svcLow := false
  svcFrom := 0
  svcArmed := true

/-- Both banks blank and no image loaded. -/
def AcrdState.reset : AcrdState where
  bankA := []
  bankB := []
  selB := false
  active := none
  image := none
  staged := none
  stagedBank := none
  verifying := none
  causeA := 0
  causeB := 0
  blankA := false
  blankB := false
  fallback := false
  defaults := false
  paramFile := []
  replayed := []
  journal := []
  tiles := []
  safe := []
  reloading := none
  act := 0#256
  heldAct := 0#256
  switching := false

/-- A sequencer before release. -/
def SeqState.reset : SeqState where
  lastStart := none
  lastStop := none
  sysReset := .none
  halting := false
  switchHold := false
  railsDown := false
  offClosures := []
  pathWas := 0
  snapEntries := []
  snapPending := []
  remote := 0#256
  gpRail := 0#24

/-- A path without power: every gate held off. -/
def PathState.reset : PathState where
  gin := false
  bsw := false
  pgA := false
  pgB := false
  chg := .off
  trigAt := 0
  excEnd := 0
  retStart := 0
  safeAtHo := false
  afterHo := false
  excursion := false
  revCond := false
  vlowCond := false
  batId := none
  ts := none
  warnHold := false
  cutHold := false
  cutNow := false
  cvAt := 0
  cvWas := 0
  peerWait := false
  peerReturn := false
  source := false
  preLeft := none
  fastLeft := none
  released := 0
  hoBegan := false

/-- The Ledger as the device leaves manufacture: page 0 in BLANK with a valid life-cycle word and CRC, its serial
and revision bytes 0, and every other word 0 (R23, R335). -/
def LedgState.reset : LedgState where
  array := [(2, 0x0000FF0000000000#64), (7, 0xF3C2D90E00000000#64)]
  poison := []
  weak := []
  slots := []
  running := []
  waiting := []
  logQueue := []
  logLost := false
  scanned := false
  recPend := []
  cutAt := none
  drain := .none
  again := false
  late := []
  owed := 0
  recWear := 0
  wearSeen := 0
  lcRunning := none
  lcBusy := false
  keyMove := false

/-- The links of a device that has joined nothing. -/
def LinkState.reset : LinkState where
  ports := []
  seqNext := 0
  out := []
  seen := []
  sent := []
  routes := []
  hellos := []
  given := []
  holders := []
  mgr := 0xFF
  rdWait := []
  vectors := []
  goodWas := 0#64
  rxev := []
  rxDrop := false
  first := true
  near := 0
  far := 0
  answered := BitVec.allOnes 64
  missed := []
  pendExp := []
  fwdSeq := none
  verifyAck := none
  swEpoch := 0#32
  swT := 0#64
  swGo := false
  swTargets := []
  swWait := []
  casc := []
  cascLast := []
  cascWait := []
  cascDest := 0
  cascOn := false
  pdoneOwed := none
  servo := ⟨0, 0, 0⟩

/-- The collector before a start. -/
def FltState.reset : FltState := ⟨[], 0#64, [], true, false, false⟩

/-- The host ports before a start: window address 0 and the read length of R282. -/
def HostState.reset : HostState := ⟨0#32, 4, false, [], [], false, false, none, 0, [], [], none, false⟩

/-- The machine right after reset: the unpowered device after a base-note power-on reset (Table 0.3, R51), no
command waiting, every register at its reset value. -/
def State.reset : State where
  pending := []
  clock := 0
  htOfs := 0
  freeCount := 0
  regs := []
  timers := []
  trace := []
  tracePost := none
  sys := SysState.reset
  acrd := AcrdState.reset
  loops := []
  phases := []
  ilReply := []
  rails := []
  groups := []
  seq := SeqState.reset
  sup := ⟨0, 0#32, 1#16, 0⟩
  path := PathState.reset
  meas := ⟨[], [], [], [], false⟩
  flt := FltState.reset
  ledg := LedgState.reset
  evt := ⟨[], [], [], [], false, [], [], []⟩
  host := HostState.reset
  link := LinkState.reset
  bist := ⟨[], 0, [], [], none, [], 0, 0, false, [], 0, 0, none⟩
  hiLatch := []
  loLatch := []

/-- A command stops in a fault only where the spec says that the machine stops: no rule of spec/ does,
so no meaning raises one.  Safe: a fault is a stop where the device would go on. -/
inductive Fault where
  /-- Raised by no meaning: the spec describes no event that stops the block for good. -/
  | stopped
  deriving DecidableEq, Repr

/-- A command the model refuses. -/
inductive Refusal where
  /-- Raised by `exec` for a command without a meaning yet, by its mnemonic.  Safe: nothing is claimed. -/
  | notModelled (mnemonic : String)
  deriving DecidableEq, Repr

/-- What a command answers. -/
abbrev Out := Host.Outcome State Fault Refusal

end Sys2Proof.Machine
end

