-- ==== Sys2Proof/Machine/Ops.lean ====
section
/-! DEFINITION.  The named operations that the meanings share: access to registers and their fields,
timers, counters, the sillage trace, device events, the event-log queue and the raise of a fault
source. -/

namespace Sys2Proof.Machine

/-! ## Registers -/

/-- The word of the register with storage key `k`. -/
def State.reg (s : State) (k : Nat) : Word := (s.regs.find k).getD (resetWord k)

/-- The state with the register of key `k` holding `v`. -/
def State.setReg (s : State) (k : Nat) (v : Word) : State :=
  { s with regs := s.regs.put (resetWord k) k v }

/-- The value of a register field, unsigned. -/
def State.fld (s : State) (f : Field) : Nat := (s.reg f.key).field f.lo f.width

/-- The value of a one-bit field. -/
def State.bit (s : State) (f : Field) : Bool := s.fld f != 0

/-- The value of a signed field. -/
def State.sfld (s : State) (f : Field) : Int := signedOf f.width (s.fld f)

/-- The state with a register field holding the low bits of `v`. -/
def State.setF (s : State) (f : Field) (v : Nat) : State :=
  s.setReg f.key ((s.reg f.key).setField f.lo f.width v)

/-- The state with a one-bit field holding `b`. -/
def State.setB (s : State) (f : Field) (b : Bool) : State := s.setF f b.toNat

/-- The state with a signed field holding `i`, held at the ends of its range. -/
def State.setI (s : State) (f : Field) (i : Int) : State :=
  s.setF f (unsignedOf f.width (clampInt (-(2 ^ (f.width - 1))) (2 ^ (f.width - 1) - 1) i))

/-- The state with a 64-bit value in a pair of registers. -/
def State.setPair (s : State) (lo hi : Nat) (v : BitVec 64) : State :=
  (s.setReg lo (v.setWidth 32)).setReg hi ((v >>> 32).setWidth 32)

/-- The 64-bit value of a pair of registers. -/
def State.pair (s : State) (lo hi : Nat) : BitVec 64 :=
  ((s.reg hi).setWidth 64 <<< 32) ||| (s.reg lo).setWidth 64

/-- Bit `i` of a bank of 32-bit registers, `r` giving the key of each. -/
def State.bitAt (s : State) (r : Nat → Nat) (i : Nat) : Bool := (s.reg (r (i / 32))).getLsbD (i % 32)

/-- The state with bit `i` of a bank of 32-bit registers holding `b`. -/
def State.setBitAt (s : State) (r : Nat → Nat) (i : Nat) (b : Bool) : State :=
  let w := s.reg (r (i / 32))
  s.setReg (r (i / 32)) (if b then w ||| (1#32 <<< (i % 32)) else w &&& ~~~(1#32 <<< (i % 32)))

/-- Whether a key lies in the rows of the 24 loops. -/
def loopKey (k : Nat) : Bool := decide (0x40010000 ≤ k) && decide (k < 0x40016000)

/-- The word that a write of `new` leaves in the register of key `k`, from `old`: an OFS of 3,600 to 4,095 leaves that
field unchanged (R72). -/
def keepOfs (k : Nat) (old new : Word) : Word :=
  if loopKey k && decide (k % 0x400 = 0x10) && decide (3600 ≤ new.field 0 12) then new.setField 0 12 (old.field 0 12) else new

/-- The state with several registers back at their reset words. -/
def State.resetRegs (s : State) (p : Nat → Bool) : State :=
  { s with regs := s.regs.filter (fun e => !p e.1) }

/-! ## Time and timers -/

/-- Local time in nanoseconds. -/
def State.ns (s : State) : Nat := s.clock / 2

/-- 100 ppm, the greatest slew (R295), in 2^-32. -/
def slewPpm : Int := 429496

/-- What the servo has slewed of its offset after `dt` nanoseconds, in 2^-32 ns. -/
def Servo.slewed (v : Servo) (dt : Int) : Int := max (-(dt * slewPpm)) (min (dt * slewPpm) (v.slew * 2 ^ 32))

/-- What the servo has added to the time since its base, in whole nanoseconds (R295). -/
def Servo.added (v : Servo) (ns : Nat) : Int :=
  let dt : Int := (ns - v.base : Nat)
  (dt * v.rate + v.slewed dt) / 2 ^ 32

/-- The least number of nanoseconds after its base in which the servo brings the time forward by `need`. -/
def Servo.reach (v : Servo) (need : Int) : Nat :=
  let up := fun (n d : Int) => (n + d - 1) / d
  let k := 2 ^ 32 + v.rate
  let a := up (need * 2 ^ 32) (k + (if 0 ≤ v.slew then slewPpm else -slewPpm))
  (if a * slewPpm ≤ (v.slew.natAbs : Int) * 2 ^ 32 then a else up ((need - v.slew) * 2 ^ 32) k).toNat

/-- Hierarchy time: nanoseconds, 64 bits (spec/00, Conventions). -/
def State.now (s : State) : BitVec 64 := BitVec.ofInt 64 ((s.ns : Int) + s.htOfs + s.link.servo.added s.ns)

/-- The local time, in nanoseconds, at which the hierarchy time reaches `t`; one that it has reached by the servo's base
is not after that base. -/
def State.localAt (s : State) (t : Int) : Nat :=
  s.link.servo.base + s.link.servo.reach (t - s.htOfs - (s.link.servo.base : Int))

/-- The servo counts from now on: what it has added so far moves into the offset of the time. -/
def State.rebase (s : State) : State :=
  let v := s.link.servo
  { s with
    htOfs := s.htOfs + v.added s.ns
    link := { s.link with servo := { v with base := s.ns, slew := v.slew - Int.tdiv (v.slewed ((s.ns - v.base : Nat) : Int)) (2 ^ 32) } } }

/-- The name of timer `i` of kind `k`. -/
def timerKey (k i : Nat) : Nat := k * 65536 + i

/-- The deadline of a timer, in local nanoseconds, if it runs. -/
def State.deadline (s : State) (k : Nat) : Option Nat := (s.timers.find k).getD none

/-- Whether a timer runs. -/
def State.runs (s : State) (k : Nat) : Bool := (s.deadline k).isSome

/-- The state with timer `k` running to `d` nanoseconds from now. -/
def State.arm (s : State) (k d : Nat) : State :=
  { s with timers := s.timers.put none k (some (s.ns + d)) }

/-- The state with timer `k` stopped. -/
def State.disarm (s : State) (k : Nat) : State := { s with timers := s.timers.put none k none }

/-- The state with the clock not before `t` nanoseconds: an expiry is reported at or after its
deadline, so its report carries time to that deadline. -/
def State.notBefore (s : State) (t : Nat) : State := { s with clock := max s.clock (2 * t) }

/-- The expiry of timer `k`: when it runs, time has reached its deadline and it stops; when it does
not run, there is none. -/
def State.expire (s : State) (k : Nat) : Option State :=
  match s.deadline k with
  | some d => some ((s.notBefore d).disarm k)
  | none => none

/-- The state with the next use of a free value taken: the index, and the state past it. -/
def State.takeFree (s : State) : Nat × State := (s.freeCount, { s with freeCount := s.freeCount + 1 })

/-- A tick of time when no command waits (R55): 2.5 ns of PLL_E, 10 ns of the reference while PLL_E is out of
lock, and one BNO tick in park, which adds the measured period.  No time passes without power or in flacon
mode. -/
def State.idleTick (s : State) : State :=
  match s.sys.phase with
  | .unpowered => s
  | .flacon => s
  | .park => { s with clock := s.clock + 2 * s.sys.bnoPeriod }
  | _ => { s with clock := s.clock + (if s.sys.pllE = .locked || s.sys.pllE = .reconfiguring then 5 else 20) }

/-! ## Sparse tables of the blocks -/

/-- Row `k` of a sparse table. -/
def Cells.at {α : Type} (d : α) (c : Cells α) (k : Nat) : α := (c.find k).getD d

/-- A sparse table with row `k` changed by `f`. -/
def Cells.upd {α : Type} [DecidableEq α] (d : α) (c : Cells α) (k : Nat) (f : α → α) : Cells α :=
  c.put d k (f (c.at d k))

/-! ## Names of timers -/

/-- The kinds of timer. -/
def T.forward : Nat := timerKey 1 0
def T.evPulse (e : Nat) : Nat := timerKey 2 e
def T.grace (n : Nat) : Nat := timerKey 3 n
def T.logInt (n : Nat) : Nat := timerKey 4 n
def T.commitAge : Nat := timerKey 5 0
def T.commitEnd : Nat := timerKey 6 0
def T.brown : Nat := timerKey 7 0
def T.strap : Nat := timerKey 8 0
def T.xin : Nat := timerKey 9 0
def T.selfTest : Nat := timerKey 10 0
def T.load : Nat := timerKey 11 0
def T.config : Nat := timerKey 12 0
def T.release : Nat := timerKey 13 0
def T.logScan : Nat := timerKey 14 0
def T.pllP : Nat := timerKey 15 0
def T.reconfig : Nat := timerKey 16 0
def T.lcJudge : Nat := timerKey 17 0
def T.tileReload : Nat := timerKey 18 0
def T.verify : Nat := timerKey 19 0
def T.switchAt : Nat := timerKey 20 0
def T.switchRel : Nat := timerKey 21 0
def T.tileTimer (t k : Nat) : Nat := timerKey 22 (2 * t + k)
def T.hello (p : Nat) : Nat := timerKey 100 p
def T.resend (q : Nat) : Nat := timerKey 101 q
def T.tsync : Nat := timerKey 102 0
def T.align : Nat := timerKey 102 1
def T.rvec : Nat := timerKey 102 2
def T.probeTick : Nat := timerKey 102 3
def T.probeMiss : Nat := timerKey 102 4
def T.orphan : Nat := timerKey 102 5
def T.orphPark : Nat := timerKey 102 6
def T.casc : Nat := timerKey 102 7
def T.goLead : Nat := timerKey 102 8
def T.selfCancel : Nat := timerKey 102 9
def T.stale (d : Nat) : Nat := timerKey 103 d

/-- SYS_CLK_STATUS.LOCKED shows whether all three PLLs are in lock. -/
def State.showLocked (s : State) : State :=
  s.setB R.SYS_CLK_STATUS.LOCKED (s.sys.pllP = .locked && s.sys.pllM = .locked &&
    (s.sys.pllE = .locked || s.sys.pllE = .reconfiguring))

/-! ## Device events (R239, R240, R242) -/

/-- The state after event `e` is raised, its counter taken as `n` raises and `sat` saturated. -/
def State.eventMarks (s : State) (e : Nat) : State :=
  let s := s.arm (T.evPulse e) 20
  let new := !s.bitAt R.EVT_FWD_PEND.reg e || (s.bit R.EVT_FWD.BUSY && s.fld R.EVT_FWD.EV = e && !s.evt.again)
  let s := if new then { s with evt := { s.evt with raisedAt := s.evt.raisedAt.put 0#64 e s.now } } else s
  let s := if s.bit R.EVT_FWD.BUSY && s.fld R.EVT_FWD.EV = e then { s with evt := { s.evt with again := true } } else s
  let s := if s.fld (R.EVT_ROUTE.ENG e) ≠ 0 || s.bit (R.EVT_ROUTE.LINK e)
           then s.setBitAt R.EVT_FWD_PEND.reg e true else s
  if s.bit (R.EVT_ROUTE.HOST e) then
    let s := if s.bit R.HOST_CFG.HNEN && !s.bitAt R.EVT_PEND.reg e then { s with host := { s.host with notify := true } } else s
    s.setBitAt R.EVT_PEND.reg e true
  else s

/-- Whether the raise of event `e` brings its counter to its end. -/
def State.eventSaturates (s : State) (e : Nat) : Bool :=
  s.fld (R.EVT_CNT.RAISE e) = 0x7FFFFE

/-- The state after the counter of event `e` counts one raise (R239). -/
def State.eventCount (s : State) (e : Nat) : State :=
  let n := s.fld (R.EVT_CNT.RAISE e)
  if n < 0x7FFFFE then s.setF (R.EVT_CNT.RAISE e) (n + 1)
  else (s.setF (R.EVT_CNT.RAISE e) 0x7FFFFF).setB (R.EVT_CNT.SAT_R e) true

/-- The state after a counter of block number `b` has saturated: EV_073 and EVT_SATSRC, which shows the event counter of
EV_073 too when that raise saturates it (R239). -/
def State.saturated (s : State) (b : Nat) : State :=
  let own := if s.eventSaturates 73 then 2 ^ 8 else 0
  let s := s.setReg R.EVT_SATSRC.reg (s.reg R.EVT_SATSRC.reg ||| BitVec.ofNat 32 (2 ^ b) ||| BitVec.ofNat 32 own)
  (s.eventCount 73).eventMarks 73

/-- A raise of device event `e` (R239, R240, R242). -/
def State.event (s : State) (e : Nat) : State :=
  let sat := s.eventSaturates e
  let s := (s.eventCount e).eventMarks e
  if sat && e != 73 then s.saturated 8 else s

/-- The state after a counter `f` of block number `b` counts one, saturating at all ones of its
field with `sat` set and EV_073 raised when it gets there (spec/00 Conventions, R239). -/
def State.count (s : State) (b : Nat) (f sat : Field) : State :=
  let n := s.fld f
  let m := 2 ^ f.width - 1
  if n + 1 < m then s.setF f (n + 1)
  else if n + 1 = m then ((s.setF f m).setB sat true).saturated b
  else s

/-- The block numbers in address order (R309). -/
def B.sys : Nat := 0
def B.loop : Nat := 1
def B.phase : Nat := 2
def B.seq : Nat := 3
def B.sup : Nat := 4
def B.meas : Nat := 5
def B.path : Nat := 6
def B.flt : Nat := 7
def B.evt : Nat := 8
def B.ledg : Nat := 9
def B.host : Nat := 10
def B.link : Nat := 11
def B.bist : Nat := 12
def B.acrd : Nat := 13

/-! ## Sillage trace (R309, R310) -/

/-- The state with one sillage record entered: written at LINK_TRC_STAT.WR while the trace is enabled
and neither frozen nor stopped, and counted as dropped otherwise (R310). -/
def State.traceAt (s : State) (time : BitVec 64) (source code data : Nat) : State :=
  let full := s.bit (R.LINK_TRC_STAT.WRAPPED) && s.bit (R.LINK_TRC_CFG.STOP)
  if s.bit (R.LINK_TRC_CFG.EN) = false then s
  else if s.bit (R.LINK_TRC_STAT.FROZEN) || full then
    let n := s.fld (R.LINK_TRC_DROP.COUNT)
    if n + 1 < 0x7FFFFFFF then s.setF (R.LINK_TRC_DROP.COUNT) (n + 1)
    else if s.bit R.LINK_TRC_DROP.SAT then s
    else ((s.setF (R.LINK_TRC_DROP.COUNT) 0x7FFFFFFF).setB (R.LINK_TRC_DROP.SAT) true).saturated B.link
  else
    let wr := s.fld (R.LINK_TRC_STAT.WR)
    let rec0 : TraceRec := ⟨0, 0, 0, 0⟩
    let r : TraceRec := ⟨time, BitVec.ofNat 16 source, BitVec.ofNat 16 code, BitVec.ofNat 32 data⟩
    let s := { s with trace := s.trace.put rec0 wr r }
    let s := s.setF (R.LINK_TRC_STAT.WR) (wr + 1)
    let s := if wr = 65535 then s.setB (R.LINK_TRC_STAT.WRAPPED) true else s
    let n := s.fld (R.LINK_TRC_CNT.COUNT)
    let s := if n + 1 < 0x7FFFFFFF then s.setF (R.LINK_TRC_CNT.COUNT) (n + 1)
             else if s.bit R.LINK_TRC_CNT.SAT then s
             else ((s.setF (R.LINK_TRC_CNT.COUNT) 0x7FFFFFFF).setB (R.LINK_TRC_CNT.SAT) true).saturated B.link
    match s.tracePost with
    | none => s
    | some p =>
      if p ≤ 1 then ({ s with tracePost := none }).setB (R.LINK_TRC_STAT.FROZEN) true
      else { s with tracePost := some (p - 1) }

/-- The state with one sillage record of the present hierarchy time. -/
def State.traceRec (s : State) (source code data : Nat) : State := s.traceAt s.now source code data

/-! ## Local interrupt sources and PMBus status (R237, R281) -/

/-- Whether engine `e` runs: ENG_STATUS.STATE is 1 or 2. -/
def State.engRuns (s : State) (e : Nat) : Bool :=
  s.fld (R.ENG_STATUS.STATE e) = 1 || s.fld (R.ENG_STATUS.STATE e) = 2

/-- An occurrence of local source LS_l in engine `e` (R237): its pending bit, whatever the engine's state. -/
def State.localSource (s : State) (e l : Nat) : State := s.setBitAt (R.EIC_PEND.reg e) l true

/-- A state change of RAIL_r: LS_(192 + r) in every engine (Table 12.3). -/
def State.railNews (s : State) (r : Nat) : State :=
  (List.range 16).foldl (fun s e => s.localSource e (192 + r)) s

/-- STATUS bits of loop `n` latch in the field `f` of HOST_PMST (R281). -/
def State.pmStat (s : State) (f : Nat → Field) (n bits : Nat) : State :=
  s.setF (f n) (s.fld (f n) ||| bits)

/-- STATUS_WORD bits of loop `n` latch (Table 14.4). -/
def State.pmLatch (s : State) (n bits : Nat) : State :=
  { s with host := { s.host with pm := s.host.pm.upd 0#16 n (fun w => w ||| BitVec.ofNat 16 bits) } }

/-- Whether a commanded power-down or the stopping part of a reaction runs (R145): the flag of its records. -/
def State.powerDown (s : State) : Bool := s.sys.phase = .powerDown

/-- Whether drydown is under way: from its start to the commit of its record (R316). -/
def State.inDrydown (s : State) : Bool := s.sys.dry = .running || s.sys.dry = .recorded

end Sys2Proof.Machine
end

