-- ==== Sys2Proof/Machine/Buffer.lean ====
section
/-! DEFINITION.  The Ledger's commit buffer (spec/13): what is stored, the slots, two-copy records, persistent
parameters, the start of a commit and the placing of event-log records.  What a read owes to the fault collector is
counted here and raised in Raise. -/

namespace Sys2Proof.Machine

/-- The code of a requester: the copy of a register kept in one copy per requester (R22 order). -/
def reqCode : Req → Nat
  | .engine e => e.val
  | .hostBus => 16
  | .quad => 17
  | .link => 18

/-! ## Reading (R249) -/

/-- The eight bytes of an array word. -/
def wordBytes (w : BitVec 64) : List Byte := leBytes 8 w.toNat

/-- Word `w` of the array as a read returns it: all ones where it is poisoned. -/
def State.arrayWord (s : State) (w : Nat) : BitVec 64 :=
  if s.ledg.poison.at false w then 0xFFFFFFFFFFFFFFFF#64 else s.ledg.array.at 0#64 w

/-- The 64 bytes of a page as the array returns them. -/
def State.arrayPage (s : State) (page : Nat) : List Byte :=
  (List.range 8).flatMap (fun i => wordBytes (s.arrayWord (8 * page + i)))

/-- The slot that holds a page, among the buffered ones or those of the running commit. -/
def State.slotOf (s : State) (page : Nat) : Option Slot :=
  (s.ledg.slots ++ s.ledg.running).find? (fun x => x.page = page)

/-- The 64 bytes of a page as a read returns them: buffered, or from the array. -/
def State.pageBytes (s : State) (page : Nat) : List Byte :=
  match s.slotOf page with
  | some x => x.image
  | none => s.arrayPage page

/-- Whether a page holds a poisoned word that no buffered image replaces. -/
def State.pagePoisoned (s : State) (page : Nat) : Bool :=
  match s.slotOf page with
  | some _ => false
  | none => (List.range 8).any (fun i => s.ledg.poison.at false (8 * page + i))

/-- The number that `n` bytes from byte `off` of a list give, little-endian. -/
def bytesAt (l : List Byte) (off n : Nat) : Nat := bytesLE ((l.drop off).take n)

/-- Whether bytes 60 to 63 of a page hold the CRC-32 of its bytes 0 to 59, and no word is poisoned (R23, R248). -/
def State.pageReadable (s : State) (page : Nat) : Bool :=
  !s.pagePoisoned page &&
  (crc32 ((s.pageBytes page).take 60)).toNat = bytesAt (s.pageBytes page) 60 4

/-! ## The commit buffer (R250 to R252) -/

/-- A page image after `bytes` are written from offset `off`, wrapping within the page; positions of
the kept CRC of pages 0 to 127 are skipped for a window write (R248). -/
def writeImage (skipCrc : Bool) (image : List Byte) (off : Nat) : List Byte → List Byte
  | [] => image
  | b :: r =>
    let p := off % 64
    writeImage skipCrc (if skipCrc && 60 ≤ p then image else image.set p b) (off + 1) r

/-- Whether a write of `n` bytes from `off` covers byte `p` of the page; not the kept CRC under `skipCrc`. -/
def writeCovers (skipCrc : Bool) (off n p : Nat) : Bool := decide ((p + 64 - off % 64) % 64 < n) && !(skipCrc && decide (60 ≤ p))

/-- The words a write of `n` bytes from `off` touches, as a mask. -/
def writeDirty (skipCrc : Bool) (off n : Nat) : Nat :=
  (List.range 8).foldl (fun m w =>
    if (List.range 8).any (fun b => writeCovers skipCrc off n (8 * w + b)) then m ||| 2 ^ w else m) 0

/-- The words a write of `n` bytes from `off` covers whole, as a mask. -/
def writeFull (skipCrc : Bool) (off n : Nat) : Nat :=
  (List.range 8).foldl (fun m w =>
    if (List.range 8).all (fun b => writeCovers skipCrc off n (8 * w + b)) then m ||| 2 ^ w else m) 0

/-- The number of pages the buffer holds. -/
def State.ledgPages (s : State) : Nat := s.ledg.slots.length + s.ledg.running.length

/-- The state with LEDG_STATUS.PAGES showing the buffered pages. -/
def State.showPages (s : State) : State := s.setF R.LEDG_STATUS.PAGES s.ledgPages

/-- The commit age in nanoseconds (LEDG_CFG.TAGE). -/
def State.commitAgeNs (s : State) : Nat :=
  min 10000 (max 1 (s.fld R.LEDG_CFG.TAGE)) * 100000

/-- What a read of array word `w` counts and owes (R249): a poisoned word its address, a count and one raise of FS_50; a
weak one a count. -/
def State.noteErr (s : State) (w : Nat) : State :=
  if s.ledg.poison.at false w then
    let s := (s.setF R.LEDG_ECC_ADDR.WORD w).count B.ledg R.LEDG_ECC.UNCORR R.LEDG_ECC.SAT_U
    { s with ledg := { s.ledg with owed := s.ledg.owed + 1 } }
  else if s.ledg.weak.at false w then s.count B.ledg R.LEDG_ECC.CORR R.LEDG_ECC.SAT_C
  else s

/-- The words of a page that a fill corrects and, with REPAIR, rewrites, as a mask (R249). -/
def State.fillRepair (s : State) (page full : Nat) : Nat :=
  if s.bit R.LEDG_CFG.REPAIR then
    (List.range 8).foldl (fun m i =>
      if !full.testBit i && !s.ledg.poison.at false (8 * page + i) && s.ledg.weak.at false (8 * page + i)
      then m ||| 2 ^ i else m) 0
  else 0

/-- A fill of a slot reads the words of the page that the write does not cover whole (R249; DESIGN CHOICE, log entry
153). -/
def State.fillErrs (s : State) (page full : Nat) : State :=
  (List.range 8).foldl (fun s i => if full.testBit i then s else s.noteErr (8 * page + i)) s

/-- A write placed in the commit buffer: merged into its page's slot, or in a free one filled from the array; none when
it must wait (R251).  `out` marks a window write, whose bytes over a kept CRC are ignored (R248), and `late` one that
arrived after a wait for the drained Ledger began (R333). -/
def State.placeBytes (s : State) (out late : Bool) (page off : Nat) (bytes : List Byte) : Option State :=
  let skip := out && decide (page < 128)
  let d := writeDirty skip off bytes.length
  if d = 0 then some s
  else if s.ledg.running.any (fun x => x.page = page) then none
  else
    match s.ledg.slots.find? (fun x => x.page = page) with
    | some _ =>
      let up := fun (x : Slot) => if x.page = page
        then { x with image := writeImage skip x.image off bytes, dirty := x.dirty ||| d, window := x.window || out } else x
      some { s with ledg := { s.ledg with
        slots := s.ledg.slots.map up, late := if late then s.ledg.late else s.ledg.late.filter (fun p => p ≠ page) } }
    | none =>
      if 64 ≤ s.ledgPages then none
      else
        let full := writeFull skip off bytes.length
        let x : Slot := ⟨page, writeImage skip (s.arrayPage page) off bytes, d ||| s.fillRepair page full, off % 64 / 8, out⟩
        let s1 := (s.fillErrs page full)
        let s1 := { s1 with ledg := { s1.ledg with
          slots := s.ledg.slots ++ [x], late := if late then s.ledg.late ++ [page] else s.ledg.late } }
        let s1 := if s.ledg.slots.isEmpty then s1.arm T.commitAge s.commitAgeNs else s1
        some s1.showPages

/-- The slot of a page moved behind every other one: its words are written last in the commit (R258, R260). -/
def State.slotLast (s : State) (page : Nat) : State :=
  { s with ledg := { s.ledg with
    slots := s.ledg.slots.filter (fun x => x.page ≠ page) ++ s.ledg.slots.filter (fun x => x.page = page) } }

/-! ## Two-copy records (R255 to R257) -/

/-- The page of record `r`. -/
def recPage (r : Nat) : Nat := 1280 + r / 2

/-- The 16 bytes of copy A or B of record `r` in the array. -/
def State.recCopy (s : State) (r : Nat) (b : Bool) : List Byte :=
  ((s.arrayPage (recPage r)).drop (32 * (r % 2) + (if b then 16 else 0))).take 16

/-- The first array word of a copy. -/
def recWord (r : Nat) (b : Bool) : Nat := 8 * recPage r + 4 * (r % 2) + (if b then 2 else 0)

/-- The value and generation of a copy, where its CRC matches and no word of it is poisoned (R255); records 7 to 15
read as invalid (Table 13.3). -/
def State.recValid (s : State) (r : Nat) (b : Bool) : Option (BitVec 64 × Nat) :=
  let l := s.recCopy r b
  if (7 ≤ r && r ≤ 15) || s.ledg.poison.at false (recWord r b) || s.ledg.poison.at false (recWord r b + 1) then none
  else if (crc32 (l.take 12)).toNat = bytesAt l 12 4
    then some (BitVec.ofNat 64 (bytesAt l 0 8), bytesAt l 8 4)
  else none

/-- The valid stored copy with the higher generation, copy A when equal (R255): value, generation, copy B. -/
def State.recStored (s : State) (r : Nat) : Option (BitVec 64 × Nat × Bool) :=
  match s.recValid r false, s.recValid r true with
  | some (va, ga), some (vb, gb) => if ga < gb then some (vb, gb, true) else some (va, ga, false)
  | some (va, ga), none => some (va, ga, false)
  | none, some (vb, gb) => some (vb, gb, true)
  | none, none => none

/-- What a read of record `r` returns: value, whether buffered, whether a copy was valid (R255, R256). -/
def State.recRead (s : State) (r : Nat) : BitVec 64 × Bool × Bool :=
  match s.ledg.recPend.find r with
  | some p => (p.value, true, true)
  | none =>
    match s.recStored r with
    | some (v, _, _) => (v, false, true)
    | none => (0#64, false, false)

/-- The generation and copy that the next update of record `r` writes: the older copy, one above the
higher valid generation; none when that generation is exhausted (R256). -/
def State.recNext (s : State) (r : Nat) : Option (Nat × Bool) :=
  match s.ledg.recPend.find r with
  | some p => some (p.gen, p.copyB)
  | none =>
    match s.recValid r false, s.recValid r true with
    | some (_, ga), some (_, gb) =>
      if max ga gb = 0xFFFFFFFF then none else some (max ga gb + 1, decide (gb ≤ ga))
    | some (_, ga), none => if ga = 0xFFFFFFFF then none else some (ga + 1, true)
    | none, some (_, gb) => if gb = 0xFFFFFFFF then none else some (gb + 1, false)
    | none, none => some (1, false)

/-- The 16 bytes of a copy. -/
def recBytes (v : BitVec 64) (gen : Nat) : List Byte :=
  let l := leBytes 8 v.toNat ++ leBytes 4 gen
  l ++ leBytes 4 (crc32 l).toNat

/-- The zero row of the pending record updates. -/
def RecPend.zero : RecPend := ⟨0, 0, false⟩

/-- A record update placed in the commit buffer; none when it must wait.  Its generation is found by a read of both
stored copies (R249, R256). -/
def State.placeRecord (s : State) (r : Nat) (v : BitVec 64) : Option State :=
  match s.recNext r with
  | none => some s
  | some (g, b) =>
    let read := (s.ledg.recPend.find r).isNone && (s.slotOf (recPage r)).isNone
    match s.placeBytes false false (recPage r) (32 * (r % 2) + (if b then 16 else 0)) (recBytes v g) with
    | none => none
    | some s =>
      let s := if read then (s.noteErr (recWord r b)).noteErr (recWord r b + 1) else s
      some { s with ledg := { s.ledg with
          recPend := s.ledg.recPend.put RecPend.zero r ⟨v, g, b⟩, recWear := max s.ledg.recWear ((g + 1) / 2) } }

/-! ## Persistent parameters (R23) -/

/-- The page of parameter `id`. -/
def paramPage (id : Nat) : Nat := 256 + id / 14

/-- The 64 bytes of the page of parameter `id` after it takes a stored value. -/
def State.paramBytes (s : State) (id : Nat) (v : Word) : List Byte :=
  let p := paramPage id
  let old := s.pageBytes p
  let base := if s.pageReadable p || (old.all (· = 0#8) && !s.pagePoisoned p) then old
              else List.replicate 64 0#8
  let k := id % 14
  let l := writeImage false base (4 * k) (leBytes 4 v.toNat)
  let l := writeImage false l 56 (leBytes 2 (bytesAt l 56 2 ||| 2 ^ k))
  (l.take 60) ++ leBytes 4 (crc32 (l.take 60)).toNat

/-- A persistent parameter placed in the commit buffer: its slot's word and the last word, or the whole
of a page that held nothing readable, whose words that read has met (R249). -/
def State.placeParam (s : State) (id : Nat) (v : Word) : Option State :=
  let p := paramPage id
  let l := s.paramBytes id v
  let s1 := if s.pageReadable p || (s.pageBytes p).all (· = 0#8)
    then (s.placeBytes false false p (4 * (id % 14)) ((l.drop (4 * (id % 14))).take 4)).bind
           (fun t => t.placeBytes false false p 56 (l.drop 56))
    else (s.placeBytes false false p 0 l).map (fun t => if (s.slotOf p).isSome then t else t.fillErrs p 0)
  s1

/-- Whether a write can take its slot now, and the state with it placed (R251). -/
def State.placeWait (s : State) (w : WaitWrite) : Option State :=
  match w.writer with
  | .window _ | .dma _ => s.placeBytes true w.late w.page w.off w.bytes
  | .param id v => s.placeParam id v
  | .record r v => s.placeRecord r v
  | .log | .snapshot | .repair | .lifeCycle => s.placeBytes false false w.page w.off w.bytes

/-! ## Starting a commit (R248, R252, R253) -/

/-- The words a commit writes, in its order: slots as taken, dirty words rising from the start word. -/
def commitWords (slots : List Slot) : List (Nat × BitVec 64) :=
  slots.flatMap (fun x => (List.range 8).filterMap (fun i =>
    let w := (x.start + i) % 8
    if x.dirty / 2 ^ w % 2 = 1
      then some (8 * x.page + w, BitVec.ofNat 64 (bytesAt x.image (8 * w) 8)) else none))

/-- The poisoned words of a page, as a mask. -/
def State.poisonMask (s : State) (page : Nat) : Nat :=
  (List.range 8).foldl (fun m i => if s.ledg.poison.at false (8 * page + i) then m ||| 2 ^ i else m) 0

/-- A slot of a factory page with the CRC the device keeps, and with the words that were poisoned written as the array
returned them (R248). -/
def State.withCrc (s : State) (x : Slot) : Slot :=
  if x.page < 128 then
    { x with
      image := x.image.take 60 ++ leBytes 4 (crc32 (x.image.take 60)).toNat, dirty := x.dirty ||| 0x80 ||| s.poisonMask x.page }
  else x

/-- The slot of page 0 with a new life-cycle word, and with what a slot of that page held (R335). -/
def State.lifeSlot (s : State) (lc : Nat) : Slot :=
  let d := match s.ledg.slots.find? (fun x => x.page = 0) with | some x => x.dirty | none => s.fillRepair 0 0
  s.withCrc ⟨0, writeImage false (s.pageBytes 0) 20 [BitVec.ofNat 8 lc, ~~~(BitVec.ofNat 8 lc)], d ||| 4, 2, false⟩

/-- The slot of the life-cycle word is filled from the array, unless page 0 is buffered (R249, R251). -/
def State.fillLife (s : State) : State := if s.ledg.slots.any (fun x => x.page = 0) then s else s.fillErrs 0 0

/-- A value plus an increment, held at all ones (R256). -/
def addSat64 (v : BitVec 64) (n : Nat) : BitVec 64 := BitVec.ofNat 64 (satNat (2 ^ 64 - 1) (v.toNat + n))

/-- The value of record `r` with the updates that wait for a slot. -/
def State.recLatest (s : State) (r : Nat) : BitVec 64 :=
  s.ledg.waiting.foldl (fun v w => match w.writer with
    | .record q x => if q = r then x else v
    | _ => v) (s.recRead r).1

/-- Device record `r` counting one more (Table 13.3); without a free slot the update waits in its queue (R251). -/
def State.bumpRecord (s : State) (r : Nat) : State :=
  let v := addSat64 (s.recLatest r) 1
  match s.placeRecord r v with
  | some t => t
  | none => { s with ledg := { s.ledg with waiting := s.ledg.waiting ++ [⟨.record r v, recPage r, 0, [], 19, false⟩] } }

/-- The device's own parts of a commit that is about to start: PARAM_COMMITS and USER_COMMITS, the
kept CRCs, and the life-cycle word that goes with the first key hash written to a blank device (R248, R62, R257). -/
def State.commitParts (s : State) : State :=
  let has := fun (lo hi : Nat) => s.ledg.slots.any (fun x => decide (lo ≤ x.page) && decide (x.page ≤ hi))
  let window := fun (lo hi : Nat) => s.ledg.slots.any (fun x => x.window && decide (lo ≤ x.page) && decide (x.page ≤ hi))
  let s1 := if has 256 548 then s.bumpRecord 5 else s
  let s1 := if window 549 1279 || window 128 255 then s1.bumpRecord 6 else s1
  let s1 := if window 3 6 && s.fld R.SYS_STATUS.LC = 0 && s.bit R.SYS_LC_STATUS.PEND = false then s1.fillLife else s1
  let move := window 3 6 && s.fld R.SYS_STATUS.LC = 0 && s.bit R.SYS_LC_STATUS.PEND = false
  let own := if move then [s.lifeSlot 1] else []
  let keep := if move then s1.ledg.slots.filter (fun x => x.page ≠ 0) else s1.ledg.slots
  let s1 := { s1 with ledg := { s1.ledg with slots := keep.map s1.withCrc ++ own } }
  if move then { s1 with ledg := { s1.ledg with keyMove := true } } else s1

/-- The state with a commit of `slots` running; the rest stays buffered. -/
def State.runCommit (s : State) (run rest : List Slot) : State :=
  let s := { s with ledg := { s.ledg with
    running := run, slots := rest, late := s.ledg.late.filter (fun p => rest.any (fun x => x.page = p)) } }
  let s := (s.setB R.LEDG_STATUS.BUSY true).setB R.LEDG_STATUS.HELD false
  let s := s.arm T.commitEnd (3200 + 150 * (commitWords run).length)
  (if rest.isEmpty then s.disarm T.commitAge else s).showPages

/-- A commit that the guard holds: HELD, and EV_065 once (R252). -/
def State.holdCommit (s : State) : State :=
  if s.bit R.LEDG_STATUS.HELD then s else (s.setB R.LEDG_STATUS.HELD true).event 65

/-- Whether an internal queue of R251 holds something that is not yet in the buffer. -/
def State.ledgQueued (s : State) : Bool :=
  !s.ledg.waiting.isEmpty || !s.ledg.logQueue.isEmpty || !s.seq.snapEntries.isEmpty || !s.seq.snapPending.isEmpty

/-- A commit is to begin (R252): it starts when the guard admits it and no commit runs; a request while one runs is
served when that one ends, one that the guard holds when that admits it, and one that finds the buffer empty and an
internal queue not, when that is placed. -/
def State.beginCommit (s : State) : State :=
  if s.ledg.running ≠ [] then { s with ledg := { s.ledg with again := true } }
  else if s.ledg.slots = [] then { s with ledg := { s.ledg with again := s.ledgQueued } }
  else if s.bit R.SYS_STATUS.VCC5_OK = false then { s with ledg := { s.ledg with again := true } }.holdCommit
  else
    let s := { s with ledg := { s.ledg with again := false } }.commitParts
    s.runCommit s.ledg.slots []

/-- The life-cycle word of an accepted transition goes into a commit of its own (R62); what else is buffered stays. -/
def State.commitLifeCycle (s : State) (lc : Nat) : State :=
  let s := { s with ledg := { s.ledg with lcRunning := some lc } }
  if s.ledg.running ≠ [] then s
  else if s.bit R.SYS_STATUS.VCC5_OK = false then s.holdCommit
  else
    let s := { s with ledg := { s.ledg with lcBusy := true } }.fillLife
    s.runCommit [s.lifeSlot lc] (s.ledg.slots.filter (fun x => x.page ≠ 0))

/-! ## Event log (R258) -/

/-- The page and offset of event-log record `i`. -/
def logPlace (i : Nat) : Nat × Nat := (2048 + i / 4, 16 * (i % 4))

/-- The 16 bytes of an event-log record with its PASS bit. -/
def logBytes (r : LogRec) (pass : Bool) : List Byte :=
  let l := leBytes 8 r.time.toNat ++ leBytes 2 r.source.toNat ++ [r.code, r.flags ||| (if pass then 0x80#8 else 0#8)] ++
    leBytes 2 r.data.toNat
  l ++ leBytes 2 (crc16 l).toNat

/-- The oldest queued event-log record placed in the commit buffer at the head, with LOG_WRAPS at index 0 (R258); none
when it must wait. -/
def State.placeLog (s : State) : Option State :=
  match s.ledg.logQueue with
  | [] => none
  | r :: rest =>
    if s.ledg.scanned = false then none
    else
      let i := s.fld R.LEDG_LOG_STAT.HEAD
      let pass := if i = 0 then (s.recRead 3).1.toNat % 2 = 0 else s.bit R.LEDG_LOG_STAT.PASS
      match s.placeBytes false false (logPlace i).1 (logPlace i).2 (logBytes r pass) with
      | none => none
      | some s =>
        (if i = 0 then (s.placeRecord 3 (addSat64 (s.recLatest 3) 1)).map (fun s => s.slotLast (recPage 3)) else some s).map (fun s =>
        let s := if i = 0 then s.setB R.LEDG_LOG_STAT.PASS pass else s
        let s := { s with ledg := { s.ledg with logQueue := rest } }
        (s.setF R.LEDG_LOG_STAT.QUEUE rest.length).setF R.LEDG_LOG_STAT.HEAD ((i + 1) % 8192))

/-- Up to `n` queued records placed. -/
def State.placeLogs : Nat → State → State
  | 0, s => s
  | n + 1, s => match s.placeLog with
    | some t => State.placeLogs n t
    | none => s

/-- Whether a wait for the drained Ledger asks for the commit of what is buffered: not of writes from outside alone that
came after it began (R333). -/
def State.drainWants (s : State) : Bool :=
  s.ledg.drain ≠ .none && s.ledg.slots.any (fun x => !s.ledg.late.contains x.page)

/-- A commit is requested by a full buffer (R252), by a request that found nothing placed, and by a wait for the drained
Ledger (R333). -/
def State.commitIfFull (s : State) : State :=
  if decide (64 ≤ s.ledgPages) || (s.ledg.running.isEmpty && (s.ledg.again || s.drainWants)) then s.beginCommit else s

/-- The queued event-log records go to the buffer as far as they can. -/
def State.drainLog (s : State) : State := (s.placeLogs 32).commitIfFull

/-- Whether event-log record `i` of the array or buffer is valid, and its PASS bit. -/
def State.logValid (s : State) (i : Nat) : Option Bool :=
  let l := ((s.pageBytes (logPlace i).1).drop (logPlace i).2).take 16
  let w := 8 * (logPlace i).1 + (logPlace i).2 / 8
  if (s.slotOf (logPlace i).1).isNone && (s.ledg.poison.at false w || s.ledg.poison.at false (w + 1)) then none
  else if (crc16 (l.take 14)).toNat = bytesAt l 14 2 then some ((l.getD 11 0).getLsbD 7) else none

/-- The head the start scan finds: the lowest index whose record is invalid or of another pass than
record 0, and 0 when there is none (R258). -/
def State.logHead (s : State) : Nat :=
  match s.logValid 0 with
  | none => 0
  | some p => ((List.range 8192).find? (fun i => s.logValid i != some p)).getD 0

end Sys2Proof.Machine
end

