-- ==== Sys2Proof/Machine/Raise.lean ====
section
/-! DEFINITION.  The event-log queue and the fault collector's raise (spec/11, spec/13). -/

namespace Sys2Proof.Machine

/-! ## Event-log queue (R258, R259) -/

/-- The state with an event-log record queued, or dropped and counted when 32 are queued (R251, R259). -/
def State.waitLog (s : State) (source code flags data : Nat) : State :=
  if s.ledg.logQueue.length < 32 then
    let fl := flags ||| (if s.sys.phase = .safe then 0x20 else 0) |||
      (if s.ledg.logLost then 0x10 else 0)
    let r : LogRec := ⟨s.now, BitVec.ofNat 16 source, BitVec.ofNat 8 code, BitVec.ofNat 8 fl, BitVec.ofNat 16 data⟩
    let s := { s with ledg := { s.ledg with logQueue := s.ledg.logQueue ++ [r], logLost := false } }
    s.setF R.LEDG_LOG_STAT.QUEUE s.ledg.logQueue.length
  else
    let s := s.count B.ledg R.LEDG_LOG_STAT.DROP R.LEDG_LOG_STAT.SAT
    { s with ledg := { s.ledg with logLost := true } }

/-- An event-log record goes to the queue, and from there to the buffer as far as it can (R251, R258). -/
def State.enterLog (s : State) (source code flags data : Nat) : State := (s.waitLog source code flags data).drainLog

/-! ## Raise of a fault source (R211, R213, R216, R223, R224) -/

/-- FSTAT: the 64-bit word of FLT_STAT_HI and FLT_STAT_LO. -/
def State.fstat (s : State) : BitVec 64 := s.pair R.FLT_STAT_LO.reg R.FLT_STAT_HI.reg

/-- The key of the half of a 64-bit pair that holds bit `i`. -/
def pairKey (lo hi : Nat) : Nat → Nat := fun i => if i = 0 then lo else hi

/-- The class of source `n`: 0 corrected, 1 uncorrected, 2 fatal (R212). -/
def State.faultClass (s : State) (n : Nat) : Nat := s.fld (R.FLT_CFG.CLASS n)

/-- The grace time of source `n` in nanoseconds (R213). -/
def State.graceNs (s : State) (n : Nat) : Nat :=
  s.fld (R.FLT_CFG.M n) * (if s.bit (R.FLT_CFG.UNIT n) then 1000000 else 1000)

/-- Whether grace timers and escalations act: from t3 and not under the factory default (R211). -/
def State.escalates (s : State) : Bool := s.sys.stage = .released && !s.acrd.defaults

/-- The data word of a collector's sillage record: class, action, group and loop cause (R223). -/
def State.faultData (s : State) (n action : Nat) (loopCause : Nat) : Nat :=
  s.faultClass n * 2 ^ 30 + action * 2 ^ 28 +
  (if action = 1 then s.fld (R.FLT_CFG.GRP n) * 2 ^ 24 else 0) + loopCause

/-- The DATA of a fault's event-log record (Table 13.4): class, action, group, and the raise count of
a corrected source or the cause of a loop source. -/
def State.faultLogData (s : State) (n action low : Nat) : Nat :=
  s.faultClass n * 2 ^ 14 + action * 2 ^ 12 +
  (if action = 1 then s.fld (R.FLT_CFG.GRP n) * 2 ^ 8 else 0) + satNat 255 low

/-- The event-log record of a raise (R224): at once for an uncorrected or fatal source; for a
corrected source at most one each LOGINT seconds, carrying the raises since the one before. -/
def State.logRaise (s : State) (n loopCause : Nat) (pd : Bool) : State :=
  let fl := if pd then 0x40 else 0
  if s.faultClass n ≠ 0 then
    s.enterLog (0x0700 + n) 1 fl (s.faultLogData n 0 loopCause)
  else
    let c := s.flt.logCount.at 0 n + 1
    let free := match s.deadline (T.logInt n) with
      | none => true
      | some d => decide (d ≤ s.ns)
    if free then
      let s := { s with flt := { s.flt with logCount := s.flt.logCount.put 0 n 0 } }
      let s := s.arm (T.logInt n) (max 1 (s.fld R.FLT_GCFG.LOGINT) * 1000000000)
      s.enterLog (0x0700 + n) 1 fl (s.faultLogData n 0 c)
    else { s with flt := { s.flt with logCount := s.flt.logCount.put 0 n c } }

/-- The first fault after FSTAT was all clear (R224). -/
def State.noteFirst (s : State) (n : Nat) : State :=
  if s.flt.firstArmed then
    let s := { s with flt := { s.flt with firstArmed := false } }
    let s := (s.setB R.FLT_FIRST.VALID true).setF R.FLT_FIRST.SRC n
    s.setPair R.FLT_FIRST_TS_LO.reg R.FLT_FIRST_TS_HI.reg s.now
  else s

/-- Whether a raise of source `n` with loop cause `lc` escalates without grace (R216). -/
def State.raiseImmediate (s : State) (n loopCause : Nat) : Bool :=
  n = 36 || (n < 24 && (loopCause = 1 || loopCause = 2)) || s.bit (R.FLT_CFG.IMM n)

/-- The grace timer, or the immediate escalation, that a raise starts (R211, R213, R216). -/
def State.startGrace (s : State) (n loopCause : Nat) : State :=
  if s.raiseImmediate n loopCause then
    if (s.escalates || (n = 36 && s.sys.stage = .released)) && !s.flt.immediate.contains n
    then { s with flt := { s.flt with immediate := s.flt.immediate ++ [n] } } else s
  else if s.escalates && !s.runs (T.grace n) then
    let s := { s with flt := { s.flt with expired := s.flt.expired &&& ~~~(1#64 <<< n) } }
    let s := s.arm (T.grace n) (s.graceNs n)
    s.setBitAt (pairKey R.FLT_PEND_LO.reg R.FLT_PEND_HI.reg) n true
  else s

/-- LOOP_STATUS.CAUSE for a loop source, 0 otherwise (R223). -/
def State.loopCauseOf (s : State) (n : Nat) : Nat := if n < 24 then s.fld (R.LOOP_STATUS.CAUSE n) else 0

/-- A raise of source FS_n through the collector, with the cause of this raise of a loop source, which decides whether
it is immediate, the sillage code (0x0001 raise, 0x0005 injected) and the during-power-down flag (R211, R213, R223,
R224); the records hold LOOP_STATUS.CAUSE.  Before t5 of a start the collector does not run. -/
def State.collect (s : State) (n loopCause code : Nat) (pd : Bool) : State :=
  if s.flt.collecting = false then s
  else
    let s := s.noteFirst n
    let s := s.setBitAt (pairKey R.FLT_STAT_LO.reg R.FLT_STAT_HI.reg) n true
    let c := s.fld (R.FLT_CNT.COUNT n)
    let s := if c + 1 < 0xFFFF then s.setF (R.FLT_CNT.COUNT n) (c + 1)
             else if c + 1 = 0xFFFF then ((s.setF (R.FLT_CNT.COUNT n) 0xFFFF).setB (R.FLT_CNT.SAT n) true).saturated B.flt
             else s
    let s := s.traceRec (0x0700 + n) code (s.faultData n 0 (s.loopCauseOf n))
    let s := s.logRaise n (s.loopCauseOf n) pd
    let s := if s.inDrydown && s.faultClass n = 2
      then { s with bist := { s.bist with fatals := s.bist.fatals ++ [n] } } else s
    if s.faultClass n = 0 then (if n = 36 then s.startGrace n loopCause else s)
    else (s.startGrace n loopCause).event 51

/-- The raises of FS_50 that reads of the Ledger owe, and those that their own records bring (R249). -/
def State.payReads : Nat → State → State
  | 0, s => s
  | k + 1, s =>
    if s.ledg.owed = 0 then s
    else State.payReads k ({ s with ledg := { s.ledg with owed := s.ledg.owed - 1 } }.collect 50 0 1 s.powerDown)

/-- What reads of the Ledger owe is raised. -/
def State.pay (s : State) : State := State.payReads 64 s

/-- A raise of source FS_n, and of FS_50 where the placing of its record reads a poisoned word. -/
def State.raiseWith (s : State) (n loopCause code : Nat) (pd : Bool) : State := (s.collect n loopCause code pd).pay

/-- An event-log record of a block (R251, R258). -/
def State.queueLog (s : State) (source code flags data : Nat) : State := (s.enterLog source code flags data).pay

/-- A raise of source FS_n by its block. -/
def State.raise (s : State) (n : Nat) : State := s.raiseWith n 0 1 s.powerDown

end Sys2Proof.Machine
end

