-- ==== Sys2Proof/Machine/Ledger.lean ====
section
/-! DEFINITION.  The Ledger (spec/13) beyond its buffer: wear bounds, writes and reads with what they raise, and the end
and the cut of a commit. -/

namespace Sys2Proof.Machine

/-! ## Wear (R261) -/

/-- The five wear bounds of Table 13.6, in its order. -/
def State.wearBounds (s : State) : List Nat :=
  [s.ledg.recWear, (s.recRead 3).1.toNat, ((s.recRead 4).1.toNat + 1) / 2,
   (s.recRead 5).1.toNat, (s.recRead 6).1.toNat]

/-- A bound in per-mille of the rated 10^7 writes. -/
def wearMille (b : Nat) : Nat := satNat 1023 (b * 1000 / 10000000)

/-- The crossing of WWARN by area `a`: LEDG_STATUS.WEAR, a sillage and an event-log record, once. -/
def State.wearArea (s : State) (a : Nat) : State :=
  let m := wearMille (s.wearBounds.getD a 0)
  let warn := min 100 (max 1 (s.fld R.LEDG_CFG.WWARN)) * 10
  if warn ≤ m && !(s.ledg.wearSeen / 2 ^ a % 2 = 1) then
    let s := { s with ledg := { s.ledg with wearSeen := s.ledg.wearSeen + 2 ^ a } }
    let s := (s.setB R.LEDG_STATUS.WEAR true).traceRec 0x0900 5 (m * 2 ^ 16 + a)
    s.queueLog 0x0900 5 (if s.powerDown then 0x40 else 0) a
  else s

/-- LEDG_WEAR_0 and LEDG_WEAR_1 from the present bounds, and the warnings they give. -/
def State.wearUpdate (s : State) : State :=
  let b := fun a => wearMille (s.wearBounds.getD a 0)
  let s := ((s.setF R.LEDG_WEAR_0.REC (b 0)).setF R.LEDG_WEAR_0.LOG (b 1)).setF R.LEDG_WEAR_0.SNAP (b 2)
  let s := (s.setF R.LEDG_WEAR_1.PARAM (b 3)).setF R.LEDG_WEAR_1.USER (b 4)
  (List.range 5).foldl State.wearArea s

/-- The highest ceil(generation / 2) over all valid copies, found by the scan from t3. -/
def State.scanRecWear (s : State) : Nat :=
  (List.range 512).foldl (fun m r =>
    let g := fun b => match s.recValid r b with | some (_, g) => (g + 1) / 2 | none => 0
    max m (max (g false) (g true))) 0

/-- The start scan reads the words `lo` to `hi` of the array: what it meets there is counted, raised and rewritten (R249). -/
def scanned (s : State) (lo hi : Nat) : List Nat :=
  ((((s.ledg.poison ++ s.ledg.weak).map (fun e => e.1)).filter (fun w => decide (lo ≤ w) && decide (w < hi))).eraseDups).filter
    (fun w => (s.slotOf (w / 8)).isNone)

/-! ## Writes (R247, R251) -/

/-- What becomes of a Ledger write. -/
inductive LedgResult where
  | placed
  | waits
  | refused
  | notPermitted
  deriving DecidableEq, Repr

/-- Whether Tables 13.1 and 13.2 permit a window write to `page` in life-cycle state `lc`, of the host or of another
requester: key slots are provisioned and revoked by the host alone (R32, R247). -/
def windowPermitted (host : Bool) (lc page : Nat) : Bool :=
  if page = 0 then false
  else if page = 1 then host && (lc = 1 || lc = 2)
  else if page = 2 then lc = 1 || lc = 2
  else if page ≤ 6 then host && (lc = 0 || lc = 1)
  else if page ≤ 127 then lc = 1
  else if page ≤ 255 then lc = 1 || lc = 2
  else if page ≤ 548 then false
  else if page ≤ 1279 then 1 ≤ lc && lc ≤ 4
  else false

/-- Whether a write is one of the device itself (spec/13). -/
def Writer.internal : Writer → Bool
  | .window _ => false
  | .dma _ => false
  | _ => true

/-- Whether a write may not pass another one that waits: of its page, or of its requester's queue (R251). -/
def WaitWrite.behind (w x : WaitWrite) : Bool :=
  decide (x.page = w.page) || (w.writer.internal && x.writer.internal && decide (x.who = w.who))

/-- A write reaches the Ledger: placed, waiting for a commit to end, or refused when the guard holds
the commit it waits for (R251). -/
def State.ledgSubmit (s : State) (w : WaitWrite) : LedgResult × State :=
  match (if s.ledg.waiting.any w.behind then none else s.placeWait w) with
  | some t => (.placed, t.commitIfFull.pay)
  | none =>
    if !w.writer.internal && 64 ≤ s.ledgPages && s.bit R.LEDG_STATUS.HELD then
      (.refused, s.count B.ledg R.LEDG_CNT.REFUSED R.LEDG_CNT.SAT_R)
    else (.waits, { s with ledg := { s.ledg with waiting := s.ledg.waiting ++ [w] } })

/-- The code of the requester of a write; 19 is the device itself. -/
def Writer.who : Writer → Nat
  | .window r => reqCode r
  | _ => 19

/-- Whether a write comes from a host port. -/
def Writer.host : Writer → Bool
  | .window .hostBus => true
  | .window .quad => true
  | _ => false

/-- A window write of `bytes` at byte `off` of `page` by a requester, under Tables 13.1 and 13.2. -/
def State.windowWrite (s : State) (r : Writer) (page off : Nat) (bytes : List Byte) : LedgResult × State :=
  if windowPermitted r.host (s.fld R.SYS_STATUS.LC) page
  then s.ledgSubmit ⟨r, page, off, bytes, r.who, decide (s.ledg.drain ≠ .none)⟩
  else (.notPermitted, s)

/-- A record update of requester `who` (R251, R256). -/
def State.recordOf (s : State) (who r : Nat) (v : BitVec 64) : State :=
  (s.ledgSubmit ⟨.record r v, recPage r, 0, [], who, false⟩).2

/-- The update of a device record by the device itself (R257). -/
def State.deviceRecord (s : State) (r : Nat) (v : BitVec 64) : State := s.recordOf 19 r v

/-- Whether an update of record `r` waits for its slot. -/
def State.recWaits (s : State) (r : Nat) : Bool :=
  s.ledg.waiting.any (fun w => match w.writer with | .record q _ => q == r | _ => false)

/-- Copy `b` of record `r` in the buffer is as stored again. -/
def State.cleanRecord (s : State) (r : Nat) (b : Bool) : State :=
  let w := recWord r b
  let back := fun (x : Slot) => if x.page = recPage r
    then { x with
      image := writeImage false x.image (8 * (w % 8)) (wordBytes (s.arrayWord w) ++ wordBytes (s.arrayWord (w + 1)))
      dirty := x.dirty - (x.dirty &&& (3 * 2 ^ (w % 8))) }
    else x
  State.showPages { s with ledg := { s.ledg with
    slots := (s.ledg.slots.map back).filter (fun x => x.dirty ≠ 0), recPend := s.ledg.recPend.filter (fun e => e.1 ≠ r) } }

/-- An update of record `r` that no commit has begun to write is taken back; `prev` is a value not yet committed that it
replaced. -/
def State.dropRecord (s : State) (r : Nat) (prev : Option (BitVec 64)) : State :=
  let s := { s with ledg := { s.ledg with waiting := s.ledg.waiting.filter (fun w =>
    match w.writer with | .record q _ => q != r | _ => true) } }
  let s := (match s.ledg.recPend.find r with
    | some p => if s.ledg.running.any (fun x => x.page = recPage r) then s else s.cleanRecord r p.copyB
    | none => s)
  match prev with
  | some v => s.deviceRecord r v
  | none => s

/-- What a read of array word `w` leaves (R249): its counts, the raise it owes, and the rewrite of a corrected word. -/
def State.readErr (s : State) (w : Nat) : State :=
  let weak := !s.ledg.poison.at false w && s.ledg.weak.at false w
  let s := s.noteErr w
  (if weak && s.bit R.LEDG_CFG.REPAIR
    then (s.ledgSubmit ⟨.repair, w / 8, 8 * (w % 8), wordBytes (s.ledg.array.at 0#64 w), 19, false⟩).2 else s).pay

/-- A read of the Ledger word `w` (R249): the value, whether buffered, whether poisoned; a weak word is
corrected, counted and rewritten, a poisoned one counted and raised as FS_50. -/
def State.ledgReadWord (s : State) (w : Nat) : (BitVec 64 × Bool × Bool) × State :=
  match s.slotOf (w / 8) with
  | some x => ((BitVec.ofNat 64 (bytesAt x.image (8 * (w % 8)) 8), true, false), s)
  | none =>
    if s.ledg.poison.at false w then ((0xFFFFFFFFFFFFFFFF#64, false, true), s.readErr w)
    else ((s.ledg.array.at 0#64 w, false, false), s.readErr w)

/-- A window read of `n` bytes from byte address `a` of the window by requester copy `q`: the bytes, and
LEDG_RSTAT.POISON and BUF of that requester. -/
def State.ledgRead (s : State) (q a n : Nat) : List Byte × State :=
  let ws := (List.range (if n = 0 then 0 else (a + n - 1) / 8 - a / 8 + 1)).map (fun i => a / 8 + i)
  let r := ws.foldl (fun (acc : List Byte × Bool × Bool × State) w =>
    let x := acc.2.2.2.ledgReadWord w
    (acc.1 ++ wordBytes x.1.1, acc.2.1 || x.1.2.1, acc.2.2.1 || x.1.2.2, x.2)) ([], false, false, s)
  (((r.1.drop (a % 8)).take n),
   (r.2.2.2.setB (R.LEDG_RSTAT.BUF q) r.2.1).setB (R.LEDG_RSTAT.POISON q) r.2.2.1)

/-- A commit is requested (R252). -/
def State.requestCommit (s : State) : State := s.beginCommit.pay

/-! ## Ending and cutting a commit (R252 to R254) -/

/-- The array after the words of a commit are written. -/
def State.writeWords (s : State) (ws : List (Nat × BitVec 64)) : State :=
  ws.foldl (fun s e => { s with ledg := { s.ledg with
    array := s.ledg.array.put 0#64 e.1 e.2, poison := s.ledg.poison.put false e.1 false,
    weak := s.ledg.weak.put false e.1 false } }) s

/-- The pending record updates of the pages of a commit are now stored. -/
def State.settleRecords (s : State) (slots : List Slot) : State :=
  { s with ledg := { s.ledg with
      recPend := s.ledg.recPend.filter (fun e => !slots.any (fun x => x.page = recPage e.1)) } }

/-- The end of the running commit: its words are stored, its slots freed, and EV_064 raised (R252). -/
def State.endCommit (s : State) : State :=
  let run := s.ledg.running
  let s := (s.writeWords (commitWords run)).settleRecords run
  let s := { s with ledg := { s.ledg with running := [] } }
  let s := (s.setB R.LEDG_STATUS.BUSY false).showPages
  let s := s.disarm T.commitEnd
  let s := s.count B.ledg R.LEDG_CNT.COMMITS R.LEDG_CNT.SAT_C
  let s := if s.ledg.keyMove && run.any (fun x => x.page = 0) then
      ({ s with ledg := { s.ledg with keyMove := false } }.setB R.SYS_LC_STATUS.PEND true).setF R.SYS_LC_STATUS.NEXT 1
    else s
  let s := if s.ledg.lcBusy then { s with ledg := { s.ledg with lcRunning := none, lcBusy := false } } else s
  (s.event 64).wearUpdate

/-- What the end of power does to the Ledger: the running commit completes or is cut, and everything
buffered is lost (R51, R253, R254). -/
def State.cutLedger (s : State) (c : Cut) : State :=
  let ws := commitWords s.ledg.running
  let s : State := (match c with
    | .completes => s.writeWords ws
    | .cut k f =>
      let t := s.writeWords (ws.take k)
      match ws[k]? with
      | none => t
      | some e =>
        let t := { t with ledg := { t.ledg with cutAt := some (e.1 / 8, e.1 % 8) } }
        match f with
        | .old => t
        | .new => t.writeWords [e]
        | .poisoned => { t with ledg := { t.ledg with poison := t.ledg.poison.put false e.1 true } })
  { s with ledg := { s.ledg with
      slots := [], running := [], waiting := [], logQueue := [], logLost := false,
      scanned := false, recPend := [], drain := .none, again := false, late := [], owed := 0, wearSeen := 0, lcRunning := none,
      lcBusy := false, keyMove := false } }

/-- A wait for the drained Ledger begins: what is buffered, waiting or queued now is to be committed (R333). -/
def State.beginDrain (s : State) (d : Drain) : State :=
  { s with ledg := { s.ledg with
    drain := d, late := [], waiting := s.ledg.waiting.map (fun w => { w with late := false }) } }

/-- A wait for the drained Ledger is abandoned. -/
def State.endDrain (s : State) : State := { s with ledg := { s.ledg with drain := .none, late := [] } }

/-- Whether the Ledger is drained (R333): writes from outside that came after the wait began do not count. -/
def State.ledgDrained (s : State) : Bool :=
  s.ledg.running.isEmpty && s.ledg.slots.all (fun x => s.ledg.late.contains x.page) &&
  s.ledg.waiting.all (fun w => w.late && !w.writer.internal) && s.ledg.logQueue.isEmpty &&
  s.seq.snapEntries.isEmpty && s.seq.snapPending.isEmpty && s.ledg.lcRunning.isNone

end Sys2Proof.Machine
end

