-- ==== Sys2Proof/Machine/Access.lean ====
section
/-! DEFINITION.  The internal address map, who may reach what over it, and the host permission table (R20, R29,
R32, R247, R277 to R279, Table 12.1). -/

namespace Sys2Proof.Machine

/-! ## The map (Table 12.1) -/

/-- Where an address of the common map lies (Table 12.1): the byte offset in its region. -/
inductive Place where
  | sram (o : Nat)
  | trace (o : Nat)
  | queue (o : Nat)
  | block (a : Nat)
  | ledger (o : Nat)
  | bank (b : Bool) (o : Nat)
  deriving DecidableEq, Repr

/-- The region of an address outside the engines' own memories. -/
def placeOf (a : Nat) : Option Place :=
  if 0x20000000 ≤ a && a < 0x20200000 then some (.sram (a - 0x20000000))
  else if 0x20200000 ≤ a && a < 0x20300000 then some (.trace (a - 0x20200000))
  else if 0x20300000 ≤ a && a < 0x20310000 then some (.queue (a - 0x20300000))
  else if 0x40000000 ≤ a && a < 0x400E0000 then some (.block a)
  else if 0x60000000 ≤ a && a < 0x60040000 then some (.ledger (a - 0x60000000))
  else if 0x70000000 ≤ a && a < 0x70480000 then some (.bank false (a - 0x70000000))
  else if 0x70800000 ≤ a && a < 0x70C80000 then some (.bank true (a - 0x70800000))
  else none

/-- Whether `n` bytes from `a` lie within one region. -/
def placeFits (a n : Nat) : Bool :=
  match placeOf a, placeOf (a + (n - 1)) with
  | some (.sram _), some (.sram _) => true
  | some (.trace _), some (.trace _) => true
  | some (.queue _), some (.queue _) => true
  | some (.block _), some (.block _) => true
  | some (.ledger _), some (.ledger _) => true
  | some (.bank b _), some (.bank c _) => b == c
  | _, _ => false

/-- The bytes that a window access of `n` bytes at `a` covers, as their first and number: a Ledger write that runs past
its page's end goes on at the page's start (R250). -/
def winSpan (write : Bool) (a n : Nat) : Nat × Nat :=
  match placeOf a with
  | some (.ledger _) => if write && decide (64 < a % 64 + n) then (a - a % 64, 64) else (a, n)
  | _ => (a, n)

/-! ## Banks (R29, R30, R32) -/

/-- Whether bank `b` is inactive: the other of the active one, or either under the factory default (R29). -/
def State.inactive (s : State) (b : Bool) : Bool :=
  s.acrd.defaults || (match s.acrd.active with | some a => a != b | none => false)

/-- Whether a requester may write to bank `b` now (R29, R30, Table 1.11): not an engine; the link in no BLANK
device; no scheduled switch pending. -/
def State.bankOpen (s : State) (r : Req) (b : Bool) : Bool :=
  s.inactive b && !s.bit R.ACRD_STATUS.SWITCH_PEND && !s.acrd.switching &&
  (match r with
   | .engine _ => false
   | .link => s.fld R.SYS_STATUS.LC ≠ 0
   | _ => true)

/-- A write of bytes to a bank: STAGED_OK and VDONE clear for the judged bank, a running verification stops (R29). -/
def State.bankWrite (s : State) (b : Bool) (o : Nat) (bytes : List Byte) : State :=
  let put := fun (c : Cells Byte) => (bytes.zipIdx.foldl (fun c (x, i) => c.put 0#8 (o + i) x) c)
  let s := if b then { s with acrd := { s.acrd with bankB := put s.acrd.bankB } }
    else { s with acrd := { s.acrd with bankA := put s.acrd.bankA } }
  let s := if s.acrd.verifying = some b then { s with acrd := { s.acrd with verifying := none } }.disarm T.verify else s
  let s := if s.acrd.stagedBank = some b || s.acrd.defaults = false then s.setB R.ACRD_STATUS.STAGED_OK false else s
  if s.acrd.stagedBank = some b then s.setB R.ACRD_STATUS.VDONE false else s

/-- `n` bytes of a bank from offset `o`. -/
def State.bankRead (s : State) (b : Bool) (o n : Nat) : List Byte :=
  (List.range n).map (fun i => (if b then s.acrd.bankB else s.acrd.bankA).at 0#8 (o + i))

/-! ## Host permissions (R277 to R279) -/

/-- Whether the fixed table stands in for HOST_PERMISSIONS (R279). -/
def State.fixedTable (s : State) : Bool := s.sys.stage ≠ .released || s.acrd.defaults

/-- The commands whose reads the fixed table permits, with WIN_ADDR and WIN_DATA (R279). -/
def fixedReads : List Nat := [0x19, 0x20, 0x98, 0x99, 0x9A, 0x9B, 0x9E, 0xDA, 0xE2, 0xE3, 0xD0, 0xD1]

/-- The HOST_PERMISSIONS section in force. -/
def State.hostPerm (s : State) : List Byte :=
  match s.acrd.image with
  | some im => im.hostPerm
  | none => []

/-- Whether a command code is permitted to the host bus (R278, R279). -/
def State.codeMay (s : State) (code : Nat) (write : Bool) : Bool :=
  if s.fixedTable then (if write then code = 0xD0 || code = 0xD1 else fixedReads.contains code)
  else ((s.hostPerm.getD code 0#8).toNat).testBit (if write then 1 else 0)

/-- The addresses that the fixed table opens to window writes (R279). -/
def State.fixedWrite (s : State) (a n : Nat) : Bool :=
  match placeOf a with
  | some (.bank b _) => s.inactive b
  | some (.block _) => (a = R.ACRD_CTRL.reg && n = 4) || (a = R.SYS_LC_CMD.reg && n = 4) ||
      (decide (R.SYS_LC_REQ.reg 0 ≤ a) && decide (a + n ≤ R.SYS_LC_REQ.reg 0 + 160))
  | some (.ledger o) => decide (o / 64 < 256) && windowPermitted true (s.fld R.SYS_STATUS.LC) (o / 64)
  | _ => false

/-- The lowest-numbered range of the table that contains `n` bytes from `a`: its FLAGS (Table 14.5). -/
def rangeFlags (perm : List Byte) (a n : Nat) : Nat :=
  let cnt := bytesLE ((perm.drop 0x100).take 2)
  let hit := (List.range cnt).find? (fun k =>
    let e := (perm.drop (0x110 + 16 * k)).take 16
    decide (bytesLE (e.take 4) ≤ a) && decide (a + (n - 1) ≤ bytesLE ((e.drop 4).take 4)))
  match hit with
  | some k => bytesLE ((perm.drop (0x118 + 16 * k)).take 4)
  | none => 0

/-- Whether a host port may reach `n` bytes from `a` in a direction (R278, R279); a write to the active bank
never. -/
def State.rangeMay (s : State) (quad write : Bool) (a n : Nat) : Bool :=
  let ok := if s.fixedTable then !write || s.fixedWrite a n
    else (rangeFlags s.hostPerm a n).testBit ((if quad then 2 else 0) + (if write then 1 else 0))
  match placeOf a with
  | some (.bank b _) => ok && (!write || s.inactive b)
  | _ => ok

/-- The top-note domain is up: from t5 of Table 3.3, and not in park. -/
def State.topOn (s : State) : Bool := 3 ≤ s.sys.stage.ord

/-- The device answers on the two-wire bus: its top-note clocks run and PLL_E is not out of lock (R54, R269). -/
def State.busOn (s : State) : Bool := s.topOn && s.sys.pllE ≠ .out

/-- The quad port is serviced: from t3, not while PLL_E is out of lock (R54, R286, Table 2.7). -/
def State.quadOn (s : State) : Bool := s.sys.stage = .released && s.sys.pllE ≠ .out

/-- A write took effect at its STOP: its time, and its record while HOST_CFG.TRC is 1 (R264, Table 15.7). -/
def State.applied (s : State) (code : Nat) (data : List Byte) : State :=
  let s := s.setPair R.HOST_LAST_TS_LO.reg R.HOST_LAST_TS_HI.reg s.now
  if s.bit R.HOST_CFG.TRC
  then s.traceRec 0x0A00 1 (code * 65536 + (data.getD 0 0#8).toNat * 256 + (data.getD 1 0#8).toNat) else s

/-- A command that took effect; over the two-wire bus it was a write of command `code`, whose first two data bytes are
the low half of `d` (R264, log entry 155). -/
def State.hostWrite (s : State) (r : Req) (code d : Nat) : State :=
  match r with
  | .hostBus => s.applied code [BitVec.ofNat 8 d, BitVec.ofNat 8 (d / 256)]
  | _ => s

/-! ## Transactions of the two-wire bus and frames of the quad port (R264 to R268, R286) -/

/-- STATUS_CML bits set. -/
def State.cml (s : State) (bits : Nat) : State := s.setF R.HOST_STATUS.CML (s.fld R.HOST_STATUS.CML ||| bits)

/-- A protocol failure (R264, R265, R267). -/
def State.protoFail (s : State) : State := (s.count B.host R.HOST_CNT.PROTO R.HOST_CNT.SAT_R).raise 57

/-- A PEC failure (R266). -/
def State.pecFail (s : State) : State := ((s.count B.host R.HOST_CNT.PEC R.HOST_CNT.SAT_P).cml 0x20).raise 56

/-- The command-code byte is not acknowledged (R268): the STATUS_CML bit, and BUSY where its resource is busy. -/
def State.refuse (s : State) (bits : Nat) (busy : Bool) : State :=
  { s.cml bits with host := { s.host with refused := true, reply := [], busy := s.host.busy || busy } }

/-- The command codes whose writes are block writes: their byte count goes before the data (Table 14.6). -/
def blockWrites : List Nat := [0xD0, 0xD1, 0xDB, 0xDD, 0xE0, 0xE7]

/-- Whether the PEC that ends a write is wrong (R266): its CRC-8 covers the address, the code, a block's count and the
data. -/
def State.pecWrong (s : State) (m : BusMsg) (code : Nat) : Bool :=
  match m.pec with
  | .absent => false
  | .good => false
  | .bad => true
  | .byte b => b ≠ crc8 ([BitVec.ofNat 8 (2 * s.sys.address.getD 0), BitVec.ofNat 8 code] ++
      (if blockWrites.contains code then [BitVec.ofNat 8 m.data.length] else []) ++ m.data)

/-- A transaction of command `code` reaches the device: refused where it is not permitted (R278, R279), else its
code byte is acknowledged and `go` follows. -/
def State.busCmd (s : State) (m : BusMsg) (code : Nat) (go : State → State) : State :=
  if !s.busOn then s
  else if !s.codeMay code (!m.read && code ≠ 0x03) then s.refuse 0x80 false
  else go { s with host := { s.host with refused := false, reply := [] } }

/-- The protocol and PEC rules of a write of `lo` to `hi` data bytes (R264, R266): `apply` then answers the new
state, or none for invalid data (R280). -/
def State.busWrite (s : State) (m : BusMsg) (code lo hi : Nat) (apply : State → List Byte → Option State) : State :=
  if m.read || !m.complete || m.data.length < lo || hi < m.data.length then s.protoFail
  else if s.pecWrong m code || (m.pec = .absent && s.bit R.HOST_CFG.PECREQ) then s.pecFail
  else match apply s m.data with
    | some t => t.applied code m.data
    | none => s.cml 0x40

/-- A frame of operation `op` is answered with a status byte and data: QP_STATUS shows it, and the device sends the
status, and after 0xA5 the data of a read frame with their CRC-16. -/
def State.quadAnswer (s : State) (op status : Nat) (data : Option (List Byte)) : State :=
  let s := (s.setF R.QP_STATUS.LAST status).setF R.QP_STATUS.OP op
  let st : Byte := BitVec.ofNat 8 status
  let out := match data with
    | some l => if status = 0xA5 then st :: l ++ leBytes 2 (crc16 (st :: l)).toNat else [st]
    | none => [st]
  let s := { s with host := { s.host with quadData := out } }
  if status = 0xA5 then s
  else if status = 0x01 then s.count B.host R.QP_CNT.CRC R.QP_CNT.SAT_C
  else s.count B.host R.QP_CNT.REF R.QP_CNT.SAT_R

/-! ## Requesters of a register's command (R278) -/

/-- Whether a requester may give the command of the register at `a`, by a window access or, on the host bus, by
the command code that the device gives for it (R278): an engine by its MPU, and the link by R300, which are judged
at the access. -/
def State.may (s : State) (r : Req) (a : Nat) (write : Bool) (code : Option Nat) (n : Nat := 4) : Bool :=
  match r with
  | .engine _ => true
  | .link => true
  | .quad => s.quadOn && s.rangeMay true write a n
  | .hostBus => s.busOn && ((s.codeMay 0xD1 write && s.rangeMay false write a n) ||
      (match code with | some c => s.codeMay c write | none => false))

/-- What a host port answers to an access that is not permitted (R268, R278, R286): the two-wire bus does not
acknowledge its command-code byte, the quad port answers status 0x03. -/
def State.denied (s : State) (r : Req) (write : Bool) : State :=
  match r with
  | .hostBus => if s.busOn then s.refuse 0x80 false else s
  | .quad => if s.quadOn then s.quadAnswer (if write then 0x02 else 0x01) 0x03 none else s
  | _ => s

/-- A command that the two-wire bus also gives by a code of its own (Table 14.6): `bus` is what its message does there,
`other` the command by any other way. -/
def sentAs (r : Req) (m : Option BusMsg) (bus : BusMsg → State) (other : State) : State :=
  match r, m with
  | .hostBus, some b => bus b
  | _, _ => other

/-- The message of such a command: of `n` data bytes, and without a read (R264, Table 14.6). -/
def State.busSend (s : State) (m : BusMsg) (code n : Nat) (apply : State → List Byte → Option State) : State :=
  s.busCmd m code (fun s => s.busWrite m code n n apply)

end Sys2Proof.Machine
end

