-- ==== Sys2Proof/Machine/Operands.lean ====
section
/-! DEFINITION.  Number formats and measured quantities: rounding, logarithm, channel nodes and units
(R192 to R195), the NTC conversion (R181), linear11 (R280) and the stage supply (R67). -/

namespace Sys2Proof.Machine

/-! ## Numbers -/

/-- The integer nearest `a / b`, a half going up. -/
def roundDiv (a : Int) (b : Nat) : Int := (2 * a + b) / (2 * b : Nat)

/-- The terms of the series of artanh `y`, in 2^-64, from exponent `k` on: `p` is `y` to that power. -/
def artanhTerms : (fuel : Nat) → (k : Nat) → (p y2 : Int) → Int
  | 0, _, _, _ => 0
  | f + 1, k, p, y2 => p / k + artanhTerms f (k + 2) (p * y2 / 2 ^ 64) y2

/-- The natural logarithm of a quotient from 1 to 2, in 2^-64. -/
def lnMantissa (a b : Nat) : Int :=
  let y := (((a : Int) - b) * 2 ^ 64) / (a + b : Nat)
  2 * artanhTerms 24 1 y (y * y / 2 ^ 64)

/-- The natural logarithm of 2, in 2^-64. -/
def ln2 : Int := lnMantissa 2 1

/-- The natural logarithm of `a / b`, both positive, in 2^-64. -/
def lnRatio (a b : Nat) : Int :=
  let a' := a * 2 ^ Nat.log2 b
  let b' := b * 2 ^ Nat.log2 a
  let e : Int := (Nat.log2 a : Int) - Nat.log2 b
  if b' ≤ a' then e * ln2 + lnMantissa a' b' else (e - 1) * ln2 + lnMantissa (2 * a') b'

/-- The 16-bit linear11 form of `v / d`: a 5-bit signed exponent over an 11-bit signed mantissa, the finest
exponent that holds the value, with the mantissa rounded. -/
def linear11 (v : Int) (d : Nat) : BitVec 16 :=
  let m := fun (e : Nat) => if e < 16 then roundDiv (v * 2 ^ (16 - e)) d else roundDiv v (d * 2 ^ (e - 16))
  let fits := fun e => decide (-1023 ≤ m e) && decide (m e ≤ 1023)
  let e := ((List.range 32).find? fits).getD 31
  BitVec.ofNat 16 (unsignedOf 5 ((e : Int) - 16) * 2048 + unsignedOf 11 (clampInt (-1023) 1023 (m e)))

/-- The value of a linear11 word, in units of 2^-16. -/
def ofLinear11 (w : BitVec 16) : Int :=
  signedOf 11 (w.toNat % 2048) * 2 ^ (16 + signedOf 5 (w.toNat / 2048)).toNat

/-! ## Channels (R192, R193, Tables 10.1 and 10.2) -/

/-- What a channel measures, with its attenuation where its value is a voltage. -/
inductive Node where
  | volts (att : Nat)
  | vs (n : Nat)
  | isns (p : Nat)
  | tmf (p : Nat)
  | mon (m : Nat)
  | aux (a : Nat)
  | ibat
  | ts
  | die
  deriving DecidableEq, Repr

/-- The node of channel `c` (Table 10.1). -/
def chanNode (c : Nat) : Node :=
  if c % 32 = 1 then .volts 1
  else if 2 ≤ c && c ≤ 25 then .vs (c - 2)
  else if c = 26 then .ibat
  else if c = 27 then .ts
  else if c = 29 || c = 30 || c = 61 || c = 90 || c = 122 then .die
  else if 34 ≤ c && c ≤ 57 then .isns (c - 34)
  else if 66 ≤ c && c ≤ 89 then .isns (c - 66 + 24)
  else if 98 ≤ c && c ≤ 121 then .tmf (c - 98)
  else if 130 ≤ c && c ≤ 153 then .tmf (c - 130 + 24)
  else if c = 158 then .aux 23
  else if 162 ≤ c && c ≤ 190 then .mon (c - 162)
  else if 194 ≤ c && c ≤ 222 then .mon (c - 194 + 29)
  else if 226 ≤ c && c ≤ 231 then .mon (c - 226 + 58)
  else if 232 ≤ c && c ≤ 254 then .aux (c - 232)
  else if c = 0 || c = 28 || c = 58 || c = 94 || c = 126 || c = 191 || c = 192 || c = 223 || c = 224 || c = 255
    then .volts 1
  else if c = 59 || c = 60 || c = 159 || c = 160 then .volts 4
  else if c = 92 || c = 93 || c = 155 || c = 156 then .volts 8
  else .volts 32

/-- The attenuation of a node (Table 10.2). -/
def nodeAtt : Node → Nat
  | .volts a => a
  | .vs _ => 4
  | .tmf _ => 2
  | _ => 1

/-- Whether a node permits an open-wire check (Table 10.2). -/
def nodeChecks : Node → Bool
  | .vs _ => true
  | .isns _ => true
  | .tmf _ => true
  | .mon _ => true
  | .aux _ => true
  | _ => false

/-- The gain factor of a GAIN code: 5 to 7 act as 4. -/
def gainOf (g : Nat) : Nat := 2 ^ min 4 g

/-- The pack temperature in 0.01 °C for a thermistor of `a / b` times its resistor at TS (R181). -/
def State.thermistor (s : State) (a b : Nat) : Int :=
  let beta := min 4500 (max 3000 (s.fld R.PATH_TS_CFG.BETA))
  roundDiv (29815 * beta * 2 ^ 64 * 100) (100 * beta * 2 ^ 64 + 29815 * lnRatio a b).toNat - 27315

/-- The pack temperature in 0.01 °C for `uv` microvolts at TS (R181), at the nearer end outside the range. -/
def State.tsTemp (s : State) (uv : Nat) : Int :=
  let uv := min 1746000 (max 54000 uv)
  s.thermistor uv (1800000 - uv)

/-- Whether `num / den` volts at TS lie in the range of R195. -/
def tsVoltsOk (num : Int) (den : Nat) : Bool := decide ((54 * den : Nat) ≤ num * 1000) && decide (num * 1000 ≤ (1746 * den : Nat))

/-- The pack temperature in 0.01 °C for `num / den` volts at TS (R181, R195). -/
def State.tsVolts (s : State) (num : Int) (den : Nat) : Int :=
  if tsVoltsOk num den then s.thermistor (num * 10).toNat (18 * den - (num * 10).toNat)
  else s.tsTemp (if num * 1000 < (54 * den : Nat) then 0 else 1800000)

/-- Whether `uv` microvolts at TS lie in the range of R195 and Table 9.6. -/
def tsInRange (uv : Int) : Bool := decide (54000 ≤ uv) && decide (uv ≤ 1746000)

/-- The largest code and channel value (R194, R195). -/
def codeMax : Int := 8388607

/-- The channel value of a code of channel `c` at gain code `g`, and whether the word is over-range: the code
clipped, the attenuation undone, the quantity formed and rounded to its unit (R194, R195, steps 2 to 4 of the latter). -/
def State.chanValue (s : State) (c g : Nat) (code : Int) : Int × Bool :=
  let clip := clampInt (-codeMax) codeMax code
  let ovr := decide (clip ≠ code)
  let nd := chanNode c
  let num : Int := clip * (256 * nodeAtt nd : Nat)
  let den : Nat := 100 * 2 ^ 23 * gainOf g
  let mul := let m := s.fld (R.MEAS_CH_SCALE.MUL c); if m = 0 then 0x10000 else m
  let scaled := if s.bit (R.MEAS_CH_SCALE.UNIT c)
    then roundDiv (num * (mul * 1000 : Nat)) (den * 65536) else roundDiv (num * (mul * 100000 : Nat)) (den * 65536)
  let v := match nd with
    | .volts _ | .vs _ => roundDiv (num * 100000) den
    | .mon _ | .aux _ => scaled
    | .isns p => roundDiv ((num * 10000 - s.sfld (R.PH_ISNS.OFS p) * den) * 10000)
                   (den * min 4000 (max 100 (s.fld (R.PH_ISNS.GAIN p))))
    | .tmf p => roundDiv ((num * 1000 - (s.fld (R.PH_TMF.TOFS p) : Int) * den) * 1000)
                   (den * max 1 (s.fld (R.PH_TMF.TSLOPE p)))
    | .ibat => roundDiv (num * 10000000) (den * min 200 (max 50 (s.fld R.PATH_CHG_CFG.RSH)))
    | .ts => s.tsVolts num den
    | .die => clampInt (-5500) 17500 (Config.dieTemp clip)
  let tsOver := match nd with
    | .ts => !tsVoltsOk num den
    | _ => false
  let w := clampInt (-codeMax) codeMax v
  (w, ovr || tsOver || decide (w ≠ v))

/-! ## Latest values (R198) -/

/-- A channel at reset: no value, empty accumulator and trackers (R198 to R200). -/
def ChanState.zero : ChanState := ⟨0, 0, 0, 0x7FFFFF, -0x800000, none, none, false⟩

/-- The row of channel `c`. -/
def State.chan (s : State) (c : Nat) : ChanState := s.meas.chans.at ChanState.zero c

/-- The latch of channel `c`: 0 while MEAS_CH_STATUS.LV is 0 (R198). -/
def State.latest (s : State) (c : Nat) : Int :=
  if s.bit (R.MEAS_CH_STATUS.LV c) then (s.chan c).latest else 0

/-- The stage supply of loop `n` in millivolts (R67). -/
def State.stageSupply (s : State) (n : Nat) : Nat :=
  let c := s.fld (R.LOOP_FF.CH n)
  if s.bit (R.LOOP_FF.EN n) && s.bit (R.MEAS_CH_STATUS.LV c) then ((s.chan c).latest / 100).toNat
  else s.fld (R.LOOP_FF.VNOM n)

end Sys2Proof.Machine
end

