-- ==== Sys2Proof/Machine/SelfTest.lean ====
section
/-! DEFINITION.  The self-test controller's run-time slices, as the blocks they share resources with see them
(spec/16, R312 to R314): the catalogue, which slice runs where, and the abandoning of one. -/

namespace Sys2Proof.Machine

/-- A change of the self-test controller. -/
def State.updBist (s : State) (f : BistState → BistState) : State := { s with bist := f s.bist }

/-- The slice that domain `d` (0 HV, 1 AN, 2 CORE) runs: its code and resource index. -/
def State.sliceOf (s : State) (d : Nat) : Option (Nat × Nat) := s.bist.running.at none d

/-- Whether slice `code` runs on resource `i`. -/
def State.sliceOn (s : State) (code i : Nat) : Bool := (List.range 3).any (fun d => s.sliceOf d == some (code, i))

/-- BIST_STATUS: the domains that run a slice, and the state: drydown, start-up self-test, slices, paused while a
scheduled switch keeps slices from starting (R313), or idle. -/
def State.showBist (s : State) : State :=
  let act := (if (s.sliceOf 0).isSome then 1 else 0) + (if (s.sliceOf 1).isSome then 2 else 0) +
    (if (s.sliceOf 2).isSome then 4 else 0)
  let st := if s.sys.dry ≠ .idle then 3 else if s.sys.selfTest then 2 else if act ≠ 0 then 1
    else if s.acrd.switching then 4 else 0
  (s.setF R.BIST_STATUS.ACT act).setF R.BIST_STATUS.STATE st

/-- Domain `d` runs slice `x`, or none. -/
def State.setSlice (s : State) (d : Nat) (x : Option (Nat × Nat)) : State :=
  (s.updBist (fun b => { b with running := b.running.put none d x })).showBist

/-- A deferral (R313, R314). -/
def State.countDefer (s : State) : State := s.count B.bist R.BIST_CNT.DEFER R.BIST_CNT.SAT_D

/-- Every slice whose code and index `p` names is abandoned without a result (R314). -/
def State.abandonSlices (s : State) (p : Nat → Nat → Bool) : State :=
  (List.range 3).foldl (fun s d =>
    match s.sliceOf d with
    | some x => if p x.1 x.2 then (s.setSlice d none).countDefer else s
    | none => s) s

/-! ## The checks of drydown and start-up self-test (Table 16.2, R316, R320) -/

/-- Whether Table 16.2 has check `i` of item `k`. -/
def checkExists (k i : Nat) : Bool :=
  match k with
  | 1 => decide (i ≤ 6)
  | 2 => decide (i ≤ 127)
  | 3 => decide (i ≤ 74)
  | 4 => decide (i ≤ 143)
  | 5 => decide (i ≤ 39)
  | 6 => decide (i ≤ 23)
  | 7 => decide (i ≤ 47)
  | 8 => nodeChecks (chanNode i)
  | _ => false

/-- Whether check `c` may fail after check `b` in a self-test of the items `order`: in a later item, or in the same one
at a later index; items 5 and 8 take eight converters at once, in any order (DEDUCED, log entry 193). -/
def checkAfter (order : List Nat) (b c : Check) : Bool :=
  let x := order.idxOf b.item.toNat
  let y := order.idxOf c.item.toNat
  decide (x < y) || (x == y && (if b.item = 5#4 || b.item = 8#4 then b.index != c.index else decide (b.index < c.index)))

/-- The failures of a report that a self-test of the items `order` can have: checks of Table 16.2, each once and in that
order; an entry of item 0 stands for a fatal raise.  `done` are the checks passed over. -/
def checksRun (order : List Nat) : (done : List Check) → List Check → List Check
  | _, [] => []
  | done, c :: cs =>
    if c.item = 0#4 then c :: checksRun order done cs
    else if order.contains c.item.toNat && checkExists c.item.toNat c.index.toNat && done.all (fun b => checkAfter order b c)
    then c :: checksRun order (c :: done) cs
    else checksRun order done cs

/-- The items of drydown in its order, and those of start-up self-test. -/
def dryOrder : List Nat := [1, 2, 3, 4, 5, 6, 7, 8]
def startOrder : List Nat := [1, 5, 2, 3, 4]

/-- The time of one check or repeat in nanoseconds (Table 16.2), where a comparator of start-up self-test takes 75 µs
(R320). -/
def checkNs (start : Bool) (k : Nat) : Nat :=
  match k with
  | 1 => 720000
  | 2 | 3 | 4 => if start then 75000 else 100000
  | 5 => 1600000
  | 6 | 7 => 500000
  | 8 => 800000
  | _ => 0

/-- The duration of a self-test whose items take `base` within `budget`, with these failures: every failing check is
repeated once while the budget allows.  Checks that pass when repeated add to it, up to the `told` duration. -/
def testNs (start : Bool) (base budget : Nat) (l : List Check) (told : Nat) : Nat :=
  max (min budget (base + (l.map (fun c => checkNs start c.item.toNat)).sum)) (min budget told)

/-- The failures of a drydown in the order of time: a check of item 0 in the report stands for the next fatal raise,
whose source number is its index (R317). -/
def failuresInTime : List Check → List Nat → List (Nat × Nat)
  | [], fs => fs.map (fun f => (0, f))
  | c :: cs, [] => if c.item = 0#4 then failuresInTime cs [] else (c.item.toNat, c.index.toNat) :: failuresInTime cs []
  | c :: cs, f :: fs => if c.item = 0#4 then (0, f) :: failuresInTime cs fs
    else (c.item.toNat, c.index.toNat) :: failuresInTime cs (f :: fs)

/-- The drydown record's value (Table 16.3), `time` in 10 µs. -/
def dryRecord (l : List (Nat × Nat)) (tj : Int) (time count : Nat) : BitVec 64 :=
  let e := l.headD (0, 0)
  BitVec.ofNat 64 ((if l.isEmpty then 1 else 2) * 2 ^ 60 + satNat 255 l.length * 2 ^ 52 + e.1 * 2 ^ 48 + e.2 * 2 ^ 40 +
    unsignedOf 8 (clampInt (-128) 127 tj) * 2 ^ 32 + satNat 65535 time * 2 ^ 16 + count % 65536)

end Sys2Proof.Machine
end

