-- ==== Sys2Proof/Machine/Loop.lean ====
section
/-! DEFINITION.  The loops and phase ports (spec/04, spec/05): set-points, the compensator, start and stop,
protection, current balance, loss of phases. -/

namespace Sys2Proof.Machine

/-! ## Rows -/

/-- A phase port at reset: mid, nothing counted. -/
def PhaseState.zero : PhaseState := ⟨none, 0, [], 0, 0, 0, 0, 0, 0, false, 0, 0, false, false, 0, 0, false, 0⟩

/-- A loop at reset. -/
def LoopState.zero : LoopState where
  ref := 0
  rate := 0
  queued := []
  moving := false
  hi := 0
  lo := 0
  pgHeld := false
  nlFrom := none
  nlUnder := false
  uvArmed := false
  ovLow := false
  clkHeld := false
  e1 := 0
  e2 := 0
  p1 := 0
  p2 := 0
  p3 := 0
  u := 0
  out := 0
  coefReload := 0
  pend := []
  deForced := false
  cur := 0
  curSum := 0
  curCnt := 0
  refHist := []
  ofsNow := 0
  cycle := 0
  respace := false
  restore := false
  placed := 0
  lastRank := 0
  svFirst := false
  svStart := 0
  svRun := 0
  svLeft := 0
  svChip := 0
  svLfsr := 0
  svCur := 0
  svMoved := false
  pert := 0
  preraise := 0
  forecast := none
  preTarget := 0

/-- The row of loop `n`. -/
def State.loop (s : State) (n : Nat) : LoopState := s.loops.at LoopState.zero n

/-- The state with the row of loop `n` changed by `f`. -/
def State.updLoop (s : State) (n : Nat) (f : LoopState → LoopState) : State :=
  { s with loops := s.loops.upd LoopState.zero n f }

/-- The row of phase port `p`. -/
def State.phase (s : State) (p : Nat) : PhaseState := s.phases.at PhaseState.zero p

/-- The state with the row of phase port `p` changed by `f`. -/
def State.updPhase (s : State) (p : Nat) (f : PhaseState → PhaseState) : State :=
  { s with phases := s.phases.upd PhaseState.zero p f }

def T.slew (n : Nat) : Nat := timerKey 30 n
def T.pgMask (n : Nat) : Nat := timerKey 31 n
def T.lock (n : Nat) : Nat := timerKey 32 n
def T.ilf (n : Nat) : Nat := timerKey 33 n
def T.nlHold (n : Nat) : Nat := timerKey 34 n
def T.nlMax (n : Nat) : Nat := timerKey 35 n
def T.shed (n : Nat) : Nat := timerKey 36 n
def T.stageBlank (p : Nat) : Nat := timerKey 37 p
def T.survey (n : Nat) : Nat := timerKey 38 n
def T.burst (n : Nat) : Nat := timerKey 39 n
def T.burstLimit (n : Nat) : Nat := timerKey 40 n
def T.resume (n : Nat) : Nat := timerKey 41 n
def T.compute (n : Nat) : Nat := timerKey 42 n
def T.fcPre (n : Nat) : Nat := timerKey 43 n
def T.fcWin (n : Nat) : Nat := timerKey 44 n
def T.fcHold (n : Nat) : Nat := timerKey 45 n
def T.ilPulse (n : Nat) : Nat := timerKey 46 n
def T.nlLow (p : Nat) : Nat := timerKey 47 p

/-! ## Sets of phases (R93) -/

/-- The phases assigned to loop `n`, in ascending slot order. -/
def State.assigned (s : State) (n : Nat) : List Nat :=
  (List.range 24).filterMap (fun sl => (List.range 48).find? (fun p =>
    s.bit (R.PH_CFG.EN p) && s.fld (R.PH_CFG.LOOP p) = n && s.fld (R.PH_CFG.SLOT p) = sl))

/-- Whether phase `p` is assigned. -/
def State.phaseOn (s : State) (p : Nat) : Bool := s.bit (R.PH_CFG.EN p)

/-- Whether phase `p` is assigned and active. -/
def State.phaseActive (s : State) (p : Nat) : Bool := s.phaseOn p && decide (s.fld (R.PH_STATUS.STATE p) = 2)

/-- Whether phase `p` is lost. -/
def State.lost (s : State) (p : Nat) : Bool := s.fld (R.PH_STATUS.STATE p) = 4

/-- The healthy phases of loop `n`. -/
def State.healthy (s : State) (n : Nat) : List Nat := (s.assigned n).filter (fun p => !s.lost p)

/-- The active phases of loop `n`. -/
def State.active (s : State) (n : Nat) : List Nat :=
  (s.assigned n).filter (fun p => s.fld (R.PH_STATUS.STATE p) = 2)

/-- The active phases of loop `n` whose sense is trusted. -/
def State.trusted (s : State) (n : Nat) : List Nat :=
  (s.active n).filter (fun p => !s.bit (R.PH_STATUS.SUSPECT p))

/-- The counts of LOOP_STATUS and PH_LSTAT from the phases' states, and whether no active phase has a trusted sense
(R101). -/
def State.showPhases (s : State) (n : Nat) : State :=
  let s := s.setB (R.PH_LSTAT.NOSENSE n) (!(s.active n).isEmpty && (s.trusted n).isEmpty)
  let s := (s.setF (R.LOOP_STATUS.NACT n) (s.active n).length).setF (R.LOOP_STATUS.NHLT n) (s.healthy n).length
  let s := s.setF (R.PH_LSTAT.NLOST n) ((s.assigned n).filter s.lost).length
  s.setF (R.PH_LSTAT.NSUSP n) ((s.assigned n).filter (fun p => s.bit (R.PH_STATUS.SUSPECT p))).length

/-- The active and shed phases of loop `n` become idle: assigned, and not switching (R93). -/
def State.idlePhases (s : State) (n : Nat) : State :=
  let ps := (s.assigned n).filter (fun p => s.fld (R.PH_STATUS.STATE p) = 2 || s.fld (R.PH_STATUS.STATE p) = 3)
  (ps.foldl (fun s p => ((s.setF (R.PH_STATUS.STATE p) 1).setF (R.PH_STATUS.POS p) 0x1F).updPhase p (fun r =>
    { r with cut := none })) s).showPhases n

/-- Every phase as the registers of a fresh image leave it (R93, R109): idle and healthy where it is assigned. -/
def State.readyPhases (s : State) : State :=
  let s := (List.range 48).foldl (fun s p =>
    let on := s.bit (R.PH_CFG.EN p)
    let warn := on && s.bit (R.PH_STATUS.WARN p)
    let low := on && s.bit (R.PH_STATUS.TMF_LOW p)
    let s := ((s.setReg (R.PH_STATUS.reg p) 0#32).setF (R.PH_STATUS.STATE p) on.toNat).setF (R.PH_STATUS.POS p) 0x1F
    (s.setB (R.PH_STATUS.WARN p) warn).setB (R.PH_STATUS.TMF_LOW p) low) s
  (List.range 24).foldl State.showPhases s

/-! ## State of a loop -/

/-- LOOP_STATUS.STATE codes. -/
def L.off : Nat := 0
def L.start : Nat := 1
def L.reg : Nat := 2
def L.trans : Nat := 3
def L.settle : Nat := 4
def L.stop : Nat := 5
def L.fault : Nat := 6
def L.nl : Nat := 7

/-- The state of loop `n` as LOOP_STATUS shows it. -/
def State.lstate (s : State) (n : Nat) : Nat := s.fld (R.LOOP_STATUS.STATE n)

/-- The state under a nonlinear excursion, or the shown one. -/
def State.lbase (s : State) (n : Nat) : Nat := ((s.loop n).nlFrom).getD (s.lstate n)

/-- The state with the base state of loop `n` set; a nonlinear excursion goes on over it. -/
def State.setBase (s : State) (n st : Nat) : State :=
  if (s.loop n).nlFrom.isSome then s.updLoop n (fun r => { r with nlFrom := some st })
  else s.setF (R.LOOP_STATUS.STATE n) st

/-- Whether the loop regulates: REG, TRANS or SETTLE, outside the nonlinear state. -/
def State.regulating (s : State) (n : Nat) : Bool :=
  s.lstate n = L.reg || s.lstate n = L.trans || s.lstate n = L.settle

/-- The present target of loop `n`, 2^-12 V (R332). -/
def State.target (s : State) (n : Nat) : Nat := s.fld (R.LOOP_VREF.TARGET n)

/-- The state with a new target, as LOOP_VSET.TARGET and LOOP_VREF.TARGET read it (R332). -/
def State.setTarget (s : State) (n t : Nat) : State :=
  (s.setF (R.LOOP_VREF.TARGET n) t).setF (R.LOOP_VSET.TARGET n) t

/-- The state with the ramp value of loop `n`, shown truncated in LOOP_VREF.REF. -/
def State.setRef (s : State) (n r : Nat) : State :=
  (s.updLoop n (fun x => { x with ref := r })).setF (R.LOOP_VREF.REF n) (r / 4096)

/-- The over-voltage threshold in microvolts (R80, R81): the highest target of a transition, or the
target, plus OVM. -/
def State.ovThreshold (s : State) (n : Nat) : Nat :=
  let t := if s.bit (R.LOOP_STATUS.PG_MASK n) && s.lstate n ≠ L.fault && s.lstate n ≠ L.stop && s.lstate n ≠ L.start
    then (s.loop n).hi else s.target n
  t * 1000000 / 4096 + max 5 (s.fld (R.LOOP_PROT.OVM n)) * 2000

/-- The under-voltage threshold in microvolts (R80). -/
def State.uvThreshold (s : State) (n : Nat) : Int :=
  let t := if s.bit (R.LOOP_STATUS.PG_MASK n) then (s.loop n).lo else s.target n
  (t * 1000000 / 4096 : Nat) - (max 5 (s.fld (R.LOOP_PROT.UVM n)) * 2000 : Nat)

/-- The power-good the loop reports to the sequencer (R79, R81): the value kept while masked, 0 in START, and
LOOP_STATUS.IN_PG in REG, TRANS and SETTLE and under a nonlinear excursion from one of them; 0 in STOP, FAULT and OFF and
under an excursion from START or STOP (DESIGN CHOICE, log entry 185). -/
def State.loopPg (s : State) (n : Nat) : Bool :=
  if s.bit (R.LOOP_STATUS.PG_MASK n) then (s.loop n).pgHeld
  else if s.lbase n = L.reg || s.lbase n = L.trans || s.lbase n = L.settle then s.bit (R.LOOP_STATUS.IN_PG n) else false

/-! ## What drives a phase (R53, R69, R81, R82, R85, R86, R98, R103, R105) -/

/-- The drive of phase `p`: at mid where it is not assigned, lost, not switching, or PLL_P is out of lock; low where
an over-voltage holds its loop low; at mid while the stage-fault blank meets a low TMF; high or low, or mid, in the
nonlinear state; at mid until the position-0 edge that gives it a position; what a limit imposes for the rest of its
cycle; and switching otherwise. -/
def State.drive (s : State) (p : Nat) : Drive :=
  let n := s.fld (R.PH_CFG.LOOP p)
  let st := s.fld (R.PH_STATUS.STATE p)
  if !s.bit (R.PH_CFG.EN p) || st = 4 || s.sys.pllP ≠ .locked then .mid
  else if (s.loop n).ovLow then .low
  else if st ≠ 2 || (s.bit (R.PH_STATUS.BLANKING p) && s.bit (R.PH_STATUS.TMF_LOW p)) then .mid
  else if s.lstate n = L.nl then
    (if (s.loop n).nlUnder then (match s.deadline (T.nlLow p) with
      | some d => if s.ns < d then .low else .high
      | none => .high)
    else (s.phase p).cut.getD (if s.bit (R.LOOP_NL.OVSL n) then .low else .mid))
  else if s.fld (R.PH_STATUS.POS p) = 0x1F then .mid
  else (s.phase p).cut.getD .switching

/-! ## Survey abandoned or paused (R111, R113) -/

/-- Whether a scheduled Accord switch is acknowledged and pending (R111, R113). -/
def State.switchPending (s : State) : Bool := s.bit R.ACRD_STATUS.SWITCH_PEND

/-- The permission conditions of a burst on loop `n` (R111). -/
def State.surveyAllowed (s : State) (n : Nat) : Bool :=
  s.bit (R.SV_CFG.EN n) && s.lstate n = L.reg && !s.bit (R.LOOP_STATUS.PG_MASK n) && (s.loop n).forecast.isNone &&
  s.sys.pllP = .locked && !s.switchPending

/-- The length of a survey chip in nanoseconds (R112). -/
def State.surveyChip (s : State) (n : Nat) : Nat := max 1 (s.fld (R.SV_CFG.CHIP n)) * 250

/-- The length of one 2,047-chip sequence in nanoseconds (R112). -/
def State.seqNs (s : State) (n : Nat) : Nat := 2047 * s.surveyChip n

/-- The burst of loop `n` pauses: the completed sequences are kept, the one in progress is discarded (R113). -/
def State.pauseSurvey (s : State) (n : Nat) : State :=
  let k := (s.ns - (s.loop n).svRun) / s.seqNs n
  let s := s.updLoop n (fun r => { r with svLeft := r.svLeft - k })
  ((s.setF (R.SV_STATUS.STATE n) 2).disarm (T.burst n)).disarm (T.resume n)

/-- A running burst pauses when a permission condition fails, and the 1 ms of a paused one runs while all of them
hold (R113). -/
def State.watchBurst (s : State) (n : Nat) : State :=
  let st := s.fld (R.SV_STATUS.STATE n)
  if st = 1 && !s.surveyAllowed n then s.pauseSurvey n
  else if st = 2 then
    (if !s.surveyAllowed n then s.disarm (T.resume n)
    else if s.runs (T.resume n) then s else s.arm (T.resume n) 1000000)
  else s

/-- The burst of loop `n`, if one runs or is paused, is abandoned: counted, the perturbation gone, the next
one scheduled min(PERIOD, 10 s) after its start (R113). -/
def State.surveyAbandon (s : State) (n : Nat) : State :=
  let st := s.fld (R.SV_STATUS.STATE n)
  if st = 1 || st = 2 then
    let s := (s.setF (R.SV_STATUS.STATE n) 0).count B.loop (R.SV_CNT.ABORT n) (R.SV_CNT.SAT_A n)
    let per := min 10 (min 3600 (max 1 (s.fld (R.SV_CFG.PERIOD n)))) * 1000000000
    let at' := (s.loop n).svStart + per
    let s := s.updLoop n (fun r => { r with pert := 0 })
    let s := ((s.disarm (T.burst n)).disarm (T.burstLimit n)).disarm (T.resume n)
    s.arm (T.survey n) (at' - s.ns)
  else s

/-! ## Forecasts dropped, link alerts (R126, R127) -/

/-- A pulse on IL_nAL with its event; pulses within 200 ns of each other are one (R127). -/
def State.ilAlert (s : State) (il : Nat) : State :=
  let merged := match s.deadline (T.ilPulse il) with
    | some d => decide (s.ns ≤ d)
    | none => false
  if s.bit (R.IL_CFG.EN il) && s.sys.phase = .run && !merged then (s.arm (T.ilPulse il) 200).event (48 + il) else s

/-- The entry of loop `n` to FAULT pulses the alert of every link whose IL_LMASK names it (R127). -/
def State.ilLoopFault (s : State) (n : Nat) : State :=
  [0, 1].foldl (fun s il => if (s.reg (R.IL_LMASK.reg il)).getLsbD n then s.ilAlert il else s) s

/-- The sillage record of a forecast or frame of link `il`: SOURCE the link in block HOST, DATA the frame's bits
[31:8] (R128). -/
def State.ilRecord (s : State) (il kind : Nat) (frame : Word) : State :=
  s.traceRec (0x0A00 + il) (Config.recordCode kind) (frame.toNat / 256)

/-- The loop no longer holds a forecast: its pre-raise is 0 and its timers stop. -/
def State.endForecast (s : State) (n : Nat) : State :=
  let s := s.updLoop n (fun x => { x with forecast := none, preraise := 0, preTarget := 0 })
  let s := ((s.disarm (T.fcPre n)).disarm (T.fcWin n)).disarm (T.fcHold n)
  s.setB (R.IL_FC.PEND n) false

/-- The forecast of loop `n` is counted and recorded as replaced or cancelled (R123, R126, R128). -/
def State.dropForecast (s : State) (n : Nat) : State :=
  match (s.loop n).forecast with
  | none => s
  | some f =>
    (s.count B.loop (R.IL_FCNT2.DROP n) (R.IL_FCNT2.SAT_D n)).ilRecord f.link 6 f.frame

/-- Whether a forecast is fulfilled by a LOOP_IOUT update now (R126). -/
def Forecast.met (f : Forecast) (now : Nat) (i : Int) : Bool :=
  if f.delta = 0 then decide (f.time ≤ now)
  else decide (f.time ≤ now + f.win) && decide (now ≤ f.time + f.win) &&
    (if 0 < f.delta then decide (f.delta ≤ 2 * (i - f.base)) else decide (2 * (i - f.base) ≤ f.delta))

/-- The forecast of loop `n` is fulfilled: its pre-raise is held for THOLD, from T for a forecast of no change, and a
pre-position not yet applied is not applied (R126). -/
def State.fulfil (s : State) (n : Nat) (f : Forecast) : State :=
  let s := s.updLoop n (fun r => { r with forecast := some { f with fulfilled := true } })
  let s := ((s.active n).filter (fun p => (s.phase p).preWait)).foldl (fun s p => s.updPhase p (fun r =>
    { r with preOn := 0, preCyc := 0, preWait := false })) s
  let s := (s.disarm (T.fcWin n)).disarm (T.fcPre n)
  let s := s.count B.loop (R.IL_FCNT1.FUL n) (R.IL_FCNT1.SAT_F n)
  s.arm (T.fcHold n) ((if f.delta = 0 then f.time else s.ns) + s.fld (R.IL_TIME.THOLD f.link) * 1000 - s.ns)

/-- A forecast of no change is fulfilled at T (R126). -/
def State.dueForecast (s : State) (n : Nat) : State :=
  match (s.loop n).forecast with
  | none => s
  | some f => if f.delta = 0 && !f.fulfilled && !f.unwinding && decide (f.time ≤ s.ns) then s.fulfil n f else s

/-- A loop that enters STOP, OFF or FAULT cancels its forecast (R126). -/
def State.cancelForecast (s : State) (n : Nat) : State :=
  if (s.loop n).forecast.isSome then (s.dropForecast n).endForecast n else s

/-! ## The lock (R76, R78) -/

/-- The source codes of Table 4.3. -/
def srcCode : Src → Nat
  | .hostBus => 1
  | .quad => 2
  | .il n => 3 + n.val
  | .engine e => 0x10 + e.val
  | .fabric => 5

/-- The bit of LOOP_LOCK.PERM that names a source. -/
def srcPermBit : Src → Nat
  | .hostBus => 0
  | .quad => 1
  | .il n => 2 + n.val
  | .engine _ => 4
  | .fabric => 31

/-- The rank of a source among the commands of one slew tick (R76). -/
def srcRank : Src → Nat
  | .hostBus => 0
  | .quad => 1
  | .il n => 2 + n.val
  | .engine e => 4 + e.val
  | .fabric => 20

/-- A refused command is counted with its source and reason (R76, Table 4.3). -/
def State.refuseCommand (s : State) (n : Nat) (src : Src) (reason : Nat) : State :=
  let s := (s.setF (R.LOOP_REFUSE.REASON n) reason).setF (R.LOOP_REFUSE.SRC n) (srcCode src)
  s.count B.loop (R.LOOP_REFUSE.COUNT n) (R.LOOP_REFUSE.SAT n)

/-- The lock of loop `n` is released. -/
def State.freeLock (s : State) (n : Nat) : State := (s.setF (R.LOOP_LOCK.OWNER n) 0).disarm (T.lock n)

/-- The lock's time-out runs afresh, where TOUT is not 0 (R78). -/
def State.restartLock (s : State) (n : Nat) : State :=
  let t := s.fld (R.LOOP_LOCK.TOUT n)
  if t = 0 then s.disarm (T.lock n) else s.arm (T.lock n) (t * 1000000)

/-- A take of the lock of loop `n` by `src` (R76): the free lock, by a permitted source.  A take of the free lock by a
source that PERM does not name is refused and counted like one of the held lock (DESIGN CHOICE, log entry 186). -/
def State.takeLock (s : State) (n : Nat) (src : Src) : State :=
  let free := s.fld (R.LOOP_LOCK.OWNER n) = 0
  let perm := (s.fld (R.LOOP_LOCK.PERM n)).testBit (srcPermBit src)
  if free && perm then (s.setF (R.LOOP_LOCK.OWNER n) (srcCode src)).restartLock n
  else s.refuseCommand n src 5

/-- A release by `src`: only the holder's counts (R78). -/
def State.releaseLock (s : State) (n : Nat) (src : Src) : State :=
  if s.fld (R.LOOP_LOCK.OWNER n) = srcCode src then s.freeLock n else s

/-! ## Set-point commands (R73 to R77) -/

/-- The effective slew code of a rate field: 0 acts as 1 and above 1,000 as 1,000 (R73). -/
def slewCode (c : Nat) : Nat := min 1000 (max 1 c)

/-- The reason a set-point command is refused, by the conditions of R73 in its order, or none. -/
def State.refusal (s : State) (n : Nat) (src : Src) (t : Nat) : Option Nat :=
  if t < 1024 || 22528 < t then some 2
  else if t < s.fld (R.LOOP_VLIM.VMIN n) || s.fld (R.LOOP_VLIM.VMAX n) < t then some 3
  else if s.lstate n = L.fault then some 4
  else if src ≠ .fabric && s.fld (R.LOOP_LOCK.OWNER n) ≠ 0 && s.fld (R.LOOP_LOCK.OWNER n) ≠ srcCode src then some 1
  else none

/-- A command among those accepted since the last slew tick, in the order of R76. -/
def enqueueCmd (c : QueuedCmd) (l : List QueuedCmd) : List QueuedCmd :=
  l.takeWhile (fun x => x.rank ≤ c.rank) ++ c :: l.dropWhile (fun x => x.rank ≤ c.rank)

/-- An accepted set-point command: the target at once in OFF and STOP, unless a source that R76 puts after this one has
set it since the last slew tick, and otherwise at the next slew tick (R73, R75, R76). -/
def State.acceptSetpoint (s : State) (n : Nat) (src : Src) (t rate : Nat) : State :=
  let s := if s.fld (R.LOOP_LOCK.OWNER n) = srcCode src then s.restartLock n else s
  if s.lstate n = L.off || s.lbase n = L.stop then
    if srcRank src < (s.loop n).lastRank then s
    else (s.updLoop n (fun x => { x with lastRank := srcRank src })).setTarget n t
  else
    let r := slewCode (if rate = 0 then s.fld (R.LOOP_SLEW.RATE n) else rate)
    s.updLoop n (fun x => { x with queued := enqueueCmd ⟨srcRank src, t, r⟩ x.queued })

/-- One set-point command of source `src` with target code `t` and rate code `rate` (R73, R76, R77). -/
def State.setpoint (s : State) (n : Nat) (src : Src) (t rate : Nat) : State :=
  match s.refusal n src t with
  | some why => s.refuseCommand n src why
  | none => s.acceptSetpoint n src t rate

/-! ## Shedding and restoring (R89) -/

/-- The shed healthy phases of loop `n`. -/
def State.shedPhases (s : State) (n : Nat) : List Nat := (s.assigned n).filter (fun p => s.fld (R.PH_STATUS.STATE p) = 3)

/-- The shed healthy phases of loop `n` become active. -/
def State.activateShed (s : State) (n : Nat) : State :=
  ((s.shedPhases n).foldl (fun s p => s.setF (R.PH_STATUS.STATE p) 2) s).updLoop n (fun r => { r with restore := false })

/-- Every shed healthy phase of loop `n` is to be restored at the next position-0 edge (R89, R95, R108). -/
def State.restoreShed (s : State) (n : Nat) : State :=
  if (s.shedPhases n).isEmpty then s
  else ((s.updLoop n (fun r => { r with respace := true, restore := true })).surveyAbandon n).disarm (T.shed n)

/-! ## The slew tick (R74, R75, R79, R80) -/

/-- The step of one slew tick at a slew code, in 2^-24 V: rate × 100 ns, rounded (R74). -/
def slewStep (code : Nat) : Nat := (2 * code * 5 * 16777216 + 1000000) / 2000000

/-- One step of `r` toward `t` by `d`, ending on `t` (R74). -/
def stepToward (r t d : Nat) : Nat := if r < t then min t (r + d) else max t (r - d)

/-- Accepted targets count toward the thresholds of a transition (R80). -/
def State.countTargets (s : State) (n : Nat) (q : List QueuedCmd) : State :=
  let ts := q.map QueuedCmd.target
  s.updLoop n (fun x => { x with hi := ts.foldl max x.hi, lo := ts.foldl min x.lo })

/-- The transition of loop `n` begins or goes on with the commands accepted since the last tick: the
mask, the highest and lowest targets, the restore of shed phases (R79, R80, R89). -/
def State.beginTransition (s : State) (n : Nat) (q : List QueuedCmd) (t r : Nat) : State :=
  let masked := s.bit (R.LOOP_STATUS.PG_MASK n)
  let old := s.target n
  let s := if masked then s else
    s.updLoop n (fun x => { x with hi := old, lo := old, pgHeld := s.loopPg n })
  let s := (s.countTargets n q).updLoop n (fun x => { x with rate := r, moving := true })
  let s := (s.setB (R.LOOP_STATUS.PG_MASK n) true).disarm (T.pgMask n)
  ((s.setTarget n t).setBase n L.trans).restoreShed n

/-- The commands accepted since the last tick take effect (R75): the last one wins, every one of them counts
toward the thresholds. -/
def State.applyQueued (s : State) (n : Nat) : State :=
  let q := (s.loop n).queued
  match q.getLast? with
  | none => s
  | some c =>
    let s := s.updLoop n (fun x => { x with queued := [] })
    if s.lbase n = L.start then (s.countTargets n q).setTarget n c.target
    else if c.target * 4096 = (s.loop n).ref && !s.bit (R.LOOP_STATUS.PG_MASK n) then s.setTarget n c.target
    else s.beginTransition n q c.target c.rate

/-- Diode emulation from the loop current (R88): forced on from a start until REG, and forced off by a forecast until
it is fulfilled or unwound (R124). -/
def State.updateDe (s : State) (n : Nat) : State :=
  let foreseen := match (s.loop n).forecast with
    | some f => !f.fulfilled
    | none => false
  if (s.loop n).deForced then s.setB (R.LOOP_STATUS.DE n) true
  else if foreseen then s.setB (R.LOOP_STATUS.DE n) false
  else if s.bit (R.LOOP_DE.EN n) = false || s.lbase n = L.stop then s.setB (R.LOOP_STATUS.DE n) false
  else
    let i := (s.loop n).cur
    if i < (s.fld (R.LOOP_DE.ON n) * 100 : Nat) then s.setB (R.LOOP_STATUS.DE n) true
    else if (s.fld (R.LOOP_DE.OFF n) * 100 : Nat) < i then s.setB (R.LOOP_STATUS.DE n) false
    else s

/-- The loop enters REG; the first time after a start its first survey burst is due min(PERIOD, 1 s) later (R111). -/
def State.enterReg (s : State) (n : Nat) : State :=
  let s := ((s.setBase n L.reg).updLoop n (fun x => { x with deForced := false })).updateDe n
  if (s.loop n).svFirst then (s.updLoop n (fun x => { x with svFirst := false })).arm (T.survey n) 1000000000 else s

/-- What reaching the target does (R79, R81): REG at the end of a start ramp, the settling mask after a
transition or after the restart of R86. -/
def State.rampDone (s : State) (n : Nat) : State :=
  let s := s.updLoop n (fun x => { x with moving := false })
  let settle := min 1000 (max 1 (s.fld (R.LOOP_TIME.TSET n))) * 1000
  if s.lbase n = L.start then
    if s.bit (R.LOOP_STATUS.PG_MASK n) then (s.setBase n L.settle).arm (T.pgMask n) settle
    else s.enterReg n
  else (s.setBase n L.settle).arm (T.pgMask n) settle

/-- A loop enters OFF: its phases idle, so at mid but for those an over-voltage holds low, the lock free, the survey
abandoned, the under-voltage comparator disarmed (R78, R81).  A command accepted and not yet applied at a slew tick is
dropped, here, at a stop and in FAULT, and the target stays (DESIGN CHOICE, log entry 187). -/
def State.enterOff (s : State) (n : Nat) : State :=
  let s := (s.surveyAbandon n).cancelForecast n
  let s := (s.setF (R.LOOP_STATUS.STATE n) L.off).updLoop n (fun x =>
    { x with nlFrom := none, moving := false, queued := [], uvArmed := false, clkHeld := false, deForced := false })
  let s := ((s.setB (R.LOOP_STATUS.PG_MASK n) false).setB (R.LOOP_STATUS.ILIM n) false).setB (R.LOOP_STATUS.DE n) false
  let s := (((s.disarm (T.pgMask n)).disarm (T.ilf n)).disarm (T.shed n)).disarm (T.nlMax n)
  (s.freeLock n).idlePhases n

/-- The move of the reference at one slew tick (R74, R81). -/
def State.moveRef (s : State) (n : Nat) : State :=
  let b := s.lbase n
  if b = L.start then
    let r := stepToward (s.loop n).ref (s.target n * 4096) (slewStep (slewCode (s.fld (R.LOOP_SLEW.START_RATE n))))
    let s := s.setRef n r
    if r = s.target n * 4096 then s.rampDone n else s
  else if b = L.stop then
    let r := stepToward (s.loop n).ref 0 (slewStep (slewCode (s.fld (R.LOOP_SLEW.START_RATE n))))
    let s := s.setRef n r
    if r = 0 then s.enterOff n else s
  else if (s.loop n).moving then
    let r := stepToward (s.loop n).ref (s.target n * 4096) (slewStep (s.loop n).rate)
    let s := s.setRef n r
    if r = s.target n * 4096 then s.rampDone n else s
  else s

/-- `k` steps of the survey's shift register: x^11 + x^9 + 1, shifting toward the high bit (R112). -/
def lfsr11 : (k : Nat) → Nat → Nat
  | 0, x => x
  | k + 1, x => lfsr11 k ((2 * x + (x / 1024 + x / 256) % 2) % 2048)

/-- The survey amplitude in 2^-24 V: AMP × 0.25 mV, capped at a quarter of the smaller margin (R112). -/
def State.surveyAmp (s : State) (n : Nat) : Nat :=
  let a := min (min 16 (max 1 (s.fld (R.SV_CFG.AMP n)))) (min (s.fld (R.LOOP_PGW.PGL n)) (s.fld (R.LOOP_PGW.PGH n)))
  (2 * a * 4194304 + 1000) / 2000

/-- The perturbation at a slew tick: the present chip's sign while a burst runs, 0 otherwise (R112, R113). -/
def State.movePert (s : State) (n : Nat) : State :=
  if s.fld (R.SV_STATUS.STATE n) = 1 then
    let c := (s.ns - (s.loop n).svRun) / s.surveyChip n
    let x := lfsr11 (c - (s.loop n).svChip) (s.loop n).svLfsr
    let a : Int := s.surveyAmp n
    s.updLoop n (fun r => { r with svChip := c, svLfsr := x, pert := if x / 1024 % 2 = 1 then a else -a })
  else if (s.loop n).pert = 0 then s
  else s.updLoop n (fun r => { r with pert := 0 })

/-- The pre-raise at a slew tick: toward its target until the step time, back to 0 while unwinding, never past VMAX
with the ramp value; and the forecast ends when an unwinding pre-raise is 0 (R125, R126). -/
def State.movePreraise (s : State) (n : Nat) : State :=
  match (s.loop n).forecast with
  | none => s
  | some f =>
    let d := slewStep (slewCode (s.fld (R.IL_FC.PRATE n)))
    let p := (s.loop n).preraise.toNat
    let room := s.fld (R.LOOP_VLIM.VMAX n) * 4096 - (s.loop n).ref
    let q := min room (if f.unwinding then stepToward p 0 d
      else if f.time ≤ s.ns || f.fulfilled then p else stepToward p (s.loop n).preTarget.toNat d)
    if f.unwinding && q = 0 then s.endForecast n else s.updLoop n (fun r => { r with preraise := (q : Nat) })

/-- The reference the compensator follows: the ramp value with the perturbation and the pre-raise. -/
def State.totalRef (s : State) (n : Nat) : Nat :=
  (((s.loop n).ref : Int) + (s.loop n).pert + (s.loop n).preraise).toNat

/-- The tick of the set-point generator of loop `n`, 100 ns after the one before (R74); a loop in FAULT or
whose PLL_P is out of lock holds its reference (R85, R86).  The references of the last 1 µs are kept in every state
(R90). -/
def State.slewTick (s : State) (n : Nat) : State :=
  let s := match s.deadline (T.slew n) with
    | some d => s.notBefore d
    | none => s
  let s := s.arm (T.slew n) 100
  let s := (s.watchBurst n).dueForecast n
  let s := if s.lstate n = L.fault || s.lstate n = L.off then s
    else if (s.loop n).clkHeld then s.movePert n
    else (((s.applyQueued n).moveRef n).movePert n).movePreraise n
  let r := s.totalRef n
  s.updLoop n (fun x => { x with refHist := (r :: x.refHist).take 10, lastRank := 0 })

/-- The end of the power-good mask TSET after the final target (R79, R80). -/
def State.endMask (s : State) (n : Nat) : State :=
  let s := s.setB (R.LOOP_STATUS.PG_MASK n) false
  let s := if s.lbase n = L.settle then s.enterReg n else s
  s.updLoop n (fun x => { x with hi := s.target n, lo := s.target n })

/-! ## Periods and positions (R70, R71, R94) -/

/-- The reference period LOOP_REF_CFG sets, in PWM steps (R70). -/
def State.cfgPeriod (s : State) : Nat := min 96000 (max 4800 (s.fld R.LOOP_REF_CFG.PER))

/-- The sync reference period in use, in PWM steps: the tracked one while it follows SYNC_IN (R70, R71). -/
def State.refPeriod (s : State) : Nat :=
  if s.bit R.LOOP_REF_CFG.SRC && s.fld R.LOOP_REF_STATUS.PER ≠ 0 then s.fld R.LOOP_REF_STATUS.PER else s.cfgPeriod

/-- The loop period in PWM steps, round(PER / MUL) within 200 kHz to 4 MHz, and whether it was clamped (R70). -/
def State.loopPeriod (s : State) (n : Nat) : Nat × Bool :=
  let m := max 1 (min 16 (s.fld (R.LOOP_SYNC.MUL n)))
  let p := (2 * s.refPeriod + m) / (2 * m)
  if p < 4800 then (4800, true) else if 96000 < p then (96000, true) else (p, false)

/-- The position of the `j`-th of `m` active phases in steps: round(j × P / M) (R94). -/
def phasePos (p m j : Nat) : Nat := if m = 0 then 0 else (2 * j * p + m) / (2 * m)

/-! ## Start and stop (R64, R81, R109) -/

/-- The positions in use of loop `n` in steps of its present period, which is what R94 takes them in. -/
def State.reposition (s : State) (n : Nat) : State :=
  ((s.active n).filter (fun p => s.fld (R.PH_STATUS.POS p) ≠ 0x1F)).foldl (fun s p => s.updPhase p (fun r =>
    { r with pos := phasePos (s.loopPeriod n).1 (s.loop n).placed (s.fld (R.PH_STATUS.POS p)) })) s

/-- The configuration words that wait for a compensator update of loop `n` come into use (R87). -/
def State.takePending (s : State) (n : Nat) : State :=
  if (s.loop n).pend.isEmpty then s
  else ((s.loop n).pend.foldl (fun s e => s.setReg e.1 ((s.reg e.1 &&& ~~~e.2.1) ||| (e.2.2 &&& e.2.1)))
    (s.updLoop n (fun x => { x with pend := [] }))).reposition n

/-- A phase at the start of its loop: healthy, trusted, zero trim and counts, with the stage-fault blank (R103, R109).
Its temperature warning and what its stage-fault comparator reads go on; a TMF already low is judged at the end of the
blank, be it at once.  TMAX holds no reading since the start, so it is at its smallest value until the first one
(DESIGN CHOICE, log entry 188). -/
def State.startPhase (s : State) (p : Nat) : State :=
  let warn := s.bit (R.PH_STATUS.WARN p)
  let low := s.bit (R.PH_STATUS.TMF_LOW p)
  let s := ((s.setReg (R.PH_STATUS.reg p) 0#32).setF (R.PH_STATUS.STATE p) 2).setF (R.PH_STATUS.POS p) 0x1F
  let s := (s.setB (R.PH_STATUS.WARN p) warn).setB (R.PH_STATUS.TMF_LOW p) low
  let s := ((s.setReg (R.PH_TRIM.reg p) 0#32).setReg (R.PH_FLUX.reg p) 0#32).setReg (R.PH_OCCNT.reg p) 0#32
  let s := s.setF (R.PH_TEMP.TMAX p) 0x8000
  let s := s.updPhase p (fun r => { PhaseState.zero with warm := r.warm, cool := r.cool })
  let b := s.fld (R.PH_TMF.SBLK p) * 125000
  if b = 0 && !low then s else (s.setB (R.PH_STATUS.BLANKING p) true).arm (T.stageBlank p) b

/-- The active phases of loop `n` take the positions of R94 at once, as at a start. -/
def State.placePhases (s : State) (n : Nat) : State :=
  let act := s.active n
  let per := (s.loopPeriod n).1
  act.zipIdx.foldl (fun s e => (s.setF (R.PH_STATUS.POS e.1) e.2).updPhase e.1 (fun r =>
    { r with pos := phasePos per act.length e.2, shift := 0, turn := 0 }))
    (s.updLoop n (fun x => { x with placed := act.length }))

/-- The sequencer's start of loop `n` (R64, R81, R109): ignored without an assigned phase.  A loop that starts while
PLL_P is out of lock holds like a running one (R86).  Its first phase turns on at the offset set (R72).  LOOP_NL_CNT and
LOOP_REFUSE go on counting: their start is the device's (DESIGN CHOICE, log entry 189). -/
def State.loopStart (s : State) (n : Nat) : State :=
  if (s.assigned n).isEmpty || s.lstate n = L.fault then s
  else
    let s := s.takePending n
    let ps := s.assigned n
    let s := s.abandonSlices (fun code i => (code == 6 && i == n) || (code == 7 && ps.contains i))
    let s := (s.assigned n).foldl State.startPhase s
    let f := s.takeFree
    let s := f.2
    let v := s.fld (R.LOOP_VOUT.VOUT n)
    let u : Int := ((Config.freeWord f.1).toNat % 0x6000000 : Nat)
    let ofs := s.fld (R.LOOP_SYNC.OFS n)
    let s := s.updLoop n (fun x => { x with
      queued := [], moving := true, rate := 0, nlFrom := none, uvArmed := false, ovLow := false,
      clkHeld := decide (s.sys.pllP ≠ .locked), e1 := 0, e2 := 0, p1 := 0, p2 := 0, p3 := 0, u := u, out := u,
      svFirst := true, curSum := 0, curCnt := 0, cycle := 0, respace := false, restore := false,
      deForced := true, ofsNow := if ofs < 3600 then ofs else x.ofsNow, hi := s.target n, lo := s.target n })
    let s := s.setRef n (v * 4096)
    let s := (s.setF (R.LOOP_STATUS.CAUSE n) 0).setF (R.LOOP_STATUS.CAUSE_ALL n) 0
    let s := ((s.setB (R.LOOP_STATUS.PG_MASK n) false).setB (R.LOOP_STATUS.DE n) true).setB (R.LOOP_STATUS.ILIM n) false
    let s := s.setF (R.LOOP_STATUS.STATE n) L.start
    let s := (s.setF (R.PH_LSTAT.RESP n) 0).setB (R.PH_LSTAT.SAT n) false
    (s.placePhases n).showPhases n

/-- The sequencer's stop of loop `n` by LOOP_CFG.OFFM; a loop in FAULT enters OFF at once (R81). -/
def State.loopStop (s : State) (n : Nat) : State :=
  let st := s.lstate n
  if st = L.off then s
  else if st = L.fault || s.bit (R.LOOP_CFG.OFFM n) = false then s.enterOff n
  else
    let s := (s.surveyAbandon n).cancelForecast n
    let s := (s.updLoop n (fun x => { x with
      nlFrom := none, moving := false, queued := [], uvArmed := false, deForced := false })).disarm (T.pgMask n)
    ((s.setB (R.LOOP_STATUS.PG_MASK n) false).setF (R.LOOP_STATUS.STATE n) L.stop).updateDe n

/-! ## Faults of a loop (R82 to R85) -/

/-- A rail at reset. -/
def RailState.zero : RailState := ⟨0, none, none, none, none, none, false, .none, false, false, false⟩

/-- The row of rail `r`. -/
def State.rail (s : State) (r : Nat) : RailState := s.rails.at RailState.zero r

/-- A group at reset. -/
def GroupState.zero : GroupState := ⟨[], false, false, false⟩

/-- The row of group `g`. -/
def State.group (s : State) (g : Nat) : GroupState := s.groups.at GroupState.zero g

/-- Whether a group shut-down that has rail `r` in its closure is in its stopping part (R142). -/
def State.groupStops (s : State) (r : Nat) : Bool :=
  (List.range 16).any (fun g => s.fld (R.SEQ_GRP_STATUS.STATE g) = 1 && (s.group g).closure.contains r)

/-- Whether rail `r` fails during a power-down or the stopping part of a group or system reaction (R145). -/
def State.railPd (s : State) (r : Nat) : Bool :=
  s.powerDown || ((s.rail r).stopFor = .group && s.groupStops r) ||
    ((s.rail r).stopFor = .system && s.seq.sysReset = .stopping)

/-- The enabled rail whose loop is `n`, if any (R129). -/
def State.railOfLoop (s : State) (n : Nat) : Option Nat :=
  (List.range 64).find? (fun r => s.bit (R.SEQ_RAIL_CFG.EN r) && !s.bit (R.SEQ_RAIL_CFG.KIND r) &&
    s.fld (R.SEQ_RAIL_CFG.LOOP r) = n)

/-- The during-power-down flag of loop `n`'s records (R145). -/
def State.loopPd (s : State) (n : Nat) : Bool :=
  match s.railOfLoop n with
  | some r => s.railPd r
  | none => s.powerDown

/-- The PMBus status that a loop cause latches (Tables 14.3 and 14.4, R281): `first` for the cause that
LOOP_STATUS.CAUSE takes. -/
def State.pmCause (s : State) (n c : Nat) (first : Bool) : State :=
  let s := if c = 1 || c = 2 then s.pmStat R.HOST_PMST.VOUT n 0x80
    else if c = 3 then s.pmStat R.HOST_PMST.VOUT n 0x10
    else if c = 4 then s.pmStat R.HOST_PMST.IOUT n 0x80 else s
  if first then s.pmLatch n (if c = 1 || c = 2 then 0x20 else if c = 3 then 0 else if c = 4 then 0x10 else 1) else s

/-- A fault of loop `n` with cause `c` of LOOP_STATUS.CAUSE (R85): the first cause is kept, a later one sets
only its bit; entering FAULT freezes the loop, ends the switching of its phases, frees the lock, abandons the survey
and raises EV_n and FS_nn, with the cause that LOOP_STATUS.CAUSE then holds (R223). -/
def State.loopFault (s : State) (n c : Nat) : State :=
  let was := s.lstate n = L.fault
  let all := s.fld (R.LOOP_STATUS.CAUSE_ALL n)
  let s := (s.setF (R.LOOP_STATUS.CAUSE_ALL n) (all ||| 2 ^ (c - 1))).pmCause n c (!was)
  if was then s
  else
    let s := ((s.surveyAbandon n).cancelForecast n).setF (R.LOOP_STATUS.CAUSE n) c
    let s := (s.setF (R.LOOP_STATUS.STATE n) L.fault).updLoop n (fun x =>
      { x with nlFrom := none, moving := false, queued := [], uvArmed := false, deForced := false })
    let s := (s.setB (R.LOOP_STATUS.PG_MASK n) false).setB (R.LOOP_STATUS.ILIM n) false
    let s := (((s.disarm (T.pgMask n)).disarm (T.ilf n)).disarm (T.shed n)).disarm (T.nlMax n)
    let s := (s.idlePhases n).freeLock n
    ((s.event n).raiseWith n c 1 (s.loopPd n)).ilLoopFault n

/-- An over-voltage of loop `n`, by the absolute ceiling or the threshold (R82, R85): phases low until the
output falls below the target. -/
def State.loopOv (s : State) (n : Nat) (ceiling : Bool) : State :=
  let c := if ceiling then 2 else 1
  let was := s.lstate n = L.fault
  let s := s.loopFault n c
  let s := if was then s.raiseWith n c 1 (s.loopPd n) else s
  s.updLoop n (fun x => { x with ovLow := true })

/-! ## Loss of a phase and suspect sense (R105, R107) -/

/-- Phase `p` is lost with cause `c`, coded as PH_STATUS.LOSS: mid, out of the active set, trim 0, recorded;
the survey of its loop is abandoned (R105, R113).  Positions change only where it was active (R108). -/
def State.losePhase (s : State) (p c : Nat) : State :=
  let n := s.fld (R.PH_CFG.LOOP p)
  let moves := s.fld (R.PH_STATUS.STATE p) = 2
  let s := (s.setF (R.PH_STATUS.STATE p) 4).setF (R.PH_STATUS.LOSS p) c
  let s := ((s.setF (R.PH_STATUS.POS p) 0x1F).setF (R.PH_TRIM.TRIM p) 0).setB (R.PH_STATUS.TRIM_SAT p) false
  let s := (s.setB (R.PH_STATUS.BLANKING p) false).disarm (T.stageBlank p)
  let s := s.updPhase p (fun r => { r with cut := none, trimFine := 0 })
  let s := if moves then s.updLoop n (fun r => { r with respace := true }) else s
  let s := s.traceRec (0x0200 + p) 2 (n * 256 + c)
  let s := s.pmStat R.HOST_PMST.MFR n 1
  let s := if c = 3 then s.pmStat R.HOST_PMST.TEMP n 0x80 else s
  ((s.surveyAbandon n).raise (if c = 1 then 24 else 26)).showPhases n

/-- Whether the healthy phases of loop `n` are fewer than NMINF (R85, R105): in OFF too (DEDUCED, log entry 144). -/
def State.tooFew (s : State) (n : Nat) : Bool :=
  decide ((s.healthy n).length < max 1 (s.fld (R.LOOP_CFG.NMINF n)))

/-! ## The compensator (R66 to R68, R84, R88, R99, R100, R107) -/

/-- The compensator update rate in units of 0.5 MS/s (R66). -/
def State.updRate (s : State) (n : Nat) : Nat := 2 ^ (4 - min 4 (s.fld (R.LOOP_CFG.UPD n)))

/-- The sum, over the active phases, of the last cycle-average currents, a suspect one counting the mean of the
trusted ones; the frozen last value where no active phase is trusted (R84, R101). -/
def State.loopCurrent (s : State) (n : Nat) : Int :=
  let tr := s.trusted n
  let act := s.active n
  if act.isEmpty then 0
  else if tr.isEmpty then (s.loop n).cur
  else
    let sum := (tr.map (fun p => (s.phase p).cyc)).sum
    sum + (act.length - tr.length : Int) * (sum.tdiv tr.length)

/-- The mean cycle-average current of the trusted active phases: the share I_S of R99; 0 without any (DESIGN CHOICE,
log entry 152). -/
def State.share (s : State) (n : Nat) : Int :=
  let tr := s.trusted n
  if tr.isEmpty then 0 else ((tr.map (fun p => (s.phase p).cyc)).sum).tdiv tr.length

/-- Every sense-suspect phase of loop `n` reads the share in PH_IOUT (R101). -/
def State.showShare (s : State) (n : Nat) : State :=
  ((s.assigned n).filter (fun p => s.bit (R.PH_STATUS.SUB p))).foldl (fun s p => s.setI (R.PH_IOUT.IOUT p) (s.share n)) s

/-- Phase `p` becomes sense-suspect with cause `c`, coded as PH_STATUS.SUSC, with its sillage record; its current
reads as the share (R101, R106, R107). -/
def State.suspectPhase (s : State) (p c : Nat) : State :=
  let n := s.fld (R.PH_CFG.LOOP p)
  let s := ((s.setB (R.PH_STATUS.SUSPECT p) true).setF (R.PH_STATUS.SUSC p) c).setB (R.PH_STATUS.SUB p) true
  let s := (s.showShare n).traceRec (0x0200 + p) 3 (n * 256 + c)
  ((s.surveyAbandon n).pmStat R.HOST_PMST.MFR n 2).showPhases n

/-- The effective current limit from the lost phases (R84, R105 step 4). -/
def State.updateLimit (s : State) (n : Nat) : State :=
  let all := (s.assigned n).length
  let k := ((s.assigned n).filter s.lost).length
  let lim := min 24000 (s.fld (R.LOOP_ILIM.LIM n))
  s.setF (R.LOOP_ILIM_EFF.LIM n) (if all = 0 then lim else lim * (all - k) / all)

/-- The saturation of the compensator's 48-bit arithmetic (R66). -/
def sat48 (i : Int) : Int := clampInt (-(2 ^ 47)) (2 ^ 47 - 1) i

/-- The largest compensator output, 6.0 V in 2^-24 V (R66). -/
def uMax : Int := 6 * 2 ^ 24

/-- One update of the fourth-order compensator with mean error `e` in 2^-24 V: two zeros over the last errors, gain,
three poles, integrator; `hold` stops the integrator (R66, R69, R84).  The delay line holds errors, not their products
with coefficients, so that a change of coefficients moves no output by itself (R68). -/
def State.compensate (s : State) (n : Nat) (e : Int) (hold : Bool) : State :=
  let x := s.loop n
  let k := (s.fld (R.LOOP_CK_EFF.COEF n) : Int)
  let z1 := (s.fld (R.LOOP_CZ1_EFF.COEF n) : Int)
  let z2 := (s.fld (R.LOOP_CZ2_EFF.COEF n) : Int)
  let b := sat48 (k * (e * 2 ^ 48 - (z1 + z2) * x.e1 * 2 ^ 24 + z1 * z2 * x.e2) / 2 ^ 64)
  let p1 := sat48 (b + (s.fld (R.LOOP_CP1.COEF n) : Int) * x.p1 / 2 ^ 24)
  let p2 := sat48 (p1 + (s.fld (R.LOOP_CP2.COEF n) : Int) * x.p2 / 2 ^ 24)
  let p3 := sat48 (p2 + (s.fld (R.LOOP_CP3.COEF n) : Int) * x.p3 / 2 ^ 24)
  let u := if hold then x.u else clampInt 0 uMax (x.u + p3)
  s.updLoop n (fun r => { r with e1 := e, e2 := x.e1, p1 := p1, p2 := p2, p3 := p3, u := u, out := u })

/-- The commissioned coefficients copied to those in use (R68). -/
def State.loadCoefs (s : State) (n : Nat) : State :=
  ((s.setF (R.LOOP_CK_EFF.COEF n) (s.fld (R.LOOP_CK.COEF n))).setF
    (R.LOOP_CZ1_EFF.COEF n) (s.fld (R.LOOP_CZ1.COEF n))).setF (R.LOOP_CZ2_EFF.COEF n) (s.fld (R.LOOP_CZ2.COEF n))

/-- The commissioned coefficients that a live parameter write or a scheduled switch has marked are copied to those in
use (R68, R87). -/
def State.reloadCoefs (s : State) (n : Nat) : State :=
  let m := (s.loop n).coefReload
  if m = 0 then s
  else
    let s := if m.testBit 0 then s.setF (R.LOOP_CK_EFF.COEF n) (s.fld (R.LOOP_CK.COEF n)) else s
    let s := if m.testBit 1 then s.setF (R.LOOP_CZ1_EFF.COEF n) (s.fld (R.LOOP_CZ1.COEF n)) else s
    let s := if m.testBit 2 then s.setF (R.LOOP_CZ2_EFF.COEF n) (s.fld (R.LOOP_CZ2.COEF n)) else s
    s.updLoop n (fun r => { r with coefReload := 0 })

/-- The trim step of phase `p` in 2^-32 duty (R99 step 2). -/
def State.trimStep (s : State) (n p : Nat) (share : Int) : Int :=
  let fc := max 1 (s.fld (R.PH_LBAL.FC n))
  let rp := max 1 (s.fld (R.PH_IND.RPATH p))
  let vst := max 1 (s.stageSupply n)
  (share - (s.phase p).cyc) * (fc * rp * 6283185307 * 4294967296 * 5 : Nat) /
    (1000000000 * 10000000 * 500 * s.updRate n * vst : Nat)

/-- The largest trim, 5,242 in Q0.16, in 2^-32. -/
def trimMax : Int := 5242 * 65536

/-- The trim of phase `p`, clamped and shown (R99 step 4). -/
def State.setTrim (s : State) (p : Nat) (fine : Int) : State :=
  let f := clampInt (-trimMax) trimMax fine
  let s := s.updPhase p (fun r => { r with trimFine := f })
  (s.setI (R.PH_TRIM.TRIM p) (f / 65536)).setB (R.PH_STATUS.TRIM_SAT p) (decide (f = trimMax ∨ f = -trimMax))

/-- Whether the balance loop of loop `n` acts (R99, R100). -/
def State.balances (s : State) (n : Nat) : Bool :=
  s.bit (R.PH_LBAL.EN n) && s.regulating n && !s.bit (R.LOOP_STATUS.DE n) &&
  decide ((min 100 (s.fld (R.PH_LBAL.FRZ n)) * min 24000 (s.fld (R.LOOP_ILIM.LIM n)) : Int) ≤ (s.loop n).cur * 10)

/-- One update of the balance loop (R99): the mean of all active trims is taken from each, but for those that R107
holds (DEDUCED, log entry 150). -/
def State.balance (s : State) (n : Nat) : State :=
  if s.balances n then
    let share := s.share n
    let act := s.active n
    let s := (s.trusted n).foldl (fun s p =>
      s.updPhase p (fun r => { r with trimFine := r.trimFine + s.trimStep n p share })) s
    let mean := if act.isEmpty then 0 else ((act.map (fun p => (s.phase p).trimFine)).sum).tdiv act.length
    (act.filter (fun p => !(s.phase p).taken)).foldl (fun s p => s.setTrim p ((s.phase p).trimFine - mean)) s
  else s

/-- The trim a suspect phase takes: the mean of its active neighbours in slot order (R107). -/
def State.neighbourTrim (s : State) (n p : Nat) : Int :=
  let act := s.active n
  let others := act.filter (fun q => q ≠ p)
  let i := act.idxOf p
  match others.length with
  | 0 => 0
  | 1 => (s.phase (others.getD 0 0)).trimFine
  | _ =>
    let l := act.length
    ((s.phase (act.getD ((i + l - 1) % l) 0)).trimFine + (s.phase (act.getD ((i + 1) % l) 0)).trimFine).tdiv 2

/-- The active suspect phases not yet handled take their neighbours' trim (R107), whether R100 holds the trims or not
(DESIGN CHOICE, log entry 151).  Several that become suspect before one update are taken in slot order, a later one from
the trims that the earlier ones took (DESIGN CHOICE, log entry 184). -/
def State.takeSuspects (s : State) (n : Nat) : State :=
  let sus := (s.active n).filter (fun p => s.bit (R.PH_STATUS.SUSPECT p))
  sus.foldl (fun s p => if (s.phase p).taken then s else
    (s.setTrim p (s.neighbourTrim n p)).updPhase p (fun r => { r with taken := true })) s

/-- The duties of the active phases: u / V_ST plus trim, within LOOP_DLIM (R67). -/
def State.setDuties (s : State) (n : Nat) : State :=
  let vst := max 1 (s.stageSupply n)
  (s.active n).foldl (fun s p =>
    let d := (s.loop n).out * 65536000 / (vst * 16777216 : Nat) + s.sfld (R.PH_TRIM.TRIM p)
    let c := clampInt (s.fld (R.LOOP_DLIM.DMIN n)) (s.fld (R.LOOP_DLIM.DMAX n)) d
    s.updPhase p (fun r => { r with duty := c.toNat })) s

/-- The loop current limit (R84): LOOP_STATUS.ILIM, its event and its time.  TILF, TUV, TSHED and TSET above 1,000 act
as 1,000 (DESIGN CHOICE, log entry 147). -/
def State.updateIlim (s : State) (n : Nat) : State :=
  let ovr := decide ((s.fld (R.LOOP_ILIM_EFF.LIM n) * 10 : Nat) < (s.loop n).cur)
  let was := s.bit (R.LOOP_STATUS.ILIM n)
  let s := s.setB (R.LOOP_STATUS.ILIM n) ovr
  let s := if ovr then s.pmStat R.HOST_PMST.IOUT n 0x20 else s
  if ovr && !was then (s.event n).arm (T.ilf n) (min 1000 (max 1 (s.fld (R.LOOP_ILIM.TILF n))) * 10000)
  else if ovr then s else s.disarm (T.ilf n)

/-- The shedding and restoring conditions on the loop current (R89). -/
def State.updateShed (s : State) (n : Nat) : State :=
  if s.bit (R.LOOP_SHED.EN n) = false || s.lstate n ≠ L.reg then s.disarm (T.shed n)
  else
    let m := (s.active n).length
    let i := (s.loop n).cur
    let s := if (s.fld (R.LOOP_SHED.IA n) * 50 * m : Int) < i then s.restoreShed n else s
    let low := max 1 (s.fld (R.LOOP_SHED.NMIN n)) < m && decide (i < (s.fld (R.LOOP_SHED.IS n) * 50 * (m - 1) : Nat))
    if low then (if s.runs (T.shed n) then s else s.arm (T.shed n) (min 1000 (max 1 (s.fld (R.LOOP_TIME.TSHED n))) * 100000))
    else s.disarm (T.shed n)

/-- An error word as the converter of R65 gives it, in steps of 0.25 mV, and whether it saturated.  A coarse word is
the step toward zero (DESIGN CHOICE, log entry 145). -/
def errorWord (e : Int) : Int × Bool :=
  if e.natAbs ≤ 256 then (e, false)
  else if e.natAbs ≤ 5120 then (e.tdiv 40 * 40, false)
  else (if 0 < e then 5120 else -5120, true)

/-- The mean of a list of error words, in 2^-24 V. -/
def meanError (errs : List Int) : Int :=
  if errs.isEmpty then 0
  else ((errs.map (fun e => (errorWord e).1)).sum * 4194304).tdiv (1000 * errs.length)

/-- A loop period in nanoseconds, rounded up. -/
def State.periodNs (s : State) (n : Nat) : Nat := ((s.loopPeriod n).1 * 5 + 95) / 96

/-- The nonlinear state of loop `n` ends (R69): interleaved switching resumes, and the state is not re-entered for one
loop period. -/
def State.endNl (s : State) (n : Nat) : State :=
  match (s.loop n).nlFrom with
  | some base =>
    let s := (s.setF (R.LOOP_STATUS.STATE n) base).updLoop n (fun x => { x with nlFrom := none })
    let s := (s.active n).foldl (fun s p => (s.updPhase p (fun r => { r with cut := none })).disarm (T.nlLow p)) s
    (s.disarm (T.nlMax n)).arm (T.nlHold n) (s.periodNs n)
  | none => s

/-- The loop current is evaluated (R84). -/
def State.evalCurrent (s : State) (n : Nat) : State :=
  let i := s.loopCurrent n
  s.updLoop n (fun r => { r with cur := i, curSum := r.curSum + i, curCnt := r.curCnt + 1 })

/-- One update of the compensator of loop `n` with the error words since the last one (R66 to R68, R84, R88,
R89, R99, R105, R107): the loop current in every state; a loop that is off, in FAULT or without PLL_P holds the rest of
its state (R85, R86). -/
def State.compUpdate (s : State) (n : Nat) (errs : List Int) : State :=
  let s := (((s.takePending n).reloadCoefs n).updateLimit n).evalCurrent n
  if s.lstate n = L.off || s.lstate n = L.fault || (s.loop n).clkHeld then s
  else
    let s := ((s.updateIlim n).updateDe n).takeSuspects n
    let lim := s.bit (R.LOOP_STATUS.ILIM n)
    let s := if lim && (s.loop n).nlUnder then s.endNl n else s
    let s := s.compensate n (meanError errs) (lim || s.lstate n = L.nl)
    let f := s.takeFree
    let s := if lim then f.2.updLoop n (fun r => { r with out := (Config.freeWord f.1).toNat % 0x6000001 }) else s
    ((s.balance n).setDuties n).updateShed n

/-! ## Switching cycles (R70, R72, R94 to R98, R101, R104, R106) -/

/-- A shift taken modulo `p` into (−p/2, p/2] (R95). -/
def wrapShift (p : Nat) (d : Int) : Int :=
  let r := d % p
  if (p : Int) < 2 * r then r - p else r

/-- The new active set of loop `n` takes its positions at the position-0 edge (R94, R95): the shift of each
phase, the start of the restored ones, and the count of re-spacings. -/
def State.respace (s : State) (n : Nat) : State :=
  let p := (s.loopPeriod n).1
  let s := if (s.loop n).restore then s.activateShed n else s
  let act := s.active n
  let s := act.zipIdx.foldl (fun s e =>
    let new := phasePos p act.length e.2
    let was := s.fld (R.PH_STATUS.POS e.1) ≠ 0x1F
    let sh := if was then wrapShift p ((new : Int) - (s.phase e.1).pos) else 0
    let s := s.updPhase e.1 (fun r => { r with pos := new, shift := sh, turn := (s.loop n).cycle })
    s.setF (R.PH_STATUS.POS e.1) e.2) s
  let s := s.updLoop n (fun r => { r with respace := false, restore := false, placed := act.length })
  (s.count B.phase (R.PH_LSTAT.RESP n) (R.PH_LSTAT.SAT n)).showPhases n

/-- The remainder that the last period of a group of MUL absorbs, in steps; none at a clamped frequency (R70). -/
def State.remainder (s : State) (n : Nat) : Int :=
  let m := max 1 (min 16 (s.fld (R.LOOP_SYNC.MUL n)))
  let p := s.loopPeriod n
  if p.2 then 0 else (s.refPeriod : Int) - (m * p.1 : Nat)

/-- The carrier period of the present cycle of phase `p` of loop `n`, in steps: the loop period, the remainder in the
last period of the group, and the shift of a re-spacing (R70, R95). -/
def State.carrier (s : State) (n p : Nat) : Nat :=
  let m := max 1 (min 16 (s.fld (R.LOOP_SYNC.MUL n)))
  let r := s.phase p
  (((s.loopPeriod n).1 : Int) + r.shift + (if r.turn + 1 = m then s.remainder n else 0)).toNat

/-- An on-interval within the limits of R96, in picoseconds, in a carrier period of `full`. -/
def State.limitOn (s : State) (p full on : Nat) : Nat :=
  let minOn := s.fld (R.PH_TIME.MINON p) * 5000
  let minOff := s.fld (R.PH_TIME.MINOFF p) * 5000
  let on := if 2 * on < minOn then 0 else if on < minOn then minOn else on
  if full - on < minOff then full - minOff else on

/-- The on-interval that duty and trim ask of phase `p` in a carrier period of `full` picoseconds, before the limits
of R96. -/
def State.rawOn (s : State) (p full : Nat) : Nat := full * (s.phase p).duty / 65536

/-- The on-interval of the present cycle of phase `p` of loop `n` in picoseconds, with the pre-position of a forecast
(R96, R124). -/
def State.onTimeNow (s : State) (n p : Nat) : Nat :=
  let full := s.carrier n p * 625 / 12
  let r := s.phase p
  s.limitOn p full (if r.preCyc = 0 || r.preWait then s.rawOn p full else ((s.rawOn p full : Int) + r.preOn).toNat)

/-- The pre-position left after a cycle: it begins with the cycle after its moment; a lengthening is used up at once, a
shortening goes on over up to four cycles and its remainder is dropped (R124). -/
def State.usePrepos (s : State) (n p : Nat) : State :=
  let r := s.phase p
  if r.preCyc = 0 then s
  else if r.preWait then s.updPhase p (fun r => { r with preWait := false })
  else
    let full := s.carrier n p * 625 / 12
    let cut : Int := (s.limitOn p full (s.rawOn p full) : Int) - s.onTimeNow n p
    let left := if 0 ≤ r.preOn then 0 else min 0 (r.preOn + max 0 cut)
    let k := if left = 0 then 0 else r.preCyc - 1
    s.updPhase p (fun r => { r with preOn := if k = 0 then 0 else left, preCyc := k })

/-- The sense gain in 0.01 mV/A (R97). -/
def State.senseGain (s : State) (p : Nat) : Nat := min 4000 (max 100 (s.fld (R.PH_ISNS.GAIN p)))

/-- A sample in 0.1 mV as a current in units of 1 A / `k` (R97). -/
def State.sampleCurrent (s : State) (p k : Nat) (v : Int) : Int :=
  ((v - s.sfld (R.PH_ISNS.OFS p)) * (10 * k : Nat)).tdiv (s.senseGain p)

/-- The phase-open count after a cycle of an active phase with a trusted sense (R104), from the loop current of the
last compensator update. -/
def State.openCycle (s : State) (n p : Nat) : State :=
  if s.bit (R.PH_STATUS.SUSPECT p) || s.lstate n = L.nl || s.sys.pllP ≠ .locked then s
  else
    let cur := (s.loop n).cur
    let m := (s.active n).length
    let c := s.fld (R.PH_STATUS.OPENCNT p)
    if cur ≤ (2 * min 24000 (s.fld (R.LOOP_ILIM.LIM n)) : Nat) then s.setF (R.PH_STATUS.OPENCNT p) 0
    else if !s.regulating n then s
    else if (s.phase p).cyc * (20 * m : Nat) < cur then s.setF (R.PH_STATUS.OPENCNT p) (min 64 (c + 1))
    else s.setF (R.PH_STATUS.OPENCNT p) 0

/-- The flux count after a cycle with these samples (R106). -/
def State.fluxCycle (s : State) (n p : Nat) (c : CycleSamples) : State :=
  if s.bit (R.PH_STATUS.SUSPECT p) || !s.regulating n || s.bit (R.LOOP_STATUS.DE n) || s.fld (R.PH_STATUS.STATE p) ≠ 2 then s
  else
    let blank := min 20 (max 4 (s.fld (R.PH_TIME.BLANK p))) * 5000
    let w := (s.onTimeNow n p : Int) - blank - 10000
    let dv := (s.stageSupply n : Int) - (s.fld (R.LOOP_VOUT.VOUT n) * 1000 / 4096 : Nat)
    let est := dv * w / (1000 * max 1 (s.fld (R.PH_IND.L p)) : Nat)
    if w < 40000 || est < 1000 then s
    else
      let meas := ((c.peak - c.valley) * 10000).tdiv (s.senseGain p)
      let dev := meas - est
      let s := s.setI (R.PH_FLUX.DEV p) ((dev * 1000).tdiv est)
      let k := s.fld (R.PH_FLUX.CNT p)
      if est < 4 * dev.natAbs then s.setF (R.PH_FLUX.CNT p) (min 256 (k + 1)) else s.setF (R.PH_FLUX.CNT p) 0

/-- Whether a sample lies beyond ±1.1 V (R106). -/
def outOfRange (v : Int) : Bool := decide (11000 < v.natAbs)

/-- The end of a switching cycle of phase `p` (R97, R101, R104, R106): telemetry, the open, flux and range
counts, and the offset ramp and period bookkeeping of its loop when it is the first phase (R70, R72).  A new offset is
approached through the numbers between, never across 360° (DESIGN CHOICE, log entry 146).  With fewer than 16 cycles since the start, PH_IOUT is the mean of those
(DESIGN CHOICE, log entry 191). -/
def State.cycleEnd (s : State) (p : Nat) (c : CycleSamples) : State :=
  let n := s.fld (R.PH_CFG.LOOP p)
  if !s.phaseActive p then s
  else
    let cyc := s.sampleCurrent p 100 c.centre
    let range := if outOfRange c.valley || outOfRange c.centre || outOfRange c.peak then (s.phase p).range + 1 else 0
    let s := s.updPhase p (fun r => { r with
      cyc := cyc, hist := (cyc :: r.hist).take 16, range := min 4 range })
    let h := (s.phase p).hist
    let s := (s.setI (R.PH_IOUT.IOUT p) (h.sum.tdiv (max 1 h.length))).showShare n
    let s := (s.setI (R.PH_IPV.IPK p) (s.sampleCurrent p 10 c.peak)).setI (R.PH_IPV.IVAL p) (s.sampleCurrent p 10 c.valley)
    let s := ((s.openCycle n p).fluxCycle n p c).usePrepos n p
    let s := (s.setB (R.PH_STATUS.OCP p) (s.phase p).ocp).setB (R.PH_STATUS.OCN p) (s.phase p).ocn
    let m := max 1 (min 16 (s.fld (R.LOOP_SYNC.MUL n)))
    let s := s.updPhase p (fun r => { r with
      ocp := false, ocn := false, cut := none, shift := 0, turn := (r.turn + 1) % m })
    if s.fld (R.PH_STATUS.POS p) = 0 then
      let goal := s.fld (R.LOOP_SYNC.OFS n)
      let s := s.updLoop n (fun r => { r with
        cycle := (r.cycle + 1) % m, ofsNow := if goal < 3600 then stepToward r.ofsNow goal 36 else r.ofsNow })
      s.setB (R.LOOP_STATUS.FCLAMP n) (s.loopPeriod n).2
    else s

/-! ## Telemetry (R79, R90) -/

/-- LOOP_VOUT and LOOP_IOUT after 1 µs with these error words, the references of that time and the loop currents
evaluated in it, or else the last one, and the power-good window on them (R79, R90).  LOOP_STATUS.IN_PG follows the window
in every state (DEDUCED, log entry 192). -/
def State.telemetry (s : State) (n : Nat) (errs : List Int) : State :=
  let x := s.loop n
  let refs := if x.refHist.isEmpty then [s.totalRef n] else x.refHist
  let ref := refs.sum / refs.length
  let v := ((ref : Int) - meanError errs) / 4096
  let s := if s.sliceOn 6 n then s else s.setF (R.LOOP_VOUT.VOUT n) (clampInt 0 0xFFFF v).toNat
  let i := if x.curCnt = 0 then x.cur else x.curSum.tdiv x.curCnt
  let s := (s.setI (R.LOOP_IOUT.IOUT n) i).updLoop n (fun r => { r with curSum := 0, curCnt := 0 })
  let s := s.setB (R.LOOP_STATUS.SAT_E n) (errs.any (fun e => (errorWord e).2))
  let v := s.fld (R.LOOP_VOUT.VOUT n)
  let t := s.target n
  let inside := decide (t * 1000 ≤ v * 1000 + s.fld (R.LOOP_PGW.PGL n) * 4096) &&
    decide (v * 1000 ≤ t * 1000 + s.fld (R.LOOP_PGW.PGH n) * 4096)
  s.setB (R.LOOP_STATUS.IN_PG n) inside

end Sys2Proof.Machine
end

