-- ==== Sys2Proof/Machine/Survey.lean ====
section
/-! DEFINITION.  The loop survey with bounded retuning and capacitor health, and the load-intent links with
their forecasts (spec/06). -/

namespace Sys2Proof.Machine

/-! ## Bursts (R111 to R113) -/

/-- The burst period in nanoseconds. -/
def State.surveyPeriod (s : State) (n : Nat) : Nat := min 3600 (max 1 (s.fld (R.SV_CFG.PERIOD n))) * 1000000000

/-- A fresh sequence begins now, with `k` sequences to complete (R112, R113). -/
def State.runBurst (s : State) (n k : Nat) : State :=
  let s := s.updLoop n (fun r => { r with svRun := s.ns, svLeft := k, svChip := 0, svLfsr := n + 1 })
  (s.setF (R.SV_STATUS.STATE n) 1).arm (T.burst n) (k * s.seqNs n)

/-- A burst of loop `n` begins (R111, R112): the largest whole number of sequences that fits in 50 ms, a limit
of 500 ms, and the next burst a period later. -/
def State.startBurst (s : State) (n : Nat) : State :=
  let s := s.updLoop n (fun r => { r with svStart := s.ns, svCur := s.sfld (R.LOOP_IOUT.IOUT n), svMoved := false })
  let s := (s.arm (T.burstLimit n) 500000000).arm (T.survey n) (s.surveyPeriod n)
  s.runBurst n (50000000 / s.seqNs n)

/-- SURVEY_BURST_START (R111): a burst that is due begins when the permission conditions hold. -/
def execSurveyBurstStart (n : Fin 24) (s : State) : Out := .next (
  if s.surveyAllowed n && s.fld (R.SV_STATUS.STATE n) = 0 then
    match s.expire (T.survey n) with
    | some s => s.startBurst n
    | none => s
  else s)

/-- SURVEY_FORCE (R111): a burst at once if the conditions hold, ignored otherwise, and while a burst runs, is paused or
is computed (DESIGN CHOICE, log entry 190). -/
def State.surveyForce (s : State) (n : Nat) : State :=
  if s.surveyAllowed n && s.fld (R.SV_STATUS.STATE n) = 0 then s.startBurst n else s

/-- SURVEY_FORCE (R111). -/
def execSurveyForce (n : Fin 24) (s : State) : Out := .next (s.surveyForce n)

/-- SURVEY_PAUSE (R113): the completed sequences are kept, the one in progress is discarded. -/
def execSurveyPause (n : Fin 24) (s : State) : Out := .next (
  if s.fld (R.SV_STATUS.STATE n) = 1 && !s.surveyAllowed n then s.pauseSurvey n else s)

/-- SURVEY_RESUME (R113): the conditions have held for 1 ms. -/
def execSurveyResume (n : Fin 24) (s : State) : Out := .next (
  if s.fld (R.SV_STATUS.STATE n) = 2 && s.surveyAllowed n then
    match s.expire (T.resume n) with
    | some s => s.runBurst n (max 1 (s.loop n).svLeft)
    | none => s
  else s)

/-- SURVEY_TIMEOUT (R113): 500 ms have passed. -/
def execSurveyTimeout (n : Fin 24) (s : State) : Out := .next (
  match s.expire (T.burstLimit n) with
  | some s => s.surveyAbandon n
  | none => s)

/-- SURVEY_BURST_END (R114): the sequences are complete; the estimates follow within 2 ms. -/
def execSurveyBurstEnd (n : Fin 24) (s : State) : Out := .next (
  if s.fld (R.SV_STATUS.STATE n) = 1 then
    match s.expire (T.burst n) with
    | some s => ((s.setF (R.SV_STATUS.STATE n) 3).disarm (T.burstLimit n)).arm (T.compute n) 2000000
    | none => s
  else s)

/-! ## Retuning (R115) -/

/-- The largest `c` below `2 ^ bits` (above `base`) with `p c`, for a `p` that holds up to some number. -/
def largestBit (p : Nat → Bool) : (bits : Nat) → (base : Nat) → Nat
  | 0, b => b
  | k + 1, b => if p (b + 2 ^ k) then largestBit p k (b + 2 ^ k) else largestBit p k b

/-- The coefficient nearest to ζ ^ (r / 100) for the coefficient `z` of ζ, both Q0.24: the zero of `z` moved
to r per cent of its frequency (R115). -/
def zeroMoved (z r : Nat) : Nat :=
  let ok := fun c => decide ((2 * c - 1) ^ 100 * 2 ^ (24 * r) ≤ 2 ^ 100 * z ^ r * 2 ^ 2400)
  min 0xFFFFFF (largestBit ok 25 0)

/-- An integer within bounds, and whether it was held at one. -/
def boundNat (lo hi v : Nat) : Nat × Bool := if v < lo then (lo, true) else if hi < v then (hi, true) else (v, false)

/-- A gain factor `a / b` held within `100 ± step` per cent: numerator and denominator. -/
def stepRatio (step a b : Nat) : Nat × Nat :=
  if b * (100 + step) < a * 100 then (100 + step, 100)
  else if a * 100 < b * (100 - step) then (100 - step, 100) else (a, b)

/-- The retuned gain of loop `n` and whether it is held at its bound. -/
def State.retuneGain (s : State) (n fc step : Nat) : Nat × Bool :=
  let k := s.fld (R.LOOP_CK_EFF.COEF n)
  let c := s.fld (R.LOOP_CK.COEF n)
  let kb := min 30 (s.fld (R.SV_BND.KB n))
  let r := stepRatio step (max 1 (s.fld (R.SV_TGT.FCT n))) fc
  boundNat ((c * (100 - kb) + 99) / 100) (c * (100 + kb) / 100) ((2 * k * r.1 + r.2) / (2 * max 1 r.2))

/-- The retuned zero with coefficient in use `z` and commissioned `c`, and whether it is held at its bound. -/
def State.retuneZero (s : State) (n z c r : Nat) : Nat × Bool :=
  let zb := min 25 (s.fld (R.SV_BND.ZB n))
  if c = 0 then (z, false) else boundNat (zeroMoved c (100 + zb)) (zeroMoved c (100 - zb)) (zeroMoved z r)

/-- The retune after a valid result with crossover `fc` and margin `pm` (R115). -/
def State.retune (s : State) (n fc pm : Nat) : State :=
  let fct : Int := (max 1 (s.fld (R.SV_TGT.FCT n)) : Nat)
  let dpm : Int := (s.fld (R.SV_TGT.PMT n) : Int) - pm
  if dpm = 0 && (fct - fc).natAbs * 50 < fct.natAbs then s
  else
    let step := min 10 (max 1 (s.fld (R.SV_BND.STEP n)))
    let k := s.retuneGain n fc step
    let r := (clampInt (100 - step : Nat) (100 + step : Nat) (100 - dpm)).toNat
    let z1 := s.retuneZero n (s.fld (R.LOOP_CZ1_EFF.COEF n)) (s.fld (R.LOOP_CZ1.COEF n)) r
    let z2 := s.retuneZero n (s.fld (R.LOOP_CZ2_EFF.COEF n)) (s.fld (R.LOOP_CZ2.COEF n)) r
    let changed := decide (k.1 ≠ s.fld (R.LOOP_CK_EFF.COEF n)) || decide (z1.1 ≠ s.fld (R.LOOP_CZ1_EFF.COEF n)) ||
      decide (z2.1 ≠ s.fld (R.LOOP_CZ2_EFF.COEF n))
    let s := ((s.setF (R.LOOP_CK_EFF.COEF n) k.1).setF (R.LOOP_CZ1_EFF.COEF n) z1.1).setF (R.LOOP_CZ2_EFF.COEF n) z2.1
    let s := s.setB (R.SV_STATUS.BOUND n) (k.2 || z1.2 || z2.2)
    if changed then s.count B.loop (R.SV_CNT.RETUNE n) (R.SV_CNT.SAT_R n) else s

/-! ## Results and health (R114, R116) -/

/-- One health flag follows its condition; its setting raises the survey alarm EV_(024 + n) (R116). -/
def State.healthFlag (s : State) (n : Nat) (f : Field) (c : Bool) : State :=
  let was := s.bit f
  let s := s.setB f c
  if c && !was then (s.event (24 + n)).pmStat R.HOST_PMST.MFR n 4 else s

/-- The health of the output capacitance and its alarms after a valid result (R116). -/
def State.judgeHealth (s : State) (n : Nat) : State :=
  let h := satNat 255 (100 * s.fld (R.SV_RES_C.C n) / max 1 (s.fld (R.SV_CCOMM.C n)))
  let s := s.setF (R.SV_STATUS.HEALTH n) h
  let s := s.healthFlag n (R.SV_STATUS.HW n) (decide (h < s.fld (R.SV_HLIM.HWARN n)))
  let s := s.healthFlag n (R.SV_STATUS.HF n) (decide (h < s.fld (R.SV_HLIM.HFLT n)))
  s.healthFlag n (R.SV_STATUS.PML n) (decide (s.fld (R.SV_RES_FC.PM n) < s.fld (R.SV_TGT.PMMIN n)))

/-- The estimates enter the SV_RES registers (Table 6.1). -/
def State.takeEstimate (s : State) (n : Nat) (e : Estimate) : State :=
  let s := s.setF (R.SV_RES_C.C n) (satNat 0xFFFFF e.cap)
  let s := (s.setF (R.SV_RES_ESR.L n) (satNat 0xFFFF e.ind)).setF (R.SV_RES_ESR.ESR n) (satNat 0xFFFF e.esr)
  (s.setF (R.SV_RES_FC.PM n) (satNat 0xFF e.pm)).setF (R.SV_RES_FC.FC n) (satNat 0xFFFF e.fc)

/-- The result code of Table 6.1's validity: stationary load, crossover in band (R114). -/
def State.surveyCode (s : State) (n : Nat) (e : Estimate) : Nat :=
  if (s.loop n).svMoved then 2 else if e.crossover then 1 else 3

/-- The end of a survey: estimates, retune and health where valid, and the sillage record (R114 to R116). -/
def State.surveyResult (s : State) (n : Nat) (e : Estimate) : State :=
  let c := s.surveyCode n e
  let s := ((s.setF (R.SV_STATUS.RESULT n) c).setF (R.SV_STATUS.STATE n) 0).disarm (T.compute n)
  let s := if c = 1 then
      let s := (s.takeEstimate n e).judgeHealth n
      if s.bit (R.SV_CFG.RETUNE n) then s.retune n (s.fld (R.SV_RES_FC.FC n)) (s.fld (R.SV_RES_FC.PM n)) else s
    else s
  s.traceRec (0x0100 + n) (Config.recordCode 1)
    (s.fld (R.SV_STATUS.HEALTH n) * 2 ^ 24 + s.fld (R.SV_RES_FC.PM n) * 2 ^ 16 + c)

/-- SURVEY_RESULT (R114). -/
def execSurveyResult (n : Fin 24) (est : Estimate) (s : State) : Out := .next (
  if s.fld (R.SV_STATUS.STATE n) = 3 then s.surveyResult n est else s)

/-! ## Telemetry's part in surveys and forecasts (R114, R126) -/

/-- The loop current has left ±10 % of the limit about its value at the burst's start, while the burst runs or is
paused (R114). -/
def State.watchSurvey (s : State) (n : Nat) : State :=
  let d := (s.sfld (R.LOOP_IOUT.IOUT n) - (s.loop n).svCur).natAbs
  if (s.fld (R.SV_STATUS.STATE n) = 1 || s.fld (R.SV_STATUS.STATE n) = 2) && min 24000 (s.fld (R.LOOP_ILIM.LIM n)) < d
  then s.updLoop n (fun r => { r with svMoved := true }) else s

/-- A forecast that a telemetry update fulfils: the pre-raise is held for THOLD, and a pre-position not yet
applied is not applied (R126). -/
def State.watchForecast (s : State) (n : Nat) : State :=
  match (s.loop n).forecast with
  | none => s
  | some f =>
    if !f.fulfilled && !f.unwinding && f.met s.ns (s.sfld (R.LOOP_IOUT.IOUT n)) then s.fulfil n f else s

/-! ## Forecasts (R123 to R126) -/

/-- The pre-position of a forecast goes to the next cycles of every active phase, from the one after the present
(R124). -/
def State.preposition (s : State) (n : Nat) (delta : Int) : State :=
  let act := s.active n
  let vout := s.fld (R.LOOP_VOUT.VOUT n) * 1000 / 4096
  let vst := s.stageSupply n
  act.foldl (fun s p =>
    let l := max 1 (s.fld (R.PH_IND.L p))
    let v := if 0 < delta then vst - vout else vout
    let ps := (delta.natAbs * l * 10000) / (max 1 act.length * max 1 v)
    s.updPhase p (fun r => { r with
      preOn := if 0 < delta then (ps : Int) else -(ps : Int), preCyc := if 0 < delta then 1 else 4,
      preWait := true })) s

/-- The pre-raise target of a forecast of `amps`, in 2^-24 V (R125). -/
def State.preraiseTarget (s : State) (n : Nat) (amps : Int) : Int :=
  if amps ≤ 0 then 0
  else
    let uv := min (min 40 (s.fld (R.IL_FC.ENV n)) * 1000) (amps.toNat * s.fld (R.IL_FC.KV n))
    (uv * 16777216 + 500000) / 1000000

/-- An accepted FORECAST of `amps` in `us` microseconds from link `il` (R123 to R125). -/
def State.acceptForecast (s : State) (il n : Nat) (frame : Word) (amps : Int) (us : Nat) : State :=
  let s := s.dropForecast n
  let s := s.count B.loop (R.IL_FCNT2.ACC n) (R.IL_FCNT2.SAT_A n)
  let t := s.ns + us * 1000
  let win := min 50 (max 1 (s.fld (R.IL_TIME.WIN il))) * 1000
  let lead := min 100 (s.fld (R.IL_CFG.TLEAD il)) * 50
  let f : Forecast := ⟨il, frame, t, win, amps * 100, s.sfld (R.LOOP_IOUT.IOUT n), decide (t ≤ s.ns + lead), false, false⟩
  let s := (s.updLoop n (fun r => { r with forecast := some f, preTarget := s.preraiseTarget n amps })).updateDe n
  let s := (s.setB (R.IL_FC.PEND n) true).restoreShed n
  let s := (s.disarm (T.fcHold n)).arm (T.fcWin n) (us * 1000 + win)
  if f.prepos then (s.disarm (T.fcPre n)).preposition n f.delta else s.arm (T.fcPre n) (us * 1000 - lead)

/-- FORECAST_PREPOSITION (R124): T − TLEAD. -/
def execForecastPreposition (n : Fin 24) (s : State) : Out := .next (
  match s.expire (T.fcPre n), (s.loop n).forecast with
  | some s, some f => if f.fulfilled || f.unwinding then s
      else (s.updLoop n (fun r => { r with forecast := some { f with prepos := true } })).preposition n f.delta
  | _, _ => s)

/-- The pre-raise of loop `n` unwinds; one already at 0 ends the forecast (R126). -/
def State.unwind (s : State) (n : Nat) (f : Forecast) : State :=
  if (s.loop n).preraise = 0 then s.endForecast n
  else s.updLoop n (fun r => { r with forecast := some { f with unwinding := true } })

/-- FORECAST_UNFULFILLED (R126 to R128): T + WIN.  A forecast of no change is fulfilled at T. -/
def execForecastUnfulfilled (n : Fin 24) (s : State) : Out := .next (
  match s.expire (T.fcWin n), (s.loop n).forecast with
  | some s, some f =>
    if f.delta = 0 then s.fulfil n f
    else
      let s := (s.disarm (T.fcPre n)).count B.loop (R.IL_FCNT1.UNF n) (R.IL_FCNT1.SAT_U n)
      let s := s.pmStat R.HOST_PMST.MFR n 8
      (((s.ilAlert f.link).ilRecord f.link 7 f.frame).unwind n f)
  | _, _ => s)

/-- PRERAISE_HOLD_END (R126): THOLD after fulfilment. -/
def execPreraiseHoldEnd (n : Fin 24) (s : State) : Out := .next (
  match s.expire (T.fcHold n), (s.loop n).forecast with
  | some s, some f => s.unwind n f
  | _, _ => s)

/-! ## Intent frames (R119 to R122, R128) -/

/-- A frame with its CHK (R120). -/
def intentFrame (ty lp data : Nat) : Word :=
  let b := [ty * 32 + lp, data / 256, data % 256].map (fun (x : Nat) => (BitVec.ofNat 8 x : Byte))
  BitVec.ofNat 32 ((ty * 32 + lp) * 2 ^ 24 + data * 2 ^ 8 + (crc8 b).toNat)

/-- Whether a frame's CHK matches. -/
def chkOk (w : Word) : Bool :=
  let b := [w.toNat / 2 ^ 24, w.toNat / 2 ^ 16, w.toNat / 2 ^ 8].map (fun (x : Nat) => (BitVec.ofNat 8 x : Byte))
  (crc8 b).toNat = w.toNat % 256

/-- The first failing reason of Table 6.3 for a command frame of link `il`, or none. -/
def State.intentReason (s : State) (il : Fin 2) (w : Word) : Option Nat :=
  let ty := w.field 29 3
  let n := w.field 24 5
  let t := w.field 8 15
  let own := s.fld (R.LOOP_LOCK.OWNER n)
  let amps := signedOf 10 (w.field 14 10) * 2
  let st := s.lstate n
  if !chkOk w then some 1
  else if ty ≠ 1 && ty ≠ 2 then some 2
  else if 23 < n || !(s.reg (R.IL_LMASK.reg il)).getLsbD n then some 3
  else if ty = 1 then
    if own ≠ 0 && own ≠ srcCode (.il il) then some 4
    else if t < 1024 || 22528 < t then some 5
    else if t < s.fld (R.LOOP_VLIM.VMIN n) || s.fld (R.LOOP_VLIM.VMAX n) < t then some 6
    else if st = L.fault then some 7
    else none
  else
    if s.bit (R.IL_FC.EN n) = false then some 8
    else if st ≠ L.reg && st ≠ L.trans && st ≠ L.settle && st ≠ L.nl then some 9
    else if s.fld (R.LOOP_ILIM_EFF.LIM n) < amps.natAbs * 10 then some 10
    else none

/-- The loop's own refusal of a SETPOINT, as LOOP_REFUSE codes it (Table 4.3). -/
def loopReason (r : Nat) : Option Nat :=
  if r = 4 then some 1 else if r = 5 then some 2 else if r = 6 then some 3 else if r = 7 then some 4 else none

/-- A command frame of link `il` answered NACK with its reason (R121, R128). -/
def State.nack (s : State) (il : Fin 2) (w : Word) (r : Nat) : State :=
  let s := s.count B.host (R.IL_ERR.NACK il) (R.IL_ERR.SAT_N il)
  let s := (match loopReason r with
    | some c => s.refuseCommand (w.field 24 5) (.il il) c
    | none => s)
  ({ s with ilReply := s.ilReply.put 0#32 il (intentFrame 6 (w.field 24 5) (r * 256)) }).ilRecord il 5 w

/-- An accepted command frame answered ACK with the link's sequence number (R121, R128). -/
def State.ack (s : State) (il : Fin 2) (w : Word) : State :=
  let s := s.setF (R.IL_STAT.SEQ il) (s.fld (R.IL_STAT.SEQ il) + 1)
  let s := s.setPair (R.IL_LAST_TS_LO.reg il) (R.IL_LAST_TS_HI.reg il) s.now
  { s with ilReply := s.ilReply.put 0#32 il (intentFrame 5 (w.field 24 5) (s.fld (R.IL_STAT.SEQ il))) }

/-- The command of an accepted frame (R122, R123). -/
def State.applyIntent (s : State) (il : Fin 2) (w : Word) : State :=
  let n := w.field 24 5
  if w.field 29 3 = 1 then
    let rate := if w.field 23 1 = 1 then max 1 (s.fld (R.IL_CFG.FRATE il)) else 0
    let s := s.acceptSetpoint n (.il il) (w.field 8 15) rate
    if s.bit (R.IL_CFG.TRSP il) then s.ilRecord il 8 w else s
  else s.acceptForecast il n w (signedOf 10 (w.field 14 10) * 2) (w.field 8 6)

/-- Whether link `il` is serviced: enabled, in run and through a power-down up to the drydown (R39, R119). -/
def State.ilServiced (s : State) (il : Fin 2) : Bool :=
  s.bit (R.IL_CFG.EN il) && (s.sys.phase = .run || s.sys.phase = .powerDown)

/-- A command frame of link `il` at edge 32 (R119 to R122): checked, then applied and answered, or refused.  A
link that is not serviced takes none. -/
def State.intent (s : State) (il : Fin 2) (w : Word) : State :=
  if s.ilServiced il then
    match s.intentReason il w with
    | some r => s.nack il w r
    | none => (s.applyIntent il w).ack il w
  else s

/-- INTENT_SETPOINT (R122). -/
def execIntentSetpoint (il : Fin 2) (frame : Word) (s : State) : Out := .next (s.intent il frame)

/-- INTENT_FORECAST (R123). -/
def execIntentForecast (il : Fin 2) (frame : Word) (s : State) : Out := .next (s.intent il frame)

/-- INTENT_BAD_FRAME (R121). -/
def execIntentBadFrame (il : Fin 2) (frame : Word) (s : State) : Out := .next (s.intent il frame)

/-- INTENT_SHORT_TRANSACTION (R119). -/
def execIntentShortTransaction (il : Fin 2) (s : State) : Out := .next (
  if s.ilServiced il then s.count B.host (R.IL_ERR.SHORT il) (R.IL_ERR.SAT_S il) else s)

end Sys2Proof.Machine
end

