-- ==== Sys2Proof/Machine/Seq.lean ====
section
/-! DEFINITION.  The rail sequencer (spec/07): starts, qualification, rail faults and reactions, groups,
system reset, power-down, safe sequence and snapshots. -/

namespace Sys2Proof.Machine

/-! ## Rows, timers, names -/

/-- The state with the row of rail `r` changed by `f`. -/
def State.updRail (s : State) (r : Nat) (f : RailState → RailState) : State :=
  { s with rails := s.rails.upd RailState.zero r f }

/-- The state with the row of group `g` changed by `f`. -/
def State.updGroup (s : State) (g : Nat) (f : GroupState → GroupState) : State :=
  { s with groups := s.groups.upd GroupState.zero g f }

/-- The state with the sequencer's hidden state changed. -/
def State.updSeq (s : State) (f : SeqState → SeqState) : State := { s with seq := f s.seq }

def T.seqTick : Nat := timerKey 70 0
def T.rsdly (g : Nat) : Nat := timerKey 71 g
def T.sysHold : Nat := timerKey 72 0

/-- The rail states of Table 7.1. -/
def Q.off : Nat := 0
def Q.wait : Nat := 1
def Q.inAdmit : Nat := 2
def Q.ramp : Nat := 3
def Q.good : Nat := 4
def Q.stop : Nat := 5
def Q.retry : Nat := 6
def Q.latched : Nat := 7

/-- The state of rail `r`. -/
def State.qst (s : State) (r : Nat) : Nat := s.fld (R.SEQ_RAIL_STATUS.STATE r)

/-- The state with rail `r` in state `q`, its missing-term flags cleared. -/
def State.setRail (s : State) (r q : Nat) : State :=
  let s := if s.fld (R.SEQ_RAIL_STATUS.STATE r) = q then s else s.railNews r
  let s := s.setF (R.SEQ_RAIL_STATUS.STATE r) q
  let s := ((s.setB (R.SEQ_RAIL_STATUS.WFAB r) false).setB (R.SEQ_RAIL_STATUS.WREM r) false).setB (R.SEQ_RAIL_STATUS.WLOC r) false
  (s.setB (R.SEQ_RAIL_STATUS.WBUD r) false).setB (R.SEQ_RAIL_STATUS.WSTAG r) false

/-- The enabled rails, ascending. -/
def State.railsOn (s : State) : List Nat := (List.range 64).filter (fun r => s.bit (R.SEQ_RAIL_CFG.EN r))

/-- Whether rail `r` runs: RAMP or GOOD. -/
def State.running (s : State) (r : Nat) : Bool := s.qst r = Q.ramp || s.qst r = Q.good

/-- Whether rail `r` counts as down: OFF or LATCHED. -/
def State.railDown (s : State) (r : Nat) : Bool := s.qst r = Q.off || s.qst r = Q.latched

/-- The GOOD line of rail `r` (R131). -/
def State.goodLine (s : State) (r : Nat) : Bool := s.qst r = Q.good && !s.bit (R.SEQ_RAIL_STATUS.FLT r)

/-- Whether rail `r` names rail `p` as a local parent. -/
def State.parentOf (s : State) (r p : Nat) : Bool :=
  ((s.reg (if p < 32 then R.SEQ_RAIL_DEP_LO.reg r else R.SEQ_RAIL_DEP_HI.reg r))).getLsbD (p % 32)

/-- The enabled rails that name a rail of the list as parent, added to it. -/
def State.withDependents (s : State) (l : List Nat) : List Nat :=
  s.railsOn.filter (fun r => l.contains r || l.any (fun p => s.parentOf r p))

/-- `k` rounds of adding dependents. -/
def State.closureRounds (s : State) : (k : Nat) → List Nat → List Nat
  | 0, l => l
  | k + 1, l =>
    let m := s.withDependents l
    if m.length = l.length then l else State.closureRounds s k m

/-- The local-dependent closure of a list of rails (R142, R144). -/
def State.closure (s : State) (l : List Nat) : List Nat :=
  s.closureRounds 64 (s.railsOn.filter (fun r => l.contains r))

/-- The longest chain of parents above rail `r`, over the rails still unranked: the rank by peeling off rails
whose parents are ranked. -/
def State.peelRanks (s : State) : (k : Nat) → (rank : Nat) → (todo done : List Nat) → List (Nat × Nat)
  | 0, _, _, _ => []
  | k + 1, rank, todo, done =>
    let ready := todo.filter (fun r => s.railsOn.all (fun p => !s.parentOf r p || done.contains p))
    if ready.isEmpty then []
    else ready.map (fun r => (r, rank)) ++
      State.peelRanks s k (rank + 1) (todo.filter (fun r => !ready.contains r)) (done ++ ready)

/-- Every rail's rank shown (R130). -/
def State.showRanks (s : State) : State :=
  (s.peelRanks 64 0 s.railsOn []).foldl (fun s e => s.setF (R.SEQ_RAIL_STATUS.RANK e.1) e.2) s

/-! ## Snapshots (R147, R148) -/

/-- SEQ_SNAP shows the entries in use and the pending requests. -/
def State.showSnaps (s : State) : State :=
  (s.setF R.SEQ_SNAP.BUSY s.seq.snapEntries.length).setF R.SEQ_SNAP.PEND s.seq.snapPending.length

/-- The content of a snapshot captured now for a request. -/
def State.snapFill (s : State) (r : Snapshot) : Snapshot :=
  { r with
    ctime := s.now, fstat := s.fstat, digest := s.pair R.ACRD_DIGEST_LO.reg R.ACRD_DIGEST_HI.reg,
    channels := (List.range 256).filterMap (fun c =>
      if s.bit (R.MEAS_CH_STATUS.LV c) then some (c, unsignedOf 24 (s.latest c)) else none),
    loops := (List.range 24).map (fun n =>
      ((s.reg (R.LOOP_STATUS.reg n)).toNat, s.fld (R.LOOP_VOUT.VOUT n),
       unsignedOf 16 (clampInt (-32768) 32767 ((s.sfld (R.LOOP_IOUT.IOUT n)).tdiv 10)))) }

/-- A snapshot is requested for a rail, the safe state (0xFE) or the fabric (0xFF): captured in a free entry,
left pending, or merged into that requester's pending request (R147, R148). -/
def State.snapRequest (s : State) (rail cause : Nat) (pd : Bool) : State :=
  let r : Snapshot := ⟨s.now, 0, rail, cause, pd, 0, 0, 0, [], []⟩
  if s.seq.snapEntries.length < 4 then
    (s.updSeq (fun q => { q with snapEntries := q.snapEntries ++ [s.snapFill r] })).showSnaps
  else if s.seq.snapPending.any (fun p => p.rail = rail) then
    (s.updSeq (fun q => { q with snapPending := q.snapPending.map (fun p =>
      if p.rail = rail then { p with merged := satNat 65535 (p.merged + 1) } else p) })).count B.seq R.SEQ_SNAP.MERGED R.SEQ_SNAP.SAT
  else (s.updSeq (fun q => { q with snapPending := q.snapPending ++ [r] })).showSnaps

/-- The 24-bit little-endian latest value of channel `c` in a snapshot; 0x80_0000 without one (Table 13.5). -/
def Snapshot.channel (p : Snapshot) (c : Nat) : List Byte :=
  leBytes 3 (match p.channels.find? (fun e => e.1 = c) with
    | some e => e.2
    | none => 0x800000)

/-- The 1,024 bytes of a snapshot with SNAP_COUNT `n` and device number `dev` (Table 13.5). -/
def Snapshot.bytes (p : Snapshot) (n dev : Nat) : List Byte :=
  let head := leBytes 8 p.ftime.toNat ++ leBytes 8 p.ctime.toNat ++ leBytes 1 p.rail ++ leBytes 1 p.cause ++
    leBytes 1 (p.pd.toNat + (if p.merged = 0 then 0 else 2)) ++ leBytes 1 dev ++ leBytes 2 n ++
    leBytes 2 p.merged ++ leBytes 8 p.fstat.toNat ++ leBytes 8 p.digest.toNat ++ List.replicate 20 0#8
  let tail := (List.range 256).flatMap p.channel ++
    p.loops.flatMap (fun l => leBytes 4 l.1 ++ leBytes 2 l.2.1 ++ leBytes 2 l.2.2)
  head ++ leBytes 4 (crc32 (head ++ tail)).toNat ++ tail

/-- The sixteen pages of a snapshot placed from page `page` on, as far as they can be. -/
def placePages (page : Nat) : (k : Nat) → List Byte → State → Option State
  | 0, _, s => some s
  | k + 1, l, s => (s.placeBytes false false page 0 (l.take 64)).bind (placePages (page + 1) k (l.drop 64))

/-- The device number a snapshot carries, as LINK_ID.DEV reads it. -/
def State.snapDev (s : State) : Nat := s.fld R.LINK_ID.DEV

/-- The oldest captured snapshot goes into the commit buffer with the increment of SNAP_COUNT; its entry is freed
and the oldest pending request is captured (R147, R148, R260). -/
def State.snapPlace (s : State) : State :=
  match s.seq.snapEntries with
  | [] => s
  | p :: rest =>
    let n := (s.recRead 4).1.toNat
    match (placePages (1536 + 16 * (n % 32)) 16 (p.bytes n s.snapDev) s).bind (fun t =>
      (t.placeRecord 4 (BitVec.ofNat 64 (n + 1))).map (fun t => t.slotLast (recPage 4))) with
    | none => s
    | some t =>
      let t := t.updSeq (fun q => { q with snapEntries := rest })
      let t := (match t.seq.snapPending with
        | [] => t
        | r :: more => t.updSeq (fun q => { q with snapEntries := q.snapEntries ++ [t.snapFill r], snapPending := more }))
      (t.showSnaps.event 55).commitIfFull.pay

/-- Up to `n` captured snapshots placed, as far as they can be. -/
def State.placeSnaps : Nat → State → State
  | 0, s => s
  | n + 1, s => if s.seq.snapEntries.isEmpty then s else State.placeSnaps n s.snapPlace

/-! ## Starting and stopping one rail (R129, R133, R136, R141) -/

/-- The level a rail's GP output takes for its enable or its stop (R129). -/
def State.driveGp (s : State) (r : Nat) (on : Bool) : State :=
  let g := s.fld (R.SEQ_RAIL_CFG.GP r)
  let high := on == s.bit (R.SEQ_RAIL_CFG.GPPOL r)
  let m : BitVec 24 := 1#24 <<< g
  s.updSeq (fun q => { q with gpRail := if high then q.gpRail ||| m else q.gpRail &&& ~~~m })

/-- The start of rail `r` is issued (R131, R133, R136). -/
def State.issueStart (s : State) (r : Nat) : State :=
  let s := (s.setRail r Q.ramp).setB (R.SEQ_RAIL_STATUS.FLT r) false
  let s := (s.setF (R.SEQ_RAIL_CNT.CHAT r) 0).setF (R.SEQ_RAIL_INRPK.PEAK r) 0
  let s := s.updRail r (fun x => { RailState.zero with startNs := s.ns, onFrom := some s.ns, reqAtShut := x.reqAtShut })
  let s := s.updSeq (fun q => { q with lastStart := some s.ns })
  if s.bit (R.SEQ_RAIL_CFG.KIND r) then s.driveGp r true else s.loopStart (s.fld (R.SEQ_RAIL_CFG.LOOP r))

/-- The stop of rail `r` is issued: STOP until the off test or OFFMAX (R141, R144). -/
def State.issueStop (s : State) (r : Nat) (why : StopFor) : State :=
  let s := s.setRail r Q.stop
  let s := s.updRail r (fun x => { x with
    onFrom := none, qualFrom := none, goodFrom := none, marked := false, stopFor := why, offFrom := some s.ns })
  if s.bit (R.SEQ_RAIL_CFG.KIND r) then s.driveGp r false else s.loopStop (s.fld (R.SEQ_RAIL_CFG.LOOP r))

/-- Rail `r` is taken into a stop: at once to OFF from WAIT, ADMIT and RETRY, marked for the power-down order
while running, and its course changed while stopping (R142 to R144). -/
def State.takeRail (s : State) (r : Nat) (why : StopFor) : State :=
  let q := s.qst r
  if q = Q.wait || q = Q.inAdmit || q = Q.retry then
    (s.setRail r Q.off).updRail r (fun x => { x with marked := false, stopFor := why, retryFrom := none })
  else if s.running r then s.updRail r (fun x => { x with marked := true, stopFor := why })
  else if q = Q.stop then s.updRail r (fun x => { x with stopFor := why })
  else if q = Q.off then s.updRail r (fun x => { x with stopFor := why })
  else s

/-- Several rails taken into a stop. -/
def State.takeRails (s : State) (l : List Nat) (why : StopFor) : State := l.foldl (fun s r => s.takeRail r why) s

/-- The RETRY count of a rail returns to 0. -/
def State.clearRetry (s : State) (r : Nat) : State :=
  (s.setF (R.SEQ_RAIL_CNT.RETRY r) 0).setB (R.SEQ_RAIL_CNT.SAT_R r) false

/-- A rail whose stop is over: RETRY, LATCHED or OFF, by what stopped it (R141 to R144). -/
def State.railOff (s : State) (r : Nat) : State :=
  let s := s.updRail r (fun x => { x with offFrom := none })
  match (s.rail r).stopFor with
  | .retry => (s.setRail r Q.retry).updRail r (fun x => { x with retryFrom := some s.ns, stopFor := .none })
  | .latch => (s.setRail r Q.latched).updRail r (fun x => { x with stopFor := .none })
  | _ => s.setRail r Q.off

/-! ## Reactions (R140 to R143) -/

/-- Whether a system reset holds the rails off: until its step 4, or in HALT (R142). -/
def State.sysHolds (s : State) : Bool := s.seq.sysReset ≠ .none && s.seq.sysReset ≠ .resequencing

/-- What holds rail `r` off now: a system reset, a group's shut-down until its re-sequence, or an off request's closure
that is not yet down (R142, R144). -/
def State.holdOf (s : State) (r : Nat) : StopFor :=
  if s.sysHolds then .system
  else if (List.range 16).any (fun g => (s.fld (R.SEQ_GRP_STATUS.STATE g) = 1 || s.fld (R.SEQ_GRP_STATUS.STATE g) = 2) &&
      (s.group g).closure.contains r) then .group
  else if s.seq.offClosures.any (fun l => l.contains r) then .offRequest
  else .none

/-- SEQ_STATUS.REACT: the most severe thing that runs. -/
def State.showReact (s : State) : State :=
  let grp := (List.range 16).any (fun g => s.fld (R.SEQ_GRP_STATUS.STATE g) = 1)
  s.setF R.SEQ_STATUS.REACT (
    if s.sys.phase = .safe then 4 else if s.sys.phase = .powerDown then 3
    else if s.seq.sysReset = .stopping || s.seq.sysReset = .holding then 2 else if grp then 1 else 0)

/-- Whether the sequencer issues no reaction: in the safe state and from the acceptance of a power command
(R144, R146, R217). -/
def State.seqHeld (s : State) : Bool := s.sys.phase = .safe || s.sys.phase = .powerDown || s.sys.stage ≠ .released

/-- Whether the last shut-down of group `g` latched, and a rail of it is LATCHED still (R149). -/
def State.groupLatched (s : State) (g : Nat) : Bool :=
  (s.group g).latched && (s.group g).closure.any (fun r => s.qst r = Q.latched)

/-- Rail `r` is no longer held off by what has just ended: a requested one returns to WAIT, unless something else holds
it off (R142 to R144). -/
def State.freeRail (s : State) (r : Nat) : State :=
  let h := s.holdOf r
  let s := s.updRail r (fun x => { x with stopFor := h })
  if s.bit (R.SEQ_RAIL_STATUS.REQ r) && h = .none then s.setRail r Q.wait else s

/-- The shut-down of group `g` (R142, R143, R149).  A hand-over changes nothing of a group that shuts down or is
latched; one that waits to be re-sequenced waits on, until the return. -/
def State.groupShutdown (s : State) (g : Nat) (handover : Bool) : State :=
  if s.seqHeld || s.sysHolds then s
  else
    let st := s.fld (R.SEQ_GRP_STATUS.STATE g)
    if st = 1 && (handover || !(s.group g).byHandover) then s
    else if handover && st = 2 then (s.updGroup g (fun x => { x with waitReturn := true })).disarm (T.rsdly g)
    else if handover && s.groupLatched g then s
    else
      let members := s.railsOn.filter (fun r => s.bit (R.SEQ_RAIL_CFG.INGRP r) && s.fld (R.SEQ_RAIL_CFG.GRP r) = g)
      let cl := s.closure members
      let s := cl.foldl (fun s r => s.updRail r (fun x => { x with reqAtShut := s.bit (R.SEQ_RAIL_STATUS.REQ r) })) s
      let s := s.takeRails cl .group
      let s := (s.updGroup g (fun x => { x with
        closure := cl, byHandover := handover, waitReturn := handover || x.waitReturn, latched := false })).disarm (T.rsdly g)
      ((s.setF (R.SEQ_GRP_STATUS.STATE g) 1).setB (R.SEQ_GRP_STATUS.EXH g) false).showReact

/-- Every group is idle again: a wider reaction has taken over. -/
def State.idleGroups (s : State) : State :=
  let s := (List.range 16).foldl (fun s g => (s.setF (R.SEQ_GRP_STATUS.STATE g) 0).disarm (T.rsdly g)) s
  { s with groups := [] }

/-- A system reset begins (R142): the selected RSTOs, then every rail down. -/
def State.systemReset (s : State) : State :=
  if s.seqHeld || s.sysHolds then s
  else
    let n := s.fld R.SEQ_STATUS.SYSCNT
    let halt := decide (max 1 (s.fld R.SEQ_SYS.MAXSR) < n + 1)
    let s := if halt then s
      else if n < 14 then s.setF R.SEQ_STATUS.SYSCNT (n + 1)
      else if n = 14 then ((s.setF R.SEQ_STATUS.SYSCNT 15).setB R.SEQ_STATUS.SAT true).saturated B.seq
      else s
    let s := { s with sup := { s.sup with rstoSys := s.fld R.SEQ_SYS.RSTOM } }
    let s := s.idleGroups.takeRails s.railsOn .system
    (s.updSeq (fun q => { q with sysReset := .stopping, halting := halt, offClosures := [] })).showReact

/-- A rail stops alone for a retry or for a latch (R141); one that an off request stops stays under it (R144). -/
def State.retryRail (s : State) (r : Nat) : State :=
  let n := s.fld (R.SEQ_RAIL_CNT.RETRY r)
  let lim := s.fld (R.SEQ_RAIL_REACT.RETRIES r)
  if lim ≠ 0 && lim ≤ n then
    let exh := s.fld (R.SEQ_RAIL_REACT.EXH r)
    if exh = 0 then s.issueStop r .latch
    else if exh = 1 && s.bit (R.SEQ_RAIL_CFG.INGRP r) then s.groupShutdown (s.fld (R.SEQ_RAIL_CFG.GRP r)) false
    else s.systemReset
  else
    let s := if n < 14 then s.setF (R.SEQ_RAIL_CNT.RETRY r) (n + 1)
      else if n = 14 then ((s.setF (R.SEQ_RAIL_CNT.RETRY r) 15).setB (R.SEQ_RAIL_CNT.SAT_R r) true).saturated B.seq
      else s
    s.issueStop r (if (s.rail r).stopFor = .offRequest then .offRequest else .retry)

/-- The reaction of rail `r` (Table 7.3). -/
def State.react (s : State) (r : Nat) : State :=
  match s.fld (R.SEQ_RAIL_REACT.REACT r) with
  | 0 => if s.qst r = Q.good
    then (s.setRail r Q.ramp).updRail r (fun x => { x with onFrom := none, qualFrom := none, goodFrom := none })
    else s
  | 1 => s.retryRail r
  | 2 => if s.bit (R.SEQ_RAIL_CFG.INGRP r) then s.groupShutdown (s.fld (R.SEQ_RAIL_CFG.GRP r)) false else s.systemReset
  | _ => s.systemReset

/-- An over-voltage cause outside the rail's own reaction: of the rail and its local-dependent closure, those that run
stop in the same tick, without stagger (R140, R145).  Those that no other stop holds return together as after an off
request. -/
def State.forceOff (s : State) (r : Nat) : State :=
  let cl := (s.closure [r]).filter (fun k => s.running k)
  let own := cl.filter (fun k => (s.rail k).stopFor = .none)
  let s := cl.foldl (fun s k =>
    s.issueStop k (if (s.rail k).stopFor = .none then .offRequest else (s.rail k).stopFor)) s
  if s.sys.phase = .safe || s.sys.phase = .powerDown || own.isEmpty then s
  else s.updSeq (fun q => { q with offClosures := q.offClosures ++ [own] })

/-- A fault of rail `r` with a cause of Table 7.2 (R139, R140, R145): flags, records, snapshot, and the reaction
of a reacting one.  `ov` marks an over-voltage cause, `lc` is LOOP_STATUS.CAUSE for cause 1. -/
def State.railFault (s : State) (r cause lc : Nat) (ov : Bool) : State :=
  let pd := s.railPd r
  let s := ((s.setB (R.SEQ_RAIL_STATUS.FLT r) true).setF (R.SEQ_RAIL_STATUS.CAUSE r) cause).setB (R.SEQ_RAIL_STATUS.PD r) pd
  let s := s.count B.seq (R.SEQ_RAIL_CNT.FAULTS r) (R.SEQ_RAIL_CNT.SAT_F r)
  let s := s.traceRec (0x0300 + r) 1 (cause + pd.toNat * 2 ^ 8 + lc * 2 ^ 16)
  let s := (s.event 53).snapRequest r cause pd
  if cause = 4 || cause = 5 then s
  else if pd || s.sys.phase = .safe || !s.running r then (if ov then s.forceOff r else s)
  else s.react r

/-- The fault of the rail of loop `n` when the loop enters FAULT, or sees an over-voltage in FAULT (Table 7.2). -/
def State.loopRailFault (s : State) (n : Nat) (ov : Bool) : State :=
  match s.railOfLoop n with
  | some r => s.railFault r 1 (s.fld (R.LOOP_STATUS.CAUSE n)) ov
  | none => s

/-! ## The tick (R132 to R137, R142, R144) -/

/-- Whether monitor `m` reads inside: enabled, with its filtered state inside (R153). -/
def State.monInside (s : State) (m : Nat) : Bool := s.bit (R.SUP_MON_CFG.EN m) && s.bit (R.SUP_MON_STATUS.INSIDE m)

/-- The power-good input of rail `r` (R129). -/
def State.railPg (s : State) (r : Nat) : Bool :=
  if s.bit (R.SEQ_RAIL_CFG.KIND r) then s.monInside (s.fld (R.SEQ_RAIL_CFG.MON r))
  else s.loopPg (s.fld (R.SEQ_RAIL_CFG.LOOP r))

/-- The off test of rail `r` (R129). -/
def State.offTest (s : State) (r : Nat) : Bool :=
  let offv := s.fld (R.SEQ_RAIL_OFF.OFFV r)
  if s.bit (R.SEQ_RAIL_CFG.KIND r) then decide (s.latest (s.fld (R.SEQ_RAIL_OFF.CH r)) < (offv * 100 : Nat))
  else decide (s.fld (R.LOOP_VOUT.VOUT (s.fld (R.SEQ_RAIL_CFG.LOOP r))) * 1000 < offv * 4096)

/-- Whether every enabled remote term of rail `r` is present (R132). -/
def State.remoteOk (s : State) (r : Nat) : Bool :=
  let en := s.fld (R.SEQ_RAIL_TERM.REMEN r)
  let rem := s.reg (R.SEQ_RAIL_REM.reg r)
  (List.range 4).all (fun k => !(en.testBit k) || s.seq.remote.getLsbD ((Word.field rem (8 * k) 8)))

/-- Whether the fabric term of rail `r` is present (R132); the action line has no effect in the safe state. -/
def State.fabricOk (s : State) (r : Nat) : Bool := !s.bit (R.SEQ_RAIL_TERM.FAB r) || s.acrd.act.getLsbD r

/-- Whether every local parent of rail `r` shows GOOD (R132). -/
def State.parentsOk (s : State) (r : Nat) : Bool :=
  (List.range 64).all (fun p => !s.parentOf r p || s.goodLine p)

/-- The start condition of rail `r` re-judged: WAIT to ADMIT and back, and the terms shown missing (R132). -/
def State.judgeRail (s : State) (r : Nat) : State :=
  let q := s.qst r
  if q = Q.wait || q = Q.inAdmit then
    let f := s.fabricOk r
    let m := s.remoteOk r
    let l := s.parentsOk r
    if f && m && l then (if q = Q.inAdmit then s else s.setRail r Q.inAdmit)
    else (((s.setRail r Q.wait).setB (R.SEQ_RAIL_STATUS.WFAB r) (!f)).setB (R.SEQ_RAIL_STATUS.WREM r) (!m)).setB
      (R.SEQ_RAIL_STATUS.WLOC r) (!l)
  else s

/-- The limits of a rail's record. -/
def State.pgqNs (s : State) (r : Nat) : Nat := min 10000 (max 8 (s.fld (R.SEQ_RAIL_QUAL.PGQ r))) * 1000
def State.onmaxNs (s : State) (r : Nat) : Nat := min 10000 (max 1 (s.fld (R.SEQ_RAIL_TMO.ONMAX r))) * 100000
def State.offmaxNs (s : State) (r : Nat) : Nat := min 10000 (max 1 (s.fld (R.SEQ_RAIL_TMO.OFFMAX r))) * 100000
def State.rdlyNs (s : State) (r : Nat) : Nat := min 10000 (max 1 (s.fld (R.SEQ_RAIL_REACT.RDLY r))) * 1000000
def State.tstagNs (s : State) : Nat := min 1000 (max 1 (s.fld R.SEQ_CFG.TSTAG)) * 10000

/-- Whether the chatter count of rail `r` exceeds its limit, and that is not yet raised (R136, R150). -/
def State.chatters (s : State) (r : Nat) : Bool :=
  decide (max 1 (s.fld (R.SEQ_RAIL_QUAL.CHAT r)) < s.fld (R.SEQ_RAIL_CNT.CHAT r)) && !(s.rail r).chatDone

/-- The chatter count of rail `r` is judged afresh: its limit is written (R150). -/
def State.chatFresh (s : State) (r : Nat) : State := s.updRail r (fun x => { x with chatDone := false })

/-- The qualify timer of a rail in RAMP follows its power-good input; each fall while it runs counts (R136). -/
def State.watchPg (s : State) (r : Nat) : State :=
  if s.qst r = Q.ramp then
    let pg := s.railPg r
    match (s.rail r).qualFrom with
    | none => if pg then s.updRail r (fun x => { x with qualFrom := some s.ns }) else s
    | some _ => if pg then s else
        let s := s.updRail r (fun x => { x with qualFrom := none, chatDone := false })
        let k := s.fld (R.SEQ_RAIL_CNT.CHAT r)
        if k < 254 then s.setF (R.SEQ_RAIL_CNT.CHAT r) (k + 1)
        else if k = 254 then (s.setF (R.SEQ_RAIL_CNT.CHAT r) 255).saturated B.seq else s
  else s

/-- FS_29 and its reacting fault (R136). -/
def State.chatterFault (s : State) (r : Nat) : State :=
  ((s.updRail r (fun x => { x with chatDone := true })).raiseWith 29 0 1 (s.railPd r)).railFault r 3 0 false

/-- A rail enters GOOD by qualification, which arms its loop's under-voltage comparator (R81, R131, R136). -/
def State.qualify (s : State) (r : Nat) : State :=
  let s := (s.setRail r Q.good).setB (R.SEQ_RAIL_STATUS.FLT r) false
  let s := s.setF (R.SEQ_RAIL_TON.TON r) (satNat 0xFFFFFF ((s.ns - (s.rail r).startNs) / 1000))
  let s := s.updRail r (fun x => { x with onFrom := none, qualFrom := none, goodFrom := some s.ns })
  if s.bit (R.SEQ_RAIL_CFG.KIND r) then s
  else s.updLoop (s.fld (R.SEQ_RAIL_CFG.LOOP r)) (fun x => { x with uvArmed := true })

/-- The declared inrush of rail `r` in 0.1 A. -/
def State.inrush (s : State) (r : Nat) : Nat := min 4000 (s.fld (R.SEQ_RAIL_INRUSH.DECL r))

/-- The declared inrush of the rails in RAMP. -/
def State.rampSum (s : State) : Nat := ((s.railsOn.filter (fun r => s.qst r = Q.ramp)).map s.inrush).sum

/-- Whether the power path draws from the pack (R134). -/
def onPack (p : Nat) : Bool := p = 3 || p = 4 || p = 5 || p = 7 || p = 8

/-- The inrush budget in 0.1 A (R134). -/
def State.budget (s : State) : Nat :=
  let vin := if s.fld R.SEQ_BUDGET.VIN = 0 then max 1 (s.fld R.PATH_CFG.IIN) else min 4000 (s.fld R.SEQ_BUDGET.VIN)
  if s.bit R.SEQ_STATUS.ONBAT && s.fld R.SEQ_BUDGET.BAT ≠ 0 then min 4000 (s.fld R.SEQ_BUDGET.BAT) else vin

/-- The head of the admission queue: lowest rank, then lowest number (R133). -/
def State.admitHead (s : State) : Option Nat :=
  (s.railsOn.filter (fun r => s.qst r = Q.inAdmit)).foldl (fun (b : Option Nat) r =>
    match b with
    | none => some r
    | some h => if s.fld (R.SEQ_RAIL_STATUS.RANK r) < s.fld (R.SEQ_RAIL_STATUS.RANK h) then some r else b) none

/-- Whether TSTAG has passed since an instant. -/
def State.staggered (s : State) (t : Option Nat) : Bool :=
  match t with
  | none => true
  | some t => decide (t + s.tstagNs ≤ s.ns)

/-- The admission of one tick: the queue's head starts, or shows what holds it (R133, R134). -/
def State.admission (s : State) : State :=
  match s.admitHead with
  | none => s
  | some h =>
    let s := s.railsOn.foldl (fun s r => if s.qst r = Q.inAdmit && r ≠ h
      then (s.setB (R.SEQ_RAIL_STATUS.WBUD r) true).setB (R.SEQ_RAIL_STATUS.WSTAG r) false else s) s
    let sum := s.rampSum
    let none' := !(s.railsOn.any (fun r => s.qst r = Q.ramp))
    let whole := decide (s.budget < s.inrush h)
    let fits := decide (s.inrush h = 0) || decide (s.inrush h + sum ≤ s.budget) || (whole && none')
    let stag := s.staggered s.seq.lastStart
    if fits && stag then
      (if whole && s.inrush h ≠ 0 then s.setB R.SEQ_STATUS.OVERBUD true else s).issueStart h
    else (s.setB (R.SEQ_RAIL_STATUS.WBUD h) (!fits)).setB (R.SEQ_RAIL_STATUS.WSTAG h) (fits && !stag)

/-- Whether rail `r`, marked for the power-down order, may stop now: every rail that names it as a parent is
down; in the safe sequence only the dependents that it stops itself hold it (R144, R146). -/
def State.mayStop (s : State) (r : Nat) : Bool :=
  s.railsOn.all (fun d => !s.parentOf d r || s.railDown d ||
    (s.sys.phase = .safe && !s.bit (R.SEQ_RAIL_CFG.SAFE d)))

/-- The next stop of the power-down order: highest rank, then highest number (R144). -/
def State.stopHead (s : State) : Option Nat :=
  (s.railsOn.filter (fun r => (s.rail r).marked && s.running r && s.mayStop r)).foldl (fun (b : Option Nat) r =>
    match b with
    | none => some r
    | some h => if s.fld (R.SEQ_RAIL_STATUS.RANK h) ≤ s.fld (R.SEQ_RAIL_STATUS.RANK r) then some r else b) none

/-- At most one ordered stop per TSTAG (R144). -/
def State.orderedStop (s : State) : State :=
  match s.stopHead with
  | some r => if s.staggered s.seq.lastStop
    then (s.updSeq (fun q => { q with lastStop := some s.ns })).issueStop r (s.rail r).stopFor else s
  | none => s

/-- The closures of off requests that are now down: their requested rails return to WAIT, unless another
closure still holds them (R144). -/
def State.settleOffs (s : State) : State :=
  let open' := s.seq.offClosures.filter (fun l => !l.all s.railDown)
  let done := s.seq.offClosures.filter (fun l => l.all s.railDown)
  let s := s.updSeq (fun q => { q with offClosures := open' })
  done.flatten.foldl (fun s r => if s.qst r = Q.off && (s.rail r).stopFor = .offRequest then s.freeRail r else s) s

/-- The AUTO rails. -/
def State.autoRails (s : State) : List Nat := s.railsOn.filter (fun r => s.bit (R.SEQ_RAIL_CFG.AUTO r))

/-- A system reset's progress in a tick: the hold once every rail is down, the release of its RSTOs once every
AUTO rail is in GOOD (R142). -/
def State.sysProgress (s : State) : State :=
  match s.seq.sysReset with
  | .stopping => if s.railsOn.all s.railDown
    then (s.updSeq (fun q => { q with sysReset := .holding })).arm T.sysHold (max 1 (s.fld R.SEQ_SYS.THOLD) * 1000000) else s
  | .resequencing => if s.autoRails.all (fun r => s.qst r = Q.good)
    then { s.updSeq (fun q => { q with sysReset := .none }) with sup := { s.sup with rstoSys := 0 } } else s
  | _ => s

/-- A group whose re-sequenced rails are all in GOOD is idle again. -/
def State.groupsIdle (s : State) : State :=
  (List.range 16).foldl (fun s g =>
    if s.fld (R.SEQ_GRP_STATUS.STATE g) = 3 &&
        (s.group g).closure.all (fun r => s.qst r = Q.good || !s.bit (R.SEQ_RAIL_STATUS.REQ r))
    then s.setF (R.SEQ_GRP_STATUS.STATE g) 0 else s) s

/-- The delay of group `g` before its re-sequence begins. -/
def State.armRsdly (s : State) (g : Nat) : State :=
  s.arm (T.rsdly g) (max 1 (min 10000 (s.fld (R.SEQ_GRP_CFG.RSDLY g))) * 1000000)

/-- The path is on the boardnet again: the groups that wait for it are re-sequenced after their RSDLY (R149). -/
def State.returned (s : State) : State :=
  (List.range 16).foldl (fun s g =>
    if (s.group g).waitReturn then
      let s := s.updGroup g (fun x => { x with waitReturn := false })
      if s.fld (R.SEQ_GRP_STATUS.STATE g) = 2 then s.armRsdly g else s
    else s) s

/-- The change between boardnet and pack, seen at a tick (R134, R149). -/
def State.pathTick (s : State) : State :=
  let now := s.fld R.PATH_STATUS.STATE
  let began := s.path.hoBegan
  let s := (s.updSeq (fun q => { q with pathWas := now })).setB R.SEQ_STATUS.ONBAT (onPack now)
  let s := { s with path := { s.path with hoBegan := false } }
  let s := if began && s.bit R.SEQ_CFG.BATEN then s.groupShutdown (s.fld R.SEQ_CFG.BATGRP) true else s
  if now = 2 then s.returned else s

/-- The end of a commanded power-down: every rail is OFF or LATCHED (R144). -/
def State.downProgress (s : State) : State :=
  if s.sys.phase = .powerDown && !s.link.cascOn && s.railsOn.all s.railDown
  then s.updSeq (fun q => { q with railsDown := true }) else s

/-- What one tick does to the rails that stop, run or wait. -/
def State.tickRails (s : State) : State :=
  let s := s.railsOn.foldl (fun s r => if s.qst r = Q.stop && s.offTest r then s.railOff r else s) s
  let s := s.railsOn.foldl State.watchPg s
  let s := s.settleOffs
  if s.seqHeld || s.seq.switchHold || s.sysHolds then s
  else (s.railsOn.foldl State.judgeRail s).admission

/-- The groups that stop now and merge (R143). -/
def State.stoppingGroups (s : State) : List Nat := (List.range 16).filter (fun g => s.fld (R.SEQ_GRP_STATUS.STATE g) = 1)

/-- The rails of group `g` that its stop holds return, those requested to WAIT, and a re-sequence after a fault is
counted (R142, R149). -/
def State.resequence (s : State) (g : Nat) : State :=
  let x := s.group g
  let s := s.setF (R.SEQ_GRP_STATUS.STATE g) 3
  let s := x.closure.foldl (fun s r => if s.qst r = Q.off && (s.rail r).stopFor = .group then s.freeRail r else s) s
  let n := s.fld (R.SEQ_GRP_STATUS.RSCNT g)
  let s := if x.byHandover then s
    else if n < 14 then s.setF (R.SEQ_GRP_STATUS.RSCNT g) (n + 1)
    else if n = 14 then ((s.setF (R.SEQ_GRP_STATUS.RSCNT g) 15).setB (R.SEQ_GRP_STATUS.SAT g) true).saturated B.seq
    else s
  s.updGroup g (fun y => { y with byHandover := false })

/-- Whether the re-sequence of group `g` has to wait: its fabric line asks for a shut-down, or another group still
stops (R142, R143). -/
def State.reseqHeld (s : State) (g : Nat) : Bool := s.acrd.act.getLsbD (64 + g) || !s.stoppingGroups.isEmpty

/-- A tick performs the re-sequences that are past their time and no longer held (R143). -/
def State.lateResequence (s : State) : State :=
  (List.range 16).foldl (fun s g =>
    match s.deadline (T.rsdly g) with
    | some d => if d < s.ns && !s.reseqHeld g then (s.disarm (T.rsdly g)).resequence g else s
    | none => s) s

/-- What a sequencer tick does. -/
def State.tickBody (s : State) : State :=
  let s := (((s.pathTick.lateResequence).tickRails.orderedStop).sysProgress).groupsIdle.downProgress
  (s.setF R.SEQ_STATUS.RAMPSUM s.rampSum).showReact

/-- One sequencer tick (R132 to R137, R142, R144, R146, R149, R150). -/
def State.seqTick (s : State) : State :=
  match s.deadline T.seqTick with
  | none => s
  | some d => ((s.notBefore d).arm T.seqTick 250).tickBody

/-- The tick of the release itself, once the sequencer is released (R4, Table 7.6). -/
def State.firstTick (s : State) : State := if s.runs T.seqTick then s.tickBody else s

/-! ## Release, power-down, safe sequence (R142, R144, R146, R151) -/

/-- Every rail takes its AUTO request and sequencing starts as at release (R132, R142). -/
def State.seqBegin (s : State) : State :=
  s.railsOn.foldl (fun s r =>
    let a := s.bit (R.SEQ_RAIL_CFG.AUTO r)
    let s := (s.setB (R.SEQ_RAIL_STATUS.REQ r) a).updRail r (fun _ => RailState.zero)
    (s.setRail r (if a then Q.wait else Q.off)).clearRetry r) s

/-- The outputs of the monitor-and-enable rails take their inactive levels (R129). -/
def State.gpsInactive (s : State) : State :=
  (List.range 64).foldl (fun s r =>
    if s.bit (R.SEQ_RAIL_CFG.EN r) && s.bit (R.SEQ_RAIL_CFG.KIND r) then s.driveGp r false else s) s

/-- Sequencing begins at the end of a switch that changed the topology, with the requests as they then are (R151). -/
def State.switchRelease (s : State) : State :=
  s.railsOn.foldl (fun s r =>
    if s.qst r = Q.off && s.bit (R.SEQ_RAIL_STATUS.REQ r) then s.setRail r Q.wait else s) s

/-- Sequencer release at t3: ranks, requests and the tick (R130, R132). -/
def State.seqRelease (s : State) : State :=
  let s := { s with seq := { s.seq with
                                        lastStart := none, lastStop := none, sysReset := .none, halting := false, switchHold := false,
                                        railsDown := false, offClosures := [], pathWas := s.fld R.PATH_STATUS.STATE } }
  s.gpsInactive.showRanks.seqBegin.arm T.seqTick 250

/-- A commanded power-down of every rail (R144); HALT ends (R142). -/
def State.seqPowerDown (s : State) : State :=
  let s := s.idleGroups.takeRails s.railsOn .powerDown
  let s := (s.setB R.SEQ_STATUS.HALT false).disarm T.sysHold
  (s.updSeq (fun q => { q with sysReset := .none, halting := false, offClosures := [] })).showReact

/-- The sequencer's part of the safe sequence (R146). -/
def State.seqSafe (s : State) : State :=
  let s := s.idleGroups.disarm T.sysHold
  let s := s.railsOn.foldl (fun s r =>
    let q := s.qst r
    if q = Q.wait || q = Q.inAdmit || q = Q.retry then
      (s.setRail r Q.off).updRail r (fun x => { x with marked := false, stopFor := .safe, retryFrom := none })
    else if s.running r then s.updRail r (fun x => { x with
      marked := s.bit (R.SEQ_RAIL_CFG.SAFE r), stopFor := if s.bit (R.SEQ_RAIL_CFG.SAFE r) then .safe else .none })
    else s.updRail r (fun x => { x with stopFor := .safe })) s
  (s.updSeq (fun q => { q with sysReset := .none, halting := false, offClosures := [] })).showReact

/-- Step 4 of a system reset: latches and counts cleared, sequencing as at release (R142). -/
def State.sysStep4 (s : State) : State :=
  let s := (List.range 16).foldl (fun s g => ((s.setF (R.SEQ_GRP_STATUS.RSCNT g) 0).setB (R.SEQ_GRP_STATUS.SAT g) false).setB
    (R.SEQ_GRP_STATUS.EXH g) false) s
  (s.seqBegin.updSeq (fun q => { q with sysReset := .resequencing, lastStart := q.lastStart })).showReact

/-! ## Meanings: ticks, requests, qualification -/

/-- Whether SEQ_RAIL_CTRL, OPERATION and RAIL_CTRL are acted on (R144, R146). -/
def State.railCtrlOk (s : State) (r : Nat) : Bool := !s.seqHeld && s.bit (R.SEQ_RAIL_CFG.EN r)

/-- An on request (R132): OFF to WAIT, unless a stop under way holds the rail. -/
def State.railOn (s : State) (r : Nat) : State :=
  if s.railCtrlOk r then
    let s := s.setB (R.SEQ_RAIL_STATUS.REQ r) true
    if s.qst r = Q.off && s.holdOf r = .none then s.setRail r Q.wait else s
  else s

/-- An off request (R144): the rail's request cleared, and its local-dependent closure stopped. -/
def State.railOffRequest (s : State) (r : Nat) : State :=
  if s.railCtrlOk r then
    let s := (s.setB (R.SEQ_RAIL_STATUS.REQ r) false).setB (R.SEQ_RAIL_STATUS.FLT r) false
    let cl := (s.closure [r]).filter (fun k => s.holdOf k ≠ .group && s.holdOf k ≠ .system)
    let s := s.takeRails cl .offRequest
    s.updSeq (fun q => { q with offClosures := q.offClosures ++ [cl] })
  else s

/-- A group of whose closure no rail is LATCHED any more is not latched (R149). -/
def State.unlatchGroups (s : State) : State :=
  (List.range 16).foldl (fun s g => if (s.group g).latched && !s.groupLatched g
    then s.updGroup g (fun x => { x with latched := false }) else s) s

/-- A clear of a LATCHED rail (R141): a requested one returns to WAIT, or stays off with what holds it (R142, R144). -/
def State.railClear (s : State) (r : Nat) : State :=
  if s.railCtrlOk r && s.qst r = Q.latched then ((s.setRail r Q.off).freeRail r).unlatchGroups else s

/-- RAIL_CTRL over the two-wire bus (R282): the rail in bits [5:0], the command of SEQ_RAIL_CTRL in [9:8]; 0b00 is no
action. -/
def State.busRail (s : State) (m : BusMsg) : State :=
  s.busSend m 0xE5 2 (fun s l =>
    let r := bytesLE l % 64
    some (match bytesLE l / 256 % 4 with
      | 1 => s.railOn r
      | 2 => s.railOffRequest r
      | 3 => s.railClear r
      | _ => s))

/-- RAIL_ON_REQUEST (R132). -/
def execRailOnRequest (r : Req) (n : Fin 64) (s : State) (m : Option BusMsg := none) : Out := .next (
  sentAs r m s.busRail
    (if s.may r (R.SEQ_RAIL_CTRL.reg n) true (some 0xE5) then (s.railOn n).hostWrite r 0xE5 (n + 256) else s.denied r true))

/-- RAIL_OFF_REQUEST (R144). -/
def execRailOffRequest (r : Req) (n : Fin 64) (s : State) (m : Option BusMsg := none) : Out := .next (
  sentAs r m s.busRail
    (if s.may r (R.SEQ_RAIL_CTRL.reg n) true (some 0xE5) then (s.railOffRequest n).hostWrite r 0xE5 (n + 512) else s.denied r true))

/-- RAIL_CLEAR_LATCH (R141). -/
def execRailClearLatch (r : Req) (n : Fin 64) (s : State) (m : Option BusMsg := none) : Out := .next (
  sentAs r m s.busRail
    (if s.may r (R.SEQ_RAIL_CTRL.reg n) true (some 0xE5) then (s.railClear n).hostWrite r 0xE5 (n + 768) else s.denied r true))

/-- RAIL_QUALIFIED (R136): PGQ after the power-good input last became 1. -/
def execRailQualified (n : Fin 64) (s : State) : Out := .next (
  match (s.rail n).qualFrom with
  | some t => if s.qst n = Q.ramp && s.railPg n then (s.notBefore (t + s.pgqNs n)).qualify n else s
  | none => s)

/-- RAIL_START_TIMEOUT (R136). -/
def execRailStartTimeout (n : Fin 64) (s : State) : Out := .next (
  match (s.rail n).onFrom with
  | some t => if s.qst n = Q.ramp then
      let s := (s.notBefore (t + s.onmaxNs n)).updRail n (fun x => { x with onFrom := none })
      (s.raiseWith 28 0 1 (s.railPd n)).railFault n 2 0 false
    else s
  | none => s)

/-- RAIL_CHATTER_LIMIT (R136, R150). -/
def execRailChatterLimit (n : Fin 64) (s : State) : Out := .next (
  if s.chatters n then s.chatterFault n else s)

/-- RAIL_DISCHARGE_TIMEOUT (R144): FS_30, a recording fault, and the rail counts as off. -/
def execRailDischargeTimeout (n : Fin 64) (s : State) : Out := .next (
  match (s.rail n).offFrom with
  | some t => if s.qst n = Q.stop then
      let s := s.notBefore (t + s.offmaxNs n)
      ((s.raiseWith 30 0 1 (s.railPd n)).railFault n 4 0 false).railOff n
    else s
  | none => s)

/-- RETRY_DELAY_END (R141). -/
def execRetryDelayEnd (n : Fin 64) (s : State) : Out := .next (
  match (s.rail n).retryFrom with
  | some t => if s.qst n = Q.retry then
      ((s.notBefore (t + s.rdlyNs n)).updRail n (fun x => { x with retryFrom := none })).setRail n
        (if s.bit (R.SEQ_RAIL_STATUS.REQ n) then Q.wait else Q.off)
    else s
  | none => s)

/-- RETRY_COUNT_CLEAR (R141): TRC seconds of unbroken GOOD. -/
def execRetryCountClear (n : Fin 64) (s : State) : Out := .next (
  match (s.rail n).goodFrom with
  | some t => if s.qst n = Q.good
    then (s.notBefore (t + max 1 (s.fld R.SEQ_CFG.TRC) * 1000000000)).clearRetry n else s
  | none => s)

/-! ## Meanings: groups and system -/

/-- GROUP_SHUTDOWN_REQUEST (R142). -/
def execGroupShutdownRequest (r : Req) (g : Fin 16) (s : State) : Out := .next (
  if s.may r (R.SEQ_GRP_CTRL.reg g) true none then (s.groupShutdown g false).hostWrite r 0xD1 1 else s.denied r true)

/-- Whether group `g` latches when its closure is off (R142). -/
def State.groupLatches (s : State) (g : Nat) : Bool :=
  let m := s.fld (R.SEQ_GRP_CFG.MAXRS g)
  !s.bit (R.SEQ_GRP_CFG.RESEQ g) || (m ≠ 0 && m ≤ s.fld (R.SEQ_GRP_STATUS.RSCNT g))

/-- Rail `r` latches at the end of the merged shut-downs: some group that holds it latches, or two differ. -/
def State.railLatches (s : State) (gs : List Nat) (r : Nat) : Bool :=
  gs.any (fun g => (s.group g).closure.contains r && !(s.group g).byHandover && s.groupLatches g)

/-- The end of group `g`'s stop: idle after a latch, the delay before a re-sequence otherwise (R142, R149). -/
def State.closeGroup (s : State) (g : Nat) : State :=
  let x := s.group g
  if !x.byHandover && s.groupLatches g then
    let s := s.setB (R.SEQ_GRP_STATUS.EXH g) (s.bit (R.SEQ_GRP_CFG.RESEQ g))
    (s.setF (R.SEQ_GRP_STATUS.STATE g) 0).updGroup g (fun x => { x with
      waitReturn := false, latched := x.closure.any (fun r => s.qst r = Q.latched) })
  else
    let s := s.setF (R.SEQ_GRP_STATUS.STATE g) 2
    if x.waitReturn then s else s.armRsdly g

/-- The decisions of every merged shut-down once all their closures are down (R142, R143). -/
def State.closeGroups (s : State) : State :=
  let gs := s.stoppingGroups
  let rails := s.railsOn.filter (fun r => gs.any (fun g => (s.group g).closure.contains r))
  let s := rails.foldl (fun s r =>
    let s := s.clearRetry r
    if s.qst r = Q.off && (s.rail r).reqAtShut && s.railLatches gs r
    then (s.setRail r Q.latched).updRail r (fun x => { x with stopFor := .none }) else s) s
  let s := gs.foldl State.closeGroup s
  (rails.foldl (fun s r => if s.qst r = Q.off && (s.rail r).stopFor = .group then s.freeRail r else s) s).showReact

/-- GROUP_CLOSURE_OFF (R142). -/
def execGroupClosureOff (g : Fin 16) (s : State) : Out := .next (
  let gs := s.stoppingGroups
  if gs.contains g.val && gs.all (fun k => (s.group k).closure.all s.railDown) then s.closeGroups else s)

/-- GROUP_RESEQUENCE (R142, R149). -/
def execGroupResequence (g : Fin 16) (s : State) : Out := .next (
  if s.reseqHeld g then s
  else match s.expire (T.rsdly g) with
  | some s => s.resequence g
  | none => s)

/-- The latest instant from which a list of rails has been in GOOD together; none when one is not. -/
def State.goodSince (s : State) (l : List Nat) : Option Nat :=
  if l.isEmpty || !l.all (fun r => s.qst r = Q.good) then none
  else some (l.foldl (fun m r => max m ((s.rail r).goodFrom.getD 0)) 0)

/-- The stability time TSTABLE in nanoseconds. -/
def State.tstable (s : State) : Nat := max 1 (s.fld R.SEQ_SYS.TSTABLE) * 1000000000

/-- GROUP_STABLE (R142). -/
def execGroupStable (g : Fin 16) (s : State) : Out := .next (
  match s.goodSince (s.railsOn.filter (fun r => s.bit (R.SEQ_RAIL_CFG.INGRP r) && s.fld (R.SEQ_RAIL_CFG.GRP r) = g.val)) with
  | some t => ((s.notBefore (t + s.tstable)).setF (R.SEQ_GRP_STATUS.RSCNT g) 0).setB (R.SEQ_GRP_STATUS.SAT g) false
  | none => s)

/-- SYSTEM_STABLE (R142). -/
def execSystemStable (s : State) : Out := .next (
  match s.goodSince s.autoRails with
  | some t => ((s.notBefore (t + s.tstable)).setF R.SEQ_STATUS.SYSCNT 0).setB R.SEQ_STATUS.SAT false
  | none => s)

/-- SYSTEM_RESET_HOLD_END (R142): step 4, or HALT when the resets are exhausted. -/
def execSystemResetHoldEnd (s : State) : Out := .next (
  match s.expire T.sysHold with
  | some s =>
    if s.seq.halting then
      ((s.setB R.SEQ_STATUS.HALT true).updSeq (fun q => { q with sysReset := .halted })).showReact.event 54
    else s.sysStep4
  | none => s)

/-- A RESUME write (R142): ignored outside HALT. -/
def State.seqResume (s : State) : State :=
  if s.bit R.SEQ_STATUS.HALT && !s.seqHeld then
    let s := ((s.setB R.SEQ_STATUS.HALT false).setF R.SEQ_STATUS.SYSCNT 0).setB R.SEQ_STATUS.SAT false
    (s.updSeq (fun q => { q with halting := false })).sysStep4
  else s

/-- SEQ_RESUME (R142). -/
def execSeqResume (r : Req) (s : State) : Out := .next (
  if s.may r R.SEQ_CTRL.reg true none then s.seqResume.hostWrite r 0xD1 1 else s.denied r true)

/-- SNAPSHOT_PLACED (R147). -/
def execSnapshotPlaced (s : State) : Out := .next s.snapPlace

/-! ## Measured inrush (R137) -/

/-- The measured inrush of rail `r`, as a numerator over a denominator in 0.1 A. -/
def State.measInrush (s : State) (r : Nat) : Option (Nat × Nat) :=
  if s.bit (R.SEQ_RAIL_CFG.KIND r) then
    if s.bit (R.SEQ_RAIL_INRUSH.ICHEN r) then some ((s.latest (s.fld (R.SEQ_RAIL_INRUSH.ICH r))).toNat, 100) else none
  else
    let n := s.fld (R.SEQ_RAIL_CFG.LOOP r)
    some ((s.sfld (R.LOOP_IOUT.IOUT n)).toNat * s.fld (R.LOOP_VOUT.VOUT n) * 100, 4096 * max 1 (s.stageSupply n))

/-- The inrush of a rail in RAMP: its peak, and FS_31 at the first value above 1.25 × the declared one. -/
def State.watchInrush (s : State) (r : Nat) : State :=
  if s.qst r = Q.ramp then
    match s.measInrush r with
    | none => s
    | some (a, b) =>
      let s := s.setF (R.SEQ_RAIL_INRPK.PEAK r) (max (s.fld (R.SEQ_RAIL_INRPK.PEAK r)) (satNat 0xFFF (a / b)))
      if s.inrush r ≠ 0 && !(s.rail r).inrushOver && 5 * s.inrush r * b < 4 * a then
        let s := s.updRail r (fun x => { x with inrushOver := true })
        (s.raiseWith 31 0 1 (s.railPd r)).railFault r 5 0 false
      else s
  else s

/-- The inrush watched at a LOOP_IOUT update of loop `n`: its own rail and the monitor-and-enable rails. -/
def State.inrushUpdate (s : State) (n : Nat) : State :=
  s.railsOn.foldl (fun s r =>
    if s.bit (R.SEQ_RAIL_CFG.KIND r) || s.fld (R.SEQ_RAIL_CFG.LOOP r) = n then s.watchInrush r else s) s

end Sys2Proof.Machine
end

