-- ==== Sys2Proof/Machine/Loader.lean ====
section
/-! DEFINITION.  Reading and judging an Accord image: layout, sections, check word, key, signature and security
version (R8 to R14, R329), and the section rules of the other chapters. -/

namespace Sys2Proof.Machine

/-! ## Layout (R8 to R10, Tables 1.1 to 1.5) -/

/-- The length of an image (R8). -/
def imageLen : Nat := 0x480000

/-- Whether a list of bytes is all zero. -/
def allZero (l : List Byte) : Bool := l.all (· = 0#8)

/-- Bytes `off` to `off + n - 1` of a list. -/
def slice (l : List Byte) (off n : Nat) : List Byte := (l.drop off).take n

/-- A blank bank: its first 256 bytes all 0x00 or all 0xFF (R14). -/
def blankImage (im : List Byte) : Bool := allZero (im.take 256) || (im.take 256).all (· = 0xFF#8)

/-- An entry of the section directory. -/
structure Section where
  ty : Nat
  flags : Nat
  off : Nat
  len : Nat
  crc : Nat
  deriving DecidableEq, Repr

/-- The 32 entries of the section directory. -/
def directory (im : List Byte) : List Section :=
  (List.range 32).map (fun i =>
    let a := 0x100 + 16 * i
    ⟨bytesAt im a 2, bytesAt im (a + 2) 2, bytesAt im (a + 4) 4, bytesAt im (a + 8) 4, bytesAt im (a + 12) 4⟩)

/-- The sections an image holds. -/
def sections (im : List Byte) : List Section := (directory im).filter (fun x => x.ty ≠ 0)

/-- The section of a type, if the image holds one. -/
def sectionOf (im : List Byte) (ty : Nat) : Option Section := (sections im).find? (fun x => x.ty = ty)

/-- The bytes of the section of a type, none without one. -/
def sectionBytes (im : List Byte) (ty : Nat) : List Byte :=
  match sectionOf im ty with
  | some x => slice im x.off x.len
  | none => []

/-- The image's BUILD_NAME is ASCII, padded with zeros. -/
def buildNameOk (im : List Byte) : Bool :=
  let l := slice im 0x40 32
  l.all (fun b => decide (b.toNat < 128)) && allZero (l.dropWhile (· ≠ 0#8))

/-- Every header field has a permitted value (R9, Table 1.2). -/
def headerOk (im : List Byte) : Bool :=
  let u := fun a n => bytesAt im a n
  u 0 4 = 0x44524341 && u 4 2 = 1 && u 6 2 = 0x100 && u 8 4 = imageLen && u 12 4 = 0x8256 && u 0x16 2 = 0 &&
  decide (u 0x18 1 ≤ 1) && (decide (u 0x19 1 ≤ 63) || u 0x19 1 = 0xFF) &&
  (decide (0 < u 0x1A 1) && decide (u 0x1A 1 < 16)) && decide (u 0x1B 1 < 4) &&
  (decide (1 ≤ u 0x1C 2) && decide (u 0x1C 2 ≤ 1000)) && (decide (1 ≤ u 0x1E 2) && decide (u 0x1E 2 ≤ 32)) &&
  u 0x1E 2 = (sections im).length && u 0x28 4 = 0x80000 && u 0x2C 4 = 0x400000 && u 0x30 4 = 0x7FF00 &&
  decide (u 0x34 4 ≤ 4096) && buildNameOk im && allZero (slice im 0x60 160)

/-- The types every image must hold; HIERARCHY in a MANAGER (Table 1.4). -/
def requiredTypes (role : Nat) : List Nat := [1, 2, 3, 4, 5, 7, 8, 10] ++ (if role = 1 then [9] else [])

/-- One section lies in the section area, on a 64-byte boundary, with FLAGS 0 and the right SEC_CRC (R10). -/
def sectionPlaced (im : List Byte) (x : Section) : Bool :=
  x.flags = 0 && decide (0x300 ≤ x.off) && decide (x.off + x.len ≤ 0x7FF00) && x.off % 64 = 0 &&
  (crc32 (slice im x.off x.len)).toNat = x.crc

/-- Two sections share no byte and no type (R10). -/
def sectionsApart (x y : Section) : Bool :=
  x.ty ≠ y.ty && (decide (x.off + x.len ≤ y.off) || decide (y.off + y.len ≤ x.off))

/-- Every pair of a list obeys a relation. -/
def pairwiseOk {α : Type} (f : α → α → Bool) : List α → Bool
  | [] => true
  | x :: r => r.all (f x) && pairwiseOk f r

/-- The directory and the sections' places (R10). -/
def directoryOk (im : List Byte) : Bool :=
  (directory im).all (fun x => x.ty ≠ 0 || (x.flags = 0 && x.off = 0 && x.len = 0 && x.crc = 0)) &&
  (sections im).all (sectionPlaced im) && pairwiseOk sectionsApart (sections im) &&
  (requiredTypes (bytesAt im 0x18 1)).all (fun t => (sectionOf im t).isSome) &&
  (sha256 (sectionBytes im 1)).take 8 = slice im 0x20 8

/-! ## Parameters (R19, Tables 1.10 and 1.14) -/

/-- The parameters a PARAMETERS section lists. -/
def paramsOf (l : List Byte) : List Param :=
  let n := bytesAt l 0 4
  (List.range (min n 4096)).map (fun i =>
    let a := 4 + 16 * i
    let b := 4 + 16 * n + 8 * i
    { id := bytesAt l a 2
      flags := bytesAt l (a + 2) 2
      dflt := BitVec.ofNat 32 (bytesAt l (a + 4) 4)
      min := BitVec.ofNat 32 (bytesAt l (a + 8) 4)
      max := BitVec.ofNat 32 (bytesAt l (a + 12) 4)
      target := bytesAt l b 4
      lsb := bytesAt l (b + 4) 1
      width := bytesAt l (b + 5) 1 })

/-- The mask of the bits a parameter owns in its register. -/
def Param.mask (p : Param) : Nat := (2 ^ p.width - 1) * 2 ^ p.lsb

/-- Whether a parameter's flag bit is set: 0 SIGNED, 1 HOST_W, 2 ENGINE_W, 3 FIELD_W, 4 PERSIST_OK, 5 NEXT_START. -/
def Param.flag (p : Param) (i : Nat) : Bool := p.flags.testBit i

/-- A word as a number, signed or not. -/
def wordInt (signed : Bool) (w : Word) : Int := if signed then w.toInt else w.toNat

/-- Whether a bound fits in the parameter's width (R19). -/
def Param.fits (p : Param) (w : Word) : Bool :=
  if p.flag 0 then decide (-(2 ^ (p.width - 1)) ≤ w.toInt) && decide (w.toInt < 2 ^ (p.width - 1))
  else decide (w.toNat < 2 ^ p.width)

/-- Whether the bits of a bound parameter lie wholly inside one RWL field of its register (R19). -/
def Param.insideField (p : Param) : Bool :=
  match regRowOf p.target with
  | none => false
  | some r => p.mask &&& r.rwl = p.mask && (p.mask - 2 ^ p.lsb) &&& r.cut = 0

/-- One parameter obeys R19. -/
def Param.ok (p : Param) : Bool :=
  if p.target = 0 then p.lsb = 0 && p.width = 0
  else decide (0x40000000 ≤ p.target) && decide (p.target < 0x400E0000) && p.target % 4 = 0 &&
    decide (1 ≤ p.width) && decide (p.lsb + p.width ≤ 32) && p.insideField && p.fits p.min && p.fits p.max

/-- Two parameters are in order of identifier and share no bit. -/
def paramsApart (p q : Param) : Bool :=
  decide (p.id < q.id) && (p.target = 0 || p.target ≠ q.target || p.mask &&& q.mask = 0)

/-- The PARAMETERS section (R19): the section holds what its count says. -/
def paramsOk (l : List Byte) : Bool :=
  let n := bytesAt l 0 4
  decide (4 ≤ l.length) && decide (n ≤ 4096) && decide (4 + 24 * n ≤ l.length) &&
  (paramsOf l).all (fun p => p.ok && decide (p.id < 4096)) && pairwiseOk paramsApart (paramsOf l)

/-! ## HOST_PERMISSIONS, ENGINE_CODE, HIERARCHY (R243, R277, R304) -/

/-- The HOST_PERMISSIONS section (R277, Table 14.5). -/
def hostPermOk (l : List Byte) : Bool :=
  let n := bytesAt l 0x100 2
  decide (0x110 ≤ l.length) && decide (n ≤ 128) && decide (0x110 + 16 * n ≤ l.length) &&
  (l.take 256).all (fun b => decide (b.toNat < 4)) && allZero (slice l 0x102 14) &&
  (List.range n).all (fun k =>
    let a := 0x110 + 16 * k
    decide (bytesAt l a 4 ≤ bytesAt l (a + 4) 4) && decide (bytesAt l (a + 8) 4 < 16) && bytesAt l (a + 12) 4 = 0)

/-- The offset of the entry of engine `e` in ENGINE_CODE (Table 12.6). -/
def engEntry (e : Nat) : Nat := 0x240 + 272 * e

/-- The program an engine names, none for 0xFF or without a section. -/
def engProgram (l : List Byte) (e : Nat) : Option Nat :=
  if l.isEmpty || bytesAt l (engEntry e) 1 = 0xFF then none else some (bytesAt l (engEntry e) 1)

/-- The fields ITCM_OFS, ITCM_LEN, DTCM_OFS, DTCM_LEN and ENTRY of a program. -/
def progField (l : List Byte) (p k : Nat) : Nat := bytesAt l (0x1340 + 32 * p + 4 * k) 4

/-- One program of ENGINE_CODE obeys R243. -/
def progOk (l : List Byte) (p : Nat) : Bool :=
  let f := progField l p
  decide (f 1 ≤ 65536) && decide (f 3 ≤ 65536) && decide (f 0 + f 1 ≤ l.length) && decide (f 2 + f 3 ≤ l.length) &&
  f 4 % 2 = 0 && decide (f 4 < f 1)

/-- One engine entry of ENGINE_CODE obeys R243. -/
def engEntryOk (l : List Byte) (e : Nat) : Bool :=
  let spare := bytesAt l (engEntry e + 2) 2
  (match engProgram l e with | some p => decide (p < bytesAt l 0 2) | none => true) &&
  (spare = 0 || (engProgram l e).isSome) && !spare.testBit e &&
  (List.range 16).all (fun k => !spare.testBit k || (engProgram l k).isSome)

/-- The ENGINE_CODE section (R243, Table 12.6); an image may be without one. -/
def engineCodeOk (l : List Byte) : Bool :=
  let n := bytesAt l 0 2
  decide (0x1340 ≤ l.length) && decide (1 ≤ n) && decide (n ≤ 16) && decide (0x1340 + 32 * n ≤ l.length) &&
  (List.range n).all (progOk l) && (List.range 16).all (engEntryOk l) &&
  (List.range 32).all (fun c => let o := bytesAt l (0x210 + c) 1
    o = 0xFF || (decide (o < 16) && (engProgram l o).isSome)) &&
  (List.range 128).all (fun v => (List.range 16).all (fun e =>
    !(bytesAt l (0x10 + 4 * v) 4).testBit e || (engProgram l e).isSome))

/-- The PD_POS of device `d` in a HIERARCHY section (Table 15.2). -/
def pdPos (l : List Byte) (d : Nat) : Nat := bytesAt l (0x11 + 16 * d) 1

/-- The HIERARCHY section (R304, Table 15.2). -/
def hierarchyOk (l : List Byte) : Bool :=
  decide (0x608 ≤ l.length) && bytesAt l 2 2 = 0 &&
  (List.range 64).all (fun d => allZero (slice l (0x12 + 16 * d) 6)) &&
  pairwiseOk (fun a b => a = 0xFF || a ≠ b) ((List.range 64).map (pdPos l)) &&
  (List.range 256).all (fun i => decide (bytesAt l (0x409 + 2 * i) 1 ≤ 63))

/-- The register words a HIERARCHY section gives whole: the remote map. -/
def hierarchyRegs (l : List Byte) : List (Nat × Word) :=
  (List.range 128).map (fun i => (R.LINK_RMAP.reg i, BitVec.ofNat 32
    (bytesAt l (0x408 + 4 * i) 1 * 2 ^ 8 + bytesAt l (0x409 + 4 * i) 1 +
     bytesAt l (0x40A + 4 * i) 1 * 2 ^ 24 + bytesAt l (0x40B + 4 * i) 1 * 2 ^ 16)))

/-! ## What the sections give the registers, and the rules over it -/

/-- The bits of a register that a section sets: its RWL fields, the remote map, and the registers of the fault
collector that FAULT_MAP gives, but for the floors (R20, R212, R297). -/
def configMask (k : Nat) : Word :=
  match regRowOf k with
  | none => 0#32
  | some r =>
    if (0x400B0800 ≤ k ∧ k < 0x400B0A00) ∨ k = R.FLT_NMASK_LO.reg ∨ k = R.FLT_NMASK_HI.reg ∨
      k = R.FLT_SAFE_GP.reg ∨ k = R.FLT_SAFE_RSTO.reg ∨ k = R.FLT_GCFG.reg then BitVec.ofNat 32 (r.ro ||| r.rwl)
    else if 0x40070100 ≤ k ∧ k < 0x40070200 then BitVec.ofNat 32 r.ro &&& 0xCFFFFFFF#32
    else BitVec.ofNat 32 r.rwl

/-- The bits of the register at a key that the loader writes at t3: those, the wake configuration, and the initial
target of a loop (R332). -/
def loadMask (k : Nat) : Word :=
  if k = R.SYS_WAKE_CFG.reg then 0x00FFFE0F#32
  else if 0x40010000 ≤ k ∧ k < 0x40016000 ∧ k % 0x400 = 4 then configMask k ||| 0xFFFF#32
  else configMask k

/-- The registers loaded with the words of an image's sections. -/
def State.loadRegs (s : State) (mask : Nat → Word) (l : List (Nat × Word)) : State :=
  l.foldl (fun s e => s.setReg e.1 (keepOfs e.1 (s.reg e.1) ((s.reg e.1 &&& ~~~(mask e.1)) ||| (e.2 &&& mask e.1)))) s

/-- The loops that enabled loop rails name (R129). -/
def State.railLoops (s : State) : List Nat :=
  (s.railsOn.filter (fun r => !s.bit (R.SEQ_RAIL_CFG.KIND r))).map (fun r => s.fld (R.SEQ_RAIL_CFG.LOOP r))

/-- Phase assignment (R93). -/
def State.phasesOk (s : State) : Bool :=
  let on := (List.range 48).filter (fun p => s.bit (R.PH_CFG.EN p))
  on.all (fun p => decide (s.fld (R.PH_CFG.LOOP p) < 24) && decide (s.fld (R.PH_CFG.SLOT p) < 24)) &&
  pairwiseOk (fun p q => s.fld (R.PH_CFG.LOOP p) ≠ s.fld (R.PH_CFG.LOOP q) ||
    s.fld (R.PH_CFG.SLOT p) ≠ s.fld (R.PH_CFG.SLOT q)) on

/-- Whether remote index `i` is mapped to a remote rail. -/
def State.remoteMapped (s : State) (i : Nat) : Bool :=
  s.fld (if i % 2 = 0 then R.LINK_RMAP.DEV0 (i / 2) else R.LINK_RMAP.DEV1 (i / 2)) ≠ 0xFF

/-- Rails and dependencies (R130). -/
def State.railsOk (s : State) : Bool :=
  let mons := s.railsOn.filter (fun r => s.bit (R.SEQ_RAIL_CFG.KIND r))
  pairwiseOk (fun a b => a ≠ b) s.railLoops &&
  pairwiseOk (fun a b => s.fld (R.SEQ_RAIL_CFG.GP a) ≠ s.fld (R.SEQ_RAIL_CFG.GP b) &&
    s.fld (R.SEQ_RAIL_CFG.MON a) ≠ s.fld (R.SEQ_RAIL_CFG.MON b)) mons &&
  s.railsOn.all (fun r => (List.range 64).all (fun p => !s.parentOf r p || (p ≠ r && s.railsOn.contains p))) &&
  (s.peelRanks 64 0 s.railsOn []).length = s.railsOn.length &&
  s.railsOn.all (fun r => (List.range 4).all (fun k => !(s.fld (R.SEQ_RAIL_TERM.REMEN r)).testBit k ||
    s.remoteMapped (Word.field (s.reg (R.SEQ_RAIL_REM.reg r)) (8 * k) 8)))

/-- Initial targets of the loops of enabled rails (R332). -/
def State.targetsOk (s : State) : Bool :=
  s.railLoops.all (fun n =>
    let t := s.fld (R.LOOP_VSET.TARGET n)
    decide (1024 ≤ t) && decide (t ≤ 22528) && decide (s.fld (R.LOOP_VLIM.VMIN n) ≤ t) &&
    decide (t ≤ s.fld (R.LOOP_VLIM.VMAX n)))

/-- Monitor windows, charger steps and zones (R152, R180, R181). -/
def State.blocksOk (s : State) : Bool :=
  (List.range 64).all (fun m => !s.bit (R.SUP_MON_CFG.EN m) ||
    decide (s.fld (R.SUP_MON_THR.LO m) + 2 * s.fld (R.SUP_MON_CFG.HYS m) + 1 ≤ s.fld (R.SUP_MON_THR.HI m))) &&
  (List.range 3).all (fun k => !s.bit (R.PATH_CHG_STEP.EN (k + 1)) || (s.bit (R.PATH_CHG_STEP.EN k) &&
    decide (s.fld (R.PATH_CHG_STEP.VEND k) < s.fld (R.PATH_CHG_STEP.VEND (k + 1))))) &&
  (List.range 4).all (fun k => decide (s.sfld (R.PATH_ZONE.TMAX k) < s.sfld (R.PATH_ZONE.TMAX (k + 1))))

/-- Whether a group has an enabled rail. -/
def State.groupPeopled (s : State) (g : Nat) : Bool :=
  s.railsOn.any (fun r => s.bit (R.SEQ_RAIL_CFG.INGRP r) && s.fld (R.SEQ_RAIL_CFG.GRP r) = g)

/-- The fault map (R212). -/
def State.faultMapOk (s : State) : Bool :=
  (List.range 64).all (fun n =>
    let c := s.faultClass n
    let imm := s.bit (R.FLT_CFG.IMM n)
    decide ((faultDefault n).2.1 ≤ c) && decide (c ≤ 2) &&
    (c = 0 || imm || (decide (1000 ≤ s.graceNs n) && decide (s.graceNs n ≤ 1000000000))) && !(c = 0 && imm) &&
    (c ≠ 1 || s.bit (R.FLT_CFG.ACT n) || s.groupPeopled (s.fld (R.FLT_CFG.GRP n))))

/-- The words every section of an image gives the registers. -/
def imageRegs (im : List Byte) : List (Nat × Word) :=
  [1, 2, 3, 10].flatMap (fun t => Config.sectionRegs t (sectionBytes im t)) ++
  (if bytesAt im 0x18 1 = 1 then hierarchyRegs (sectionBytes im 9) else [])

/-- The routing of a cell stream (R329): no action line is connected to two tile outputs, and none from ACT_249 on to
any. -/
def routingOk (l : List (Nat × Nat × Nat)) : Bool :=
  pairwiseOk (fun a b => a.2.2 ≠ b.2.2 || (a.1 = b.1 && a.2.1 = b.2.1)) l && l.all (fun a => decide (a.2.2 < 249))

/-- Every rule a section must obey beyond its place (R10, R13). -/
def sectionsOk (im : List Byte) : Bool :=
  let t := { State.reset with regs := [] }.loadRegs loadMask (imageRegs im)
  directoryOk im && [1, 2, 3, 10].all (fun k => Config.sectionLayoutOk k (sectionBytes im k)) &&
  paramsOk (sectionBytes im 4) && hostPermOk (sectionBytes im 5) &&
  ((sectionOf im 6).isNone || engineCodeOk (sectionBytes im 6)) &&
  (sectionBytes im 7).length = 8192 && (sectionBytes im 8).length = 16384 &&
  (bytesAt im 0x18 1 = 0 || hierarchyOk (sectionBytes im 9)) && routingOk (Config.tileOutputs (im.drop 0x80000)) &&
  t.phasesOk && t.railsOk && t.targetsOk && t.blocksOk && t.faultMapOk

/-! ## Judging (R11, R13, R14) -/

/-- The message digest of an image (R11). -/
def imageHash (im : List Byte) : List Byte := sha256 (im.take 0x7FF44 ++ im.drop 0x80000)

/-- The image's life-cycle mask admits the present state (R13, R32). -/
def State.lifeCycleOk (s : State) (im : List Byte) : Bool :=
  let lc := s.fld R.SYS_STATUS.LC
  lc ≠ 0 && (bytesAt im 0x1A 1).testBit (lc - 1) && !((bytesAt im 0x1B 1).testBit 0 && (lc = 2 || lc = 3))

/-- The public key is the one of its slot, and the slot is not revoked (R11, R248). -/
def State.keyOk (s : State) (im : List Byte) : Bool :=
  let k := bytesAt im 0x7FF00 1
  decide (k < 4) && s.pageReadable 1 && !(bytesAt (s.pageBytes 1) 0 1).testBit k && s.pageReadable (3 + k) &&
  sha256 (slice im 0x7FF04 64) = (s.pageBytes (3 + k)).take 32

/-- The security-version floor that record 1 of the Ledger holds (Table 13.3): its stored value. -/
def State.svnFloor (s : State) : Nat := match s.recStored 1 with | some (v, _, _) => v.toNat % 65536 | none => 0

/-- The cause code of an image, at the first step of R13 that fails; 0 when it passes.  The reserved bytes of the trailer
(Table 1.5) are judged by no step: the spec names no failure for them (DESIGN CHOICE, log entry 138). -/
def State.judgeCause (s : State) (im : List Byte) : Nat :=
  if blankImage im || !headerOk im then 1
  else if !s.lifeCycleOk im then 2
  else if !sectionsOk im then 3
  else if (crc32 (im.take 0x7FFFC ++ im.drop 0x80000)).toNat ≠ bytesAt im 0x7FFFC 4 then 4
  else if !s.keyOk im then 5
  else if !ecdsaOk (slice im 0x7FF04 64) (slice im 0x7FF44 64) (imageHash im) then 6
  else if decide (bytesAt im 0x14 2 < s.svnFloor) then 7
  else 0

/-- What the loader keeps of an image. -/
def imageOf (im : List Byte) : Image where
  version := BitVec.ofNat 32 (bytesAt im 0x10 4)
  svn := bytesAt im 0x14 2
  role := bytesAt im 0x18 1
  devPin := bytesAt im 0x19 1
  flags := bytesAt im 0x1B 1
  bound := bytesAt im 0x1C 2
  topo := BitVec.ofNat 64 (bytesAt im 0x20 8)
  hash := imageHash im
  params := paramsOf (sectionBytes im 4)
  hostPerm := sectionBytes im 5
  regs := imageRegs im
  hier := if bytesAt im 0x18 1 = 1 then sectionBytes im 9 else []
  engines := sectionBytes im 6
  safe := sectionBytes im 7
  outputs := Config.tileOutputs (im.drop 0x80000)
  checkAt := match sectionOf im 8 with | some x => x.off | none => 0

/-- The bytes of bank `b`. -/
def State.bankImage (s : State) (b : Bool) : List Byte := s.bankRead b 0 imageLen

/-- The internal reads of a Ledger page, with what each read counts and raises (R249). -/
def State.touchPage (s : State) (p : Nat) : State :=
  (List.range 8).foldl (fun s i => (s.ledgReadWord (8 * p + i)).2) s

/-- A bank is judged by R13: the Ledger pages the key step reads are read, and the cause found. -/
def State.judgeBank (s : State) (b : Bool) : Nat × State :=
  let im := s.bankImage b
  let c := s.judgeCause im
  (c, if c = 0 || decide (5 ≤ c) then (s.touchPage 1).touchPage (3 + bytesAt im 0x7FF00 1 % 4) else s)

end Sys2Proof.Machine
end

