-- ==== Sys2Proof/Machine/EngBase.lean ====
section
/-! DEFINITION.  The engines apart from their instructions: loading, release and halting, memories, semaphores,
interrupt controllers, event forwarding, DMA channels' ends and takeover (spec/12). -/

namespace Sys2Proof.Machine

/-! ## Engines and their memories -/

/-- An engine with nothing loaded. -/
def EngState.zero : EngState where
  pc := 0
  xs := []
  mie := false
  mpie := false
  mieReg := 0
  mtvec := 0
  mscratch := 0
  mepc := 0
  mcause := 0
  mtval := 0
  minstret := 0
  claims := []
  tcmpArmed := false
  itcm := []
  dtcm := []
  itcmBad := []
  dtcmBad := []

/-- The row of engine `e`. -/
def State.eng (s : State) (e : Nat) : EngState := s.evt.engines.at EngState.zero e

/-- The state with the row of engine `e` changed by `f`. -/
def State.updEng (s : State) (e : Nat) (f : EngState → EngState) : State :=
  { s with evt := { s.evt with engines := s.evt.engines.upd EngState.zero e f } }

/-- ENG_STATUS.STATE of engine `e`. -/
def State.est (s : State) (e : Nat) : Nat := s.fld (R.ENG_STATUS.STATE e)

/-- The words of a memory filled with bytes from address 0. -/
def fillWords (l : List Byte) : Cells Word :=
  (List.range ((l.length + 3) / 4)).foldl (fun c i => c.put 0#32 i (BitVec.ofNat 32 (bytesAt l (4 * i) 4))) []

/-- The bytes of the code and of the data image of a program (Table 12.6). -/
def progCode (l : List Byte) (p : Nat) : List Byte := slice l (progField l p 0) (progField l p 1)
def progData (l : List Byte) (p : Nat) : List Byte := slice l (progField l p 2) (progField l p 3)

/-- The TCMs of engine `e` filled from program `p` of an ENGINE_CODE section, the rest 0 (R228, R244). -/
def State.loadTcms (s : State) (e : Nat) (l : List Byte) (p : Nat) : State :=
  s.updEng e (fun x => { x with itcm := fillWords (progCode l p), dtcm := fillWords (progData l p), itcmBad := [], dtcmBad := [] })

/-- Engine `e` takes its entry of ENGINE_CODE: program, spare mask, regions and levels (R244). -/
def State.loadEngine (s : State) (l : List Byte) (e : Nat) : State :=
  let a := engEntry e
  let s := s.setF (R.ENG_CFG.SPARE_FOR e) (bytesAt l (a + 2) 2)
  let s := (List.range 16).foldl (fun s r =>
    (s.setReg (R.ENG_MPU_BASE.reg e r) (BitVec.ofNat 32 (bytesAt l (a + 16 + 8 * r) 4) &&& 0xFFFFFFFE#32)).setReg
      (R.ENG_MPU_LIM.reg e r) (BitVec.ofNat 32 (bytesAt l (a + 20 + 8 * r) 4) &&& 0xFFFFFFE0#32)) s
  let s := (List.range 32).foldl (fun s i =>
    s.setReg (R.EIC_LVL.reg e i) (BitVec.ofNat 32 (bytesAt l (a + 144 + 4 * i) 4))) s
  match engProgram l e with
  | some p => (s.setB (R.ENG_CFG.PROG e) true).loadTcms e l p
  | none => s

/-- The loader fills the engines, routing and DMA ownership by t2 (R244). -/
def State.loadEngines (s : State) (l : List Byte) : State :=
  if l.isEmpty then s
  else
    let s := (List.range 16).foldl (fun s e => s.loadEngine l e) s
    let s := (List.range 128).foldl (fun s v =>
      s.setReg (R.EVT_ROUTE.reg v) (BitVec.ofNat 32 (bytesAt l (0x10 + 4 * v) 4) &&& 0xC000FFFF#32)) s
    (List.range 32).foldl (fun s c => s.setF (R.DMA_CH_CFG.OWNER c) (bytesAt l (0x210 + c) 1 % 32)) s

/-- Engine `e` leaves reset at the entry of program `p` with a0 and a1 (R231, R244). -/
def State.releaseEngine (s : State) (e : Nat) (l : List Byte) (p a1 : Nat) : State :=
  let xs := Cells.put 0#32 (Cells.put 0#32 [(2, 0x00020000#32)] 10 (BitVec.ofNat 32 e)) 11 (BitVec.ofNat 32 a1)
  let s := s.updEng e (fun x => { EngState.zero with
    itcm := x.itcm, dtcm := x.dtcm, itcmBad := x.itcmBad, dtcmBad := x.dtcmBad,
    pc := BitVec.ofNat 32 (progField l p 4), xs := xs, tcmpArmed := x.tcmpArmed })
  (s.setF (R.EIC_THR.THR e) 0).setF (R.ENG_STATUS.STATE e) 1

/-- At t3 every engine with a program leaves reset in the same cycle (R244). -/
def State.engStart (s : State) (l : List Byte) : State :=
  (List.range 16).foldl (fun s e =>
    match engProgram l e with
    | some p => (s.releaseEngine e l p 0xFF).setF (R.ENG_STATUS.AS e) e
    | none => s) s

/-! ## Forwarder (R240, R241) -/

/-- The forward in progress ends: its pending bit clears unless the event was raised again. -/
def State.endForward (s : State) : State :=
  let ev := s.fld R.EVT_FWD.EV
  let s := s.setBitAt R.EVT_FWD_PEND.reg ev s.evt.again
  let s := { s with evt := { s.evt with again := false }, link := { s.link with fwdSeq := none } }
  ((s.setB R.EVT_FWD.BUSY false).setB R.EVT_FWD.LINKW false).disarm T.forward

/-- The forward ends when every destination has acknowledged. -/
def State.checkForward (s : State) : State :=
  if s.bit R.EVT_FWD.BUSY && s.fld R.EVT_FWD.WAIT = 0 && !s.bit R.EVT_FWD.LINKW then s.endForward else s

/-- Engine `e` acknowledges the forward, when it is of event `ev` and waits for it. -/
def State.ackForward (s : State) (e ev : Nat) : State :=
  if s.bit R.EVT_FWD.BUSY && s.fld R.EVT_FWD.EV = ev && (s.fld R.EVT_FWD.WAIT).testBit e
  then (s.setF R.EVT_FWD.WAIT (s.fld R.EVT_FWD.WAIT - 2 ^ e)).checkForward else s

/-- The link acknowledges the forward. -/
def State.linkAckForward (s : State) : State :=
  if s.bit R.EVT_FWD.BUSY then (s.setB R.EVT_FWD.LINKW false).checkForward else s

/-- The level of local source `l` in engine `e` (R237). -/
def State.lsLevel (s : State) (e l : Nat) : Nat := Word.field (s.reg (R.EIC_LVL.reg e (l / 8))) (4 * (l % 8)) 4

/-- The lowest-numbered event that waits to be forwarded. -/
def State.nextForward (s : State) : Option Nat := (List.range 128).find? (fun v => s.bitAt R.EVT_FWD_PEND.reg v)

/-- The engines a forward of event `v` waits for: those named whose state and level do not acknowledge at once. -/
def State.forwardWaits (s : State) (v : Nat) : List Nat :=
  (List.range 16).filter (fun e => (s.fld (R.EVT_ROUTE.ENG v)).testBit e && s.engRuns e && s.lsLevel e v ≠ 0)

/-- Event `v` is delivered to every engine its route names (R240); `link`: the link owes an acknowledgement. -/
def State.deliver (s : State) (v : Nat) (link : Bool) : State :=
  let wait := (s.forwardWaits v).foldl (fun m e => m + 2 ^ e) 0
  let s := ((List.range 16).filter (fun e => (s.fld (R.EVT_ROUTE.ENG v)).testBit e)).foldl (fun s e => s.localSource e v) s
  let s := { s with evt := { s.evt with again := false } }
  let s := (((s.setB R.EVT_FWD.BUSY true).setF R.EVT_FWD.EV v).setF R.EVT_FWD.WAIT wait).setB R.EVT_FWD.LINKW link
  (s.arm T.forward (min 10000 (max 10 (s.fld R.EVT_CFG.TACK)) * 1000)).checkForward

/-- FORWARD_TIMEOUT (R241). -/
def execForwardTimeout (s : State) : Out := .next (
  if s.bit R.EVT_FWD.BUSY = false then s
  else
    match s.expire T.forward with
    | none => s
    | some s =>
      let ev := s.fld R.EVT_FWD.EV
      let missed := s.fld R.EVT_FWD.WAIT
      let s := (List.range 16).foldl (fun s e =>
        if missed.testBit e then s.setBitAt (R.EIC_PEND.reg e) ev false else s) s
      let s := s.count B.evt (R.EVT_CNT.MISS ev) (R.EVT_CNT.SAT_M ev)
      let s := s.traceRec 0x0800 (Config.recordCode 10) (Config.recordData 10 (missed * 128 + ev))
      (s.setF R.EVT_FWD.WAIT 0).endForward)

/-! ## Interrupt controller (R237, R238) -/

/-- The running level of engine `e`. -/
def State.runLevel (s : State) (e : Nat) : Nat :=
  match (s.eng e).claims with
  | c :: _ => c.2
  | [] => 0

/-- EIC_STATUS shows the claims of engine `e`. -/
def State.showClaims (s : State) (e : Nat) : State :=
  (s.setF (R.EIC_STATUS.DEPTH e) (satNat 15 (s.eng e).claims.length)).setF (R.EIC_STATUS.RUN e) (s.runLevel e)

/-- The source that qualifies in engine `e`: the highest level above EIC_THR and the running level, the lowest
number among equals. -/
def State.qualified (s : State) (e : Nat) : Option Nat :=
  let floor := max (s.fld (R.EIC_THR.THR e)) (s.runLevel e)
  let c := (List.range 256).filter (fun l => s.bitAt (R.EIC_PEND.reg e) l && decide (floor < s.lsLevel e l))
  let top := (c.map (s.lsLevel e)).foldl max 0
  c.find? (fun l => s.lsLevel e l = top)

/-- A read of EIC_CLAIM by engine `e`: the word it returns, and the claim made. -/
def State.claim (s : State) (e : Nat) : Word × State :=
  match s.qualified e with
  | none => (0x1FF#32, s)
  | some l =>
    let lv := s.lsLevel e l
    let s := (s.setBitAt (R.EIC_PEND.reg e) l false).updEng e (fun x => { x with claims := (l, lv) :: x.claims })
    (BitVec.ofNat 32 (lv * 2 ^ 16 + l), s.showClaims e)

/-- A write of source `l` to EIC_COMPLETE of engine `e`. -/
def State.complete (s : State) (e l : Nat) : State :=
  match (s.eng e).claims with
  | c :: r =>
    if c.1 = l then
      let s := (s.updEng e (fun x => { x with claims := r })).showClaims e
      if l < 128 then s.ackForward e l else s
    else s.setB (R.EIC_STATUS.BADCOMP e) true
  | [] => s.setB (R.EIC_STATUS.BADCOMP e) true

/-- EIC_CLAIM (R237): engine `e` reads its claim register. -/
def execEicClaim (e : Fin 16) (s : State) : Out := .next (if s.engRuns e then (s.claim e).2 else s)

/-- EIC_COMPLETE (R237). -/
def execEicComplete (e : Fin 16) (src : Byte) (s : State) : Out := .next (if s.engRuns e then s.complete e src.toNat else s)

/-- DOORBELL (Table 12.3): engine `e` rings others. -/
def State.ring (s : State) (e : Nat) (targets : Nat) : State :=
  (List.range 16).foldl (fun s k => if targets.testBit k then s.localSource k (176 + e) else s) s

/-- DOORBELL: a write of ENG_DOORBELL by engine `e`. -/
def execDoorbell (e : Fin 16) (targets : BitVec 16) (s : State) : Out := .next (
  if s.engRuns e then s.ring e targets.toNat else s)

/-- The timer compare of engine `e`: 64 bits (ENG_TCMP). -/
def State.tcmp (s : State) (e : Nat) : Nat := (s.pair (R.ENG_TCMP_LO.reg e) (R.ENG_TCMP_HI.reg e)).toNat

/-- TIMER_COMPARE_MATCH (Table 12.3): hierarchy time reaches ENG_TCMP, once for each setting of the compare; the
report carries time to it. -/
def execTimerCompareMatch (e : Fin 16) (s : State) : Out := .next (
  if s.engRuns e && (s.eng e).tcmpArmed then
    let s := s.notBefore (s.localAt (s.tcmp e))
    (s.updEng e (fun x => { x with tcmpArmed := false })).localSource e 162
  else s)

/-! ## Semaphores (R233) -/

/-- The holder code of a requester: an engine or the host. -/
def semCode : Req → Nat
  | .engine e => e.val
  | _ => 16

/-- A read of semaphore `n` by holder `q`: what it returns, and the acquisition. -/
def State.semRead (s : State) (q n : Nat) : Word × State :=
  if s.bit (R.SEM.HELD n) then (s.reg (R.SEM.reg n), s)
  else
    let s := (s.setB (R.SEM.HELD n) true).setF (R.SEM.HOLDER n) q
    (s.reg (R.SEM.reg n) ||| 0x80000000#32, s)

/-- A write to semaphore `n` by holder `q`: a write of 0 by the holder releases it, and clears BROKEN. -/
def State.semWrite (s : State) (q n : Nat) (w : Word) : State :=
  if s.bit (R.SEM.HELD n) && s.fld (R.SEM.HOLDER n) = q && w.field 0 5 = 0 then
    ((s.setB (R.SEM.HELD n) false).setF (R.SEM.HOLDER n) 0).setB (R.SEM.BROKEN n) false
  else s

/-- SEM_ACQUIRE (R233). -/
def execSemAcquire (r : Req) (n : Fin 64) (s : State) : Out := .next (
  if s.may r (R.SEM.reg n) false none then (s.semRead (semCode r) n).2 else s.denied r false)

/-- SEM_RELEASE (R233). -/
def execSemRelease (r : Req) (n : Fin 64) (w : Word) (s : State) : Out := .next (
  if s.may r (R.SEM.reg n) true none then (s.semWrite (semCode r) n w).hostWrite r 0xD1 w.toNat else s.denied r true)

/-! ## DMA: owners, ends and memory of descriptors (R234 to R236) -/

/-- A channel without a descriptor. -/
def DmaState.zero : DmaState := ⟨0, 0, 0, 0, 0, 0, 0⟩

/-- The row of channel `c`. -/
def State.dma (s : State) (c : Nat) : DmaState := s.evt.dma.at DmaState.zero c

/-- The state with the row of channel `c` changed by `f`. -/
def State.updDma (s : State) (c : Nat) (f : DmaState → DmaState) : State :=
  { s with evt := { s.evt with dma := s.evt.dma.upd DmaState.zero c f } }

/-- Whether word `k` of a memory is poisoned. -/
def State.eccBad (s : State) (m : EccMem) (k : Nat) : Bool :=
  match m with
  | .sram => s.evt.sramBad.at false k
  | .itcm e => (s.eng e).itcmBad.at false k
  | .dtcm e => (s.eng e).dtcmBad.at false k

/-- Word `k` of a memory marked poisoned. -/
def State.eccMark (s : State) (m : EccMem) (k : Nat) : State :=
  match m with
  | .sram => { s with evt := { s.evt with sramBad := s.evt.sramBad.put false k true } }
  | .itcm e => s.updEng e (fun x => { x with itcmBad := x.itcmBad.put false k true })
  | .dtcm e => s.updEng e (fun x => { x with dtcmBad := x.dtcmBad.put false k true })

/-- A read of word `k` of a memory with its check bits (R228): a single-bit error is corrected, with FS_46; a word
poisoned, or found with a double error, raises FS_47 and gives no data. -/
def State.eccRead (s : State) (m : EccMem) (k : Nat) (err : EccErr) : Bool × State :=
  if s.eccBad m k then (false, s.raise 47)
  else match err with
    | .none => (true, s)
    | .single => (true, s.raise 46)
    | .double => (false, (s.eccMark m k).raise 47)

/-- The next read of a command, with the error that the command says it finds. -/
def State.eccTake (s : State) (m : EccMem) (k : Nat) : Bool × State :=
  ({ s with evt := { s.evt with eccNext := s.evt.eccNext.tail } }).eccRead m k (s.evt.eccNext.headD .none)

/-- The read that a partial write makes of its word; a poisoned word refuses the write (R228). -/
def State.partRead (s : State) (m : EccMem) (k : Nat) (part : Bool) : Bool × State :=
  if !part then (true, s) else if s.eccBad m k then (false, s) else s.eccTake m k

/-- The errors that the reads of a command find, in their order, and none after it. -/
def State.withErrs (s : State) (errs : List EccErr) (f : State → State) : State :=
  let t := f { s with evt := { s.evt with eccNext := errs } }
  { t with evt := { t.evt with eccNext := [] } }

/-- A command that finds the errors `errs`, where it finds any. -/
def State.meeting (s : State) (errs : List EccErr) (f : State → State) : State :=
  if errs.isEmpty then f s else s.withErrs errs f

/-- The memory word that holds the word of the shared SRAM or of the data TCM of engine `e` at address `a`. -/
def ownPlace (e : Fin 16) (a : Nat) : Option (EccMem × Nat) :=
  if 0x10000 ≤ a && a < 0x20000 then some (.dtcm e, (a - 0x10000) / 4)
  else if 0x20000000 ≤ a && a < 0x20200000 then some (.sram, (a - 0x20000000) / 8)
  else none

/-- The 32-bit word there. -/
def State.ownWord (s : State) (e a : Nat) : Word :=
  if 0x10000 ≤ a && a < 0x20000 then (s.eng e).dtcm.at 0#32 ((a - 0x10000) / 4)
  else
    let w := s.evt.sram.at 0#64 ((a - 0x20000000) / 8)
    if a / 4 % 2 = 0 then w.setWidth 32 else (w >>> 32).setWidth 32

/-- `k` words of a descriptor read from address `a`: none where one is outside both memories or cannot be read. -/
def State.readDesc (s : State) (e : Fin 16) : (k : Nat) → (a : Nat) → Option (List Word) × State
  | 0, _ => (some [], s)
  | k + 1, a =>
    match ownPlace e a with
    | none => (none, s)
    | some (m, i) =>
      let x := s.eccTake m i
      if x.1 then
        let y := State.readDesc x.2 e k (a + 4)
        (y.1.map (fun l => s.ownWord e a :: l), y.2)
      else (none, x.2)

/-- The state with such a word written. -/
def State.setOwnWord (s : State) (e a : Nat) (w : Word) : State :=
  if 0x10000 ≤ a && a < 0x20000 then
    s.updEng e (fun x => { x with
      dtcm := x.dtcm.put 0#32 ((a - 0x10000) / 4) w, dtcmBad := x.dtcmBad.put false ((a - 0x10000) / 4) false })
  else if 0x20000000 ≤ a && a < 0x20200000 then
    let k := (a - 0x20000000) / 8
    let old := s.evt.sram.at 0#64 k
    let new := if a / 4 % 2 = 0 then (old &&& 0xFFFFFFFF00000000#64) ||| w.setWidth 64
               else (old &&& 0x00000000FFFFFFFF#64) ||| (w.setWidth 64 <<< 32)
    if s.evt.sramBad.at false k then s else { s with evt := { s.evt with sram := s.evt.sram.put 0#64 k new } }
  else s

/-- The owner of channel `c`, if an engine owns it. -/
def State.dmaOwner (s : State) (c : Nat) : Option Nat :=
  let o := s.fld (R.DMA_CH_CFG.OWNER c)
  if o < 16 then some o else none

/-- Channel `c` ends or stops with a PROGRESS state and cause (R235): PROGRESS written, the owner's source set,
FS_49 for an error. -/
def State.dmaStop (s : State) (c st cause : Nat) : State :=
  let o := (s.dmaOwner c).getD 0
  let d := s.dma c
  let s := ((s.setF (R.DMA_CH_STATUS.STATE c) st).setF (R.DMA_CH_STATUS.CAUSE c) cause).updDma c (fun x => { x with stop := 0 })
  let s := s.setOwnWord o (d.desc.toNat + 0x14) (BitVec.ofNat 32
    (st * 2 ^ 28 + cause * 2 ^ 24 + s.fld (R.DMA_CH_STATUS.DONE c)))
  let s := if d.ctrl.getLsbD 4 || st ≠ 2 then s.localSource o (128 + c) else s
  if st = 4 then s.raise 49 else s

/-- Whether channel `c` runs. -/
def State.dmaRuns (s : State) (c : Nat) : Bool := s.fld (R.DMA_CH_STATUS.STATE c) = 1

/-- A write of DMA_CH_CTRL by the owner asks a running channel to stop at the next beat boundary (R236). -/
def State.dmaAsk (s : State) (c st : Nat) : State :=
  if s.dmaRuns c then s.updDma c (fun x => { x with stop := st }) else s

/-- DMA_SUSPEND (R236): by the owner only. -/
def execDmaSuspend (e : Fin 16) (c : Fin 32) (s : State) : Out := .next (
  if s.dmaOwner c = some e.val then s.dmaAsk c 3 else s)

/-- DMA_ABORT (R236). -/
def execDmaAbort (e : Fin 16) (c : Fin 32) (s : State) : Out := .next (
  if s.dmaOwner c = some e.val then s.dmaAsk c 6 else s)

/-- The MPU decision of R232 for engine `e`: the lowest-numbered enabled region with every byte of the access
grants the kind (0 fetch, 1 load, 2 store). -/
def State.mpuMay (s : State) (e kind a n : Nat) : Bool :=
  let holds := fun r => s.bit (R.ENG_MPU_BASE.EN e r) && decide (s.fld (R.ENG_MPU_BASE.BASE e r) ≤ a / 32) &&
    decide ((a + (n - 1)) / 32 ≤ s.fld (R.ENG_MPU_LIM.LIMIT e r))
  match (List.range 16).find? holds with
  | none => false
  | some r => s.bit (if kind = 0 then R.ENG_MPU_BASE.X e r else if kind = 1 then R.ENG_MPU_BASE.R e r else R.ENG_MPU_BASE.W e r)

/-- A refusal by the MPU of engine `e`: FS_48, and the first one held (R232); `ch` names the channel of a beat. -/
def State.mpuRefuse (s : State) (e kind a ch : Nat) : State :=
  let s := s.raise 48
  if s.bit (R.ENG_MPU_FINFO.VALID e) then s
  else (((s.setReg (R.ENG_MPU_FADDR.reg e) (BitVec.ofNat 32 a)).setB (R.ENG_MPU_FINFO.VALID e) true).setF
    (R.ENG_MPU_FINFO.TYPE e) kind).setF (R.ENG_MPU_FINFO.CH e) (if kind = 3 then ch else 0)

/-- The steps by which a descriptor's addresses move (Table 12.2). -/
def DmaState.width (d : DmaState) : Nat := 2 ^ d.ctrl.field 0 2

/-- Whether the descriptor is aligned and of a length R234 admits. -/
def DmaState.ok (d : DmaState) : Bool :=
  d.len ≠ 0 && d.len % d.width = 0 && d.src.toNat % d.width = 0 && d.dst.toNat % d.width = 0

/-- A descriptor is loaded from address `a` of the owner's memory into channel `c` (R234, R236): it resumes after a
stop whose PROGRESS state is 3, 4 or 5, else begins at DONE 0. -/
def State.dmaLoad (s : State) (e c a : Nat) (resume : Bool) : State :=
  let x := s.readDesc (Fin.ofNat 16 e) 6 a
  let s := x.2
  match x.1 with
  | some [src, dst, len, ctrl, next, prog] =>
    let st := prog.field 28 4
    let done := if resume && (st = 3 || st = 4 || st = 5) then prog.field 0 24 else 0
    let d : DmaState := ⟨BitVec.ofNat 32 a, src, dst, len.field 0 24, ctrl, next, 0⟩
    let s := s.updDma c (fun _ => d)
    let s := ((s.setF (R.DMA_CH_STATUS.STATE c) 1).setF (R.DMA_CH_STATUS.CAUSE c) 0).setF (R.DMA_CH_STATUS.DONE c) done
    if !s.mpuMay e 1 a 32 then (s.mpuRefuse e 3 a c).dmaStop c 4 1
    else if d.ok then s else s.dmaStop c 4 4
  | _ =>
    let s := s.updDma c (fun _ => { DmaState.zero with desc := BitVec.ofNat 32 a })
    let s := (s.setF (R.DMA_CH_STATUS.STATE c) 1).setF (R.DMA_CH_STATUS.DONE c) 0
    s.dmaStop c 4 (if (0x10000 ≤ a && a < 0x20000) || (0x20000000 ≤ a && a < 0x20200000) then 3 else 2)

/-- DMA_START (R228, R236): the owner starts an idle channel; `errs` are the errors that the reads of its descriptor
find. -/
def execDmaStart (e : Fin 16) (c : Fin 32) (s : State) (errs : List EccErr := []) : Out := .next (
  if s.dmaOwner c = some e.val && !s.dmaRuns c && s.engRuns e
  then s.meeting errs (fun s => s.dmaLoad e c (s.fld (R.DMA_CH_DESC.ADDR c) * 32) true) else s)

/-! ## Halting and takeover (R229 to R231) -/

/-- Engine `e` halts in state `st`, 3 by a lockstep mismatch or 4 by the clock (R229, R230); a takeover load ends. -/
def State.haltEngine (s : State) (e st : Nat) : State :=
  let s := ((s.disarm (timerKey 90 e)).setReg (R.ENG_HALT_PC.reg e) (s.eng e).pc).setF (R.ENG_STATUS.STATE e) st
  let s := (List.range 32).foldl (fun s c =>
    if s.dmaOwner c = some e && s.dmaRuns c then s.dmaStop c 5 0 else s) s
  let s := (List.range 64).foldl (fun s n =>
    if s.bit (R.SEM.HELD n) && s.fld (R.SEM.HOLDER n) = e
    then ((s.setB (R.SEM.HELD n) false).setF (R.SEM.HOLDER n) 0).setB (R.SEM.BROKEN n) true else s) s
  let s := (List.range 8).foldl (fun s i => s.setReg (R.EIC_PEND.reg e i) 0#32) s
  let s := (s.updEng e (fun x => { x with claims := [] })).showClaims e
  (s.ackForward e (s.fld R.EVT_FWD.EV)).event 75

/-- LOCKSTEP_MISMATCH (R229, R230). -/
def execLockstepMismatch (e : Fin 16) (s : State) : Out := .next (
  if s.engRuns e then
    ((s.haltEngine e 3).raise 45).traceRec (0x0800 + e) (Config.recordCode 9) (Config.recordData 9 e)
  else s)

/-- Loss of the engines' clock halts every engine that runs or is being loaded as a spare (R54, R230). -/
def State.haltAll (s : State) : State :=
  (List.range 16).foldl (fun s e => if s.engRuns e || s.est e = 5 then s.haltEngine e 4 else s) s

/-- The ENGINE_CODE section of the active bank. -/
def State.engineCode (s : State) : List Byte := match s.acrd.image with | some im => im.engines | none => []

/-- TAKEOVER (R231): a write of ENG_TKO by engine `e` naming `frm`. -/
def State.takeover (s : State) (e frm : Nat) : State :=
  if s.engRuns e && (s.fld (R.ENG_CFG.SPARE_FOR e)).testBit frm && s.est frm = 3 && !s.bit (R.ENG_STATUS.TKO e) then
    let l := s.engineCode
    let s := (s.setF (R.ENG_STATUS.STATE e) 5).updEng e (fun x => { x with claims := [] })
    let s := ((List.range 8).foldl (fun s i => s.setReg (R.EIC_PEND.reg e i) 0#32) s).showClaims e
    let s := s.ackForward e (s.fld R.EVT_FWD.EV)
    let s := match engProgram l frm with
      | some p => s.loadTcms e l p
      | none => s.updEng e (fun x => { x with itcm := [], dtcm := [] })
    let s := (List.range 16).foldl (fun s r =>
      (s.setReg (R.ENG_MPU_BASE.reg e r) (s.reg (R.ENG_MPU_BASE.reg frm r))).setReg
        (R.ENG_MPU_LIM.reg e r) (s.reg (R.ENG_MPU_LIM.reg frm r))) s
    let s := (List.range 32).foldl (fun s i => s.setReg (R.EIC_LVL.reg e i) (s.reg (R.EIC_LVL.reg frm i))) s
    let s := (List.range 32).foldl (fun s c =>
      if s.dmaOwner c = some frm then s.setF (R.DMA_CH_CFG.OWNER c) e else s) s
    let s := (List.range 128).foldl (fun s v =>
      let m := s.fld (R.EVT_ROUTE.ENG v)
      if m.testBit frm then s.setF (R.EVT_ROUTE.ENG v) (m ||| 2 ^ e) else s) s
    let s := (s.setF (R.ENG_STATUS.AS e) frm).setB (R.ENG_STATUS.TKO e) true
    s.arm (timerKey 90 e) 150000
  else s

/-- TAKEOVER (R231). -/
def execTakeover (e : Fin 16) (frm : Fin 16) (s : State) : Out := .next (s.takeover e frm)

/-- TAKEOVER_RELEASE (R231): the spare starts at the halted engine's entry, no later than 150 µs after the write. -/
def execTakeoverRelease (e : Fin 16) (s : State) : Out := .next (
  if s.est e = 5 then
    let frm := s.fld (R.ENG_STATUS.AS e)
    let l := s.engineCode
    (s.disarm (timerKey 90 e)).releaseEngine e l ((engProgram l frm).getD 0) frm
  else s)

/-! ## Software and host events -/

/-- A write of EVT_RAISE. -/
def State.raiseSoft (s : State) (sw : Nat) : State := if sw < 20 then s.event (76 + sw) else s

/-- SOFTWARE_EVENT_RAISE (Table 12.4). -/
def execSoftwareEventRaise (r : Req) (sw : BitVec 5) (s : State) : Out := .next (
  if s.may r R.EVT_RAISE.reg true none then (s.raiseSoft sw.toNat).hostWrite r 0xD1 sw.toNat else s.denied r true)

/-- A host clear of the pending bits of a mask (R242). -/
def State.clearEvents (s : State) (mask : BitVec 128) : State :=
  (List.range 4).foldl (fun s i =>
    s.setReg (R.EVT_PEND.reg i) (s.reg (R.EVT_PEND.reg i) &&& ~~~(BitVec.setWidth 32 (mask >>> (32 * i))))) s

/-- EVT_CLEAR over the two-wire bus (R282): the mask, low byte first. -/
def State.busClear (s : State) (m : BusMsg) : State :=
  s.busSend m 0xDB 16 (fun s l => some (s.clearEvents (BitVec.ofNat 128 (bytesLE l))))

/-- HOST_EVENT_CLEAR (R242): by a host port, of which `r` names the one; no other requester reaches the pending bits. -/
def execHostEventClear (mask : BitVec 128) (s : State) (r : Req := .hostBus) (m : Option BusMsg := none) : Out := .next (
  sentAs r m s.busClear
    (if r ≠ .hostBus && r ≠ .quad then s
    else if s.may r (R.EVT_PEND.reg 0) true (some 0xDB) 16 then (s.clearEvents mask).hostWrite r 0xDB mask.toNat
    else s.denied r true))

/-- The removal of the top-note domain takes all engine state, memory and routing (R228, R245). -/
def State.engOff (s : State) : State := { s with evt := ⟨[], [], [], [], false, [], [], []⟩ }

end Sys2Proof.Machine
end

