-- ==== Sys2Proof/Machine/Meas.lean ====
section
/-! DEFINITION.  Measurement (spec/10): converter rounds and words, accumulators, snapshots, the sample
queue, urgent conversions, open-wire checks and cross-checks. -/

namespace Sys2Proof.Machine

/-! ## Rows and timers -/

/-- A converter at reset. -/
def ConvState.zero : ConvState := ⟨none, none, none, false, none, [], 0, 0, none, 0, 0⟩

/-- The row of converter `k`. -/
def State.conv (s : State) (k : Nat) : ConvState := s.meas.convs.at ConvState.zero k

/-- The state with the row of converter `k` changed by `f`. -/
def State.updConv (s : State) (k : Nat) (f : ConvState → ConvState) : State :=
  { s with meas := { s.meas with convs := s.meas.convs.upd ConvState.zero k f } }

/-- The state with the row of channel `c` changed by `f`. -/
def State.updChan (s : State) (c : Nat) (f : ChanState → ChanState) : State :=
  { s with meas := { s.meas with chans := s.meas.chans.upd ChanState.zero c f } }

def T.monHold (m : Nat) : Nat := timerKey 50 m
def T.word (k : Nat) : Nat := timerKey 51 k
def T.snap (n : Nat) : Nat := timerKey 52 n

/-- The time of one word at an OSR code, in nanoseconds (Table 10.3): 7 acts as 6. -/
def wordNs (osr : Nat) : Nat := 6250 * 2 ^ min 6 osr

/-! ## The sample queue (R201 to R203) -/

/-- The depth of the queue in entries (MEAS_Q_CFG.DEPTH). -/
def State.queueDepth (s : State) : Nat := 16 * min 256 (max 1 (s.fld R.MEAS_Q_CFG.DEPTH))

/-- A zero queue entry. -/
def QEntry.zero : QEntry := ⟨0, 0, 0, 0, 0⟩

/-- MEAS_Q_STAT for `n` entries. -/
def State.showQueue (s : State) (n : Nat) : State :=
  ((s.setF R.MEAS_Q_STAT.COUNT n).setB R.MEAS_Q_STAT.EMPTY (decide (n = 0))).setB
    R.MEAS_Q_STAT.FULL (decide (n = s.queueDepth))

/-- An entry is generated: stored, or dropped and counted when the queue is full; EV_063 when it fills or drops (R202, Table 12.4). -/
def State.enqueue (s : State) (value : Int) (ch flags : Nat) : State :=
  let seq := s.fld R.MEAS_Q_SEQ.SEQ
  let s := s.setF R.MEAS_Q_SEQ.SEQ (seq + 1)
  let n := s.fld R.MEAS_Q_STAT.COUNT
  if n < s.queueDepth then
    let wr := s.fld R.MEAS_Q_PTR.WR
    let e : QEntry := ⟨BitVec.ofInt 32 value, BitVec.ofNat 8 ch, BitVec.ofNat 8 flags, BitVec.ofNat 16 seq, s.now⟩
    let s := { s with meas := { s.meas with queue := s.meas.queue.put QEntry.zero wr e } }
    let s := (s.setF R.MEAS_Q_PTR.WR ((wr + 1) % s.queueDepth)).showQueue (n + 1)
    if n + 1 = s.queueDepth then s.event 63 else s
  else (s.count B.meas R.MEAS_Q_STAT.DROP R.MEAS_Q_STAT.SAT).event 63

/-- The 16 bytes of an entry (Table 10.4). -/
def QEntry.bytes (e : QEntry) : List Byte :=
  leBytes 4 e.value.toNat ++ [e.ch, e.flags] ++ leBytes 2 e.seq.toNat ++ leBytes 8 e.time.toNat

/-- The oldest `n` entries, at most those present. -/
def State.queueHead (s : State) (n : Nat) : List QEntry :=
  let rd := s.fld R.MEAS_Q_PTR.RD
  (List.range (min n (s.fld R.MEAS_Q_STAT.COUNT))).map (fun i =>
    s.meas.queue.at QEntry.zero ((rd + i) % s.queueDepth))

/-- The oldest `n` entries removed. -/
def State.dequeue (s : State) (n : Nat) : State :=
  let k := s.fld R.MEAS_Q_STAT.COUNT
  let m := min n k
  (s.setF R.MEAS_Q_PTR.RD ((s.fld R.MEAS_Q_PTR.RD + m) % s.queueDepth)).showQueue (k - m)

/-- A write of MEAS_Q_PTR.RD by an engine (R203): ignored unless OWNER is 1, and when it would pass the
write index. -/
def State.releaseTo (s : State) (rd : Nat) : State :=
  let d := s.queueDepth
  let old := s.fld R.MEAS_Q_PTR.RD
  let m := (rd + d - old) % d
  if s.bit R.MEAS_Q_CFG.OWNER && rd < d && m ≤ s.fld R.MEAS_Q_STAT.COUNT then s.dequeue m else s

/-- Whether two states have the same DEPTH and OWNER (R202). -/
def State.sameQueue (s t : State) : Bool :=
  s.fld R.MEAS_Q_CFG.DEPTH == t.fld R.MEAS_Q_CFG.DEPTH && s.bit R.MEAS_Q_CFG.OWNER == t.bit R.MEAS_Q_CFG.OWNER

/-- The queue emptied by a change of DEPTH or OWNER (R202). -/
def State.emptyQueue (s : State) : State :=
  ((s.setF R.MEAS_Q_PTR.RD 0).setF R.MEAS_Q_PTR.WR 0).showQueue 0

/-- The entries that a word of channel `c` enters: one for each enabled designation, once at most (R201). -/
def State.designated (s : State) (c : Nat) (valid : Bool) : Bool :=
  s.bit R.MEAS_Q_CFG.EN && (List.range 16).any (fun d =>
    s.bit (R.MEAS_Q_DES.EN d) && s.fld (R.MEAS_Q_DES.CH d) = c && (valid || !s.bit (R.MEAS_Q_DES.VONLY d)))

/-- A word of a visit goes to the queue where its channel is designated (R201, Table 10.4). -/
def State.queueWord (s : State) (c : Nat) (v : Visit) (valid sat : Bool) (value : Int) : State :=
  if s.designated c valid then
    s.enqueue value c (valid.toNat * 128 + v.urgent.isSome.toNat * 64 + sat.toNat * 32 + min 4 v.gain * 4 +
      v.ow.isSome.toNat * 2 + (s.bit (R.MEAS_CH_STATUS.XCK c)).toNat)
  else s

/-! ## Accumulators (R199) -/

/-- A valid word of channel `c` not taken with open-wire current: latest value, sum, count, extremes, and the
freeze when the count would pass 16,777,215. -/
def State.takeWord (s : State) (c : Nat) (v : Int) : State :=
  let s := s.setB (R.MEAS_CH_STATUS.LV c) true
  let s := s.updChan c (fun r => { r with latest := v, min := min r.min v, max := max r.max v })
  if (s.chan c).cnt < 16777215 then s.updChan c (fun r => { r with sum := r.sum + v, cnt := r.cnt + 1 })
  else if s.bit (R.MEAS_CH_STATUS.ASAT c) then s
  else (s.setB (R.MEAS_CH_STATUS.ASAT c) true).raise 39

/-- The accumulator and trackers of a channel cleared. -/
def ChanState.cleared (r : ChanState) : ChanState := { r with sum := 0, cnt := 0, min := 0x7FFFFF, max := -0x800000 }

/-- Every channel's accumulator and trackers cleared (R199, R200). -/
def State.clearAccs (s : State) : State :=
  (List.range 256).foldl (fun s c =>
    (s.updChan c ChanState.cleared).setB (R.MEAS_CH_STATUS.ASAT c) false) s

/-- A change of UNIT or MUL: the channel's accumulator cleared and SCLR set (R209). -/
def State.scaleChange (s : State) (c : Nat) : State :=
  ((s.updChan c ChanState.cleared).setB (R.MEAS_CH_STATUS.ASAT c) false).setB (R.MEAS_CH_STATUS.SCLR c) true

/-! ## Snapshots (R200) -/

/-- An empty channel of a snapshot. -/
def SnapChan.zero : SnapChan := ⟨0, 0, 0x7FFFFF, -0x800000, false⟩

/-- An empty snapshot. -/
def SnapBuf.zero : SnapBuf := ⟨0, [], none⟩

/-- What a snapshot captures of channel `c`. -/
def State.snapChan (s : State) (c : Nat) : SnapChan :=
  let r := s.chan c
  ⟨r.sum, r.cnt, r.min, r.max, s.bit (R.MEAS_CH_STATUS.ASAT c)⟩

/-- The capture of all 256 channels. -/
def State.capture (s : State) : Cells SnapChan :=
  (List.range 256).foldl (fun t c => t.put SnapChan.zero c (s.snapChan c)) []

/-- The buffer `n`. -/
def State.snapBuf (s : State) (n : Nat) : SnapBuf := s.meas.bufs.at SnapBuf.zero n

/-- The value registers of buffer `n` for its selected channel. -/
def State.showSnap (s : State) (n : Nat) : State :=
  let b := s.snapBuf n
  let c := b.chans.at SnapChan.zero (s.fld (R.MEAS_SNAP_SEL.CH n))
  let s := (s.setB (R.MEAS_SNAP_STAT.EMPTY n) (decide (c.cnt = 0))).setB (R.MEAS_SNAP_STAT.SAT n) c.frozen
  let s := s.setPair (R.MEAS_SNAP_SUM_LO.reg n) (R.MEAS_SNAP_SUM_HI.reg n) (BitVec.ofInt 64 c.sum)
  let s := s.setF (R.MEAS_SNAP_CNT.CNT n) c.cnt
  let s := (s.setReg (R.MEAS_SNAP_MIN.reg n) (BitVec.ofInt 32 c.min)).setReg (R.MEAS_SNAP_MAX.reg n) (BitVec.ofInt 32 c.max)
  s.setPair (R.MEAS_SNAP_TIME_LO.reg n) (R.MEAS_SNAP_TIME_HI.reg n) b.time

/-- TAKE to buffer `n`: accepted with READY 0 for at most 20 µs, or refused with REJ while READY is 0. -/
def State.snapTake (s : State) (n : Nat) : State :=
  if s.bit (R.MEAS_SNAP_STAT.READY n) then
    let cap := s.capture
    let b := { s.snapBuf n with taken := some (s.now, cap) }
    let s := { s with meas := { s.meas with bufs := s.meas.bufs.put SnapBuf.zero n b } }
    (s.setB (R.MEAS_SNAP_STAT.READY n) false).arm (T.snap n) 20000
  else s.setB (R.MEAS_SNAP_STAT.REJ n) true

/-- The new snapshot of buffer `n` replaces the old one. -/
def State.snapReady (s : State) (n : Nat) : State :=
  match (s.snapBuf n).taken with
  | none => s
  | some (t, c) =>
    let s := { s.disarm (T.snap n) with meas := { s.meas with bufs := s.meas.bufs.put SnapBuf.zero n ⟨t, c, none⟩ } }
    let s := (s.setF (R.MEAS_SNAP_STAT.SEQ n) (s.fld (R.MEAS_SNAP_STAT.SEQ n) + 1)).setB (R.MEAS_SNAP_STAT.READY n) true
    (s.showSnap n).event 62

/-- The operation OP of MEAS_SNAP_CMD on buffer `n`: 1 TAKE, 2 CLEAR, 3 TAKE_CLEAR.  A refused TAKE_CLEAR
clears nothing. -/
def State.snapCommand (s : State) (n op : Nat) : State :=
  if op = 1 then s.snapTake n
  else if op = 2 then s.clearAccs
  else if op = 3 then (if s.bit (R.MEAS_SNAP_STAT.READY n) then (s.snapTake n).clearAccs else s.snapTake n)
  else s

/-! ## Visits (R196, R197, R206, R207) -/

/-- Whether channel `c` is enabled. -/
def State.chanOn (s : State) (c : Nat) : Bool := s.bit (R.MEAS_CH_CFG.EN c)

/-- The enabled converter channels of converter `k`, ascending. -/
def State.enabledChans (s : State) (k : Nat) : List Nat := (List.range 32).filter (fun i => s.chanOn (32 * k + i))

/-- Whether converter `k` runs a round: not asleep (R196). -/
def State.convRuns (s : State) (k : Nat) : Bool :=
  s.meas.running && s.bit (R.MEAS_MC_CFG.EN k) && !(s.enabledChans k).isEmpty

/-- The invalid words a visit begins with (R197). -/
def State.invalidWords (s : State) (k ch gain osr : Nat) (ow : Option Bool) : Nat :=
  match (s.conv k).last with
  | none => 3
  | some (c, g, o, r) =>
    if r ≠ osr then 3 else if c ≠ ch || g ≠ gain || o ≠ ow || (s.conv k).changed then 2 else 0

/-- The words of a visit: its dwell, or its invalid count plus one (R196). -/
def visitWords (dwell inv : Nat) : Nat := if dwell ≤ inv then inv + 1 else dwell

/-- MEAS_MC_STATUS of converter `k`. -/
def State.showConv (s : State) (k : Nat) : State :=
  let r := s.conv k
  let s := (s.setB (R.MEAS_MC_STATUS.RUN k) r.visit.isSome).setF (R.MEAS_MC_STATUS.UQ k) r.uq.length
  match r.visit with
  | none => (s.setB (R.MEAS_MC_STATUS.URG k) false).setF (R.MEAS_MC_STATUS.CH k) 0
  | some v => (s.setB (R.MEAS_MC_STATUS.URG k) v.urgent.isSome).setF (R.MEAS_MC_STATUS.CH k) v.ch

/-- Visit `v` begins on converter `k` with its invalid words counted. -/
def State.beginVisit (s : State) (k : Nat) (v : Visit) : State :=
  let inv := s.invalidWords k v.ch v.gain v.osr v.ow
  let words := if v.urgent.isSome then inv + 1 else visitWords v.dwell inv
  let v := { v with left := words, inv := inv, n := 0, vsum := 0, bsum := 0 }
  let s := s.updConv k (fun r => { r with visit := some v, changed := false, last := some (v.ch, v.gain, v.ow, v.osr) })
  let s := (match chanNode (32 * k + v.ch), v.ow with
    | .mon m, some _ => s.arm (T.monHold m) ((words + 3) * wordNs v.osr)
    | _, _ => s)
  (s.arm (T.word k) (wordNs v.osr)).showConv k

/-- Whether a check visit of channel `c` may be made now (R207). -/
def State.checkAllowed (s : State) (c : Nat) : Bool :=
  match chanNode c with
  | .isns p | .tmf p => s.fld (R.PH_STATUS.STATE p) ≠ 2
  | .vs n => s.fld (R.LOOP_STATUS.STATE n) = 0
  | _ => true

/-- The next channel in rotation whose open-wire check is wanted (R206). -/
def State.nextCheck (s : State) (k : Nat) : Option Nat :=
  let cand := (s.enabledChans k).filter (fun i => s.bit (R.MEAS_CH_CFG.OWEN (32 * k + i)) && nodeChecks (chanNode (32 * k + i)))
  match cand.find? (fun i => decide ((s.conv k).owRot < i)) with
  | some i => some i
  | none => cand.head?

/-- A new round of converter `k` begins: ROUNDT of the last one, and the check visit of every OWP-th (R196, R206). -/
def State.beginRound (s : State) (k : Nat) : State :=
  let r := s.conv k
  let s := if r.pos.isSome then s.setF (R.MEAS_MC_STATUS.ROUNDT k) (satNat 0x3FFFFF ((s.ns - r.roundStart) / 1000)) else s
  let owp := s.fld (R.MEAS_MC_CFG.OWP k)
  let n := r.rounds + 1
  let due := owp ≠ 0 && owp ≤ n
  let pick := if due then s.nextCheck k else none
  s.updConv k (fun r => { r with roundStart := s.ns, rounds := if due then 0 else n, owPick := pick })

/-- The visit of converter channel `i` of converter `k` begins with its present settings, as a check visit
where one is due and allowed. -/
def State.visitChan (s : State) (k i : Nat) : State :=
  let c := 32 * k + i
  let due := decide ((s.conv k).owPick = some i)
  let ok := due && s.checkAllowed c
  let s := if due && !ok then s.setB (R.MEAS_CH_STATUS.OWDEF c) true else s
  let s := if due then s.updConv k (fun r => { r with owPick := none, owRot := i }) else s
  let ow := if ok then some (s.chan c).owFlip else none
  let s := s.updConv k (fun r => { r with pos := some i })
  s.beginVisit k ⟨i, min 4 (s.fld (R.MEAS_CH_CFG.GAIN c)), min 6 (s.fld (R.MEAS_MC_CFG.OSR k)),
    min 64 (max 2 (s.fld (R.MEAS_CH_CFG.DWELL c))), 0, 0, ow, 0, 0, 0, none⟩

/-- Converter `k` sleeps: its next visit restarts it (R196, R197). -/
def State.sleepConv (s : State) (k : Nat) : State :=
  let s := s.updConv k (fun r => { r with visit := none, resume := none, last := none, pos := none, row := 0 })
  (s.disarm (T.word k)).showConv k

/-- The round of converter `k` goes on at its next enabled channel (R196). -/
def State.nextVisit (s : State) (k : Nat) : State :=
  if s.convRuns k then
    let en := s.enabledChans k
    let after := match (s.conv k).pos with
      | some p => en.find? (fun i => decide (p < i))
      | none => none
    match after with
    | some i => s.visitChan k i
    | none => (s.beginRound k).visitChan k (en.headD 0)
  else s.sleepConv k

/-! ## Urgent conversions (R204, R205) -/

/-- The urgent request at the head of converter `k`'s queue begins. -/
def State.serveUrgent (s : State) (k : Nat) : State :=
  match (s.conv k).uq with
  | [] => s
  | (c, e) :: rest =>
    let osr := match (s.conv k).last with
      | some (_, _, _, r) => r
      | none => min 6 (s.fld (R.MEAS_MC_CFG.OSR k))
    let s := s.updConv k (fun r => { r with uq := rest, row := r.row + 1, changed := true })
    s.beginVisit k ⟨c % 32, min 4 (s.fld (R.MEAS_CH_CFG.GAIN c)), osr, 2, 0, 0, none, 0, 0, 0, some e⟩

/-- An urgent request for channel `c` is accepted: it pre-empts a normal visit, unless four urgent
conversions in a row have just run, or waits (R204, R205). -/
def State.urgentAccept (s : State) (c : Nat) (e : Option Nat) : State :=
  let k := c / 32
  let s := s.updConv k (fun r => { r with uq := r.uq ++ [(c, e)] })
  let s := s.abandonSlices (fun code i => code == 5 && i == k)
  match (s.conv k).visit with
  | none => s.serveUrgent k
  | some v =>
    if v.urgent.isNone && (s.conv k).row < 4
    then (s.updConv k (fun r => { r with resume := some v })).serveUrgent k
    else s.showConv k

/-- An urgent request for channel `c` of an engine, or of the fabric: accepted, or refused while four wait;
LS_160 of the engine (Table 12.3). -/
def State.urgentRequest (s : State) (c : Nat) (e : Option Nat) : State :=
  let k := c / 32
  let s := match e with
    | some q => ((s.setF (R.MEAS_URG_REQ.CH q) c).setB (R.MEAS_URG_STAT.DONE q) false).setB (R.MEAS_URG_STAT.REFUSED q) false
    | none => s
  if s.meas.running = false then s
  else if (s.conv k).uq.length < 4 then s.urgentAccept c e
  else
    let s := match e with
      | some q => (s.setB (R.MEAS_URG_STAT.REFUSED q) true).localSource q 160
      | none => s
    s.count B.meas (R.MEAS_MC_CNT.DROP k) (R.MEAS_MC_CNT.SAT_D k)

/-- The result of an urgent conversion (R204), and LS_160 of its engine (Table 12.3). -/
def State.urgentResult (s : State) (k : Nat) (e : Option Nat) (v : Int) (sat : Bool) : State :=
  let s := s.count B.meas (R.MEAS_MC_CNT.URG k) (R.MEAS_MC_CNT.SAT_U k)
  match e with
  | none => s
  | some q =>
    let s := (s.setReg (R.MEAS_URG_RES.reg q) (BitVec.ofInt 32 v)).setPair (R.MEAS_URG_TS_LO.reg q) (R.MEAS_URG_TS_HI.reg q) s.now
    ((s.setB (R.MEAS_URG_STAT.DONE q) true).setB (R.MEAS_URG_STAT.SAT q) sat).localSource q 160

/-! ## The end of a visit (R206, R208) -/

/-- The pair of a shared channel and the other channel of it (R192, R208). -/
def sharedPair (c : Nat) : Option (Nat × Nat) :=
  if c % 32 = 31 then some (c / 32, (c + 1) % 256)
  else if c % 32 = 0 then some ((c / 32 + 7) % 8, (c + 255) % 256)
  else none

/-- Whether cross-check pair `k` is active (R208). -/
def State.xckActive (s : State) (k : Nat) : Bool :=
  s.bit (R.MEAS_XCK.EN k) && s.chanOn (32 * k + 31) && s.chanOn ((32 * k + 32) % 256) &&
  s.convRuns k && s.convRuns ((k + 1) % 8)

/-- The comparison of cross-check pair `k` at the end of a normal visit of one of its channels (R208). -/
def State.crossCheck (s : State) (k : Nat) : State :=
  let a := 32 * k + 31
  let b := (32 * k + 32) % 256
  let act := s.xckActive k
  let s := s.setB (R.MEAS_XCK.ACTIVE k) act
  match (s.chan a).lastMean, (s.chan b).lastMean with
  | some x, some y =>
    if act then
      let d := x.1 * y.2 - y.1 * x.2
      let miss := decide (s.fld (R.MEAS_XCK.TOL k) * 10 * (x.2 * y.2) < d.natAbs)
      let s := s.setF (R.MEAS_XCK.DIFF k) (unsignedOf 16 (clampInt (-32767) 32767 (d.tdiv (10 * (x.2 * y.2) : Nat))))
      let s := (s.setB (R.MEAS_CH_STATUS.XCK a) miss).setB (R.MEAS_CH_STATUS.XCK b) miss
      let n := s.fld (R.MEAS_XCK.CNT k)
      if miss then
        if n = 2 then ((s.setF (R.MEAS_XCK.CNT k) 3).raise 37).traceRec (0x0500 + k) (Config.recordCode 4) (Config.recordData 4 k)
        else s.setF (R.MEAS_XCK.CNT k) (min 3 (n + 1))
      else s.setF (R.MEAS_XCK.CNT k) 0
    else s
  | _, _ => s

/-- The judgement of a check visit whose `n` valid words have sum `m` at the ball, in 2.56 V / 2^27 (R206): the means are
compared as they are, and the record holds their difference rounded to 0.1 mV. -/
def State.openJudge (s : State) (k c : Nat) (m : Int) (n : Nat) : State :=
  let s := s.updChan c (fun r => { r with owFlip := !r.owFlip })
  match (s.chan c).lastBall with
  | none => s
  | some b =>
    let diff := m * b.2 - b.1 * n
    let d := roundDiv (diff * 25600) (2 ^ 27 * (n * b.2))
    let th := max 1 (s.fld (R.MEAS_MC_CFG.OWTH k)) * 25 * (2 ^ 27 * (n * b.2))
    let opened := s.bit (R.MEAS_CH_STATUS.OPEN c)
    if th < (diff * 25600).natAbs then
      if opened then s
      else ((s.setB (R.MEAS_CH_STATUS.OPEN c) true).raise 38).traceRec (0x0500 + c) (Config.recordCode 2) (BitVec.ofInt 32 d).toNat
    else if opened then
      (s.setB (R.MEAS_CH_STATUS.OPEN c) false).traceRec (0x0500 + c) (Config.recordCode 3) (BitVec.ofInt 32 d).toNat
    else s

/-- What the end of visit `v` of converter `k` yields: the means of a normal visit and the cross-check, or the
judgement of a check visit. -/
def State.closeVisit (s : State) (k : Nat) (v : Visit) : State :=
  let c := 32 * k + v.ch
  if v.n = 0 || v.urgent.isSome then s
  else if v.ow.isSome then
    let s := s.openJudge k c v.bsum v.n
    match chanNode c with
    | .mon m => s.arm (T.monHold m) (3 * wordNs v.osr)
    | _ => s
  else
    let s := s.updChan c (fun r => { r with lastMean := some (v.vsum, v.n), lastBall := some (v.bsum, v.n) })
    match sharedPair c with
    | some (p, _) => s.crossCheck p
    | none => s

/-- What converter `k` does after a visit (R205): the urgent requests back to back; after four in a row the interrupted
visit first, or where none was interrupted the round's next one (DEDUCED, log 197).  A converter without an enabled
channel has no visit to make between them. -/
def State.afterVisit (s : State) (k : Nat) (v : Visit) : State :=
  let s := if v.urgent.isSome then s else s.updConv k (fun r => { r with row := 0, resume := none })
  if !(s.conv k).uq.isEmpty && ((s.conv k).row < 4 || ((s.conv k).resume.isNone && !s.convRuns k)) then s.serveUrgent k
  else match (s.conv k).resume with
    | some w =>
      let s := s.updConv k (fun r => { r with changed := true, row := if 4 ≤ r.row then 4 else 0 })
      s.beginVisit k w
    | none => (s.updConv k (fun r => { r with
        row := if 4 ≤ r.row then 4 else 0, changed := r.changed || v.urgent.isSome })).nextVisit k

/-! ## Words (R194 to R199) -/

/-- The readable calibration pages of the Ledger (Table 13.2, R248); one that the array does not list is blank. -/
def State.calPages (s : State) : List (Nat × List Byte) :=
  let listed := s.ledg.array.filter (fun e => decide (56 ≤ e.1) && decide (e.1 < 1024))
  let pages := ((listed.map (fun e => e.1 / 8)).eraseDups).filter s.pageReadable
  pages.map (fun p => (p, s.pageBytes p))

/-- Step 1 of R195: the factory calibration of converter `k` at gain code `g`; nominal without a readable page. -/
def State.calibrated (s : State) (k g : Nat) (code : Int) : Int :=
  let pages := s.calPages
  if pages.isEmpty then code else Config.calibrate k g pages code

/-- A valid word with this code in visit `v` of converter `k`. -/
def State.validWord (s : State) (k : Nat) (v : Visit) (code : Int) : State × Visit :=
  let c := 32 * k + v.ch
  let clip := clampInt (-codeMax) codeMax code
  let cal := s.calibrated k v.gain clip
  let x := s.chanValue c v.gain cal
  let r := (x.1, x.2 || decide (clip ≠ code))
  let s := if r.2 then s.setB (R.MEAS_CH_STATUS.OVR c) true else s
  let s := if v.ow.isSome then s else s.takeWord c r.1
  let s := s.queueWord c v true r.2 r.1
  let s := match v.urgent with
    | some e => s.urgentResult k e r.1 r.2
    | none => s
  let ball := cal * (nodeAtt (chanNode c) * 2 ^ (4 - min 4 v.gain) : Nat)
  (s, { v with n := v.n + 1, vsum := v.vsum + r.1, bsum := v.bsum + ball })

/-- A word of converter `k` completes with this code: invalid at the start of a visit and while PLL_M is out
of lock (R53, R197). -/
def State.convWord (s : State) (k : Nat) (code : Int) : State :=
  match (s.conv k).visit with
  | none => s
  | some v =>
    let s := match s.deadline (T.word k) with
      | some d => s.notBefore d
      | none => s
    let bad : Bool := decide (0 < v.inv) || decide (s.sys.pllM ≠ .locked)
    let x : State × Visit := if bad then (s.queueWord (32 * k + v.ch) v false false 0, { v with inv := v.inv - 1 }) else s.validWord k v code
    let s := x.1
    let v : Visit := { x.2 with left := x.2.left - 1 }
    if v.left = 0 then (s.closeVisit k v).afterVisit k v
    else ((s.updConv k (fun r => { r with visit := some v })).arm (T.word k) (wordNs v.osr))

/-! ## Life phases (R209) -/

/-- The registers of the measurement block that a start clears: results, counters and flags. -/
def measStatusKey (k : Nat) : Bool :=
  let a := k % 4294967296
  (0x40050000 ≤ a && a < 0x40051000 && a % 16 = 8) ||
  (0x40051000 ≤ a && a < 0x40051100 && (a % 32 = 4 || a % 32 = 8)) ||
  (0x40051240 ≤ a && a < 0x40051340) || (0x40051404 ≤ a && a < 0x40051410) ||
  (0x40051504 ≤ a && a < 0x40051514)

/-- The measurement subsystem unpowered, with everything a start clears cleared (R209). -/
def State.measOff (s : State) : State :=
  let s := (List.range 8).foldl (fun s k =>
    let s := s.disarm (T.word k)
    (((s.setF (R.MEAS_XCK.CNT k) 0).setF (R.MEAS_XCK.DIFF k) 0).setB (R.MEAS_XCK.ACTIVE k) false)) s
  let s := (List.range 4).foldl (fun s n => s.disarm (T.snap n)) s
  let s := (List.range 64).foldl (fun s n => s.disarm (T.monHold n)) s
  { s.resetRegs measStatusKey with meas := ⟨[], [], [], [], false⟩ }

/-- At t3 every converter with an enabled channel restarts from sleep (R209). -/
def State.measStart (s : State) : State :=
  let s := { s with meas := { s.meas with running := true } }
  (List.range 8).foldl (fun s k => (s.setB (R.MEAS_XCK.ACTIVE k) (s.xckActive k)).nextVisit k) s

/-- A sleeping converter that may run again starts its round (R196). -/
def State.wakeConvs (s : State) : State :=
  (List.range 8).foldl (fun s k =>
    let s := s.setB (R.MEAS_XCK.ACTIVE k) (s.xckActive k)
    if (s.conv k).visit.isNone && s.convRuns k && !s.sliceOn 5 k then s.nextVisit k else s) s

/-- At the switch time of a scheduled switch each converter ends its visit and restarts its round (R209). -/
def State.measSwitch (s : State) : State :=
  (List.range 8).foldl (fun s k =>
    let s := s.updConv k (fun r => { r with visit := none, resume := none, changed := true, pos := none })
    let s := s.setB (R.MEAS_XCK.ACTIVE k) (s.xckActive k)
    if s.sliceOn 5 k then s else s.nextVisit k) s

/-- Slice MC_ZR takes converter `k`: its visit is to be restarted afterwards (R209, R314). -/
def State.lendConv (s : State) (k : Nat) : State :=
  let s := s.updConv k (fun r => { r with visit := none, resume := r.visit, changed := true })
  (s.disarm (T.word k)).showConv k

/-- Converter `k` is its round's again after slice MC_ZR or drydown: its next visit counts as a channel change (R209). -/
def State.returnConv (s : State) (k : Nat) : State :=
  let s := s.updConv k (fun r => { r with changed := true })
  if (s.conv k).visit.isSome || s.meas.running = false then s
  else match (s.conv k).uq, (s.conv k).resume with
    | _ :: _, _ => s.serveUrgent k
    | [], some v => (s.updConv k (fun r => { r with resume := none })).beginVisit k v
    | [], none => s.nextVisit k

/-! ## Meanings -/

/-- CONVERTER_WORD (R194 to R199, R201, R204 to R208). -/
def execConverterWord (k : Fin 8) (code : Int) (s : State) : Out := .next (s.convWord k code)

/-- URGENT_REQUEST (R204, R205). -/
def execUrgentRequest (e : Fin 16) (ch : Fin 256) (s : State) : Out := .next (s.urgentRequest ch (some e))

/-- FABRIC_URGENT_REQUEST (R204): the channel MEAS_URG_MAP gives for line ACT_(080 + n), at a rising edge. -/
def State.fabricUrgent (s : State) (n : Nat) : State :=
  s.urgentRequest ((s.reg (R.MEAS_URG_MAP.reg (n / 4))).field (8 * (n % 4)) 8) none

/-- SNAP_CMD over the two-wire bus (R282): its byte says buffer and operation; 0b00 is no action. -/
def State.busSnap (s : State) (m : BusMsg) : State :=
  s.busSend m 0xD4 1 (fun s l => some (s.snapCommand (bytesLE l / 4 % 4) (bytesLE l % 4)))

/-- SNAPSHOT_TAKE (R200). -/
def execSnapshotTake (r : Req) (buf : Fin 4) (s : State) (m : Option BusMsg := none) : Out := .next (
  sentAs r m s.busSnap
    (if s.may r R.MEAS_SNAP_CMD.reg true (some 0xD4) then (s.snapCommand buf 1).hostWrite r 0xD4 (1 + 4 * buf.val)
    else s.denied r true))

/-- SNAPSHOT_CLEAR (R200). -/
def execSnapshotClear (r : Req) (buf : Fin 4) (s : State) (m : Option BusMsg := none) : Out := .next (
  sentAs r m s.busSnap
    (if s.may r R.MEAS_SNAP_CMD.reg true (some 0xD4) then (s.snapCommand buf 2).hostWrite r 0xD4 (2 + 4 * buf.val)
    else s.denied r true))

/-- SNAPSHOT_TAKE_CLEAR (R200). -/
def execSnapshotTakeClear (r : Req) (buf : Fin 4) (s : State) (m : Option BusMsg := none) : Out := .next (
  sentAs r m s.busSnap
    (if s.may r R.MEAS_SNAP_CMD.reg true (some 0xD4) then (s.snapCommand buf 3).hostWrite r 0xD4 (3 + 4 * buf.val)
    else s.denied r true))

/-- SNAPSHOT_READY (R200). -/
def execSnapshotReady (buf : Fin 4) (s : State) : Out := .next (s.snapReady buf)

/-- QUEUE_RELEASE (R203). -/
def execQueueRelease (_ : Fin 16) (rd : BitVec 12) (s : State) : Out := .next (s.releaseTo rd.toNat)

end Sys2Proof.Machine
end

