-- ==== Sys2Proof/Machine/Path.lean ====
section
/-! DEFINITION.  The backup power path, the charger, pack presence, the peer port and the long press (spec/09). -/

namespace Sys2Proof.Machine

/-! ## Rows, timers, names -/

/-- The path at reset: every gate off, nothing judged. -/
def PathState.zero : PathState := PathState.reset

/-- The state with the path's hidden state changed. -/
def State.updPath (s : State) (f : PathState → PathState) : State := { s with path := f s.path }

def T.vinStable : Nat := timerKey 60 0
def T.pathWait : Nat := timerKey 60 1
def T.retMax : Nat := timerKey 60 2
def T.chgSource : Nat := timerKey 60 3
def T.chPre : Nat := timerKey 60 4
def T.chFast : Nat := timerKey 60 5
def T.probe : Nat := timerKey 60 6
def T.press : Nat := timerKey 60 7
def T.longEnd : Nat := timerKey 60 8

/-- The path states of Table 9.2. -/
def P.idle : Nat := 0
def P.softVin : Nat := 1
def P.onVin : Nat := 2
def P.handover : Nat := 3
def P.onBat : Nat := 4
def P.ret : Nat := 5
def P.nosrc : Nat := 6
def P.softBat : Nat := 7
def P.peerOut : Nat := 8

/-- The charger states of Table 9.5. -/
def C.off : Nat := 0
def C.detect : Nat := 1
def C.precharge : Nat := 2
def C.cc : Nat := 3
def C.cv : Nat := 4
def C.done : Nat := 5
def C.suspend : Nat := 6
def C.fault : Nat := 7

/-- The path's state. -/
def State.pst (s : State) : Nat := s.fld R.PATH_STATUS.STATE

/-- The charger's state. -/
def State.cst (s : State) : Nat := s.fld R.PATH_CHG_STATUS.STATE

/-- The state with the path in state `p`. -/
def State.setPath (s : State) (p : Nat) : State := s.setF R.PATH_STATUS.STATE p

/-- The time t_RET in nanoseconds. -/
def State.tRet (s : State) : Nat := min 500 (max 1 (s.fld R.PATH_RET.TRET)) * 1000000

/-- Whether VIN is in an excursion: LOSS set, or a comparator outside (R174). -/
def State.vinExcurs (s : State) : Bool := s.path.excursion || s.bit R.SUP_VIN_STATUS.LOSS

/-- Whether the active zone has a permission bit of PATH_ZONE: none while TS is out of range. -/
def State.zoneBit (s : State) (f : Nat → Field) : Bool :=
  s.fld R.PATH_CHG_STATUS.ZONE < 6 && s.bit (f (s.fld R.PATH_CHG_STATUS.ZONE))

/-- Whether a hand-over is permitted (R171). -/
def State.handoverOk (s : State) : Bool :=
  s.bit R.PATH_CFG.HOEN && s.bit R.PATH_STATUS.PRESENT && !s.bit R.PATH_STATUS.ABSENT && !s.path.cutNow &&
  !s.bit R.PATH_SVC.LPACT && (s.zoneBit R.PATH_ZONE.DSG || !s.bit R.PATH_CFG.TINH)

/-! ## Charger (R178 to R183) -/

/-- The charge voltage of a code of 5 mV above 3.500 V, in millivolts. -/
def cellMv (c : Nat) : Nat := 3500 + 5 * min 180 c

/-- The effective charge voltage per cell in millivolts (R180). -/
def State.cvLevel (s : State) : Nat :=
  let v := cellMv (s.fld R.PATH_CHG_CFG.VCHG)
  let z := s.fld R.PATH_CHG_STATUS.ZONE
  let v := if z < 6 then min v (cellMv (s.fld (R.PATH_ZONE.VCAP z))) else v
  if s.bit R.PATH_CHG_SOFT.EN then min v (3500 + 5 * s.fld R.PATH_CHG_SOFT.VSOFT) else v

/-- The current of the present step, in 50 mA. -/
def State.stepCurrent (s : State) : Nat :=
  min 160 (max 2 (s.fld (R.PATH_CHG_STEP.I (s.fld R.PATH_CHG_STATUS.STEP))))

/-- The effective charge current in 50 mA: step, zone cap and soft limit (R182). -/
def State.chargeCurrent (s : State) : Nat :=
  let z := s.fld R.PATH_CHG_STATUS.ZONE
  let i := if z < 6 then min s.stepCurrent (min 160 (s.fld (R.PATH_ZONE.ICAP z))) else s.stepCurrent
  if s.bit R.PATH_CHG_SOFT.EN then min i (s.fld R.PATH_CHG_SOFT.ISOFT) else i

/-- Since when the CV level has been what it is (R185). -/
def State.noteCv (s : State) : State :=
  if s.path.cvWas = s.cvLevel then s else s.updPath (fun p => { p with cvAt := s.ns, cvWas := s.cvLevel })

/-- ZCAP and SCAP: which cap limits the present step and charge voltage (R181, R182). -/
def State.showCaps (s : State) : State :=
  let s := s.noteCv
  let z := s.fld R.PATH_CHG_STATUS.ZONE
  let i := s.stepCurrent
  let v := cellMv (s.fld R.PATH_CHG_CFG.VCHG)
  let zi := if z < 6 then min 160 (s.fld (R.PATH_ZONE.ICAP z)) else i
  let zv := if z < 6 then cellMv (s.fld (R.PATH_ZONE.VCAP z)) else v
  let en := s.bit R.PATH_CHG_SOFT.EN
  let s := s.setB R.PATH_CHG_STATUS.ZCAP (decide (zi < i) || decide (zv < v))
  s.setB R.PATH_CHG_STATUS.SCAP (en && (decide (s.fld R.PATH_CHG_SOFT.ISOFT < min i zi) ||
    decide (3500 + 5 * s.fld R.PATH_CHG_SOFT.VSOFT < min v zv)))

/-- The full time of the pre-charge timer and of the fast-charge timer, in nanoseconds. -/
def State.tPre (s : State) : Nat := min 60 (max 1 (s.fld R.PATH_CHG_PRE.TPRE)) * 60000000000
def State.tFast (s : State) : Nat := min 20 (max 1 (s.fld R.PATH_CHG_TERM.TFAST)) * 3600000000000

/-- The pre-charge timer paused: its time left kept. -/
def State.pausePre (s : State) : State :=
  match s.deadline T.chPre with
  | some d => (s.updPath (fun p => { p with preLeft := some (d - s.ns) })).disarm T.chPre
  | none => s

/-- The fast-charge timer paused. -/
def State.pauseFast (s : State) : State :=
  match s.deadline T.chFast with
  | some d => (s.updPath (fun p => { p with fastLeft := some (d - s.ns) })).disarm T.chFast
  | none => s

/-- The pre-charge timer running in PRECHARGE, the fast-charge timer in CC and CV; both stand still elsewhere. -/
def State.runTimers (s : State) (st : Nat) : State :=
  let s := if st = C.precharge then
      (if s.runs T.chPre then s else s.arm T.chPre ((s.path.preLeft).getD s.tPre)) else s.pausePre
  if st = C.cc || st = C.cv then
    (if s.runs T.chFast then s else s.arm T.chFast ((s.path.fastLeft).getD s.tFast)) else s.pauseFast

/-- The elapsed times PATH_CHG_TMR shows. -/
def State.chgElapsed (s : State) : Nat × Nat :=
  let left := fun k (p : Option Nat) (full : Nat) => match s.deadline k with
    | some d => d - s.ns
    | none => p.getD full
  ((s.tFast - left T.chFast s.path.fastLeft s.tFast) / 60000000000,
   (s.tPre - left T.chPre s.path.preLeft s.tPre) / 1000000000)

/-- The gates of the charger on entry to state `st` from the drive `d`: forward where it charges, off in a fault, and
otherwise left in reverse where they serve the peer port (Table 9.5, R188). -/
def chgDrive (st : Nat) (d : ChgDrive) : ChgDrive :=
  if st = C.precharge || st = C.cc || st = C.cv then .forward
  else if st = C.fault then .off
  else if d = .reverse then .reverse else .off

/-- The charger in state `st`: its drive, timers, caps and EV_058 on a change (Table 9.5, Table 12.4). -/
def State.setChg (s : State) (st : Nat) : State :=
  if s.cst = st then s
  else
    let s := s.setF R.PATH_CHG_STATUS.STATE st
    let s := s.updPath (fun p => { p with chg := chgDrive st p.chg })
    let s := (s.runTimers st).showCaps
    let f := s.chgElapsed
    ((s.setF R.PATH_CHG_TMR.FAST f.1).setF R.PATH_CHG_TMR.PRE f.2).event 58

/-- DETECT, which passes to PRECHARGE when the pack is present and not marked absent (R179). -/
def State.chgDetect (s : State) : State :=
  let s := s.setChg C.detect
  if s.bit R.PATH_STATUS.PRESENT && !s.bit R.PATH_STATUS.ABSENT then s.setChg C.precharge else s

/-- Whether a source supplies VSYS for the charger (R178). -/
def State.chgSource (s : State) : Bool :=
  s.pst = P.onVin || (s.fld R.PATH_STATUS.PEER = 1 && s.bit R.PATH_CHG_CFG.CHGIN)

/-- Whether the charger may run at all (R178). -/
def State.chgRuns (s : State) : Bool :=
  (s.sys.phase = .run || s.sys.phase = .powerDown) && s.bit R.PATH_CHG_CFG.EN

/-- Whether the active zone lets the charger run; while TS is out of range no zone does. -/
def State.chgZoneOk (s : State) : Bool := s.zoneBit R.PATH_ZONE.CHG

/-- The charger follows its enable and its source: OFF, SUSPEND when the source ends, DETECT 1 s after it is
again present (R178). -/
def State.chgFollow (s : State) : State :=
  let had := s.path.source
  let has := s.chgSource
  let s := s.updPath (fun p => { p with source := has })
  if !s.chgRuns then s.setChg C.off
  else if s.cst = C.off then
    (if has && s.chgZoneOk && !s.bit R.PATH_SVC.LPACT then s.chgDetect else s.setChg C.suspend)
  else if !has then
    let s := s.disarm T.chgSource
    if s.cst = C.fault then s else s.setChg C.suspend
  else if !had then s.arm T.chgSource 1000000000
  else s

/-- A cause of Table 9.6: FS_42 and its sillage record (R183). -/
def State.pathCause (s : State) (c : Nat) : State :=
  (((s.setF R.PATH_CHG_STATUS.CAUSE c).raise 42).traceRec 0x0600 2 c)

/-- A charger fault: FAULT with its cause (R183).  The time in CC and CV stays counted (R180). -/
def State.chgFault (s : State) (c : Nat) : State :=
  let s := (s.setChg C.fault).pathCause c
  (s.updPath (fun p => { p with preLeft := none })).disarm T.chgSource

/-- The first enabled step from `i` on whose VEND lies above the cell voltage `v` in millivolts (R180). -/
def State.chgStepFrom (s : State) (i v : Nat) : Option Nat :=
  (List.range 4).find? (fun k => decide (i ≤ k) && s.bit (R.PATH_CHG_STEP.EN k) &&
    decide (v < 3500 + 5 * s.fld (R.PATH_CHG_STEP.VEND k)))

/-- Entry to CC at cell voltage `v`, or to CV where the voltage has reached its level or no step is left (R180). -/
def State.enterCc (s : State) (v : Nat) : State :=
  match s.chgStepFrom 0 v with
  | none => s.setChg C.cv
  | some k =>
    let s := s.setF R.PATH_CHG_STATUS.STEP k
    if s.cvLevel ≤ v then s.setChg C.cv else (s.setChg C.cc).showCaps

/-- Whether step `k` is the last enabled one. -/
def State.lastStep (s : State) (k : Nat) : Bool :=
  (List.range 4).all (fun i => decide (i ≤ k) || !s.bit (R.PATH_CHG_STEP.EN i))

/-- The cell voltage `v` reaches the end of the step or the CV level (R180). -/
def State.chgStepEnd (s : State) (v : Nat) : State :=
  let k := s.fld R.PATH_CHG_STATUS.STEP
  let vend := 3500 + 5 * s.fld (R.PATH_CHG_STEP.VEND k)
  if s.cst ≠ C.cc then s
  else if s.cvLevel ≤ v && (s.cvLevel ≤ vend || s.lastStep k) then s.setChg C.cv
  else if vend ≤ v && !s.lastStep k then
    match s.chgStepFrom (k + 1) 0 with
    | some j => (s.setF R.PATH_CHG_STATUS.STEP j).showCaps
    | none => s
  else s

/-- The pack voltage that a cell voltage shows in PATH_CHG_MEAS. -/
def State.showCell (s : State) (v : Nat) : State :=
  s.setF R.PATH_CHG_MEAS.VBAT (v * min 4 (max 2 (s.fld R.PATH_BAT.NCELL)))

/-! ## Path transitions (R167 to R177) -/

/-- The path's status bits that follow from others: INHIBIT. -/
def State.showPath (s : State) : State := s.setB R.PATH_STATUS.INHIBIT (!s.handoverOk)

/-- PEER_OUT, or its start-up, ends: the reverse charger and PG_A off. -/
def State.endPeerOut (s : State) : State :=
  let s := s.updPath (fun p => { p with
    pgA := false, peerWait := false, peerReturn := false,
    chg := if p.chg = .reverse then .off else p.chg })
  if s.fld R.PATH_STATUS.PEER = 2 then s.setF R.PATH_STATUS.PEER 0 else s

/-- An OUT start-up still running ends where the path leaves ON_BAT or NOSRC on the way to another source: OUT is
for these two states (R188, DEDUCED, log 195). -/
def State.dropOutStart (s : State) : State := if s.path.peerWait then s.endPeerOut else s

/-- The path enters ON_VIN: the input pair an ideal diode, the battery switch off. -/
def State.enterOnVin (s : State) : State :=
  ((s.setPath P.onVin).updPath (fun p => { p with gin := !p.revCond, bsw := false })).chgFollow

/-- The path enters NOSRC: both pairs off, and t_RET starts unless an excursion lasts (R168). -/
def State.enterNosrc (s : State) : State :=
  let s := ((s.setPath P.nosrc).updPath (fun p => { p with gin := false, bsw := false, afterHo := false })).disarm T.retMax
  let s := if s.vinExcurs then s.disarm T.pathWait else s.arm T.pathWait s.tRet
  s.chgFollow.showPath

/-- The path enters a soft start from VIN or from the pack (R168). -/
def State.enterSoft (s : State) (bat : Bool) : State :=
  ((s.dropOutStart.setPath (if bat then P.softBat else P.softVin)).updPath (fun p =>
    { p with gin := !bat, bsw := bat })).disarm T.pathWait

/-- A path in NOSRC without boardnet takes the pack when a hand-over is permitted (R168). -/
def State.nosrcToBat (s : State) : State :=
  if s.pst = P.nosrc && s.vinExcurs && s.handoverOk then (s.enterSoft true).chgFollow else s

/-- Permission re-judged after one of its terms changed (R168, R171). -/
def State.pathRefresh (s : State) : State :=
  let was := s.bit R.PATH_STATUS.INHIBIT
  let s := s.showPath
  if was && s.handoverOk then s.nosrcToBat else s

/-- The completion of a hand-over or a return: FS_40, EV_056 and its sillage record (R177). -/
def State.transferDone (s : State) (code : Nat) (safe : Bool) (ns : Nat) : State :=
  (((s.raise 40).event 56).traceRec 0x0600 1 (code * 2 ^ 28 + safe.toNat * 2 ^ 27 + satNat 0xFFFFFF (ns / 10)))

/-- The charger leaves for SUSPEND, unless it is OFF or in FAULT (R178, R181). -/
def State.chgSuspend (s : State) : State := if s.cst = C.off || s.cst = C.fault then s else s.setChg C.suspend

/-- A hand-over starts: the input pair and the charger off, the battery switch driven on (R172).  The charger leaves
for SUSPEND, and comes back 1 s after a source, present all the while or not (R178). -/
def State.handoverStart (s : State) : State :=
  let s := s.chgSuspend
  let s := (s.setPath P.handover).updPath (fun p => { p with
    gin := false, bsw := true, chg := .off, trigAt := s.ns, safeAtHo := decide (s.sys.phase = .safe), afterHo := false,
    source := false, hoBegan := true })
  let s := s.setPair R.PATH_HO_TS_LO.reg R.PATH_HO_TS_HI.reg s.now
  let s := if s.zoneBit R.PATH_ZONE.DSG then s else s.raise 43
  s.chgFollow

/-- A trigger of Table 9.3 in ON_VIN: a hand-over, or NOSRC when none is permitted (R170, R171). -/
def State.pathTrigger (s : State) (code : Nat) (enabled : Bool) : State :=
  if s.pst = P.onVin && enabled then
    let s := s.setF R.PATH_STATUS.TRIG code
    if s.handoverOk then s.handoverStart else s.enterNosrc.nosrcToBat
  else s

/-- A RETURN starts make-before-break (R175): the drop target rises from 20 mV to DMAX at 1 V/ms and is
judged 1 ms later (R176). -/
def State.startReturn (s : State) : State :=
  let dmax := min 200 (max 2 (s.fld R.PATH_RET.DMAX)) * 10
  let s := (s.dropOutStart.setPath P.ret).updPath (fun p => { p with gin := !p.revCond, retStart := s.ns })
  (s.disarm T.pathWait).arm T.retMax ((dmax - 20) * 1000 + 1000000)

/-- A RETURN is abandoned to ON_BAT (R176). -/
def State.abandonReturn (s : State) : State :=
  ((s.setPath P.onBat).updPath (fun p => { p with gin := false })).disarm T.retMax

/-- A return completes: the battery switch off, ON_VIN, counted (R175, R177). -/
def State.completeReturn (s : State) : State :=
  let d := s.ns - s.path.retStart
  let safe := decide (s.sys.phase = .safe)
  let s := (s.disarm T.retMax).enterOnVin
  let s := s.count B.path R.PATH_CNT.RET R.PATH_CNT.SAT_R
  s.transferDone 0xF safe d

/-- The pack can feed the path no longer: cut, absence or a long press (R173, R185, R190).  In the other states
nothing switches, but a long press opens a switch that is ramping too. -/
def State.dropPack (s : State) (press : Bool) : State :=
  let st := s.pst
  if st = P.onBat || (press && st = P.softBat) then (s.endPeerOut).enterNosrc
  else if st = P.handover then s.updPath (fun p => { p with afterHo := true })
  else if st = P.ret then s.completeReturn
  else if st = P.peerOut then s.endPeerOut.enterNosrc
  else s

/-- VIN becomes stable (R174): NOSRC is left when its own t_RET is over, ON_BAT begins a return, PEER_OUT
turns the input pair on. -/
def State.vinStableActs (s : State) : State :=
  let st := s.pst
  let waited := match s.deadline T.pathWait with
    | some d => decide (d ≤ s.ns)
    | none => true
  if st = P.nosrc && waited then s.enterSoft false
  else if st = P.onBat && waited && s.bit R.PATH_STATUS.VIN_STABLE then s.startReturn
  else if st = P.peerOut && s.bit R.PATH_STATUS.VIN_STABLE then
    s.updPath (fun p => { p with gin := !p.revCond, peerReturn := true, retStart := s.ns })
  else s

/-- The end of a hand-over: ON_BAT, its delay and its record; then what waited for it (R172, R173, R185). -/
def State.handoverDone (s : State) (slow : Bool) : State :=
  let s := if slow then (s.notBefore (s.path.trigAt + 3000)).setB R.PATH_STATUS.BSW_SLOW true else s
  let d := s.ns - s.path.trigAt
  let s := (s.setF R.PATH_HO_DLY.DLY (satNat 0xFFFF d)).setPath P.onBat
  let s := s.count B.path R.PATH_CNT.HO R.PATH_CNT.SAT_H
  let s := s.transferDone (s.fld R.PATH_STATUS.TRIG) s.path.safeAtHo d
  if s.path.afterHo then
    let s := s.enterNosrc
    if s.bit R.PATH_SVC.LPACT && !s.bit R.SUP_VIN_STATUS.LOW && !s.bit R.SUP_VIN_STATUS.HIGH then s.enterSoft false else s
  else s.vinStableActs

/-- A change of excursion (R174): a beginning restarts the count and abandons a return; an end starts t_RET. -/
def State.excursionChange (s : State) : State :=
  if s.vinExcurs then
    let s := ((s.setB R.PATH_STATUS.VIN_STABLE false).disarm T.vinStable).disarm T.pathWait
    let s := if s.path.peerReturn then s.updPath (fun p => { p with gin := false, peerReturn := false }) else s
    if s.pst = P.ret then s.abandonReturn.count B.path R.PATH_CNT2.RETABORT R.PATH_CNT2.SAT_A
    else s.nosrcToBat
  else
    let s := (s.updPath (fun p => { p with excEnd := s.ns })).arm T.vinStable s.tRet
    if s.pst = P.nosrc then s.arm T.pathWait s.tRet else s

/-! ## Presence and zones (R181, R184 to R186) -/

/-- The readings of BAT_ID and TS: PRESENT while both read present (R184). -/
def State.showPresence (s : State) : State :=
  (s.setB R.PATH_STATUS.PRESENT (s.path.batId = some true && s.path.ts = some true)).pathRefresh

/-- The lowest zone whose bound is not below `t` in 0.01 °C; Z_5 has none. -/
def State.zoneOf (s : State) (t : Int) : Nat :=
  ((List.range 5).find? (fun k => decide (t ≤ s.sfld (R.PATH_ZONE.TMAX k) * 100))).getD 5

/-- The active zone after a reading of `t` in 0.01 °C (R181). -/
def State.nextZone (s : State) (t : Int) : Nat :=
  let z := s.fld R.PATH_CHG_STATUS.ZONE
  if 6 ≤ z then s.zoneOf t
  else if z < 5 && decide (s.sfld (R.PATH_ZONE.TMAX z) * 100 < t) then s.zoneOf t
  else if 0 < z && decide (t < s.sfld (R.PATH_ZONE.TMAX (z - 1)) * 100 - (s.fld R.PATH_TS_CFG.HYS * 100 : Nat))
    then s.zoneOf t
  else z

/-- The active zone becomes `z` (R181): entering a zone without charge permit suspends the charger and raises
FS_43; leaving it returns the charger to DETECT. -/
def State.enterZone (s : State) (z : Nat) : State :=
  let was := s.fld R.PATH_CHG_STATUS.ZONE
  let had := s.chgZoneOk
  let s := (s.setF R.PATH_CHG_STATUS.ZONE z).showCaps
  let s := if z = was then s
    else if z < 6 && !s.chgZoneOk then
      (if s.cst = C.off || s.cst = C.fault then s else (s.setChg C.suspend).raise 43)
    else if s.chgZoneOk && !had && s.cst = C.suspend && s.chgSource && !s.bit R.PATH_SVC.LPACT &&
      !s.runs T.chgSource then s.chgDetect
    else s
  s.pathRefresh

/-- The absent mark (R185): FS_41 once, charging ends, the path acts by its state. -/
def State.markAbsent (s : State) : State :=
  let was := s.bit R.PATH_STATUS.ABSENT
  let s := (s.setB R.PATH_STATUS.ABSENT true).setF R.PATH_CHG_STATUS.PRES 0
  let s := if was then s else s.raise 41
  let s := if s.cst = C.precharge || s.cst = C.cc || s.cst = C.cv || s.cst = C.done then s.setChg C.detect else s
  let s := (s.updPath (fun p => { p with preLeft := none, fastLeft := none })).disarm T.chFast
  let s := if s.chgSource && s.cst ≠ C.off then (if s.runs T.probe then s else s.arm T.probe 1000000000) else s
  (if was then s else (s.dropPack false).endPeerOut).showPath

/-! ## Life phases (R167, R169) -/

/-- Whether the path runs: it is powered and has left IDLE. -/
def State.pathOn (s : State) : Bool := s.pst ≠ P.idle

/-- Whether the base-note domain runs, and in it the comparators of the boardnet (R156, R174). -/
def State.baseOn (s : State) : Bool := s.sys.address.isSome && s.sys.phase ≠ .flacon

/-- The count of t_RET against the configured time, from the end of the last excursion, wherever it began (R174). -/
def State.countStable (s : State) : State :=
  if s.vinExcurs then s
  else if s.path.excEnd + s.tRet ≤ s.ns then (s.setB R.PATH_STATUS.VIN_STABLE true).disarm T.vinStable
  else (s.setB R.PATH_STATUS.VIN_STABLE false).arm T.vinStable (s.path.excEnd + s.tRet - s.ns)

/-- A base-note power-on reset starts the count of t_RET as though an excursion had ended (R174). -/
def State.freshStable (s : State) : State := (s.updPath (fun p => { p with excEnd := s.ns })).countStable

/-- At t3 the path leaves IDLE, and the presence filters start (R167, R184). -/
def State.pathStart (s : State) : State :=
  let s := s.updPath (fun p => { p with batId := none, ts := none })
  let s := (s.setB R.PATH_STATUS.PRESENT false).showPath
  let s := s.countStable
  let s := if !s.bit R.SUP_VIN_STATUS.LOW && !s.bit R.SUP_VIN_STATUS.HIGH then s.enterSoft false
    else if s.handoverOk then s.enterSoft true
    else s.enterNosrc
  s.chgFollow.showCaps

/-- The path, charger and peer port take their configuring levels: IDLE (R167, R169). -/
def State.pathIdle (s : State) : State :=
  let s := s.updPath (fun p => { p with
    gin := false, bsw := false, pgA := false, pgB := false, chg := .off, afterHo := false, peerWait := false,
    peerReturn := false, source := false, preLeft := none, fastLeft := none, batId := none, ts := none,
    warnHold := false, cutHold := false, cutNow := false, revCond := false, vlowCond := false })
  let keep := s.fld R.PATH_STATUS.ABSENT
  let vs := s.fld R.PATH_STATUS.VIN_STABLE
  let s := ((s.setReg R.PATH_STATUS.reg 0).setF R.PATH_STATUS.ABSENT keep).setF R.PATH_STATUS.VIN_STABLE vs
  let s := (s.setReg R.PATH_CHG_STATUS.reg (resetWord R.PATH_CHG_STATUS.reg)).setReg R.PATH_CHG_TMR.reg 0
  let s := (s.setReg R.PATH_CNT.reg 0).setReg R.PATH_CNT2.reg 0
  [T.pathWait, T.retMax, T.chgSource, T.chPre, T.chFast, T.probe].foldl State.disarm s

/-- The safe state: the charger stops, the peer gates turn off, and PEER_OUT ends as if VSYS had fallen below its
limit (R169, R188). -/
def State.pathSafe (s : State) : State :=
  let was := s.pst = P.peerOut
  let s := s.updPath (fun p => { p with pgB := false })
  let s := (s.setF R.PATH_STATUS.PEER 0).endPeerOut
  let s := s.chgFollow
  if was then
    let s := s.pathCause 7
    if s.handoverOk then s.handoverStart else s.enterNosrc
  else s

/-- The long-press cycle ends: the inhibition lifts (R190). -/
def State.longPressOver (s : State) (lost : Bool) : State :=
  let s := s.setB R.PATH_SVC.LPACT false
  let s := if lost then s else s.setB R.PATH_SVC.LPDONE true
  let s := s.pathRefresh
  if s.cst = C.suspend && s.chgSource && s.chgZoneOk then s.arm T.chgSource 1000000000 else s

/-! ## Meanings: path -/

/-- SOFT_START_END (R168). -/
def execSoftStartEnd (s : State) : Out := .next (
  if s.pst = P.softVin then s.enterOnVin
  else if s.pst = P.softBat then ((s.setPath P.onBat).updPath (fun p => { p with bsw := true })).vinStableActs
  else s)

/-- SOFT_START_TIMEOUT (R168). -/
def execSoftStartTimeout (s : State) : Out := .next (
  if s.pst = P.softVin || s.pst = P.softBat then s.enterNosrc.setB R.PATH_STATUS.SSFAIL true else s)

/-- VIN_STABLE (R168, R174, R175, R188). -/
def execVinStable (s : State) : Out := .next (
  match s.expire T.vinStable with
  | some s => (s.setB R.PATH_STATUS.VIN_STABLE true).vinStableActs
  | none => match s.expire T.pathWait with
    | some s => s.vinStableActs
    | none => s)

/-- Whether the input pair runs as an ideal diode (Table 9.2, R188). -/
def State.inputDiode (s : State) : Bool :=
  s.pst = P.onVin || s.pst = P.ret || (s.pst = P.peerOut && s.path.peerReturn)

/-- REVERSE_DETECT (R170, R191): the input pair turns off in every state in which it runs as an ideal diode, and
conducts again once the condition is over. -/
def execReverseDetect (s : State) (present : Bool := true) : Out := .next (
  if s.pathOn then
    let s := s.updPath (fun p => { p with gin := if s.inputDiode then !present else p.gin, revCond := present })
    s.pathTrigger 2 (present && s.bit R.PATH_CFG.REVEN)
  else s)

/-- VSYS_LOW_DETECT (R170, R191). -/
def execVsysLowDetect (s : State) (present : Bool := true) : Out := .next (
  if s.pathOn then
    (s.updPath (fun p => { p with vlowCond := present })).pathTrigger 3 (present && s.bit R.PATH_CFG.VLEN)
  else s)

/-- HANDOVER_COMPLETE (R172). -/
def execHandoverComplete (slow : Bool) (s : State) : Out := .next (
  if s.pst = P.handover then s.handoverDone slow else s)

/-- BSW_REVERSE_OFF (R173): the battery switch is an ideal diode in ON_BAT and RETURN, off while VSYS stands above
the pack and on again after it. -/
def execBswReverseOff (s : State) (off : Bool := true) : Out := .next (
  if s.pst = P.onBat || s.pst = P.ret then s.updPath (fun p => { p with bsw := !off }) else s)

/-- A level per cell of PATH_BAT, in millivolts of the whole pack. -/
def State.packLevel (s : State) (code : Nat) : Nat := min 4 (max 2 (s.fld R.PATH_BAT.NCELL)) * (2000 + 5 * code)

/-- The warning level and the cut level of the pack. -/
def State.warnLevel (s : State) : Nat := s.packLevel (s.fld R.PATH_BAT.VWARN)
def State.cutLevel (s : State) : Nat := s.packLevel (s.fld R.PATH_BAT.VCUT)

/-- The filter of the pack's levels, in nanoseconds (R173). -/
def packFilter : Nat := 1000000

/-- PACK_WARNING (R173): BAT_SNS at `mv` millivolts, for `held` ns. -/
def execPackWarning (s : State) (mv held : Nat := 0) : Out := .next (
  if s.pathOn && !s.path.warnHold && decide (mv < s.warnLevel) && decide (packFilter ≤ held) then
    ((s.updPath (fun p => { p with warnHold := true })).setB R.PATH_STATUS.WARN true).event 57 else s)

/-- PACK_WARNING_END (R173): BAT_SNS at `mv` millivolts, for `held` ns. -/
def execPackWarningEnd (s : State) (mv held : Nat := 0) : Out := .next (
  if s.pathOn && decide (s.warnLevel < mv) && decide (packFilter ≤ held) then
    (s.updPath (fun p => { p with warnHold := false })).setB R.PATH_STATUS.WARN false else s)

/-- PACK_CUT (R171, R173): at or below the cut level no hand-over is permitted; below it for 1 ms the cut condition
begins. -/
def execPackCut (s : State) (mv held : Nat := 0) : Out := .next (
  if s.pathOn && decide (mv ≤ s.cutLevel) then
    let s := s.updPath (fun p => { p with cutNow := true })
    if !s.path.cutHold && decide (mv < s.cutLevel) && decide (packFilter ≤ held) then
      let s := (s.updPath (fun p => { p with cutHold := true })).setB R.PATH_STATUS.CUT true
      ((s.pathCause 6).dropPack false).showPath
    else s.showPath
  else s)

/-- PACK_CUT_END (R171, R173): above the cut level a hand-over is permitted again; above it for 1 ms the cut condition
ends. -/
def execPackCutEnd (s : State) (mv held : Nat := 0) : Out := .next (
  if s.pathOn && decide (s.cutLevel < mv) then
    (s.updPath (fun p => { p with
      cutNow := false, cutHold := p.cutHold && decide (held < packFilter) })).pathRefresh
  else s)

/-- RETURN_TRANSFER (R175, R188). -/
def execReturnTransfer (s : State) : Out := .next (
  if s.pst = P.ret then s.completeReturn
  else if s.pst = P.peerOut && s.path.peerReturn then s.endPeerOut.completeReturn
  else s)

/-- RETURN_NO_TRANSFER (R176). -/
def execReturnNoTransfer (s : State) : Out := .next (
  match s.expire T.retMax with
  | some s => if s.pst = P.ret
    then (s.abandonReturn.count B.path R.PATH_CNT2.RETFAIL R.PATH_CNT2.SAT_F).arm T.pathWait s.tRet else s
  | none => s)

/-- VIN_EXCURSION (R174, R176). -/
def execVinExcursion (outside : Bool) (s : State) : Out := .next (
  if s.baseOn then (s.updPath (fun p => { p with excursion := outside })).excursionChange else s)

/-- VSYS_OK_CHANGE (R191). -/
def execVsysOkChange (ok : Bool) (s : State) : Out := .next (
  if s.pathOn then s.setB R.PATH_STATUS.VSYS_OK ok else s)

/-! ## Meanings: charger -/

/-- CHARGER_SOURCE_RETURN (R178). -/
def execChargerSourceReturn (s : State) : Out := .next (
  match s.expire T.chgSource with
  | some s => if s.cst = C.suspend && s.chgSource && s.chgZoneOk && !s.bit R.PATH_SVC.LPACT then s.chgDetect else s
  | none => s)

/-- The pre-charge exit level of a cell, in millivolts (R179). -/
def State.preLevel (s : State) : Nat := 2000 + 5 * s.fld R.PATH_CHG_PRE.VPRE

/-- PRECHARGE_EXIT (R179): a cell voltage at or above VPRE. -/
def execPrechargeExit (cellMv : Nat) (s : State) : Out := .next (
  if s.cst = C.precharge && decide (s.preLevel ≤ cellMv) then
    ((s.showCell cellMv).enterCc cellMv).updPath (fun p => { p with preLeft := none })
  else s)

/-- PRECHARGE_TIMEOUT (R179). -/
def execPrechargeTimeout (s : State) : Out := .next (
  match s.expire T.chPre with
  | some s => s.chgFault 1
  | none => s)

/-- CHARGER_STEP_END (R180). -/
def execChargerStepEnd (cellMv : Nat) (s : State) : Out := .next ((s.showCell cellMv).chgStepEnd cellMv)

/-- CHARGER_TERMINATION (R180). -/
def execChargerTermination (s : State) : Out := .next (
  if s.cst = C.cv then ((s.setChg C.done).updPath (fun p => { p with fastLeft := none })).setF R.PATH_CHG_TMR.FAST 0 else s)

/-- CHARGER_RECHARGE (R180). -/
def execChargerRecharge (cellMv : Nat) (s : State) : Out := .next (
  if s.cst = C.done && cellMv + 5 * min 100 (max 4 (s.fld R.PATH_CHG_TERM.VRCH)) < s.cvLevel
  then (s.showCell cellMv).enterCc cellMv else s)

/-- FAST_CHARGE_TIMEOUT (R180). -/
def execFastChargeTimeout (s : State) : Out := .next (
  match s.expire T.chFast with
  | some s => (s.updPath (fun p => { p with fastLeft := some 0 })).chgFault 2
  | none => s)

/-- PACK_ZONE_CHANGE (R181): a TS reading of `uv` microvolts. -/
def execPackZoneChange (uv : Nat) (s : State) : Out := .next (
  if s.pathOn then s.enterZone (if tsInRange uv then s.nextZone (s.tsTemp uv) else 7) else s)

/-- Whether the charger charges: its gates are driven forward (Table 9.5). -/
def State.charging (s : State) : Bool := s.cst = C.precharge || s.cst = C.cc || s.cst = C.cv

/-- CHARGER_FAULT (R183): causes 3, 4 and 5 of Table 9.6; the others have rows of their own.  Cause 3 is one of a
charger that charges.  A charger that is OFF, or in FAULT already, stays there, and the cause is reported (DEDUCED,
log 196). -/
def execChargerFault (cause : Fin 8) (s : State) : Out := .next (
  if s.pathOn && ((cause.val = 3 && s.charging) || cause.val = 4 || cause.val = 5) then
    (if s.cst = C.off || s.cst = C.fault then s.pathCause cause else s.chgFault cause)
  else s)

/-- A write of PATH_CHG_CTRL (R178, R183): CLEAR to DETECT, or to SUSPEND where the charger may not run, or a
restart at DETECT from any state in which it may. -/
def State.chgCommand (s : State) (cmd : Nat) : State :=
  if cmd = 1 then
    (if s.cst = C.fault then
      (if s.chgSource && s.chgZoneOk && !s.bit R.PATH_SVC.LPACT then s.chgDetect else s.setChg C.suspend)
    else s)
  else if cmd = 2 then
    (if s.cst = C.off || s.cst = C.suspend || s.cst = C.fault then s
    else ((s.setChg C.detect).updPath (fun p => { p with preLeft := none })).chgDetect)
  else s

/-- CHARGER_CLEAR (R183). -/
def execChargerClear (r : Req) (s : State) : Out := .next (
  if s.may r R.PATH_CHG_CTRL.reg true none then (s.chgCommand 1).hostWrite r 0xD1 1 else s.denied r true)

/-- CHARGER_RESTART (R183). -/
def execChargerRestart (r : Req) (s : State) : Out := .next (
  if s.may r R.PATH_CHG_CTRL.reg true none then (s.chgCommand 2).hostWrite r 0xD1 2 else s.denied r true)

/-- A write of PATH_CHG_SOFT (R182). -/
def State.softLimit (s : State) (w : Word) : State := (s.setReg R.PATH_CHG_SOFT.reg (w &&& 0x80FF00FF#32)).showCaps

/-- CHARGER_SOFT_LIMIT (R182). -/
def execChargerSoftLimit (r : Req) (w : Word) (s : State) : Out := .next (
  if s.may r R.PATH_CHG_SOFT.reg true none then (s.softLimit w).hostWrite r 0xD1 w.toNat else s.denied r true)

/-- PACK_PRESENT (R179, R184): the readings after their filter. -/
def execPackPresent (batId ts : Bool) (s : State) : Out := .next (
  if s.pathOn then
    let s := (s.updPath (fun p => { p with batId := some batId, ts := some ts })).showPresence
    if s.cst = C.detect then s.chgDetect else s
  else s)

/-- PACK_ABSENT (R185): the current's collapse counts in CC, with the CV level unchanged for the last 10 ms. -/
def execPackAbsent (why : AbsentWhy) (s : State) : Out := .next (
  if s.pathOn && (why ≠ .currentCollapse || (s.cst = C.cc && decide (s.path.cvAt + 10000000 ≤ s.ns))) then
    let s := (match why with
      | .batIdOpen => s.updPath (fun p => { p with batId := some false })
      | .tsOpen => s.updPath (fun p => { p with ts := some false })
      | .currentCollapse => s)
    s.showPresence.markAbsent
  else s)

/-- PRESENCE_PROBE (R186). -/
def execPresenceProbe (present : Bool) (s : State) : Out := .next (
  if s.bit R.PATH_STATUS.ABSENT && s.chgSource && s.cst ≠ C.off then
    let s := (match s.expire T.probe with
      | some s => s
      | none => s)
    let n := if present && s.bit R.PATH_STATUS.PRESENT then s.fld R.PATH_CHG_STATUS.PRES + 1 else 0
    let s := s.setF R.PATH_CHG_STATUS.PRES (min 2 n)
    if 2 ≤ n then ((s.setB R.PATH_STATUS.ABSENT false).setChg C.precharge).pathRefresh
    else s.arm T.probe 1000000000
  else s)

/-! ## Meanings: peer port and long press -/

/-- Whether a MODE write is accepted (R187). -/
def State.peerWriteOk (s : State) : Bool := s.bit R.PATH_CFG.PEEREN && s.pathOn

/-- OUT ends by a MODE write: the battery switch first, when a hand-over is permitted (R188). -/
def State.peerOutOff (s : State) : State :=
  if s.pst = P.peerOut then
    if s.handoverOk then ((s.setPath P.onBat).updPath (fun p => { p with bsw := true })).endPeerOut.vinStableActs
    else s.endPeerOut.enterNosrc
  else s.endPeerOut

/-- A write of MODE 0 or 3 (R187, R188). -/
def State.peerOff (s : State) : State :=
  if s.peerWriteOk then
    let s := (s.setF R.PATH_PEER.MODE 0).peerOutOff
    ((s.updPath (fun p => { p with pgA := false, pgB := false })).setF R.PATH_STATUS.PEER 0).chgFollow
  else s

/-- PEER_MODE_OFF (R187, R188). -/
def execPeerModeOff (r : Req) (s : State) : Out := .next (
  if s.may r R.PATH_PEER.reg true none then s.peerOff.hostWrite r 0xD1 (s.reg R.PATH_PEER.reg).toNat else s.denied r true)

/-- A write of MODE 1 (R187). -/
def State.peerIn (s : State) : State :=
  if s.peerWriteOk then
    let s := (s.setF R.PATH_PEER.MODE 1).peerOutOff
    ((s.updPath (fun p => { p with pgA := false, pgB := true })).setF R.PATH_STATUS.PEER 1).chgFollow
  else s

/-- PEER_MODE_IN (R187). -/
def execPeerModeIn (r : Req) (s : State) : Out := .next (
  if s.may r R.PATH_PEER.reg true none then s.peerIn.hostWrite r 0xD1 (s.reg R.PATH_PEER.reg).toNat else s.denied r true)

/-- A write of MODE 2 (R187, R188). -/
def State.peerOut (s : State) (batAboveWarn : Bool) : State :=
  if s.peerWriteOk && (s.pst = P.onBat || s.pst = P.nosrc) && !s.bit R.PATH_STATUS.VIN_STABLE &&
      s.bit R.PATH_STATUS.PRESENT && !s.bit R.PATH_STATUS.ABSENT && batAboveWarn && s.zoneBit R.PATH_ZONE.DSG then
    let s := (s.setF R.PATH_PEER.MODE 2).setF R.PATH_STATUS.PEER 2
    (s.updPath (fun p => { p with pgB := false, chg := .reverse, peerWait := true })).chgFollow
  else s

/-- PEER_MODE_OUT (R187, R188). -/
def execPeerModeOut (r : Req) (batAboveWarn : Bool) (s : State) : Out := .next (
  if s.may r R.PATH_PEER.reg true none then
    (s.peerOut batAboveWarn).hostWrite r 0xD1 (s.reg R.PATH_PEER.reg).toNat
  else s.denied r true)

/-- PEER_OUT_ESTABLISHED (R188). -/
def execPeerOutEstablished (s : State) : Out := .next (
  if s.path.peerWait && (s.pst = P.onBat || s.pst = P.nosrc) then
    ((s.setPath P.peerOut).updPath (fun p => { p with bsw := false, pgA := true, peerWait := false })).disarm T.pathWait
  else s)

/-- PEER_OUT_UNDERVOLTAGE (R188). -/
def execPeerOutUndervoltage (s : State) : Out := .next (
  if s.pst = P.peerOut then
    let s := ((s.endPeerOut).pathCause 7).chgSuspend
    if s.handoverOk then s.handoverStart else s.enterNosrc
  else s)

/-- LONG_PRESS (R190). -/
def execLongPress (vinInside : Bool) (s : State) : Out := .next (
  match s.expire T.press with
  | some s =>
    let s := { s with sys := { s.sys with svcArmed := false, batLeg := false } }
    let s := ((s.setB R.PATH_SVC.LPACT true).arm T.longEnd 300000000).chgSuspend
    let s := ((s.updPath (fun p => { p with pgB := false })).dropPack true).endPeerOut
    let s := (if s.fld R.PATH_STATUS.PEER = 1 then s.setF R.PATH_STATUS.PEER 0 else s).showPath
    if vinInside && s.pst = P.nosrc then s.enterSoft false else s
  | none => s)

/-- SVC_N_CHANGE (R190): the press is timed after its 20 ms debounce; another counts after 100 ms of release. -/
def execSvcNChange (low : Bool) (s : State) : Out := .next (
  if s.sys.svcLow = low then s
  else if low && (s.sys.phase = .unpowered || s.sys.phase = .flacon) then
    { s with sys := { s.sys with svcLow := true, svcFrom := s.ns } }
  else if low then
    let again := s.sys.svcArmed || decide (s.path.released + 100000000 ≤ s.ns)
    let s := { s with sys := { s.sys with svcLow := true, svcArmed := again, svcFrom := s.ns } }
    if again then s.arm T.press (20000000 + min 16 (max 4 (s.fld R.PATH_SVC.LPT)) * 1000000000) else s
  else (({ s with sys := { s.sys with svcLow := false, svcFrom := s.ns } }).updPath (fun p => { p with released := s.ns })).disarm T.press)

end Sys2Proof.Machine
end

