-- ==== Sys2Proof/Machine/Sup.lean ====
section
/-! DEFINITION.  Monitor windows, VIN supervisors, reset outputs and the host watchdog (spec/08). -/

namespace Sys2Proof.Machine

def T.mon (m : Nat) : Nat := timerKey 80 m
def T.rstoMin (n : Nat) : Nat := timerKey 81 n
def T.rstoRel (n : Nat) : Nat := timerKey 82 n
def T.rstoWd (n : Nat) : Nat := timerKey 83 n
def T.wd : Nat := timerKey 84 0

/-! ## Watchdog: challenge and arming (R160 to R165) -/

/-- One step of the LFSR x^16 + x^14 + x^13 + x^11 + 1: shifted toward its lowest bit, with the sum of the stages 16,
14, 13 and 11 shifted in (R161; the form of the register is a DESIGN CHOICE, log entry 143). -/
def lfsrStep (x : BitVec 16) : BitVec 16 :=
  (x >>> 1) ||| ((BitVec.ofBool (x.getLsbD 0 ^^ x.getLsbD 2 ^^ x.getLsbD 3 ^^ x.getLsbD 5)).setWidth 16 <<< 15)

/-- The LFSR after `n` steps. -/
def lfsrRun : (n : Nat) → BitVec 16 → BitVec 16
  | 0, x => x
  | n + 1, x => lfsrRun n (lfsrStep x)

/-- The watchdog's LFSR starts to run, from a state that the spec leaves open and that is not 0 (R161). -/
def State.wdSeed (s : State) : State :=
  let (k, s) := s.takeFree
  { s with sup := { s.sup with lfsr := BitVec.ofNat 16 (1 + (Config.lfsr k).toNat % 65535), lfsrFrom := s.ns } }

/-- The LFSR as it stands: one step for each 10 ns; its states repeat after 65,535. -/
def State.wdLfsr (s : State) : BitVec 16 := lfsrRun ((s.ns - s.sup.lfsrFrom) / 10 % 65535) s.sup.lfsr

/-- A fresh challenge from the free-running LFSR, which never holds 0 (R161). -/
def State.wdChallenge (s : State) : State := s.setF R.SUP_WD_CHAL.CHAL s.wdLfsr.toNat

/-- The watchdog is armed (R160, R165): the present SUP_WD_CFG, SEQ 0, a fresh challenge, and the first window, or
idle while its host's reset output is low. -/
def State.wdArm (s : State) : State :=
  let cfg := s.reg R.SUP_WD_CFG.reg
  let s := { s with sup := { s.sup with wdCfg := cfg } }
  if s.bit R.SUP_WD_CFG.EN = false then (s.setF R.SUP_WD_STATUS.STATE 0).disarm T.wd
  else
    let s := (s.setF R.SUP_WD_STATUS.SEQ 0).wdChallenge
    if s.bit (R.SUP_RSTO_STATUS.LOW (cfg.field 28 3)) then (s.setF R.SUP_WD_STATUS.STATE 1).disarm T.wd
    else (s.setF R.SUP_WD_STATUS.STATE 2).arm T.wd (max 1 (cfg.field 16 8) * 10000000)

/-- The watchdog stops until the next start (R165). -/
def State.wdStop (s : State) : State :=
  if s.fld R.SUP_WD_STATUS.STATE = 0 then s else (s.setF R.SUP_WD_STATUS.STATE 5).disarm T.wd

/-! ## Reset outputs (R157 to R159) -/

/-- Whether the windows, the reset outputs and the watchdog are judged: from t3, and for the reset outputs and
the watchdog not in the safe state (R157, R159, R165). -/
def State.supRuns (s : State) : Bool := s.sys.stage = .released && s.sys.phase ≠ .safe && !s.acrd.defaults

/-- Whether a monitor asserts RSTO_n (R155). -/
def State.monHolds (s : State) (n : Nat) : Bool :=
  (List.range 64).any (fun m => s.bit (R.SUP_MON_CFG.EN m) && s.bit (R.SUP_MON_CFG.RSEN m) &&
    s.fld (R.SUP_MON_CFG.RSTO m) = n && !s.bit (R.SUP_MON_STATUS.INSIDE m))

/-- Whether a gating rail of RSTO_n is not in GOOD (R157). -/
def State.gateHolds (s : State) (n : Nat) : Bool :=
  (List.range 64).any (fun r =>
    (s.reg (if r < 32 then R.SUP_RSTO_GATE_LO.reg n else R.SUP_RSTO_GATE_HI.reg n)).getLsbD (r % 32) &&
    s.qst r ≠ Q.good)

/-- The active sources of RSTO_n, as SUP_RSTO_STATUS.ACT codes them (R157). -/
def State.rstoSources (s : State) (n : Nat) : Nat :=
  let src := s.fld (R.SUP_RSTO_CFG.SRC n)
  let wd := match s.deadline (T.rstoWd n) with
    | some d => decide (s.ns < d)
    | none => false
  (s.sup.rstoSys.testBit n && src.testBit 0).toNat + 2 * (s.acrd.act.getLsbD (184 + n) && src.testBit 1).toNat +
  4 * (s.monHolds n && src.testBit 2).toNat + 8 * (wd && src.testBit 3).toNat + 16 * (s.gateHolds n).toNat

/-- The release delay of RSTO_n begins (R158). -/
def State.rstoDelay (s : State) (n : Nat) : State :=
  (s.setB (R.SUP_RSTO_STATUS.DELAY n) true).arm (T.rstoRel n) (s.fld (R.SUP_RSTO_CFG.RDLY n) * 100000)

/-- The watchdog is idle while the ball of its host's reset output is low (R165). -/
def State.wdIdle (s : State) (n : Nat) : State :=
  let st := s.fld R.SUP_WD_STATUS.STATE
  if (st = 2 || st = 3 || st = 4) && s.sup.wdCfg.field 28 3 = n then (s.setF R.SUP_WD_STATUS.STATE 1).disarm T.wd else s

/-- RSTO_n follows its sources (R157, R158). -/
def State.rstoFollow (s : State) (n : Nat) : State :=
  let act := s.rstoSources n
  let s := s.setF (R.SUP_RSTO_STATUS.ACT n) act
  if act ≠ 0 then
    if s.bit (R.SUP_RSTO_STATUS.LOW n) then (s.setB (R.SUP_RSTO_STATUS.DELAY n) false).disarm (T.rstoRel n)
    else
      let s := (s.setB (R.SUP_RSTO_STATUS.LOW n) true).count B.sup (R.SUP_RSTO_STATUS.COUNT n) (R.SUP_RSTO_STATUS.SAT n)
      (s.arm (T.rstoMin n) (max 1 (s.fld (R.SUP_RSTO_CFG.MINW n)) * 10000)).wdIdle n
  else if s.bit (R.SUP_RSTO_STATUS.LOW n) && !s.bit (R.SUP_RSTO_STATUS.DELAY n) && !s.runs (T.rstoMin n)
  then s.rstoDelay n else s

/-- RSTO_n is released; the watchdog that the ball holds idle, as it took its configuration, is armed again (R158,
R165). -/
def State.rstoRelease (s : State) (n : Nat) : State :=
  let s := (s.setB (R.SUP_RSTO_STATUS.LOW n) false).setB (R.SUP_RSTO_STATUS.DELAY n) false
  if s.sup.wdCfg.field 28 3 = n && s.fld R.SUP_WD_STATUS.STATE ≠ 5 && s.sys.phase ≠ .powerDown then s.wdArm else s

/-- RSTO_n has no source and is released (R157): a disabled output. -/
def State.rstoFree (s : State) (n : Nat) : State :=
  let s := ((s.setF (R.SUP_RSTO_STATUS.ACT n) 0).disarm (T.rstoMin n)).disarm (T.rstoRel n)
  if s.bit (R.SUP_RSTO_STATUS.LOW n) then s.rstoRelease n else s.setB (R.SUP_RSTO_STATUS.DELAY n) false

/-- Every enabled reset output follows its sources, and a disabled one is released. -/
def State.rstoRefresh (s : State) : State :=
  if s.supRuns then
    (List.range 8).foldl (fun s n => if s.bit (R.SUP_RSTO_CFG.EN n) then s.rstoFollow n else s.rstoFree n) s
  else s

/-- The monitors and the reset outputs after a change of their configuration: a disabled monitor reads outside and
filters nothing (R153), and the outputs follow. -/
def State.supFollow (s : State) : State :=
  ((List.range 64).foldl (fun s m => if s.bit (R.SUP_MON_CFG.EN m) then s
    else (s.setB (R.SUP_MON_STATUS.INSIDE m) false).disarm (T.mon m)) s).rstoRefresh

/-! ## Watchdog: windows, answers and expiry (R160 to R164) -/

/-- The open window begins (R160). -/
def State.wdOpen (s : State) : State :=
  (s.setF R.SUP_WD_STATUS.STATE 4).arm T.wd (max 1 (s.sup.wdCfg.field 8 8) * 1000000)

/-- A closed window begins; CLOSED 0 gives none (R160). -/
def State.wdClosed (s : State) : State :=
  let c := s.sup.wdCfg.field 0 8
  if c = 0 then s.wdOpen else (s.setF R.SUP_WD_STATUS.STATE 3).arm T.wd (c * 1000000)

/-- The answer to the present challenge (R161). -/
def State.wdExpected (s : State) : Nat :=
  let c := BitVec.ofNat 16 (s.fld R.SUP_WD_CHAL.CHAL)
  let k := BitVec.ofNat 16 (s.fld R.SUP_WD_KEY.KEY)
  ((c.rotateLeft 3 ^^^ k) + BitVec.ofNat 16 (s.fld R.SUP_WD_STATUS.SEQ)).toNat

/-- The watchdog expires (R164): SEQ 0 and a fresh challenge, whatever SUP_WD_CFG now holds. -/
def State.wdExpire (s : State) : State :=
  let n := s.sup.wdCfg.field 28 3
  let s := (s.raise 33).setB R.SUP_WD_STATUS.EXP true
  let s := (s.count B.sup R.SUP_WD_CNT.EXPC R.SUP_WD_CNT.SAT_E).event 60
  let s := if s.sup.wdCfg.getLsbD 27 then (s.arm (T.rstoWd n) 1000).rstoRefresh else s
  (((s.setF R.SUP_WD_STATUS.ERRCNT 0).setF R.SUP_WD_STATUS.SEQ 0).wdChallenge).wdArm

/-- One error counts, and the last one expires the watchdog (R163, R164). -/
def State.wdError (s : State) : State :=
  let n := s.fld R.SUP_WD_STATUS.ERRCNT + 1
  let s := s.setF R.SUP_WD_STATUS.ERRCNT n
  if max 1 (s.sup.wdCfg.field 24 3) ≤ n then s.wdExpire else s

/-- An answer is judged in the present window (R160 to R163). -/
def State.wdJudge (s : State) (ans : Nat) : State :=
  let st := s.fld R.SUP_WD_STATUS.STATE
  if st = 2 || st = 3 || st = 4 then
    if st ≠ 3 && ans = s.wdExpected then
      let s := s.setF R.SUP_WD_STATUS.ERRCNT (s.fld R.SUP_WD_STATUS.ERRCNT - 1)
      ((s.setF R.SUP_WD_STATUS.SEQ (s.fld R.SUP_WD_STATUS.SEQ + 1)).wdChallenge).wdClosed
    else (s.count B.sup R.SUP_WD_CNT.BAD R.SUP_WD_CNT.SAT_B).wdError
  else s

/-- WD_ANS over the two-wire bus (R282), judged at STOP (R160). -/
def State.busAnswer (s : State) (m : BusMsg) : State := s.busSend m 0xDF 2 (fun s l => some (s.wdJudge (bytesLE l)))

/-- WD_ANSWER (R160 to R164): from the host bus or the quad port only (R162). -/
def execWdAnswer (r : Req) (ans : BitVec 16) (s : State) (m : Option BusMsg := none) : Out := .next (
  sentAs r m s.busAnswer <| match r with
  | .engine _ => s
  | .link => s
  | _ => if s.may r R.SUP_WD_ANS.reg true (some 0xDF) then (s.wdJudge ans.toNat).hostWrite r 0xDF ans.toNat else s.denied r true)

/-- WD_CLOSED_END (R160). -/
def execWdClosedEnd (s : State) : Out := .next (
  if s.fld R.SUP_WD_STATUS.STATE = 3 then
    match s.expire T.wd with
    | some s => s.wdOpen
    | none => s
  else s)

/-- WD_TIMEOUT (R160, R163): the end of the open or the first window. -/
def execWdTimeout (s : State) : Out := .next (
  let st := s.fld R.SUP_WD_STATUS.STATE
  if st = 2 || st = 4 then
    match s.expire T.wd with
    | some s => ((s.count B.sup R.SUP_WD_CNT.TOUT R.SUP_WD_CNT.SAT_T).wdClosed).wdError
    | none => s
  else s)

/-! ## Reset outputs: the end of a low time -/

/-- RSTO_MINW_END (R158). -/
def execRstoMinwEnd (n : Fin 8) (s : State) : Out := .next (
  match s.expire (T.rstoMin n) with
  | some s => if s.supRuns then s.rstoFollow n else s
  | none => s)

/-- RSTO_RELEASE (R158). -/
def execRstoRelease (n : Fin 8) (s : State) : Out := .next (
  match s.expire (T.rstoRel n) with
  | some s => if s.supRuns then s.rstoRelease n else s
  | none => s)

/-! ## Monitor windows (R152 to R155) -/

/-- The enabled rail that names monitor `m` (R154). -/
def State.monRail (s : State) (m : Nat) : Option Nat :=
  s.railsOn.find? (fun r => s.bit (R.SEQ_RAIL_CFG.KIND r) && s.fld (R.SEQ_RAIL_CFG.MON r) = m)

/-- Whether monitor `m` is armed (R154). -/
def State.monArmed (s : State) (m : Nat) : Bool :=
  s.sys.stage = .released && s.bit (R.SUP_MON_CFG.EN m) &&
  (match s.monRail m with
   | some r => s.qst r = Q.good
   | none => s.bit (R.SUP_MON_CFG.FSEN m))

/-- The raw state of monitor `m` is outside (R152). -/
def State.monOutside (s : State) (m : Nat) : Bool :=
  s.bit (R.SUP_MON_STATUS.ABOVE m) || s.bit (R.SUP_MON_STATUS.BELOW m)

/-- A comparator with hysteresis: set beyond its threshold, cleared beyond the other edge of its band, and as it was
between (R152, R156). -/
def hysteresis (was set clear : Bool) : Bool := if set then true else if clear then false else was

/-- The raw state of monitor `m` with `uv` microvolts at its ball (R152). -/
def State.monCompare (s : State) (m uv : Nat) : State :=
  let hys := s.fld (R.SUP_MON_CFG.HYS m)
  let hi := s.fld (R.SUP_MON_THR.HI m)
  let lo := s.fld (R.SUP_MON_THR.LO m)
  let above := hysteresis (s.bit (R.SUP_MON_STATUS.ABOVE m)) (hi * 2500 < uv) (uv < (hi - hys) * 2500)
  let below := hysteresis (s.bit (R.SUP_MON_STATUS.BELOW m)) (uv < lo * 2500) ((lo + hys) * 2500 < uv)
  (s.setB (R.SUP_MON_STATUS.ABOVE m) above).setB (R.SUP_MON_STATUS.BELOW m) below

/-- MON_CROSSING (R152, R153): the comparators judge the voltage at the ball, `mv` millivolts and `uv` microvolts, and
the filter of a raw state that has changed starts or is broken off. -/
def execMonCrossing (n : Fin 64) (mv uv : Nat) (s : State) : Out := .next (
  if s.sys.stage = .released && s.bit (R.SUP_MON_CFG.EN n) then
    let was := s.monOutside n
    let s := s.monCompare n (1000 * mv + uv)
    let now := s.monOutside n
    if now = was && s.runs (T.mon n) then s
    else if now = !s.bit (R.SUP_MON_STATUS.INSIDE n) then s.disarm (T.mon n)
    else s.arm (T.mon n) (s.fld (R.SUP_MON_CFG.FILT n) * 500)
  else s)

/-- An armed monitor leaves its window (R154): counted, FS_32 raised, and the rail fault of the rail that
names it. -/
def State.monViolation (s : State) (m : Nat) : State :=
  let s := s.count B.sup (R.SUP_MON_STATUS.COUNT m) (R.SUP_MON_STATUS.SAT m)
  let above := s.bit (R.SUP_MON_STATUS.ABOVE m)
  match s.monRail m with
  | some r => (s.raiseWith 32 0 1 (s.railPd r)).railFault r (if above then 7 else 6) 0 above
  | none => s.raise 32

/-- MON_FILTER_EXPIRY (R153 to R155, R207): the filtered state takes the raw state, not before the hold of a
check visit ends; during drydown it keeps its value (R317). -/
def execMonFilterExpiry (n : Fin 64) (s : State) : Out := .next (
  match s.expire (T.mon n) with
  | none => s
  | some t =>
    if s.inDrydown then s
    else if t.bit (R.SUP_MON_CFG.EN n) = false then t
    else
      let t := match t.deadline (T.monHold n) with
        | some d => t.notBefore d
        | none => t
      let armed := t.monArmed n
      let out := t.monOutside n
      let t := (t.setB (R.SUP_MON_STATUS.INSIDE n) (!out)).event 59
      (if out && armed then t.monViolation n else t).rstoRefresh)

/-- At t3 the filtered state of every enabled monitor starts as outside (R153). -/
def State.monStart (s : State) : State :=
  (List.range 64).foldl (fun s m =>
    ((s.setB (R.SUP_MON_STATUS.INSIDE m) false).setB (R.SUP_MON_STATUS.ABOVE m) false).setB (R.SUP_MON_STATUS.BELOW m) false) s

/-! ## VIN supervisors (R156) -/

/-- The filters of LOSS and of the window in nanoseconds: LFILT, capped at 5, and WFILT, of which 0 acts as 1. -/
def State.lossFilter (s : State) : Nat := min 5 (s.fld R.SUP_VIN_CFG.LFILT) * 100
def State.windowFilter (s : State) : Nat := max 1 (s.fld R.SUP_VIN_CFG.WFILT) * 10000

/-- VIN_SNS at `mv` millivolts is below, or above, the threshold of code `k`, 62.5 mV each, moved by `hys`
millivolts. -/
def vinBelow (mv k : Nat) (hys : Nat) : Bool := decide (2 * mv < 125 * k + 2 * hys)
def vinAbove (mv k : Nat) (hys : Nat) : Bool := decide (125 * k < 2 * (mv + hys))

/-- VIN_LOSS_SET (R156, R170): with VIN_SNS below the threshold for the filter time; LOSS is a trigger of the power
path, and counts as an excursion from the stable boardnet in every phase (R174). -/
def execVinLossSet (s : State) (mv held : Nat := 0) : Out := .next (
  if !s.baseOn || s.bit R.SUP_VIN_STATUS.LOSS then s
  else if vinBelow mv (s.fld R.SUP_VIN_CFG.LOSS) 0 && decide (s.lossFilter ≤ held) then
    let s := (s.setB R.SUP_VIN_STATUS.LOSS true).excursionChange
    if s.pathOn then s.pathTrigger 1 (s.bit R.PATH_CFG.LOSSEN) else s
  else s)

/-- VIN_LOSS_CLEAR (R156): with VIN_SNS back past the threshold by 250 mV for the filter time. -/
def execVinLossClear (s : State) (mv held : Nat := 0) : Out := .next (
  if s.bit R.SUP_VIN_STATUS.LOSS && !vinBelow mv (s.fld R.SUP_VIN_CFG.LOSS) 250 && decide (s.lossFilter ≤ held)
  then (s.setB R.SUP_VIN_STATUS.LOSS false).excursionChange
  else s)

/-- The STATUS_WORD bits INPUT and VIN_UV_FAULT latch for every loop (Table 14.4). -/
def State.pmVin (s : State) (high : Bool) : State :=
  (List.range 24).foldl (fun s n => s.pmLatch n (if high then 0x2000 else 0x2008)) s

/-- The latches of STATUS_WORD from what the HV die has kept of VIN as the top-note domain comes up (R281). -/
def State.pmVinHeld (s : State) : State :=
  let s := if s.bit R.SUP_VIN_STATUS.LOW then s.pmVin false else s
  if s.bit R.SUP_VIN_STATUS.HIGH then s.pmVin true else s

/-- VIN_SNS lies outside the window's upper, or lower, threshold moved inward by `hys` millivolts. -/
def State.vinOutside (s : State) (high : Bool) (mv hys : Nat) : Bool :=
  if high then vinAbove mv (s.fld R.SUP_VIN_THR.OVT) hys else vinBelow mv (s.fld R.SUP_VIN_THR.UVT) hys

/-- VIN_WINDOW_EXIT (R156): with VIN_SNS outside for the filter time LOW or HIGH is set; an entry from inside raises
FS_34 and counts. -/
def execVinWindowExit (high : Bool) (s : State) (mv held : Nat := 0) : Out := .next (
  let f := if high then R.SUP_VIN_STATUS.HIGH else R.SUP_VIN_STATUS.LOW
  if !s.baseOn || s.bit f || !s.vinOutside high mv 0 ||
    decide (held < s.windowFilter) then s
  else
    let inside := !s.bit R.SUP_VIN_STATUS.HIGH && !s.bit R.SUP_VIN_STATUS.LOW
    let s := s.setB f true
    if s.topOn then
      let s := (s.pmVin high).event 61
      if inside then (s.count B.sup R.SUP_VIN_STATUS.COUNT R.SUP_VIN_STATUS.SAT).raise 34 else s
    else s)

/-- VIN_WINDOW_RETURN (R156): with VIN_SNS back past the threshold by 250 mV for the filter time. -/
def execVinWindowReturn (high : Bool) (s : State) (mv held : Nat := 0) : Out := .next (
  let f := if high then R.SUP_VIN_STATUS.HIGH else R.SUP_VIN_STATUS.LOW
  if s.bit f && !s.vinOutside high mv 250 && decide (s.windowFilter ≤ held) then
    let s := s.setB f false
    if s.topOn then s.event 61 else s
  else s)

/-! ## Release and the safe state -/

/-- At t3 each enabled reset output is judged, its release delay counted from t3; a disabled one is released;
then the watchdog is armed (R157, R159, R165). -/
def State.supStart (s : State) : State :=
  let s := s.monStart
  let s := (List.range 8).foldl (fun s n =>
    if s.bit (R.SUP_RSTO_CFG.EN n) then (s.setB (R.SUP_RSTO_STATUS.LOW n) true).rstoFollow n else s.rstoFree n) s
  s.wdArm

/-- The safe sequence sets the reset outputs, which then stay (R159, R219 step 4), and stops the watchdog. -/
def State.supSafe (s : State) : State :=
  let lv := s.fld R.FLT_SAFE_RSTO.ASSERT
  let s := (List.range 8).foldl (fun s n =>
    ((((s.setB (R.SUP_RSTO_STATUS.LOW n) (lv.testBit n)).setB (R.SUP_RSTO_STATUS.DELAY n) false).setF
      (R.SUP_RSTO_STATUS.ACT n) 0).disarm (T.rstoMin n)).disarm (T.rstoRel n)) s
  s.wdStop

end Sys2Proof.Machine
end

