-- ==== Sys2Proof/Machine/Accord.lean ====
section
/-! DEFINITION.  The Accord's load, live parameters and staged verification (spec/01). -/

namespace Sys2Proof.Machine

/-- The state with the loader's row changed. -/
def State.updAcrd (s : State) (f : AcrdState → AcrdState) : State := { s with acrd := f s.acrd }

/-! ## Live parameters (R19, R21 to R25) -/

/-- The parameters of the running image. -/
def State.params (s : State) : List Param := match s.acrd.image with | some im => im.params | none => []

/-- The parameter of an identifier. -/
def State.param (s : State) (id : Nat) : Option Param := s.params.find? (fun p => p.id = id)

/-- The word of a register with what waits for a compensator update of its loop (R87). -/
def State.pendWord (s : State) (k : Nat) : Word :=
  if loopKey k then
    ((s.loop ((k - 0x40010000) / 0x400)).pend.filter (fun e => e.1 = k)).foldl
      (fun w e => (w &&& ~~~e.2.1) ||| (e.2.2 &&& e.2.1)) (s.reg k)
  else s.reg k

/-- The present value of a parameter: its field, sign-extended when SIGNED, or its word in the parameter file (R19). -/
def State.paramValue (s : State) (p : Param) : Word :=
  if p.target = 0 then s.acrd.paramFile.at 0#32 p.id
  else
    let v := (s.pendWord p.target).field p.lsb p.width
    if p.flag 0 then BitVec.ofInt 32 (signedOf p.width v) else BitVec.ofNat 32 v

/-- The state with a parameter's field or file word holding a value (R19). -/
def State.putParam (s : State) (p : Param) (v : Word) : State :=
  if p.target = 0 then s.updAcrd (fun a => { a with paramFile := a.paramFile.put 0#32 p.id v })
  else
    let old := s.reg p.target
    s.setReg p.target (keepOfs p.target old (old.setField p.lsb p.width v.toNat))

/-- The journal after an accepted write (R24). -/
def journalNext (j : List Byte) (id : Nat) (v : Word) : List Byte := sha256 (j ++ leBytes 2 id ++ leBytes 4 v.toNat)

/-- The Accord digest of an image and a journal (R24). -/
def digestOf (hash journal : List Byte) : BitVec 64 := BitVec.ofNat 64 (bytesLE ((sha256 (hash ++ journal)).take 8))

/-- ACRD_DIGEST shows the digest of the running image and journal; the factory default has its own (R15, R24). -/
def State.showDigest (s : State) : State :=
  s.setPair R.ACRD_DIGEST_LO.reg R.ACRD_DIGEST_HI.reg (match s.acrd.image with
    | some im => digestOf im.hash s.acrd.journal
    | none => Config.romDigest)

/-- The stored value of a parameter: its page readable and not empty, its presence bit set (R23). -/
def State.storedParam (s : State) (id : Nat) : Option Word :=
  let p := paramPage id
  let l := s.pageBytes p
  if s.pageReadable p && !allZero l && (bytesAt l 56 2).testBit (id % 14)
  then some (BitVec.ofNat 32 (bytesAt l (4 * (id % 14)) 4)) else none

/-- Whether a value lies within a parameter's bounds (R21). -/
def Param.within (p : Param) (v : Word) : Bool :=
  decide (wordInt (p.flag 0) p.min ≤ wordInt (p.flag 0) v) && decide (wordInt (p.flag 0) v ≤ wordInt (p.flag 0) p.max)

/-- The values the loader replays for a list of parameters, in ascending identifier (R25). -/
def State.replayList (s : State) (l : List Param) : List (Nat × Word) :=
  l.filterMap (fun p =>
    match s.storedParam p.id with
    | some v => if v ≠ p.dflt && p.within v then some (p.id, v) else none
    | none => none)

/-- The journal of a list of replayed values (R24, R25). -/
def replayJournal (l : List (Nat × Word)) : List Byte :=
  l.foldl (fun j e => journalNext j e.1 e.2) (List.replicate 32 0#8)

/-- The parameters' defaults, then the replayed values, reach their fields and the parameter file (R19, R25). -/
def State.applyParams (s : State) (l : List Param) (vals : List (Nat × Word)) : State :=
  let s := l.foldl (fun s p => s.putParam p p.dflt) s
  l.foldl (fun s p => match vals.find? (fun e => e.1 = p.id) with
    | some e => s.putParam p e.2
    | none => s) s

/-- The journal counter after `k` writes of a replay (R25). -/
def State.showJournal (s : State) (k : Nat) : State := (s.setReg R.ACRD_JOURNAL.reg 0#32).setF R.ACRD_JOURNAL.COUNT k

/-- The result code of a parameter write (R21, Table 1.12). -/
def State.paramJudge (s : State) (r : Req) (id : Nat) (v : Word) (persist : Bool) : Nat :=
  if s.sys.stage ≠ .released || s.sys.phase = .safe || s.acrd.defaults then 7
  else if s.bit R.ACRD_STATUS.SWITCH_PEND || s.acrd.switching then 6
  else
    match s.param id with
    | none => 1
    | some p =>
      let own := match r with | .engine _ => p.flag 2 | _ => p.flag 1
      if !p.within v then 2
      else if !own then 3
      else if s.fld R.SYS_STATUS.LC = 3 && !p.flag 3 then 4
      else if persist && !p.flag 4 then 5
      else 0

/-- What a write of a loop register sets off at once (R68, R113): a changed coefficient abandons the loop's burst, and
one written is loaded at its next compensator update. -/
def State.loopEffect (s : State) (k : Nat) (changed : Bool) : State :=
  let n := (k - 0x40010000) / 0x400
  let o := k % 0x400
  let s := if 0x1C ≤ o ∧ o ≤ 0x30 ∧ changed then s.surveyAbandon n else s
  if o = 0x1C ∨ o = 0x20 ∨ o = 0x24 then
    s.updLoop n (fun x => { x with coefReload := x.coefReload ||| 2 ^ ((o - 0x1C) / 4) })
  else s

/-- What a change of a configuration register sets off at once, beyond what its block reads at its next use (R68,
R113, R130, R168, R171, R196, R202, R209): `old` is the register before the change. -/
def State.liveEffect (s : State) (k : Nat) (old : Word) : State :=
  if s.sys.stage ≠ .released then s
  else if loopKey k then s.loopEffect k (decide (s.reg k ≠ old))
  else if 0x40030000 ≤ k ∧ k < 0x40040000 then
    let r := (k - 0x40030000) / 0x100
    (if r < 64 ∧ k = R.SEQ_RAIL_QUAL.reg r then s.chatFresh r else s).showRanks
  else if 0x40050000 ≤ k ∧ k < 0x40060000 then
    let c := (k - 0x40050000) / 16
    let s := if c < 256 ∧ k = R.MEAS_CH_SCALE.reg c ∧ s.reg k ≠ old then s.scaleChange c else s
    let s := if k = R.MEAS_Q_CFG.reg ∧ (s.reg k ^^^ old) &&& 0x400001FF#32 ≠ 0#32 then s.emptyQueue else s
    s.wakeConvs
  else if 0x40040000 ≤ k ∧ k < 0x40050000 then s.supFollow
  else if 0x40060000 ≤ k ∧ k < 0x40070000 then s.chgFollow.showCaps.pathRefresh
  else s

/-- A parameter's field takes a value while the device runs: that of a loop register at the loop's next compensator
update (R87), any other at once. -/
def State.putLive (s : State) (p : Param) (v : Word) : State :=
  if p.target = 0 then s.putParam p v
  else if loopKey p.target then
    let old := s.pendWord p.target
    let new := keepOfs p.target old (old.setField p.lsb p.width v.toNat)
    let s := s.updLoop ((p.target - 0x40010000) / 0x400) (fun x => { x with
      pend := x.pend ++ [(p.target, Word.setField 0#32 p.lsb p.width 0xFFFFFFFF, new)] })
    s.loopEffect p.target (decide (new ≠ old))
  else
    let old := s.reg p.target
    (s.putParam p v).liveEffect p.target old

/-- An accepted parameter write: journal, digest, the value in use, and the Ledger where it is to persist (R21 to R24);
the MANAGER's own entry follows with AUTOEXP (R304). -/
def State.paramAccept (s : State) (r : Req) (p : Param) (v : Word) (persist : Bool) : State :=
  let s := (s.updAcrd (fun a => { a with journal := journalNext a.journal p.id v })).showDigest
  let s := s.count B.acrd R.ACRD_JOURNAL.COUNT R.ACRD_JOURNAL.SAT
  let s := if p.flag 5 then s else s.putLive p v
  let dev := s.fld R.LINK_ID.DEV
  let s := if s.bit R.LINK_CFG.MGR && s.bit R.LINK_CFG.AUTOEXP && decide (dev < 64)
    then s.setPair (R.LINK_EXP_LO.reg dev) (R.LINK_EXP_HI.reg dev) (s.pair R.ACRD_DIGEST_LO.reg R.ACRD_DIGEST_HI.reg) else s
  if persist then (s.ledgSubmit ⟨.param p.id v, paramPage p.id, 0, [], reqCode r, false⟩).2 else s

/-- A parameter write: its result code, and what it does (R21). -/
def State.paramWrite (s : State) (r : Req) (id : Nat) (v : Word) (persist : Bool) : Nat × State :=
  let c := s.paramJudge r id v persist
  match s.param id with
  | some p => (c, if c = 0 then s.paramAccept r p v persist else s)
  | none => (c, s)

/-- A parameter command of a requester is done: its status copy, and its engine's source LS_161. -/
def State.paramDone (s : State) (r : Req) (code : Nat) : State :=
  let q := reqCode r
  let s := (s.setB (R.ACRD_PARAM_STAT.DONE q) true).setF (R.ACRD_PARAM_STAT.RESULT q) code
  match r with
  | .engine e => s.localSource e 161
  | _ => s

/-- A write command of the parameter registers or of the host command 0xE0. -/
def State.paramCommand (s : State) (r : Req) (id : Nat) (v : Word) (persist : Bool) : State :=
  let s := s.setReg (R.ACRD_PARAM_VAL.reg (reqCode r)) v
  let x := s.paramWrite r id v persist
  x.2.paramDone r x.1

/-- PARAM_WRITE over the two-wire bus (R282): ID, value and the persist bit. -/
def State.busParam (s : State) (m : BusMsg) : State :=
  s.busSend m 0xE0 7 (fun s l => some (s.paramCommand .hostBus (bytesAt l 0 2) (BitVec.ofNat 32 (bytesAt l 2 4))
    (decide (bytesAt l 6 1 % 2 = 1))))

/-- PARAM_WRITE (R21 to R24). -/
def execParamWrite (r : Req) (id : BitVec 12) (value : Word) (persist : Bool) (s : State) (m : Option BusMsg := none) :
    Out := .next (
  sentAs r m s.busParam
    (if s.may r 0x400D0034 true (some 0xE0) then (s.paramCommand r id.toNat value persist).hostWrite r 0xE0 id.toNat
    else s.denied r true))

/-- A read command: the present value, or the default, reaches the requester's value register (R19). -/
def State.paramFetch (s : State) (r : Req) (id : Nat) (dflt : Bool) : State :=
  if s.sys.stage ≠ .released || s.acrd.defaults then s.paramDone r 7
  else
    match s.param id with
    | none => s.paramDone r 1
    | some p => (s.setReg (R.ACRD_PARAM_VAL.reg (reqCode r)) (if dflt then p.dflt else s.paramValue p)).paramDone r 0

/-- PARAM_READ (R19). -/
def execParamRead (r : Req) (id : BitVec 12) (s : State) : Out := .next (
  if s.may r 0x400D0034 true none then (s.paramFetch r id.toNat false).hostWrite r 0xD1 id.toNat else s.denied r true)

/-- PARAM_READ_DEFAULT (R19). -/
def execParamReadDefault (r : Req) (id : BitVec 12) (s : State) : Out := .next (
  if s.may r 0x400D0034 true none then (s.paramFetch r id.toNat true).hostWrite r 0xD1 id.toNat else s.denied r true)

/-! ## The load of a start (R13, R14, R25, Table 1.7) -/

/-- After a passing drydown record, the commit that marks it used has ended (R319). -/
def State.usedStored (s : State) : Bool :=
  s.fld R.BIST_START.WHY ≠ 0 || (s.ledg.running.isEmpty && !s.ledg.again)

/-- ACCORD_LOAD_START (R14, R41, R319, Table 3.3): at t7, with no start-up self-test left to run; with FT_0 to FT_3 set in
FACTORY or RETURN the device stays in start. -/
def execAccordLoadStart (s : State) : Out := .next (
  let factory := s.fld R.SYS_STATUS.LC = 1 || s.fld R.SYS_STATUS.LC = 4
  if s.sys.phase = .start && s.sys.stage = .t6 && !s.sys.selfTest && s.usedStored && !(factory && s.sys.ft ≠ 0)
  then { s with sys := { s.sys with stage := .t7 } }.arm T.load 4970000 else s)

/-- The value bits of the selector record select IMG_B (R14). -/
def State.selectsB (s : State) : Bool :=
  match s.recStored 0 with
  | some (v, _, _) => v.toNat % 4 = 2
  | none => false

/-- The bank to load: the selected one if it passes, else the other if it passes (R14). -/
def chooseBank (sel : Bool) (causeA causeB : Nat) : Option Bool :=
  let ok := fun (b : Bool) => (if b then causeB else causeA) == 0
  if ok sel then some sel else if ok (!sel) then some (!sel) else none

/-- Whether a bank fails: causes 2 to 7, or 1 without being blank (R14). -/
def bankFails (cause : Nat) (blank : Bool) : Bool := decide (2 ≤ cause) || (cause == 1 && !blank)

/-- What the load found of both banks: the causes, and the bank to load (R14). -/
def State.takeJudgement (s : State) (a b : Nat) (blA blB : Bool) : State :=
  let bank := chooseBank s.acrd.selB a b
  let s := if bankFails a blA || bankFails b blB then s.raise 52 else s
  let im := bank.map (fun x => imageOf (s.bankImage x))
  let s := s.updAcrd (fun r => { r with
    causeA := a, causeB := b, blankA := blA, blankB := blB, fallback := bank == some (!r.selB),
    active := bank, image := im, defaults := bank.isNone })
  let s := { s with sys := { s.sys with stage := .judged } }
  s.arm T.config (if bank.isSome then 2941440 else 0)

/-- BANKS_JUDGED (R13, R14): the causes, FS_52 for a failing bank, and the bank to load. -/
def execBanksJudged (s : State) : Out := .next (
  if s.sys.stage ≠ .t7 then s
  else
    match s.expire T.load with
    | none => s
    | some s =>
      let a := s.judgeBank false
      let b := a.2.judgeBank true
      b.2.takeJudgement a.1 b.1 (blankImage (s.bankImage false)) (blankImage (s.bankImage true)))

/-- The pages of stored parameters are read (R23, R25). -/
def State.readParamPages (s : State) : State := (List.range 293).foldl (fun s i => s.touchPage (256 + i)) s

/-- FABRIC_CONFIGURED (R12, R14, R25, R244): every tile configured with its safe values, the engines filled, and the
stored parameters replayed. -/
def execFabricConfigured (s : State) : Out := .next (
  if s.sys.stage ≠ .judged then s
  else
    match s.expire T.config with
    | none => s
    | some s =>
      let s := (match s.acrd.image with
        | some im =>
          let s := s.readParamPages
          let vals := s.replayList im.params
          (s.updAcrd (fun r => { r with replayed := vals, journal := replayJournal vals })).loadEngines im.engines
        | none => s)
      let s := s.updAcrd (fun r => { r with
        tiles := [], act := 0, heldAct := 0, safe := match r.image with | some im => im.safe | none => [] })
      { s with sys := { s.sys with stage := .configured } }.arm T.release 0)

/-- ACRD_PFAIL marks the parameter pages that are neither empty nor readable (R23). -/
def State.showPfail (s : State) : State :=
  (List.range 293).foldl (fun s i =>
    if s.pageReadable (256 + i) || (allZero (s.pageBytes (256 + i)) && !s.pagePoisoned (256 + i)) then s
    else s.setBitAt R.ACRD_PFAIL.reg i true) s

/-- ACRD_VERSION, ACRD_SVN, ACRD_TOPO and ACRD_BOUND of the running image, and the floor, which a read shows as the
Ledger then holds it (DESIGN CHOICE, log entry 140). -/
def State.showImage (s : State) : State :=
  let s := s.setF R.ACRD_SVN.FLOOR s.svnFloor
  match s.acrd.image with
  | some im =>
    ((((s.setReg R.ACRD_VERSION.reg im.version).setF R.ACRD_SVN.SVN im.svn).setF R.ACRD_BOUND.BOUND_NS im.bound).setPair
      R.ACRD_TOPO_LO.reg R.ACRD_TOPO_HI.reg im.topo)
  | none =>
    ((((s.setReg R.ACRD_VERSION.reg (Config.romWord 0)).setF R.ACRD_SVN.SVN (Config.romWord 1).toNat).setF
      R.ACRD_BOUND.BOUND_NS (Config.romWord 2).toNat).setReg R.ACRD_TOPO_LO.reg (Config.romWord 3)).setReg
      R.ACRD_TOPO_HI.reg (Config.romWord 4)

/-- ACRD_STATUS.ACTIVE of the active bank. -/
def activeCode (b : Option Bool) : Nat := match b with | some true => 2 | some false => 1 | none => 0

/-- The probe period in nanoseconds. -/
def State.pperNs (s : State) : Nat := min 10000 (max 10 (s.fld R.LINK_CFG.PPER)) * 1000000

/-- The probe period that a MANAGER's HIERARCHY section gives (Table 15.2). -/
def State.loadPeriod (s : State) (im : Image) : State :=
  if im.role = 1 then s.setF R.LINK_CFG.PPER (bytesAt im.hier 0 2) else s

/-- The role, and at a MANAGER its number, the expected digests and the epoch that the header and HIERARCHY section
give (R292, R293, R303, R304). -/
def State.loadHierarchy (s : State) (im : Image) : State :=
  let s := s.setB R.LINK_CFG.MGR (im.role = 1)
  if im.role = 1 then
    let s := s.loadPeriod im
    let s := (s.setF R.LINK_ID.DEV (if im.devPin = 0xFF then 0 else im.devPin)).setF R.LINK_ID.DEPTH 0
    let s := ((s.setB R.LINK_ID.JOINED true).setB R.LINK_ID.PINNED (im.devPin ≠ 0xFF)).arm T.probeTick s.pperNs
    (List.range 64).foldl (fun s d => s.setPair (R.LINK_EXP_LO.reg d) (R.LINK_EXP_HI.reg d)
      (BitVec.ofNat 64 (bytesAt im.hier (8 + 16 * d) 8))) (s.setReg R.LINK_EPOCH.reg (BitVec.ofNat 32 (bytesAt im.hier 4 4)))
  else s

/-- Every loop takes its initial target and its commissioned coefficients, and its phases are ready (R68, R93, R332). -/
def State.loadLoops (s : State) : State :=
  ((List.range 24).foldl (fun s n =>
    (s.loadCoefs n).setF (R.LOOP_VREF.TARGET n) (s.fld (R.LOOP_VSET.TARGET n))) s).readyPhases

/-- At t3 the loader's results show, and the registers take the image's values with the replayed parameters (R19,
R20, R25). -/
def State.loadImage (s : State) : State :=
  let a := s.acrd
  let s := ((s.setF R.ACRD_STATUS.CAUSE_A a.causeA).setF R.ACRD_STATUS.CAUSE_B a.causeB).setB R.ACRD_STATUS.BLANK_A a.blankA
  let s := (s.setB R.ACRD_STATUS.BLANK_B a.blankB).setB R.ACRD_STATUS.FALLBACK a.fallback
  let s := (s.setB R.ACRD_STATUS.DEFAULTS_IN_USE a.defaults).setB R.ACRD_STATUS.LOADED true
  let s := (s.setF R.ACRD_STATUS.ACTIVE (activeCode a.active)).setB R.SYS_STATUS.DEFAULTS_IN_USE a.defaults
  match a.image with
  | none => s.showImage.showDigest
  | some im =>
    let s := ((s.loadRegs loadMask im.regs).applyParams im.params a.replayed).loadHierarchy im
    (s.loadLoops.showPfail.showImage.showJournal a.replayed.length).showDigest

/-- The running image's RAISE_FLOOR raises the stored floor in COMMISSION and FIELD, with a commit at once (R331). -/
def State.raiseFloor (s : State) : State :=
  let lc := s.fld R.SYS_STATUS.LC
  match s.acrd.image with
  | some im =>
    if (lc = 2 || lc = 3) && im.flags.testBit 1 && decide (s.svnFloor < im.svn)
    then (s.deviceRecord 1 (BitVec.ofNat 64 im.svn)).requestCommit else s
  | none => s

/-! ## Staged verification (R29) -/

/-- The bank a loader command acts on (R29): the inactive one, or the one BANK names under the factory default; none
while a scheduled switch takes the inactive bank into use (DESIGN CHOICE, log entry 179). -/
def State.commandBank (s : State) (bank : Bool) : Option Bool :=
  if s.acrd.defaults then some bank else if s.acrd.switching then none else s.acrd.active.map (fun a => !a)

/-- VERIFY_STAGED begins; one that runs is replaced, and the 5 ms start anew (DESIGN CHOICE, log entry 180). -/
def State.verifyStaged (s : State) (bank : Bool) : State :=
  match s.commandBank bank with
  | none => s
  | some b => (s.updAcrd (fun r => { r with verifying := some b })).arm T.verify 5000000

/-- VERIFY_STAGED (R29). -/
def execVerifyStaged (r : Req) (bank : Bool) (s : State) : Out := .next (
  if s.may r R.ACRD_CTRL.reg true none then (s.verifyStaged bank).hostWrite r 0xD1 (1 + 16 * bank.toNat) else s.denied r true)

/-- Staged verification finishes: VCAUSE and VDONE, and on a pass the shadow registers and STAGED_OK. -/
def State.verifyDone (s : State) (b : Bool) : State :=
  let x := s.judgeBank b
  let s := (x.2.setF R.ACRD_STATUS.VCAUSE x.1).setB R.ACRD_STATUS.VDONE true
  let s := s.setB R.ACRD_STATUS.STAGED_OK (x.1 = 0)
  let s := s.updAcrd (fun r => { r with
    verifying := none, stagedBank := some b,
    staged := if x.1 = 0 && !r.defaults then some (imageOf (s.bankImage b)) else none })
  s.event 67

/-- The bank selector rewritten to a bank (R14). -/
def State.writeSelector (s : State) (b : Bool) : State := s.deviceRecord 0 (if b then 2#64 else 1#64)

/-- SELECT_STAGED: only while STAGED_OK is 1, and under the factory default only for the bank last verified. -/
def State.selectStaged (s : State) (bank : Bool) : State :=
  if s.bit R.ACRD_STATUS.STAGED_OK && (!s.acrd.defaults || s.acrd.stagedBank = some bank) then
    match s.acrd.stagedBank with
    | some b => s.writeSelector b
    | none => s
  else s

/-- SELECT_STAGED (R29). -/
def execSelectStaged (r : Req) (bank : Bool) (s : State) : Out := .next (
  if s.may r R.ACRD_CTRL.reg true none then (s.selectStaged bank).hostWrite r 0xD1 (2 + 16 * bank.toNat) else s.denied r true)

end Sys2Proof.Machine
end

