-- ==== Sys2Proof/Machine/LoopEvents.lean ====
section
/-! DEFINITION.  The commands of the loops and phase ports (spec/04, spec/05), and of PLL_P, which clocks them. -/

namespace Sys2Proof.Machine

/-! ## Set-points, ticks, telemetry -/

/-- The set-point source of a requester; the hierarchy link is none (R76). -/
def srcOf : Req → Option Src
  | .engine e => some (.engine e)
  | .hostBus => some .hostBus
  | .quad => some .quad
  | .link => none

/-- A write of LOOP_VSET is one set-point command (R73, R76). -/
def State.writeVset (s : State) (r : Req) (n : Nat) (w : Word) : State :=
  match srcOf r with
  | some src =>
    let rate := w.field 16 10
    (s.setF (R.LOOP_VSET.RATE n) rate).setpoint n src (w.field 0 16) rate
  | none => s

/-- SETPOINT_COMMAND (R73). -/
def execSetpointCommand (r : Req) (n : Fin 24) (w : Word) (s : State) : Out := .next (
  if s.may r (R.LOOP_VSET.reg n) true (some 0x21) then (s.writeVset r n w).hostWrite r 0x21 w.toNat else s.denied r true)

/-- SLEW_TICK (R74). -/
def execSlewTick (n : Fin 24) (s : State) : Out := .next (s.slewTick n)

/-- COMPENSATOR_UPDATE (R66). -/
def execCompensatorUpdate (n : Fin 24) (errs : List Int) (s : State) : Out := .next (s.compUpdate n errs)

/-- TELEMETRY_UPDATE (R90, R114, R126, R137). -/
def execTelemetryUpdate (n : Fin 24) (errs : List Int) (s : State) : Out := .next (
  (((s.telemetry n errs).watchSurvey n).watchForecast n).inrushUpdate n)

/-- PG_MASK_END (R79). -/
def execPgMaskEnd (n : Fin 24) (s : State) : Out := .next (
  match s.expire (T.pgMask n) with
  | some s => s.endMask n
  | none => s)

/-! ## Protection -/

/-- Loop `n` enters FAULT with a cause, and its rail has a fault; a loop already there only records (R85, R139). -/
def State.enterFault (s : State) (n c : Nat) : State :=
  let was := s.lstate n = L.fault
  let s := s.loopFault n c
  if was then s else s.loopRailFault n false

/-- Whether the output of loop `n` at `uv` microvolts lies over the absolute ceiling, or over the threshold (R82). -/
def State.overVoltage (s : State) (n : Nat) (ceiling : Bool) (uv : Nat) : Bool :=
  if ceiling then decide (s.fld (R.LOOP_OVABS.VABS n) * 1000000 < uv * 4096) else decide (s.ovThreshold n < uv)

/-- LOOP_OVERVOLTAGE (R82): armed in every state but OFF; the output at `uv` microvolts for `held` ns past the
comparator's response. -/
def execLoopOvervoltage (n : Fin 24) (ceiling : Bool) (s : State) (uv held : Nat := 0) : Out := .next (
  if s.lstate n ≠ L.off && s.overVoltage n ceiling uv && decide (s.fld (R.LOOP_PROT.OVF n) * 25 ≤ held)
  then (s.loopOv n ceiling).loopRailFault n true else s)

/-- LOOP_OV_CLEAR (R82): the output at `uv` microvolts is below the target, and the phases held low go to mid. -/
def execLoopOvClear (n : Fin 24) (s : State) (uv : Nat := 0) : Out := .next (
  if uv * 4096 < s.target n * 1000000 then s.updLoop n (fun x => { x with ovLow := false }) else s)

/-- LOOP_UNDERVOLTAGE (R83): once armed; the output at `uv` microvolts for `held` ns. -/
def execLoopUndervoltage (n : Fin 24) (s : State) (uv held : Nat := 0) : Out := .next (
  if (s.loop n).uvArmed && (s.regulating n || s.lstate n = L.nl) && decide ((uv : Int) < s.uvThreshold n) &&
      decide (min 1000 (max 1 (s.fld (R.LOOP_TIME.TUV n))) * 1000 ≤ held)
  then s.enterFault n 3 else s)

/-- LOOP_OC_FAULT (R84). -/
def execLoopOcFault (n : Fin 24) (s : State) : Out := .next (
  match s.expire (T.ilf n) with
  | some s => if s.bit (R.LOOP_STATUS.ILIM n) then s.enterFault n 4 else s
  | none => s)

/-- A threshold of the nonlinear path in steps of 0.25 mV. -/
def State.nlThreshold (s : State) (n : Nat) (under : Bool) : Int :=
  (4 * max 4 (if under then s.fld (R.LOOP_NL.TH_U n) else s.fld (R.LOOP_NL.TH_O n)) : Nat)

/-- Whether the last CNT + 1 of these error words lie beyond the undershoot threshold, or the overshoot one (R69). -/
def State.nlCrossed (s : State) (n : Nat) (under : Bool) (errs : List Int) : Bool :=
  let k := s.fld (R.LOOP_NL.CNT n) + 1
  let th := s.nlThreshold n under
  decide (k ≤ errs.length) && (errs.reverse.take k).all (fun e =>
    if under then decide (th < (errorWord e).1) else decide ((errorWord e).1 < -th))

/-- A running loop enters the nonlinear state (R69, R89), whatever it does; its shed phases are driven with the others at
once and take positions when interleaved switching resumes. -/
def State.enterNl (s : State) (n : Nat) (under : Bool) : State :=
  let base := s.lstate n
  let s := ((s.restoreShed n).activateShed n).showPhases n
  let s := s.updLoop n (fun x => { x with nlFrom := some base, nlUnder := under })
  let s := (s.active n).foldl (fun s p => s.updPhase p (fun x => { x with cut := none })) s
  let s := s.setF (R.LOOP_STATUS.STATE n) L.nl
  let s := if under then s.count B.loop (R.LOOP_NL_CNT.UNDER n) (R.LOOP_NL_CNT.SAT_U n)
    else s.count B.loop (R.LOOP_NL_CNT.OVER n) (R.LOOP_NL_CNT.SAT_O n)
  s.arm (T.nlMax n) (max 1 (s.fld (R.LOOP_NL.TMAX n)) * 10)

/-- NL_ENTRY (R69): the latest error words, in steps of 0.25 mV. -/
def execNlEntry (n : Fin 24) (errs : List Int) (s : State) : Out := .next (
  let held := match s.deadline (T.nlHold n) with
    | some d => decide (s.ns < d)
    | none => false
  if s.bit (R.LOOP_NL.EN n) && (s.regulating n || s.lstate n = L.start || s.lstate n = L.stop) && !held && !(s.loop n).clkHeld then
    if s.nlCrossed n true errs then s.enterNl n true
    else if s.nlCrossed n false errs then s.enterNl n false else s
  else s)

/-- NL_EXIT (R69): the error back within half the entering threshold, or TMAX over. -/
def execNlExit (n : Fin 24) (s : State) (err : Int := 0) : Out := .next (
  let under := (s.loop n).nlUnder
  let e := (errorWord err).1
  if 2 * (if under then e else -e) ≤ s.nlThreshold n under then s.endNl n
  else match s.expire (T.nlMax n) with
    | some s => s.endNl n
    | none => s)

/-! ## Shedding, re-spacing, lock -/

/-- PHASE_SHED (R89): the highest-numbered active slot. -/
def execPhaseShed (n : Fin 24) (s : State) : Out := .next (
  if s.bit (R.LOOP_SHED.EN n) && s.lstate n = L.reg && max 1 (s.fld (R.LOOP_SHED.NMIN n)) < (s.active n).length then
    match s.expire (T.shed n), (s.active n).getLast? with
    | some s, some p =>
      let s := (s.setF (R.PH_STATUS.STATE p) 3).setF (R.PH_STATUS.POS p) 0x1F
      let s := s.updPhase p (fun x => { x with cut := none })
      let s := s.updLoop n (fun x => { x with respace := true })
      (s.surveyAbandon n).showPhases n
    | _, _ => s
  else s)

/-- RESPACING (R95): the position-0 edge after a change of the active set. -/
def execRespacing (n : Fin 24) (s : State) : Out := .next (
  if (s.loop n).respace && s.lstate n ≠ L.nl && s.lstate n ≠ L.off && s.lstate n ≠ L.fault then s.respace n else s)

/-- LOCK_TAKE (R76). -/
def execLockTake (src : Src) (n : Fin 24) (s : State) : Out := .next (s.takeLock n src)

/-- LOCK_RELEASE (R78). -/
def execLockRelease (src : Src) (n : Fin 24) (s : State) : Out := .next (s.releaseLock n src)

/-- LOCK_TIMEOUT (R78). -/
def execLockTimeout (n : Fin 24) (s : State) : Out := .next (
  match s.expire (T.lock n) with
  | some s => s.freeLock n
  | none => s)

/-! ## Sync reference (R71) -/

/-- SYNC_IN_LOST (R71): the reference runs on at its last period. -/
def execSyncInLost (s : State) : Out := .next (
  if s.bit R.LOOP_REF_CFG.SRC then
    ((s.setB R.LOOP_REF_STATUS.LOST true).setB R.LOOP_REF_STATUS.LOCKED false).event 50
  else s)

/-- SYNC_IN_EDGE (R71): an edge whose period lies within ±10 % of PER moves the reference by at most 0.5 %. -/
def execSyncInEdge (period : Nat) (s : State) : Out := .next (
  let per := s.cfgPeriod
  if s.bit R.LOOP_REF_CFG.SRC && 9 * per ≤ 10 * period && 10 * period ≤ 11 * per then
    let now := s.refPeriod
    let s := (s.setF R.LOOP_REF_STATUS.PER (stepToward now period (now / 200))).setB R.LOOP_REF_STATUS.LOCKED true
    (List.range 24).foldl State.reposition s
  else s)

/-! ## Phase ports -/

/-- The limits of phase `p` in 10 mA (R98). -/
def State.posLimit (s : State) (p : Nat) : Int := (min 1000 (max 1 (s.fld (R.PH_ILIM.LIM p))) * 10 : Nat)
def State.negLimit (s : State) (p : Nat) : Int := (min 1000 (max 1 (s.fld (R.PH_ILIM.NEG p))) * 10 : Nat)

/-- Whether phase `p` is driven by the undershoot of its loop's nonlinear state. -/
def State.nlHigh (s : State) (p : Nat) : Bool :=
  s.lstate (s.fld (R.PH_CFG.LOOP p)) = L.nl && (s.loop (s.fld (R.PH_CFG.LOOP p))).nlUnder

/-- PHASE_POS_LIMIT (R98): the current, in 10 mA, reaches the limit: low for the rest of the cycle, or for MINOFF in
the nonlinear state; the comparator of a sense-suspect phase is disabled (R107). -/
def execPhasePosLimit (p : Fin 48) (s : State) (cur : Int := 0) : Out := .next (
  if s.phaseActive p && !(s.phase p).taken && decide (s.posLimit p ≤ cur) then
    let s := if s.nlHigh p then s.arm (T.nlLow p) (s.fld (R.PH_TIME.MINOFF p) * 5)
      else s.updPhase p (fun x => { x with cut := some .low })
    (s.updPhase p (fun x => { x with ocp := true })).count B.phase (R.PH_OCCNT.POS p) (R.PH_OCCNT.SAT_P p)
  else s)

/-- PHASE_NEG_LIMIT (R88, R98): the current, in 10 mA, falls below the negative limit, or in diode emulation to ZCD:
mid for the rest of the cycle. -/
def execPhaseNegLimit (p : Fin 48) (s : State) (cur : Int := 0) : Out := .next (
  let n := s.fld (R.PH_CFG.LOOP p)
  if !s.phaseActive p || s.nlHigh p then s
  else if !(s.phase p).taken && decide (cur < -s.negLimit p) then
    (s.updPhase p (fun x => { x with ocn := true, cut := some .mid })).count B.phase (R.PH_OCCNT.NEG p) (R.PH_OCCNT.SAT_N p)
  else if s.bit (R.LOOP_STATUS.DE n) && decide (cur ≤ (s.fld (R.LOOP_DE.ZCD n) * 10 : Nat)) then
    s.updPhase p (fun x => { x with cut := some .mid })
  else s)

/-- Phase `p` is lost, and its loop enters FAULT when too few healthy phases remain (R105). -/
def State.phaseLoss (s : State) (p c : Nat) : State :=
  if s.phaseOn p && !s.lost p then
    let n := s.fld (R.PH_CFG.LOOP p)
    let s := s.losePhase p c
    if s.tooFew n then s.enterFault n 5 else s
  else s

/-- PHASE_OPEN (R104). -/
def execPhaseOpen (p : Fin 48) (s : State) : Out := .next (
  if s.phaseActive p && s.fld (R.PH_STATUS.OPENCNT p) = 64 then s.phaseLoss p 1 else s)

/-- PHASE_STAGE_FAULT (R103): the TMF comparator of an assigned phase has read low, or high again, for longer than the
filter; during the start blank a low TMF only keeps the phase at mid, and slice PH_IN holds the line (R314). -/
def execPhaseStageFault (p : Fin 48) (s : State) (low : Bool := true) (held : Nat := 0) : Out := .next (
  if s.phaseOn p && !s.sliceOn 7 p && decide (s.fld (R.PH_TMF.SFF p) * 50 < held) then
    let s := s.setB (R.PH_STATUS.TMF_LOW p) low
    if low && !s.bit (R.PH_STATUS.BLANKING p) then s.phaseLoss p 2 else s
  else s)

/-- STAGE_BLANK_END (R103): TMF judged at the end of the blank, as slice PH_IN holds it where it runs (R314). -/
def execStageBlankEnd (p : Fin 48) (tmfLow : Bool) (s : State) : Out := .next (
  match s.expire (T.stageBlank p) with
  | some s =>
    let low := if s.sliceOn 7 p then s.bit (R.PH_STATUS.TMF_LOW p) else tmfLow
    let s := (s.setB (R.PH_STATUS.BLANKING p) false).setB (R.PH_STATUS.TMF_LOW p) low
    if low then s.phaseLoss p 2 else s
  | none => s)

/-- PHASE_HOT (R103): 16 readings in a row above TSHUT. -/
def execPhaseHot (p : Fin 48) (s : State) : Out := .next (
  if 16 ≤ (s.phase p).hot then s.phaseLoss p 3 else s)

/-- PHASE_TEMP_WARNING (R102): of any assigned phase, a lost one too. -/
def execPhaseTempWarning (p : Fin 48) (s : State) : Out := .next (
  if s.phaseOn p && 16 ≤ (s.phase p).warm && !s.bit (R.PH_STATUS.WARN p) then
    let s := s.pmStat R.HOST_PMST.TEMP (s.fld (R.PH_CFG.LOOP p)) 0x40
    ((s.setB (R.PH_STATUS.WARN p) true).raise 27).traceRec (0x0200 + p) 1 (s.fld (R.PH_TEMP.TEMP p))
  else s)

/-- PHASE_TEMP_WARNING_END (R102). -/
def execPhaseTempWarningEnd (p : Fin 48) (s : State) : Out := .next (
  if 16 ≤ (s.phase p).cool && s.bit (R.PH_STATUS.WARN p) then s.setB (R.PH_STATUS.WARN p) false else s)

/-- The temperature of a TMF reading of `mv` millivolts at phase `p`, in 0.1 °C (spec/05). -/
def State.tmfTemp (s : State) (p mv : Nat) : Int :=
  (((mv : Int) - s.fld (R.PH_TMF.TOFS p)) * 100).tdiv (max 1 (s.fld (R.PH_TMF.TSLOPE p)))

/-- TMF_READING (R101 to R103): PH_TEMP and the counts of readings in a row. -/
def execTmfReading (p : Fin 48) (mv : Nat) (s : State) : Out := .next (
  if s.phaseOn p then
    let t := s.tmfTemp p mv
    let s := s.setI (R.PH_TEMP.TEMP p) t
    let s := if s.sfld (R.PH_TEMP.TMAX p) < t then s.setI (R.PH_TEMP.TMAX p) t else s
    let shut : Int := (s.fld (R.PH_TLIM.TSHUT p) * 10 : Nat)
    let warn : Int := (s.fld (R.PH_TLIM.TWARN p) * 10 : Nat)
    let low : Int := warn - (max 1 (s.fld (R.PH_TLIM.THYS p)) * 10 : Nat)
    s.updPhase p (fun x => { x with
      hot := if shut < t then min 16 (x.hot + 1) else 0, warm := if warn < t then min 16 (x.warm + 1) else 0,
      cool := if t < low then min 16 (x.cool + 1) else 0 })
  else s)

/-- SENSE_SUSPECT_RANGE (R106). -/
def execSenseSuspectRange (p : Fin 48) (s : State) : Out := .next (
  if s.phaseActive p && !s.bit (R.PH_STATUS.SUSPECT p) && 4 ≤ (s.phase p).range
  then (s.suspectPhase p 1).raise 25 else s)

/-- SENSE_SUSPECT_FLUX (R106). -/
def execSenseSuspectFlux (p : Fin 48) (s : State) : Out := .next (
  if s.phaseActive p && !s.bit (R.PH_STATUS.SUSPECT p) && 256 ≤ s.fld (R.PH_FLUX.CNT p)
  then (s.suspectPhase p 2).raise 25 else s)

/-- ISNS_REF_FAIL (R106): every healthy assigned phase of every loop, and FS_25 once. -/
def execIsnsRefFail (mv : BitVec 12) (s : State) : Out := .next (
  let s := s.setF R.PH_REF_STATUS.VREF mv.toNat
  if 1100 ≤ mv.toNat && mv.toNat ≤ 1300 then s
  else
    let ps := (List.range 48).filter (fun p => s.phaseOn p && !s.lost p && !s.bit (R.PH_STATUS.SUSPECT p))
    let s := ps.foldl (fun s p => s.suspectPhase p 3) s
    (s.setB R.PH_REF_STATUS.FAIL true).raise 25)

/-- SWITCHING_CYCLE_END (R101). -/
def execSwitchingCycleEnd (p : Fin 48) (c : CycleSamples) (s : State) : Out := .next (s.cycleEnd p c)

/-! ## PLL_P (R53, R86) -/

/-- The loops that run: neither OFF nor FAULT. -/
def State.runningLoops (s : State) : List Nat :=
  (List.range 24).filter (fun n => s.lstate n ≠ L.off && s.lstate n ≠ L.fault)

/-- PLLP_UNLOCK (R86): every PWM ball at mid, every running loop holds its integrator and reference. -/
def execPllpUnlock (s : State) : Out := .next (
  if s.sys.pllP = .locked then
    let s := { s with sys := { s.sys with pllP := .out } }
    let s := s.showLocked.setB R.SYS_CLK_STATUS.PLLP_UNLOCK true
    let s := s.runningLoops.foldl (fun s n => s.updLoop n (fun x => { x with clkHeld := true })) s
    (s.arm T.pllP 10000).raise 60
  else s)

/-- The restart of a running loop when PLL_P is back: from LOOP_VOUT at START_RATE, power-good masked (R86).  Its
under-voltage comparator stays as it was (DESIGN CHOICE, log entry 148), and a loop in STOP goes on with its stop ramp
from LOOP_VOUT (DESIGN CHOICE, log entry 149). -/
def State.restartLoop (s : State) (n : Nat) : State :=
  let st := s.lbase n
  let held := s.loopPg n
  let masked := s.bit (R.LOOP_STATUS.PG_MASK n)
  let s := s.updLoop n (fun x => { x with
    clkHeld := false, nlFrom := none, moving := true, deForced := decide (st ≠ L.stop) })
  let s := s.setRef n (s.fld (R.LOOP_VOUT.VOUT n) * 4096)
  if st = L.stop then (s.setF (R.LOOP_STATUS.STATE n) L.stop).updateDe n
  else
    let s := if masked then s
      else s.updLoop n (fun x => { x with pgHeld := held, hi := s.target n, lo := s.target n })
    (((s.setF (R.LOOP_STATUS.STATE n) L.start).setB (R.LOOP_STATUS.PG_MASK n) true).disarm (T.pgMask n)).updateDe n

/-- PLLP_RELOCK (R86): within 10 µs every held loop restarts; later, every loop that ran is in FAULT. -/
def execPllpRelock (s : State) : Out := .next (
  if s.sys.pllP = .out then
    let s := { s with sys := { s.sys with pllP := .locked } }.showLocked
    let late := match s.deadline T.pllP with
      | some d => decide (d < s.ns)
      | none => false
    let s := s.disarm T.pllP
    let held := s.runningLoops.filter (fun n => (s.loop n).clkHeld)
    if late then held.foldl (fun s n => s.enterFault n 6) s else held.foldl State.restartLoop s
  else s)

/-- PLLP_UNLOCK_TIMEOUT (R86): every running loop in FAULT with cause CLK. -/
def execPllpUnlockTimeout (s : State) : Out := .next (
  match s.expire T.pllP with
  | some s => s.runningLoops.foldl (fun s n => s.enterFault n 6) s
  | none => s)

end Sys2Proof.Machine
end

