-- ==== Sys2Proof/Machine/Fault.lean ====
section
/-! DEFINITION.  The fault collector: acknowledgement, clearing, injection, escalation, the safe sequence and
the restart command (spec/11), and the die-temperature comparators (R325). -/

namespace Sys2Proof.Machine

/-- The collector's sillage record of source `n` (R223). -/
def State.fltRecord (s : State) (n code action : Nat) : State :=
  s.traceRec (0x0700 + n) code (s.faultData n action (s.loopCauseOf n))

/-- The grace timer of source `n` stops and FLT_PEND bit n clears. -/
def State.stopGrace (s : State) (n : Nat) : State :=
  (s.disarm (T.grace n)).setBitAt (pairKey R.FLT_PEND_LO.reg R.FLT_PEND_HI.reg) n false

/-! ## Acknowledge, clear, inject (R214, R218, R225) -/

/-- An acknowledgement of source `n` (R214). -/
def State.ackFault (s : State) (n : Nat) : State :=
  if s.runs (T.grace n) then (s.stopGrace n).fltRecord n 2 0
  else if s.flt.expired.getLsbD n then (s.setB R.FLT_STATUS.LATE_ACK true).fltRecord n 6 0
  else s

/-- FSTAT_ACK over the two-wire bus (R282): FLT_ACK_LO and FLT_ACK_HI, each bit set an acknowledgement. -/
def State.busAck (s : State) (m : BusMsg) : State :=
  s.busSend m 0xDD 8 (fun s l => some (((List.range 64).filter (bytesLE l).testBit).foldl State.ackFault s))

/-- FAULT_ACK (R214). -/
def execFaultAck (r : Req) (n : Fin 64) (s : State) (m : Option BusMsg := none) : Out := .next (
  sentAs r m s.busAck
    (if s.may r (pairKey R.FLT_ACK_LO.reg R.FLT_ACK_HI.reg (n / 32)) true (some 0xDD)
    then (s.ackFault n).hostWrite r 0xDD (2 ^ n.val) else s.denied r true))

/-- A write of 1 to FSTAT bit `n` (R218): held while its grace timer runs; FLT_FIRST is armed again when
every bit is clear (R224). -/
def State.clearFault (s : State) (n : Nat) : State :=
  if s.fstat.getLsbD n && !s.runs (T.grace n) then
    let s := (s.setBitAt (pairKey R.FLT_STAT_LO.reg R.FLT_STAT_HI.reg) n false).fltRecord n 4 0
    if s.fstat = 0#64 then { s with flt := { s.flt with firstArmed := true } } else s
  else s

/-- FAULT_CLEAR (R218). -/
def execFaultClear (r : Req) (n : Fin 64) (s : State) : Out := .next (
  if s.may r (pairKey R.FLT_STAT_LO.reg R.FLT_STAT_HI.reg (n / 32)) true none then (s.clearFault n).hostWrite r 0xD1 (2 ^ (n.val % 32)) else s.denied r true)

/-- An injection of source `n` (R225): in FACTORY and RETURN only. -/
def State.injectFault (s : State) (n : Nat) : State :=
  if s.fld R.SYS_STATUS.LC = 1 || s.fld R.SYS_STATUS.LC = 4
  then s.raiseWith n (s.loopCauseOf n) 5 s.powerDown
  else s.setB R.FLT_STATUS.INJ_REF true

/-- FAULT_INJECT (R225). -/
def execFaultInject (r : Req) (n : Fin 64) (s : State) : Out := .next (
  if s.may r R.FLT_INJ.reg true none then (s.injectFault n).hostWrite r 0xD1 n.val else s.denied r true)

/-! ## The safe state (R219, R222) -/

/-- The trace lets POST further records in and then freezes (R310). -/
def State.traceTrigger (s : State) : State :=
  if s.bit R.LINK_TRC_CFG.FRZF && s.tracePost.isNone && !s.bit R.LINK_TRC_STAT.FROZEN then
    let p := s.fld R.LINK_TRC_CFG.POST
    if p = 0 then s.setB R.LINK_TRC_STAT.FROZEN true else { s with tracePost := some p }
  else s

/-- The safe latch holds source `n`; SYS_RESET_CAUSE shows it (R222). -/
def State.latchSafe (s : State) (n : Nat) : State :=
  let s := { s with sys := { s.sys with safeLatch := some n } }
  (s.setB R.SYS_RESET_CAUSE.SAFE_HELD true).setF R.SYS_RESET_CAUSE.SAFE_SRC n

/-- A drydown is abandoned without a record (R317): one that is written and not being committed is taken back. -/
def State.dryAbandon (s : State) : State :=
  if s.sys.dry = .idle then s
  else
    let s := if s.sys.dry = .recorded then s.dropRecord 2 s.bist.dryPrev else s
    let s := if s.sys.dry = .running then (List.range 8).foldl State.returnConv s else s
    State.showBist { s.updBist (fun b => { b with fatals := [], direct := false }) with sys := { s.sys with dry := .idle } }

/-- The safe sequence of R219 with source `n`; a wait for the drained Ledger before park is over.  SAFE_N, FLT_N, the GP levels and the masked action lines follow
from the life phase. -/
def State.safeEntry (s : State) (n : Nat) : State :=
  let s := s.dryAbandon.endDrain.latchSafe n
  let s := { s with sys := { s.sys with phase := .safe } }
  let s := ((s.setF R.SYS_STATUS.PHASE 4).setB R.FLT_STATUS.SAFE true).setF R.FLT_STATUS.SAFE_SRC n
  let s := s.seqSafe.supSafe.pathSafe
  let s := (List.range 24).foldl State.freeLock s
  (State.placeSnaps 5 (s.snapRequest 0xFE n false).traceTrigger).requestCommit

/-! ## Escalation (R215 to R217) -/

/-- The action of an escalation of source `n`: 1 group, 2 system reset, 3 safe state (R215). -/
def State.escAction (s : State) (n : Nat) : Nat :=
  if s.faultClass n = 2 then 3 else if s.bit (R.FLT_CFG.ACT n) then 2 else 1

/-- The records and marks of one escalation (R215, R223, R224). -/
def State.escRecord (s : State) (n : Nat) : State :=
  let a := s.escAction n
  let s := ((s.fltRecord n 3 a).setB R.FLT_STATUS.ESC_ANY true).setF R.FLT_STATUS.ESC_SRC n
  let pd := if s.powerDown then 0x40 else 0
  (s.event 52).queueLog (0x0700 + n) 3 pd (s.faultLogData n a (s.loopCauseOf n))

/-- The instant of the sequencer tick at or after `d`. -/
def State.tickAfter (s : State) (d : Nat) : Nat :=
  match s.deadline T.seqTick with
  | none => d
  | some t => if d ≤ t then t else t + (d - t + 249) / 250 * 250

/-- Whether the grace timer of source `n` has expired by the sequencer tick of an escalation at `d`. -/
def State.graceOver (s : State) (d n : Nat) : Bool :=
  match s.deadline (T.grace n) with
  | some t => decide (t ≤ s.tickAfter d)
  | none => false

/-- The sources, ascending, that escalate in the sequencer tick of an escalation at `d`: the immediate ones and
those whose grace timer expires by that tick (R215 to R217). -/
def State.escalating (s : State) (d : Nat) : List Nat :=
  (List.range 64).filter (fun n => s.flt.immediate.contains n || s.graceOver d n)

/-- The sources of the tick of an escalation at `d` escalate together (R217): the safe state before a system reset
before group shut-downs; in the safe state, and for the actions of an uncorrected source during a power-down, only the
records are written.  A grace timer that still runs beside an immediate escalation goes on (R214, R216). -/
def State.escalate (s : State) (d : Nat) : State :=
  let l := s.escalating d
  let s := (l.filter (s.graceOver d)).foldl (fun s n =>
    let s := s.stopGrace n
    { s with flt := { s.flt with expired := s.flt.expired ||| (1#64 <<< n) } }) s
  let s := { s with flt := { s.flt with immediate := [] } }
  let s := l.foldl State.escRecord s
  let fatal := l.filter (fun n => s.escAction n = 3)
  match fatal with
  | n :: _ => if s.sys.phase = .safe then s else (s.setF R.FLT_STATUS.ESC_SRC n).safeEntry n
  | [] =>
    if l.any (fun n => s.escAction n = 2) then s.systemReset
    else l.foldl (fun s n => s.groupShutdown (s.fld (R.FLT_CFG.GRP n)) false) s

/-- GRACE_EXPIRY (R215, R217). -/
def execGraceExpiry (n : Fin 64) (s : State) : Out := .next (
  match s.deadline (T.grace n) with
  | none => s
  | some d => ((s.notBefore d).escalate d).rstoRefresh)

/-- IMMEDIATE_ESCALATION (R216, R217): in the sequencer tick after the raise. -/
def execImmediateEscalation (n : Fin 64) (s : State) : Out := .next (
  if s.flt.immediate.contains n.val then (s.escalate s.ns).rstoRefresh else s)

/-- At t3 the grace timers of the uncorrected and fatal sources already set start, and the immediate ones
escalate in the next tick (R211). -/
def State.fltStart (s : State) : State :=
  (List.range 64).foldl (fun s n =>
    if s.fstat.getLsbD n && (s.faultClass n ≠ 0 || n = 36) then s.startGrace n (s.loopCauseOf n) else s) s

/-! ## The restart command (R221) -/

/-- An accepted restart command: its event-log record, and the wait until the Ledger is drained. -/
def State.restart (s : State) : State :=
  if s.sys.phase = .safe && s.ledg.drain ≠ .restart then
    ((s.queueLog 0x0900 2 0 (s.sys.safeLatch.getD 0)).beginDrain .restart).requestCommit
  else s

/-- RESTART over the two-wire bus (R282): its byte is 0xD7; any other is invalid data (R280). -/
def State.busRestart (s : State) (m : BusMsg) : State :=
  s.busSend m 0xE9 1 (fun s l => if bytesLE l = 0xD7 then some s.restart else none)

/-- RESTART_COMMAND (R221): from the host or, over a link, the MANAGER. -/
def execRestartCommand (r : Req) (s : State) (m : Option BusMsg := none) : Out := .next (
  sentAs r m s.busRestart <| match r with
  | .engine _ => s
  | _ => if s.may r R.FLT_RESTART.reg true (some 0xE9) then s.restart.hostWrite r 0xE9 0xD7 else s.denied r true)

/-! ## Die temperature (R325) -/

/-- DIE_TEMP_WARNING (R325): a die above 135 °C; raised once until both have cooled. -/
def execDieTempWarning (s : State) : Out := .next (
  if s.topOn && s.flt.dieHot = false then
    { s with flt := { s.flt with dieHot := true } }.raise 35
  else s)

/-- DIE_TEMP_COOL (R325): both dies below 130 °C. -/
def execDieTempCool (s : State) : Out := .next { s with flt := { s.flt with dieHot := false } }

/-- DIE_TEMP_SHUTDOWN (R216, R325): a die above 160 °C for 10 µs. -/
def execDieTempShutdown (s : State) : Out := .next (if s.topOn then s.raise 36 else s)

end Sys2Proof.Machine
end

