-- ==== Sys2Proof/Machine/Fabric.lean ====
section
/-! DEFINITION.  The tiles (R12, R26 to R28), the fabric's action lines (R329, R330, Table 1.9) and the scheduled switch of images (R31, R87, R109, R117,
R150, R151, R209).  What the fabric's logic makes of a level is not computed, since the spec gives no
encoding of the routing: each command reports one line. -/

namespace Sys2Proof.Machine

/-! ## Tiles (R26 to R28) -/

/-- A tile as configured. -/
def Tile.zero : Tile := ⟨false, [], 0, none⟩

/-- Tile `t`. -/
def State.tile (s : State) (t : Nat) : Tile := s.acrd.tiles.at Tile.zero t

/-- The state with tile `t` changed. -/
def State.updTile (s : State) (t : Nat) (f : Tile → Tile) : State :=
  s.updAcrd (fun a => { a with tiles := a.tiles.upd Tile.zero t f })

/-- The registers that count and mark frozen tiles. -/
def State.showFrozen (s : State) : State :=
  let l := (s.acrd.tiles.filter (fun e => e.2.frozen)).map (fun e => e.1)
  let s := (s.setF R.ACRD_FROZEN_CNT.COUNT l.length).setB R.ACRD_STATUS.FROZEN_ANY (!l.isEmpty)
  let grp := (List.range 64).foldl (fun m g => if l.any (fun t => t / 64 = g) then m + 2 ^ g else m) 0
  s.setPair R.ACRD_FROZEN_GRP_LO.reg R.ACRD_FROZEN_GRP_HI.reg (BitVec.ofNat 64 grp)

/-- Whether the fabric holds configured tiles. -/
def State.fabricOn (s : State) : Bool := 7 ≤ s.sys.stage.ord && s.acrd.image.isSome

/-! ### Action lines (R27, R329, R330, Table 1.9) -/

/-- The effect of a rising edge of action line `i` (Table 1.9); the lines named in R219 step 6 have none in the safe
state. -/
def State.lineEdge (s : State) (i : Nat) : State :=
  let safe := s.sys.phase = .safe
  if i < 64 then s
  else if i < 80 then (if safe then s else s.groupShutdown (i - 64) false)
  else if i < 96 then s.fabricUrgent (i - 80)
  else if i < 160 then (s.raise 63).traceRec 0x0D00 3 (i - 96)
  else if i < 192 then s
  else if i < 216 then
    (if safe || s.sys.stage ≠ .released then s else s.setpoint (i - 192) .fabric (s.fld (R.LOOP_FSET.TARGET (i - 192))) 0)
  else if i < 248 then s.event (96 + (i - 216))
  else if i = 248 then s.snapRequest 0xFF 0 s.powerDown
  else s

/-- The tile whose output drives action line `i` under the running image's routing (R329). -/
def State.driver (s : State) (i : Nat) : Option Nat :=
  match s.acrd.image with
  | some im => (im.outputs.find? (fun e => e.2.2 = i)).map (fun e => e.1)
  | none => none

/-- Whether the logic of tile `t` runs: configured, not frozen, and with PLL_E there, or being configured again. -/
def State.tileRuns (s : State) (t : Nat) : Bool :=
  s.fabricOn && !(s.tile t).frozen && (s.sys.pllE = .locked || s.sys.pllE = .reconfiguring)

/-- The logic of tile `t` has run: its state bits are what its routing makes of them. -/
def State.stirTile (s : State) (t : Nat) : State :=
  let f := s.takeFree
  f.2.updTile t (fun x => { x with bits := some (Config.tileBits f.1) })

/-- Whether the action lines keep their values: through a scheduled switch (R31), and without PLL_E until the last
tile group is configured again (R54). -/
def State.linesHeld (s : State) : Bool := s.acrd.switching || s.sys.pllE = .out || s.sys.pllE = .reconfiguring

/-- A vector of lines with line `i` at a level. -/
def lineAt (v : BitVec 256) (i : Nat) (level : Bool) : BitVec 256 :=
  if level then v ||| (1#256 <<< i) else v &&& ~~~(1#256 <<< i)

/-- Action line `i` is driven to a level: at once, with the effect of a rising edge, or, while the lines are held, for
their release. -/
def State.driveLine (s : State) (i : Nat) (level : Bool) : State :=
  if s.linesHeld then s.updAcrd (fun a => { a with heldAct := lineAt a.heldAct i level })
  else
    let was := s.acrd.act.getLsbD i
    let s := s.updAcrd (fun a => { a with act := lineAt a.act i level })
    if level && !was then s.lineEdge i else s

/-- The connections of the running image from tile outputs to action lines. -/
def State.outputs (s : State) : List (Nat × Nat × Nat) := match s.acrd.image with | some im => im.outputs | none => []

/-- The value of the safe-value latch of tile `t` for output `o` (R14, R27). -/
def State.safeLatch (s : State) (t o : Nat) : Bool := (bytesAt s.acrd.safe (2 * t) 2).testBit o

/-- The outputs of tiles take their safe-value latch values on the lines they drive (R27, R53): those of one tile, or
of every tile. -/
def State.safeLines (s : State) (tile : Option Nat) : State :=
  ((s.outputs.filter (fun e => tile = none || tile = some e.1)).foldl
    (fun s e => s.driveLine e.2.2 (s.safeLatch e.1 e.2.1)) s).rstoRefresh

/-- The lines held are released together: those that a tile output drives take the levels their outputs have come
to, and rising edges act; a line that none drives reads 0 (R31, R54, R329, R330). -/
def State.releaseLines (s : State) : State :=
  let old := s.acrd.act
  let new := (List.range 249).foldl (fun v i => if (s.driver i).isSome then v else lineAt v i false) s.acrd.heldAct
  let s := s.updAcrd (fun a => { a with act := new })
  (List.range 249).foldl (fun s i => if new.getLsbD i && !old.getLsbD i then s.lineEdge i else s) s

/-! ### Cells, scrubbing and reloads -/

/-- The bank that the tiles are configured from: the active one, and from T of a scheduled switch on the staged one
(R31). -/
def State.fabricBank (s : State) : Option Bool := if s.acrd.switching then s.acrd.stagedBank else s.acrd.active

/-- Cell `c` of tile `t` as configured: bit `c mod 8` of byte `c / 8` of its block in the bank; 0 while no image
runs. -/
def State.cellStored (s : State) (t c : Nat) : Bool :=
  match s.fabricBank with
  | some b => !s.acrd.defaults && (bytesLE (s.bankRead b (0x80000 + 1024 * t + c / 8) 1)).testBit (c % 8)
  | none => false

/-- Cell `c` of tile `t` as it stands, with its upset (R26). -/
def State.cell (s : State) (t c : Nat) : Bool := s.cellStored t c != (s.tile t).upsets.contains c

/-- The number that `w` cells of tile `t` from cell `c` hold. -/
def State.cells (s : State) (t c w : Nat) : Nat :=
  (List.range w).foldl (fun v i => v + (if s.cell t (c + i) then 2 ^ i else 0)) 0

/-- Lookup element `e` of tile `t` for the six inputs as a number (Table 1.6). -/
def State.lookup (s : State) (t e inputs : Nat) : Bool := s.cell t (64 * e + inputs)

/-- The state bits of tile `t`: their initial values until its logic changes them (Table 1.6). -/
def State.stateBits (s : State) (t : Nat) : BitVec 64 :=
  match (s.tile t).bits with
  | some v => v
  | none => BitVec.ofNat 64 ((List.range 64).foldl (fun v i => v + (if s.cellStored t (2048 + i) then 2 ^ i else 0)) 0)

/-- The reload value, mode and start-source select of timer `k` of tile `t` (Table 1.6). -/
def State.timerCells (s : State) (t k : Nat) : Nat × Nat × Nat :=
  let c := 2112 + 40 * k
  (s.cells t c 32, s.cells t (c + 32) 4, s.cells t (c + 36) 4)

/-- Whether timer `k` of tile `t` is used: the cells of an unused one are 0 (R12). -/
def State.timerUsed (s : State) (t k : Nat) : Bool := s.timerCells t k ≠ (0, 0, 0)

/-- CELL_UPSET (R27): an upset flips a cell of a configured tile. -/
def execCellUpset (tile : Fin 4096) (cell : Fin 8192) (s : State) : Out := .next (
  if s.fabricOn then
    s.updTile tile (fun x => { x with
      upsets := if x.upsets.contains cell.val then x.upsets.filter (· ≠ cell.val) else x.upsets ++ [cell.val] })
  else s)

/-- ACRD_SCRUB_LAST shows the latest upset found. -/
def State.scrubLast (s : State) (t f : Nat) (bad : Bool) : State :=
  ((s.setB R.ACRD_SCRUB_LAST.UNCORR bad).setF R.ACRD_SCRUB_LAST.TILE t).setF R.ACRD_SCRUB_LAST.FRAME f

/-- Tile `t` freezes (R27): its outputs take the values of its safe-value latch, and its logic stops. -/
def State.freezeTile (s : State) (t f : Nat) : State :=
  let s := ((s.updTile t (fun x => { x with frozen := true })).showFrozen).safeLines (some t)
  (((s.scrubLast t f true).traceRec 0x0D00 2 (t * 128 + f)).event 71).raise 44

/-- SCRUB_FRAME_READ (R26, R27): the scrubber skips a frozen tile, one being reloaded, and the whole fabric during a
switch or without PLL_E. -/
def execScrubFrameRead (tile : Fin 4096) (frame : Fin 128) (s : State) : Out := .next (
  let x := s.tile tile
  if s.fabricOn && !x.frozen && s.acrd.reloading ≠ some tile.val && !s.acrd.switching && s.sys.pllE = .locked then
    let up := x.upsets.filter (fun c => c / 64 = frame.val)
    match up with
    | [] => s
    | [_] =>
      let s := s.updTile tile (fun x => { x with upsets := x.upsets.filter (fun c => c / 64 ≠ frame.val) })
      let s := s.count B.acrd R.ACRD_SCRUB_CNT.COUNT R.ACRD_SCRUB_CNT.SAT
      ((s.scrubLast tile frame false).traceRec 0x0D00 1 (tile.val * 128 + frame.val)).event 71
    | _ => s.freezeTile tile frame
  else s)

/-- TILE_RELOAD_REQUEST (R28): with its key, for a frozen tile, while no reload runs. -/
def State.tileReload (s : State) (w : Word) : State :=
  let t := w.field 0 12
  if w.field 24 8 = 0x5A && (s.tile t).frozen && !s.bit R.ACRD_STATUS.RELOAD_BUSY then
    let s := (s.setF R.ACRD_TILE_RELOAD.TILE t).setB R.ACRD_STATUS.RELOAD_BUSY true
    (s.updAcrd (fun a => { a with reloading := some t })).arm T.tileReload 12000
  else s

/-- TILE_RELOAD_REQUEST (R28). -/
def execTileReloadRequest (r : Req) (w : Word) (s : State) : Out := .next (
  if s.may r R.ACRD_TILE_RELOAD.reg true none then (s.tileReload w).hostWrite r 0xD1 w.toNat else s.denied r true)

/-- Whether the bytes of tile `t` in the bank it is configured from match their TILE_CHECK entry (R28). -/
def State.tileChecks (s : State) (t : Nat) : Bool :=
  match s.fabricBank, s.acrd.image with
  | some b, some im => (crc32 (s.bankRead b (0x80000 + 1024 * t) 1024)).toNat = bytesLE (s.bankRead b (im.checkAt + 4 * t) 4)
  | _, _ => false

/-- TILE_RELOAD_DONE (R28): the tile is as configured, its state bits at their initial values and its outputs released:
the level of each line it drives is the next that its logic gives. -/
def execTileReloadDone (s : State) : Out := .next (
  match s.acrd.reloading with
  | none => s
  | some t =>
    match s.expire T.tileReload with
    | none => s
    | some s =>
      let s := (s.updAcrd (fun a => { a with reloading := none })).setB R.ACRD_STATUS.RELOAD_BUSY false
      if s.tileChecks t then (s.updTile t (fun _ => Tile.zero)).showFrozen
      else (s.setB R.ACRD_STATUS.RELOAD_ERR true).raise 52)

/-- TILE_TIMER_EXPIRY (R12, R18): an event timer that a running tile uses reaches its count, and the tile's logic runs;
what it drives comes as the fabric's action lines. -/
def execTileTimerExpiry (tile : Fin 4096) (timer : Fin 2) (s : State) : Out := .next (
  if s.tileRuns tile && s.timerUsed tile timer
  then (s.updTile tile (fun x => { x with timerHit := x.timerHit ||| 2 ^ timer.val })).stirTile tile else s)

/-- Every tile configured afresh, unfrozen (R31, R54); a reload that runs ends with it. -/
def State.freshTiles (s : State) : State :=
  let s := s.updAcrd (fun a => { a with tiles := [], reloading := none })
  ((s.setB R.ACRD_STATUS.RELOAD_BUSY false).disarm T.tileReload).showFrozen

/-! ## Reported levels -/

/-- Action line `i` takes the level its tile output gives it (R330), while the tile runs: a line that no tile output
drives keeps 0, and one whose tile is frozen its safe value (R27, R329).  The level is what the tile's logic has come
to, so its state bits may have changed too. -/
def State.line (s : State) (i : Nat) (level : Bool) : State :=
  match s.driver i with
  | none => s
  | some t => if s.tileRuns t then (s.stirTile t).driveLine i level else s

/-- FABRIC_TERM_CHANGE (R132): the start condition is judged again in the next tick. -/
def execFabricTermChange (n : Fin 64) (level : Bool) (s : State) : Out := .next (s.line n level)

/-- FABRIC_GROUP_SHUTDOWN (R142, R330). -/
def execFabricGroupShutdown (n : Fin 16) (level : Bool) (s : State) : Out := .next ((s.line (64 + n) level).rstoRefresh)

/-- FABRIC_URGENT_REQUEST (R204). -/
def execFabricUrgentRequest (n : Fin 16) (level : Bool) (s : State) : Out := .next (s.line (80 + n) level)

/-- FABRIC_FS63_RAISE (R330). -/
def execFabricFs63Raise (n : Fin 64) (level : Bool) (s : State) : Out := .next (s.line (96 + n) level)

/-- FABRIC_GP_LEVEL (R330). -/
def execFabricGpLevel (n : Fin 24) (level : Bool) (s : State) : Out := .next (s.line (160 + n) level)

/-- FABRIC_RSTO_ASSERT (R157). -/
def execFabricRstoAssert (n : Fin 8) (level : Bool) (s : State) : Out := .next ((s.line (184 + n) level).rstoRefresh)

/-- FABRIC_SETPOINT_COMMAND (R77). -/
def execFabricSetpointCommand (n : Fin 24) (level : Bool) (s : State) : Out := .next (s.line (192 + n) level)

/-- FABRIC_EVENT_RAISE (R239). -/
def execFabricEventRaise (n : Fin 32) (level : Bool) (s : State) : Out := .next (s.line (216 + n) level)

/-- FABRIC_SNAPSHOT_REQUEST (R148). -/
def execFabricSnapshotRequest (level : Bool) (s : State) : Out := .next (s.line 248 level)

/-! ## The scheduled switch (R31) -/

/-- The configuration bits of every register back at their reset values, before a new image's words. -/
def State.clearConfig (s : State) : State :=
  s.regs.foldl (fun s e =>
    let m := if e.1 < 4294967296 then configMask e.1 else 0#32
    s.setReg e.1 ((s.reg e.1 &&& ~~~m) ||| (resetWord e.1 &&& m))) s

/-- The new image's sections and its parameters' defaults come into use, and its role.  LINK_ID keeps the number the
device joined with, whatever the new image's DEV_PIN (DESIGN CHOICE, log entry 139). -/
def State.newConfig (s : State) (im : Image) : State :=
  let s := s.clearConfig.loadRegs configMask im.regs
  let s := s.updAcrd (fun a => { a with paramFile := [], image := some im })
  ((s.loadPeriod im).applyParams im.params []).setB R.LINK_CFG.MGR (im.role = 1)

/-- The commissioned coefficients of loop `n` (R117). -/
def State.commissioned (s : State) (n : Nat) : List Word :=
  [s.reg (R.LOOP_CK.reg n), s.reg (R.LOOP_CZ1.reg n), s.reg (R.LOOP_CZ2.reg n)]

/-- The keys of the loop rows that a state or another lists. -/
def loopKeys (s t : State) : List Nat := (((s.regs ++ t.regs).map (fun e => e.1)).filter loopKey).eraseDups

/-- The loop registers stay as `s` has them, and what the new image changed in them waits for the compensator update of
its loop (R87). -/
def State.deferLoops (s t : State) : State :=
  let t := (List.range 24).foldl (fun t n => t.updLoop n (fun x => { x with pend := [] })) t
  (loopKeys s t).foldl (fun t k =>
    let new := t.reg k
    if new = s.reg k then t
    else (t.setReg k (s.reg k)).updLoop ((k - 0x40010000) / 0x400) (fun x => { x with pend := x.pend ++ [(k, configMask k, new)] })) t

/-- What the new image changed in block MEAS (R202, R209): accumulators of channels with another scale are cleared, the
queue is emptied with another DEPTH or OWNER, and the converters restart their rounds. -/
def State.measChanged (s t : State) : State :=
  let t := (List.range 256).foldl (fun t c =>
    if s.reg (R.MEAS_CH_SCALE.reg c) = t.reg (R.MEAS_CH_SCALE.reg c) then t else t.scaleChange c) t
  (if s.sameQueue t then t else t.emptyQueue).measSwitch

/-- A switch that keeps the topology (R87, R117, R150, R209): states carry over, changed coefficients are loaded at
each loop's next update, the converters restart their rounds, and ranks are computed again. -/
def State.switchKeep (s : State) (im : Image) : State :=
  let t := s.newConfig im
  let t := (List.range 24).foldl (fun t n =>
    if s.commissioned n = t.commissioned n then t else t.updLoop n (fun x => { x with coefReload := 7 })) t
  let t := s.deferLoops t
  let t := (List.range 64).foldl (fun t r =>
    if s.reg (R.SEQ_RAIL_QUAL.reg r) = t.reg (R.SEQ_RAIL_QUAL.reg r) then t else t.chatFresh r) t
  ((s.measChanged t).showRanks).chgFollow.showCaps.supFollow

/-- Whether a key is that of a PH_STATUS register. -/
def phaseStatus (k : Nat) : Bool := decide (0x40020000 ≤ k) && decide (k < 0x40023000) && decide (k % 0x100 = 0x20)

/-- A switch that changes the topology, with every rail off (R151): the sequencer, the loops and the phase ports start
afresh, and no rail starts before the release. -/
def State.switchFresh (s : State) (im : Image) : State :=
  let s0 := s
  let s := (List.range 24).foldl State.freeLock s
  let s := (List.range 24).foldl (fun s n => [T.slew, T.pgMask, T.lock, T.nlHold, T.nlMax, T.shed, T.survey, T.burst,
    T.burstLimit, T.resume, T.compute, T.fcPre, T.fcWin, T.fcHold].foldl (fun s f => s.disarm (f n)) s) s
  let s := (List.range 48).foldl (fun s p => ((s.disarm (T.stageBlank p)).disarm (T.nlLow p)).updPhase p (fun r =>
    { PhaseState.zero with warm := r.warm, cool := r.cool })) s
  let s := { s with loops := [], rails := [] }
  let s := s.idleGroups.disarm T.sysHold
  let s := s.resetRegs (fun k => decide (0x40010000 ≤ k) && decide (k < 0x40030000) && !phaseStatus k)
  let s := (List.range 64).foldl (fun s r => (s.setReg (R.SEQ_RAIL_STATUS.reg r) 0#32).setReg (R.SEQ_RAIL_CNT.reg r) 0#32) s
  let s := ((List.range 16).foldl (fun s g => s.setReg (R.SEQ_GRP_STATUS.reg g) 0#32) s).setReg R.SEQ_STATUS.reg 0#32
  let s := s.newConfig im
  let s := s.loadRegs loadMask (im.regs.filter (fun e => decide (0x40010000 ≤ e.1) && decide (e.1 < 0x40016000)))
  let s := (s.applyParams im.params []).loadLoops
  let s := s.railsOn.foldl (fun s r => s.setB (R.SEQ_RAIL_STATUS.REQ r) (s.bit (R.SEQ_RAIL_CFG.AUTO r))) s
  let s := s.gpsInactive.showRanks.updSeq (fun q => { q with
    lastStart := none, lastStop := none, sysReset := .none, halting := false, switchHold := true, railsDown := false,
    offClosures := [] })
  ((s0.measChanged { s with sup := { s.sup with rstoSys := 0 } }).chgFollow).showCaps.supFollow

/-- A sillage record of the switch (Table 15.5) and EV_070. -/
def State.switchRecord (s : State) (code dev cause : Nat) : State :=
  (s.traceRec 0x0B20 code (dev * 2 ^ 24 + cause)).event 70

/-- A verification that runs ends without a result. -/
def State.dropVerify (s : State) : State := (s.updAcrd (fun a => { a with verifying := none })).disarm T.verify

/-- The switch begins at T (R31): the action lines are held, the new image's settings come into use, and every tile is
configured afresh from the staged bank, with its safe values; from T on a level reported is one of the new fabric
(DEDUCED, log entry 181).  A verification of the bank ends without a result (DESIGN CHOICE, log entry 179). -/
def State.switchBegin (s : State) (im : Image) : State :=
  let keep := match s.acrd.image with | some old => old.topo == im.topo | none => false
  let s := s.dropVerify.updAcrd (fun a => { a with switching := true, heldAct := a.act })
  let s := (s.setB R.ACRD_STATUS.HOLD true).setF R.LINK_SW_STATUS.STATE 3
  let s := if keep then s.switchKeep im else s.switchFresh im
  let s := s.freshTiles.updAcrd (fun a => { a with safe := im.safe })
  ((s.switchRecord 4 0xFF 0).arm T.switchRel 3000000).showBist

/-- SCHEDULED_SWITCH (R31, R307): at T of a switch this device holds GO for; the report carries time to T. -/
def execScheduledSwitch (s : State) : Out := .next (
  if s.bit R.ACRD_STATUS.SWITCH_PEND && s.link.swGo && !s.acrd.switching then
    match s.acrd.staged with
    | none => s
    | some im => (s.notBefore (s.localAt s.link.swT.toNat)).switchBegin im
  else s)

/-- The expected digests that a performed switch brings into use, and the epoch (R304). -/
def State.takeEpoch (s : State) : State :=
  let s := s.setReg R.LINK_EPOCH.reg s.link.swEpoch
  let s := (List.range 64).foldl (fun s d =>
    match s.link.pendExp.at none d with
    | some v => s.setPair (R.LINK_EXP_LO.reg d) (R.LINK_EXP_HI.reg d) v
    | none => s) s
  { s with link := { s.link with pendExp := [], swGo := false, swTargets := [], swWait := [] } }

/-- The switch ends at T + 3,000 µs (R31, R331).  Without PLL_E the action lines stay held until the last tile group is
configured again (R54).  A switch is no load for ACRD_SCRUB_CNT, ACRD_PFAIL and FALLBACK, which it leaves (DESIGN CHOICE,
log entry 182). -/
def State.switchEnd (s : State) (im : Image) : State :=
  let vals := s.replayList im.params
  let s := s.readParamPages
  let s := im.params.foldl (fun s p => match vals.find? (fun e => e.1 = p.id) with
    | some e => s.putLive p e.2
    | none => s) s
  let s := s.updAcrd (fun a => { a with
    journal := replayJournal vals, active := a.stagedBank, staged := none, switching := false })
  let s := ((s.setB R.ACRD_STATUS.HOLD false).setB R.ACRD_STATUS.SWITCH_PEND false).setB R.ACRD_STATUS.STAGED_OK false
  let s := (s.setF R.ACRD_STATUS.ACTIVE (activeCode s.acrd.active)).setF R.LINK_SW_STATUS.STATE 4
  let s := (s.showImage.showJournal vals.length).showDigest
  let s := match s.acrd.active with | some b => s.writeSelector b | none => s
  let s := s.takeEpoch.raiseFloor
  let fresh := s.seq.switchHold
  let s := s.updSeq (fun q => { q with switchHold := false })
  let s := if fresh then s.switchRelease else s
  let s := if s.linesHeld then s else s.releaseLines
  (if fresh then s.firstTick else s).rstoRefresh.showBist

/-- SWITCH_RELEASE (R31): exactly at T + 3,000 µs. -/
def execSwitchRelease (s : State) : Out := .next (
  if s.acrd.switching = false then s
  else
    match s.expire T.switchRel with
    | none => s
    | some s => match s.acrd.image with | some im => s.switchEnd im | none => s)

end Sys2Proof.Machine
end

