-- ==== Sys2Proof/Machine/Sys.lean ====
section
/-! DEFINITION.  Supply, starts, brown-outs, clocks, park and flacon mode, life cycle and test access (spec/02, spec/03,
and the start and latch rules of spec/11 and spec/16). -/

namespace Sys2Proof.Machine

/-- The state with the supply front-end's row changed. -/
def State.updSys (s : State) (f : SysState → SysState) : State := { s with sys := f s.sys }

/-! ## What a removal of a domain leaves (R50, R51, R56, Table 2.3) -/

/-- The registers that the base-note domain and the HV die hold, and FLT_FIRST, which keeps its source over a start
until the next raise (R224; DEDUCED, log entry 154). -/
def baseKey (k : Nat) : Bool :=
  k = R.FLT_FIRST.reg || k = R.FLT_FIRST_TS_LO.reg || k = R.FLT_FIRST_TS_HI.reg ||
  k = R.SYS_RESET_CAUSE.reg || k = R.SYS_WAKE_CFG.reg || k = R.SYS_WAKE_CAUSE.reg || k = R.SYS_PARK_ALARM_LO.reg ||
  k = R.SYS_PARK_ALARM_HI.reg || k = R.SUP_VIN_STATUS.reg || k = R.PATH_STATUS.reg || k = R.PATH_SVC.reg

/-- The timers that the base-note domain runs. -/
def baseTimer (k : Nat) : Bool := k = T.vinStable || k = T.press || k = T.longEnd || k = T.brown

/-- The top-note domain is removed: the registers, memories and timers of the base-note domain, the Ledger's array
and the stored banks stay. -/
def State.topOff (s : State) : State :=
  let s := s.rebase.pathIdle
  let s := (s.setF R.SUP_VIN_STATUS.COUNT 0).setB R.SUP_VIN_STATUS.SAT false
  { State.reset with
    pending := s.pending, clock := s.clock, htOfs := s.htOfs, freeCount := s.freeCount,
    regs := s.regs.filter (fun e => baseKey e.1)
    timers := s.timers.filter (fun e => baseTimer e.1)
    acrd := { AcrdState.reset with bankA := s.acrd.bankA, bankB := s.acrd.bankB }
    path := { PathState.reset with excursion := s.path.excursion, excEnd := s.path.excEnd, released := s.path.released }
    ledg := { LedgState.reset with
      array := s.ledg.array, poison := s.ledg.poison, weak := s.ledg.weak, cutAt := s.ledg.cutAt }
    sys := { SysState.reset with
      phase := s.sys.phase, address := s.sys.address, ft := s.sys.ft, safeLatch := s.sys.safeLatch,
      brown := s.sys.brown, nextCause := s.sys.nextCause, wakeArmed := s.sys.wakeArmed,
      wakePending := s.sys.wakePending, bnoPeriod := s.sys.bnoPeriod, pinLines := s.sys.pinLines,
      pinHeld := s.sys.pinHeld, svcLow := s.sys.svcLow, svcFrom := s.sys.svcFrom, svcArmed := s.sys.svcArmed } }

/-- The state and counter registers of the phases. -/
def phaseStat (k : Nat) : Bool :=
  (decide (0x40020000 ≤ k) && decide (k < 0x40023000) && decide (0x20 ≤ k % 0x100)) ||
  (decide (0x40024000 ≤ k) && decide (k < 0x40024180) && decide (k % 16 = 4))

/-- The top-note domain browns out: the phase states and counters stay for reading until the next start (R110). -/
def State.topBrown (s : State) : State :=
  (s.regs.filter (fun e => phaseStat e.1)).foldl (fun t e => t.setReg e.1 e.2) { s.topOff with phases := s.phases }

/-- The base-note domain too has lost its state: what is not rewritable store is as after manufacture.  The 300 ms of
a long press, and the release that another one needs, are timed from BAT (R190). -/
def State.baseOff (s : State) (p : Phase) : State :=
  let s := s.rebase
  { State.reset with
    pending := s.pending, clock := s.clock, htOfs := s.htOfs, freeCount := s.freeCount,
    timers := s.timers.filter (fun e => e.1 = T.longEnd)
    path := { PathState.reset with released := s.path.released }
    acrd := { AcrdState.reset with bankA := s.acrd.bankA, bankB := s.acrd.bankB }
    ledg := { LedgState.reset with array := s.ledg.array, poison := s.ledg.poison, weak := s.ledg.weak }
    sys := { SysState.reset with
      phase := p, svcLow := s.sys.svcLow, svcFrom := s.sys.svcFrom, svcArmed := s.sys.svcArmed, pinLines := s.sys.pinLines, pinHeld := s.sys.pinHeld } }

/-! ## Starts (R45, R50, R60, Table 3.3) -/

/-- A start is to begin, for the causes of a mask of SYS_RESET_CAUSE bits. -/
def State.toStart (s : State) (cause : Nat) : State :=
  s.updSys (fun y => { y with phase := .start, stage := .off, brown := .none, nextCause := y.nextCause ||| cause })

/-- Hierarchy time starts at 0 (R55). -/
def State.zeroTime (s : State) : State := { s.rebase with htOfs := -(s.ns : Int) }

/-- VIN_RISE_START (R45, R51): from unpowered, or after a UVLO that left the base-note domain powered. -/
def execVinRiseStart (s : State) : Out := .next (
  if s.sys.phase = .unpowered then
    (if s.sys.address.isNone then s.freshStable.zeroTime.toStart 1 else s.toStart 0)
  else s)

/-- FLACON_EXIT (R60): SVC_N low for 200 ms or VIN_SNS above 6.0 V. -/
def execFlaconExit (_ : Bool) (s : State) : Out := .next (
  if s.sys.phase = .flacon then s.freshStable.zeroTime.toStart 0x40 else s)

/-- BROWN_OUT_RESTART (R51): 10 ms after a reset-limit brown-out. -/
def execBrownOutRestart (s : State) : Out := .next (
  if s.sys.brown = .tenMs then
    match s.expire T.brown with
    | some s => s.toStart 0
    | none => s
  else s)

/-- SYS_RESET_CAUSE takes the causes of the present start. -/
def State.showCause (s : State) : State :=
  (s.setReg R.SYS_RESET_CAUSE.reg (s.reg R.SYS_RESET_CAUSE.reg ||| BitVec.ofNat 32 s.sys.nextCause)).updSys
    (fun y => { y with nextCause := 0 })

/-- SYS_LC_NONCE takes a fresh value of the noise source (R63). -/
def State.freshNonce (s : State) : State :=
  let x := s.takeFree
  x.2.setPair R.SYS_LC_NONCE_LO.reg R.SYS_LC_NONCE_HI.reg (Config.nonce x.1)

/-- t2 of a start: VCC5 is above 4.75 V, and so above the commit guard (R49, Table 3.3). -/
def State.houseUp (s : State) : State :=
  ((s.updSys (fun y => { y with stage := .t2 })).setB R.SYS_STATUS.VCC5_OK true).showCause

/-- A start begins at t0, where the straps are to be read, or at t2; what a brown-out kept of the phases is cleared. -/
def State.startBegin (s : State) : State :=
  let s := { s.resetRegs phaseStat with phases := [] }
  let s := (s.freshNonce.setF R.SYS_STATUS.PHASE 1).updSys (fun y => { y with
    brown := .none, batLeg := true, wakeArmed := false, wakePending := 0 })
  if s.sys.address.isNone then (s.updSys (fun y => { y with stage := .t0 })).arm T.strap 200000
  else s.houseUp

/-- START_BEGIN (R50): after the restart command, 10 ms later (R221). -/
def execStartBegin (s : State) : Out := .next (
  if s.sys.phase = .start && s.sys.stage = .off then
    match s.sys.brown with
    | .none => s.startBegin
    | .restart => (match s.expire T.brown with | some s => s.startBegin | none => s)
    | _ => s
  else s)

/-- The bin of ADDR0 and of ADDR1 (Table 2.6). -/
def strapBin0 (mv : Nat) : Nat := if 1500 < mv then 7 else if 1100 ≤ mv then 6 else (mv + 100) / 200
def strapBin1 (mv : Nat) : Nat := if 1000 < mv then 3 else if 600 ≤ mv then 2 else if 200 ≤ mv then 1 else 0

/-- STRAP_READING_DONE (R36, R37): after 200 µs. -/
def execStrapReadingDone (mv0 mv1 : Nat) (ft : BitVec 4) (s : State) : Out := .next (
  if s.sys.stage = .t0 then
    match s.expire T.strap with
    | none => s
    | some s => (s.updSys (fun y => { y with
        address := some (0x40 + 8 * strapBin1 mv1 + strapBin0 mv0), ft := ft.toNat })).houseUp
  else s)

/-- TOP_NOTE_DOMAIN_UP (R40, R50, R53, R211): house rails up, PLLs locked, clock monitors and collector running.  VCC5_OK
stays as t2 and what VCC5 has done since have left it (R49). -/
def execTopNoteDomainUp (s : State) : Out := .next (
  if s.sys.stage = .t2 then
    let s := s.updSys (fun y => { y with stage := .t5, pllP := .locked, pllE := .locked, pllM := .locked, plleLost := false })
    let s := (s.setB R.SYS_STATUS.VDD08_OK true).setB R.SYS_STATUS.VDDA18_OK true
    let s := ((s.setB R.SYS_STATUS.VDDIO33_OK true).setB R.SYS_STATUS.VBN_OK true).showLocked
    { s with flt := { FltState.reset with collecting := true }, host := { s.host with stretch := false } }.wdSeed.pmVinHeld
  else s)

/-! ## The Ledger at t6 (R52, R248, R253, R319, R335) -/

/-- The life-cycle state of page 0, where the page is readable and its word valid. -/
def State.lifeWord (s : State) : Option Nat :=
  let l := s.pageBytes 0
  let lc := bytesAt l 20 1
  if s.pageReadable 0 && decide (lc ≤ 4) && bytesAt l 21 1 = 255 - lc then some lc else none

/-- The life-cycle state, revocation and calibration pages. -/
def State.readPages (s : State) : State :=
  let s := [0, 1, 2, 1280, 1281].foldl State.touchPage s
  let s := (List.range 121).foldl (fun s i => s.touchPage (7 + i)) s
  let lc := s.lifeWord.getD 3
  let s := (s.setF R.SYS_STATUS.LC lc).setF R.SYS_LC_STATUS.NEXT lc
  let s := (s.setB R.LEDG_STATUS.LCDEF s.lifeWord.isNone).setB R.LEDG_STATUS.REVDEF (!s.pageReadable 1)
  s.setB R.LEDG_STATUS.CALDEF ((List.range 121).any (fun i => !s.pageReadable (7 + i)))

/-- The record of a commit cut by power (R253). -/
def State.readCut (s : State) : State :=
  match s.ledg.cutAt with
  | none => s
  | some (p, w) =>
    let s := ({ s with ledg := { s.ledg with cutAt := none } }.setB R.LEDG_STATUS.CUT true).raise 51
    s.traceRec 0x0900 4 (p * 64 + w * 8)

/-- The drydown record decides on start-up self-test (R319). -/
def State.readDrydown (s : State) : State :=
  let v : BitVec 64 := match s.recStored 2 with | some (v, _, _) => v | none => 0
  let s := s.setPair R.BIST_REC_LO.reg R.BIST_REC_HI.reg v
  let st := v.toNat / 2 ^ 60
  if st = 1 then
    (s.deviceRecord 2 ((v &&& 0x0FFFFFFFFFFFFFFF#64) ||| 0x3000000000000000#64)).requestCommit
  else
    let s := s.setF R.BIST_START.WHY (if st = 2 then 2 else if st = 3 then 3 else 1)
    let s := if st = 2 then s.raise 59 else s
    ((s.updSys (fun y => { y with selfTest := true })).setF R.BIST_STATUS.STATE 2).updBist (fun b => { b with dryAt := s.ns })

/-- The clock word selects the reference (R52). -/
def State.readClock (s : State) : State :=
  if s.pageReadable 2 && bytesAt (s.pageBytes 2) 0 4 = 0x25 then
    ((s.setB R.SYS_CLK_STATUS.XIN_SEL true).updSys (fun y => { y with xinWait := true })).arm T.xin 5000000
  else s

/-- START_LEDGER_READ (R319): t6. -/
def execStartLedgerRead (s : State) : Out := .next (
  if s.sys.stage = .t5 then
    let s := s.updSys (fun y => { y with stage := .t6 })
    let s := s.readPages.readCut
    (s.updAcrd (fun a => { a with selB := s.selectsB })).readDrydown.readClock
  else s)

/-- The failures that a start-up self-test can have, of those a report names (R320). -/
def startFails (fails : List Check) : List Check := checksRun startOrder [] (fails.filter (fun c => c.item ≠ 0#4))

/-- STARTUP_SELF_TEST_END (R320): the failures in the order of time, and the duration in nanoseconds, within the 40 ms. -/
def execStartupSelfTestEnd (fails : List Check) (s : State) (duration : Nat := 0) : Out := .next (
  if s.sys.stage = .t6 && s.sys.selfTest then
    let fails := startFails fails
    let s := s.notBefore (s.bist.dryAt + testNs true 39025000 40000000 fails duration)
    let s := (s.updSys (fun y => { y with selfTest := false })).setF R.BIST_STATUS.STATE 0
    let s := (s.setB R.SYS_STATUS.STARTUP_TEST true).setB R.BIST_START.RAN true
    let s := (s.setB R.BIST_START.PASS fails.isEmpty).setF R.BIST_START.FAILS (satNat 255 fails.length)
    let s := (match fails with
      | c :: _ => (s.setF R.BIST_START.ITEM c.item.toNat).setF R.BIST_START.INDEX c.index.toNat
      | [] => s)
    fails.foldl (fun s c => (s.raise (if c.item = 1#4 then 62 else 58)).traceRec 0x0C00 3
      (Config.recordData 11 (c.item.toNat * 256 + c.index.toNat))) s
  else s)

/-! ## Sequencer release (R20, R211, R222, R244, R259, R331) -/

/-- What starts at t3 under a loaded Accord; under the factory default only the escalation of FS_36 does (R15, R211). -/
def State.startBlocks (s : State) : State :=
  if s.acrd.defaults then s.fltStart
  else
    let s := (match s.acrd.image with | some im => s.engStart im.engines | none => s)
    let s := if s.sys.plleLost then s.haltAll else s
    (s.seqRelease.supStart.measStart.pathStart).fltStart

/-- A device that starts with the safe latch set enters the safe state at once (R222). -/
def State.safeReentry (s : State) : State :=
  match s.sys.safeLatch with
  | none => s
  | some n => (s.safeEntry n).queueLog 0x0900 3 0 n

/-- Sequencer release. -/
def State.release (s : State) : State :=
  let s := s.updSys (fun y => { y with phase := .run, stage := .released })
  let s := s.loadImage.setF R.SYS_STATUS.PHASE 2
  let s := s.queueLog 0x0900 1 0 (s.reg R.SYS_RESET_CAUSE.reg).toNat
  let s := s.setF R.SYS_RESET_CAUSE.HOUSE_CNT 0
  let s := (s.arm T.logScan 300000).setB R.LEDG_STATUS.SCAN true
  (s.raiseFloor.startBlocks.safeReentry.firstTick).rstoRefresh

/-- SEQUENCER_RELEASE (R20, R40): t3 of Table 1.7. -/
def execSequencerRelease (s : State) : Out := .next (
  if s.sys.phase = .start && s.sys.stage = .configured then
    match s.expire T.release with
    | some s => s.release
    | none => s
  else s)

/-- The number of log records that the search for the head reads: those of the pass of record 0, and the next one
(R258). -/
def State.logScanned (s : State) : Nat := if s.fld R.LEDG_LOG_STAT.HEAD = 0 && (s.logValid 0).isSome then 8192 else s.fld R.LEDG_LOG_STAT.HEAD + 1

/-- LOG_SCAN_END (R258, R261): no later than 300 µs after t3. -/
def execLogScanEnd (s : State) : Out := .next (
  if s.sys.stage = .released && s.bit R.LEDG_STATUS.SCAN then
    let s := (s.disarm T.logScan).setB R.LEDG_STATUS.SCAN false
    let s := (s.setF R.LEDG_LOG_STAT.HEAD s.logHead).setB R.LEDG_LOG_STAT.PASS ((s.logValid 0).getD false)
    let s := { s with ledg := { s.ledg with scanned := true, recWear := s.scanRecWear } }
    let s := (scanned s (8 * recPage 0) (8 * 1536)).foldl State.readErr s
    let s := (scanned s (8 * 2048) (8 * 2048 + 2 * s.logScanned)).foldl State.readErr s
    s.drainLog.pay.wearUpdate
  else s)

/-! ## Brown-outs (R46, R48, R51, R221) -/

/-- The phases in which the top-note domain runs or is about to. -/
def State.topPhase (s : State) : Bool :=
  s.sys.phase = .start || s.sys.phase = .run || s.sys.phase = .powerDown || s.sys.phase = .safe

/-- The safe latch clears (R222). -/
def State.clearLatch (s : State) : State :=
  ((s.updSys (fun y => { y with safeLatch := none })).setB R.SYS_RESET_CAUSE.SAFE_HELD false).setF R.SYS_RESET_CAUSE.SAFE_SRC 0

/-- UVLO (R51): in start, run, power-down and the safe state. -/
def execUvlo (cut : Cut) (s : State) : Out := .next (
  if s.topPhase then
    let s := (s.cutLedger cut).topBrown.clearLatch
    (s.disarm T.brown).updSys (fun y => { y with
      phase := .unpowered, brown := .vinRise, nextCause := y.nextCause ||| 8 })
  else s)

/-- The park of the house lockout (R51): the wake sources as last loaded; a BNO period not measured is taken as
3,815 ns. -/
def State.lockout (s : State) : State :=
  (s.setB R.SYS_RESET_CAUSE.HOUSE_LOCKOUT true).updSys (fun y => { y with
    phase := .park, brown := .none, wakeArmed := true, bnoPeriod := if y.bnoPeriod = 0 then 3815 else y.bnoPeriod })

/-- A reset-limit brown-out of a rail other than VBN. -/
def State.brownOut (s : State) (cut : Cut) : State :=
  let s := (s.cutLedger cut).topBrown
  let s := s.updSys (fun y => { y with phase := .start, nextCause := y.nextCause ||| 16 })
  let n := s.fld R.SYS_RESET_CAUSE.HOUSE_CNT + 1
  let s := s.setF R.SYS_RESET_CAUSE.HOUSE_CNT (satNat 8 n)
  if 8 ≤ n then s.lockout else (s.arm T.brown 10000000).updSys (fun y => { y with brown := .tenMs })

/-- A base-note power-on reset (R51): a commit that runs meets it as any loss of power. -/
def State.basePor (s : State) (cut : Cut) : State := (s.cutLedger cut).baseOff .unpowered

/-- BROWN_OUT (R48, R51): a reset limit crossed, with the house rails on; that of VBN is a base-note power-on reset. -/
def execBrownOut (rail : HouseRail) (cut : Cut) (s : State) : Out := .next (
  if rail = .vbn then (if s.sys.phase = .flacon then s else s.basePor cut)
  else if s.topPhase && decide (2 ≤ s.sys.stage.ord) then s.brownOut cut else s)

/-- BN_POR (R51): VBN below 2.50 V. -/
def execBnPor (cut : Cut) (s : State) : Out := .next (if s.sys.phase = .flacon then s else s.basePor cut)

/-- Whether the house rails run. -/
def State.houseOn (s : State) : Bool := s.topPhase && decide (2 ≤ s.sys.stage.ord)

/-- HSUP_OVERVOLTAGE (R46). -/
def execHsupOvervoltage (s : State) : Out := .next (
  if s.houseOn && !s.sys.hsupOv then (s.updSys (fun y => { y with hsupOv := true })).raise 61 else s)

/-- HSUP_OV_RECOVER (R46). -/
def execHsupOvRecover (s : State) : Out := .next (s.updSys (fun y => { y with hsupOv := false }))

/-- Whether HB5 switches (R46, R48). -/
def State.hb5On (s : State) : Bool := s.houseOn && !s.sys.hsupOv && !s.sys.vcc5Ov

/-- HOUSE_RAIL_EXCURSION (R48, R49): VCC5 has no lower window; below 4.30 V it closes the commit guard. -/
def execHouseRailExcursion (rail : HouseRail) (high : Bool) (s : State) : Out := .next (
  if s.houseOn then
    match rail, high with
    | .vcc5, true => (s.updSys (fun y => { y with vcc5Ov := true })).raise 61
    | .vcc5, false => s.setB R.SYS_STATUS.VCC5_OK false
    | .vdd08, _ => (s.setB R.SYS_STATUS.VDD08_OK false).raise 61
    | .vdda18, _ => (s.setB R.SYS_STATUS.VDDA18_OK false).raise 61
    | .vddio33, _ => (s.setB R.SYS_STATUS.VDDIO33_OK false).raise 61
    | .vbn, _ => (s.setB R.SYS_STATUS.VBN_OK false).raise 61
  else s)

/-- VCC5_OV_RECOVER (R48): VCC5 below 5.20 V. -/
def execVcc5OvRecover (s : State) : Out := .next (s.updSys (fun y => { y with vcc5Ov := false }))

/-- RESTART_DRAINED (R221): the latch clears, the top-note domain goes as at a brown-out, and the start follows after
10 ms. -/
def execRestartDrained (s : State) : Out := .next (
  if s.sys.phase = .safe && s.ledg.drain = .restart && s.ledgDrained then
    let s := s.clearLatch.topBrown
    (s.arm T.brown 10000000).updSys (fun y => { y with phase := .start, brown := .restart })
  else s)

/-! ## Clocks (R52 to R54) -/

/-- XIN_QUALIFIED (R52). -/
def execXinQualified (s : State) : Out := .next (
  if s.sys.xinWait then
    ((s.updSys (fun y => { y with xinWait := false })).disarm T.xin).setB R.SYS_CLK_STATUS.SRC true
  else s)

/-- XIN_QUALIFY_TIMEOUT (R52): 5 ms after t6. -/
def execXinQualifyTimeout (s : State) : Out := .next (
  if s.sys.xinWait then
    match s.expire T.xin with
    | some s => ((s.updSys (fun y => { y with xinWait := false })).setB R.SYS_CLK_STATUS.XIN_FAIL true).raise 60
    | none => s
  else s)

/-- XIN_MONITOR_FAIL (R53): from the move to XIN. -/
def execXinMonitorFail (s : State) : Out := .next (
  if s.bit R.SYS_CLK_STATUS.SRC then
    ((s.setB R.SYS_CLK_STATUS.SRC false).setB R.SYS_CLK_STATUS.XIN_FAIL true).raise 60
  else s)

/-- REF100_MONITOR_FAIL (R53). -/
def execRef100MonitorFail (s : State) : Out := .next (
  if s.topOn then (s.setB R.SYS_CLK_STATUS.REF_FAIL true).raise 60 else s)

/-- BNO_MONITOR_FAIL (R53): BNO_FAIL refuses park entry until it is cleared. -/
def execBnoMonitorFail (s : State) : Out := .next (
  if s.topOn then (s.setB R.SYS_CLK_STATUS.BNO_FAIL true).raise 60 else s)

/-- PLLE_UNLOCK (R53, R54): every tile's outputs take their safe values, which the action lines keep; engines halt; a
reconfiguration that runs ends. -/
def execPlleUnlock (s : State) : Out := .next (
  if s.sys.pllE = .locked || s.sys.pllE = .reconfiguring then
    let s := s.safeLines none
    let s := ((s.updSys (fun y => { y with pllE := .out, plleLost := true })).disarm T.reconfig).showLocked
    let s := if s.acrd.switching then s else s.updAcrd (fun a => { a with heldAct := a.act })
    (s.setB R.SYS_CLK_STATUS.PLLE_UNLOCK true).haltAll.raise 60
  else s)

/-- PLLE_RELOCK (R54): a configured fabric is configured again, in 2,621.44 µs. -/
def execPlleRelock (s : State) : Out := .next (
  if s.sys.pllE = .out then
    if s.fabricOn then ((s.updSys (fun y => { y with pllE := .reconfiguring })).arm T.reconfig 2621440).showLocked
    else (s.updSys (fun y => { y with pllE := .locked })).showLocked
  else s)

/-- PLLE_RECONFIG_DONE (R54): the tile outputs are released together, but not before the release of a switch. -/
def execPlleReconfigDone (s : State) : Out := .next (
  if s.sys.pllE = .reconfiguring then
    match s.expire T.reconfig with
    | some s =>
      let s := (s.updSys (fun y => { y with pllE := .locked })).freshTiles
      if s.acrd.switching then s else s.releaseLines.rstoRefresh
    | none => s
  else s)

/-- PLLM_UNLOCK (R53): words are invalid until the lock returns. -/
def execPllmUnlock (s : State) : Out := .next (
  if s.sys.pllM = .locked then
    let s := (s.updSys (fun y => { y with pllM := .out })).showLocked
    (s.setB R.SYS_CLK_STATUS.PLLM_UNLOCK true).raise 60
  else s)

/-- PLLM_RELOCK (R53). -/
def execPllmRelock (s : State) : Out := .next (
  if s.sys.pllM = .out then (s.updSys (fun y => { y with pllM := .locked })).showLocked else s)

/-! ## Power commands, park and flacon (R56 to R61) -/

/-- Whether a power command is accepted: in run, or in power-down before drydown (R61); one to flacon not while VIN is
above 6.0 V (R60). -/
def State.powerOk (s : State) (refuse : Bool) : Bool :=
  (s.sys.phase = .run || s.sys.phase = .powerDown) && s.sys.dry = .idle && !refuse

/-- An accepted power command but for the rails: its destination, the armed wakes, the watchdog and the commit (R58,
R61, R165, R252). -/
def State.powerEnter (s : State) (flacon : Bool) : State :=
  let first := s.sys.phase = .run
  let s := (s.setB R.SYS_STATUS.DEST_FLACON flacon).event 74
  let s := if first then
      ((s.updSys (fun y => { y with phase := .powerDown, wakeArmed := true, wakePending := 0 })).setF R.SYS_STATUS.PHASE 3).wdStop
    else s
  s.requestCommit

/-- A power command of this device: accepted with its destination, or refused (R61); the rails' power-down order
begins with the first. -/
def State.powerCommand (s : State) (flacon refuse : Bool) : State :=
  if s.powerOk refuse then
    let first := s.sys.phase = .run
    let s := s.powerEnter flacon
    if first then s.seqPowerDown else s
  else s.setB R.SYS_STATUS.PWR_REFUSED true

/-- A wake by the sources of a mask of SYS_WAKE_CAUSE bits (R57, R58). -/
def State.wake (s : State) (src : Nat) : State :=
  match s.sys.phase with
  | .park => (s.setReg R.SYS_WAKE_CAUSE.reg (BitVec.ofNat 32 src)).toStart 0x20
  | .start => if s.sys.stage = .off && s.sys.nextCause.testBit 5
      then s.setReg R.SYS_WAKE_CAUSE.reg (s.reg R.SYS_WAKE_CAUSE.reg ||| BitVec.ofNat 32 src) else s
  | .powerDown => if s.sys.wakeArmed then s.updSys (fun y => { y with wakePending := y.wakePending ||| src }) else s
  | _ => s

/-- SYS_PARK_ALARM as one time. -/
def State.parkAlarm (s : State) : Nat := (s.pair R.SYS_PARK_ALARM_LO.reg R.SYS_PARK_ALARM_HI.reg).toNat

/-- The enabled level-sensitive wake sources that are active (R57, R58), as SYS_WAKE_CAUSE bits: WAKE_n at its active
level, SVC_N low for 200 ms, the park alarm reached. -/
def State.wakeLevels (s : State) : Nat :=
  let pol := s.fld R.SYS_WAKE_CFG.POL
  let on := fun (n : Nat) => (s.fld R.SYS_WAKE_CFG.EN_WAKE).testBit n && s.sys.pinLines.testBit n == pol.testBit n
  (List.range 4).foldl (fun m n => if on n then m + 2 ^ n else m) 0 +
  (if s.bit R.SYS_WAKE_CFG.EN_SVC && s.sys.svcLow && decide (s.sys.svcFrom + 200000000 ≤ s.ns) then 0x200 else 0) +
  (if s.bit R.SYS_WAKE_CFG.EN_ALARM && decide (s.parkAlarm ≤ s.now.toNat) then 0x400 else 0)

/-- PARK_ENTRY (R56, R58): drydown recorded, the Ledger drained, and BNO good; a latched wake starts the device, and so
does a level-sensitive one that is still active. -/
def execParkEntry (bnoPeriod : Nat) (s : State) : Out := .next (
  if s.sys.phase = .powerDown && !s.bit R.SYS_STATUS.DEST_FLACON && (s.sys.dry = .recorded || s.sys.dry = .done) && s.ledgDrained &&
      !s.bit R.SYS_CLK_STATUS.BNO_FAIL then
    let s := s.topOff.updSys (fun y => { y with phase := .park, bnoPeriod := bnoPeriod })
    let src := s.sys.wakePending ||| s.wakeLevels
    if src = 0 then s else s.wake (src ||| (if s.sys.wakePending = 0 then 0 else 0x800))
  else s)

/-- FLACON_ENTRY (R60): the base-note domain is switched off too. -/
def execFlaconEntry (s : State) : Out := .next (
  if s.sys.phase = .powerDown && s.bit R.SYS_STATUS.DEST_FLACON && (s.sys.dry = .recorded || s.sys.dry = .done) && s.ledgDrained
  then s.baseOff .flacon else s)

/-- WAKE_INPUT_WAKE (R57). -/
def execWakeInputWake (n : Fin 4) (s : State) : Out := .next (
  if (s.fld R.SYS_WAKE_CFG.EN_WAKE).testBit n then s.wake (2 ^ n.val) else s)

/-- Whether the address matcher stands in for the bus in a start: the straps are latched, and the top-note clocks do not
run yet (R271). -/
def State.matching (s : State) : Bool := s.sys.phase = .start && s.sys.address.isSome && !s.topOn

/-- BUS_ADDRESS_WAKE (R57, R269, R271): the wake, and SCL stretched until the top-note clocks run. -/
def execBusAddressWake (s : State) : Out := .next (
  if s.bit R.SYS_WAKE_CFG.EN_BUS then
    let s := if s.matching then s.setReg R.SYS_WAKE_CAUSE.reg (s.reg R.SYS_WAKE_CAUSE.reg ||| 0x100#32) else s.wake 0x100
    if s.matching then { s with host := { s.host with stretch := true } } else s
  else s)

/-- LINK_ACTIVITY_WAKE (R57). -/
def execLinkActivityWake (n : Fin 4) (s : State) : Out := .next (
  if (s.fld R.SYS_WAKE_CFG.EN_LINK).testBit n then s.wake (2 ^ (4 + n.val)) else s)

/-- SVC_N_WAKE (R57). -/
def execSvcNWake (s : State) : Out := .next (if s.bit R.SYS_WAKE_CFG.EN_SVC then s.wake 0x200 else s)

/-- PARK_ALARM_WAKE (R57): the report carries time to the alarm. -/
def execParkAlarmWake (s : State) : Out := .next (
  if s.bit R.SYS_WAKE_CFG.EN_ALARM && (s.sys.phase = .park || s.sys.phase = .powerDown) then
    (s.notBefore (s.localAt s.parkAlarm)).wake 0x400
  else if s.bit R.SYS_WAKE_CFG.EN_ALARM && decide (s.localAt s.parkAlarm ≤ s.ns) then s.wake 0x400
  else s)

/-- PARK_VIN_UVLO_CHANGE (R44, R59). -/
def execParkVinUvloChange (below batAbove5 : Bool) (s : State) : Out := .next (
  if s.sys.phase = .park then
    if below && !batAbove5 then s.baseOff .unpowered else s.updSys (fun y => { y with batLeg := below })
  else s)

/-- LONG_PRESS_END (R190): 300 ms after the press; with the supply lost meanwhile the device starts as from flacon. -/
def execLongPressEnd (supplyLost : Bool) (s : State) : Out := .next (
  match s.expire T.longEnd with
  | none => s
  | some s =>
    if supplyLost || s.sys.phase = .unpowered then (s.baseOff .flacon).freshStable.zeroTime.toStart 0x40
    else if !s.bit R.PATH_SVC.LPACT then s
    else (s.longPressOver false).updSys (fun y => { y with batLeg := s.topPhase }))

/-! ## Life cycle (R62, R63) -/

/-- Whether a key slot is provisioned and not revoked (R248). -/
def State.slotUsable (s : State) (k : Nat) : Bool :=
  s.pageReadable 1 && !(bytesAt (s.pageBytes 1) 0 1).testBit k && s.pageReadable (3 + k)

/-- The condition of Table 3.8 for a transition without a signed request. -/
def State.lcCondition (s : State) (dst : Nat) : Bool :=
  if dst = 2 then (List.range 4).any s.slotUsable && (List.range 128).all s.pageReadable
  else
    match s.acrd.active with
    | none => false
    | some b =>
      let im := s.bankImage b
      !s.acrd.defaults && s.judgeCause im = 0 && (bytesAt im 0x1A 1).testBit 2 && !(bytesAt im 0x1B 1).testBit 0

/-- The Ledger reads that judging a condition of Table 3.8 takes (R249). -/
def State.lcReads (s : State) (dst : Nat) : State :=
  if dst = 2 then (List.range 128).foldl State.touchPage s
  else
    match s.acrd.active with
    | none => s
    | some b => (s.judgeBank b).2

/-- An accepted transition (R62). -/
def State.lcAccept (s : State) (dst : Nat) : State :=
  let s := ((s.setF R.SYS_LC_STATUS.RESULT 1).setB R.SYS_LC_STATUS.PEND true).setF R.SYS_LC_STATUS.NEXT dst
  (s.commitLifeCycle dst).pay

/-- A write of SYS_LC_CMD (R62). -/
def State.lcRequest (s : State) (w : Word) : State :=
  let lc := s.fld R.SYS_STATUS.LC
  let dst := w.field 0 3
  if w.field 24 8 ≠ 0xA9 || s.sys.lcJudging then s
  else if s.bit R.SYS_LC_STATUS.PEND || s.ledg.keyMove || lc = 0 || 3 < lc || dst ≠ lc + 1 then s.setF R.SYS_LC_STATUS.RESULT 2
  else if lc = 3 then (s.updSys (fun y => { y with lcJudging := true })).arm T.lcJudge 1000000
  else
    let ok := s.lcCondition dst
    let s := s.lcReads dst
    if ok then s.lcAccept dst else s.setF R.SYS_LC_STATUS.RESULT 3

/-- LC_TRANSITION_REQUEST (R62): by the host bus or the quad port only. -/
def execLcTransitionRequest (r : Req) (w : Word) (s : State) : Out := .next (
  match r with
  | .engine _ => s
  | .link => s
  | _ => if s.may r R.SYS_LC_CMD.reg true none
    then (if 4 ≤ s.sys.stage.ord then (s.lcRequest w).hostWrite r 0xD1 w.toNat else s)
    else s.denied r true)

/-- The bytes of the return request (Table 3.9). -/
def State.returnRequest (s : State) : List Byte := (List.range 40).flatMap (fun i => leBytes 4 (s.reg (R.SYS_LC_REQ.reg i)).toNat)

/-- The result code of a return request (R63). -/
def State.judgeReturn (s : State) : Nat :=
  let q := s.returnRequest
  let k := bytesAt q 0x1C 1
  if bytesAt q 0 4 ≠ 0x4E525452 then 4
  else if slice q 4 16 ≠ (s.pageBytes 0).take 16 ||
    bytesAt q 0x14 8 ≠ (s.pair R.SYS_LC_NONCE_LO.reg R.SYS_LC_NONCE_HI.reg).toNat then 5
  else if 3 < k || !s.slotUsable k || sha256 (slice q 0x20 64) ≠ (s.pageBytes (3 + k)).take 32 then 6
  else if !ecdsaOk (slice q 0x20 64) (slice q 0x60 64) (sha256 (q.take 0x60)) then 7
  else 1

/-- RETURN_REQUEST_JUDGED (R63): no later than 1 ms after the command, on the request registers as they then stand
(DESIGN CHOICE, log entry 141). -/
def execReturnRequestJudged (s : State) : Out := .next (
  if s.sys.lcJudging then
    let c := s.judgeReturn
    let k := bytesAt s.returnRequest 0x1C 1
    let s := if c = 4 then s else s.touchPage 0
    let s := if decide (6 ≤ c) && decide (k ≤ 3) || c = 1 then (s.touchPage 1).touchPage (3 + k) else s
    let s := (s.updSys (fun y => { y with lcJudging := false })).disarm T.lcJudge
    let s := if c = 1 then s.lcAccept 4 else s.setF R.SYS_LC_STATUS.RESULT c
    (List.range 40).foldl (fun s i => s.setReg (R.SYS_LC_REQ.reg i) 0#32) s.freshNonce
  else s)

/-! ## Test access, pin-state and time lines (R41 to R43) -/

/-- TAP_OPERATION (R41, R42): in FACTORY and RETURN; elsewhere the port is held in reset.  What TDO gives in a shift is a
free value. -/
def execTapOperation (op : TapOp) (s : State) : Out := .next (
  if decide (4 ≤ s.sys.stage.ord) && (s.fld R.SYS_STATUS.LC = 1 || s.fld R.SYS_STATUS.LC = 4) then
    let f := s.takeFree
    f.2.updSys (fun y => match op with
      | .reset => { y with tapReset := true, scanDrive := none }
      | .shiftIr i => { y with tapReset := false, tapIr := i.toNat, tapOut := (List.range 8).map (Config.tapBit f.1) }
      | .shiftDr l => { y with tapReset := false, tapDr := l, tapOut := (List.range l.length).map (Config.tapBit f.1) }
      | .update => { y with scanDrive := if !y.tapReset && Config.tapDrives (BitVec.ofNat 8 y.tapIr) then some y.tapDr else none })
  else s)

/-- HIERARCHY_TIME_BIT_EDGE (R43): time reaches the next instant at which bit 10 + k of the hierarchy time toggles. -/
def execHierarchyTimeBitEdge (k : Fin 32) (s : State) : Out := .next (
  if s.topOn then
    let p := 2 ^ (10 + k.val)
    s.notBefore (s.localAt ((s.now.toNat / p + 1) * p : Nat))
  else s)

end Sys2Proof.Machine
end

