-- ==== Sys2Proof/Machine/Records.lean ====
section
/-! DEFINITION.  The Ledger's commits, record operations and engine log records (R251 to R259, R333). -/

namespace Sys2Proof.Machine

/-- Whether the Ledger serves requesters: from t6 of a start (R249). -/
def State.ledgOn (s : State) : Bool := 4 ≤ s.sys.stage.ord

/-- The oldest waiting write that may and can take its slot, with the state then; `before` are those already passed over
(R251). -/
def State.placeFirst (s : State) : (before l : List WaitWrite) → Option State
  | _, [] => none
  | before, w :: rest =>
    match (if before.any w.behind then none else { s with ledg := { s.ledg with waiting := before ++ rest } }.placeWait w) with
    | some t => some t
    | none => State.placeFirst s (before ++ [w]) rest

/-- WAITING_WRITE_PLACED (R251): the oldest write that can takes its slot, each requester's queue in its order. -/
def execWaitingWritePlaced (s : State) : Out := .next (
  match s.placeFirst [] s.ledg.waiting with
  | some t => t.commitIfFull.pay
  | none => s)

/-- COMMIT_COMMAND (R252). -/
def execCommitCommand (r : Req) (s : State) : Out := .next (
  if s.ledgOn && s.may r R.LEDG_CTRL.reg true none then s.requestCommit.hostWrite r 0xD1 1 else s.denied r true)

/-- COMMIT_AGE_EXPIRY (R252). -/
def execCommitAgeExpiry (s : State) : Out := .next (
  match s.expire T.commitAge with
  | some s => s.requestCommit
  | none => s)

/-- A commit that a request or an accepted life-cycle transition waits for starts, the guard permitting (R62, R252). -/
def State.nextCommit (s : State) : State :=
  match s.ledg.lcRunning with
  | some lc => (s.commitLifeCycle lc).pay
  | none => s.requestCommit

/-- COMMIT_GUARD_RELEASE (R252): VCC5 passes 4.30 V. -/
def execCommitGuardRelease (s : State) : Out := .next (
  if s.houseOn then
    let held := s.bit R.LEDG_STATUS.HELD
    let s := (s.setB R.SYS_STATUS.VCC5_OK true).setB R.LEDG_STATUS.HELD false
    if held then s.nextCommit else s
  else s)

/-- The drydown ends when its record is committed (R316); a fatal source raised since the record was written is entered
first (R317; DESIGN CHOICE, log entry 194). -/
def State.dryStored (s : State) : State :=
  if s.sys.dry = .recorded && (s.ledg.recPend.find 2).isNone && !s.recWaits 2 then
    if s.bist.fatals.isEmpty then State.showBist { s with sys := { s.sys with dry := .done } }
    else
      let l := s.bist.dryFails ++ s.bist.fatals.map (fun f => (0, f))
      let s := s.updBist (fun b => { b with fatals := [], dryFails := l })
      (s.deviceRecord 2 (dryRecord l s.bist.tj s.bist.dryTime s.bist.dryCount)).requestCommit
  else s

/-- COMMIT_END (R252, R333): the next commit follows where one was requested or the Ledger is being drained. -/
def execCommitEnd (s : State) : Out := .next (
  match s.expire T.commitEnd with
  | none => s
  | some s =>
    let again := s.ledg.again
    let s := s.endCommit.drainLog.pay
    (if s.ledg.lcRunning.isSome || (again && s.ledg.running.isEmpty) then s.nextCommit else s).dryStored)

/-- The words of both stored copies of a record are read (R249, R255). -/
def State.touchRecord (s : State) (r : Nat) : State :=
  if (s.ledg.recPend.find r).isSome then s
  else (List.range 4).foldl (fun s i => (s.ledgReadWord (recWord r false + i)).2) s

/-- The end of a record operation of requester copy `q` (LEDG_REC_STAT). -/
def State.recDone (s : State) (q result : Nat) (pending sat : Bool) : State :=
  ((((s.setReg (R.LEDG_REC_STAT.reg q) 0#32).setB (R.LEDG_REC_STAT.DONE q) true).setF (R.LEDG_REC_STAT.RESULT q) result).setB
    (R.LEDG_REC_STAT.PENDING q) pending).setB (R.LEDG_REC_STAT.SAT q) sat

/-- A record read by requester copy `q` (R255, R256). -/
def State.recFetch (s : State) (q r : Nat) : State :=
  let s := s.touchRecord r
  let x := s.recRead r
  (s.setPair (R.LEDG_REC_VAL_LO.reg q) (R.LEDG_REC_VAL_HI.reg q) x.1).recDone q (if x.2.2 then 0 else 1) x.2.1 false

/-- A record update by requester copy `q`: refused for a device record or an exhausted generation (R256, R257). -/
def State.recUpdate (s : State) (q r : Nat) (v : BitVec 64) (sat : Bool) : State :=
  if r < 16 then s.recDone q 2 false false
  else if (s.recNext r).isNone then (s.touchRecord r).recDone q 3 false false
  else (s.recordOf q r v).recDone q 0 false sat

/-- An ADD: the value with an unsigned increment, held at all ones. -/
def State.recAdd (s : State) (q r : Nat) (inc : Word) : State :=
  let v := s.recLatest r
  s.recUpdate q r (addSat64 v inc.toNat) (decide (2 ^ 64 ≤ v.toNat + inc.toNat))

/-- RECORD_READ (R255). -/
def execRecordRead (r : Req) (rec : BitVec 9) (s : State) : Out := .next (
  if s.ledgOn && s.may r 0x40090020 true none then (s.recFetch (reqCode r) rec.toNat).hostWrite r 0xD1 rec.toNat else s.denied r true)

/-- RECORD_SET (R256). -/
def execRecordSet (r : Req) (rec : BitVec 9) (value : BitVec 64) (s : State) : Out := .next (
  if s.ledgOn && s.may r 0x40090020 true none then
    ((s.setPair (R.LEDG_REC_VAL_LO.reg (reqCode r)) (R.LEDG_REC_VAL_HI.reg (reqCode r)) value).recUpdate
      (reqCode r) rec.toNat value false).hostWrite r 0xD1 rec.toNat
  else s.denied r true)

/-- RECORD_ADD (R256). -/
def execRecordAdd (r : Req) (rec : BitVec 9) (inc : Word) (s : State) : Out := .next (
  if s.ledgOn && s.may r 0x40090020 true none then
    ((s.setReg (R.LEDG_REC_VAL_LO.reg (reqCode r)) inc).recAdd (reqCode r) rec.toNat inc).hostWrite r 0xD1 rec.toNat
  else s.denied r true)

/-- An event-log record of engine firmware (R259): only a SOURCE from 0x8000. -/
def State.engineLog (s : State) (q code source : Nat) : State :=
  if 0x8000 ≤ source
  then s.queueLog source code (if s.powerDown then 0x40 else 0) (s.fld (R.LEDG_LOG_DATA.DATA q)) else s

/-- LOG_RECORD_ADD (R259). -/
def execLogRecordAdd (r : Req) (code : Byte) (source : BitVec 16) (s : State) : Out := .next (
  if s.ledgOn && s.may r 0x40090030 true none then
    (s.engineLog (reqCode r) code.toNat source.toNat).hostWrite r 0xD1 source.toNat
  else s.denied r true)

end Sys2Proof.Machine
end

