-- ==== Sys2Proof/Machine/Bist.lean ====
section
/-! DEFINITION.  The self-test controller (spec/16): run-time slices and their schedule, drydown and its record,
and the direct commands. -/

namespace Sys2Proof.Machine

/-! ## Slices (R312 to R315, Table 16.1) -/

/-- The pairs of slice and resource of a domain's rotation: ascending codes, resources in index order. -/
def sliceCatalogue : Nat → List (Nat × Nat)
  | 0 => (List.range 3).map (fun i => (4, i))
  | 1 => (List.range 4).map (fun i => (1, i)) ++ ((List.range 64).map (fun i => (2, i)) ++
      ((List.range 24).map (fun i => (3, i)) ++ ((List.range 8).map (fun i => (5, i)) ++
      ((List.range 24).map (fun i => (6, i)) ++ (List.range 48).map (fun i => (7, i))))))
  | _ => (List.range 16).map (fun i => (8, i))

/-- Whether the slice of a pair may run on its resource now (Table 16.1). -/
def State.sliceEligible (s : State) (code i : Nat) : Bool :=
  match code with
  | 2 => s.bit (R.SUP_MON_CFG.EN i)
  | 5 => decide (s.fld (R.MEAS_MC_CFG.OSR i) ≤ 2) &&
      (match (s.conv i).visit with | some v => v.urgent.isNone | none => true)
  | 6 => s.lstate i = L.off
  | 7 => !s.bit (R.PH_CFG.EN i) || s.lstate (s.fld (R.PH_CFG.LOOP i)) = L.off
  | 8 => s.fld (R.ENG_STATUS.STATE i) = 0
  | _ => true

/-- Whether BIST_MASK enables a slice code. -/
def State.sliceMasked (s : State) (code : Nat) : Bool := (s.reg R.BIST_MASK.reg).toNat.testBit code

/-- The source that a confirmed failure of a slice raises. -/
def sliceSource (code : Nat) : Nat := if code = 1 then 62 else 58

/-- Slice `x` of domain `d` begins. -/
def State.beginSlice (s : State) (d : Nat) (x : Nat × Nat) : State :=
  let s := if x.1 = 5 then s.lendConv x.2 else s
  s.setSlice d (some x)

/-- All three domains have completed their rotations since the last time they had (R315). -/
def State.roundDone (s : State) (d : Nat) : State :=
  let s := s.updBist (fun b => { b with rounds := b.rounds ||| 2 ^ d })
  if s.bist.rounds = 7 then (s.updBist (fun b => { b with rounds := 0 })).event 72 else s

/-- What domain `d` does at a slice instant: the slice it must repeat, or the next eligible pair of its rotation, or
a deferral (R313, R315). -/
def State.domainInstant (s : State) (d : Nat) : State :=
  match s.bist.again.at none d with
  | some x => if s.sliceEligible x.1 x.2 then s.beginSlice d x else s.countDefer
  | none =>
    let l := sliceCatalogue d
    let at' := s.bist.place.at 0 d
    let ok := fun (e : (Nat × Nat) × Nat) => s.sliceMasked e.1.1 && s.sliceEligible e.1.1 e.1.2
    match ((l.zipIdx.drop at').find? ok), (l.zipIdx.find? ok) with
    | some e, _ => (s.updBist (fun b => { b with place := b.place.put 0 d (e.2 + 1) })).beginSlice d e.1
    | none, some e => ((s.updBist (fun b => { b with place := b.place.put 0 d (e.2 + 1) })).roundDone d).beginSlice d e.1
    | none, none => s.countDefer

/-- The time from now to the next slice instant, one that has been taken apart (R313). -/
def State.toInstant (s : State) : Nat :=
  let per := min 100 (max 1 (s.fld R.BIST_CFG.PER)) * 1000000
  let ofs := s.fld R.BIST_CFG.OFS * 100000 % per
  let skip := if s.bist.instant = some s.ns then 1 else 0
  skip + (per + ofs - (s.now.toNat + skip) % per) % per

/-- Whether slices start now (R313). -/
def State.slicesRun (s : State) : Bool :=
  s.sys.stage = .released && (s.sys.phase = .run || s.sys.phase = .safe || s.sys.phase = .powerDown) && s.sys.dry = .idle &&
    s.bit R.BIST_CFG.EN

/-- SLICE_INSTANT (R313): the report carries time to the next instant.  A domain whose slice still runs starts none,
and none starts during a scheduled switch. -/
def execSliceInstant (s : State) : Out := .next (
  if s.slicesRun then
    let s := s.notBefore (s.ns + s.toInstant)
    let s := s.updBist (fun b => { b with instant := some s.ns })
    if s.acrd.switching then s
    else (List.range 3).foldl (fun s d => if (s.sliceOf d).isSome then s else s.domainInstant d) s
  else s)

/-- A sillage record of a slice (R315). -/
def State.sliceRec (s : State) (code : Nat) (x : Nat × Nat) : State :=
  s.traceRec 0x0C00 code (x.1 * 2 ^ 24 + x.2 * 2 ^ 16)

/-- A confirmed failure of a slice (R315). -/
def State.sliceConfirmed (s : State) (x : Nat × Nat) : State :=
  let s := (s.raise (sliceSource x.1)).count B.bist R.BIST_CNT.FAIL R.BIST_CNT.SAT_F
  let s := ((s.setB R.BIST_LAST.VALID true).setF R.BIST_LAST.CODE x.1).setF R.BIST_LAST.INDEX x.2
  (s.sliceRec 2 x).event 72

/-- SLICE_END (R315): of the slice that domain `dom` runs. -/
def execSliceEnd (dom : Fin 3) (pass : Bool) (s : State) : Out := .next (
  match s.sliceOf dom with
  | none => s
  | some x =>
    let repeated := s.bist.again.at none dom == some x
    let s := s.setSlice dom none
    let s := if x.1 = 5 then s.returnConv x.2 else s
    let s := s.updBist (fun b => { b with again := b.again.put none dom (if pass || repeated then none else some x) })
    if pass then (if repeated then s.sliceRec (Config.recordCode 11) x else s)
    else if repeated then s.sliceConfirmed x
    else s.sliceRec 1 x)

/-! ## Drydown (R316 to R318) -/

/-- A drydown begins; slices that still run are abandoned, since drydown takes their resources. -/
def State.dryBegin (s : State) (direct : Bool) (tj : Int) : State :=
  let s := s.abandonSlices (fun _ _ => true)
  let s := s.updBist (fun b => { b with fatals := [], tj := tj, dryAt := s.ns, direct := direct })
  State.showBist { s with sys := { s.sys with dry := .running } }

/-- DRYDOWN_START (R316): a commanded power-down has brought every rail to OFF or LATCHED; `tj` is the highest die
temperature in °C. -/
def execDrydownStart (tj : Int) (s : State) : Out := .next (
  if s.sys.phase = .powerDown && s.sys.dry = .idle && !s.link.cascOn && s.railsOn.all s.railDown
  then s.dryBegin false tj else s)

/-- The failures of the drydown that runs, in the order of time, from a report, and its duration. -/
def State.dryFound (s : State) (fails : List Check) (told : Nat) : List (Nat × Nat) × Nat :=
  let l := checksRun dryOrder [] fails
  (failuresInTime l s.bist.fatals, testNs false 109300000 180000000 l told)

/-- The drydown that runs has done its checks: its record is written and its commit requested; what is queued drains
before park or flacon entry (R318, R333). -/
def State.dryReport (s : State) (l : List (Nat × Nat)) (d : Nat) : State :=
  let n := (s.recLatest 2).toNat + 1
  let prev := if (s.ledg.recPend.find 2).isSome || s.recWaits 2 then some (s.recLatest 2) else none
  let s := s.updBist (fun b => { b with fatals := [], dryFails := l, dryTime := d / 10000, dryCount := n, dryPrev := prev })
  let s := { s with sys := { s.sys with dry := .recorded } }.beginDrain .park
  let s := (List.range 8).foldl State.returnConv s
  ((s.deviceRecord 2 (dryRecord l s.bist.tj (d / 10000) n)).showBist).requestCommit


/-! ## Direct access (R321) -/

/-- BIST_CMDRES of a direct command that ran, with its failures in the order of time. -/
def State.cmdResult (s : State) (l : List (Nat × Nat)) : State :=
  let s := (s.setReg R.BIST_CMDRES.reg 0#32).setB R.BIST_CMDRES.DONE true
  let s := (s.setB R.BIST_CMDRES.PASS l.isEmpty).setF R.BIST_CMDRES.FAILS (satNat 255 l.length)
  match l with
  | e :: _ => (s.setF R.BIST_CMDRES.ITEM e.1).setF R.BIST_CMDRES.INDEX e.2
  | [] => s

/-- BIST_CMDRES of a direct command that was not eligible. -/
def State.cmdRefused (s : State) : State :=
  ((s.setReg R.BIST_CMDRES.reg 0#32).setB R.BIST_CMDRES.DONE true).setB R.BIST_CMDRES.REFUSED true

/-- A direct drydown ends: BIST_CMDRES reports its failures, and record 2 stays as it is. -/
def State.directEnd (s : State) (l : List (Nat × Nat)) : State :=
  let s := State.showBist { s.updBist (fun b => { b with direct := false }) with sys := { s.sys with dry := .idle } }
  ((List.range 8).foldl State.returnConv s).cmdResult l

/-- DRYDOWN_CHECKS_DONE (R316 to R318): the checks that failed after their repeats, in the order of time, and the
drydown's duration in nanoseconds, within what Table 16.2 and the budget give. -/
def execDrydownChecksDone (fails : List Check) (duration : Nat) (s : State) : Out := .next (
  if s.sys.dry = .running then
    let x := s.dryFound fails duration
    let s := s.notBefore (s.bist.dryAt + x.2)
    if s.bist.direct then s.directEnd x.1 else s.dryReport x.1 x.2
  else s)

/-- A write of `w` to BIST_CMD: a slice that it runs ends with these failures, and a drydown begins (R321). -/
def State.bistCommand (s : State) (w : Word) (fails : List (Nat × Nat)) : State :=
  if s.fld R.SYS_STATUS.LC ≠ 1 && s.fld R.SYS_STATUS.LC ≠ 4 then s.setB R.BIST_STATUS.DENIED true
  else if w.field 24 8 ≠ 0x2D then s
  else
    let s := s.setB R.BIST_CMDRES.DONE false
    let x := (w.field 8 8, w.field 0 8)
    match w.field 16 4 with
    | 1 => if (sliceCatalogue 0 ++ (sliceCatalogue 1 ++ sliceCatalogue 2)).contains x && s.sliceEligible x.1 x.2 &&
        !s.sliceOn x.1 x.2 then s.cmdResult (fails.map (fun _ => x)) else s.cmdRefused
    | 2 => if s.railsOn.all s.railDown && s.sys.dry = .idle then s.dryBegin true s.bist.tj else s.cmdRefused
    | _ => s

/-- BIST_RUN_SLICE (R321): a BIST_CMD write and the slice it runs. -/
def execBistRunSlice (r : Req) (code index : Byte) (pass : Bool) (s : State) : Out := .next (
  if s.topOn && s.may r R.BIST_CMD.reg true none then
    (s.bistCommand (0x2D010000#32 ||| (code.setWidth 32 <<< 8) ||| index.setWidth 32)
      (if pass then [] else [(code.toNat, index.toNat)])).hostWrite r 0xD1 (index.toNat + 256 * code.toNat)
  else s.denied r true)

/-- The fatal sources that a report of a whole drydown names are raised in its course (R317). -/
def State.dryFatals (s : State) (fails : List Check) : State :=
  (fails.filter (fun c => c.item = 0#4 && decide (c.index.toNat < 64) && decide (s.faultClass c.index.toNat = 2))).foldl
    (fun s c => s.raise c.index.toNat) s

/-- BIST_RUN_DRYDOWN (R321): a BIST_CMD write and the drydown it runs, with the fatal raises in its course as checks of
item 0. -/
def execBistRunDrydown (r : Req) (fails : List Check) (s : State) : Out := .next (
  if s.topOn && s.may r R.BIST_CMD.reg true none then
    let idle := s.sys.dry = .idle
    let s := (s.bistCommand 0x2D020000#32 []).hostWrite r 0xD1 0
    if idle && s.sys.dry = .running then
      let s := s.dryFatals fails
      let x := s.dryFound fails 0
      (s.notBefore (s.bist.dryAt + x.2)).directEnd x.1
    else s
  else s.denied r true)

end Sys2Proof.Machine
end

