-- ==== Sys2Proof/Machine/Link.lean ====
section
/-! DEFINITION.  The hierarchy links' shared operations: ports, sending, acknowledging, remote lines, joining, the
switch and the power-down cascade (spec/15). -/

namespace Sys2Proof.Machine

/-- The state with the links' row changed. -/
def State.updLink (s : State) (f : LinkState → LinkState) : State := { s with link := f s.link }

/-! ## Ports (R289, R290) -/

/-- A port of which nothing is known. -/
def PortState.zero : PortState := ⟨0, 0xFF, 0, false, false, 0⟩

/-- The row of port `p`. -/
def State.port (s : State) (p : Nat) : PortState := s.link.ports.at PortState.zero p

/-- The state with the row of port `p` changed. -/
def State.updPort (s : State) (p : Nat) (f : PortState → PortState) : State :=
  s.updLink (fun l => { l with ports := l.ports.upd PortState.zero p f })

/-- The word that an image gives the register at `k` over its reset value. -/
def imageWord (im : Image) (k : Nat) : Word :=
  im.regs.foldl (fun w e => if e.1 = k then (w &&& ~~~(configMask k)) ||| (e.2 &&& configMask k) else w) (resetWord k)

/-- A frame of port `p` passed its CRC: the run of failing ones ends (R290). -/
def State.frameGood (s : State) (p : Nat) : State := if (s.port p).bad = 0 then s else s.updPort p (fun x => { x with bad := 0 })

/-- Whether port `p` is enabled: from the end of the fabric configuration on, by LINK_CFG.PEN, which the loader has
for its image before t3 (R289); under the factory default every port is, for discovery runs and probes are answered
(R15, Table 2.7; DEDUCED, log entry 142). -/
def State.portOn (s : State) (p : Nat) : Bool :=
  decide (7 ≤ s.sys.stage.ord) && decide (p < 4) && (match s.acrd.image with
    | some im => (if s.sys.stage = .released then s.fld R.LINK_CFG.PEN else (imageWord im R.LINK_CFG.reg).field 24 4).testBit p
    | none => true)

/-- LINK_PORT_STATUS.STATE of port `p`: an enabled port that is not up is in bring-up. -/
def State.portState (s : State) (p : Nat) : Nat :=
  let st := s.fld (R.LINK_PORT_STATUS.STATE p)
  if st = 0 && s.portOn p then 1 else st

/-- Whether port `p` is up: up, upstream or blocked. -/
def State.portUp (s : State) (p : Nat) : Bool := decide (2 ≤ s.fld (R.LINK_PORT_STATUS.STATE p))

/-- Whether a frame other than HELLO may use port `p`. -/
def State.portOpen (s : State) (p : Nat) : Bool := s.portUp p && s.fld (R.LINK_PORT_STATUS.STATE p) ≠ 4

/-- The ports. -/
def linkPorts : List Nat := [0, 1, 2, 3]

/-- The upstream port. -/
def State.upPort (s : State) : Option Nat := linkPorts.find? (fun p => s.fld (R.LINK_PORT_STATUS.STATE p) = 3)

/-- The open ports but for the upstream one. -/
def State.downPorts (s : State) : List Nat := linkPorts.filter (fun p => s.fld (R.LINK_PORT_STATUS.STATE p) = 2)

/-- Whether this device is the MANAGER. -/
def State.manager (s : State) : Bool := s.bit R.LINK_CFG.MGR

/-- This device's number. -/
def State.dev (s : State) : Nat := s.fld R.LINK_ID.DEV

/-- Whether this device is a joined WORKER. -/
def State.worker (s : State) : Bool := !s.manager && s.bit R.LINK_ID.JOINED

/-- The port that leads to device `d`: recorded, else upstream. -/
def State.portTo (s : State) (d : Nat) : Option Nat :=
  match s.link.routes.at none d with
  | some p => some p
  | none => if s.manager then none else s.upPort

/-- The devices the MANAGER can reach. -/
def State.joinedDevs (s : State) : List Nat := (s.link.routes.filter (fun e => e.2.isSome)).map (fun e => e.1)

/-- The depth this device reports. -/
def State.depthByte (s : State) : Nat := if s.manager then 0 else if s.bit R.LINK_ID.JOINED then s.fld R.LINK_ID.DEPTH else 0xFF

/-- The DST of a frame to the peer of port `p` alone: the peer's number, or while that is unknown a free value; 0xFF
stands for every joined device (R291). -/
def State.hopDst (s : State) (p : Nat) : Nat × State :=
  let d := s.fld (R.LINK_PORT_STATUS.PEER p)
  if d ≠ 0xFF then (d, s) else let f := s.takeFree; ((Config.freeByte f.1).toNat % 255, f.2)

/-! ## Sending (R291, R296) -/

/-- A new command sends: nothing of it is sent yet. -/
def State.clearSent (s : State) : State := s.updLink (fun l => { l with sent := [] })

/-- A frame of an origin is handed to port `p`; while PLL_E is out of lock the ports send nothing (R54). -/
def State.emitAs (s : State) (p typ src dst seq : Nat) (payload : List Byte) : State :=
  if s.sys.pllE = .out then s else s.updLink (fun l => { l with sent := l.sent ++ [⟨p, typ, src, dst, seq, payload⟩] })

/-- A frame of this device is handed to port `p`. -/
def State.emit (s : State) (p typ dst seq : Nat) (payload : List Byte) : State := s.emitAs p typ s.dev dst seq payload

/-- The next sequence number of this origin. -/
def State.nextSeq (s : State) : Nat × State :=
  (s.link.seqNext, s.updLink (fun l => { l with seqNext := (l.seqNext + 1) % 65536 }))

/-- A frame without acknowledgement to a device, where a port leads to it. -/
def State.sendPlain (s : State) (typ dst : Nat) (payload : List Byte) : State :=
  match s.portTo dst with
  | none => s
  | some p =>
    let x := s.nextSeq
    x.2.emit p typ dst x.1 payload

/-- The ports on which a frame for `dst` goes out. -/
def State.portsFor (s : State) (dst : Nat) : List Nat := if dst = 0xFF then s.downPorts else (s.portTo dst).toList

/-- The frames sent on port `p` that await their acknowledgement. -/
def State.outOn (s : State) (p : Nat) : Nat :=
  (s.link.out.filter (fun o => o.sends ≠ 0 && (s.portsFor o.dst).contains p)).length

/-- A frame is sent, and its 2 ms start. -/
def State.transmit (s : State) (o : OutFrame) : State :=
  let s := (s.portsFor o.dst).foldl (fun s p => s.emit p o.typ o.dst o.seq o.payload) s
  s.arm (T.resend o.seq) 2000000

/-- Frames that found eight unacknowledged on their port go out as far as there is room. -/
def State.pump (s : State) : State :=
  (s.link.out.filter (fun o => o.sends = 0)).foldl (fun s o =>
    if (s.portsFor o.dst).all (fun p => decide (s.outOn p < 8)) then
      (s.updLink (fun l => { l with out := l.out.map (fun x => if x.seq = o.seq then { x with sends := 1 } else x) })).transmit o
    else s) s

/-- A frame that is to be acknowledged by the devices of `waits`: its sequence number, and the state with it sent or
waiting. -/
def State.sendAcked (s : State) (typ dst : Nat) (payload : List Byte) (waits : List Nat) (e : Option Nat) : Nat × State :=
  let x := s.nextSeq
  (x.1, (x.2.updLink (fun l => { l with out := l.out ++ [⟨x.1, typ, dst, payload, 0, waits, e⟩] })).pump)

/-! ## Remote lines (R296, R297) -/

/-- The GOOD vector of this device. -/
def State.goodVec (s : State) : BitVec 64 :=
  (List.range 64).foldl (fun v r => if s.goodLine r then v ||| (1#64 <<< r) else v) 0#64

/-- The vector held of device `d`. -/
def State.vectorOf (s : State) (d : Nat) : BitVec 64 := if d = s.dev then s.goodVec else s.link.vectors.at 0#64 d

/-- The remote lines from the vectors held. -/
def State.showRemote (s : State) : State :=
  let line := fun i =>
    let w := s.reg (R.LINK_RMAP.reg (i / 2))
    let d := w.field (8 + 16 * (i % 2)) 8
    d ≠ 0xFF && (s.vectorOf d).getLsbD (w.field (16 * (i % 2)) 8)
  { s with seq := { s.seq with
    remote := (List.range 256).foldl (fun v i => if line i then v ||| (1#256 <<< i) else v) 0#256 } }

/-- A vector of device `d` is held, and its 30 ms start. -/
def State.holdVector (s : State) (d : Nat) (v : BitVec 64) : State :=
  let s := s.updLink (fun l => { l with vectors := l.vectors.put 0#64 d v })
  ((s.setBitAt (pairKey R.LINK_PRES_LO.reg R.LINK_PRES_HI.reg) d true).arm (T.stale d) 30000000).showRemote

/-- The vector of device `d` is held no longer. -/
def State.dropVector (s : State) (d : Nat) : State :=
  let s := s.updLink (fun l => { l with vectors := l.vectors.put 0#64 d 0 })
  ((s.setBitAt (pairKey R.LINK_PRES_LO.reg R.LINK_PRES_HI.reg) d false).disarm (T.stale d)).showRemote

/-- The payload of a status frame: DEV, RS and CHK. -/
def statusPayload (dev rail : Nat) (good : Bool) : List Byte :=
  let l : List Byte := [BitVec.ofNat 8 dev, BitVec.ofNat 8 ((if good then 128 else 0) + rail)]
  l ++ [crc8 l]

/-- Status frames for the GOOD lines that changed since the last were sent, under this device's number (R293, R296); while
PLL_E is out of lock the ports send nothing, and the change waits (R54). -/
def State.sendGood (s : State) : State :=
  let g := s.goodVec
  let d := g ^^^ s.link.goodWas
  if d = 0#64 || !s.bit R.LINK_ID.JOINED || s.sys.pllE = .out then s
  else
    let ports := linkPorts.filter s.portOpen
    let s := (List.range 64).foldl (fun s r => if d.getLsbD r
      then ports.foldl (fun s p => s.emit p 0 0xFF 0 (statusPayload s.dev r (g.getLsbD r))) s else s) s
    s.updLink (fun l => { l with goodWas := g })

/-! ## HELLO, upstream port and numbers (R292, R293) -/

/-- The serial hash of this device. -/
def State.ownHash (s : State) : BitVec 64 := Config.serialHash ((s.pageBytes 0).take 16)

/-- The header's DEV_PIN. -/
def State.devPin (s : State) : Nat := match s.acrd.image with | some im => im.devPin | none => 0xFF

/-- HELLO on port `p`. -/
def State.sendHello (s : State) (p : Nat) : State :=
  let h := s.hopDst p
  let x := h.2.nextSeq
  x.2.emit p 1 h.1 x.1 ([BitVec.ofNat 8 s.manager.toNat, BitVec.ofNat 8 s.depthByte, BitVec.ofNat 8 s.devPin,
    BitVec.ofNat 8 s.dev] ++ leBytes 8 s.ownHash.toNat)

/-- A record of port `p` (Table 15.5) and the link's event. -/
def State.portNews (s : State) (p code : Nat) : State :=
  (s.traceRec (0x0B00 + p) code (s.fld (R.LINK_PORT_STATUS.PEER p))).event 68

/-- Port `p` takes a state, with a record when it becomes blocked. -/
def State.setPort (s : State) (p st : Nat) : State :=
  if s.fld (R.LINK_PORT_STATUS.STATE p) = st then s
  else
    let s := s.setF (R.LINK_PORT_STATUS.STATE p) st
    if st = 4 then s.portNews p 3 else s.event 68

/-- The port a WORKER takes as upstream: the lowest depth below 4 among the peers that lead to the MANAGER. -/
def State.bestUp (s : State) : Option Nat :=
  (linkPorts.filter (fun p => s.portUp p && (s.port p).leads && decide ((s.port p).peerDepth < 4))).foldl
    (fun (b : Option Nat) p => match b with
      | none => some p
      | some q => if (s.port p).peerDepth < (s.port q).peerDepth then some p else b) none

/-- The time servo starts anew (R295). -/
def State.acquire (s : State) : State :=
  ((s.setF R.LINK_TIME_STATUS.STATE 1).updLink (fun l => { l with first := true, near := 0, far := 0 })).arm T.align 20000000

/-- A way to the MANAGER is back: the device is orphaned no longer (R308). -/
def State.rejoined (s : State) : State := (s.setB R.LINK_ID.ORPHAN false).disarm T.orphPark

/-- A WORKER chooses its upstream port, and blocks the others that lead to the MANAGER. -/
def State.chooseUp (s : State) : State :=
  let best := s.bestUp
  let was := s.upPort
  let s := linkPorts.foldl (fun s p =>
    if !s.portUp p then s
    else if best = some p then s.setPort p 3
    else if (s.port p).leads && best.isSome then s.setPort p 4
    else s.setPort p 2) s
  match best with
  | none => s
  | some p =>
    let s := ((s.setF R.LINK_ID.UP p).disarm T.orphan).rejoined
    let s := if s.worker then s.setF R.LINK_ID.DEPTH ((s.port p).peerDepth + 1) else s
    if was ≠ some p && s.worker then (s.acquire.arm T.tsync 1000000).arm T.probeMiss (3 * s.pperNs) else s

/-- The number the MANAGER gives a serial hash, none when its pinned number is held by another joined device. -/
def State.numberFor (s : State) (pin : Nat) (hash : BitVec 64) : Option Nat :=
  let free := fun d => d ≠ s.dev && ((s.link.routes.at none d).isNone ||
    (match s.link.holders.at none d with | none => true | some h => h == hash))
  if pin ≠ 0xFF then (if pin < 64 && free pin then some pin else none)
  else
    let im := s.acrd.image
    let pinned := fun d => match im with | some im => (bytesAt im.hier (16 + 16 * d) 1).testBit 1 | none => false
    match s.link.given.find? (fun e => e.1 = hash && free e.2) with
    | some e => some e.2
    | none => (List.range 64).find? (fun d => free d && !pinned d && !s.link.given.any (fun e => e.2 = d && e.1 ≠ hash))

/-- The MANAGER answers a request for a number that came on port `p` with ASSIGN, or refuses a pinned number that is
held (R293); a device that would lie at depth 5 does not join (R292). -/
def State.giveNumber (s : State) (p pin depth : Nat) (hash : BitVec 64) : State :=
  if 4 < depth then s else
  match s.numberFor pin hash with
  | none => if pin = 0xFF then s else (s.raise 55).traceRec 0x0B20 6 (hash.toNat % 2 ^ 32)
  | some d =>
    let s := s.updLink (fun l => { l with
      holders := l.holders.put none d (some hash), routes := l.routes.put none d (some p)
      given := if l.given.any (fun e => e.1 = hash) then l.given else l.given ++ [(hash, d)] })
    (s.sendAcked 2 d (leBytes 8 hash.toNat ++ [BitVec.ofNat 8 d, BitVec.ofNat 8 depth]) [d] none).2

/-! ## Time (R294, R295) -/

/-- The rest of a slew is dropped. -/
def State.noSlew (s : State) : State := s.updLink (fun l => { l with servo := { l.servo with slew := 0 } })

/-- An offset is to be removed by slewing, at no more than 100 ppm: time goes on forward (R295). -/
def State.slewTime (s : State) (ns : Int) : State :=
  s.rebase.updLink (fun l => { l with servo := { l.servo with slew := ns } })

/-- Hierarchy time steps by a number of nanoseconds, with its record. -/
def State.stepTime (s : State) (ns : Int) : State :=
  let s := s.rebase.noSlew
  let s := { s with htOfs := s.htOfs + ns }
  let s := s.setPair R.LINK_TIME_STEP_LO.reg R.LINK_TIME_STEP_HI.reg (BitVec.ofInt 64 ns)
  let s := s.count B.link R.LINK_TIME_STATUS.STEPS R.LINK_TIME_STATUS.SAT
  s.traceRec 0x0B10 1 (unsignedOf 32 (clampInt (-(2 ^ 31)) (2 ^ 31 - 1) (Int.tdiv ns 1000)))

/-- Alignment is lost: FS_54, a record, and ACQUIRE, from which 20 ms run again. -/
def State.loseAlign (s : State) : State :=
  let s := (s.raise 54).traceRec 0x0B10 3 (unsignedOf 32 (s.sfld R.LINK_TIME_STATUS.OFS))
  ((s.setF R.LINK_TIME_STATUS.STATE 1).updLink (fun l => { l with near := 0, far := 0 })).arm T.align 20000000

/-- An exchange in ALIGNED: three offsets above 200 ns in a row lose it. -/
def State.alignedStep (s : State) (ofs : Int) : State :=
  let far := if 200 < ofs.natAbs then s.link.far + 1 else 0
  let s := s.updLink (fun l => { l with far := far })
  if 3 ≤ far then s.loseAlign else s.slewTime ofs

/-- The rate correction of the servo becomes `r`, in 2^-32: time runs with it from now on, in HOLDOVER too (R295). -/
def State.setRate (s : State) (r : Int) : State :=
  (s.rebase.setF R.LINK_TIME_RATE.RATE (unsignedOf 32 r)).updLink (fun l => { l with servo := { l.servo with rate := r } })

/-- An exchange in ACQUIRE: the first steps, a later one steps or slews at most 100 ppm, and eight near offsets in a
row end it. -/
def State.acquireStep (s : State) (ofs : Int) : State :=
  let lim := max 1 (s.fld R.LINK_TCFG.STEP) * 1000
  if s.link.first then
    (s.updLink (fun l => { l with first := false, near := if ofs.natAbs ≤ 20 then 1 else 0 })).stepTime ofs
  else
    let x := s.takeFree
    let s := x.2.setRate (clampInt (-128849018) 128849018 (Config.freeInt x.1))
    let near := if ofs.natAbs ≤ 20 then s.link.near + 1 else 0
    let s := s.updLink (fun l => { l with near := near })
    let s := if lim < ofs.natAbs then s.stepTime ofs else s.slewTime ofs
    if 8 ≤ near then
      ((s.setF R.LINK_TIME_STATUS.STATE 2).traceRec 0x0B10 2 (unsignedOf 32 ofs)).updLink (fun l => { l with far := 0 })
    else s

/-! ## Ports that go down (R290, R295, R308) -/

/-- The devices reached over port `p` are reached no longer (R297). -/
def State.loseRoutes (s : State) (p : Nat) : State :=
  let l := (s.link.routes.filter (fun e => e.2 = some p)).map (fun e => e.1)
  let l := l ++ (if s.upPort = some p then (List.range 64).filter (fun d => (s.link.routes.at none d).isNone && d ≠ s.dev) else [])
  let s := s.updLink (fun k => { k with routes := k.routes.filter (fun e => e.2 ≠ some p) })
  l.foldl State.dropVector s

/-- A WORKER has lost its upstream port (R295, R308). -/
def State.loseUp (s : State) : State :=
  let s := ((s.disarm T.tsync).disarm T.align).disarm T.probeMiss
  if s.worker then (s.setF R.LINK_TIME_STATUS.STATE 3).arm T.orphan (max 1 (s.fld R.LINK_ORPH.TDET) * 1000000) else s

/-- The devices that the present forward can no longer reach acknowledge it: their link is down (R240). -/
def State.fwdLinkDown (s : State) : State :=
  match s.link.fwdSeq, s.link.out.find? (fun o => s.link.fwdSeq = some o.seq) with
  | some q, some o =>
    let left := o.waits.filter (fun d => match s.portTo d with | some p => s.portUp p | none => false)
    if left.isEmpty then
      ((s.updLink (fun l => { l with out := l.out.filter (fun x => x.seq ≠ q) })).disarm (T.resend q)).linkAckForward
    else s.updLink (fun l => { l with out := l.out.map (fun x => if x.seq = q then { x with waits := left } else x) })
  | _, _ => s

/-- Port `p` goes down: FS_53, a record, EV_068, and bring-up; a blocked port that leads to the MANAGER takes over an
upstream one (R290, R308). -/
def State.portDown (s : State) (p : Nat) : State :=
  let wasUp := s.upPort = some p
  let s := s.loseRoutes p
  let s := ((s.raise 53).portNews p 2).count B.link (R.LINK_PORT_CNT.DOWN p) (R.LINK_PORT_CNT.SAT_D p)
  let s := (s.setF (R.LINK_PORT_STATUS.STATE p) 0).setF (R.LINK_PORT_STATUS.PEER p) 0xFF
  let s := (s.updPort p (fun _ => PortState.zero)).disarm (T.hello p)
  let s := if s.manager then s else if wasUp then s.loseUp.chooseUp else s.chooseUp
  s.fwdLinkDown

/-- A frame on port `p` fails its CRC: counted, and the sixteenth in a row takes the port down (R290, R291). -/
def State.frameBad (s : State) (p : Nat) : State :=
  let s := s.count B.link (R.LINK_PORT_STATUS.CRCERR p) (R.LINK_PORT_STATUS.SAT p)
  let s := s.updPort p (fun x => { x with bad := x.bad + 1 })
  if 16 ≤ (s.port p).bad then s.portDown p else s

/-! ## Receiving and acknowledging (R291, R300, R301) -/

/-- An acknowledgement of a received frame, which is remembered with it. -/
def State.acknowledge (s : State) (f : FrameId) (result : Nat) (data : List Byte) : State :=
  let body := leBytes 2 f.seq.toNat ++ [BitVec.ofNat 8 result] ++ data
  let s := s.updLink (fun l => { l with
    seen := l.seen.upd [] f.src.toNat (fun r => ((f.seq.toNat, body) :: r).take 64) })
  let p := (s.link.routes.at none f.src.toNat).getD f.port.val
  let x := s.nextSeq
  x.2.emit p 7 f.src.toNat x.1 body

/-- The acknowledgement already given to a frame. -/
def State.ackGiven (s : State) (f : FrameId) : Option (List Byte) :=
  ((s.link.seen.at [] f.src.toNat).find? (fun e => e.1 = f.seq.toNat)).map (fun e => e.2)

/-- A frame passes on toward its destination, or, from the MANAGER to every device, downstream. -/
def State.relay (s : State) (f : FrameId) (typ : Nat) (payload : List Byte) : State :=
  let ports := if f.dst = 0xFF#8 then s.downPorts else (s.portTo f.dst.toNat).toList
  (ports.filter (fun p => p ≠ f.port.val)).foldl (fun s p => s.emitAs p typ f.src.toNat f.dst.toNat f.seq.toNat payload) s

/-- Whether a port takes frames now (R54, R291, R292). -/
def State.hears (s : State) (p : Nat) : Bool := s.portOpen p && s.sys.pllE ≠ .out

/-- A general frame heard on its port (R291): discarded where its CRC is wrong; relayed when it is for another device;
one for every joined device both passes on and, where this device has joined, is applied. -/
def State.take (s : State) (f : FrameId) (typ : Nat) (payload : List Byte) (apply : State → State) : State :=
  let s := s.clearSent
  if !s.hears f.port then s
  else if !f.crcOk then s.frameBad f.port
  else
    let s := s.frameGood f.port
    if f.dst = 0xFF#8 then
      let s := s.relay f typ payload
      if s.manager || s.bit R.LINK_ID.JOINED then apply s else s
    else if f.dst.toNat ≠ s.dev then s.relay f typ payload
    else apply s

/-- The header of a frame of device `src` to device `dst`: as given, or as one that came over the port that leads to its
origin. -/
def State.headerOf (s : State) (f : Option FrameId) (src dst : Nat) : FrameId :=
  f.getD ⟨Fin.ofNat 4 ((s.portTo src).getD 0), BitVec.ofNat 8 src, BitVec.ofNat 8 dst, 0#16, true⟩

/-- The number of the MANAGER, as this device knows it. -/
def State.mgrDev (s : State) : Nat := if s.manager then s.dev else s.link.mgr

/-- An acknowledgement given before goes out again. -/
def State.reack (s : State) (f : FrameId) (body : List Byte) : State :=
  let x := s.nextSeq
  x.2.emit ((s.link.routes.at none f.src.toNat).getD f.port.val) 7 f.src.toNat x.1 body

/-- A general frame that is to be acknowledged: acknowledged again and not applied when it was acknowledged before;
otherwise applied. -/
def State.receive (s : State) (f : FrameId) (typ : Nat) (payload : List Byte) (apply : State → State) : State :=
  s.take f typ payload (fun s =>
    match s.ackGiven f with
    | some body => s.reack f body
    | none => apply s)

/-- A frame that only the MANAGER sends (R300): ignored from any other origin. -/
def State.fromManager (s : State) (f : FrameId) (typ : Nat) (payload : List Byte) (apply : State → State) : State :=
  s.receive f typ payload (fun s => if s.worker && f.src.toNat = s.link.mgr then apply s else s)

/-! ## The scheduled switch (R305, R306) -/

/-- The staged TOPO_SIG equals the active one. -/
def State.topoEq (s : State) : Bool :=
  match s.acrd.staged, s.acrd.image with
  | some a, some b => a.topo == b.topo
  | _, _ => false

/-- The cause for which this device refuses a switch at `t`, 0 for none (Table 15.3). -/
def State.switchCause (s : State) (t : BitVec 64) : Nat :=
  let ahead : Int := (t.toNat : Int) - s.now.toNat
  if !s.bit R.ACRD_STATUS.STAGED_OK then 1
  else if !s.topoEq && !s.railsOn.all s.railDown then 2
  else if ahead < 10000000 || 10000000000 < ahead then 3
  else if !s.manager && s.fld R.LINK_TIME_STATUS.STATE ≠ 2 then 4
  else if s.sys.phase = .safe || s.acrd.defaults then 5
  else if s.bit R.ACRD_STATUS.SWITCH_PEND then 6
  else 0

/-- The local nanoseconds from now to a hierarchy time. -/
def State.untilTime (s : State) (t : Int) : Nat := s.localAt t - s.ns

/-- A target without GO cancels itself at T − 1 ms of its hierarchy time, wherever that lies after a step or a slew
(R306). -/
def State.retime (s : State) : State :=
  if s.runs T.selfCancel then s.arm T.selfCancel (s.untilTime ((s.link.swT.toNat : Int) - 1000000)) else s

/-- This device accepts a switch. -/
def State.switchAccept (s : State) (t : BitVec 64) (epoch : Word) : State :=
  let s := (List.range 24).foldl State.surveyAbandon s
  let s := (s.setB R.ACRD_STATUS.SWITCH_PEND true).updLink (fun l => { l with swT := t, swEpoch := epoch, swGo := false })
  let s := ((s.setF R.LINK_SW_STATUS.STATE 1).setF R.LINK_SW_STATUS.RDEV 0xFF).setF R.LINK_SW_STATUS.CAUSE 0
  (s.arm T.selfCancel (s.untilTime ((t.toNat : Int) - 1000000))).switchRecord 3 0xFF 0

/-- This device holds GO. -/
def State.takeGo (s : State) : State :=
  ((s.updLink (fun l => { l with swGo := true })).setF R.LINK_SW_STATUS.STATE 2).disarm T.selfCancel

/-- The switch is cancelled at this device. -/
def State.switchDrop (s : State) (dev cause : Nat) : State :=
  let s := (s.setB R.ACRD_STATUS.SWITCH_PEND false).updLink (fun l => { l with
    swGo := false, swTargets := [], swWait := [] })
  let s := ((s.setF R.LINK_SW_STATUS.STATE 5).setF R.LINK_SW_STATUS.RDEV dev).setF R.LINK_SW_STATUS.CAUSE cause
  ((s.disarm T.selfCancel).disarm T.goLead).switchRecord 5 dev cause

/-- Whether a switch is pending that has not begun. -/
def State.switchOpen (s : State) : Bool := s.bit R.ACRD_STATUS.SWITCH_PEND && !s.acrd.switching

/-- A frame of the switch to every target but the MANAGER itself. -/
def State.toTargets (s : State) (typ : Nat) (payload : List Byte) : State :=
  s.link.swTargets.foldl (fun s d => (s.sendAcked typ d payload [d] none).2) s

/-- The MANAGER cancels: CANCEL to every target, and its own switch. -/
def State.cancelAll (s : State) (dev cause : Nat) : State :=
  (s.toTargets 0x10 (leBytes 4 s.link.swEpoch.toNat)).switchDrop dev cause

/-- GOLEAD in nanoseconds. -/
def State.goLeadNs (s : State) : Nat := min 1000 (max 2 (s.fld R.LINK_SW_CFG.GOLEAD)) * 1000000

/-- When every target has accepted and T is at least GOLEAD away, the MANAGER sends GO. -/
def State.tryGo (s : State) : State :=
  if s.link.swWait.isEmpty && !s.link.swGo && decide ((s.goLeadNs : Int) ≤ (s.link.swT.toNat : Int) - s.now.toNat)
  then ((s.toTargets 0x0F (leBytes 4 s.link.swEpoch.toNat)).takeGo).disarm T.goLead else s

/-- ARM at the MANAGER (R305). -/
def State.switchArmAll (s : State) : State :=
  let t := s.pair R.LINK_SW_T_LO.reg R.LINK_SW_T_HI.reg
  let mask := s.pair R.LINK_SW_MASK_LO.reg R.LINK_SW_MASK_HI.reg
  let c := s.switchCause t
  if c ≠ 0 then
    if s.bit R.ACRD_STATUS.SWITCH_PEND then s.setF R.LINK_SW_STATUS.CAUSE c else s.switchDrop s.dev c
  else
    let epoch := s.reg R.LINK_EPOCH.reg + 1
    let s := s.switchAccept t epoch
    let l := (List.range 64).filter (fun d => mask.getLsbD d && d ≠ s.dev)
    let s := s.updLink (fun k => { k with swTargets := l, swWait := l })
    let s := s.toTargets 0x0E (leBytes 8 t.toNat ++ leBytes 4 epoch.toNat)
    (s.arm T.goLead (s.untilTime ((t.toNat : Int) - s.goLeadNs))).tryGo

/-- CANCEL at the MANAGER (R306). -/
def State.switchCancelAll (s : State) : State := if s.switchOpen then s.cancelAll 0xFF 8 else s

/-- A write of LINK_SW_CMD (R305, R306): only at the MANAGER. -/
def State.switchCommand (s : State) (w : Word) : State :=
  let s := s.clearSent
  if w.field 24 8 ≠ 0x7E || !s.manager then s
  else if w.field 0 2 = 1 then s.switchArmAll
  else if w.field 0 2 = 2 then s.switchCancelAll
  else s

/-! ## The power-down cascade (R302) -/

/-- COMMAND to a device. -/
def State.sendCommand (s : State) (d code : Nat) : State := (s.sendAcked 0x11 d [BitVec.ofNat 8 code] [d] none).2

/-- The next part of the cascade: one WORKER in PD_POS order, then those without a position together, then this
device's own rails. -/
def State.cascNext (s : State) : State :=
  let code := s.link.cascDest
  match s.link.casc with
  | d :: r =>
    let s := s.updLink (fun l => { l with casc := r, cascWait := [d] })
    (s.sendCommand d code).arm T.casc (max 1 (s.fld R.LINK_PD.TWAIT) * 1000000)
  | [] =>
    let s := s.disarm T.casc
    if s.link.cascLast.isEmpty then
      let s := s.updLink (fun l => { l with cascOn := false, cascWait := [] })
      if s.sys.phase = .powerDown then s.seqPowerDown else s
    else
      let l := s.link.cascLast
      let s := s.updLink (fun k => { k with cascLast := [], cascWait := l })
      l.foldl (fun s d => s.sendCommand d code) s

/-- A device of the last group has acknowledged, or is given up. -/
def State.cascAck (s : State) (d : Nat) : State :=
  if s.link.cascOn && s.link.casc.isEmpty && !s.runs T.casc && s.link.cascWait.contains d then
    let s := s.updLink (fun l => { l with cascWait := l.cascWait.filter (· ≠ d) })
    if s.link.cascWait.isEmpty then s.cascNext else s
  else s

/-- The position of device `d` in the cascade. -/
def State.pdPosOf (s : State) (d : Nat) : Nat := match s.acrd.image with | some im => pdPos im.hier d | none => 0xFF

/-- The cascade of an accepted power command begins. -/
def State.cascStart (s : State) (flacon : Bool) : State :=
  let l := s.joinedDevs
  let ordered := (List.range 64).flatMap (fun k => l.filter (fun d => s.pdPosOf d = k))
  let rest := l.filter (fun d => 63 < s.pdPosOf d)
  (s.updLink (fun k => { k with
    casc := ordered, cascLast := rest, cascWait := [], cascDest := if flacon then 2 else 1, cascOn := true })).cascNext

/-- A power command of this device, cascaded at a MANAGER that is set to (R61, R302). -/
def State.powerRequest (s : State) (flacon refuse : Bool) : State :=
  let s := s.clearSent
  if s.manager && s.bit R.LINK_PD.CASC && s.powerOk refuse && !s.joinedDevs.isEmpty then
    (s.powerEnter flacon).cascStart flacon
  else s.powerCommand flacon refuse

/-! ## Completion of a sent frame (R301) -/

/-- The ACK content reaches the engine whose frame is acknowledged. -/
def State.txDone (s : State) (e result : Nat) (content : List Byte) : State :=
  let s := ((s.setB (R.LINK_TX_STAT.DONE e) true).setB (R.LINK_TX_STAT.BUSY e) false).setF (R.LINK_TX_STAT.RESULT e) result
  (List.range 5).foldl (fun s i => s.setReg (R.LINK_TX_ACK.reg e i) (BitVec.ofNat 32 (bytesAt content (4 * i) 4))) s

/-- What the acknowledgement of a frame does at its origin, for the device `d` that gave it. -/
def State.acked (s : State) (o : OutFrame) (d result : Nat) (data : List Byte) : State :=
  if o.typ = 0x0B && result = 0 && s.bit R.LINK_CFG.AUTOEXP then
    s.setPair (R.LINK_EXP_LO.reg d) (R.LINK_EXP_HI.reg d) (BitVec.ofNat 64 (bytesAt data 1 8))
  else if o.typ = 0x0D && result = 0 && s.bit R.LINK_CFG.AUTOEXP then
    s.updLink (fun l => { l with pendExp := l.pendExp.put none d (some (BitVec.ofNat 64 (bytesAt data 2 8))) })
  else if o.typ = 0x0E && s.switchOpen then
    if result = 0 then (s.updLink (fun l => { l with swWait := l.swWait.filter (· ≠ d) })).tryGo
    else s.cancelAll d (bytesAt data 0 1 % 16)
  else if o.typ = 0x11 then s.cascAck d
  else s

/-- Every device has acknowledged a frame. -/
def State.finishOut (s : State) (o : OutFrame) (result : Nat) (data : List Byte) : State :=
  let s := (s.updLink (fun l => { l with out := l.out.filter (fun x => x.seq ≠ o.seq) })).disarm (T.resend o.seq)
  let s := (match o.engine with
    | some e => s.txDone e 0 ((BitVec.ofNat 8 result :: data).take 17)
    | none => s)
  (if s.link.fwdSeq = some o.seq then s.linkAckForward else s).pump

/-- A frame unacknowledged after its eight sends is given up. -/
def State.dropOut (s : State) (o : OutFrame) : State :=
  let s := (s.updLink (fun l => { l with out := l.out.filter (fun x => x.seq ≠ o.seq) })).disarm (T.resend o.seq)
  let s := (match o.engine with
    | some e => ((s.setB (R.LINK_TX_STAT.DONE e) true).setB (R.LINK_TX_STAT.BUSY e) false).setF (R.LINK_TX_STAT.RESULT e) 3
    | none => s)
  (if o.typ = 0x11 then o.waits.foldl State.cascAck s else s).pump

/-! ## Frames of engine firmware (R300) -/

/-- The payload bytes in the buffer of engine `e`. -/
def State.txPayload (s : State) (e n : Nat) : List Byte :=
  ((List.range 65).flatMap (fun i => leBytes 4 (s.reg (R.LINK_TX_BUF.reg e i)).toNat)).take n

/-- A frame that an engine's LINK_TX_CMD sends: only from the MANAGER, of the types of Table 15.1, to a known device. -/
def State.txFrame (s : State) (e typ dst len : Nat) : State :=
  let s := s.clearSent
  let s := (s.setReg (R.LINK_TX_STAT.reg e) 0#32)
  let fail := fun (c : Nat) => (s.setB (R.LINK_TX_STAT.DONE e) true).setF (R.LINK_TX_STAT.RESULT e) c
  if !s.manager || !([0x0B, 0x0C, 0x0D, 0x11, 0x12, 0x13] : List Nat).contains typ then fail 1
  else if dst ≠ 0xFF && (dst = s.dev || (s.portTo dst).isNone) then fail 2
  else
    let waits := if dst = 0xFF then s.joinedDevs else [dst]
    let s := if typ = 0x12 then waits.foldl (fun s d => s.updLink (fun l => { l with rdWait := l.rdWait.put none d (some e) })) s else s
    let x := s.sendAcked typ dst (s.txPayload e (min 260 len)) waits (some e)
    ((x.2.setB (R.LINK_TX_STAT.BUSY e) true).setF (R.LINK_TX_STAT.SEQ e) x.1)

/-! ## Trace and receive queue registers (R299, R310, R311) -/

/-- A read of LINK_RXEV: the oldest received event, removed. -/
def State.rxevTake (s : State) : Word × State :=
  let drop := if s.link.rxDrop then 2 ^ 30 else 0
  match s.link.rxev with
  | [] => (BitVec.ofNat 32 drop, s.updLink (fun l => { l with rxDrop := false }))
  | e :: r => (BitVec.ofNat 32 (2 ^ 31 + drop + e.1 * 2 ^ 16 + r.length * 2 ^ 8 + e.2),
      s.updLink (fun l => { l with rxDrop := false, rxev := r }))

/-- A write of LINK_TRC_WR_CMD by requester copy `q`: a SOURCE below 0x8000 is refused. -/
def State.traceAdd (s : State) (q code source : Nat) : State :=
  if 0x8000 ≤ source then s.traceRec source code (s.reg (R.LINK_TRC_WR_DATA.reg q)).toNat else s

/-- UNFREEZE: writing resumes, also of a trace that stopped because it was full, for one more pass over it (R310;
DEDUCED, log entry 158). -/
def State.unfreeze (s : State) : State :=
  let s := if s.bit R.LINK_TRC_CFG.STOP then s.setB R.LINK_TRC_STAT.WRAPPED false else s
  { s.setB R.LINK_TRC_STAT.FROZEN false with tracePost := none }

end Sys2Proof.Machine
end

