-- ==== Sys2Proof/Machine/LinkCmds.lean ====
section
/-! DEFINITION.  The commands of the hierarchy links but for remote register access, and the commands whose effect
reaches the links: sequencer ticks, power commands, the end of a verification and event forwarding (spec/15). -/

namespace Sys2Proof.Machine

/-! ## Ports (R289, R290, R292) -/

/-- LINK_BRINGUP_BURST (R289). -/
def execLinkBringupBurst (p : Fin 4) (s : State) : Out := .next (
  if s.portState p = 1 then (s.clearSent.emit p 0x100 0xFF 0 []).updPort p (fun x => { x with first := true }) else s)

/-- LINK_UP (R289, R292): an end that hears a burst answers it with its own; the port is up and sends HELLO at once. -/
def execLinkUp (p : Fin 4) (first : Bool) (s : State) : Out := .next (
  if s.portState p = 1 && s.sys.pllE ≠ .out then
    let s := s.clearSent
    let s := if first then s else s.emit p 0x100 0xFF 0 []
    let s := (s.updPort p (fun _ => { PortState.zero with first := first })).setF (R.LINK_PORT_STATUS.STATE p) 2
    let s := ((s.portNews p 1).sendHello p).arm (T.hello p) 100000000
    if s.runs T.rvec then s else s.arm T.rvec 10000000
  else s)

/-- LINK_DOWN (R290): no comma for ten cycles, or sixteen frames in a row that fail their CRC. -/
def execLinkDown (p : Fin 4) (s : State) : Out := .next (if s.portUp p then s.clearSent.portDown p else s)

/-- HELLO_TIMER (R292). -/
def execHelloTimer (p : Fin 4) (s : State) : Out := .next (
  match s.expire (T.hello p) with
  | none => s
  | some s => if s.portUp p then (s.clearSent.sendHello p).arm (T.hello p) 100000000 else s)

/-- HELLO at the MANAGER: a request for a number by a device that is not joined, was lost or comes back over another
port with its number (R308), or another MANAGER, whose port is blocked with FS_53.  `depth` is one more than the depth
of the requester's upstream peer. -/
def State.helloManager (s : State) (p : Nat) (role pin dev depth : Nat) (hash : BitVec 64) (leads : Bool) : State :=
  if role = 1 then (if s.fld (R.LINK_PORT_STATUS.STATE p) = 4 then s else (s.setPort p 4).raise 53)
  else if dev = 0xFF || (s.link.routes.at none dev).isNone || (!leads && s.link.routes.at none dev ≠ some p) then
    s.giveNumber p pin depth hash
  else s

/-- HELLO at a WORKER: the upstream port is chosen; one from below goes up to the MANAGER with its header, and its port
is remembered (R293).  At depth 4 none is upstream of another device (R292). -/
def State.helloWorker (s : State) (f : FrameId) (payload : List Byte) (dev : Nat) (hash : BitVec 64) (leads : Bool) : State :=
  let s := s.chooseUp
  match s.upPort with
  | none => s
  | some u =>
    if u ≠ f.port.val && !leads && s.worker && decide (s.fld R.LINK_ID.DEPTH < 4) then
      let s := s.updLink (fun l => { l with
        hellos := (hash, f.port.val) :: l.hellos.filter (fun e => e.1 ≠ hash)
        routes := if dev = 0xFF then l.routes else l.routes.put none dev (some f.port.val) })
      s.emitAs u 1 f.src.toNat s.link.mgr f.seq.toNat payload
    else s

/-- HELLO (R292, R293): the peer's own, or one relayed over a port whose peer is known, by the `hops` devices between. -/
def execHello (p : Fin 4) (role depth devPin dev : Byte) (hash : BitVec 64) (toManager : Bool) (s : State)
    (f : Option FrameId := none) (hops : Nat := 0) : Out := .next (
  let f := f.getD ⟨p, dev, 0xFE#8, 0#16, true⟩
  if !s.portUp p || s.sys.pllE = .out then s
  else if !f.crcOk then s.clearSent.frameBad p
  else
    let s := s.clearSent.frameGood p
    let relayed := (s.port p).peerHash ≠ 0#64 && (s.port p).peerHash ≠ hash
    let s := if relayed then s
      else (s.updPort p (fun x => { x with
        peerRole := role.toNat, peerDepth := depth.toNat, peerHash := hash, leads := toManager })).setF
          (R.LINK_PORT_STATUS.PEER p) dev.toNat
    if s.manager then
      s.helloManager p role.toNat devPin.toNat dev.toNat (1 + (if relayed then max 1 hops else 0)) hash (toManager && !relayed)
    else s.helloWorker { f with port := p } ([role, depth, devPin, dev] ++ leBytes 8 hash.toNat) dev.toNat hash
      (toManager && !relayed))

/-- A WORKER joins (R293, R295, R308). -/
def State.joinAs (s : State) (f : FrameId) (dev depth : Nat) : State :=
  let s := (s.setF R.LINK_ID.DEV dev).setF R.LINK_ID.DEPTH depth
  let s := ((s.setB R.LINK_ID.JOINED true).setB R.LINK_ID.PINNED (s.devPin ≠ 0xFF)).setB R.LINK_ID.ORPHAN false
  let s := (s.updLink (fun l => { l with mgr := f.src.toNat })).acquire.arm T.tsync 1000000
  (((s.arm T.probeMiss (3 * s.pperNs)).disarm T.orphan).disarm T.orphPark).acknowledge f 0 []

/-- An ASSIGN with this device's serial hash: a repeated one is acknowledged again (R291); one joins a device that has an
upstream port and lies no deeper than 4 (R292). -/
def State.takeAssign (s : State) (f : FrameId) (dev depth : Nat) : State :=
  match s.ackGiven f with
  | some body => s.reack f body
  | none => if s.upPort.isSome && decide (depth ≤ 4) then s.joinAs f dev depth else s

/-- ASSIGN (R293): for this device by its serial hash, else toward the port its request came from. -/
def execAssign (f : FrameId) (hash : BitVec 64) (dev depth : Byte) (s : State) : Out := .next (
  let s := s.clearSent
  if !s.hears f.port || s.manager then s
  else if !f.crcOk then s.frameBad f.port
  else
    let s := s.frameGood f.port
    if hash = s.ownHash then s.takeAssign f dev.toNat depth.toNat
    else
      match s.link.hellos.find? (fun e => e.1 = hash) with
      | some e =>
        let s := s.updLink (fun l => { l with routes := l.routes.put none dev.toNat (some e.2) })
        s.emitAs e.2 2 f.src.toNat dev.toNat f.seq.toNat (leBytes 8 hash.toNat ++ [dev, depth])
      | none => s)

/-! ## Time (R294, R295) -/

/-- TSYNC_TIMER (R294). -/
def execTsyncTimer (s : State) : Out := .next (
  match s.expire T.tsync with
  | none => s
  | some s =>
    match s.upPort with
    | some p => if s.worker then
        let x := s.clearSent.nextSeq
        (x.2.emit p 3 (s.fld (R.LINK_PORT_STATUS.PEER p)) x.1 []).arm T.tsync 1000000
      else s
    | none => s)

/-- The time at the comma of the parent's next window: as reported, or one within a cycle of 4.4 µs from now (R288,
R294). -/
def State.nextComma (s : State) (t3 : Option (BitVec 64)) : BitVec 64 × State :=
  match t3 with
  | some t => (t, s)
  | none => let f := s.takeFree; (s.now + BitVec.ofNat 64 (1 + (Config.freeInt f.1).natAbs % 4400), f.2)

/-- TSYNC_REQ (R294): t2 is the time of receipt, t3 that of the comma that opens the next window. -/
def execTsyncReq (p : Fin 4) (s : State) (f : Option FrameId := none) (t3 : Option (BitVec 64) := none) : Out := .next (
  s.take (f.getD ⟨p, BitVec.ofNat 8 (s.fld (R.LINK_PORT_STATUS.PEER p)), BitVec.ofNat 8 s.dev, 0#16, true⟩) 3 [] (fun s =>
    if s.upPort ≠ some p.val && s.bit R.LINK_ID.JOINED then
      let x := s.nextComma t3
      let y := x.2.nextSeq
      y.2.emit p 4 (s.fld (R.LINK_PORT_STATUS.PEER p)) y.1 (leBytes 8 s.now.toNat ++ leBytes 8 x.1.toNat)
    else s))

/-- What an exchange does to the time (R294, R295): the four times in halves of a nanosecond. -/
def State.exchange (s : State) (t1 t2 t3 t4 : Int) : State :=
  if s.worker && s.upPort.isSome then
    let ofs := roundDiv ((t2 - t1) - (t4 - t3)) 4
    let dly := roundDiv ((t2 - t1) + (t4 - t3)) 4
    let s := (s.setF R.LINK_TIME_STATUS.OFS (unsignedOf 16 (clampInt (-32767) 32767 ofs))).setF R.LINK_TIME_DLY.DLY
      (clampInt 0 65535 dly).toNat
    let s := s.arm T.align 20000000
    if s.fld R.LINK_TIME_STATUS.STATE = 2 then (s.alignedStep ofs).retime
    else if s.fld R.LINK_TIME_STATUS.STATE = 1 then (s.acquireStep ofs).retime
    else s
  else s

/-- TSYNC_RSP (R294, R295, R306). -/
def execTsyncRsp (t1 t2 t3 t4 : Int) (s : State) (f : Option FrameId := none) : Out := .next (
  let p := (s.upPort).getD 0
  s.take (f.getD ⟨Fin.ofNat 4 p, BitVec.ofNat 8 (s.fld (R.LINK_PORT_STATUS.PEER p)), BitVec.ofNat 8 s.dev, 0#16, true⟩) 4
    (leBytes 8 (unsignedOf 64 (t2 / 2)) ++ leBytes 8 (unsignedOf 64 (t3 / 2))) (fun s => s.exchange t1 t2 t3 t4))

/-- ALIGNMENT_TIMEOUT (R295): 20 ms without a completed exchange while the upstream port is up. -/
def execAlignmentTimeout (s : State) : Out := .next (
  match s.expire T.align with
  | none => s
  | some s => if s.worker && s.upPort.isSome then s.loseAlign else s)

/-! ## Remote status (R296, R297) -/

/-- A status frame on every other open port. -/
def State.emitOthers (s : State) (p typ : Nat) (payload : List Byte) : State :=
  (linkPorts.filter (fun q => q ≠ p && s.portOpen q)).foldl (fun s q => s.emit q typ 0xFF 0 payload) s

/-- A frame to the peer of port `p`, of the origin and sequence number given. -/
def State.emitHop (s : State) (p typ src seq : Nat) (payload : List Byte) : State :=
  let h := s.hopDst p
  h.2.emitAs p typ src h.1 seq payload

/-- An RVEC passes on as it came, on every other open port (R296). -/
def State.relayRvec (s : State) (f : FrameId) (payload : List Byte) : State :=
  (linkPorts.filter (fun q => q ≠ f.port.val && s.portOpen q)).foldl (fun s q => s.emitHop q 5 f.src.toNat f.seq.toNat payload) s

/-- STATUS_FRAME (R291, R297): discarded and counted when its CHK is wrong. -/
def execStatusFrame (p : Fin 4) (dev rs chk : Byte) (s : State) : Out := .next (
  let s := s.clearSent
  if s.hears p && crc8 [dev, rs] ≠ chk then s.frameBad p
  else if s.hears p && dev.toNat < 64 && dev.toNat ≠ s.dev then
    let s := s.frameGood p
    let v := s.link.vectors.at 0#64 dev.toNat
    let m := 1#64 <<< (rs.toNat % 64)
    (s.holdVector dev.toNat (if rs.getLsbD 7 then v ||| m else v &&& ~~~m)).emitOthers p 0 [dev, rs, chk]
  else s)

/-- RVEC_TIMER (R296): this device's vector and every one it holds, on every open port. -/
def execRvecTimer (s : State) : Out := .next (
  match s.expire T.rvec with
  | none => s
  | some s =>
    let s := s.clearSent.arm T.rvec 10000000
    let held := (List.range 64).filter (fun d => s.bitAt (pairKey R.LINK_PRES_LO.reg R.LINK_PRES_HI.reg) d && d ≠ s.dev)
    let all := (if s.bit R.LINK_ID.JOINED then [s.dev] else []) ++ held
    (linkPorts.filter s.portOpen).foldl (fun s p => all.foldl (fun s d =>
      let x := s.nextSeq
      x.2.emitHop p 5 s.dev x.1 (BitVec.ofNat 8 d :: leBytes 8 (s.vectorOf d).toNat)) s) s)

/-- RVEC (R296, R297): the rails of `newer` keep what a status frame said since the frame's first symbol; the frame passes
on as it came. -/
def execRvec (p : Fin 4) (dev : Byte) (vec : BitVec 64) (newer : BitVec 64) (s : State) (f : Option FrameId := none) :
    Out := .next (
  let f := { f.getD ⟨p, dev, 0xFE#8, 0#16, true⟩ with port := p }
  let s := s.clearSent
  if !s.hears p then s
  else if !f.crcOk then s.frameBad p
  else if dev.toNat < 64 && dev.toNat ≠ s.dev then
    let s := s.frameGood p
    let v := (vec &&& ~~~newer) ||| (s.link.vectors.at 0#64 dev.toNat &&& newer)
    (s.holdVector dev.toNat v).relayRvec f (dev :: leBytes 8 vec.toNat)
  else s.frameGood p)

/-- REMOTE_STATUS_STALE (R297): 30 ms without a frame from the device. -/
def execRemoteStatusStale (dev : Fin 64) (s : State) : Out := .next (
  match s.expire (T.stale dev) with
  | some s => s.dropVector dev
  | none => s)

/-! ## Events and acknowledgements (R240, R291, R299, R301) -/

/-- The devices the link owes an event to: the MANAGER from a WORKER, every joined device from the MANAGER; none when
the link is down or the device is orphaned. -/
def State.eventDests (s : State) : List Nat :=
  if s.manager then s.joinedDevs
  else if s.worker && s.upPort.isSome && !s.bit R.LINK_ID.ORPHAN then [s.link.mgr] else []

/-- EVENT_FORWARD (R240): the lowest-numbered pending event to its engines and the link. -/
def execEventForward (s : State) : Out := .next (
  match s.nextForward with
  | none => s
  | some v =>
    if s.bit R.EVT_FWD.BUSY then s
    else
      let s := s.clearSent
      let dests := if s.bit (R.EVT_ROUTE.LINK v) then s.eventDests else []
      let s := s.deliver v (!dests.isEmpty)
      if dests.isEmpty then s
      else
        let x := s.sendAcked 6 (if s.manager then 0xFF else s.link.mgr)
          (BitVec.ofNat 8 v :: leBytes 8 (s.evt.raisedAt.at 0#64 v).toNat) dests none
        x.2.updLink (fun l => { l with fwdSeq := some x.1 }))

/-- EVENT_FRAME (R299): the receive queue, a record, EV_068 and the acknowledgement. -/
def execEventFrame (f : FrameId) (ev : Fin 128) (raised : BitVec 64) (s : State) : Out := .next (
  s.receive f 6 (BitVec.ofNat 8 ev :: leBytes 8 raised.toNat) (fun s =>
    let s := if s.link.rxev.length < 32
      then s.updLink (fun l => { l with rxev := l.rxev ++ [(f.src.toNat, ev.val)] })
      else s.updLink (fun l => { l with rxDrop := true })
    ((s.traceRec 0x0B30 1 (f.src.toNat * 2 ^ 24 + ev.val)).event 68).acknowledge f 0 []))

/-- An acknowledgement from device `src` of the frame `seq` of this device. -/
def State.takeAck (s : State) (src seq result : Nat) (data : List Byte) : State :=
  match s.link.out.find? (fun o => o.seq = seq && o.waits.contains src) with
  | none => s
  | some o =>
    let left := o.waits.filter (· ≠ src)
    let s := s.updLink (fun l => { l with out := l.out.map (fun x => if x.seq = o.seq then { x with waits := left } else x) })
    let s := s.acked o src result data
    if left.isEmpty then s.finishOut o result data else s

/-- ACK_FRAME (R291, R301): one for another device passes on. -/
def execAckFrame (src : Byte) (seq : BitVec 16) (result : Byte) (data : List Byte) (s : State) (f : Option FrameId := none) :
    Out := .next (
  s.take (s.headerOf f src.toNat s.dev) 7 (leBytes 2 seq.toNat ++ [result] ++ data) (fun s =>
    s.takeAck src.toNat seq.toNat result.toNat data))

/-- FRAME_RESEND (R291): after 2 ms without an acknowledgement, up to eight sends. -/
def execFrameResend (seq : BitVec 16) (s : State) : Out := .next (
  match s.expire (T.resend seq.toNat) with
  | none => s
  | some s =>
    let s := s.clearSent
    match s.link.out.find? (fun o => o.seq = seq.toNat) with
    | none => s
    | some o =>
      if 8 ≤ o.sends then s.dropOut o
      else
        let s := s.updLink (fun l => { l with out := l.out.map (fun x => if x.seq = o.seq then { x with sends := x.sends + 1 } else x) })
        let s := (s.portsFor o.dst).foldl (fun s p =>
          s.count B.link (R.LINK_PORT_CNT.RESEND p) (R.LINK_PORT_CNT.SAT_R p)) s
        s.transmit o)

/-! ## Coherence (R303) -/

/-- Whether the HIERARCHY section expects device `d`. -/
def State.expected (s : State) (d : Nat) : Bool :=
  match s.acrd.image with | some im => (bytesAt im.hier (16 + 16 * d) 1).testBit 0 | none => false

/-- Device `d` is judged mismatched: once, until it matches again. -/
def State.mismatched (s : State) (d code : Nat) (epoch : Word) : State :=
  if s.bitAt (pairKey R.LINK_MISM_LO.reg R.LINK_MISM_HI.reg) d then s
  else
    let s := (s.setBitAt (pairKey R.LINK_MISM_LO.reg R.LINK_MISM_HI.reg) d true).raise 55
    let s := (s.event 69).traceRec 0x0B20 code (d * 2 ^ 24 + epoch.toNat % 2 ^ 24)
    if code = 1 then
      (s.sendAcked 0x0A d (leBytes 4 (s.reg R.LINK_EPOCH.reg).toNat ++
        leBytes 8 (s.pair (R.LINK_EXP_LO.reg d) (R.LINK_EXP_HI.reg d)).toNat) [d] none).2
    else s

/-- Device `d` did not answer the last probe; the third in a row counts as a mismatch. -/
def State.missedProbe (s : State) (d : Nat) : State :=
  let n := s.link.missed.at 0 d + 1
  let s := s.updLink (fun l => { l with missed := l.missed.put 0 d (min 3 n) })
  if 3 ≤ n then s.mismatched d 2 (s.reg R.LINK_EPOCH.reg) else s

/-- PROBE_TIMER (R303): the devices that left the last probe unanswered are judged, and the next goes out. -/
def execProbeTimer (s : State) : Out := .next (
  match s.expire T.probeTick with
  | none => s
  | some s =>
    let s := s.clearSent.arm T.probeTick s.pperNs
    let s := ((List.range 64).filter (fun d => s.expected d && d ≠ s.dev && !s.link.answered.getLsbD d)).foldl State.missedProbe s
    let s := s.updLink (fun l => { l with answered := 0 })
    let x := s.nextSeq
    s.downPorts.foldl (fun s p => s.emit p 8 0xFF x.1
      (leBytes 4 (s.reg R.LINK_EPOCH.reg).toNat ++ leBytes 2 (s.fld R.LINK_CFG.PPER))) x.2)

/-- PROBE (R303): passed on downstream; a joined WORKER answers with its epoch and digest. -/
def execProbe (src : Byte) (epoch : Word) (pper : BitVec 16) (s : State) (f : Option FrameId := none) : Out := .next (
  s.take (f.getD ⟨Fin.ofNat 4 ((s.upPort).getD 0), src, 0xFF#8, 0#16, true⟩) 8 (leBytes 4 epoch.toNat ++ leBytes 2 pper.toNat) (fun s =>
    if s.worker && s.upPort.isSome && src.toNat = s.link.mgr then
      let s := s.arm T.probeMiss (3 * min 10000 (max 10 pper.toNat) * 1000000)
      s.sendPlain 9 src.toNat (leBytes 4 (s.reg R.LINK_EPOCH.reg).toNat ++
        leBytes 8 (s.pair R.ACRD_DIGEST_LO.reg R.ACRD_DIGEST_HI.reg).toNat)
    else s))

/-- Whether an answer of device `d` matches its entry, or, while a switch is pending, the pending one. -/
def State.answerOk (s : State) (d : Nat) (epoch : Word) (digest : BitVec 64) : Bool :=
  (epoch = s.reg R.LINK_EPOCH.reg && digest = s.pair (R.LINK_EXP_LO.reg d) (R.LINK_EXP_HI.reg d)) ||
  (s.bit R.ACRD_STATUS.SWITCH_PEND && epoch = s.link.swEpoch && s.link.pendExp.at none d = some digest)

/-- An answer at the MANAGER (R303): judged of a device with the expected flag. -/
def State.judgeAnswer (s : State) (dev : Nat) (epoch : Word) (digest : BitVec 64) : State :=
  if s.manager && s.expected dev then
    let s := s.updLink (fun l => { l with
      answered := l.answered ||| (1#64 <<< dev), missed := l.missed.put 0 dev 0 })
    if s.answerOk dev epoch digest then s.setBitAt (pairKey R.LINK_MISM_LO.reg R.LINK_MISM_HI.reg) dev false
    else s.mismatched dev 1 epoch
  else s

/-- ANSWER (R303): judged at the MANAGER; at a WORKER it passes on toward the MANAGER (R291). -/
def execAnswer (dev : Fin 64) (epoch : Word) (digest : BitVec 64) (s : State) (f : Option FrameId := none) : Out := .next (
  s.take (s.headerOf f dev s.mgrDev) 9 (leBytes 4 epoch.toNat ++ leBytes 8 digest.toNat) (fun s => s.judgeAnswer dev epoch digest))

/-- PROBE_MISSING (R303): 3 × PPER without a PROBE while the upstream port is up. -/
def execProbeMissing (s : State) : Out := .next (
  match s.expire T.probeMiss with
  | none => s
  | some s => if s.worker && s.upPort.isSome then s.raise 55 else s)

/-- MISMATCH (R303). -/
def execMismatch (f : FrameId) (epoch : Word) (expected : BitVec 64) (s : State) : Out := .next (
  s.fromManager f 0x0A (leBytes 4 epoch.toNat ++ leBytes 8 expected.toNat) (fun s =>
    ((s.raise 55).event 69).acknowledge f 0 []))

/-! ## The MANAGER's frames (R300, R301) -/

/-- PARAM_FRAME (R300): a parameter write from the hierarchy link. -/
def execParamFrame (f : FrameId) (id : BitVec 12) (value : Word) (persist : Bool) (s : State) : Out := .next (
  s.fromManager f 0x0B (leBytes 2 id.toNat ++ leBytes 4 value.toNat ++ [BitVec.ofNat 8 persist.toNat]) (fun s =>
    let s := s.paramCommand .link id.toNat value persist
    let c := s.fld (R.ACRD_PARAM_STAT.RESULT (reqCode .link))
    s.acknowledge f (if c = 0 then 0 else 1) (BitVec.ofNat 8 c ::
      leBytes 8 (s.pair R.ACRD_DIGEST_LO.reg R.ACRD_DIGEST_HI.reg).toNat)))

/-- BANK_WR (R300): a write to the inactive bank, or refused (R29, R30, Table 1.11). -/
def execBankWr (f : FrameId) (off : Word) (data : List Byte) (s : State) : Out := .next (
  s.fromManager f 0x0C (leBytes 4 off.toNat ++ data) (fun s =>
    match s.commandBank false with
    | some b => if s.bankOpen .link b && decide (off.toNat + data.length ≤ imageLen)
        then (s.bankWrite b off.toNat data).acknowledge f 0 [] else s.acknowledge f 1 []
    | none => s.acknowledge f 1 []))

/-- The digest the staged image will have: with the stored parameters replayed (R25, R300). -/
def State.predicted (s : State) : BitVec 64 :=
  match s.acrd.staged with
  | some im => digestOf im.hash (replayJournal (s.replayList im.params))
  | none => 0#64

/-- The acknowledgement data of a finished VERIFY (Table 15.6). -/
def State.verifyData (s : State) : List Byte :=
  let ok := s.bit R.ACRD_STATUS.STAGED_OK
  [BitVec.ofNat 8 (s.fld R.ACRD_STATUS.VCAUSE), BitVec.ofNat 8 (ok.toNat + 2 * s.topoEq.toNat)] ++
    leBytes 8 (if ok then s.predicted.toNat else 0) ++
    leBytes 4 (match s.acrd.stagedBank with | some b => bytesLE (s.bankRead b 0x10 4) | none => 0)

/-- VERIFY_FRAME (R300): its acknowledgement follows the verification, and a resend meanwhile starts no other. -/
def execVerifyFrame (f : FrameId) (s : State) : Out := .next (
  s.fromManager f 0x0D [] (fun s =>
    if (s.commandBank false).isNone then s.acknowledge f 1 (List.replicate 14 0#8)
    else if s.link.verifyAck.any (fun a => a.2 = (f.src.toNat, f.seq.toNat)) then s
    else (s.verifyStaged false).updLink (fun l => { l with verifyAck := some (f.port.val, f.src.toNat, f.seq.toNat) })))

/-- A finished VERIFY is acknowledged to the MANAGER that asked for it (Table 15.6). -/
def State.verifyReply (s : State) : State :=
  match s.link.verifyAck with
  | none => s
  | some (p, src, seq) =>
    (s.acknowledge ⟨Fin.ofNat 4 p, BitVec.ofNat 8 src, 0xFF#8, BitVec.ofNat 16 seq, true⟩
      (if s.bit R.ACRD_STATUS.STAGED_OK then 0 else 1) s.verifyData).updLink (fun l => { l with verifyAck := none })

/-- The end of a verification: the MANAGER's own passing verification holds its predicted digest too (R304). -/
def State.stagedDone (s : State) (b : Bool) : State :=
  let s := s.clearSent.verifyDone b
  let s := if s.manager && s.bit R.ACRD_STATUS.STAGED_OK && s.bit R.LINK_CFG.AUTOEXP
    then s.updLink (fun l => { l with pendExp := l.pendExp.put none s.dev (some s.predicted) }) else s
  s.verifyReply

/-- VERIFY_STAGED_DONE (R29, R300, R304). -/
def execVerifyStagedDone (s : State) : Out := .next (
  match s.acrd.verifying with
  | none => s
  | some b =>
    match s.expire T.verify with
    | none => s
    | some s => s.stagedDone b)

/-- SWITCH_AT (R305): accepted, or refused with a cause. -/
def execSwitchAt (f : FrameId) (t : BitVec 64) (epoch : Word) (s : State) : Out := .next (
  s.fromManager f 0x0E (leBytes 8 t.toNat ++ leBytes 4 epoch.toNat) (fun s =>
    let c := s.switchCause t
    if c = 0 then (s.switchAccept t epoch).acknowledge f 0 [0#8] else s.acknowledge f 1 [BitVec.ofNat 8 c]))

/-- GO (R306). -/
def execGo (f : FrameId) (epoch : Word) (s : State) : Out := .next (
  s.fromManager f 0x0F (leBytes 4 epoch.toNat) (fun s =>
    (if s.switchOpen && epoch = s.link.swEpoch then s.takeGo else s).acknowledge f 0 []))

/-- CANCEL (R306): before T, even after GO. -/
def execCancel (f : FrameId) (epoch : Word) (s : State) : Out := .next (
  s.fromManager f 0x10 (leBytes 4 epoch.toNat) (fun s =>
    (if s.switchOpen && epoch = s.link.swEpoch then s.switchDrop 0xFF 8 else s).acknowledge f 0 []))

/-- SWITCH_SELF_CANCEL (R306): no GO at T − 1 ms. -/
def execSwitchSelfCancel (s : State) : Out := .next (
  match s.expire T.selfCancel with
  | none => s
  | some s => if s.switchOpen && !s.link.swGo then s.switchDrop 0xFF 7 else s)

/-- GO_LEAD_REACHED (R306): at T − GOLEAD the MANAGER sends GO, or CANCEL when an acceptance is missing. -/
def execGoLeadReached (s : State) : Out := .next (
  match s.expire T.goLead with
  | none => s
  | some s =>
    let s := s.clearSent
    if s.switchOpen && !s.link.swGo then (if s.link.swWait.isEmpty then s.tryGo else s.cancelAll 0xFF 8) else s)

/-- A COMMAND frame: refused when the device does not accept it. -/
def State.linkCommand (s : State) (f : FrameId) (code : Nat) (ok : Bool) (act : State → State) : State :=
  (if ok then act s else s).acknowledge f (if ok then 0 else 1) [BitVec.ofNat 8 code]

/-- A power command from the hierarchy: a refused one sets PWR_REFUSED, an accepted one owes the MANAGER a PDONE. -/
def State.linkPower (s : State) (f : FrameId) (code : Nat) (refuse : Bool) : State :=
  let ok := s.powerOk refuse
  let s := s.powerCommand (code = 2) refuse
  let s := if ok then s.updLink (fun l => { l with pdoneOwed := some f.src.toNat }) else s
  s.linkCommand f code ok id

/-- LINK_CMD_PARK (R300). -/
def execLinkCmdPark (f : FrameId) (s : State) : Out := .next (s.fromManager f 0x11 [1#8] (fun s => s.linkPower f 1 false))

/-- LINK_CMD_FLACON (R60, R300). -/
def execLinkCmdFlacon (f : FrameId) (vinAbove6 : Bool) (s : State) : Out := .next (
  s.fromManager f 0x11 [2#8] (fun s => s.linkPower f 2 vinAbove6))

/-- LINK_CMD_RESTART (R221, R300). -/
def execLinkCmdRestart (f : FrameId) (s : State) : Out := .next (
  s.fromManager f 0x11 [3#8] (fun s => s.linkCommand f 3 (s.sys.phase = .safe) State.restart))

/-- LINK_CMD_SELECT_STAGED (R29, R300). -/
def execLinkCmdSelectStaged (f : FrameId) (s : State) : Out := .next (
  s.fromManager f 0x11 [4#8] (fun s => s.linkCommand f 4 (s.bit R.ACRD_STATUS.STAGED_OK)
    (fun s => s.selectStaged (s.acrd.stagedBank.getD false))))

/-- The data of a RD reaches the buffer of the engine that reads (DEDUCED, log entry 157). -/
def State.takeRdata (s : State) (src : Nat) (l : List Byte) : State :=
  match s.link.rdWait.at none src with
  | none => s
  | some e =>
    let s := (List.range ((l.length + 3) / 4)).foldl (fun s i =>
      if i < 65 then s.setReg (R.LINK_TX_BUF.reg e i) (BitVec.ofNat 32 (bytesAt l (4 * i) 4)) else s) s
    s.updLink (fun l => { l with rdWait := l.rdWait.put none src none })

/-- RDATA (R300): its payload is address and data; at a WORKER it passes on toward the MANAGER (R291). -/
def execRdata (src : Byte) (addr : Word) (data : List Byte) (s : State) (f : Option FrameId := none) : Out := .next (
  s.take (s.headerOf f src.toNat s.mgrDev) 0x14 (leBytes 4 addr.toNat ++ data) (fun s =>
    s.takeRdata src.toNat (leBytes 4 addr.toNat ++ data)))

/-! ## The power-down cascade (R61, R302) -/

/-- PDONE (R302): the MANAGER goes on with the cascade. -/
def execPdone (f : FrameId) (dest : Byte) (s : State) : Out := .next (
  s.receive f 0x15 [dest] (fun s =>
    let s := s.acknowledge f 0 []
    if s.link.cascOn && s.runs T.casc && s.link.cascWait.contains f.src.toNat then s.cascNext else s))

/-- CASCADE_WAIT_EXPIRY (R302). -/
def execCascadeWaitExpiry (s : State) : Out := .next (
  match s.expire T.casc with
  | some s => if s.link.cascOn then s.clearSent.cascNext else s
  | none => s)

/-- PWR_CMD over the two-wire bus (R61, R282): 0x01 to park, 0x02 to flacon; any other byte is invalid data (R280). -/
def State.busPower (s : State) (vinAbove6 : Bool) (m : BusMsg) : State :=
  s.busSend m 0xE4 1 (fun s l =>
    if bytesLE l = 1 then some (s.powerRequest false false)
    else if bytesLE l = 2 then some (s.powerRequest true vinAbove6) else none)

/-- POWER_DOWN_TO_PARK (R61). -/
def execPowerDownToPark (r : Req) (s : State) (m : Option BusMsg := none) : Out := .next (
  sentAs r m (s.busPower false)
    (if s.may r R.SYS_PWR_CMD.reg true (some 0xE4) then (s.powerRequest false false).hostWrite r 0xE4 1
    else s.denied r true))

/-- POWER_DOWN_TO_FLACON (R60, R61): refused while VIN_SNS is above 6.0 V. -/
def execPowerDownToFlacon (r : Req) (vinAbove6 : Bool) (s : State) (m : Option BusMsg := none) : Out := .next (
  sentAs r m (s.busPower vinAbove6)
    (if s.may r R.SYS_PWR_CMD.reg true (some 0xE4) then (s.powerRequest true vinAbove6).hostWrite r 0xE4 2
    else s.denied r true))

/-- A WORKER whose rails are down says so to the MANAGER that commanded it, with the destination as COMMAND codes it
(DEDUCED, log entry 156). -/
def State.sendPdone (s : State) : State :=
  match s.link.pdoneOwed with
  | some d => if s.seq.railsDown then
      ((s.sendAcked 0x15 d [if s.bit R.SYS_STATUS.DEST_FLACON then 2#8 else 1#8] [d] none).2).updLink
        (fun l => { l with pdoneOwed := none })
    else s
  | none => s

/-- The remote lines that a running sequencer's tick sees: the map may be another since the last frame, and an entry
that names this device carries its own GOOD line (R297; DEDUCED, log entry 124). -/
def State.tickRemote (s : State) : State := if s.runs T.seqTick then s.showRemote else s

/-- SEQUENCER_TICK (R133, R157, R296): with the reset outputs and the status frames that follow from it. -/
def execSequencerTick (s : State) : Out := .next (((s.clearSent.tickRemote.seqTick.rstoRefresh).sendGood).sendPdone)

/-! ## Orphans (R308) -/

/-- ORPHAN_DETECT (R308): TDET after the upstream port went down. -/
def execOrphanDetect (s : State) : Out := .next (
  match s.expire T.orphan with
  | none => s
  | some s =>
    if s.worker && s.upPort.isNone then
      let s := (s.setB R.LINK_ID.ORPHAN true).linkAckForward
      let p := s.fld R.LINK_ORPH.POL
      if p = 1 then s.groupShutdown (s.fld R.LINK_ORPH.GRP) false
      else if p = 2 then s.arm T.orphPark (max 1 (s.fld R.LINK_ORPH.TPD) * 1000000000)
      else s
    else s)

/-- ORPHAN_PARK (R308). -/
def execOrphanPark (s : State) : Out := .next (
  match s.expire T.orphPark with
  | none => s
  | some s => if s.bit R.LINK_ID.ORPHAN then s.powerRequest false false else s)

/-! ## Engine frames, switch, receive queue, trace -/

/-- A LINK_TX_CMD of an engine that runs. -/
def State.engineTx (s : State) (e : Fin 16) (typ : Nat) (dst : Byte) (len : BitVec 9) : State :=
  if s.engRuns e then s.txFrame e typ dst.toNat len.toNat else s

/-- LINK_TX_PARAM (R300). -/
def execLinkTxParam (e : Fin 16) (dst : Byte) (len : BitVec 9) (s : State) : Out := .next (s.engineTx e 0x0B dst len)

/-- LINK_TX_BANK_WR (R300). -/
def execLinkTxBankWr (e : Fin 16) (dst : Byte) (len : BitVec 9) (s : State) : Out := .next (s.engineTx e 0x0C dst len)

/-- LINK_TX_VERIFY (R300). -/
def execLinkTxVerify (e : Fin 16) (dst : Byte) (len : BitVec 9) (s : State) : Out := .next (s.engineTx e 0x0D dst len)

/-- LINK_TX_COMMAND (R300). -/
def execLinkTxCommand (e : Fin 16) (dst : Byte) (len : BitVec 9) (s : State) : Out := .next (s.engineTx e 0x11 dst len)

/-- LINK_TX_RD (R300). -/
def execLinkTxRd (e : Fin 16) (dst : Byte) (len : BitVec 9) (s : State) : Out := .next (s.engineTx e 0x12 dst len)

/-- LINK_TX_WR (R300). -/
def execLinkTxWr (e : Fin 16) (dst : Byte) (len : BitVec 9) (s : State) : Out := .next (s.engineTx e 0x13 dst len)

/-- SWITCH_ARM (R305). -/
def execSwitchArm (r : Req) (s : State) : Out := .next (
  if s.may r R.LINK_SW_CMD.reg true none then (s.switchCommand 0x7E000001#32).hostWrite r 0xD1 1 else s.denied r true)

/-- SWITCH_CANCEL (R306). -/
def execSwitchCancel (r : Req) (s : State) : Out := .next (
  if s.may r R.LINK_SW_CMD.reg true none then (s.switchCommand 0x7E000002#32).hostWrite r 0xD1 2 else s.denied r true)

/-- RXEV_READ (R299). -/
def execRxevRead (r : Req) (s : State) : Out := .next (
  if s.may r R.LINK_RXEV.reg false none then s.rxevTake.2 else s.denied r false)

/-- TRACE_WRITE (R311). -/
def execTraceWrite (r : Req) (code source : BitVec 16) (s : State) : Out := .next (
  if s.topOn && s.may r 0x400B00C8 true none then
    (s.traceAdd (reqCode r) code.toNat source.toNat).hostWrite r 0xD1 source.toNat
  else s.denied r true)

/-- TRACE_UNFREEZE (R310). -/
def execTraceUnfreeze (r : Req) (s : State) : Out := .next (
  if s.may r R.LINK_TRC_CTRL.reg true none then s.unfreeze.hostWrite r 0xD1 1 else s.denied r true)

end Sys2Proof.Machine
end

