-- ==== Sys2Proof/Machine/HostBase.lean ====
section
/-! DEFINITION.  What the host ports' registers hold apart from the transactions: PMBus status (R281), the
mailboxes (R284) and Host Notify (spec/14). -/

namespace Sys2Proof.Machine

/-! ## PMBus status (R281, Tables 14.3 and 14.4) -/

/-- The conditions of HOST_PMST that persist for loop `n`, as its word holds them. -/
def State.pmLive (s : State) (n : Nat) : Word :=
  let c := s.fld (R.LOOP_STATUS.CAUSE n)
  let ps := s.assigned n
  let vout := if c = 1 || c = 2 then 0x80 else if c = 3 then 0x10 else 0
  let iout := (if c = 4 then 0x80 else 0) + (if s.bit (R.LOOP_STATUS.ILIM n) then 0x20 else 0)
  let temp := (if ps.any (fun p => s.lost p && s.fld (R.PH_STATUS.LOSS p) = 3) then 0x80 else 0) +
    (if ps.any (fun p => s.bit (R.PH_STATUS.WARN p)) then 0x40 else 0)
  let mfr := (if ps.any s.lost then 1 else 0) + (if ps.any (fun p => s.bit (R.PH_STATUS.SUSPECT p)) then 2 else 0) +
    (if s.bit (R.SV_STATUS.PML n) || s.bit (R.SV_STATUS.HF n) || s.bit (R.SV_STATUS.HW n) then 4 else 0)
  BitVec.ofNat 32 (vout + iout * 2 ^ 8 + temp * 2 ^ 16 + mfr * 2 ^ 24)

/-- The latched status of loop `n` with the bits of `mask` cleared, unless their condition persists. -/
def State.pmClear (s : State) (n : Nat) (mask : Word) : State :=
  s.setReg (R.HOST_PMST.reg n) ((s.reg (R.HOST_PMST.reg n) &&& ~~~mask) ||| (s.pmLive n &&& mask))

/-- The conditions of the latched bits of STATUS_WORD that persist for loop `n`. -/
def State.pmLiveWord (s : State) (n : Nat) : BitVec 16 :=
  let c := s.fld (R.LOOP_STATUS.CAUSE n)
  let low := s.bit R.SUP_VIN_STATUS.LOW
  BitVec.ofNat 16 ((if low || s.bit R.SUP_VIN_STATUS.HIGH then 0x2000 else 0) + (if low then 8 else 0) +
    (if c = 1 || c = 2 then 0x20 else 0) + (if c = 4 then 0x10 else 0) + (if c = 5 || c = 6 then 1 else 0))

/-- The latched bits of STATUS_WORD of loop `n` with those of `mask` cleared, unless their condition persists. -/
def State.pmClearWord (s : State) (n : Nat) (mask : BitVec 16) : State :=
  { s with host := { s.host with pm := s.host.pm.upd 0#16 n (fun w => (w &&& ~~~mask) ||| (s.pmLiveWord n &&& mask)) } }

/-! ## Mailboxes (R284) -/

/-- The inbound message is released. -/
def State.mboxRelease (s : State) : State := (s.setB R.HOST_MBOX_STAT.INFULL false).setF R.HOST_MBOX_STAT.INLEN 0

/-- A write of OUTLEN posts an outbound message, or takes one back with 0. -/
def State.mboxPost (s : State) (len : Nat) : State := s.setF R.HOST_MBOX_STAT.OUTLEN len

/-- MBOX_INBOUND_RELEASE (R284). -/
def execMboxInboundRelease (e : Fin 16) (s : State) : Out := .next (if s.engRuns e then s.mboxRelease else s)

/-- MBOX_OUTBOUND_POST (R284). -/
def execMboxOutboundPost (e : Fin 16) (len : BitVec 7) (s : State) : Out := .next (
  if s.engRuns e then s.mboxPost len.toNat else s)

end Sys2Proof.Machine
end

