-- ==== Sys2Proof/Machine/RegAccess.lean ====
section
/-! DEFINITION.  Reads and writes of the block registers by any requester (Table 0.5, R7, R20), with what each
register does of its own, and the windows that the host ports and the hierarchy reach the map through. -/

namespace Sys2Proof.Machine

/-! ## Which copy an access reaches -/

/-- The registers kept in one copy per requester. -/
def perRequester : List Nat :=
  [0x400D0030, 0x400D0034, 0x400D0038, 0x40090018, 0x40090020, 0x40090024, 0x40090028, 0x4009002C, 0x40090030,
   0x40090034, 0x400B00C4, 0x400B00C8]

/-- Whether the register at `a` has one copy per engine: MEAS_URG and LINK_TX. -/
def perEngine (a : Nat) : Bool :=
  (0x40051500 ≤ a && a ≤ 0x40051510) || (0x400B0090 ≤ a && a ≤ 0x400B00A8) || (0x400B0200 ≤ a && a ≤ 0x400B0300)

/-- The storage key that an access of a requester to address `a` reaches, if there is one. -/
def regKey (r : Req) (a : Nat) : Option Nat :=
  if 0x4008C000 ≤ a && a < 0x4008C800 then
    match r with
    | .engine e => some (0x40084000 + 0x800 * e.val + (a - 0x4008C000))
    | _ => none
  else if perRequester.contains a then some (copyKey (reqCode r) a)
  else if perEngine a then
    match r with
    | .engine e => some (copyKey e.val a)
    | _ => none
  else some a

/-- The engine of a requester. -/
def engOf : Req → Option (Fin 16)
  | .engine e => some e
  | _ => none

/-- Whether a requester is a host port. -/
def hostOf : Req → Bool
  | .hostBus => true
  | .quad => true
  | _ => false

/-! ## Plain access (Table 0.5) -/

/-- Whether RWL fields may be written directly: before the lock at t3, and while a TEST image runs (R20). -/
def State.rwlOpen (s : State) : Bool :=
  s.sys.stage ≠ .released || (match s.acrd.image with | some im => im.flags.testBit 0 | none => false)

/-- A write by the access codes alone (R7). -/
def State.plainWrite (s : State) (k : Nat) (w : Word) : State :=
  match regRowOf (k % 2 ^ 32) with
  | none => s
  | some x =>
    let old := s.reg k
    let rwl : Word := if s.rwlOpen then BitVec.ofNat 32 x.rwl else 0#32
    let m := BitVec.ofNat 32 x.rw ||| rwl
    let s := s.setReg k (keepOfs k old (((old &&& ~~~m) ||| (w &&& m)) &&& ~~~(w &&& BitVec.ofNat 32 x.w1c)))
    if (old ^^^ w) &&& rwl = 0#32 then s else s.liveEffect k old

/-- The LO registers whose HI write latches both halves. -/
def latchLo (k : Nat) : Bool :=
  k = 0x40000018 || k = 0x400B0064 || (0x400B0400 ≤ k && k < 0x400B0600 && k % 8 = 0) ||
  (0x40084000 ≤ k && k < 0x4008C000 && k % 0x800 = 0x18)

/-- The LO registers whose read latches HI. -/
def readLatch (k : Nat) : Bool :=
  ([0x400D0010, 0x40000038, 0x400A0818, 0x400A0858, 0x40060020, 0x40070028, 0x40080230, 0x400A0010, 0x400B0040] : List Nat).contains k ||
  k % 2 ^ 32 = 0x4005150C

/-! ## Writes with behaviour of their own -/

/-- The bits of a word that are set, in ascending order. -/
def setBits (w : Word) : List Nat := (List.range 32).filter (fun i => w.getLsbD i)

/-- A write in block SYS: SYS_PWR_CMD, whose command to flacon is refused while VIN_SNS is above 6.0 V (R60, R61), and
SYS_LC_CMD (R62). -/
def State.writeSys (s : State) (r : Req) (k : Nat) (w : Word) : State :=
  if k = R.SYS_PWR_CMD.reg then
    if w.field 24 8 ≠ 0xC3 then s
    else if w.field 0 4 = 1 then s.powerRequest false false
    else if w.field 0 4 = 2 then
      let f := s.takeFree
      f.2.powerRequest true (decide (6000 < Config.ballMv 1 f.1))
    else s
  else if k = R.SYS_LC_CMD.reg then (if hostOf r && decide (4 ≤ s.sys.stage.ord) then s.lcRequest w else s)
  else s.plainWrite k w

/-- A write in block LOOP: LOOP_VSET (R73), LOOP_LOCK (R78), SV_CFG.FORCE (R111). -/
def State.writeLoop (s : State) (r : Req) (k : Nat) (w : Word) : State :=
  let n := (k - 0x40010000) / 0x400
  if n < 24 then
    if k = R.LOOP_VSET.reg n then s.writeVset r n w
    else if k = R.LOOP_LOCK.reg n then
      let s := s.plainWrite k w
      match srcOf r with
      | none => s
      | some src =>
        let s := if w.getLsbD 31 then s.takeLock n src else s
        if w.getLsbD 30 then s.releaseLock n src else s
    else if k = R.SV_CFG.reg n then
      let s := s.plainWrite k w
      if w.getLsbD 29 then s.surveyForce n else s
    else s.plainWrite k w
  else s.plainWrite k w

/-- A write in block SEQ: rail, group and resume commands (R132, R141, R142, R144). -/
def State.writeSeq (s : State) (k : Nat) (w : Word) : State :=
  let n := (k - 0x40030000) / 0x100
  let g := (k - 0x40034000) / 0x10
  if n < 64 && k = R.SEQ_RAIL_CTRL.reg n then
    if w.field 24 8 ≠ 0x96 then s
    else match w.field 0 2 with
      | 1 => s.railOn n
      | 2 => s.railOffRequest n
      | 3 => s.railClear n
      | _ => s
  else if 0x40034000 ≤ k && g < 16 && k = R.SEQ_GRP_CTRL.reg g then
    (if w.field 24 8 = 0x69 && w.getLsbD 0 then s.groupShutdown g false else s)
  else if k = R.SEQ_CTRL.reg then (if w.field 24 8 = 0x96 && w.getLsbD 0 then s.seqResume else s)
  else s.plainWrite k w

/-- A write in block MEAS: snapshot commands and selection (R200), the queue's read index (R203), urgent requests (R204). -/
def State.writeMeas (s : State) (r : Req) (k : Nat) (w : Word) : State :=
  let n := (k - 0x40051240) / 0x40
  if k = R.MEAS_SNAP_CMD.reg then (if w.field 24 8 = 0xE1 then s.snapCommand (w.field 2 2) (w.field 0 2) else s)
  else if 0x40051240 ≤ k && n < 4 && k = R.MEAS_SNAP_SEL.reg n then (s.plainWrite k w).showSnap n
  else if k = R.MEAS_Q_PTR.reg then (if (engOf r).isSome then s.releaseTo (w.field 0 12) else s)
  else match engOf r with
    | some e =>
      if k = R.MEAS_URG_REQ.reg e then
        (if w.getLsbD 31 then s.urgentRequest (w.field 0 8) (some e) else s.plainWrite k w)
      else s.plainWrite k w
    | none => s.plainWrite k w

/-- A write in block PATH: charger commands (R183), soft limits (R182), the peer mode (R187, R188), for which
BAT is taken as above VWARN while PATH_STATUS.WARN is 0. -/
def State.writePath (s : State) (k : Nat) (w : Word) : State :=
  if k = R.PATH_CHG_CTRL.reg then (if w.field 24 8 = 0x3C then s.chgCommand (w.field 0 2) else s)
  else if k = R.PATH_CHG_SOFT.reg then s.softLimit w
  else if k = R.PATH_PEER.reg then
    let s := s.plainWrite k ((w &&& 0x3FFFFFFF#32) ||| (s.reg k &&& 0xC0000000#32))
    match w.field 30 2 with
    | 1 => s.peerIn
    | 2 => (let f := s.takeFree; f.2.peerOut (decide ((s.warnLevel : Int) < Config.ballMv 3 f.1)))
    | _ => s.peerOff
  else s.plainWrite k w

/-- A write in block FLT: acknowledge, clear, inject, restart (R214, R218, R221, R225). -/
def State.writeFlt (s : State) (r : Req) (k : Nat) (w : Word) : State :=
  if k = R.FLT_ACK_LO.reg then (setBits w).foldl State.ackFault s
  else if k = R.FLT_ACK_HI.reg then (setBits w).foldl (fun s i => s.ackFault (32 + i)) s
  else if k = R.FLT_STAT_LO.reg then (setBits w).foldl State.clearFault s
  else if k = R.FLT_STAT_HI.reg then (setBits w).foldl (fun s i => s.clearFault (32 + i)) s
  else if k = R.FLT_INJ.reg then (if w.field 24 8 = 0x4E then s.injectFault (w.field 0 6) else s)
  else if k = R.FLT_RESTART.reg then (if w.field 24 8 = 0xD7 && (engOf r).isNone then s.restart else s)
  else s.plainWrite k w

/-- A write of a DMA channel's registers by its owner (R234, R236). -/
def State.writeDma (s : State) (e c : Nat) (k : Nat) (w : Word) : State :=
  if s.dmaOwner c ≠ some e then s
  else if k = R.DMA_CH_CTRL.reg c then
    if s.dmaRuns c then (if w.getLsbD 2 then s.dmaAsk c 6 else if w.getLsbD 1 then s.dmaAsk c 3 else s)
    else if w.getLsbD 0 then s.dmaLoad e c (s.fld (R.DMA_CH_DESC.ADDR c) * 32) true
    else s
  else s.plainWrite k w

/-- A write of engine `e` to its own registers (R231, R237, Table 12.3). -/
def State.writeEng (s : State) (e : Nat) (k : Nat) (w : Word) : State :=
  if k = R.ENG_TKO.reg e then (if w.field 24 8 = 0xB4 then s.takeover e (w.field 0 4) else s)
  else if k = R.ENG_DOORBELL.reg e then s.ring e (w.field 0 16)
  else if k = R.EIC_COMPLETE.reg e then s.complete e (w.field 0 8)
  else s.plainWrite k w

/-- A write in block EVT: host pending bits by the host only (R242), software events, semaphores (R233), channels
by their owner, and engine registers by the engine itself. -/
def State.writeEvt (s : State) (r : Req) (k : Nat) (w : Word) : State :=
  if 0x40080200 ≤ k && k < 0x40080210 then (if hostOf r then s.plainWrite k w else s)
  else if k = R.EVT_RAISE.reg then s.raiseSoft (w.field 0 5)
  else if 0x40080800 ≤ k && k < 0x40080900 then s.semWrite (semCode r) ((k - 0x40080800) / 4) w
  else if 0x40081000 ≤ k && k < 0x40081200 then
    (match engOf r with | some e => s.writeDma e ((k - 0x40081000) / 0x10) k w | none => s)
  else if 0x40084000 ≤ k && k < 0x4008C000 then
    (match engOf r with | some e => (if (k - 0x40084000) / 0x800 = e.val then s.writeEng e k w else s) | none => s)
  else s.plainWrite k w

/-- A write in block LEDG: commit, record and log commands (R252, R256, R259). -/
def State.writeLedg (s : State) (r : Req) (k : Nat) (w : Word) : State :=
  let q := reqCode r
  if k = R.LEDG_CTRL.reg then (if w.field 24 8 = 0x5C && w.field 0 4 = 1 then s.requestCommit else s)
  else if k = R.LEDG_REC_CMD.reg q then
    match w.field 30 2 with
    | 1 => s.recFetch q (w.field 0 9)
    | 2 => s.recUpdate q (w.field 0 9) (s.pair (R.LEDG_REC_VAL_LO.reg q) (R.LEDG_REC_VAL_HI.reg q)) false
    | 3 => s.recAdd q (w.field 0 9) (s.reg (R.LEDG_REC_VAL_LO.reg q))
    | _ => s
  else if k = R.LEDG_LOG_CMD.reg q then s.engineLog q (w.field 24 8) (w.field 0 16)
  else s.plainWrite k w

/-- A write in block HOST: the mailboxes (R284) and the latched PMBus status (R281). -/
def State.writeHost (s : State) (r : Req) (k : Nat) (w : Word) : State :=
  if k = R.HOST_MBOX_STAT.reg then
    let s := if w.getLsbD 30 && (engOf r).isSome then s.mboxRelease else s
    s.mboxPost (w.field 0 7)
  else if 0x400A0200 ≤ k && k < 0x400A0260 then s.pmClear ((k - 0x400A0200) / 4) w
  else s.plainWrite k w

/-- A write in block LINK: the switch (R305, R306), frames of engine firmware (R300), trace records and UNFREEZE (R310,
R311). -/
def State.writeLink (s : State) (r : Req) (k : Nat) (w : Word) : State :=
  if k = R.LINK_SW_CMD.reg then s.switchCommand w
  else if k = R.LINK_TRC_CTRL.reg then (if w.field 24 8 = 0x8B && w.getLsbD 0 then s.unfreeze else s)
  else if k = R.LINK_TRC_WR_CMD.reg (reqCode r) then s.traceAdd (reqCode r) (w.field 16 16) (w.field 0 16)
  else match engOf r with
    | some e => if k = R.LINK_TX_CMD.reg e then s.txFrame e (w.field 24 8) (w.field 16 8) (w.field 0 9) else s.plainWrite k w
    | none => s.plainWrite k w

/-- A write in block BIST: BIST_CMD, whose run ends as two free values say (R321). -/
def State.writeBist (s : State) (k : Nat) (w : Word) : State :=
  if k = R.BIST_CMD.reg then
    let f := s.takeFree
    let v := Config.freeWord f.1
    f.2.bistCommand w (if v.getLsbD 0 then [] else [(v.field 8 4, v.field 16 8)])
  else s.plainWrite k w

/-- A write in block ACRD: loader commands (R29), parameter commands (R21), tile reload (R28). -/
def State.writeAcrd (s : State) (r : Req) (k : Nat) (w : Word) : State :=
  let q := reqCode r
  if k = R.ACRD_CTRL.reg then
    if w.field 24 8 ≠ 0xA5 then s
    else if w.field 0 4 = 1 then s.verifyStaged (w.getLsbD 4)
    else if w.field 0 4 = 2 then s.selectStaged (w.getLsbD 4)
    else s
  else if k = R.ACRD_PARAM_CMD.reg q then
    let s := s.setB (R.ACRD_PARAM_STAT.DONE q) false
    match w.field 30 2 with
    | 1 => s.paramCommand r (w.field 0 12) (s.reg (R.ACRD_PARAM_VAL.reg q)) (w.getLsbD 29)
    | 2 => s.paramFetch r (w.field 0 12) false
    | 3 => s.paramFetch r (w.field 0 12) true
    | _ => s
  else if k = R.ACRD_TILE_RELOAD.reg then s.tileReload w
  else s.plainWrite k w

/-- Whether a requester may write a register whose halves latch together: LINK_SW_T only at the MANAGER, a timer
compare only by its engine. -/
def State.latchMay (s : State) (r : Req) (k : Nat) : Bool :=
  if k = 0x400B0064 || k = 0x400B0068 then s.manager
  else if 0x40084000 ≤ k && k < 0x4008C000 then (match engOf r with | some e => (k - 0x40084000) / 0x800 = e.val | none => false)
  else true

/-- A write of a HI half: both halves take effect together; a timer compare may match again. -/
def State.writeHi (s : State) (k : Nat) (w : Word) : State :=
  let lo := (s.loLatch.at none (k - 4)).getD (s.reg (k - 4))
  let s := { (s.setReg (k - 4) lo).setReg k w with loLatch := s.loLatch.put none (k - 4) none }
  if 0x40084000 ≤ k && k < 0x4008C000 then s.updEng ((k - 0x40084000) / 0x800) (fun x => { x with tcmpArmed := true }) else s

/-- A write of the whole register at address `a` by a requester. -/
def State.writeReg (s : State) (r : Req) (a : Nat) (w : Word) : State :=
  match regKey r a with
  | none => s
  | some k =>
    if latchLo k then (if s.latchMay r k then { s with loLatch := s.loLatch.put none k (some w) } else s)
    else if latchLo (k - 4) && 4 ≤ k then (if s.latchMay r k then s.writeHi k w else s)
    else match k % 2 ^ 32 / 0x10000 with
      | 0x4000 => s.writeSys r k w
      | 0x4001 => s.writeLoop r k w
      | 0x4003 => s.writeSeq k w
      | 0x4004 => if k = R.SUP_WD_ANS.reg then (if hostOf r then s.wdJudge (w.field 0 16) else s) else s.plainWrite k w
      | 0x4005 => s.writeMeas r k w
      | 0x4006 => s.writePath k w
      | 0x4007 => s.writeFlt r k w
      | 0x4008 => s.writeEvt r k w
      | 0x4009 => s.writeLedg r k w
      | 0x400A => s.writeHost r k w
      | 0x400B => s.writeLink r k w
      | 0x400C => s.writeBist k w
      | 0x400D => s.writeAcrd r k w
      | _ => s.plainWrite k w

/-- A write of `n` bytes, fewer than a register, at address `a`: the register's other bits are written as they
read, its other command bits as 0. -/
def State.writePart (s : State) (r : Req) (a n v : Nat) : State :=
  let b := a / 4 * 4
  match regKey r b with
  | none => s
  | some k =>
    let m : Word := BitVec.ofNat 32 ((2 ^ (8 * n) - 1) * 2 ^ (8 * (a - b)))
    let keep : Word := match regRowOf (k % 2 ^ 32) with | some x => BitVec.ofNat 32 (x.rw ||| x.rwl) | none => 0#32
    let cur := (s.loLatch.at none k).getD (s.reg k)
    s.writeReg r b ((BitVec.ofNat 32 (v * 2 ^ (8 * (a - b))) &&& m) ||| (cur &&& keep &&& ~~~m))

/-! ## Reads -/

/-- A word with one bit set or clear. -/
def putBit (w : Word) (i : Nat) (b : Bool) : Word := w.setField i 1 b.toNat

/-- IL_nAL of link `n` is high (R127): a pulse is the first 100 ns after its alert. -/
def State.ilReady (s : State) (n : Nat) : Bool :=
  s.bit (R.IL_CFG.EN n) && s.sys.phase = .run &&
  (match s.deadline (T.ilPulse n) with | some d => decide (d < s.ns + 100) || decide (s.ns + 200 < d) | none => true)

/-- The 100 µs of recovery after a self-reset of the bus interface (R269, R270). -/
def T.recov : Nat := timerKey 110 0

/-- Whether recovery runs. -/
def State.recovering (s : State) : Bool :=
  match s.deadline T.recov with | some d => decide (s.ns < d) | none => false

/-- Whether SCL is stretched (R269): after the device's own address byte in park and before the top-note clocks run, at
the bytes of a transaction from t5 to t3, and in recovery. -/
def State.stretching (s : State) : Bool :=
  s.host.stretch || (s.topOn && s.sys.phase = .start && s.sys.stage ≠ .released) || s.recovering

/-- Whether the BAT leg of HSUP is enabled with `bat` millivolts at BAT (R44): in start, run, power-down and the safe
state above 5.0 V and with the pack not marked absent; in park while VIN is below UVLO. -/
def State.batLegOn (s : State) (bat : Int) : Bool :=
  s.sys.batLeg && (s.sys.phase = .park || (s.topPhase && decide (5000 < bat) && !s.bit R.PATH_STATUS.ABSENT))

/-- Whether HSUP, the higher of VIN and the enabled BAT leg, is drawn from the BAT leg (R44). -/
def State.onBat (s : State) (vin bat : Int) : Bool := s.batLegOn bat && decide (vin < bat)

/-- The word of the register of key `k` where it shows more than what is stored; a field that the model has no
measurement for is a free value. -/
def State.shown (s : State) (k : Nat) : Word × State :=
  let w := s.reg k
  let free := fun (g : Word → Word) => let f := s.takeFree; (g (Config.freeWord f.1), f.2)
  match k / 0x10000 with
  | 0x4000 => if k = R.SYS_STATUS.reg then
      (let f := s.takeFree; (putBit w 16 (s.onBat (Config.ballMv 0 f.1) (Config.ballMv 2 f.1)), f.2)) else (w, s)
  | 0x4001 => if k = R.LOOP_REF_STATUS.reg then (w.setField 0 17 s.refPeriod, s) else (w, s)
  | 0x4004 =>
    if k < 0x40040400 && k % 0x10 = 8 then
      let n := (k - 0x40040000) / 0x10
      (putBit (putBit (putBit w 31 (s.monInside n)) 28 (s.monArmed n)) 27 (s.monRail n).isSome, s)
    else if 0x40040500 ≤ k && k < 0x40040580 && k % 0x10 = 0xC then
      ((if s.sys.stage = .released then w else putBit w 31 true), s)
    else (w, s)
  | 0x4006 =>
    if k = R.PATH_CHG_TMR.reg then
      let e := s.chgElapsed
      (BitVec.ofNat 32 (satNat 65535 e.1 * 65536 + satNat 65535 e.2), s)
    else if k = R.PATH_CHG_MEAS.reg then free (fun v => w.setField 0 16 (v.field 0 16))
    else (w, s)
  | 0x4008 =>
    if k = R.ENG_TIME_LO.reg then (s.now.setWidth 32, s)
    else if k = R.ENG_TIME_HI.reg then ((s.now >>> 32).setWidth 32, s)
    else (w, s)
  | 0x400A =>
    if k = R.IL_STAT.reg 0 then (putBit w 31 (s.ilReady 0), s)
    else if k = R.IL_STAT.reg 1 then (putBit w 31 (s.ilReady 1), s)
    else if k = R.HOST_STATUS.reg then (putBit (putBit w 15 s.stretching) 14 s.recovering, s)
    else (w, s)
  | 0x400B =>
    let p := (k - R.LINK_PORT_STATUS.reg 0) / 4
    (if R.LINK_PORT_STATUS.reg 0 ≤ k && p < 4 then w.setField 29 3 (s.portState p) else (s.loLatch.at none k).getD w, s)
  | 0x400D => (if k = R.ACRD_SVN.reg && s.sys.stage = .released then w.setField 16 16 s.svnFloor else w, s)
  | _ => ((s.loLatch.at none k).getD w, s)

/-- A read of the whole register at address `a` by a requester: its word, and what the read does (semaphores,
claims, received events, latched halves). -/
def State.readReg (s : State) (r : Req) (a : Nat) : Word × State :=
  match regKey r a with
  | none => (0#32, s)
  | some k =>
    if 0x40080800 ≤ k && k < 0x40080900 then s.semRead (semCode r) ((k - 0x40080800) / 4)
    else if 0x40084000 ≤ k && k < 0x4008C000 && k % 0x800 = 0x2A4 then s.claim ((k - 0x40084000) / 0x800)
    else if k = R.LINK_RXEV.reg then s.rxevTake
    else if readLatch (k - 4) && 4 ≤ k && (s.hiLatch.at none k).isSome then ((s.hiLatch.at none k).getD 0#32, s)
    else
      let x := s.shown k
      let wo : Word := match regRowOf (k % 2 ^ 32) with | some y => BitVec.ofNat 32 y.wo | none => 0#32
      let s := if readLatch k then
          let h := (x.2.shown (k + 4)).1
          { x.2 with hiLatch := x.2.hiLatch.put none (k + 4) (some h) }
        else x.2
      (x.1 &&& ~~~wo, s)

/-! ## Shared SRAM, trace and sample queue as bytes (R228, R309, R201) -/

/-- The words of the shared SRAM that `n` bytes from offset `o` touch. -/
def touched (o n : Nat) : List Nat :=
  if n = 0 then [] else (List.range ((o + n - 1) / 8 - o / 8 + 1)).map (fun i => o / 8 + i)

/-- The bytes of the shared SRAM, with every word read correctly. -/
def State.sramBytes (s : State) (o n : Nat) : List Byte :=
  (((touched o n).flatMap (fun k => wordBytes (s.evt.sram.at 0#64 k))).drop (o % 8)).take n

/-- Whether a word of the shared SRAM that `n` bytes from `o` touch is poisoned. -/
def State.sramPoisoned (s : State) (o n : Nat) : Bool := (touched o n).any (fun k => s.evt.sramBad.at false k)

/-- The bytes of word `k` that a write of `bytes` at offset `o` covers, over the old ones. -/
def mergeWord (k : Nat) (old : BitVec 64) (o : Nat) (bytes : List Byte) : BitVec 64 :=
  BitVec.ofNat 64 (bytesLE ((wordBytes old).zipIdx.map (fun (b, i) =>
    if o ≤ 8 * k + i && 8 * k + i < o + bytes.length then bytes.getD (8 * k + i - o) b else b)))

/-- Whether a write of `n` bytes at `o` covers the whole of word `k`. -/
def wholeWord (k o n : Nat) : Bool := o ≤ 8 * k && 8 * k + 8 ≤ o + n

/-- A write to the shared SRAM: refused where it covers a poisoned word in part; a full word clears the poison (R228). -/
def State.sramWrite (s : State) (o : Nat) (bytes : List Byte) : Option State :=
  let ws := touched o bytes.length
  if ws.any (fun k => s.evt.sramBad.at false k && !wholeWord k o bytes.length) then none
  else some (ws.foldl (fun s k => { s with evt := { s.evt with
    sram := s.evt.sram.put 0#64 k (mergeWord k (s.evt.sram.at 0#64 k) o bytes),
    sramBad := s.evt.sramBad.put false k false } }) s)

/-- The 16 bytes of a sillage record (R309). -/
def TraceRec.bytes (t : TraceRec) : List Byte :=
  leBytes 8 t.time.toNat ++ leBytes 2 t.source.toNat ++ leBytes 2 t.code.toNat ++ leBytes 4 t.data.toNat

/-- `n` bytes from offset `o` of a memory of 16-byte entries. -/
def entryBytes (f : Nat → List Byte) (o n : Nat) : List Byte :=
  if n = 0 then []
  else (((List.range ((o + n - 1) / 16 - o / 16 + 1)).flatMap (fun i => f (o / 16 + i))).drop (o % 16)).take n

/-- Bytes of the sillage trace, and of the sample-queue memory. -/
def State.traceBytes (s : State) (o n : Nat) : List Byte := entryBytes (fun k => (s.trace.at ⟨0, 0, 0, 0⟩ k).bytes) o n
def State.queueBytes (s : State) (o n : Nat) : List Byte := entryBytes (fun k => (s.meas.queue.at QEntry.zero k).bytes) o n

/-! ## What a port does not reach (R284) -/

/-- Whether `n` bytes from `a` touch the mailbox registers. -/
def mailboxAt (a n : Nat) : Bool :=
  (decide (a < R.HOST_MBOX_STAT.reg + 4) && decide (R.HOST_MBOX_STAT.reg < a + n)) ||
  (decide (a < R.HOST_MBOX_OUT.reg 15 + 4) && decide (R.HOST_MBOX_IN.reg 0 < a + n))

/-- The quad port does not reach the mailboxes. -/
def portHidden (r : Req) (a n : Nat) : Bool := r = .quad && mailboxAt a n

/-! ## Windows of the host ports and the hierarchy (R283, R286, R300) -/

/-- Whole registers read in ascending order. -/
def State.readRegs (s : State) (r : Req) : (count : Nat) → (a : Nat) → List Byte × State
  | 0, _ => ([], s)
  | c + 1, a =>
    let x := s.readReg r a
    let y := x.2.readRegs r c (a + 4)
    (leBytes 4 x.1.toNat ++ y.1, y.2)

/-- Whole registers written in ascending order. -/
def State.writeRegs (s : State) (r : Req) : (a : Nat) → List Byte → State
  | a, b0 :: b1 :: b2 :: b3 :: l => (s.writeReg r a (BitVec.ofNat 32 (bytesLE [b0, b1, b2, b3]))).writeRegs r (a + 4) l
  | _, _ => s

/-- A free byte for each of `n` places. -/
def State.freeBytes (s : State) (n : Nat) : List Byte × State :=
  let f := s.takeFree
  ((List.range n).map (Config.freeBlock f.1), f.2)

/-- The words of a list that cannot be read, of those of the shared SRAM, and the state after their reads (R228). -/
def State.sramTake (s : State) : (ws : List Nat) → List Nat × State
  | [] => ([], s)
  | k :: ws =>
    let x := s.eccTake .sram k
    let y := x.2.sramTake ws
    (if x.1 then y.1 else k :: y.1, y.2)

/-- A read of the shared SRAM by a host port: each word passes its check bits, and the bytes that the port answers for
one that cannot be read are free values (R228). -/
def State.sramPortRead (s : State) (o n : Nat) : List Byte × State :=
  let x := s.sramTake (touched o n)
  if x.1.isEmpty then (s.sramBytes o n, x.2)
  else
    let f := x.2.freeBytes n
    (((s.sramBytes o n).zip f.1).zipIdx.map (fun (b, i) => if x.1.contains ((o + i) / 8) then b.2 else b.1), f.2)

/-- The reads that a write of the shared SRAM makes of the words it covers in part: whether all of them serve (R228). -/
def State.partReads (s : State) : (ws : List Nat) → Bool × State
  | [] => (true, s)
  | k :: ws =>
    let x := s.partRead .sram k true
    if x.1 then x.2.partReads ws else x

/-- A write of the shared SRAM by a host port (R228). -/
def State.sramPortWrite (s : State) (o : Nat) (bytes : List Byte) : Bool × State :=
  let x := s.partReads ((touched o bytes.length).filter (fun k => !wholeWord k o bytes.length))
  if x.1 then (match x.2.sramWrite o bytes with | some t => (true, t) | none => (false, x.2)) else x

/-- A window read of `n` bytes from `a`, which lie within one region. -/
def State.winRead (s : State) (r : Req) (a n : Nat) : List Byte × State :=
  match placeOf a with
  | some (.sram o) => s.sramPortRead o n
  | some (.trace o) => (s.traceBytes o n, s)
  | some (.queue o) => (s.queueBytes o n, s)
  | some (.block b) => s.readRegs r (n / 4) b
  | some (.ledger o) => s.ledgRead (reqCode r) o n
  | some (.bank b o) => (s.bankRead b o n, s)
  | none => ([], s)

/-- How a window write was taken. -/
inductive WinResult where
  | done
  | refused
  | busy
  deriving DecidableEq, Repr

/-- LEDG_RSTAT.REFUSED of a requester. -/
def State.noteRefused (s : State) (r : Req) : State := s.setB (R.LEDG_RSTAT.REFUSED (reqCode r)) true

/-- A window write of bytes at `a` in the Ledger window: one Ledger write within its page (R247, R250, R251).  The
two-wire bus reserves the slot at the command code, so that one that would have to wait for its slot is refused as busy
(R268). -/
def State.ledgWindow (s : State) (r : Req) (w : Writer) (o : Nat) (bytes : List Byte) : WinResult × State :=
  let x := s.windowWrite w (o / 64) (o % 64) bytes
  match x.1 with
  | .placed => (.done, x.2)
  | .waits => if r = .hostBus then (.busy, s) else (.done, x.2)
  | .refused => (.busy, x.2.noteRefused r)
  | .notPermitted => (.refused, x.2.noteRefused r)

/-- A window write of bytes at `a`, which lie within one region.  The trace and the sample queue are read only. -/
def State.winWrite (s : State) (r : Req) (a : Nat) (bytes : List Byte) : WinResult × State :=
  match placeOf a with
  | some (.sram o) => let x := s.sramPortWrite o bytes; (if x.1 then .done else .refused, x.2)
  | some (.block b) => (.done, s.writeRegs r b bytes)
  | some (.ledger o) => s.ledgWindow r (.window r) o bytes
  | some (.bank b o) => if s.bankOpen r b then (.done, s.bankWrite b o bytes) else (.refused, s)
  | _ => (.refused, s)

/-- What a host port answers to an address that names no register (R268, Table 14.7). -/
def State.misplaced (s : State) (r : Req) : State :=
  match r with
  | .hostBus => if s.busOn then s.refuse 0x02 false else s
  | .quad => if s.quadOn then s.quadAnswer 0x02 0x05 none else s
  | _ => s

/-- REGISTER_WRITE (R7): a write of a whole register by a requester that may reach it. -/
def execRegisterWrite (r : Req) (addr : Word) (w : Word) (s : State) : Out := .next (
  let a := addr.toNat
  if !s.topOn then s
  else if a % 4 ≠ 0 || a < 0x40000000 || 0x400E0000 ≤ a then s.misplaced r
  else if s.may r a true none && !portHidden r a 4 then (s.writeReg r a w).hostWrite r 0xD1 w.toNat
  else s.denied r true)

/-! ## RD and WR of the hierarchy (R300) -/

/-- Where RD and WR may go: registers, whole; the Ledger window; RD also the sillage trace. -/
def linkPlace (a n : Nat) (write : Bool) : Bool :=
  4 ≤ n && n ≤ 256 && placeFits (winSpan write a n).1 (winSpan write a n).2 &&
  (match placeOf a with
   | some (.block _) => a % 4 = 0 && n % 4 = 0
   | some (.trace _) => !write
   | some (.ledger _) => true
   | _ => false)

/-- RD_FRAME (R300): answered by the acknowledgement, and by RDATA where RMR accepts it: the address and the bytes. -/
def execRdFrame (f : FrameId) (addr : Word) (len : Nat) (s : State) : Out := .next (
  s.fromManager f 0x12 (leBytes 4 addr.toNat ++ leBytes 2 len) (fun s =>
    if s.bit R.LINK_CFG.RMR && linkPlace addr.toNat len false then
      let x := s.winRead .link addr.toNat len
      let s := x.2.acknowledge f 0 []
      s.sendPlain 0x14 f.src.toNat (leBytes 4 addr.toNat ++ x.1)
    else s.acknowledge f 1 []))

/-- WR_FRAME (R300): what its write sends follows what the frame itself has sent. -/
def execWrFrame (f : FrameId) (addr : Word) (data : List Byte) (s : State) : Out := .next (
  s.fromManager f 0x13 (leBytes 4 addr.toNat ++ data) (fun s =>
    if s.bit R.LINK_CFG.RMW && linkPlace addr.toNat data.length true then
      let x := s.clearSent.winWrite .link addr.toNat data
      (x.2.updLink (fun l => { l with sent := s.link.sent ++ l.sent })).acknowledge f (if x.1 = .done then 0 else 1) []
    else s.acknowledge f 1 []))

end Sys2Proof.Machine
end

