-- ==== Sys2Proof/Machine/Rv.lean ====
section
/-! DEFINITION.  The instructions of a policy engine: RV32I with the M and C extensions and Zicsr, machine mode
(R226), decoded from their words, and their arithmetic. -/

namespace Sys2Proof.Machine

/-- An instruction of an engine. -/
inductive Rv where
  | lui (rd : Nat) (imm : Word)
  | auipc (rd : Nat) (imm : Word)
  | jal (rd : Nat) (ofs : Word)
  | jalr (rd rs1 : Nat) (ofs : Word)
  | branch (f3 rs1 rs2 : Nat) (ofs : Word)
  | load (f3 rd rs1 : Nat) (ofs : Word)
  | store (f3 rs1 rs2 : Nat) (ofs : Word)
  | opImm (f3 : Nat) (alt : Bool) (rd rs1 : Nat) (imm : Word)
  | op (f3 : Nat) (alt : Bool) (rd rs1 rs2 : Nat)
  | mul (f3 rd rs1 rs2 : Nat)
  | csr (f3 rd rs1 csr : Nat)
  | fence
  | ecall
  | ebreak
  | mret
  | wfi
  deriving DecidableEq, Repr

/-- A `w`-bit number sign-extended to a word. -/
def signWord (w v : Nat) : Word := BitVec.ofInt 32 (signedOf w v)

/-- The immediates of the 32-bit formats. -/
def immI (x : Word) : Word := signWord 12 (x.field 20 12)
def immS (x : Word) : Word := signWord 12 (x.field 25 7 * 32 + x.field 7 5)
def immB (x : Word) : Word := signWord 13 (x.field 31 1 * 4096 + x.field 7 1 * 2048 + x.field 25 6 * 32 + x.field 8 4 * 2)
def immU (x : Word) : Word := BitVec.ofNat 32 (x.field 12 20 * 4096)
def immJ (x : Word) : Word :=
  signWord 21 (x.field 31 1 * 1048576 + x.field 12 8 * 4096 + x.field 20 1 * 2048 + x.field 21 10 * 2)

/-- SYSTEM instructions. -/
def rvSystem (x : Word) : Option Rv :=
  if x.field 12 3 = 0 then
    if x = 0x00000073#32 then some .ecall
    else if x = 0x00100073#32 then some .ebreak
    else if x = 0x30200073#32 then some .mret
    else if x = 0x10500073#32 then some .wfi
    else none
  else if x.field 12 3 = 4 then none
  else some (.csr (x.field 12 3) (x.field 7 5) (x.field 15 5) (x.field 20 12))

/-- The instruction of a 32-bit word; none where it is illegal. -/
def rvDecode (x : Word) : Option Rv :=
  let rd := x.field 7 5
  let f3 := x.field 12 3
  let rs1 := x.field 15 5
  let rs2 := x.field 20 5
  let f7 := x.field 25 7
  match x.field 0 7 with
  | 0x37 => some (.lui rd (immU x))
  | 0x17 => some (.auipc rd (immU x))
  | 0x6F => some (.jal rd (immJ x))
  | 0x67 => if f3 = 0 then some (.jalr rd rs1 (immI x)) else none
  | 0x63 => if f3 = 2 || f3 = 3 then none else some (.branch f3 rs1 rs2 (immB x))
  | 0x03 => if f3 = 3 || 6 ≤ f3 then none else some (.load f3 rd rs1 (immI x))
  | 0x23 => if 3 ≤ f3 then none else some (.store f3 rs1 rs2 (immS x))
  | 0x13 =>
    if f3 = 1 then (if f7 = 0 then some (.opImm 1 false rd rs1 (BitVec.ofNat 32 rs2)) else none)
    else if f3 = 5 then
      if f7 = 0 then some (.opImm 5 false rd rs1 (BitVec.ofNat 32 rs2))
      else if f7 = 0x20 then some (.opImm 5 true rd rs1 (BitVec.ofNat 32 rs2))
      else none
    else some (.opImm f3 false rd rs1 (immI x))
  | 0x33 =>
    if f7 = 1 then some (.mul f3 rd rs1 rs2)
    else if f7 = 0 then some (.op f3 false rd rs1 rs2)
    else if f7 = 0x20 && (f3 = 0 || f3 = 5) then some (.op f3 true rd rs1 rs2)
    else none
  | 0x0F => if f3 = 0 then some .fence else none
  | 0x73 => rvSystem x
  | _ => none

/-- Quadrant 0 of the compressed instructions. -/
def rvQuad0 (x : Word) : Option Rv :=
  let rdp := 8 + x.field 2 3
  let rs1p := 8 + x.field 7 3
  let lw := BitVec.ofNat 32 (x.field 10 3 * 8 + x.field 6 1 * 4 + x.field 5 1 * 64)
  match x.field 13 3 with
  | 0 =>
    let imm := x.field 11 2 * 16 + x.field 7 4 * 64 + x.field 6 1 * 4 + x.field 5 1 * 8
    if imm = 0 then none else some (.opImm 0 false rdp 2 (BitVec.ofNat 32 imm))
  | 2 => some (.load 2 rdp rs1p lw)
  | 6 => some (.store 2 rs1p rdp lw)
  | _ => none

/-- The six-bit immediate of the CI format. -/
def immCI (x : Word) : Nat := x.field 12 1 * 32 + x.field 2 5

/-- The offsets of C.J and C.JAL, and of C.BEQZ and C.BNEZ. -/
def immCJ (x : Word) : Word :=
  signWord 12 (x.field 12 1 * 2048 + x.field 11 1 * 16 + x.field 9 2 * 256 + x.field 8 1 * 1024 + x.field 7 1 * 64 +
    x.field 6 1 * 128 + x.field 3 3 * 2 + x.field 2 1 * 32)
def immCB (x : Word) : Word :=
  signWord 9 (x.field 12 1 * 256 + x.field 10 2 * 8 + x.field 5 2 * 64 + x.field 3 2 * 2 + x.field 2 1 * 32)

/-- The register-register and shift group of quadrant 1. -/
def rvMiscAlu (x : Word) : Option Rv :=
  let rdp := 8 + x.field 7 3
  let rs2p := 8 + x.field 2 3
  let sh := BitVec.ofNat 32 (x.field 2 5)
  match x.field 10 2 with
  | 0 => if x.field 12 1 = 0 then some (.opImm 5 false rdp rdp sh) else none
  | 1 => if x.field 12 1 = 0 then some (.opImm 5 true rdp rdp sh) else none
  | 2 => some (.opImm 7 false rdp rdp (signWord 6 (immCI x)))
  | _ =>
    if x.field 12 1 = 1 then none
    else match x.field 5 2 with
      | 0 => some (.op 0 true rdp rdp rs2p)
      | 1 => some (.op 4 false rdp rdp rs2p)
      | 2 => some (.op 6 false rdp rdp rs2p)
      | _ => some (.op 7 false rdp rdp rs2p)

/-- Quadrant 1 of the compressed instructions. -/
def rvQuad1 (x : Word) : Option Rv :=
  let rd := x.field 7 5
  let imm := signWord 6 (immCI x)
  match x.field 13 3 with
  | 0 => some (.opImm 0 false rd rd imm)
  | 1 => some (.jal 1 (immCJ x))
  | 2 => some (.opImm 0 false rd 0 imm)
  | 3 =>
    if immCI x = 0 then none
    else if rd = 2 then
      some (.opImm 0 false 2 2 (signWord 10 (x.field 12 1 * 512 + x.field 6 1 * 16 + x.field 5 1 * 64 + x.field 3 2 * 128 +
        x.field 2 1 * 32)))
    else some (.lui rd (imm <<< 12))
  | 4 => rvMiscAlu x
  | 5 => some (.jal 0 (immCJ x))
  | 6 => some (.branch 0 (8 + x.field 7 3) 0 (immCB x))
  | _ => some (.branch 1 (8 + x.field 7 3) 0 (immCB x))

/-- Quadrant 2 of the compressed instructions. -/
def rvQuad2 (x : Word) : Option Rv :=
  let rd := x.field 7 5
  let rs2 := x.field 2 5
  match x.field 13 3 with
  | 0 => if x.field 12 1 = 0 then some (.opImm 1 false rd rd (BitVec.ofNat 32 rs2)) else none
  | 2 => if rd = 0 then none
    else some (.load 2 rd 2 (BitVec.ofNat 32 (x.field 12 1 * 32 + x.field 4 3 * 4 + x.field 2 2 * 64)))
  | 4 =>
    if x.field 12 1 = 0 then
      if rs2 = 0 then (if rd = 0 then none else some (.jalr 0 rd 0#32)) else some (.op 0 false rd 0 rs2)
    else if rs2 = 0 then (if rd = 0 then some .ebreak else some (.jalr 1 rd 0#32))
    else some (.op 0 false rd rd rs2)
  | 6 => some (.store 2 2 rs2 (BitVec.ofNat 32 (x.field 9 4 * 4 + x.field 7 2 * 64)))
  | _ => none

/-- The instruction of a 16-bit parcel whose low bits are not 11. -/
def rvDecode16 (x : Word) : Option Rv :=
  match x.field 0 2 with
  | 0 => rvQuad0 x
  | 1 => rvQuad1 x
  | _ => rvQuad2 x

/-- The integer operations of RV32I by `funct3`; `alt` is bit 30 of the word: subtraction and the arithmetic shift. -/
def rvAlu (f3 : Nat) (alt : Bool) (a b : Word) : Word :=
  match f3 with
  | 0 => if alt then a - b else a + b
  | 1 => a <<< (b.toNat % 32)
  | 2 => if a.toInt < b.toInt then 1#32 else 0#32
  | 3 => if a.toNat < b.toNat then 1#32 else 0#32
  | 4 => a ^^^ b
  | 5 => if alt then a.sshiftRight (b.toNat % 32) else a >>> (b.toNat % 32)
  | 6 => a ||| b
  | _ => a &&& b

/-- The operations of the M extension by `funct3`: products, and quotients and remainders with the values that
RISC-V gives for a divisor of 0 and for the overflow of the most negative number by -1. -/
def rvMul (f3 : Nat) (a b : Word) : Word :=
  match f3 with
  | 0 => a * b
  | 1 => BitVec.ofInt 32 (a.toInt * b.toInt / 2 ^ 32)
  | 2 => BitVec.ofInt 32 (a.toInt * (b.toNat : Int) / 2 ^ 32)
  | 3 => BitVec.ofNat 32 (a.toNat * b.toNat / 2 ^ 32)
  | 4 => if b = 0#32 then 0xFFFFFFFF#32 else BitVec.ofInt 32 (a.toInt.tdiv b.toInt)
  | 5 => if b = 0#32 then 0xFFFFFFFF#32 else BitVec.ofNat 32 (a.toNat / b.toNat)
  | 6 => if b = 0#32 then a else BitVec.ofInt 32 (a.toInt.tmod b.toInt)
  | _ => if b = 0#32 then a else BitVec.ofNat 32 (a.toNat % b.toNat)

/-- Whether a branch of `funct3` is taken. -/
def rvTaken (f3 : Nat) (a b : Word) : Bool :=
  match f3 with
  | 0 => a == b
  | 1 => a != b
  | 4 => decide (a.toInt < b.toInt)
  | 5 => decide (b.toInt ≤ a.toInt)
  | 6 => decide (a.toNat < b.toNat)
  | _ => decide (b.toNat ≤ a.toNat)

/-- The bytes a load or store of `funct3` accesses. -/
def rvBytes (f3 : Nat) : Nat := 2 ^ (f3 % 4)

/-- The value a load of `funct3` writes for the bytes it read. -/
def rvLoaded (f3 v : Nat) : Word :=
  match f3 with
  | 0 => signWord 8 v
  | 1 => signWord 16 v
  | _ => BitVec.ofNat 32 v

end Sys2Proof.Machine
end

