-- ==== Sys2Proof/Machine/Engine.lean ====
section
/-! DEFINITION.  An engine's instructions and interrupts, the beats of the DMA channels, and the scrubber of the
engines' memories (R226 to R238). -/

namespace Sys2Proof.Machine

/-! ## Memory as an engine or its DMA channels see it (R227, R228, Table 12.1) -/

/-- How an access ends: with its value, in a bus error, in a bus error of ECC, or in one that raises no FSTAT bit. -/
inductive MemEnd where
  | ok
  | bus
  | ecc
  | quiet
  deriving DecidableEq, Repr

/-- `n` bytes of a word from byte `i`. -/
def lane (w : Word) (i n : Nat) : Nat := w.field (8 * i) (8 * n)

/-- A word with `n` bytes from byte `i` replaced. -/
def setLane (w : Word) (i n v : Nat) : Word := w.setField (8 * i) (8 * n) v

/-- A TCM of engine `e`. -/
def tcmOf (e : Fin 16) (data : Bool) : EccMem := if data then .dtcm e else .itcm e

/-- A read of `n` bytes of a TCM of engine `e` at byte offset `o`, `n` at most 4 (R228). -/
def State.tcmRead (s : State) (e : Fin 16) (data : Bool) (o n : Nat) : MemEnd × Nat × State :=
  let x := s.eng e
  let r := s.eccTake (tcmOf e data) (o / 4)
  if r.1 then (.ok, lane ((if data then x.dtcm else x.itcm).at 0#32 (o / 4)) (o % 4) n, r.2) else (.ecc, 0, r.2)

/-- A read of `n` bytes of the shared SRAM at byte offset `o`, within one word (R228). -/
def State.sramRead (s : State) (o n : Nat) : MemEnd × Nat × State :=
  let r := s.eccTake .sram (o / 8)
  if r.1 then (.ok, bytesLE (s.sramBytes o n), r.2) else (.ecc, 0, r.2)

/-- A read of `n` naturally aligned bytes, `n` at most 4, at address `a` of the map of engine `e`. -/
def State.memRead (s : State) (e : Fin 16) (a n : Nat) : MemEnd × Nat × State :=
  if a < 0x10000 then s.tcmRead e false a n
  else if a < 0x20000 then s.tcmRead e true (a - 0x10000) n
  else match placeOf a with
    | some (.block b) =>
      let x := s.readReg (.engine e) (b / 4 * 4)
      (.ok, lane x.1 (b % 4) n, x.2)
    | some (.sram o) => s.sramRead o n
    | some _ =>
      let x := s.winRead (.engine e) a n
      (.ok, bytesLE x.1, x.2)
    | none => (.bus, 0, s.raise 48)

/-- A write of `n` naturally aligned bytes, at most 8, of the shared SRAM at byte offset `o`. -/
def State.sramStore (s : State) (o n v : Nat) : MemEnd × State :=
  let r := s.partRead .sram (o / 8) (decide (n < 8))
  if !r.1 then (.quiet, r.2)
  else match r.2.sramWrite o (leBytes n v) with
    | some t => (.ok, t)
    | none => (.quiet, r.2)

/-- A write of `n` bytes of a TCM of engine `e`: in part to a poisoned word it is refused; a full word clears the
poison (R228). -/
def State.tcmWrite (s : State) (e : Fin 16) (data : Bool) (o n v : Nat) : MemEnd × State :=
  let k := o / 4
  let r := s.partRead (tcmOf e data) k (decide (n < 4))
  if !r.1 then (.quiet, r.2)
  else
    let s := r.2
    let x := s.eng e
    let w := setLane ((if data then x.dtcm else x.itcm).at 0#32 k) (o % 4) n v
    (.ok, s.updEng e (fun x =>
      if data then { x with dtcm := x.dtcm.put 0#32 k w, dtcmBad := x.dtcmBad.put false k false }
      else { x with itcm := x.itcm.put 0#32 k w, itcmBad := x.itcmBad.put false k false }))

/-- A write of `n` naturally aligned bytes, at most 4, to a place outside the TCMs, the Ledger write by `w`. -/
def State.placeWrite (s : State) (e : Fin 16) (w : Writer) (a n v : Nat) : MemEnd × State :=
  match placeOf a with
  | some (.sram o) => s.sramStore o n v
  | some (.block b) =>
    (.ok, if n = 4 then s.writeReg (.engine e) b (BitVec.ofNat 32 v) else s.writePart (.engine e) b n v)
  | some (.ledger o) =>
    let x := s.ledgWindow (.engine e) w o (leBytes n v)
    (match x.1 with
     | .done => (.ok, x.2)
     | .refused => (.bus, x.2.raise 48)
     | .busy => (.quiet, x.2))
  | _ => (.bus, s.raise 48)

/-- A write of `n` naturally aligned bytes, `n` at most 4, at address `a` of the map of engine `e`. -/
def State.memWrite (s : State) (e : Fin 16) (w : Writer) (a n v : Nat) : MemEnd × State :=
  if a < 0x10000 then s.tcmWrite e false a n v
  else if a < 0x20000 then s.tcmWrite e true (a - 0x10000) n v
  else s.placeWrite e w a n v

/-! ## Traps and registers (R226) -/

/-- Register x of an engine: x0 reads 0. -/
def State.xreg (s : State) (e x : Nat) : Word := if x = 0 then 0#32 else (s.eng e).xs.at 0#32 x

/-- A write of register x: x0 discards it. -/
def State.setX (s : State) (e x : Nat) (v : Word) : State :=
  if x = 0 then s else s.updEng e (fun r => { r with xs := r.xs.put 0#32 x v })

/-- The program counter of engine `e` written. -/
def State.setPc (s : State) (e : Nat) (a : Word) : State := s.updEng e (fun r => { r with pc := a })

/-- Engine `e` takes an exception: the pc, cause and value are saved, MIE moves to MPIE and clears, and the pc goes
to the base of mtvec. -/
def State.trap (s : State) (e cause : Nat) (tval : Word) : State :=
  s.updEng e (fun r => { r with
    mepc := r.pc, mcause := BitVec.ofNat 32 cause, mtval := tval, mpie := r.mie, mie := false, pc := r.mtvec &&& 0xFFFFFFFC#32 })

/-- An exception for which RISC-V leaves mtval to the implementation: it takes a free value. -/
def State.trapFree (s : State) (e cause : Nat) : State :=
  let f := s.takeFree
  f.2.trap e cause (Config.freeWord f.1)

/-- An instruction retires: minstret counts it. -/
def State.retire (s : State) (e : Nat) : State := s.updEng e (fun r => { r with minstret := r.minstret + 1 })

/-- Engine `e` goes on at `a` after the instruction. -/
def State.nextPc (s : State) (e : Nat) (a : Word) : State := (s.setPc e a).retire e

/-! ## Loads and stores (R227, R228, R232) -/

/-- A load of `n` bytes from `a` for an instruction: its value, or the exception it takes. -/
def State.engLoad (s : State) (e : Fin 16) (a : Word) (n : Nat) : Option Nat × State :=
  if a.toNat % n ≠ 0 then (none, s.trap e 4 a)
  else if !s.mpuMay e 1 a.toNat n then (none, (s.mpuRefuse e 1 a.toNat 0).trap e 5 a)
  else
    let x := s.memRead e a.toNat n
    if x.1 = .ok then (some x.2.1, x.2.2) else (none, x.2.2.trap e 5 a)

/-- A store of `n` bytes at `a`: whether it was done, and the state, where not after the exception it takes. -/
def State.engStore (s : State) (e : Fin 16) (a : Word) (n v : Nat) : Bool × State :=
  if a.toNat % n ≠ 0 then (false, s.trap e 6 a)
  else if !s.mpuMay e 2 a.toNat n then (false, (s.mpuRefuse e 2 a.toNat 0).trap e 7 a)
  else
    let x := s.memWrite e (.window (.engine e)) a.toNat n v
    if x.1 = .ok then (true, x.2) else (false, x.2.trap e 7 a)

/-- A fetch of the 16-bit parcel at `a`, from the instruction TCM or the shared SRAM (Table 12.1). -/
def State.fetchParcel (s : State) (e : Fin 16) (a : Word) : Option Nat × State :=
  let n := a.toNat
  if !s.mpuMay e 0 n 2 then (none, (s.mpuRefuse e 0 n 0).trap e 1 a)
  else if n < 0x10000 || (0x20000000 ≤ n && n < 0x20200000) then
    let x := s.memRead e n 2
    if x.1 = .ok then (some x.2.1, x.2.2) else (none, x.2.2.trap e 1 a)
  else (none, (s.raise 48).trap e 1 a)

/-- A fetch at the pc: the instruction (none where illegal) and its length, or the exception it takes. -/
def State.fetch (s : State) (e : Fin 16) : Option (Option Rv × Nat) × State :=
  let pc := (s.eng e).pc
  let x := s.fetchParcel e pc
  match x.1 with
  | none => (none, x.2)
  | some lo =>
    if lo % 4 ≠ 3 then (some (rvDecode16 (BitVec.ofNat 32 lo), 2), x.2)
    else
      let y := x.2.fetchParcel e (pc + 2#32)
      match y.1 with
      | none => (none, y.2)
      | some hi => (some (rvDecode (BitVec.ofNat 32 (lo + 65536 * hi)), 4), y.2)

/-! ## CSRs (R226, R237) -/

/-- The CSRs of machine mode that read 0 and keep nothing: mstatush, mcountinhibit, mconfigptr and the performance
counters and events. -/
def csrZero (c : Nat) : Bool :=
  c = 0x310 || c = 0x320 || c = 0xF15 || (0x323 ≤ c && c ≤ 0x33F) || (0xB03 ≤ c && c ≤ 0xB1F) || (0xB83 ≤ c && c ≤ 0xB9F)

/-- What CSR `c` of engine `e` reads; none where there is no such CSR.  mhartid reads the engine number. -/
def State.csrRead (s : State) (e c : Nat) : Option Word × State :=
  let x := s.eng e
  match c with
  | 0x300 => (some (BitVec.ofNat 32 (0x1800 + 0x80 * x.mpie.toNat + 8 * x.mie.toNat)), s)
  | 0x301 => (some (Config.engineCsr c), s)
  | 0x304 => (some x.mieReg, s)
  | 0x305 => (some x.mtvec, s)
  | 0x340 => (some x.mscratch, s)
  | 0x341 => (some x.mepc, s)
  | 0x342 => (some x.mcause, s)
  | 0x343 => (some x.mtval, s)
  | 0x344 => (some (if (s.qualified e).isSome then 0x800#32 else 0#32), s)
  | 0xB00 => (let f := s.takeFree; (some (Config.freeWord f.1), f.2))
  | 0xB80 => (let f := s.takeFree; (some (Config.freeWord f.1), f.2))
  | 0xB02 => (some (x.minstret.setWidth 32), s)
  | 0xB82 => (some ((x.minstret >>> 32).setWidth 32), s)
  | 0xF11 => (some (Config.engineCsr c), s)
  | 0xF12 => (some (Config.engineCsr c), s)
  | 0xF13 => (some (Config.engineCsr c), s)
  | 0xF14 => (some (BitVec.ofNat 32 e), s)
  | _ => (if csrZero c then some 0#32 else none, s)

/-- A write of CSR `c` of engine `e`. -/
def State.csrWrite (s : State) (e c : Nat) (w : Word) : State :=
  s.updEng e (fun x =>
    match c with
    | 0x300 => { x with mie := w.getLsbD 3, mpie := w.getLsbD 7 }
    | 0x304 => { x with mieReg := w &&& 0x888#32 }
    | 0x305 => { x with mtvec := w &&& 0xFFFFFFFD#32 }
    | 0x340 => { x with mscratch := w }
    | 0x341 => { x with mepc := w &&& 0xFFFFFFFE#32 }
    | 0x342 => { x with mcause := w }
    | 0x343 => { x with mtval := w }
    | 0xB02 => { x with minstret := (x.minstret &&& 0xFFFFFFFF00000000#64) ||| w.setWidth 64 }
    | 0xB82 => { x with minstret := (x.minstret &&& 0x00000000FFFFFFFF#64) ||| (w.setWidth 64 <<< 32) }
    | _ => x)

/-- A Zicsr instruction: the old value to `rd`, and the write, set or clear that it names. -/
def State.execCsr (s : State) (e f3 rd rs1 c len : Nat) : State :=
  let src := if 4 ≤ f3 then BitVec.ofNat 32 rs1 else s.xreg e rs1
  let writes := f3 % 4 = 1 || rs1 ≠ 0
  if writes && c / 1024 = 3 then s.trapFree e 2
  else
    let r := s.csrRead e c
    match r.1 with
    | none => s.trapFree e 2
    | some old =>
      let new := match f3 % 4 with | 1 => src | 2 => old ||| src | _ => old &&& ~~~src
      let t := (r.2.setX e rd old).nextPc e ((s.eng e).pc + BitVec.ofNat 32 len)
      if writes then t.csrWrite e c new else t

/-! ## One instruction (R226) -/

/-- Engine `e` executes instruction `i` of `len` bytes at its pc. -/
def State.runRv (s : State) (e : Fin 16) (i : Rv) (len : Nat) : State :=
  let pc := (s.eng e).pc
  let seq := pc + BitVec.ofNat 32 len
  let put := fun (rd : Nat) (v : Word) => (s.setX e rd v).nextPc e seq
  match i with
  | .lui rd imm => put rd imm
  | .auipc rd imm => put rd (pc + imm)
  | .jal rd ofs => (s.setX e rd seq).nextPc e (pc + ofs)
  | .jalr rd rs1 ofs => (s.setX e rd seq).nextPc e ((s.xreg e rs1 + ofs) &&& 0xFFFFFFFE#32)
  | .branch f3 a b ofs => s.nextPc e (if rvTaken f3 (s.xreg e a) (s.xreg e b) then pc + ofs else seq)
  | .load f3 rd rs1 ofs =>
    let x := s.engLoad e (s.xreg e rs1 + ofs) (rvBytes f3)
    (match x.1 with | some v => (x.2.setX e rd (rvLoaded f3 v)).nextPc e seq | none => x.2)
  | .store f3 rs1 rs2 ofs =>
    let x := s.engStore e (s.xreg e rs1 + ofs) (rvBytes f3) ((s.xreg e rs2).toNat % 2 ^ (8 * rvBytes f3))
    if x.1 then x.2.nextPc e seq else x.2
  | .opImm f3 alt rd rs1 imm => put rd (rvAlu f3 alt (s.xreg e rs1) imm)
  | .op f3 alt rd rs1 rs2 => put rd (rvAlu f3 alt (s.xreg e rs1) (s.xreg e rs2))
  | .mul f3 rd rs1 rs2 => put rd (rvMul f3 (s.xreg e rs1) (s.xreg e rs2))
  | .csr f3 rd rs1 c => s.execCsr e f3 rd rs1 c len
  | .fence => s.nextPc e seq
  | .ecall => s.trap e 11 0#32
  | .ebreak => s.trapFree e 3
  | .mret =>
    (s.updEng e (fun x => { x with mie := x.mpie, mpie := true })).nextPc e (s.eng e).mepc
  | .wfi => (s.nextPc e seq).setF (R.ENG_STATUS.STATE e) 2

/-- Fetch and execution of one instruction. -/
def State.runOne (s : State) (e : Fin 16) : State :=
  let x := s.fetch e
  match x.1 with
  | none => x.2
  | some (some i, len) => x.2.runRv e i len
  | some (none, _) => x.2.trapFree e 2

/-- ENGINE_INSTRUCTION (R226, R228): a running engine executes one instruction; one that waits for an interrupt goes on
only when a source qualifies.  `errs` are the errors that its reads of the memories find. -/
def execEngineInstruction (e : Fin 16) (s : State) (errs : List EccErr := []) : Out := .next (
  if s.est e = 1 then s.withErrs errs (fun s => s.runOne e)
  else if s.est e = 2 && (s.qualified e).isSome then s.withErrs errs (fun s => (s.setF (R.ENG_STATUS.STATE e) 1).runOne e)
  else s)

/-- INTERRUPT_TAKEN (R226, R237): MIE is 1 and a source qualifies; mepc names the instruction not completed. -/
def execInterruptTaken (e : Fin 16) (s : State) : Out := .next (
  if s.engRuns e && (s.eng e).mie && (s.qualified e).isSome then
    let v := (s.eng e).mtvec
    let t := (s.setF (R.ENG_STATUS.STATE e) 1).trap e 0x8000000B 0#32
    if v.field 0 2 = 1 then t.setPc e ((v &&& 0xFFFFFFFC#32) + 44#32) else t
  else s)

/-! ## Scrubbing (R228) -/

/-- Whether word `k` lies in a memory. -/
def eccHolds (m : EccMem) (k : Nat) : Bool :=
  match m with
  | .sram => decide (k < 262144)
  | .itcm _ => decide (k < 16384)
  | .dtcm _ => decide (k < 16384)

/-- SRAM_SCRUB (R228): word `addr` of a memory is read; a single-bit error is corrected with FS_46, a double one, or
a word already poisoned, raises FS_47. -/
def execSramScrub (mem : EccMem) (addr : Nat) (err : EccErr) (s : State) : Out := .next (
  if !s.topOn || !eccHolds mem addr then s
  else (s.eccRead mem addr err).2)

/-! ## DMA beats (R235) -/

/-- The channel that moves the next beat: the highest priority among those that run, in rotation within it. -/
def State.dmaWinner (s : State) : Option Nat :=
  let prio := fun c => s.fld (R.DMA_CH_CFG.PRIO c)
  let run := (List.range 32).filter s.dmaRuns
  let top := (run.map prio).foldl max 0
  let last := s.evt.beatLast.at 31 top
  ((List.range 32).map (fun i => (last + 1 + i) % 32)).find? (fun c => run.contains c && prio c == top)

/-- The read of one beat: of a semaphore it is a bus error (R233). -/
def State.beatRead (s : State) (o : Fin 16) (a n : Nat) : MemEnd × Nat × State :=
  if 0x40080800 ≤ a && a < 0x40080900 then (.bus, 0, s)
  else if n = 8 then
    match placeOf a with
    | some (.sram k) => s.sramRead k 8
    | some (.ledger _) =>
      let x := s.winRead (.engine o) a 8
      (.ok, bytesLE x.1, x.2)
    | _ =>
      let x := s.memRead o a 4
      if x.1 ≠ .ok then x
      else
        let y := x.2.2.memRead o (a + 4) 4
        (y.1, x.2.1 + 2 ^ 32 * y.2.1, y.2.2)
  else s.memRead o a n

/-- The write of one beat: whole, or not at all. -/
def State.beatWrite (s : State) (o : Fin 16) (c a n v : Nat) : MemEnd × State :=
  if n ≠ 8 then s.memWrite o (.dma c) a n v
  else match placeOf a with
    | some (.sram k) => s.sramStore k 8 v
    | some (.ledger k) =>
      let x := s.ledgWindow (.engine o) (.dma c) k (leBytes 8 v)
      (match x.1 with
       | .done => (.ok, x.2)
       | .refused => (.bus, x.2.raise 48)
       | .busy => (.quiet, x.2))
    | _ =>
      let x := s.memWrite o (.dma c) a 4 (v % 2 ^ 32)
      if x.1 = .ok then x.2.memWrite o (.dma c) (a + 4) 4 (v / 2 ^ 32) else x

/-- A beat of channel `c` that completed: DONE counts it; at LEN the transfer is done, and CHAIN loads NEXT. -/
def State.beatDone (s : State) (o c : Nat) (d : DmaState) : State :=
  let done := s.fld (R.DMA_CH_STATUS.DONE c) + d.width
  let s := s.setF (R.DMA_CH_STATUS.DONE c) done
  if done < d.len then s
  else
    let s := s.dmaStop c 2 0
    if d.ctrl.getLsbD 5 then s.dmaLoad o c (d.next.toNat / 32 * 32) false else s

/-- One beat of channel `c`, which engine `o` owns. -/
def State.moveBeat (s : State) (o : Fin 16) (c : Nat) : State :=
  let d := s.dma c
  let n := d.width
  let done := s.fld (R.DMA_CH_STATUS.DONE c)
  let src := (d.src.toNat + (if d.ctrl.getLsbD 2 then done else 0)) % 2 ^ 32
  let dst := (d.dst.toNat + (if d.ctrl.getLsbD 3 then done else 0)) % 2 ^ 32
  if !s.mpuMay o 1 src n then (s.mpuRefuse o 3 src c).dmaStop c 4 1
  else if !s.mpuMay o 2 dst n then (s.mpuRefuse o 3 dst c).dmaStop c 4 1
  else
    let x := s.beatRead o src n
    if x.1 ≠ .ok then x.2.2.dmaStop c 4 (if x.1 = .ecc then 3 else 2)
    else
      let y := x.2.2.beatWrite o c dst n x.2.1
      if y.1 ≠ .ok then y.2.dmaStop c 4 2 else y.2.beatDone o c d

/-- DMA_BEAT (R228, R235, R236): a channel asked to stop stops; else the channel whose turn it is moves one beat, whose
reads of the memories find `errs`. -/
def execDmaBeat (c : Fin 32) (s : State) (errs : List EccErr := []) : Out := .next (
  if !s.dmaRuns c then s
  else if (s.dma c).stop ≠ 0 then s.dmaStop c (s.dma c).stop 0
  else if s.dmaWinner ≠ some c.val then s
  else match s.dmaOwner c with
    | some o =>
      let s := { s with evt := { s.evt with beatLast := s.evt.beatLast.put 31 (s.fld (R.DMA_CH_CFG.PRIO c)) c.val } }
      s.withErrs errs (fun s => s.moveBeat (Fin.ofNat 16 o) c)
    | none => s)

end Sys2Proof.Machine
end

