-- ==== Sys2Proof/Machine/HostBus.lean ====
section
/-! DEFINITION.  Transactions of the two-wire host bus (R264 to R268), the windows of WIN_DATA (R283), and the device
as a controller: Host Notify and the alert response (R273 to R276). -/

namespace Sys2Proof.Machine

/-! ## Answers -/

/-- What a read answers: bytes (a block's count among them), or a refusal because its result is not yet computed or
its resource is busy (R268). -/
inductive BusAns where
  | bytes (l : List Byte)
  | notReady
  | busy
  deriving DecidableEq, Repr

/-- The PEC of an answer (R266): over the address, code and written data, the read address and the answer. -/
def State.replyPec (s : State) (code : Nat) (written body : List Byte) : Byte :=
  let a := BitVec.ofNat 8 (2 * s.sys.address.getD 0)
  crc8 ([a, BitVec.ofNat 8 code] ++ written ++ [a ||| 1#8] ++ body)

/-- A read or process call with `args` data bytes written first (R265): `body` forms the answer, and `done` follows
when the host has read all of it, with a valid PEC where PECREQ is 1 (R203). -/
def State.busRead (s : State) (m : BusMsg) (code : Nat) (paged : Bool) (args : Nat)
    (body : State → BusAns × State) (done : State → State) : State :=
  if !m.read || m.data.length ≠ args then s.protoFail
  else if paged && s.fld R.HOST_STATUS.PAGE = 0xFF then s.refuse 0x02 false
  else
    let x := body s
    match x.1 with
    | .notReady => x.2.refuse 0x02 false
    | .busy => x.2.refuse 0x02 true
    | .bytes l =>
      let w := if args = 0 then [] else BitVec.ofNat 8 args :: m.data
      let t := { x.2 with host := { x.2.host with reply := (l ++ [s.replyPec code w l]).take m.clocked } }
      if !m.complete then t.protoFail
      else if l.length ≤ m.clocked && m.pec ≠ .bad && (!s.bit R.HOST_CFG.PECREQ || l.length < m.clocked) then done t
      else t

/-- An answer without an effect on the state. -/
def pureAns (f : State → List Byte) : State → BusAns × State := fun s => (.bytes (f s), s)

/-- A block answer: its count, then its bytes. -/
def blockOf (l : List Byte) : List Byte := BitVec.ofNat 8 l.length :: l

/-- The loops that PAGE selects (R280). -/
def State.pageLoops (s : State) : List Nat :=
  let p := s.fld R.HOST_STATUS.PAGE
  if p = 0xFF then List.range 24 else [p]

/-- A read-only command with answer `body`. -/
def State.readOnly (s : State) (m : BusMsg) (code : Nat) (paged : Bool) (body : State → BusAns × State) : State :=
  s.busCmd m code (fun s => s.busRead m code paged 0 body id)

/-- A command with a read and a write of `n` bytes. -/
def State.readWrite (s : State) (m : BusMsg) (code n : Nat) (paged : Bool) (body : State → BusAns × State)
    (apply : State → List Byte → Option State) : State :=
  s.busCmd m code (fun s => if m.read then s.busRead m code paged 0 body id else s.busWrite m code n n apply)

/-! ## WIN_DATA (R268, R283) -/

/-- Whether `n` bytes from `a` touch a register of a snapshot buffer whose READY is 0. -/
def State.snapBusy (s : State) (a n : Nat) : Bool :=
  (List.range 4).any (fun k =>
    decide (a < 0x40051280 + 0x40 * k) && decide (0x40051240 + 0x40 * k < a + n) && !s.bit (R.MEAS_SNAP_STAT.READY k))

/-- Whether an address lies in register space. -/
def inBlock (a : Nat) : Bool := match placeOf a with | some (.block _) => true | _ => false

/-- A read at the window address. -/
def State.winDataRead (s : State) (m : BusMsg) : State :=
  let a := s.host.winAddr.toNat
  let n := s.host.winLen
  if !placeFits a n || (inBlock a && (a % 4 ≠ 0 || n % 4 ≠ 0)) then s.refuse 0x02 false
  else if !s.rangeMay false false a n then s.refuse 0x80 false
  else if s.snapBusy a n then s.refuse 0x02 false
  else s.busRead m 0xD1 false 0 (fun s => let x := s.winRead .hostBus a n; (.bytes (blockOf x.1), x.2))
    (fun s => { s with host := { s.host with winAddr := BitVec.ofNat 32 (a + n) } })

/-- A write at the window address: the address, the permission and the Ledger's answer are judged at the code byte,
then the protocol. -/
def State.winDataWrite (s : State) (m : BusMsg) : State :=
  let a := s.host.winAddr.toNat
  let n := m.data.length
  let p := winSpan true a (max n 1)
  if !placeFits p.1 p.2 || (inBlock a && a % 4 ≠ 0) then s.refuse 0x02 false
  else if !s.rangeMay false true p.1 p.2 then s.refuse 0x80 false
  else if inBlock a && n % 4 ≠ 0 then s.protoFail
  else
    let x := s.winWrite .hostBus a m.data
    match x.1 with
    | .refused => x.2.refuse (match placeOf a with | some (.sram _) => 0x02 | _ => 0x80) false
    | .busy => x.2.refuse 0x02 true
    | .done => s.busWrite m 0xD1 1 255 (fun _ _ =>
        some { x.2 with host := { x.2.host with winAddr := BitVec.ofNat 32 (a + n) } })

/-! ## Abandonment and time-out (R267, R270) -/

/-- BUS_TRANSACTION_ABANDON (R267). -/
def execBusTransactionAbandon (s : State) : Out := .next (if s.busOn then s.protoFail else s)

/-- BUS_TIMEOUT (R269, R270): the transaction is abandoned, and the recovery of 100 µs begins. -/
def execBusTimeout (s : State) : Out := .next (if s.busOn then s.protoFail.arm T.recov 100000 else s)

/-- The command codes of Tables 14.3 and 14.6. -/
def knownCodes : List Nat :=
  [0x00, 0x01, 0x03, 0x19, 0x20, 0x21, 0x24, 0x27, 0x2B, 0x40, 0x44, 0x46, 0x78, 0x79, 0x7A, 0x7B, 0x7D, 0x7E, 0x80, 0x88,
   0x8B, 0x8C, 0x8D, 0x8E, 0x98, 0x99, 0x9A, 0x9B, 0x9E] ++ (List.range 26).map (fun i => 0xD0 + i)

/-- UNKNOWN_COMMAND (R268, R282). -/
def execUnknownCommand (code : Byte) (s : State) : Out := .next (
  if s.busOn && !knownCodes.contains code.toNat then s.refuse 0x80 false else s)

/-! ## Host Notify and alert response (R273 to R276) -/

/-- The retry of a lost Host Notify: 50 µs of free bus (R273). -/
def T.retry : Nat := timerKey 110 1

/-- The host pending bits that are set. -/
def State.pendEvents (s : State) : List Nat := (List.range 128).filter (fun e => s.bitAt R.EVT_PEND.reg e)

/-- ALERT_N is low (R242, R274, Table 2.7): from t3, not under the factory default, while a pending bit is set. -/
def State.alertLow (s : State) : Bool :=
  s.sys.stage = .released && !s.acrd.defaults && !s.pendEvents.isEmpty

/-- The message of a Host Notify as it stands now (R275): the own address, the lowest pending event, a free byte where
none is pending any more, and the number of them. -/
def State.notifyMessage (s : State) : List Byte × State :=
  let a := BitVec.ofNat 8 (2 * s.sys.address.getD 0)
  let p := s.pendEvents
  let c := BitVec.ofNat 8 (satNat 255 p.length)
  match p with
  | e :: _ => ([a, BitVec.ofNat 8 e, c], s)
  | [] => let f := s.takeFree; ([a, Config.freeByte f.1, c], f.2)

/-- The device sends its Host Notify: it loses arbitration and retries, up to 8 losses in a row, or it is sent. -/
def State.sendNotify (s : State) (lost : Bool) : State :=
  let x := s.notifyMessage
  let s : State := { x.2 with host := { x.2.host with message := x.1 } }
  if lost then
    let s : State := s.count B.host R.HOST_CNT2.ARB R.HOST_CNT2.SAT_A
    if 7 ≤ s.host.losses then
      let s := { s with host := { s.host with losses := 0, notify := false } }
      (s.count B.host R.HOST_CNT2.HNDROP R.HOST_CNT2.SAT_H).disarm T.retry
    else { s with host := { s.host with losses := s.host.losses + 1 } }.arm T.retry 50000
  else { s with host := { s.host with losses := 0, notify := false, notifiedAt := some s.ns } }.disarm T.retry

/-- HNINT has passed since the last Host Notify. -/
def State.notifyDue (s : State) : Bool :=
  match s.host.notifiedAt with
  | some t => decide (t + max 1 (s.fld R.HOST_CFG.HNINT) * 1000000 ≤ s.ns)
  | none => true

/-- HOST_NOTIFY (R275). -/
def execHostNotify (lost : Bool) (s : State) : Out := .next (
  if s.busOn && s.bit R.HOST_CFG.HNEN && s.host.notify && s.host.losses = 0 && s.notifyDue then s.sendNotify lost else s)

/-- CONTROLLER_RETRY (R273): the report carries time to the end of the 50 µs. -/
def execControllerRetry (lost : Bool) (s : State) : Out := .next (
  if s.busOn && s.host.notify && s.host.losses ≠ 0 then
    match s.expire T.retry with
    | some t => t.sendNotify lost
    | none => s
  else s)

/-- ALERT_RESPONSE (R276): the answer is the own address, with its PEC where the host acknowledges it, unless it loses
to a lower one. -/
def execAlertResponse (lost : Bool) (s : State) (acked : Bool := true) : Out := .next (
  if s.busOn && s.alertLow then
    if lost then s.count B.host R.HOST_CNT2.ARB R.HOST_CNT2.SAT_A
    else
      let a := BitVec.ofNat 8 (2 * s.sys.address.getD 0)
      { s with host := { s.host with reply := a :: (if acked then [crc8 [0x19#8, a]] else []) } }
  else s)

end Sys2Proof.Machine
end

