-- ==== Sys2Proof/Machine/Flags.lean ====
section
/-! DEFINITION.  What the block shows on its balls (Table 2.7, R39 to R42, R129, R157, R219, R220, R242) and on the input
lines of the event network (Tables 1.8, 2.8 and 9.7), as functions of the state, and the report of a ball's level. -/

namespace Sys2Proof.Machine

/-! ## Balls (R39 to R42, R129, R157, R219, R220) -/

/-- The state of a ball (Table 2.7): high impedance; driven low, high or to the mid level; driven with the waveform or
the protocol of its block; an analog reference; a gate or bridge held off; an input that is read, or one that is
ignored; and an input that is sampled while 10 µA is sourced into it or sunk from it, or while it is biased. -/
inductive Ball where
  | hiZ
  | low
  | high
  | mid
  | wave
  | ref
  | off
  | input
  | ignored
  | source
  | sink
  | bias
  deriving DecidableEq, Repr

/-- The columns of Table 2.7. -/
inductive Column where
  | unpowered
  | flacon
  | park
  | configuring
  | run
  | safe
  deriving DecidableEq, Repr

/-- Whether the balls have left their configuring levels: from t3 under a loaded Accord (R40). -/
def State.ballsRun (s : State) : Bool := s.sys.stage = .released && !s.acrd.defaults

/-- The column that holds for balls of the domains BN and HV: the configuring one from the exit of the base-note
domain's power-on reset, through a brown-out that leaves it powered, to t3, and throughout the use of the factory
default (R39, R40, R51). -/
def State.bnColumn (s : State) : Column :=
  match s.sys.phase with
  | .flacon => .flacon
  | .park => .park
  | .safe => if s.ballsRun then .safe else .configuring
  | .unpowered => if s.sys.address.isSome then .configuring else .unpowered
  | .start => if s.sys.address.isSome then .configuring else .unpowered
  | _ => if s.ballsRun then .run else .configuring

/-- The column that holds for balls of the domains IO and AN, which are high impedance until VDDIO33 and VDDA18 are up
and after their removal (R40). -/
def State.ioColumn (s : State) : Column :=
  match s.bnColumn with
  | .configuring => if s.topOn then .configuring else .unpowered
  | c => c

/-- An open-drain ball is low or released. -/
def openDrain (low : Bool) : Ball := if low then .low else .hiZ

/-- A push-pull ball is high or low. -/
def pushPull (high : Bool) : Ball := if high then .high else .low

/-- A gate is driven on, or held off. -/
def gate (on : Bool) : Ball := if on then .high else .off

/-- The digital ball of number `k` under boundary scan: its cell sets it, and Table 2.7 does not apply (R42). -/
def State.scanned (s : State) (k : Nat) (drain : Bool) (b : Ball) : Ball :=
  match s.sys.scanDrive with
  | some l => let v := l.getD (Config.scanCell k) false
              if drain then openDrain (!v) else pushPull v
  | none => b

/-- PWM_p: mid in a boundary scan and while PLL_P is out of lock (R42, R53). -/
def State.pwmBall (s : State) (p : Nat) : Ball :=
  let drive := fun (d : Drive) => match d with
    | .mid => Ball.mid
    | .low => Ball.low
    | .high => Ball.high
    | .switching => Ball.wave
  match s.ioColumn with
  | .configuring => .mid
  | .run => if s.sys.scanDrive.isSome || s.sys.pllP ≠ .locked then .mid else drive (s.drive p)
  | .safe => if s.sys.scanDrive.isSome || s.sys.pllP ≠ .locked then .mid else drive (s.drive p)
  | _ => .hiZ

/-- The direction of the open-wire current into channel `c` in its check visit, if one runs: sourced in the first check
of a channel, sunk in the next (R206; DESIGN CHOICE, log entry 183). -/
def State.checkDrive (s : State) (c : Nat) : Option Bool :=
  match (s.conv (c / 32)).visit with
  | some v => if v.ch = c % 32 then v.ow.map (fun flip => !flip) else none
  | none => none

/-- The ball of ISNS, TMF, MON, AUX, or VSP that channel `c` of Table 10.1 measures, and with `neg` the VSN of a VS
channel, whose current is reversed (R206). -/
def State.senseBall (s : State) (c : Nat) (neg : Bool) : Ball :=
  let drive := match s.checkDrive c with
    | some up => if up != neg then Ball.source else .sink
    | none => .input
  match s.ioColumn with
  | .run => drive
  | .safe => drive
  | _ => .hiZ

/-- ISNS_REF: 1.2 V from LDO_A valid. -/
def State.isnsRefBall (s : State) : Ball :=
  match s.ioColumn with
  | .configuring => .ref
  | .run => .ref
  | .safe => .ref
  | _ => .hiZ

/-- The FSTAT bits that drive FLT_N (R220). -/
def State.fltMask (s : State) : BitVec 64 := s.pair R.FLT_NMASK_LO.reg R.FLT_NMASK_HI.reg

/-- FLT_N: low throughout the safe state and while configuring, else by the masked FSTAT bits. -/
def State.fltBall (s : State) : Ball :=
  s.scanned 32 true (match s.bnColumn with
    | .configuring => .low
    | .safe => .low
    | .run => openDrain (decide (s.fstat &&& s.fltMask ≠ 0#64))
    | _ => .hiZ)

/-- SAFE_N: released at t3, and low in park, before t3 and in the safe state. -/
def State.safeBall (s : State) : Ball :=
  s.scanned 33 true (match s.bnColumn with
    | .park => .low
    | .configuring => .low
    | .safe => .low
    | _ => .hiZ)

/-- ALERT_N (R242, R274). -/
def State.alertBall (s : State) : Ball :=
  s.scanned 34 true (match s.ioColumn with
    | .run => openDrain s.alertLow
    | .safe => openDrain s.alertLow
    | _ => .hiZ)

/-- RSTO_n (R51, R157, R159). -/
def State.rstoBall (s : State) (n : Nat) : Ball :=
  s.scanned (24 + n) true (match s.bnColumn with
    | .park => .low
    | .configuring => .low
    | .run => openDrain (s.bit (R.SUP_RSTO_STATUS.LOW n))
    | .safe => openDrain ((s.fld R.FLT_SAFE_RSTO.ASSERT).testBit n)
    | _ => .hiZ)

/-- An enabled rail owns GP_n (R129). -/
def State.gpOwned (s : State) (n : Nat) : Bool :=
  (List.range 64).any (fun r => s.bit (R.SEQ_RAIL_CFG.EN r) && s.bit (R.SEQ_RAIL_CFG.KIND r) && s.fld (R.SEQ_RAIL_CFG.GP r) = n)

/-- GP_n: the level of the rail that owns it, else of the safe sequence in the safe state and of its action line
before; low until t3 and under the factory default, and through its pull-down while unpowered. -/
def State.gpBall (s : State) (n : Nat) : Ball :=
  s.scanned n false (match s.ioColumn with
    | .run => pushPull (if s.gpOwned n then s.seq.gpRail.getLsbD n else s.acrd.act.getLsbD (160 + n))
    | .safe => pushPull (if s.gpOwned n then s.seq.gpRail.getLsbD n else (s.fld R.FLT_SAFE_GP.LVL).testBit n)
    | _ => .low)

/-- SCL (0) and SDA (1): watched by the address matcher in park, serviced from the configuring levels on; SCL low while
the device stretches it after its own address byte (R269). -/
def State.busBall (s : State) (n : Nat) : Ball :=
  if n = 0 && s.host.stretch then .low else
  s.scanned (38 + n) true (match s.bnColumn with
    | .unpowered => .hiZ
    | .flacon => .hiZ
    | .park => .input
    | _ => .wave)

/-- ADDR0 and ADDR1: sampled at the base-note domain's power-on reset and high impedance otherwise (R36). -/
def State.addrBall (s : State) : Ball := if s.sys.stage = .t0 then .input else .hiZ

/-- The quad port's balls: serviced under a loaded Accord and under the ROM default once it runs. -/
def State.quadLevel (s : State) : Ball :=
  match s.ioColumn with
  | .configuring => if s.sys.stage = .released then .wave else .hiZ
  | .run => .wave
  | .safe => .wave
  | _ => .hiZ

/-- QCK and QCS_N, which are inputs, and QIO_n. -/
def State.quadInBall (s : State) : Ball := s.quadLevel
def State.quadBall (s : State) (n : Nat) : Ball := s.scanned (40 + n) false s.quadLevel

/-- The load-intent links' balls: ignored while configuring and in the safe state. -/
def State.ilLevel (s : State) : Ball :=
  match s.ioColumn with
  | .run => .wave
  | .configuring => .ignored
  | .safe => .ignored
  | _ => .hiZ

/-- IL_nCK, which is an input, and IL_nDT. -/
def State.ilCkBall (s : State) : Ball := s.ilLevel
def State.ilBall (s : State) (n : Nat) : Ball := s.scanned (44 + n) false s.ilLevel

/-- IL_nAL (R127). -/
def State.ilAlBall (s : State) (n : Nat) : Ball :=
  s.scanned (36 + n) false (match s.ioColumn with
    | .configuring => .low
    | .run => pushPull (s.ilReady n)
    | .safe => .low
    | _ => .hiZ)

/-- LK_n: the wake detector in park, active from the end of the fabric configuration. -/
def State.linkBall (s : State) (n : Nat) : Ball :=
  match s.bnColumn with
  | .park => .input
  | _ => if s.portOn n then .wave else .hiZ

/-- Whether this end is window master of link `n`: until HELLO has been exchanged the end that sent the first burst, then
the end nearer the MANAGER (R288, R289). -/
def State.windowMaster (s : State) (n : Nat) : Bool :=
  s.portUp n && (if (s.port n).peerHash = 0#64 || s.depthByte = (s.port n).peerDepth then (s.port n).first
    else decide (s.depthByte < (s.port n).peerDepth))

/-- A symbol of a link: a control character, by its byte, or a data byte. -/
inductive Symbol where
  | control (b : Byte)
  | data (b : Byte)
  deriving DecidableEq, Repr

/-- The comma K28.5, which opens a window and fills what is left of one. -/
def comma : Symbol := .control 0xBC#8

/-- The symbols of a sent frame: a status frame opens with K28.1; a general frame stands between K27.7 and K29.7, with
its header and its CRC-16 (spec/15, Frames). -/
def frameSymbols (f : SentFrame) : List Symbol :=
  if f.typ = 0 then .control 0x3C#8 :: f.payload.map .data
  else if f.typ = 0x100 then List.replicate 10 comma
  else
    let body := [BitVec.ofNat 8 f.typ, BitVec.ofNat 8 f.src, BitVec.ofNat 8 f.dst] ++ leBytes 2 f.payload.length ++
      leBytes 2 f.seq ++ f.payload
    (.control 0xFB#8 :: (body ++ leBytes 2 (crc16 body).toNat).map .data) ++ [.control 0xFD#8]

/-- The windows of 10 symbols in which status frames and the symbols of general frames go out (R288, R296): the comma, at
most two status frames, then frame symbols, which go on in the next window, then idles. -/
def fillWindows : (fuel : Nat) → (status : List (List Symbol)) → (frames : List Symbol) → List (List Symbol)
  | 0, _, _ => []
  | n + 1, status, frames =>
    if status.isEmpty && frames.isEmpty then []
    else
      let head := (status.take 2).flatten
      let room := 9 - head.length
      let w := head ++ frames.take room
      (comma :: w ++ List.replicate (9 - w.length) comma) :: fillWindows n (status.drop 2) (frames.drop room)

/-- The windows in which port `n` sends what the last command handed to it (R288). -/
def State.windows (s : State) (n : Nat) : List (List Symbol) :=
  let l := s.link.sent.filter (fun f => f.port = n && f.typ ≠ 0x100)
  let status := (l.filter (fun f => f.typ = 0)).map frameSymbols
  let frames := (l.filter (fun f => f.typ ≠ 0)).flatMap frameSymbols
  fillWindows (status.length + frames.length) status frames

/-- SYNC_IN: ignored while configuring. -/
def State.syncInBall (s : State) : Ball :=
  match s.ioColumn with
  | .configuring => .ignored
  | .run => .input
  | .safe => .input
  | _ => .hiZ

/-- SYNC_OUT: the reference as a square wave where LOOP_REF_CFG.OUT says so, else low (R71). -/
def State.syncOutBall (s : State) : Ball :=
  let out := if s.bit R.LOOP_REF_CFG.OUT then Ball.wave else .low
  s.scanned 35 false (match s.ioColumn with
    | .configuring => .low
    | .run => out
    | .safe => out
    | _ => .hiZ)

/-- XIN and XOUT: the oscillator runs from the start that selects it (R52). -/
def State.xinBall (s : State) : Ball :=
  match s.ioColumn with
  | .unpowered => .hiZ
  | .flacon => .hiZ
  | .park => .off
  | _ => if s.bit R.SYS_CLK_STATUS.XIN_SEL then .wave else .off

/-- WAKE_n. -/
def State.wakeBall (s : State) : Ball :=
  match s.bnColumn with
  | .unpowered => .hiZ
  | .flacon => .ignored
  | _ => .input

/-- SVC_N: pulled up and watched but for a device without power. -/
def State.svcBall (s : State) : Ball :=
  match s.bnColumn with
  | .unpowered => .hiZ
  | _ => .input

/-- Whether the life cycle lets the test port and FT_0 to FT_3 act (R41). -/
def State.testOn (s : State) : Bool := s.fld R.SYS_STATUS.LC = 1 || s.fld R.SYS_STATUS.LC = 4

/-- TCK, TMS, TDI, TRST_N and FT_n. -/
def State.tapBall (s : State) : Ball :=
  match s.ioColumn with
  | .unpowered => .hiZ
  | .flacon => .hiZ
  | .park => .hiZ
  | _ => if s.testOn then .input else .ignored

/-- TDO: high impedance unless the port, out of its reset, shifts (R41); a shift is within one command, whose bits
`tapOut` keeps. -/
def State.tdoBall (s : State) (shifting : Bool) : Ball :=
  match s.tapBall with
  | .input => if shifting && !s.sys.tapReset then .wave else .hiZ
  | _ => .hiZ

/-- A gate or bridge of the power path, which is off but in run, and, where it goes on there, in the safe state. -/
def State.pathBall (s : State) (inSafe on : Bool) : Ball :=
  match s.bnColumn with
  | .run => gate on
  | .safe => gate (inSafe && on)
  | _ => .off

/-- GIN, BSW_G, PG_A and PG_B: the peer port closes in the safe state. -/
def State.ginBall (s : State) : Ball := s.pathBall true s.path.gin
def State.bswBall (s : State) : Ball := s.pathBall true s.path.bsw
def State.pgABall (s : State) : Ball := s.pathBall false s.path.pgA
def State.pgBBall (s : State) : Ball := s.pathBall false s.path.pgB

/-- HG1, LG1, HG2 and LG2: switching while the charger drives, off in the safe state. -/
def State.bridgeBall (s : State) : Ball :=
  match s.bnColumn with
  | .run => if s.path.chg = .off then .off else .wave
  | _ => .off

/-- VIN_SNS: watched but for a device without power. -/
def State.vinSnsBall (s : State) : Ball :=
  match s.bnColumn with
  | .unpowered => .hiZ
  | _ => .input

/-- A ball of the pack in run and the safe state; high impedance before. -/
def State.packDrive (s : State) (b : Ball) : Ball :=
  match s.bnColumn with
  | .run => b
  | .safe => b
  | _ => .hiZ

/-- VSYS_SNS, BAT_SNS, CSP and CSN: sampled. -/
def State.packBall (s : State) : Ball := s.packDrive .input

/-- TS and BAT_ID: sampled with the bias and the probe that the device gives them from t3 on (R181, R184). -/
def State.biasBall (s : State) : Ball := s.packDrive .bias

/-! ## Pin-state lines (R43, Table 2.8) -/

/-- What the device itself makes of readback line `i`, for the balls that it drives and for SVC_N, whose level it
watches; none for a line that only the outside moves. -/
def State.drivenLine (s : State) (i : Nat) : Option Bool :=
  if i = 4 then some s.sys.svcLow
  else if 6 ≤ i ∧ i < 14 then some (s.rstoBall (i - 6) = .low)
  else if i = 14 then some (s.fltBall = .low)
  else if i = 15 then some (s.safeBall = .low)
  else if 16 ≤ i ∧ i < 40 then some (s.gpBall (i - 16) = .high)
  else if i = 40 then some (s.alertBall = .low)
  else none

/-- PIN_STATE_LINE_CHANGE (R43): the level at a ball, which readback line IN_(896 + line) reports; one that differs from
the device's own drive is held from outside. -/
def execPinStateLineChange (line : Fin 45) (level : Bool) (s : State) : Out := .next (
  s.updSys (fun y => { y with
    pinLines := if level then y.pinLines ||| 2 ^ line.val else y.pinLines - (y.pinLines &&& 2 ^ line.val)
    pinHeld := if s.drivenLine line = some (!level) then y.pinHeld ||| 2 ^ line.val
      else y.pinHeld - (y.pinHeld &&& 2 ^ line.val) }))

/-! ## Input lines of the event network (Tables 1.8, 2.8 and 9.7) -/

/-- IN_0192 to IN_0239: over-voltage, then under-voltage, of the loops. -/
def State.loopLine (s : State) (i : Nat) : Bool :=
  if i < 24 then (let c := s.fld (R.LOOP_STATUS.CAUSE i); c = 1 || c = 2) else s.fld (R.LOOP_STATUS.CAUSE (i - 24)) = 3

/-- IN_0480 to IN_0511 (Table 9.7). -/
def State.pathLine (s : State) (i : Nat) : Bool :=
  match i with
  | 0 => s.pst = P.onVin
  | 1 => s.pst = P.handover
  | 2 => s.pst = P.onBat
  | 3 => s.pst = P.ret
  | 4 => s.pst = P.nosrc
  | 5 => s.pst = P.peerOut
  | 6 => s.bit R.SUP_VIN_STATUS.LOSS
  | 7 => s.path.revCond
  | 8 => s.path.vlowCond
  | 9 => s.bit R.PATH_STATUS.VIN_STABLE
  | 10 => s.bit R.PATH_STATUS.VSYS_OK
  | 11 => s.bit R.PATH_STATUS.PRESENT && !s.bit R.PATH_STATUS.ABSENT
  | 12 => s.path.batId = some true
  | 13 => s.path.ts = some true && s.fld R.PATH_CHG_STATUS.ZONE ≠ 7
  | 14 => s.bit R.PATH_STATUS.WARN
  | 15 => s.path.cutHold
  | 16 => s.cst = C.precharge
  | 17 => s.cst = C.cc
  | 18 => s.cst = C.cv
  | 19 => s.cst = C.done
  | 20 => s.cst = C.suspend
  | 21 => s.cst = C.fault
  | 28 => s.fld R.PATH_STATUS.PEER = 1
  | 29 => s.fld R.PATH_STATUS.PEER = 2
  | 30 => s.bit R.PATH_SVC.LPACT
  | 31 => !s.handoverOk
  | _ => s.fld R.PATH_CHG_STATUS.ZONE = i - 22

/-- IN_0768 to IN_0895: the eight flags of each engine (ENG_FLAG). -/
def State.engineLine (s : State) (i : Nat) : Bool :=
  let e := i / 8
  match i % 8 with
  | 0 => s.engRuns e
  | 1 => s.est e = 3 || s.est e = 4
  | 2 => s.runLevel e ≠ 0
  | 3 => s.est e = 2
  | k => (s.fld (R.ENG_FLAG.SW e)).testBit (k - 4)

/-- IN_0896 to IN_1023 (Table 2.8): the level at each ball, which is the device's own drive unless something outside
holds another, and the bits 10 to 41 of the hierarchy time. -/
def State.pinLine (s : State) (i : Nat) : Bool :=
  if i < 45 then
    (match s.drivenLine i with
     | some b => if s.sys.pinHeld.testBit i then s.sys.pinLines.testBit i else b
     | none => s.sys.pinLines.testBit i)
  else if 64 ≤ i && i < 96 then s.now.getLsbD (i - 54)
  else false

/-- Line IN_k of the event network (R16, R43, R131, R191, R239). -/
def State.inLine (s : State) (k : Nat) : Bool :=
  if k < 64 then s.goodLine k
  else if k < 128 then s.bit (R.SEQ_RAIL_STATUS.FLT (k - 64))
  else if k < 192 then !s.monInside (k - 128)
  else if k < 240 then s.loopLine (k - 192)
  else if k < 288 then s.bit (R.PH_STATUS.TMF_LOW (k - 240))
  else if k < 352 then s.fstat.getLsbD (k - 288)
  else if k < 480 then (match s.deadline (T.evPulse (k - 352)) with | some d => decide (s.ns < d) | none => false)
  else if k < 512 then s.pathLine (k - 480)
  else if k < 768 then s.seq.remote.getLsbD (k - 512)
  else if k < 896 then s.engineLine (k - 768)
  else if k < 1024 then s.pinLine (k - 896)
  else false

/-- Line ACT_k as it acts now: the value latched at the start of a scheduled switch while one runs (R31). -/
def State.actLine (s : State) (k : Nat) : Bool := s.acrd.act.getLsbD k

/-! ## Tile comparators (R12, R16, Table 1.13) -/

/-- The source word of a comparator select, as a signed number; a reserved select, and a parameter that the image
does not have, read 0. -/
def State.comparatorWord (s : State) (sel : Nat) : Int :=
  if sel < 0x100 then s.latest sel
  else if sel < 0x118 then (s.fld (R.LOOP_VOUT.VOUT (sel - 0x100)) : Int)
  else if sel < 0x130 then s.sfld (R.LOOP_IOUT.IOUT (sel - 0x118))
  else if 0x1000 ≤ sel && sel < 0x2000 then
    (match s.param (sel - 0x1000) with
     | some p => if p.flag 0 then (s.paramValue p).toInt else ((s.paramValue p).toNat : Int)
     | none => 0)
  else 0

/-- The comparison of a mode (R16). -/
def compareBy (mode : Nat) (a b k : Int) : Bool :=
  match mode with
  | 0 => decide (b < a)
  | 1 => decide (a < b)
  | 2 => decide (a = b)
  | 3 => decide (k < a)
  | 4 => decide (a < k)
  | 5 => decide (a = k)
  | 6 => decide (b ≤ a) && decide (a ≤ k)
  | _ => decide (a < b) || decide (k < a)

/-- The output of the comparator with the 64 cells `c`: source A, source B, constant, mode and enable (Table 1.6). -/
def State.comparator (s : State) (c : BitVec 64) : Bool :=
  let f := fun (lo w : Nat) => c.toNat / 2 ^ lo % 2 ^ w
  c.getLsbD 63 && compareBy (f 60 3) (s.comparatorWord (f 0 14)) (s.comparatorWord (f 14 14)) (signedOf 32 (f 28 32))

/-- The comparator of tile `t` as its cells stand: 0 while no image runs. -/
def State.tileComparator (s : State) (t : Nat) : Bool :=
  s.comparator (BitVec.ofNat 64 (s.cells t 2192 64))

end Sys2Proof.Machine
end

