-- ==== Sys2Proof/Machine/HostCmds.lean ====
section
/-! DEFINITION.  The commands of the two-wire host bus, one meaning for each row (Tables 14.3 to 14.6, R200, R203, R280
to R284). -/

namespace Sys2Proof.Machine

/-- The two bytes of a word. -/
def wordOf (l : List Byte) : Nat := bytesLE (l.take 2)

/-- The page: the loop that a paged read names. -/
def State.page (s : State) : Nat := s.fld R.HOST_STATUS.PAGE

/-- PAGE (R280). -/
def execPage (m : BusMsg) (s : State) : Out := .next (
  s.readWrite m 0x00 1 false (pureAns (fun s => leBytes 1 s.page)) (fun s l =>
    let p := bytesLE l
    if p ≤ 0x17 || p = 0xFF then some (s.setF R.HOST_STATUS.PAGE p) else none))

/-- OPERATION on the loops of the page: each with a rail takes the request, and any without one is invalid data. -/
def State.operation (s : State) (on : Bool) : Option State :=
  let ls := s.pageLoops
  if ls.all (fun n => (s.railOfLoop n).isNone) then none
  else
    let s := ls.foldl (fun s n => match s.railOfLoop n with
      | some r => if on then s.railOn r else s.railOffRequest r
      | none => s) s
    some (if ls.any (fun n => (s.railOfLoop n).isNone) then s.cml 0x40 else s)

/-- OPERATION (R280, R144). -/
def execOperation (m : BusMsg) (s : State) : Out := .next (
  s.readWrite m 0x01 1 true
    (pureAns (fun s => match s.railOfLoop s.page with
      | some r => [if s.bit (R.SEQ_RAIL_STATUS.REQ r) then 0x80#8 else 0#8]
      | none => [0#8]))
    (fun s l => if bytesLE l = 0x80 then s.operation true else if bytesLE l = 0 then s.operation false else none))

/-- CLEAR_FAULTS (R281). -/
def execClearFaults (m : BusMsg) (s : State) : Out := .next (
  s.busCmd m 0x03 (fun s => s.busWrite m 0x03 0 0 (fun s _ =>
    some ((s.pageLoops.foldl (fun s n => (s.pmClear n 0xFFFFFFFF#32).pmClearWord n 0xFFFF#16) s).setF R.HOST_STATUS.CML 0))))

/-- CAPABILITY (R280). -/
def execCapability (m : BusMsg) (s : State) : Out := .next (s.readOnly m 0x19 false (pureAns (fun _ => [0xD0#8])))

/-- VOUT_MODE (R280). -/
def execVoutMode (m : BusMsg) (s : State) : Out := .next (s.readOnly m 0x20 true (pureAns (fun _ => [0x14#8])))

/-- VOUT_COMMAND (R73, R280): a set-point command with rate code 0; a read returns the present target. -/
def execVoutCommand (m : BusMsg) (s : State) : Out := .next (
  s.readWrite m 0x21 2 true (pureAns (fun s => leBytes 2 (s.fld (R.LOOP_VREF.TARGET s.page))))
    (fun s l => some (s.pageLoops.foldl (fun s n => s.writeVset .hostBus n (BitVec.ofNat 32 (wordOf l))) s)))

/-- VOUT_MAX (R280). -/
def execVoutMax (m : BusMsg) (s : State) : Out := .next (
  s.readOnly m 0x24 true (pureAns (fun s => leBytes 2 (s.fld (R.LOOP_VLIM.VMAX s.page)))))

/-- VOUT_TRANSITION_RATE (R280): above 0 to 50 mV/µs, in steps of 0.05 mV/µs; codes 0 and above 1,000 act as the
nearer limit. -/
def execVoutTransitionRate (m : BusMsg) (s : State) : Out := .next (
  s.readWrite m 0x27 2 true
    (pureAns (fun s => leBytes 2 (linear11 (min 1000 (max 1 (s.fld (R.LOOP_SLEW.RATE s.page))) : Nat) 20).toNat))
    (fun s l =>
      let v := ofLinear11 (BitVec.ofNat 16 (wordOf l))
      if 0 < v && v ≤ 50 * 65536
      then some (s.pageLoops.foldl (fun s n => s.setF (R.LOOP_SLEW.RATE n) (roundDiv (v * 20) 65536).toNat) s) else none))

/-- VOUT_MIN (R280). -/
def execVoutMin (m : BusMsg) (s : State) : Out := .next (
  s.readOnly m 0x2B true (pureAns (fun s => leBytes 2 (s.fld (R.LOOP_VLIM.VMIN s.page)))))

/-- A margin of LOOP_PROT in 2^-12 V, times 1,000. -/
def marginMilli (code : Nat) : Nat := max 5 code * 8192

/-- VOUT_OV_FAULT_LIMIT (R280): a sum above the word's range is a free value. -/
def execVoutOvFaultLimit (m : BusMsg) (s : State) : Out := .next (
  s.readOnly m 0x40 true (fun s =>
    let v := (s.fld (R.LOOP_VREF.TARGET s.page) * 1000 + marginMilli (s.fld (R.LOOP_PROT.OVM s.page))) / 1000
    if v < 65536 then (.bytes (leBytes 2 v), s)
    else let f := s.takeFree; (.bytes (leBytes 2 (Config.freeWord f.1).toNat), f.2)))

/-- VOUT_UV_FAULT_LIMIT (R280). -/
def execVoutUvFaultLimit (m : BusMsg) (s : State) : Out := .next (
  s.readOnly m 0x44 true (pureAns (fun s =>
    leBytes 2 ((s.fld (R.LOOP_VREF.TARGET s.page) * 1000 - marginMilli (s.fld (R.LOOP_PROT.UVM s.page))) / 1000))))

/-- IOUT_OC_FAULT_LIMIT (R280). -/
def execIoutOcFaultLimit (m : BusMsg) (s : State) : Out := .next (
  s.readOnly m 0x46 true (pureAns (fun s => leBytes 2 (linear11 (s.fld (R.LOOP_ILIM_EFF.LIM s.page) : Nat) 10).toNat)))

/-! ## Status (R281, Table 14.4) -/

/-- STATUS_WORD of loop `n`. -/
def State.statusWord (s : State) (n : Nat) : Nat :=
  let b := fun (c : Bool) (k : Nat) => if c then 2 ^ k else 0
  let pm := (s.host.pm.at 0#16 n)
  let good := match s.railOfLoop n with | some r => s.fld (R.SEQ_RAIL_STATUS.STATE r) = Q.good | none => false
  let mfr := s.fld (R.HOST_PMST.MFR n) ≠ 0
  b (s.fld (R.HOST_PMST.VOUT n) ≠ 0) 15 + b (s.fld (R.HOST_PMST.IOUT n) ≠ 0) 14 + b (pm.getLsbD 13) 13 + b mfr 12 +
    b (!good) 11 + b s.host.busy 7 + b (s.fld (R.LOOP_STATUS.STATE n) = 0) 6 + b (pm.getLsbD 5) 5 + b (pm.getLsbD 4) 4 +
    b (pm.getLsbD 3) 3 + b (s.fld (R.HOST_PMST.TEMP n) ≠ 0) 2 + b (s.fld R.HOST_STATUS.CML ≠ 0) 1 + b (mfr || pm.getLsbD 0) 0

/-- The latched bits of STATUS_WORD that a write of 1 clears. -/
def statusLatched : BitVec 16 := 0x2039#16

/-- A write of `v` to STATUS_WORD or its low byte. -/
def State.statusClear (s : State) (v : Nat) : State :=
  s.pageLoops.foldl (fun s n => s.pmClearWord n (BitVec.ofNat 16 v &&& statusLatched)) s

/-- STATUS_BYTE (R281). -/
def execStatusByte (m : BusMsg) (s : State) : Out := .next (
  s.readWrite m 0x78 1 true (pureAns (fun s => leBytes 1 (s.statusWord s.page))) (fun s l => some (s.statusClear (bytesLE l))))

/-- STATUS_WORD (R281): a read clears BUSY. -/
def execStatusWord (m : BusMsg) (s : State) : Out := .next (
  s.readWrite m 0x79 2 true
    (fun s => (.bytes (leBytes 2 (s.statusWord s.page)), { s with host := { s.host with busy := false } }))
    (fun s l => some (s.statusClear (wordOf l))))

/-- A status byte of HOST_PMST at bit `lo`: read, or cleared bit by bit. -/
def State.pmByte (s : State) (m : BusMsg) (code lo : Nat) : State :=
  s.readWrite m code 1 true (pureAns (fun s => leBytes 1 (Word.field (s.reg (R.HOST_PMST.reg s.page)) lo 8)))
    (fun s l => some (s.pageLoops.foldl (fun s n => s.pmClear n (BitVec.ofNat 32 (bytesLE l * 2 ^ lo))) s))

/-- STATUS_VOUT (R281). -/
def execStatusVout (m : BusMsg) (s : State) : Out := .next (s.pmByte m 0x7A 0)

/-- STATUS_IOUT (R281). -/
def execStatusIout (m : BusMsg) (s : State) : Out := .next (s.pmByte m 0x7B 8)

/-- STATUS_TEMPERATURE (R281). -/
def execStatusTemperature (m : BusMsg) (s : State) : Out := .next (s.pmByte m 0x7D 16)

/-- STATUS_CML (R281). -/
def execStatusCml (m : BusMsg) (s : State) : Out := .next (
  s.readWrite m 0x7E 1 false (pureAns (fun s => leBytes 1 (s.fld R.HOST_STATUS.CML)))
    (fun s l => some (s.setF R.HOST_STATUS.CML ((BitVec.ofNat 8 (s.fld R.HOST_STATUS.CML)) &&& ~~~(BitVec.ofNat 8 (bytesLE l))).toNat)))

/-- STATUS_MFR_SPECIFIC (R281). -/
def execStatusMfrSpecific (m : BusMsg) (s : State) : Out := .next (s.pmByte m 0x80 24)

/-! ## Readings (R280) -/

/-- READ_VIN (R280): refused while CH_063 has no value (R268). -/
def execReadVin (m : BusMsg) (s : State) : Out := .next (
  s.readOnly m 0x88 false (fun s =>
    if s.bit (R.MEAS_CH_STATUS.LV 63) then (.bytes (leBytes 2 (linear11 (s.latest 63) 100000).toNat), s) else (.notReady, s)))

/-- READ_VOUT (R280). -/
def execReadVout (m : BusMsg) (s : State) : Out := .next (
  s.readOnly m 0x8B true (pureAns (fun s => leBytes 2 (s.fld (R.LOOP_VOUT.VOUT s.page)))))

/-- READ_IOUT (R280). -/
def execReadIout (m : BusMsg) (s : State) : Out := .next (
  s.readOnly m 0x8C true (pureAns (fun s => leBytes 2 (linear11 (s.sfld (R.LOOP_IOUT.IOUT s.page)) 100).toNat)))

/-- The greatest of a list of integers, if it has any. -/
def maxOf (l : List Int) : Option Int :=
  match l with
  | [] => none
  | a :: r => some (r.foldl max a)

/-- READ_TEMPERATURE_1 (R280): a free value where the loop has no assigned phase. -/
def execReadTemperature1 (m : BusMsg) (s : State) : Out := .next (
  s.readOnly m 0x8D true (fun s =>
    match maxOf ((s.assigned s.page).map (fun p => s.sfld (R.PH_TEMP.TEMP p))) with
    | some t => (.bytes (leBytes 2 (linear11 t 10).toNat), s)
    | none => let f := s.takeFree; (.bytes (leBytes 2 (Config.freeWord f.1).toNat), f.2)))

/-- READ_TEMPERATURE_2 (R280). -/
def execReadTemperature2 (m : BusMsg) (s : State) : Out := .next (
  s.readOnly m 0x8E false (fun s =>
    match maxOf ((([29, 30, 61, 90, 122] : List Nat).filter (fun c => s.bit (R.MEAS_CH_STATUS.LV c))).map s.latest) with
    | some t => (.bytes (leBytes 2 (linear11 t 100).toNat), s)
    | none => (.notReady, s)))

/-- PMBUS_REVISION (R280). -/
def execPmbusRevision (m : BusMsg) (s : State) : Out := .next (s.readOnly m 0x98 false (pureAns (fun _ => [0x44#8])))

/-- The characters of MFR_ID and MFR_MODEL. -/
def maltanik : List Byte := [0x4D#8, 0x41#8, 0x4C#8, 0x54#8, 0x41#8, 0x4E#8, 0x49#8, 0x4B#8]
def dn8256 : List Byte := [0x44#8, 0x4E#8, 0x38#8, 0x32#8, 0x35#8, 0x36#8]

/-- MFR_ID (R280). -/
def execMfrId (m : BusMsg) (s : State) : Out := .next (s.readOnly m 0x99 false (pureAns (fun _ => blockOf maltanik)))

/-- MFR_MODEL (R280). -/
def execMfrModel (m : BusMsg) (s : State) : Out := .next (s.readOnly m 0x9A false (pureAns (fun _ => blockOf dn8256)))

/-- MFR_REVISION (R280, R335): an internal read of page 0. -/
def execMfrRevision (m : BusMsg) (s : State) : Out := .next (
  s.readOnly m 0x9B false (fun s => let x := s.ledgRead (reqCode .hostBus) 16 2; (.bytes (blockOf x.1), x.2)))

/-- MFR_SERIAL (R280, R335). -/
def execMfrSerial (m : BusMsg) (s : State) : Out := .next (
  s.readOnly m 0x9E false (fun s => let x := s.ledgRead (reqCode .hostBus) 0 16; (.bytes (blockOf x.1), x.2)))

/-! ## Windows, queue and snapshots -/

/-- WIN_ADDR (R282). -/
def execWinAddr (m : BusMsg) (s : State) : Out := .next (
  s.busCmd m 0xD0 (fun s =>
    if m.read then s.busRead m 0xD0 false 0
      (pureAns (fun s => blockOf (leBytes 4 s.host.winAddr.toNat ++ leBytes 1 s.host.winLen))) id
    else s.busWrite m 0xD0 4 5 (fun s l =>
      let n := if l.length = 5 then (l.getD 4 0#8).toNat else 4
      if n = 0 then none
      else some { s with host := { s.host with winAddr := BitVec.ofNat 32 (bytesLE (l.take 4)), winLen := n } })))

/-- WIN_DATA (R228, R283). -/
def execWinData (m : BusMsg) (s : State) : Out := .next (
  s.meeting m.errs (fun s => s.busCmd m 0xD1 (fun s => if m.read then s.winDataRead m else s.winDataWrite m)))

/-- The entries that a host read of the queue may take: none while the engines own it (R203). -/
def State.hostEntries (s : State) (n : Nat) : List QEntry := if s.bit R.MEAS_Q_CFG.OWNER then [] else s.queueHead n

/-- Q_READ (R203): at most 15 whole entries, removed when the transfer ends complete. -/
def execQRead (m : BusMsg) (s : State) : Out := .next (
  s.busCmd m 0xD2 (fun s =>
    let l := s.hostEntries 15
    s.busRead m 0xD2 false 0 (pureAns (fun _ => blockOf (l.flatMap QEntry.bytes)))
      (fun s => if l.isEmpty then s else s.dequeue l.length)))

/-- Q_STATUS (R282). -/
def execQStatus (m : BusMsg) (s : State) : Out := .next (
  s.readOnly m 0xD3 false (pureAns (fun s => blockOf (leBytes 4 (s.reg R.MEAS_Q_STAT.reg).toNat))))

/-- SNAP_READ_0 to SNAP_READ_3 (R282): one channel of a buffer, refused while READY is 0. -/
def execSnapRead (buf : Fin 4) (m : BusMsg) (s : State) : Out := .next (
  s.busCmd m (0xD5 + buf.val) (fun s => s.busRead m (0xD5 + buf.val) false 1 (fun s =>
    if s.bit (R.MEAS_SNAP_STAT.READY buf) then
      let b := s.snapBuf buf
      let c := b.chans.at SnapChan.zero (bytesLE m.data)
      (.bytes (blockOf (leBytes 2 (s.fld (R.MEAS_SNAP_STAT.SEQ buf)) ++
        leBytes 1 (1 + (if c.cnt = 0 then 2 else 0) + (if c.frozen then 4 else 0)) ++ [0#8] ++
        leBytes 8 (unsignedOf 64 c.sum) ++ leBytes 4 c.cnt ++ leBytes 4 (unsignedOf 32 c.min) ++
        leBytes 4 (unsignedOf 32 c.max) ++ leBytes 8 b.time.toNat)), s)
    else (.notReady, s)) id))

/-- LATEST (R282): refused while the channel has no value. -/
def execLatest (m : BusMsg) (s : State) : Out := .next (
  s.busCmd m 0xD9 (fun s => s.busRead m 0xD9 false 1 (fun s =>
    let c := bytesLE m.data
    if s.bit (R.MEAS_CH_STATUS.LV c) then
      (.bytes (blockOf (leBytes 3 (unsignedOf 24 (s.latest c)) ++ leBytes 1 (Word.field (s.reg (R.MEAS_CH_STATUS.reg c)) 24 8))), s)
    else (.notReady, s)) id))

/-! ## Status of the device (R282, Table 14.6) -/

/-- EVT_PEND (R282). -/
def execEvtPend (m : BusMsg) (s : State) : Out := .next (
  s.readOnly m 0xDA false (pureAns (fun s =>
    blockOf ((List.range 4).flatMap (fun i => leBytes 4 (s.reg (R.EVT_PEND.reg i)).toNat)))))

/-- FSTAT (R282). -/
def execFstat (m : BusMsg) (s : State) : Out := .next (
  s.readOnly m 0xDC false (pureAns (fun s => blockOf (leBytes 8 s.fstat.toNat))))

/-- WD_CHAL (R282). -/
def execWdChal (m : BusMsg) (s : State) : Out := .next (
  s.readOnly m 0xDE false (fun s => let x := s.readReg .hostBus R.SUP_WD_CHAL.reg; (.bytes (leBytes 2 x.1.toNat), x.2)))

/-- PARAM_STAT (R282): the host-bus copy. -/
def execParamStat (m : BusMsg) (s : State) : Out := .next (
  s.readOnly m 0xE1 false (pureAns (fun s => leBytes 2 (Word.field (s.reg (R.ACRD_PARAM_STAT.reg (reqCode .hostBus))) 16 16))))

/-- DIGEST (R282). -/
def execDigest (m : BusMsg) (s : State) : Out := .next (
  s.readOnly m 0xE2 false (pureAns (fun s => blockOf (leBytes 4 (s.reg R.ACRD_DIGEST_LO.reg).toNat ++
    leBytes 4 (s.reg R.ACRD_DIGEST_HI.reg).toNat ++ leBytes 4 (s.reg R.ACRD_VERSION.reg).toNat ++
    leBytes 2 (s.fld R.ACRD_SVN.SVN) ++ leBytes 2 (s.reg R.ACRD_STATUS.reg).toNat))))

/-- SYS_INFO (R282). -/
def execSysInfo (m : BusMsg) (s : State) : Out := .next (
  s.readOnly m 0xE3 false (fun s =>
    let x := s.shown R.SYS_STATUS.reg
    (.bytes (blockOf (leBytes 4 x.1.toNat ++ leBytes 4 (s.reg R.SYS_RESET_CAUSE.reg).toNat ++
      leBytes 4 (s.reg R.SYS_WAKE_CAUSE.reg).toNat ++ leBytes 4 (s.reg R.FLT_FIRST.reg).toNat ++ leBytes 8 s.now.toNat)), x.2)))

/-- RAIL_STATUS (R282): free values for a rail that does not exist, which is invalid data. -/
def execRailStatus (m : BusMsg) (s : State) : Out := .next (
  s.busCmd m 0xE6 (fun s => s.busRead m 0xE6 false 1 (fun s =>
    let r := bytesLE m.data
    if r < 64 then
      (.bytes (blockOf (leBytes 4 (s.reg (R.SEQ_RAIL_STATUS.reg r)).toNat ++ leBytes 4 (s.reg (R.SEQ_RAIL_CNT.reg r)).toNat)), s)
    else let x := (s.cml 0x40).freeBytes 8; (.bytes (blockOf x.1), x.2)) id))

/-! ## Mailboxes (R284) -/

/-- The words of a message, from byte 0. -/
def State.setInbox (s : State) (l : List Byte) : State :=
  (List.range 16).foldl (fun s i => s.setReg (R.HOST_MBOX_IN.reg i) (BitVec.ofNat 32 (bytesAt l (4 * i) 4))) s

/-- MBOX_WRITE (R284): refused as busy while a message is held; raises EV_066. -/
def execMboxWrite (m : BusMsg) (s : State) : Out := .next (
  s.busCmd m 0xE7 (fun s =>
    if !m.read && s.bit R.HOST_MBOX_STAT.INFULL then s.refuse 0x02 true
    else s.busWrite m 0xE7 1 64 (fun s l =>
      some ((((s.setInbox l).setB R.HOST_MBOX_STAT.INFULL true).setF R.HOST_MBOX_STAT.INLEN l.length).event 66))))

/-- The outbound message. -/
def State.outbox (s : State) : List Byte :=
  ((List.range 16).flatMap (fun i => leBytes 4 (s.reg (R.HOST_MBOX_OUT.reg i)).toNat)).take (s.fld R.HOST_MBOX_STAT.OUTLEN)

/-- MBOX_READ (R284): refused as busy while no message is held; removed when the read ends complete. -/
def execMboxRead (m : BusMsg) (s : State) : Out := .next (
  s.busCmd m 0xE8 (fun s => s.busRead m 0xE8 false 0 (fun s =>
    if s.fld R.HOST_MBOX_STAT.OUTLEN = 0 then (.busy, s) else (.bytes (blockOf s.outbox), s))
    (fun s => s.setF R.HOST_MBOX_STAT.OUTLEN 0)))

end Sys2Proof.Machine
end

