-- ==== Sys2Proof/Machine/Quad.lean ====
section
/-! DEFINITION.  The quad serial port (R285, R286, Table 14.7). -/

namespace Sys2Proof.Machine

/-- The header of a frame (R286). -/
def quadHeader (op : Nat) (flags : Byte) (addr : Word) (len : Nat) : List Byte :=
  [BitVec.ofNat 8 op, flags] ++ leBytes 4 addr.toNat ++ leBytes 2 len

/-- The OP byte of a frame: the row's own, or one that Table 14.7 does not name. -/
def quadOp (q : QuadEnd) (op : Nat) : Nat :=
  match q.op with
  | some b => if 1 ≤ b.toNat && b.toNat ≤ 4 then op else b.toNat
  | none => op

/-- Whether a frame's request CRC is right: the CRC-16 over its header and the data it writes (R286). -/
def quadCrcRight (q : QuadEnd) (op : Nat) (addr : Word) (len : Nat) (data : List Byte) : Bool :=
  match q.crc with
  | some c => c = crc16 (quadHeader (quadOp q op) q.flags addr len ++ data)
  | none => q.crcOk

/-- A frame reaches the port: a wrong request CRC is answered with status 0x01, an unknown OP or non-zero FLAGS with
0x02, and one that ends before its request does answers nothing. -/
def State.quadFrame (s : State) (op : Nat) (q : QuadEnd) (addr : Word) (len : Nat) (data : List Byte)
    (go : State → State) : State :=
  if !s.quadOn then s
  else if !quadCrcRight q op addr len data then (if q.complete then s.quadAnswer (quadOp q op) 0x01 none else s)
  else if quadOp q op ≠ op || q.flags ≠ 0#8 then (if q.complete then s.quadAnswer (quadOp q op) 0x02 none else s)
  else s.meeting q.errs go

/-- The status that refuses a window frame of `n` bytes at `a`, before its Ledger or bank is asked; 0xA5 where none
does.  The mailboxes are out of its reach (R284). -/
def State.quadJudge (s : State) (write : Bool) (a n lo : Nat) : Nat :=
  let p := winSpan write a n
  if n < lo || 4096 < n || (inBlock a && n % 4 ≠ 0) then 0x02
  else if !placeFits p.1 p.2 || (inBlock a && a % 4 ≠ 0) then 0x05
  else if !s.rangeMay true write p.1 p.2 || mailboxAt a n then 0x03
  else if !write && s.snapBusy a n then 0x06
  else 0xA5

/-- QUAD_WIN_READ (R286).  The side effects of the read stand however the frame ends. -/
def execQuadWinRead (addr : Word) (len : Nat) (q : QuadEnd) (s : State) : Out := .next (
  s.quadFrame 0x01 q addr len [] (fun s =>
    let st := s.quadJudge false addr.toNat len 4
    if st ≠ 0xA5 then s.quadAnswer 0x01 st none
    else
      let x := s.winRead .quad addr.toNat len
      x.2.quadAnswer 0x01 0xA5 (some x.1)))

/-- The 150 µs of the storing of a bank frame. -/
def T.quadStore : Nat := timerKey 110 2

/-- A permitted write frame: a bank frame waits to be stored, one after the other; everything else is written when
QCS_N rises. -/
def State.quadWrite (s : State) (a : Nat) (data : List Byte) : State :=
  match placeOf a with
  | some (.bank b o) =>
    if s.host.quadStore.isSome then s.quadAnswer 0x02 0x04 none
    else if !s.bankOpen .quad b then s.quadAnswer 0x02 0x03 none
    else
      let s := { s with host := { s.host with quadStore := some (b, o, data) } }
      ((s.setB R.QP_STATUS.BUSY true).arm T.quadStore 150000).quadAnswer 0x02 0xA5 none
  | _ =>
    let x := s.winWrite .quad a data
    match x.1 with
    | .done => x.2.quadAnswer 0x02 0xA5 none
    | .refused => x.2.quadAnswer 0x02 0x03 none
    | .busy => x.2.quadAnswer 0x02 0x04 none

/-- QUAD_WIN_WRITE (R286): a frame that ends before its status byte applies nothing. -/
def execQuadWinWrite (addr : Word) (data : List Byte) (q : QuadEnd) (s : State) : Out := .next (
  s.quadFrame 0x02 q addr data.length data (fun s =>
    if !q.complete then s
    else
      let st := s.quadJudge true addr.toNat data.length 1
      if st ≠ 0xA5 then s.quadAnswer 0x02 st none else s.quadWrite addr.toNat data))

/-- QUAD_Q_READ (R203): up to `n` entries, removed when the frame ends complete; none while the engines own the
queue.  Its bytes are those of the sample-queue memory (R278; DEDUCED, log 199). -/
def execQuadQRead (n : Nat) (q : QuadEnd) (s : State) : Out := .next (
  s.quadFrame 0x03 q q.addr n [] (fun s =>
    if n = 0 || 4096 < n then s.quadAnswer 0x03 0x02 none
    else if !s.rangeMay true false 0x20300000 0x10000 then s.quadAnswer 0x03 0x03 none
    else
      let l := if s.bit R.MEAS_Q_CFG.OWNER then [] else s.queueHead n
      let s := if q.complete && !l.isEmpty then s.dequeue l.length else s
      s.quadAnswer 0x03 0xA5 (some (leBytes 2 l.length ++ l.flatMap QEntry.bytes))))

/-- QUAD_STATUS (R286): QP_STATUS and QP_CNT as they stood before this frame, with LEN 0; its bytes are those of the two
registers (R278; DEDUCED, log 199). -/
def execQuadStatus (q : QuadEnd) (s : State) : Out := .next (
  s.quadFrame 0x04 q q.addr q.len [] (fun s =>
    if q.len ≠ 0 then s.quadAnswer 0x04 0x02 none
    else if !s.rangeMay true false R.QP_STATUS.reg 8 then s.quadAnswer 0x04 0x03 none
    else s.quadAnswer 0x04 0xA5 (some (leBytes 4 (s.reg R.QP_STATUS.reg).toNat ++ leBytes 4 (s.reg R.QP_CNT.reg).toNat))))

/-- QUAD_BANK_STORE_DONE (R286): within 150 µs of the frame's end its bytes are stored. -/
def execQuadBankStoreDone (s : State) : Out := .next (
  match s.host.quadStore with
  | some (b, o, l) =>
    let s := { s.disarm T.quadStore with host := { s.host with quadStore := none } }
    (s.bankWrite b o l).setB R.QP_STATUS.BUSY false
  | none => s)

end Sys2Proof.Machine
end

