-- ==== Sys2Proof/Machine/Dispatch.lean ====
section
/-! DEFINITION.  One arm per command: what each does to everything but the queue. -/

namespace Sys2Proof.Machine

/-- The effect of a command (spec/opcode_table.json) on everything but the queue. -/
def exec (i : Instr) (s : State) : Host.Outcome State Fault Refusal :=
  match i with
  | .vinRiseStart => Sys2Proof.Machine.execVinRiseStart s
  | .flaconExit svc => Sys2Proof.Machine.execFlaconExit svc s
  | .startBegin => Sys2Proof.Machine.execStartBegin s
  | .strapReadingDone mv0 mv1 ft => Sys2Proof.Machine.execStrapReadingDone mv0 mv1 ft s
  | .startLedgerRead => Sys2Proof.Machine.execStartLedgerRead s
  | .startupSelfTestEnd fails duration => Sys2Proof.Machine.execStartupSelfTestEnd fails s duration
  | .accordLoadStart => Sys2Proof.Machine.execAccordLoadStart s
  | .banksJudged => Sys2Proof.Machine.execBanksJudged s
  | .fabricConfigured => Sys2Proof.Machine.execFabricConfigured s
  | .sequencerRelease => Sys2Proof.Machine.execSequencerRelease s
  | .logScanEnd => Sys2Proof.Machine.execLogScanEnd s
  | .uvlo cut => Sys2Proof.Machine.execUvlo cut s
  | .brownOut rail cut => Sys2Proof.Machine.execBrownOut rail cut s
  | .brownOutRestart => Sys2Proof.Machine.execBrownOutRestart s
  | .bnPor cut => Sys2Proof.Machine.execBnPor cut s
  | .hsupOvervoltage => Sys2Proof.Machine.execHsupOvervoltage s
  | .hsupOvRecover => Sys2Proof.Machine.execHsupOvRecover s
  | .houseRailExcursion rail high => Sys2Proof.Machine.execHouseRailExcursion rail high s
  | .xinQualified => Sys2Proof.Machine.execXinQualified s
  | .xinQualifyTimeout => Sys2Proof.Machine.execXinQualifyTimeout s
  | .xinMonitorFail => Sys2Proof.Machine.execXinMonitorFail s
  | .ref100MonitorFail => Sys2Proof.Machine.execRef100MonitorFail s
  | .bnoMonitorFail => Sys2Proof.Machine.execBnoMonitorFail s
  | .pllpUnlock => Sys2Proof.Machine.execPllpUnlock s
  | .pllpRelock => Sys2Proof.Machine.execPllpRelock s
  | .pllpUnlockTimeout => Sys2Proof.Machine.execPllpUnlockTimeout s
  | .plleUnlock => Sys2Proof.Machine.execPlleUnlock s
  | .plleRelock => Sys2Proof.Machine.execPlleRelock s
  | .plleReconfigDone => Sys2Proof.Machine.execPlleReconfigDone s
  | .pllmUnlock => Sys2Proof.Machine.execPllmUnlock s
  | .pllmRelock => Sys2Proof.Machine.execPllmRelock s
  | .powerDownToPark r m => Sys2Proof.Machine.execPowerDownToPark r s m
  | .powerDownToFlacon r vinAbove6 m => Sys2Proof.Machine.execPowerDownToFlacon r vinAbove6 s m
  | .parkEntry bnoPeriod => Sys2Proof.Machine.execParkEntry bnoPeriod s
  | .flaconEntry => Sys2Proof.Machine.execFlaconEntry s
  | .wakeInputWake n => Sys2Proof.Machine.execWakeInputWake n s
  | .busAddressWake => Sys2Proof.Machine.execBusAddressWake s
  | .linkActivityWake n => Sys2Proof.Machine.execLinkActivityWake n s
  | .svcNWake => Sys2Proof.Machine.execSvcNWake s
  | .parkAlarmWake => Sys2Proof.Machine.execParkAlarmWake s
  | .lcTransitionRequest r w => Sys2Proof.Machine.execLcTransitionRequest r w s
  | .returnRequestJudged => Sys2Proof.Machine.execReturnRequestJudged s
  | .scrubFrameRead tile frame => Sys2Proof.Machine.execScrubFrameRead tile frame s
  | .tileReloadRequest r w => Sys2Proof.Machine.execTileReloadRequest r w s
  | .tileReloadDone => Sys2Proof.Machine.execTileReloadDone s
  | .verifyStaged r bank => Sys2Proof.Machine.execVerifyStaged r bank s
  | .verifyStagedDone => Sys2Proof.Machine.execVerifyStagedDone s
  | .selectStaged r bank => Sys2Proof.Machine.execSelectStaged r bank s
  | .paramWrite r id value persist m => Sys2Proof.Machine.execParamWrite r id value persist s m
  | .paramRead r id => Sys2Proof.Machine.execParamRead r id s
  | .paramReadDefault r id => Sys2Proof.Machine.execParamReadDefault r id s
  | .scheduledSwitch => Sys2Proof.Machine.execScheduledSwitch s
  | .switchRelease => Sys2Proof.Machine.execSwitchRelease s
  | .fabricTermChange n level => Sys2Proof.Machine.execFabricTermChange n level s
  | .fabricGroupShutdown n level => Sys2Proof.Machine.execFabricGroupShutdown n level s
  | .fabricUrgentRequest n level => Sys2Proof.Machine.execFabricUrgentRequest n level s
  | .fabricFs63Raise n level => Sys2Proof.Machine.execFabricFs63Raise n level s
  | .fabricGpLevel n level => Sys2Proof.Machine.execFabricGpLevel n level s
  | .fabricRstoAssert n level => Sys2Proof.Machine.execFabricRstoAssert n level s
  | .fabricSetpointCommand n level => Sys2Proof.Machine.execFabricSetpointCommand n level s
  | .fabricEventRaise n level => Sys2Proof.Machine.execFabricEventRaise n level s
  | .fabricSnapshotRequest level => Sys2Proof.Machine.execFabricSnapshotRequest level s
  | .tileTimerExpiry tile timer => Sys2Proof.Machine.execTileTimerExpiry tile timer s
  | .setpointCommand r n w => Sys2Proof.Machine.execSetpointCommand r n w s
  | .slewTick n => Sys2Proof.Machine.execSlewTick n s
  | .compensatorUpdate n errs => Sys2Proof.Machine.execCompensatorUpdate n errs s
  | .telemetryUpdate n errs => Sys2Proof.Machine.execTelemetryUpdate n errs s
  | .pgMaskEnd n => Sys2Proof.Machine.execPgMaskEnd n s
  | .loopOvervoltage n ceiling uv held => Sys2Proof.Machine.execLoopOvervoltage n ceiling s uv held
  | .loopOvClear n uv => Sys2Proof.Machine.execLoopOvClear n s uv
  | .loopUndervoltage n uv held => Sys2Proof.Machine.execLoopUndervoltage n s uv held
  | .loopOcFault n => Sys2Proof.Machine.execLoopOcFault n s
  | .nlEntry n errs => Sys2Proof.Machine.execNlEntry n errs s
  | .nlExit n err => Sys2Proof.Machine.execNlExit n s err
  | .phaseShed n => Sys2Proof.Machine.execPhaseShed n s
  | .respacing n => Sys2Proof.Machine.execRespacing n s
  | .lockTake src n => Sys2Proof.Machine.execLockTake src n s
  | .lockRelease src n => Sys2Proof.Machine.execLockRelease src n s
  | .lockTimeout n => Sys2Proof.Machine.execLockTimeout n s
  | .syncInLost => Sys2Proof.Machine.execSyncInLost s
  | .syncInEdge period => Sys2Proof.Machine.execSyncInEdge period s
  | .phasePosLimit p cur => Sys2Proof.Machine.execPhasePosLimit p s cur
  | .phaseNegLimit p cur => Sys2Proof.Machine.execPhaseNegLimit p s cur
  | .phaseOpen p => Sys2Proof.Machine.execPhaseOpen p s
  | .phaseStageFault p low held => Sys2Proof.Machine.execPhaseStageFault p s low held
  | .stageBlankEnd p tmfLow => Sys2Proof.Machine.execStageBlankEnd p tmfLow s
  | .phaseHot p => Sys2Proof.Machine.execPhaseHot p s
  | .phaseTempWarning p => Sys2Proof.Machine.execPhaseTempWarning p s
  | .phaseTempWarningEnd p => Sys2Proof.Machine.execPhaseTempWarningEnd p s
  | .senseSuspectRange p => Sys2Proof.Machine.execSenseSuspectRange p s
  | .senseSuspectFlux p => Sys2Proof.Machine.execSenseSuspectFlux p s
  | .isnsRefFail mv => Sys2Proof.Machine.execIsnsRefFail mv s
  | .surveyBurstStart n => Sys2Proof.Machine.execSurveyBurstStart n s
  | .surveyForce n => Sys2Proof.Machine.execSurveyForce n s
  | .surveyPause n => Sys2Proof.Machine.execSurveyPause n s
  | .surveyResume n => Sys2Proof.Machine.execSurveyResume n s
  | .surveyTimeout n => Sys2Proof.Machine.execSurveyTimeout n s
  | .surveyBurstEnd n => Sys2Proof.Machine.execSurveyBurstEnd n s
  | .surveyResult n est => Sys2Proof.Machine.execSurveyResult n est s
  | .intentSetpoint il frame => Sys2Proof.Machine.execIntentSetpoint il frame s
  | .intentForecast il frame => Sys2Proof.Machine.execIntentForecast il frame s
  | .intentBadFrame il frame => Sys2Proof.Machine.execIntentBadFrame il frame s
  | .intentShortTransaction il => Sys2Proof.Machine.execIntentShortTransaction il s
  | .forecastPreposition n => Sys2Proof.Machine.execForecastPreposition n s
  | .forecastUnfulfilled n => Sys2Proof.Machine.execForecastUnfulfilled n s
  | .preraiseHoldEnd n => Sys2Proof.Machine.execPreraiseHoldEnd n s
  | .sequencerTick => Sys2Proof.Machine.execSequencerTick s
  | .railOnRequest r n m => Sys2Proof.Machine.execRailOnRequest r n s m
  | .railOffRequest r n m => Sys2Proof.Machine.execRailOffRequest r n s m
  | .railClearLatch r n m => Sys2Proof.Machine.execRailClearLatch r n s m
  | .railQualified n => Sys2Proof.Machine.execRailQualified n s
  | .railStartTimeout n => Sys2Proof.Machine.execRailStartTimeout n s
  | .railChatterLimit n => Sys2Proof.Machine.execRailChatterLimit n s
  | .railDischargeTimeout n => Sys2Proof.Machine.execRailDischargeTimeout n s
  | .retryDelayEnd n => Sys2Proof.Machine.execRetryDelayEnd n s
  | .retryCountClear n => Sys2Proof.Machine.execRetryCountClear n s
  | .groupShutdownRequest r g => Sys2Proof.Machine.execGroupShutdownRequest r g s
  | .groupClosureOff g => Sys2Proof.Machine.execGroupClosureOff g s
  | .groupResequence g => Sys2Proof.Machine.execGroupResequence g s
  | .groupStable g => Sys2Proof.Machine.execGroupStable g s
  | .systemResetHoldEnd => Sys2Proof.Machine.execSystemResetHoldEnd s
  | .systemStable => Sys2Proof.Machine.execSystemStable s
  | .seqResume r => Sys2Proof.Machine.execSeqResume r s
  | .snapshotPlaced => Sys2Proof.Machine.execSnapshotPlaced s
  | .monCrossing n mv uv => Sys2Proof.Machine.execMonCrossing n mv uv s
  | .monFilterExpiry n => Sys2Proof.Machine.execMonFilterExpiry n s
  | .vinLossSet mv held => Sys2Proof.Machine.execVinLossSet s mv held
  | .vinLossClear mv held => Sys2Proof.Machine.execVinLossClear s mv held
  | .vinWindowExit high mv held => Sys2Proof.Machine.execVinWindowExit high s mv held
  | .vinWindowReturn high mv held => Sys2Proof.Machine.execVinWindowReturn high s mv held
  | .rstoMinwEnd n => Sys2Proof.Machine.execRstoMinwEnd n s
  | .rstoRelease n => Sys2Proof.Machine.execRstoRelease n s
  | .wdAnswer r ans m => Sys2Proof.Machine.execWdAnswer r ans s m
  | .wdClosedEnd => Sys2Proof.Machine.execWdClosedEnd s
  | .wdTimeout => Sys2Proof.Machine.execWdTimeout s
  | .softStartEnd => Sys2Proof.Machine.execSoftStartEnd s
  | .softStartTimeout => Sys2Proof.Machine.execSoftStartTimeout s
  | .vinStable => Sys2Proof.Machine.execVinStable s
  | .reverseDetect present => Sys2Proof.Machine.execReverseDetect s present
  | .vsysLowDetect present => Sys2Proof.Machine.execVsysLowDetect s present
  | .handoverComplete slow => Sys2Proof.Machine.execHandoverComplete slow s
  | .bswReverseOff off => Sys2Proof.Machine.execBswReverseOff s off
  | .packWarning mv held => Sys2Proof.Machine.execPackWarning s mv held
  | .packWarningEnd mv held => Sys2Proof.Machine.execPackWarningEnd s mv held
  | .packCut mv held => Sys2Proof.Machine.execPackCut s mv held
  | .packCutEnd mv held => Sys2Proof.Machine.execPackCutEnd s mv held
  | .returnTransfer => Sys2Proof.Machine.execReturnTransfer s
  | .returnNoTransfer => Sys2Proof.Machine.execReturnNoTransfer s
  | .chargerSourceReturn => Sys2Proof.Machine.execChargerSourceReturn s
  | .prechargeExit cellMv => Sys2Proof.Machine.execPrechargeExit cellMv s
  | .prechargeTimeout => Sys2Proof.Machine.execPrechargeTimeout s
  | .chargerStepEnd cellMv => Sys2Proof.Machine.execChargerStepEnd cellMv s
  | .chargerTermination => Sys2Proof.Machine.execChargerTermination s
  | .chargerRecharge cellMv => Sys2Proof.Machine.execChargerRecharge cellMv s
  | .fastChargeTimeout => Sys2Proof.Machine.execFastChargeTimeout s
  | .packZoneChange uv => Sys2Proof.Machine.execPackZoneChange uv s
  | .chargerFault cause => Sys2Proof.Machine.execChargerFault cause s
  | .chargerClear r => Sys2Proof.Machine.execChargerClear r s
  | .chargerRestart r => Sys2Proof.Machine.execChargerRestart r s
  | .chargerSoftLimit r w => Sys2Proof.Machine.execChargerSoftLimit r w s
  | .packPresent batId ts => Sys2Proof.Machine.execPackPresent batId ts s
  | .packAbsent why => Sys2Proof.Machine.execPackAbsent why s
  | .presenceProbe present => Sys2Proof.Machine.execPresenceProbe present s
  | .peerModeOff r => Sys2Proof.Machine.execPeerModeOff r s
  | .peerModeIn r => Sys2Proof.Machine.execPeerModeIn r s
  | .peerModeOut r batAboveWarn => Sys2Proof.Machine.execPeerModeOut r batAboveWarn s
  | .peerOutEstablished => Sys2Proof.Machine.execPeerOutEstablished s
  | .peerOutUndervoltage => Sys2Proof.Machine.execPeerOutUndervoltage s
  | .longPress vinInside => Sys2Proof.Machine.execLongPress vinInside s
  | .longPressEnd supplyLost => Sys2Proof.Machine.execLongPressEnd supplyLost s
  | .converterWord k code => Sys2Proof.Machine.execConverterWord k code s
  | .urgentRequest e ch => Sys2Proof.Machine.execUrgentRequest e ch s
  | .snapshotTake r buf m => Sys2Proof.Machine.execSnapshotTake r buf s m
  | .snapshotClear r buf m => Sys2Proof.Machine.execSnapshotClear r buf s m
  | .snapshotTakeClear r buf m => Sys2Proof.Machine.execSnapshotTakeClear r buf s m
  | .snapshotReady buf => Sys2Proof.Machine.execSnapshotReady buf s
  | .queueRelease e rd => Sys2Proof.Machine.execQueueRelease e rd s
  | .graceExpiry n => Sys2Proof.Machine.execGraceExpiry n s
  | .immediateEscalation n => Sys2Proof.Machine.execImmediateEscalation n s
  | .faultAck r n m => Sys2Proof.Machine.execFaultAck r n s m
  | .faultClear r n => Sys2Proof.Machine.execFaultClear r n s
  | .faultInject r n => Sys2Proof.Machine.execFaultInject r n s
  | .restartCommand r m => Sys2Proof.Machine.execRestartCommand r s m
  | .restartDrained => Sys2Proof.Machine.execRestartDrained s
  | .dieTempWarning => Sys2Proof.Machine.execDieTempWarning s
  | .dieTempShutdown => Sys2Proof.Machine.execDieTempShutdown s
  | .engineInstruction e errs => Sys2Proof.Machine.execEngineInstruction e s errs
  | .sramScrub mem addr err => Sys2Proof.Machine.execSramScrub mem addr err s
  | .interruptTaken e => Sys2Proof.Machine.execInterruptTaken e s
  | .eicClaim e => Sys2Proof.Machine.execEicClaim e s
  | .eicComplete e src => Sys2Proof.Machine.execEicComplete e src s
  | .lockstepMismatch e => Sys2Proof.Machine.execLockstepMismatch e s
  | .takeover e frm => Sys2Proof.Machine.execTakeover e frm s
  | .takeoverRelease e => Sys2Proof.Machine.execTakeoverRelease e s
  | .semAcquire r n => Sys2Proof.Machine.execSemAcquire r n s
  | .semRelease r n w => Sys2Proof.Machine.execSemRelease r n w s
  | .dmaStart e c errs => Sys2Proof.Machine.execDmaStart e c s errs
  | .dmaSuspend e c => Sys2Proof.Machine.execDmaSuspend e c s
  | .dmaAbort e c => Sys2Proof.Machine.execDmaAbort e c s
  | .dmaBeat c errs => Sys2Proof.Machine.execDmaBeat c s errs
  | .eventForward => Sys2Proof.Machine.execEventForward s
  | .forwardTimeout => Sys2Proof.Machine.execForwardTimeout s
  | .softwareEventRaise r sw => Sys2Proof.Machine.execSoftwareEventRaise r sw s
  | .hostEventClear mask r m => Sys2Proof.Machine.execHostEventClear mask s r m
  | .doorbell e targets => Sys2Proof.Machine.execDoorbell e targets s
  | .timerCompareMatch e => Sys2Proof.Machine.execTimerCompareMatch e s
  | .waitingWritePlaced => Sys2Proof.Machine.execWaitingWritePlaced s
  | .commitCommand r => Sys2Proof.Machine.execCommitCommand r s
  | .commitAgeExpiry => Sys2Proof.Machine.execCommitAgeExpiry s
  | .commitGuardRelease => Sys2Proof.Machine.execCommitGuardRelease s
  | .commitEnd => Sys2Proof.Machine.execCommitEnd s
  | .recordRead r rec => Sys2Proof.Machine.execRecordRead r rec s
  | .recordSet r rec value => Sys2Proof.Machine.execRecordSet r rec value s
  | .recordAdd r rec inc => Sys2Proof.Machine.execRecordAdd r rec inc s
  | .logRecordAdd r code source => Sys2Proof.Machine.execLogRecordAdd r code source s
  | .page m => Sys2Proof.Machine.execPage m s
  | .operation m => Sys2Proof.Machine.execOperation m s
  | .clearFaults m => Sys2Proof.Machine.execClearFaults m s
  | .capability m => Sys2Proof.Machine.execCapability m s
  | .voutMode m => Sys2Proof.Machine.execVoutMode m s
  | .voutCommand m => Sys2Proof.Machine.execVoutCommand m s
  | .voutMax m => Sys2Proof.Machine.execVoutMax m s
  | .voutTransitionRate m => Sys2Proof.Machine.execVoutTransitionRate m s
  | .voutMin m => Sys2Proof.Machine.execVoutMin m s
  | .voutOvFaultLimit m => Sys2Proof.Machine.execVoutOvFaultLimit m s
  | .voutUvFaultLimit m => Sys2Proof.Machine.execVoutUvFaultLimit m s
  | .ioutOcFaultLimit m => Sys2Proof.Machine.execIoutOcFaultLimit m s
  | .statusByte m => Sys2Proof.Machine.execStatusByte m s
  | .statusWord m => Sys2Proof.Machine.execStatusWord m s
  | .statusVout m => Sys2Proof.Machine.execStatusVout m s
  | .statusIout m => Sys2Proof.Machine.execStatusIout m s
  | .statusTemperature m => Sys2Proof.Machine.execStatusTemperature m s
  | .statusCml m => Sys2Proof.Machine.execStatusCml m s
  | .statusMfrSpecific m => Sys2Proof.Machine.execStatusMfrSpecific m s
  | .readVin m => Sys2Proof.Machine.execReadVin m s
  | .readVout m => Sys2Proof.Machine.execReadVout m s
  | .readIout m => Sys2Proof.Machine.execReadIout m s
  | .readTemperature1 m => Sys2Proof.Machine.execReadTemperature1 m s
  | .readTemperature2 m => Sys2Proof.Machine.execReadTemperature2 m s
  | .pmbusRevision m => Sys2Proof.Machine.execPmbusRevision m s
  | .mfrId m => Sys2Proof.Machine.execMfrId m s
  | .mfrModel m => Sys2Proof.Machine.execMfrModel m s
  | .mfrRevision m => Sys2Proof.Machine.execMfrRevision m s
  | .mfrSerial m => Sys2Proof.Machine.execMfrSerial m s
  | .winAddr m => Sys2Proof.Machine.execWinAddr m s
  | .winData m => Sys2Proof.Machine.execWinData m s
  | .qRead m => Sys2Proof.Machine.execQRead m s
  | .qStatus m => Sys2Proof.Machine.execQStatus m s
  | .snapRead buf m => Sys2Proof.Machine.execSnapRead buf m s
  | .latest m => Sys2Proof.Machine.execLatest m s
  | .evtPend m => Sys2Proof.Machine.execEvtPend m s
  | .fstat m => Sys2Proof.Machine.execFstat m s
  | .wdChal m => Sys2Proof.Machine.execWdChal m s
  | .paramStat m => Sys2Proof.Machine.execParamStat m s
  | .digest m => Sys2Proof.Machine.execDigest m s
  | .sysInfo m => Sys2Proof.Machine.execSysInfo m s
  | .railStatus m => Sys2Proof.Machine.execRailStatus m s
  | .mboxWrite m => Sys2Proof.Machine.execMboxWrite m s
  | .mboxRead m => Sys2Proof.Machine.execMboxRead m s
  | .mboxInboundRelease e => Sys2Proof.Machine.execMboxInboundRelease e s
  | .mboxOutboundPost e len => Sys2Proof.Machine.execMboxOutboundPost e len s
  | .unknownCommand code => Sys2Proof.Machine.execUnknownCommand code s
  | .busTransactionAbandon => Sys2Proof.Machine.execBusTransactionAbandon s
  | .busTimeout => Sys2Proof.Machine.execBusTimeout s
  | .hostNotify lost => Sys2Proof.Machine.execHostNotify lost s
  | .alertResponse lost acked => Sys2Proof.Machine.execAlertResponse lost s acked
  | .controllerRetry lost => Sys2Proof.Machine.execControllerRetry lost s
  | .quadWinRead addr len q => Sys2Proof.Machine.execQuadWinRead addr len q s
  | .quadWinWrite addr data q => Sys2Proof.Machine.execQuadWinWrite addr data q s
  | .quadQRead n q => Sys2Proof.Machine.execQuadQRead n q s
  | .quadStatus q => Sys2Proof.Machine.execQuadStatus q s
  | .quadBankStoreDone => Sys2Proof.Machine.execQuadBankStoreDone s
  | .linkBringupBurst p => Sys2Proof.Machine.execLinkBringupBurst p s
  | .linkUp p first => Sys2Proof.Machine.execLinkUp p first s
  | .linkDown p => Sys2Proof.Machine.execLinkDown p s
  | .helloTimer p => Sys2Proof.Machine.execHelloTimer p s
  | .hello p role depth devPin dev hash toManager f hops => Sys2Proof.Machine.execHello p role depth devPin dev hash toManager s f hops
  | .assign f hash dev depth => Sys2Proof.Machine.execAssign f hash dev depth s
  | .tsyncTimer => Sys2Proof.Machine.execTsyncTimer s
  | .tsyncReq p f t3 => Sys2Proof.Machine.execTsyncReq p s f t3
  | .tsyncRsp t1 t2 t3 t4 f => Sys2Proof.Machine.execTsyncRsp t1 t2 t3 t4 s f
  | .alignmentTimeout => Sys2Proof.Machine.execAlignmentTimeout s
  | .statusFrame p dev rs chk => Sys2Proof.Machine.execStatusFrame p dev rs chk s
  | .rvecTimer => Sys2Proof.Machine.execRvecTimer s
  | .rvec p dev vec newer f => Sys2Proof.Machine.execRvec p dev vec newer s f
  | .remoteStatusStale dev => Sys2Proof.Machine.execRemoteStatusStale dev s
  | .eventFrame f ev raised => Sys2Proof.Machine.execEventFrame f ev raised s
  | .ackFrame src seq result data f => Sys2Proof.Machine.execAckFrame src seq result data s f
  | .frameResend seq => Sys2Proof.Machine.execFrameResend seq s
  | .probeTimer => Sys2Proof.Machine.execProbeTimer s
  | .probe src epoch pper f => Sys2Proof.Machine.execProbe src epoch pper s f
  | .answer dev epoch digest f => Sys2Proof.Machine.execAnswer dev epoch digest s f
  | .probeMissing => Sys2Proof.Machine.execProbeMissing s
  | .mismatch f epoch expected => Sys2Proof.Machine.execMismatch f epoch expected s
  | .paramFrame f id value persist => Sys2Proof.Machine.execParamFrame f id value persist s
  | .bankWr f off data => Sys2Proof.Machine.execBankWr f off data s
  | .verifyFrame f => Sys2Proof.Machine.execVerifyFrame f s
  | .switchAt f t epoch => Sys2Proof.Machine.execSwitchAt f t epoch s
  | .go f epoch => Sys2Proof.Machine.execGo f epoch s
  | .cancel f epoch => Sys2Proof.Machine.execCancel f epoch s
  | .switchSelfCancel => Sys2Proof.Machine.execSwitchSelfCancel s
  | .goLeadReached => Sys2Proof.Machine.execGoLeadReached s
  | .linkCmdPark f => Sys2Proof.Machine.execLinkCmdPark f s
  | .linkCmdFlacon f vinAbove6 => Sys2Proof.Machine.execLinkCmdFlacon f vinAbove6 s
  | .linkCmdRestart f => Sys2Proof.Machine.execLinkCmdRestart f s
  | .linkCmdSelectStaged f => Sys2Proof.Machine.execLinkCmdSelectStaged f s
  | .rdFrame f addr len => Sys2Proof.Machine.execRdFrame f addr len s
  | .wrFrame f addr data => Sys2Proof.Machine.execWrFrame f addr data s
  | .rdata src addr data f => Sys2Proof.Machine.execRdata src addr data s f
  | .pdone f dest => Sys2Proof.Machine.execPdone f dest s
  | .cascadeWaitExpiry => Sys2Proof.Machine.execCascadeWaitExpiry s
  | .linkTxParam e dst len => Sys2Proof.Machine.execLinkTxParam e dst len s
  | .linkTxBankWr e dst len => Sys2Proof.Machine.execLinkTxBankWr e dst len s
  | .linkTxVerify e dst len => Sys2Proof.Machine.execLinkTxVerify e dst len s
  | .linkTxCommand e dst len => Sys2Proof.Machine.execLinkTxCommand e dst len s
  | .linkTxRd e dst len => Sys2Proof.Machine.execLinkTxRd e dst len s
  | .linkTxWr e dst len => Sys2Proof.Machine.execLinkTxWr e dst len s
  | .switchArm r => Sys2Proof.Machine.execSwitchArm r s
  | .switchCancel r => Sys2Proof.Machine.execSwitchCancel r s
  | .orphanDetect => Sys2Proof.Machine.execOrphanDetect s
  | .orphanPark => Sys2Proof.Machine.execOrphanPark s
  | .rxevRead r => Sys2Proof.Machine.execRxevRead r s
  | .traceWrite r code source => Sys2Proof.Machine.execTraceWrite r code source s
  | .traceUnfreeze r => Sys2Proof.Machine.execTraceUnfreeze r s
  | .sliceInstant => Sys2Proof.Machine.execSliceInstant s
  | .sliceEnd dom pass => Sys2Proof.Machine.execSliceEnd dom pass s
  | .drydownStart tj => Sys2Proof.Machine.execDrydownStart tj s
  | .drydownChecksDone fails duration => Sys2Proof.Machine.execDrydownChecksDone fails duration s
  | .bistRunSlice r code index pass => Sys2Proof.Machine.execBistRunSlice r code index pass s
  | .bistRunDrydown r fails => Sys2Proof.Machine.execBistRunDrydown r fails s
  | .registerWrite r addr w => Sys2Proof.Machine.execRegisterWrite r addr w s
  | .topNoteDomainUp => Sys2Proof.Machine.execTopNoteDomainUp s
  | .cellUpset tile cell => Sys2Proof.Machine.execCellUpset tile cell s
  | .tapOperation op => Sys2Proof.Machine.execTapOperation op s
  | .pinStateLineChange line level => Sys2Proof.Machine.execPinStateLineChange line level s
  | .hierarchyTimeBitEdge k => Sys2Proof.Machine.execHierarchyTimeBitEdge k s
  | .vcc5OvRecover => Sys2Proof.Machine.execVcc5OvRecover s
  | .parkVinUvloChange below batAbove5 => Sys2Proof.Machine.execParkVinUvloChange below batAbove5 s
  | .switchingCycleEnd p c => Sys2Proof.Machine.execSwitchingCycleEnd p c s
  | .tmfReading p mv => Sys2Proof.Machine.execTmfReading p mv s
  | .vinExcursion outside => Sys2Proof.Machine.execVinExcursion outside s
  | .vsysOkChange ok => Sys2Proof.Machine.execVsysOkChange ok s
  | .svcNChange low => Sys2Proof.Machine.execSvcNChange low s
  | .dieTempCool => Sys2Proof.Machine.execDieTempCool s

end Sys2Proof.Machine
end

