-- ==== Sys2Proof/Machine/Step.lean ====
section
/-! DEFINITION.  One step: the command at the front of the queue, or a tick of time when none waits. -/

namespace Sys2Proof.Machine

/-- The state with the command that a word spells put at the front of its queue. -/
def State.withFetchWord (s : State) (nbits w : Nat) : State :=
  match decodeTableWord nbits w with
  | some c => { s with pending := c :: s.pending }
  | none => s

/-- One step: `exec` on the command at the front of the queue with the queue's rest; on an empty queue a tick
of time passes (R55, DESIGN CHOICE: log entry 2). -/
def step (s : State) : Host.Outcome State Fault Refusal :=
  match s.pending with
  | [] => .next s.idleTick
  | c :: r => exec c { s with pending := r }

end Sys2Proof.Machine
end

