-- ==== Sys2Proof/Safety.lean ====
section
/-! DEFINITION.  What counts as a safe state and a safe run: every sparse table in its canonical form, and no
stop. -/

namespace Sys2Proof.Machine

/-- Every memory and register table is in its canonical form: rising keys, and no entry equal to what its key
reads as when it is not listed. -/
def State.memWf (s : State) : Bool :=
  s.regs.wf resetWord && s.ledg.array.wf (fun _ => 0#64) && s.evt.sram.wf (fun _ => 0#64) &&
  s.acrd.bankA.wf (fun _ => 0#8) && s.acrd.bankB.wf (fun _ => 0#8) && s.timers.wf (fun _ => none)

/-- A command runs safely when it neither stops in a fault nor is refused. -/
def Runs (c : Instr) (s : State) : Prop := ∃ t, exec c s = .next t

/-- The command completes, and the state it leaves satisfies `P`. -/
def Does (c : Instr) (s : State) (P : State → Prop) : Prop := ∃ t, exec c s = .next t ∧ P t

/-! ## What a command leaves as it was -/

/-- The parts of the state, one for each of its fields. -/
inductive Part where
  | pending
  | clock
  | htOfs
  | freeCount
  | regs
  | timers
  | trace
  | tracePost
  | sys
  | acrd
  | loops
  | phases
  | ilReply
  | rails
  | groups
  | seq
  | sup
  | path
  | meas
  | flt
  | ledg
  | evt
  | host
  | link
  | bist
  | hiLatch
  | loLatch
  deriving DecidableEq, Repr

/-- Two states agree on a part. -/
def Same (s t : State) : Part → Prop
  | .pending => t.pending = s.pending
  | .clock => t.clock = s.clock
  | .htOfs => t.htOfs = s.htOfs
  | .freeCount => t.freeCount = s.freeCount
  | .regs => t.regs = s.regs
  | .timers => t.timers = s.timers
  | .trace => t.trace = s.trace
  | .tracePost => t.tracePost = s.tracePost
  | .sys => t.sys = s.sys
  | .acrd => t.acrd = s.acrd
  | .loops => t.loops = s.loops
  | .phases => t.phases = s.phases
  | .ilReply => t.ilReply = s.ilReply
  | .rails => t.rails = s.rails
  | .groups => t.groups = s.groups
  | .seq => t.seq = s.seq
  | .sup => t.sup = s.sup
  | .path => t.path = s.path
  | .meas => t.meas = s.meas
  | .flt => t.flt = s.flt
  | .ledg => t.ledg = s.ledg
  | .evt => t.evt = s.evt
  | .host => t.host = s.host
  | .link => t.link = s.link
  | .bist => t.bist = s.bist
  | .hiLatch => t.hiLatch = s.hiLatch
  | .loLatch => t.loLatch = s.loLatch

/-- Only the parts of the list may differ. -/
def Frame (l : List Part) (s t : State) : Prop := ∀ p, p ∉ l → Same s t p

/-- The parts that a record, an event, a raise or a queued event-log record may change. -/
def notes : List Part := [.regs, .timers, .trace, .tracePost, .evt, .host, .flt, .ledg, .bist]

/-- The registers that a record, an event, a raise or an interrupt source may change: the collector's, the event and
pending registers, the Ledger's status, error counts and LEDG_LOG_STAT, and the trace's. -/
def noteKey (k : Nat) : Bool :=
  (decide (0x40070000 ≤ k) && decide (k < 0x40080800)) ||
  (decide (0x40084000 ≤ k) && decide (k < 0x4008C000) && decide (0x280 ≤ k % 0x800) && decide (k % 0x800 < 0x2A0)) ||
  decide (k = 0x40090008) || decide (k = 0x40090010) || decide (k = 0x40090014) || decide (k = 0x40090038) || (decide (0x400B00A8 ≤ k) && decide (k < 0x400B00D0))

/-- Of the registers that no record or raise may change, only those of the list may differ. -/
def RegsOnly (l : List Nat) (s t : State) : Prop := ∀ k, k ∉ l → noteKey k = false → t.reg k = s.reg k

/-- Of the registers that no record or raise may change, only those of the listed blocks may differ (block n is
0x40000000 + 0x10000 n, Table 12.1). -/
def RegsIn (l : List Nat) (s t : State) : Prop :=
  ∀ k, k % 2 ^ 32 / 0x10000 - 0x4000 ∉ l → noteKey k = false → t.reg k = s.reg k

/-- The step ends in a raise of source FS_n, and nothing before it touched the source's FSTAT bits. -/
def Raises (n : Nat) (s t : State) : Prop :=
  ∃ u : State, t = u.raise n ∧ u.fstat = s.fstat ∧ u.flt.collecting = s.flt.collecting

/-- The counter `f` counts one and stays at all ones. -/
def Counts (f : Field) (s t : State) : Prop := t.fld f = min (2 ^ f.width - 1) (s.fld f + 1)

/-- Whether a write of the register at key `k` is a command, an acknowledgement, a semaphore access or half of a
64-bit pair, so that it does more than merge its bits: the registers of LOOP_VSET, LOOP_LOCK, SV_CFG and of the rails and
groups by their place in their copies, the write ports of every block, and the blocks of the channels and the engines. -/
def commandKey (k : Nat) : Bool :=
  let a := k % 2 ^ 32
  [0x40000004, 0x40000034, 0x400D0004, 0x400D0034, 0x400D0058, 0x40035010, 0x4004060C, 0x40060080, 0x4006007C, 0x40060090,
   0x40051200, 0x40051240, 0x40051280, 0x400512C0, 0x40051300, 0x40051408, 0x40051500, 0x40070008, 0x4007000C, 0x40070000,
   0x40070004, 0x40070050, 0x40070054, 0x40080228, 0x40090004, 0x40090020, 0x40090030, 0x400A0020, 0x400B0078, 0x400B00C0,
   0x400B00C8, 0x400B0090, 0x400C0020].contains a ||
  (decide (0x40010000 ≤ a) && decide (a < 0x40016000) && [4, 0x60, 0x100].contains (a % 0x400)) ||
  (decide (0x40030000 ≤ a) && decide (a < 0x40034000) && decide (a % 0x100 = 0x28)) ||
  (decide (0x40034000 ≤ a) && decide (a < 0x40034100) && decide (a % 0x10 = 4)) ||
  (decide (0x40080200 ≤ a) && decide (a < 0x40080210)) ||
  (decide (0x40080800 ≤ a) && decide (a < 0x40081200)) || (decide (0x40084000 ≤ a) && decide (a < 0x4008C800)) ||
  (decide (0x400A0200 ≤ a) && decide (a < 0x400A0260)) || latchLo k || latchLo (k - 4)

/-! ## When a port takes a command -/

/-- The state in which an acknowledged host-bus command acts: nothing refused and nothing answered yet. -/
def State.openBus (s : State) : State := { s with host := { s.host with refused := false, reply := [] } }

/-- A read of command `code` with `args` written bytes is answered, and read to its end (R264 to R268). -/
def State.takesRead (s : State) (m : BusMsg) (code : Nat) (paged : Bool) (args : Nat) : Bool :=
  s.busOn && s.codeMay code false && m.read && m.complete && decide (m.data.length = args) &&
    !(paged && decide (s.fld R.HOST_STATUS.PAGE = 0xFF))

/-- A write of command `code` with `lo` to `hi` bytes is taken (R264 to R268). -/
def State.takesWrite (s : State) (m : BusMsg) (code lo hi : Nat) : Bool :=
  s.busOn && s.codeMay code (decide (code ≠ 3)) && !m.read && m.complete && decide (lo ≤ m.data.length) &&
    decide (m.data.length ≤ hi) && !s.pecWrong m code && !(decide (m.pec = .absent) && s.bit R.HOST_CFG.PECREQ)

/-- The least and the greatest number of data bytes of a write of command `code`; none where the command has no write form
(Tables 14.3 and 14.6). -/
def writeSizes (code : Nat) : Option (Nat × Nat) :=
  if code = 0x03 then some (0, 0)
  else if [0x00, 0x01, 0x78, 0x7A, 0x7B, 0x7D, 0x7E, 0x80, 0xD4, 0xE4, 0xE9].contains code then some (1, 1)
  else if [0x21, 0x27, 0x79, 0xDF, 0xE5].contains code then some (2, 2)
  else if code = 0xD0 then some (4, 5)
  else if code = 0xD1 then some (1, 255)
  else if code = 0xDB then some (16, 16)
  else if code = 0xDD then some (8, 8)
  else if code = 0xE0 then some (7, 7)
  else if code = 0xE7 then some (1, 64)
  else none

/-- A general frame of the links reaches this device: heard with a right CRC, and for this device, or for every joined
device where this one has joined (R291). -/
def State.gets (s : State) (f : FrameId) : Bool :=
  s.hears f.port && f.crcOk && (if f.dst = 0xFF#8 then s.manager || s.bit R.LINK_ID.JOINED else decide (f.dst.toNat = s.dev))

/-- A general frame that is to be acknowledged is applied: it reaches this device, and was not acknowledged before (R291). -/
def State.takes (s : State) (f : FrameId) : Bool := s.gets f && (s.ackGiven f).isNone

/-- A frame of the MANAGER is applied (R300). -/
def State.obeys (s : State) (f : FrameId) : Bool := s.takes f && s.worker && decide (f.src.toNat = s.link.mgr)

/-- The result code of the acknowledgement given to a frame (R291). -/
def State.ackResult (s : State) (f : FrameId) : Option Byte := (s.ackGiven f).bind (fun b => b[2]?)

/-- The header, type and payload of a general frame that passes on as it came where it is for another device, and whether
it is to be acknowledged (Table 15.1, R291): a frame whose header the command does not give is not among these. -/
def generalFrame : Instr → Option (FrameId × Nat × List Byte × Bool)
  | .tsyncReq _ (some f) _ => some (f, 3, [], false)
  | .tsyncRsp _ t2 t3 _ (some f) =>
    some (f, 4, leBytes 8 (unsignedOf 64 (t2 / 2)) ++ leBytes 8 (unsignedOf 64 (t3 / 2)), false)
  | .eventFrame f ev raised => some (f, 6, BitVec.ofNat 8 ev :: leBytes 8 raised.toNat, true)
  | .ackFrame _ seq result data (some f) => some (f, 7, leBytes 2 seq.toNat ++ [result] ++ data, false)
  | .probe _ epoch pper (some f) => some (f, 8, leBytes 4 epoch.toNat ++ leBytes 2 pper.toNat, false)
  | .answer _ epoch digest (some f) => some (f, 9, leBytes 4 epoch.toNat ++ leBytes 8 digest.toNat, false)
  | .mismatch f epoch expected => some (f, 0x0A, leBytes 4 epoch.toNat ++ leBytes 8 expected.toNat, true)
  | .paramFrame f id value persist =>
    some (f, 0x0B, leBytes 2 id.toNat ++ leBytes 4 value.toNat ++ [BitVec.ofNat 8 persist.toNat], true)
  | .bankWr f off data => some (f, 0x0C, leBytes 4 off.toNat ++ data, true)
  | .verifyFrame f => some (f, 0x0D, [], true)
  | .switchAt f t epoch => some (f, 0x0E, leBytes 8 t.toNat ++ leBytes 4 epoch.toNat, true)
  | .go f epoch => some (f, 0x0F, leBytes 4 epoch.toNat, true)
  | .cancel f epoch => some (f, 0x10, leBytes 4 epoch.toNat, true)
  | .linkCmdPark f => some (f, 0x11, [1#8], true)
  | .linkCmdFlacon f _ => some (f, 0x11, [2#8], true)
  | .linkCmdRestart f => some (f, 0x11, [3#8], true)
  | .linkCmdSelectStaged f => some (f, 0x11, [4#8], true)
  | .rdFrame f addr len => some (f, 0x12, leBytes 4 addr.toNat ++ leBytes 2 len, true)
  | .wrFrame f addr data => some (f, 0x13, leBytes 4 addr.toNat ++ data, true)
  | .rdata _ addr data (some f) => some (f, 0x14, leBytes 4 addr.toNat ++ data, false)
  | .pdone f dest => some (f, 0x15, [dest], true)
  | _ => none

/-! ## An engine's instruction and a channel's beat -/

/-- The state in which the reads of a command find these errors, in their order. -/
def State.finding (s : State) (errs : List EccErr) : State := { s with evt := { s.evt with eccNext := errs } }

/-- Engine `e` goes on where a source that qualifies ends its wait. -/
def State.awake (s : State) (e : Fin 16) : State :=
  if s.est e = 2 && (s.qualified e).isSome then s.setF (R.ENG_STATUS.STATE e) 1 else s

/-- What engine `e` fetches: the instruction, none where illegal, with its length; none where the fetch takes an
exception. -/
def State.fetchedOp (s : State) (e : Fin 16) (errs : List EccErr) : Option (Option Rv × Nat) :=
  (((s.awake e).finding errs).fetch e).1

/-- The state after that fetch. -/
def State.fetched (s : State) (e : Fin 16) (errs : List EccErr) : State := (((s.awake e).finding errs).fetch e).2

/-- The addresses of the next beat of channel `c` (R234, R235). -/
def State.beatFrom (s : State) (c : Nat) : Nat :=
  ((s.dma c).src.toNat + (if (s.dma c).ctrl.getLsbD 2 then s.fld (R.DMA_CH_STATUS.DONE c) else 0)) % 2 ^ 32
def State.beatTo (s : State) (c : Nat) : Nat :=
  ((s.dma c).dst.toNat + (if (s.dma c).ctrl.getLsbD 3 then s.fld (R.DMA_CH_STATUS.DONE c) else 0)) % 2 ^ 32

/-- The next beat of the DMA is one of channel `c`, its owner `o`, and the owner's MPU permits both its accesses. -/
def State.movesBeat (s : State) (c : Fin 32) (o : Fin 16) : Bool :=
  s.dmaRuns c && decide ((s.dma c).stop = 0) && decide (s.dmaWinner = some c.val) && decide (s.dmaOwner c = some o.val) &&
    s.mpuMay o 1 (s.beatFrom c) (s.dma c).width && s.mpuMay o 2 (s.beatTo c) (s.dma c).width

/-- `n` aligned bytes at `a` lie in the shared SRAM, in a word that is not poisoned. -/
def State.inSram (s : State) (a n : Nat) : Bool :=
  decide (0x20000000 ≤ a) && decide (a + n ≤ 0x20200000) && decide (a % n = 0) &&
    !s.evt.sramBad.at false ((a - 0x20000000) / 8)

/-- `n` aligned bytes at `a` lie in the data TCM of engine `e`, in a word that is not poisoned. -/
def State.inDtcm (s : State) (e a n : Nat) : Bool :=
  decide (0x10000 ≤ a) && decide (a + n ≤ 0x20000) && decide (a % n = 0) && decide (n ≤ 4) &&
    !(s.eng e).dtcmBad.at false ((a - 0x10000) / 4)

/-! ## Which command is which -/

/-- The command code and the message of a command of the two-wire bus (Tables 14.3 and 14.6). -/
def busCode : Instr → Option (Nat × BusMsg)
  | .page m => some (0x00, m)
  | .operation m => some (0x01, m)
  | .clearFaults m => some (0x03, m)
  | .capability m => some (0x19, m)
  | .voutMode m => some (0x20, m)
  | .voutCommand m => some (0x21, m)
  | .voutMax m => some (0x24, m)
  | .voutTransitionRate m => some (0x27, m)
  | .voutMin m => some (0x2B, m)
  | .voutOvFaultLimit m => some (0x40, m)
  | .voutUvFaultLimit m => some (0x44, m)
  | .ioutOcFaultLimit m => some (0x46, m)
  | .statusByte m => some (0x78, m)
  | .statusWord m => some (0x79, m)
  | .statusVout m => some (0x7A, m)
  | .statusIout m => some (0x7B, m)
  | .statusTemperature m => some (0x7D, m)
  | .statusCml m => some (0x7E, m)
  | .statusMfrSpecific m => some (0x80, m)
  | .readVin m => some (0x88, m)
  | .readVout m => some (0x8B, m)
  | .readIout m => some (0x8C, m)
  | .readTemperature1 m => some (0x8D, m)
  | .readTemperature2 m => some (0x8E, m)
  | .pmbusRevision m => some (0x98, m)
  | .mfrId m => some (0x99, m)
  | .mfrModel m => some (0x9A, m)
  | .mfrRevision m => some (0x9B, m)
  | .mfrSerial m => some (0x9E, m)
  | .winAddr m => some (0xD0, m)
  | .winData m => some (0xD1, m)
  | .qRead m => some (0xD2, m)
  | .qStatus m => some (0xD3, m)
  | .latest m => some (0xD9, m)
  | .evtPend m => some (0xDA, m)
  | .fstat m => some (0xDC, m)
  | .wdChal m => some (0xDE, m)
  | .paramStat m => some (0xE1, m)
  | .digest m => some (0xE2, m)
  | .sysInfo m => some (0xE3, m)
  | .railStatus m => some (0xE6, m)
  | .mboxWrite m => some (0xE7, m)
  | .mboxRead m => some (0xE8, m)
  | .snapRead buf m => some (0xD5 + buf.val, m)
  | .snapshotTake .hostBus _ (some m) => some (0xD4, m)
  | .snapshotClear .hostBus _ (some m) => some (0xD4, m)
  | .snapshotTakeClear .hostBus _ (some m) => some (0xD4, m)
  | .hostEventClear _ .hostBus (some m) => some (0xDB, m)
  | .faultAck .hostBus _ (some m) => some (0xDD, m)
  | .wdAnswer .hostBus _ (some m) => some (0xDF, m)
  | .paramWrite .hostBus _ _ _ (some m) => some (0xE0, m)
  | .powerDownToPark .hostBus (some m) => some (0xE4, m)
  | .powerDownToFlacon .hostBus _ (some m) => some (0xE4, m)
  | .railOnRequest .hostBus _ (some m) => some (0xE5, m)
  | .railOffRequest .hostBus _ (some m) => some (0xE5, m)
  | .railClearLatch .hostBus _ (some m) => some (0xE5, m)
  | .restartCommand .hostBus (some m) => some (0xE9, m)
  | _ => none

/-- The bit of SYS_WAKE_CAUSE of a wake source (R57). -/
def wakeBit : Instr → Option Nat
  | .wakeInputWake n => some n.val
  | .linkActivityWake n => some (4 + n.val)
  | .busAddressWake => some 8
  | .svcNWake => some 9
  | .parkAlarmWake => some 10
  | _ => none

/-- SYS_WAKE_CFG enables the source of wake-cause bit `b`. -/
def State.wakeEnabled (s : State) (b : Nat) : Bool :=
  if b < 4 then (s.fld R.SYS_WAKE_CFG.EN_WAKE).testBit b
  else if b < 8 then (s.fld R.SYS_WAKE_CFG.EN_LINK).testBit (b - 4)
  else if b = 8 then s.bit R.SYS_WAKE_CFG.EN_BUS
  else if b = 9 then s.bit R.SYS_WAKE_CFG.EN_SVC
  else s.bit R.SYS_WAKE_CFG.EN_ALARM

/-- The commands that may change a bank, the Ledger or shared SRAM: loss of power, the writers of a bank, the commit of the
Ledger, the masters of the SRAM, the ports and links that read it (a read may find a word that becomes poisoned), a halt
of an engine inside a beat or a store, and a write of any register. -/
def changesMemory : Instr → Bool
  | .uvlo _ | .brownOut _ _ | .bnPor _ | .plleUnlock | .parkEntry _ | .flaconEntry | .longPressEnd _
  | .restartDrained | .engineInstruction _ _ | .sramScrub _ _ _ | .lockstepMismatch _ | .dmaStart _ _ _
  | .dmaBeat _ _ | .commitEnd | .winData _ | .quadWinRead _ _ _ | .quadWinWrite _ _ _ | .quadBankStoreDone | .bankWr _ _ _
  | .rdFrame _ _ _ | .wrFrame _ _ _ | .sequencerRelease | .registerWrite _ _ _ | .parkVinUvloChange _ _ => true
  | _ => false

/-- The commands that may change the running image or the active bank: loss of power and restarts, the load, and a
scheduled switch. -/
def changesImage : Instr → Bool
  | .banksJudged | .uvlo _ | .brownOut _ _ | .bnPor _ | .parkEntry _ | .flaconEntry | .scheduledSwitch
  | .switchRelease | .longPressEnd _ | .restartDrained | .parkVinUvloChange _ _ => true
  | _ => false

/-- The commands that may change the life phase or the stage of the start (Tables 0.3 and 3.3). -/
def changesPhase : Instr → Bool
  | .vinRiseStart | .flaconExit _ | .startBegin | .strapReadingDone _ _ _ | .startLedgerRead
  | .accordLoadStart | .banksJudged | .fabricConfigured | .sequencerRelease | .uvlo _ | .brownOut _ _
  | .brownOutRestart | .bnPor _ | .powerDownToPark _ _ | .powerDownToFlacon _ _ _ | .parkEntry _ | .flaconEntry
  | .wakeInputWake _ | .busAddressWake | .linkActivityWake _ | .svcNWake | .parkAlarmWake | .longPressEnd _
  | .graceExpiry _ | .immediateEscalation _ | .restartDrained | .engineInstruction _ _ | .dmaBeat _ _
  | .winData _ | .quadWinWrite _ _ _ | .linkCmdPark _ | .linkCmdFlacon _ _ | .wrFrame _ _ _ | .orphanPark
  | .registerWrite _ _ _ | .topNoteDomainUp | .parkVinUvloChange _ _ => true
  | _ => false

end Sys2Proof.Machine
end

