-- ==== Sys2Proof/Certificates/Slice0/Obligations.lean ====
section
/-! DEFINITION.  The statements for the provers.  Each names the rules or the sections of the spec it rests on; a clause that
rests on a choice of the model names its log entry. -/

open Sys2Proof Sys2Proof.Machine

/-- A step runs the command at the front of the queue.  For every command c and every state s whose queue is c
followed by r, step s is exec c on s with the queue r.  (spec/00_scope.md, spec/95_what_each_step_holds.md.) -/
def Obligations.StepTakesFrontCommand : Prop :=
  ∀ (c : Instr) (r : List Instr) (s : State), s.pending = c :: r → step s = exec c { s with pending := r }

/-- On an empty queue a step is a tick of time.  With no command waiting, a step answers a next state that differs
in the clock alone: unchanged while the device is unpowered or in the flacon, one base-note period later in
park, else one period of the clock that drives the block: 2.5 ns with PLL_E in lock, 10 ns without. That time
moves on an empty queue is the model's choice (log entry 2).  (spec/03_supplies_park.md.) -/
def Obligations.EmptyQueueTicks : Prop :=
  ∀ s : State, s.pending = [] → ∃ t, step s = .next t ∧ Frame [.clock] s t ∧
    t.clock = s.clock + (match s.sys.phase with
      | .unpowered => 0
      | .flacon => 0
      | .park => 2 * s.sys.bnoPeriod
      | _ => if s.sys.pllE = .locked ∨ s.sys.pllE = .reconfiguring then 5 else 20)

/-- The state at reset.  At reset the device is unpowered with an empty queue and no time passed; every register
reads its reset value; the banks are blank, no image is loaded, the trace and the shared SRAM list nothing; and
the registers, the Ledger array, the shared SRAM, the two banks and the timers have their canonical form. The
reset words that no table of the spec gives are the model's (log entry 1).  (spec/03_supplies_park.md,
spec/01_accord.md, spec/00_scope.md.) -/
def Obligations.ResetIsAnUnpoweredDevice : Prop :=
  State.reset.sys.phase = .unpowered ∧ State.reset.pending = [] ∧ State.reset.clock = 0 ∧
  (∀ k, State.reset.reg k = resetWord k) ∧ (∀ b o n, State.reset.bankRead b o n = List.replicate n 0#8) ∧
  State.reset.acrd.image = none ∧ State.reset.trace = [] ∧ State.reset.evt.sram = [] ∧ State.reset.memWf = true

/-- Every command completes in every state.  No command of the table ends in a fault or a refusal: from every state
it answers a next state. A command that the spec refuses, ignores or reports as an error completes with that
effect.  (spec/00_scope.md, spec/95_what_each_step_holds.md.) -/
def Obligations.NoCommandStops : Prop :=
  ∀ (c : Instr) (s : State), Runs c s

/-- Every step keeps the canonical form of the registers, the Ledger array, the SRAM, the banks and the timers.  If
the registers, the Ledger array, the shared SRAM, the two banks and the timers are in canonical form (rising
keys, no entry equal to what an unlisted key reads as), they are so after any step, whatever the command. Hence
equal contents of these six tables are equal data after every run.  (spec/00_scope.md, spec/13_ledger.md,
spec/12_engines.md.) -/
def Obligations.MemoryStaysCanonical : Prop :=
  ∀ s t : State, s.memWf = true → step s = .next t → t.memWf = true

/-- Only the listed commands change a bank, the Ledger or shared SRAM.  Every command that changesMemory does not
list leaves every byte of both banks, every word of the Ledger array and its poison, and every word of shared
SRAM and its poison as they were. The list holds the loss of power, the writers of a bank, the commit of the
Ledger, the masters of the SRAM and the ports and links that read it, the halt of an engine and the write of a
register.  (spec/01_accord.md, spec/12_engines.md, spec/13_ledger.md.) -/
def Obligations.MemoryChangesOnlyByItsWriters : Prop :=
  ∀ (c : Instr) (s t : State), changesMemory c = false → exec c s = .next t →
    (∀ b o n, t.bankRead b o n = s.bankRead b o n) ∧ t.ledg.array = s.ledg.array ∧ t.ledg.poison = s.ledg.poison ∧
    t.evt.sram = s.evt.sram ∧ t.evt.sramBad = s.evt.sramBad

/-- Only the listed commands change the running image.  Every command that changesImage does not list leaves the
running image and the active bank as they were. The list holds the loss of power and restarts, the load, and the
begin and the release of a scheduled switch.  (spec/01_accord.md, spec/03_supplies_park.md.) -/
def Obligations.ImageChangesOnlyByItsWriters : Prop :=
  ∀ (c : Instr) (s t : State), changesImage c = false → exec c s = .next t →
    t.acrd.image = s.acrd.image ∧ t.acrd.active = s.acrd.active

/-- Only the listed commands change the life phase or the stage of a start.  Every command that changesPhase does
not list leaves the life phase of Table 0.3 and the stage of Table 3.3 as they were.  (spec/03_supplies_park.md,
spec/11_faults.md.) -/
def Obligations.PhaseChangesOnlyByItsWriters : Prop :=
  ∀ (c : Instr) (s t : State), changesPhase c = false → exec c s = .next t →
    t.sys.phase = s.sys.phase ∧ t.sys.stage = s.sys.stage

/-- No command changes the queue of waiting commands.  Whatever a command does, the commands that wait behind it are
the same, in the same order.  (spec/00_scope.md.) -/
def Obligations.CommandsLeaveTheQueue : Prop :=
  ∀ (c : Instr) (s t : State), exec c s = .next t → t.pending = s.pending

/-- No step turns the clock or the index of free values back.  After any step the clock is at or after where it was,
and the index of the free values is at or after where it was. The index is the model's own field (log entry 7).
(spec/03_supplies_park.md, spec/00_scope.md.) -/
def Obligations.TimeNeverGoesBack : Prop :=
  ∀ s t : State, step s = .next t → s.clock ≤ t.clock ∧ s.freeCount ≤ t.freeCount

/-- A bus command that is not permitted is refused at its code byte.  For every command of the two-wire bus, the
rows of other blocks in their two-wire form among them: while the device answers on the bus and the permissions
do not open the code for the direction, the code byte is refused with STATUS_CML bit 7 and nothing else changes;
while the device does not answer, nothing changes at all. CLEAR_FAULTS, which sends no data, needs the read
permission (log entry 107). And what a request does that is denied by any other way: one of the two-wire bus is
refused with STATUS_CML bit 7, one of the quad port is answered with status 0x03 and counted in QP_CNT.REF, each
while its port is on, and one of an engine or the link changes nothing here.  (spec/14_host_bus.md.) -/
def Obligations.UnpermittedBusCommandRefused : Prop :=
  (∀ (c : Instr) (code : Nat) (m : BusMsg) (s : State), busCode c = some (code, m) → s.busOn = true →
    s.codeMay code (!m.read && decide (code ≠ 3)) = false →
    exec c s = .next (s.refuse 0x80 false) ∧ Frame [.regs, .host] s (s.refuse 0x80 false) ∧
      RegsOnly [R.HOST_STATUS.reg] s (s.refuse 0x80 false)) ∧
  (∀ (c : Instr) (code : Nat) (m : BusMsg) (s : State), busCode c = some (code, m) → s.busOn = false →
    exec c s = .next s) ∧
  (∀ (write : Bool) (s : State), (s.busOn = true → s.denied .hostBus write = s.refuse 0x80 false) ∧
    (s.busOn = false → s.denied .hostBus write = s)) ∧
  (∀ (write : Bool) (s : State), s.quadOn = true →
    (s.denied .quad write).fld R.QP_STATUS.LAST = 3 ∧ Counts R.QP_CNT.REF s (s.denied .quad write) ∧
    (s.denied .quad write).host.quadData = [3#8] ∧ Frame (.host :: notes) s (s.denied .quad write) ∧
    RegsOnly [R.QP_STATUS.reg, R.QP_CNT.reg] s (s.denied .quad write)) ∧
  (∀ (write : Bool) (s : State), s.quadOn = false → s.denied .quad write = s) ∧
  (∀ (e : Fin 16) (write : Bool) (s : State), s.denied (.engine e) write = s ∧ s.denied .link write = s)

/-- The watchdog counts good answers, bad answers, time-outs and expiries.  Each bad write and each time-out
increments SUP_WD_STATUS.ERRCNT, and each good service decrements it by 1, not below 0. SUP_WD_CNT counts bad
writes, time-outs and expiries separately: a bad write counts BAD only, a time-out TOUT only, and either one
that reaches the error limit also counts EXPC, with ERRCNT then 0 as the expiry leaves it.  (R163.) -/
def Obligations.WatchdogErrorsCount : Prop :=
  (∀ (r : Req) (ans : BitVec 16) (s : State), (r = .hostBus ∨ r = .quad) →
      s.may r R.SUP_WD_ANS.reg true (some 0xDF) = true →
      (s.fld R.SUP_WD_STATUS.STATE = 2 ∨ s.fld R.SUP_WD_STATUS.STATE = 4) → ans.toNat = s.wdExpected →
      Does (.wdAnswer r ans) s (fun t =>
      t.fld R.SUP_WD_STATUS.ERRCNT = s.fld R.SUP_WD_STATUS.ERRCNT - 1 ∧
      t.fld R.SUP_WD_CNT.BAD = s.fld R.SUP_WD_CNT.BAD ∧ t.fld R.SUP_WD_CNT.TOUT = s.fld R.SUP_WD_CNT.TOUT ∧
      t.fld R.SUP_WD_CNT.EXPC = s.fld R.SUP_WD_CNT.EXPC ∧ Frame (.seq :: .sup :: .link :: notes) s t ∧
      RegsIn [B.evt, B.host, B.link, B.sup] s t)) ∧
  (∀ (r : Req) (ans : BitVec 16) (s : State), (r = .hostBus ∨ r = .quad) →
      s.may r R.SUP_WD_ANS.reg true (some 0xDF) = true →
      (s.fld R.SUP_WD_STATUS.STATE = 3 ∨ (s.fld R.SUP_WD_STATUS.STATE = 2 ∨ s.fld R.SUP_WD_STATUS.STATE = 4) ∧ ans.toNat ≠ s.wdExpected) →
      s.fld R.SUP_WD_STATUS.ERRCNT + 1 < max 1 (s.sup.wdCfg.field 24 3) → Does (.wdAnswer r ans) s (fun t =>
      t.fld R.SUP_WD_STATUS.ERRCNT = s.fld R.SUP_WD_STATUS.ERRCNT + 1 ∧ Counts R.SUP_WD_CNT.BAD s t ∧
      t.fld R.SUP_WD_CNT.TOUT = s.fld R.SUP_WD_CNT.TOUT ∧ t.fld R.SUP_WD_CNT.EXPC = s.fld R.SUP_WD_CNT.EXPC ∧
      Frame (.seq :: .sup :: .link :: notes) s t ∧ RegsIn [B.evt, B.host, B.link, B.sup] s t)) ∧
  (∀ (r : Req) (ans : BitVec 16) (s : State), (r = .hostBus ∨ r = .quad) →
      s.may r R.SUP_WD_ANS.reg true (some 0xDF) = true →
      (s.fld R.SUP_WD_STATUS.STATE = 3 ∨ (s.fld R.SUP_WD_STATUS.STATE = 2 ∨ s.fld R.SUP_WD_STATUS.STATE = 4) ∧ ans.toNat ≠ s.wdExpected) →
      max 1 (s.sup.wdCfg.field 24 3) ≤ s.fld R.SUP_WD_STATUS.ERRCNT + 1 → Does (.wdAnswer r ans) s (fun t =>
      t.fld R.SUP_WD_STATUS.ERRCNT = 0 ∧ Counts R.SUP_WD_CNT.BAD s t ∧ Counts R.SUP_WD_CNT.EXPC s t ∧
      t.fld R.SUP_WD_CNT.TOUT = s.fld R.SUP_WD_CNT.TOUT ∧ Frame (.seq :: .sup :: .link :: notes) s t ∧
      RegsIn [B.evt, B.host, B.link, B.sup] s t)) ∧
  (∀ (s : State), (s.fld R.SUP_WD_STATUS.STATE = 2 ∨ s.fld R.SUP_WD_STATUS.STATE = 4) → s.runs T.wd = true →
      s.fld R.SUP_WD_STATUS.ERRCNT + 1 < max 1 (s.sup.wdCfg.field 24 3) → Does .wdTimeout s (fun t =>
      t.fld R.SUP_WD_STATUS.ERRCNT = s.fld R.SUP_WD_STATUS.ERRCNT + 1 ∧ Counts R.SUP_WD_CNT.TOUT s t ∧
      t.fld R.SUP_WD_CNT.BAD = s.fld R.SUP_WD_CNT.BAD ∧ t.fld R.SUP_WD_CNT.EXPC = s.fld R.SUP_WD_CNT.EXPC ∧
      Frame (.clock :: .seq :: .sup :: .link :: notes) s t ∧ RegsIn [B.sup] s t)) ∧
  (∀ (s : State), (s.fld R.SUP_WD_STATUS.STATE = 2 ∨ s.fld R.SUP_WD_STATUS.STATE = 4) → s.runs T.wd = true →
      max 1 (s.sup.wdCfg.field 24 3) ≤ s.fld R.SUP_WD_STATUS.ERRCNT + 1 → Does .wdTimeout s (fun t =>
      t.fld R.SUP_WD_STATUS.ERRCNT = 0 ∧ Counts R.SUP_WD_CNT.TOUT s t ∧ Counts R.SUP_WD_CNT.EXPC s t ∧
      t.fld R.SUP_WD_CNT.BAD = s.fld R.SUP_WD_CNT.BAD ∧ Frame (.clock :: .seq :: .sup :: .link :: notes) s t ∧
      RegsIn [B.sup] s t))

/-- A fault injection raises its source through the collector and leaves the block alone.  In FACTORY and RETURN,
FAULT_INJECT and a write of FLT_INJ with KEY 0x4E raise the source SRC through the collector's whole path (the
operation that every raise uses) with sillage code 5; no loop changes state and no phase is lost. In every other
life-cycle state the write is ignored and FLT_STATUS.INJ_REF is set. A write with another KEY injects nothing
(from the bus it notes only the time of the host write). Of the model's choices: the raise of a loop source
carries the cause now in LOOP_STATUS.CAUSE (log entry 86), and a command from the host leaves HOST_LAST_TS and
the bus trace under code D1 (log entries 114 and 155).  (spec/11_faults.md, spec/14_host_bus.md.) -/
def Obligations.FaultInjectionRaisesOnlyTheSource : Prop :=
  (∀ (r : Req) (n : Fin 64) (s : State), s.may r R.FLT_INJ.reg true none = true →
      (s.fld R.SYS_STATUS.LC = 1 ∨ s.fld R.SYS_STATUS.LC = 4) → Does (.faultInject r n) s (fun t =>
      t = (s.raiseWith n.val (s.loopCauseOf n.val) 5 s.powerDown).hostWrite r 0xD1 n.val ∧
      (s.flt.collecting = true → t.fstat.getLsbD n.val = true) ∧
      (∀ k, k < 64 → k ≠ n.val → k ≠ 50 → t.fstat.getLsbD k = s.fstat.getLsbD k) ∧ t.loops = s.loops ∧
      t.phases = s.phases ∧ (∀ k, k < 24 → t.lstate k = s.lstate k) ∧
      (∀ k, k < 48 → t.fld (R.PH_STATUS.STATE k) = s.fld (R.PH_STATUS.STATE k)))) ∧
  (∀ (r : Req) (n : Fin 64) (s : State), s.may r R.FLT_INJ.reg true none = true → s.fld R.SYS_STATUS.LC ≠ 1 →
      s.fld R.SYS_STATUS.LC ≠ 4 → Does (.faultInject r n) s (fun t =>
      t = (s.setB R.FLT_STATUS.INJ_REF true).hostWrite r 0xD1 n.val ∧ t.bit R.FLT_STATUS.INJ_REF = true ∧
      t.fstat = s.fstat)) ∧
  (∀ (r : Req) (w : Word) (s : State), s.topOn = true → s.may r R.FLT_INJ.reg true none = true →
      (s.fld R.SYS_STATUS.LC = 1 ∨ s.fld R.SYS_STATUS.LC = 4) → w.field 24 8 = 0x4E →
      Does (.registerWrite r 0x40070050#32 w) s (fun t =>
      t = (s.raiseWith (w.field 0 6) (s.loopCauseOf (w.field 0 6)) 5 s.powerDown).hostWrite r 0xD1 w.toNat ∧
      (s.flt.collecting = true → t.fstat.getLsbD (w.field 0 6) = true) ∧
      (∀ k, k < 64 → k ≠ (w.field 0 6) → k ≠ 50 → t.fstat.getLsbD k = s.fstat.getLsbD k) ∧ t.loops = s.loops ∧
      t.phases = s.phases ∧ (∀ k, k < 24 → t.lstate k = s.lstate k) ∧
      (∀ k, k < 48 → t.fld (R.PH_STATUS.STATE k) = s.fld (R.PH_STATUS.STATE k)))) ∧
  (∀ (r : Req) (w : Word) (s : State), s.topOn = true → s.may r R.FLT_INJ.reg true none = true →
      s.fld R.SYS_STATUS.LC ≠ 1 → s.fld R.SYS_STATUS.LC ≠ 4 → w.field 24 8 = 0x4E →
      Does (.registerWrite r 0x40070050#32 w) s (fun t =>
      t = (s.setB R.FLT_STATUS.INJ_REF true).hostWrite r 0xD1 w.toNat ∧ t.bit R.FLT_STATUS.INJ_REF = true ∧
      t.fstat = s.fstat)) ∧
  (∀ (r : Req) (w : Word) (s : State), (s.topOn = false ∨ s.may r R.FLT_INJ.reg true none = true) →
      w.field 24 8 ≠ 0x4E → r ≠ .hostBus → Does (.registerWrite r 0x40070050#32 w) s (fun t =>
      t = s)) ∧
  (∀ (r : Req) (w : Word) (s : State), s.topOn = true → s.may r R.FLT_INJ.reg true none = true →
      w.field 24 8 ≠ 0x4E → Does (.registerWrite r 0x40070050#32 w) s (fun t =>
      t = s.hostWrite r 0xD1 w.toNat ∧ t.fstat = s.fstat))

/-- An abandoned bus transaction counts, raises FS_57 and applies nothing.  A repeated START or a STOP inside a byte
abandons the transaction: HOST_CNT.PROTO increments, FS_57 is raised, no other register changes but the
collector's, the window and the status bytes stay as they were, and the device goes on answering on the bus.
(R267.) -/
def Obligations.AbandonedTransactionAppliesNothing : Prop :=
  (∀ (s : State), s.busOn = true → Does .busTransactionAbandon s (fun t =>
      Counts R.HOST_CNT.PROTO s t ∧ Raises 57 s t ∧ Frame notes s t ∧ RegsOnly [R.HOST_CNT.reg] s t ∧
      t.busOn = true ∧ t.host.winAddr = s.host.winAddr ∧ t.host.winLen = s.host.winLen ∧ t.host.pm = s.host.pm))

/-- The lock never refuses a set-point command of the fabric.  A fabric set-point command is accepted exactly when
the other conditions of R73 hold, whatever LOOP_LOCK says; when its line rises in an accepted case the target
follows LOOP_FSET (at once in OFF or STOP, else at the next slew tick), and LOOP_LOCK with its owner is
unchanged.  (R77.) -/
def Obligations.LockNeverRefusesTheFabric : Prop :=
  (∀ (n : Fin 24) (v : Nat) (s : State), s.refusal n .fabric v = none ↔
    1024 ≤ v ∧ v ≤ 22528 ∧ s.fld (R.LOOP_VLIM.VMIN n) ≤ v ∧ v ≤ s.fld (R.LOOP_VLIM.VMAX n) ∧ s.lstate n ≠ L.fault) ∧
  (∀ (n : Fin 24) (k : Nat) (s : State), s.driver (192 + n.val) = some k → s.tileRuns k = true →
      s.linesHeld = false → s.acrd.act.getLsbD (192 + n) = false → s.sys.phase ≠ .safe →
      s.sys.stage = .released → s.refusal n .fabric (s.fld (R.LOOP_FSET.TARGET n)) = none →
      (s.lstate n = L.off ∨ s.lbase n = L.stop) → Does (.fabricSetpointCommand n true) s (fun t =>
      t.target n = s.fld (R.LOOP_FSET.TARGET n) ∧ t.reg (R.LOOP_LOCK.reg n) = s.reg (R.LOOP_LOCK.reg n))) ∧
  (∀ (n : Fin 24) (k : Nat) (s : State), s.driver (192 + n.val) = some k → s.tileRuns k = true →
      s.linesHeld = false → s.acrd.act.getLsbD (192 + n) = false → s.sys.phase ≠ .safe →
      s.sys.stage = .released → s.refusal n .fabric (s.fld (R.LOOP_FSET.TARGET n)) = none →
      s.lstate n ≠ L.off → s.lbase n ≠ L.stop → Does (.fabricSetpointCommand n true) s (fun t =>
      (t.loop n).queued = enqueueCmd ⟨srcRank .fabric, s.fld (R.LOOP_FSET.TARGET n), slewCode (s.fld (R.LOOP_SLEW.RATE n))⟩ (s.loop n).queued ∧
      t.reg (R.LOOP_LOCK.reg n) = s.reg (R.LOOP_LOCK.reg n)))

/-- Only enabled sources wake the device, from t2, with their bits.  A wake source that SYS_WAKE_CFG enables starts
a parked device with exactly its bit in SYS_WAKE_CAUSE, and the start then begins at stage t2 of Table 3.3 (the
straps are already read); a source that is not enabled does nothing. That a further enabled source adds its bit
as long as the start it caused has not begun is the model's choice (log entry 31; R57 says within one base-note
tick), and so is it that the park alarm carries time to its alarm and counts among the sources once that has
come (log entry 32).  (spec/03_supplies_park.md.) -/
def Obligations.OnlyEnabledSourcesWake : Prop :=
  (∀ (c : Instr) (b : Nat) (s : State), wakeBit c = some b → s.wakeEnabled b = true → s.sys.phase = .park →
    Does c s (fun t => t.sys.phase = .start ∧ t.sys.stage = .off ∧ t.reg R.SYS_WAKE_CAUSE.reg = BitVec.ofNat 32 (2 ^ b) ∧
      (s.sys.address ≠ none → Does .startBegin t (fun u => u.sys.phase = .start ∧ u.sys.stage = .t2)))) ∧
  (∀ (c : Instr) (b : Nat) (s : State), wakeBit c = some b → s.wakeEnabled b = false → exec c s = .next s) ∧
  (∀ (c : Instr) (b : Nat) (s : State), wakeBit c = some b → s.wakeEnabled b = true → s.sys.phase = .start →
    s.sys.stage = .off → s.sys.nextCause.testBit 5 = true →
    (c = .parkAlarmWake → (s.parkAlarm : Int) - s.htOfs ≤ s.ns) →
    Does c s (fun t => t.reg R.SYS_WAKE_CAUSE.reg = s.reg R.SYS_WAKE_CAUSE.reg ||| BitVec.ofNat 32 (2 ^ b) ∧ Frame [.regs] s t))

/-- A switch with rails up needs an equal TOPO_SIG, and an open switch refuses parameter and bank writes.  With
rails up and a staged TOPO_SIG that differs, SWITCH_AT is refused by acknowledgement and ARM leaves no switch
open; a switch is taken only with an equal signature or with every rail down. While a switch is acknowledged or
under way, every parameter write answers a refusal and changes nothing, and no command but the completion of a
bank frame that was taken before changes a byte of a bank.  (R30.) -/
def Obligations.SwitchNeedsEqualTopology : Prop :=
  (∀ (f : FrameId) (tm : BitVec 64) (epoch : Word) (s : State), s.obeys f = true →
      s.bit R.ACRD_STATUS.STAGED_OK = true → s.topoEq = false → (s.railsOn.all s.railDown) = false →
      Does (.switchAt f tm epoch) s (fun t =>
      t.ackResult f = some 1#8 ∧ t.bit R.ACRD_STATUS.SWITCH_PEND = s.bit R.ACRD_STATUS.SWITCH_PEND ∧
      t.acrd = s.acrd ∧ t.link.swT = s.link.swT ∧ Frame [.link] s t)) ∧
  (∀ (r : Req) (s : State), s.may r R.LINK_SW_CMD.reg true none = true → s.manager = true →
      s.bit R.ACRD_STATUS.STAGED_OK = true → s.topoEq = false → (s.railsOn.all s.railDown) = false →
      Does (.switchArm r) s (fun t =>
      t.bit R.ACRD_STATUS.SWITCH_PEND = s.bit R.ACRD_STATUS.SWITCH_PEND ∧ t.acrd = s.acrd ∧
      t.link.swT = s.link.swT ∧ Frame (.loops :: .seq :: .link :: notes) s t ∧
      RegsIn [B.acrd, B.evt, B.host, B.link, B.loop] s t)) ∧
  (∀ (tm : BitVec 64) (s : State), s.switchCause tm = 0 → s.topoEq = true ∨ (s.railsOn.all s.railDown) = true) ∧
  (∀ (c : Instr) (s t : State), (s.bit R.ACRD_STATUS.SWITCH_PEND = true ∨ s.acrd.switching = true) → c ≠ .quadBankStoreDone →
    exec c s = .next t → t.acrd.bankA = s.acrd.bankA ∧ t.acrd.bankB = s.acrd.bankB) ∧
  (∀ (r : Req) (id : Nat) (v : Word) (persist : Bool) (s : State),
    (s.bit R.ACRD_STATUS.SWITCH_PEND = true ∨ s.acrd.switching = true) →
    ((s.paramWrite r id v persist).1 = 6 ∨ (s.paramWrite r id v persist).1 = 7) ∧ (s.paramWrite r id v persist).2 = s) ∧
  (∀ (r : Req) (id : BitVec 12) (v : Word) (persist : Bool) (s : State),
      s.may r 0x400D0034 true (some 0xE0) = true →
      (s.bit R.ACRD_STATUS.SWITCH_PEND = true ∨ s.acrd.switching = true) →
      Does (.paramWrite r id v persist) s (fun t =>
      (t.fld (R.ACRD_PARAM_STAT.RESULT (reqCode r)) = 6 ∨ t.fld (R.ACRD_PARAM_STAT.RESULT (reqCode r)) = 7) ∧
      t.acrd = s.acrd ∧ Frame notes s t ∧
      RegsOnly [R.ACRD_PARAM_STAT.reg (reqCode r), R.ACRD_PARAM_VAL.reg (reqCode r), R.HOST_LAST_TS_LO.reg, R.HOST_LAST_TS_HI.reg] s t))

/-- Claim, completion and pending sources of an engine.  The source to claim is the pending one of the highest level
above EIC_THR and the running level, the lowest number among equals; a claim clears its pending bit, makes its
level the running level and returns it, or 0x1FF with no change when none qualifies; completing the claimed
source pops it and completing another sets EIC_STATUS.BADCOMP; an occurrence sets the pending bit and merges
with one already pending; and the engine is interrupted exactly when MIE is 1 and a source qualifies, with
mcause 0x8000000B, which is the model's choice (log entry 90).  (spec/12_engines.md.) -/
def Obligations.InterruptPriority : Prop :=
  (∀ (e : Fin 16) (l : Nat) (s : State), s.qualified e = some l ↔
    l < 256 ∧ s.bitAt (R.EIC_PEND.reg e) l = true ∧ max (s.fld (R.EIC_THR.THR e)) (s.runLevel e) < s.lsLevel e l ∧
    ∀ j, j < 256 → s.bitAt (R.EIC_PEND.reg e) j = true → max (s.fld (R.EIC_THR.THR e)) (s.runLevel e) < s.lsLevel e j →
      s.lsLevel e j < s.lsLevel e l ∨ s.lsLevel e j = s.lsLevel e l ∧ l ≤ j) ∧
  (∀ (e : Fin 16) (l : Fin 256) (s : State), s.engRuns e = true →
    (s.localSource e l).bitAt (R.EIC_PEND.reg e) l = true ∧
    (s.bitAt (R.EIC_PEND.reg e) l = true → ∀ k, (s.localSource e l).reg k = s.reg k)) ∧
  (∀ (e : Fin 16) (s : State), s.qualified e = none → s.claim e = (0x1FF#32, s)) ∧
  (∀ (e : Fin 16) (l : Nat) (s : State), s.qualified e = some l → (s.claim e).1.field 0 9 = l) ∧
  (∀ (e : Fin 16) (l : Nat) (s : State), s.engRuns e = true → s.qualified e = some l →
      Does (.eicClaim e) s (fun t =>
      t = (s.claim e).2 ∧ t.runLevel e = s.lsLevel e l ∧ t.bitAt (R.EIC_PEND.reg e) l = false ∧
      (∀ j, j < 256 → j ≠ l → t.bitAt (R.EIC_PEND.reg e) j = s.bitAt (R.EIC_PEND.reg e) j))) ∧
  (∀ (e : Fin 16) (src : Byte) (lv : Nat) (rest : List (Nat × Nat)) (s : State), s.engRuns e = true →
      (s.eng e).claims = (src.toNat, lv) :: rest → Does (.eicComplete e src) s (fun t =>
      (t.eng e).claims = rest ∧ Frame [.regs, .timers, .evt, .link] s t ∧ RegsIn [B.evt] s t)) ∧
  (∀ (e : Fin 16) (src : Byte) (s : State), s.engRuns e = true →
      ((s.eng e).claims.head?.map Prod.fst) ≠ some src.toNat → Does (.eicComplete e src) s (fun t =>
      t.bit (R.EIC_STATUS.BADCOMP e) = true ∧ t.evt = s.evt ∧ Frame [.regs] s t ∧
      RegsOnly [R.EIC_STATUS.reg e] s t)) ∧
  (∀ (e : Fin 16) (s : State), s.engRuns e = true → (s.eng e).mie = true → (s.qualified e).isSome = true →
      Does (.interruptTaken e) s (fun t =>
      (t.eng e).mepc = (s.eng e).pc ∧ (t.eng e).mcause = 0x8000000B#32 ∧ (t.eng e).mie = false ∧
      Frame [.regs, .evt] s t ∧ RegsIn [B.evt] s t)) ∧
  (∀ (e : Fin 16) (s : State), ((s.eng e).mie = false ∨ s.qualified e = none) →
      exec (.interruptTaken e) s = .next s)

/-- The slew step and the number of ticks a change takes.  The step of a tick is the rate times 100 ns rounded to
the nearest 2^-24 V. Repeated steps toward a target reach it after k ticks exactly when the distance is at most
k steps, so a change takes the distance divided by the step, rounded up, ticks, and never passes the target. A
slew tick of a moving loop makes that step, and the next is due 100 ns later.  (spec/04_loop_array.md.) -/
def Obligations.SlewReachesItsTarget : Prop :=
  (∀ code : Nat, 2 * (code * 5 * 2 ^ 24) ≤ 2 * (slewStep code * 10 ^ 6) + 10 ^ 6 ∧ 2 * (slewStep code * 10 ^ 6) ≤ 2 * (code * 5 * 2 ^ 24) + 10 ^ 6) ∧
  (∀ a b d k : Nat, 0 < d → ((fun r => stepToward r b d)^[k] a = b ↔ max a b - min a b ≤ k * d)) ∧
  (∀ (n : Fin 24) (s : State), s.lstate n ≠ L.fault → s.lstate n ≠ L.off → (s.loop n).clkHeld = false →
      s.lbase n ≠ L.start → s.lbase n ≠ L.stop → (s.loop n).moving = true → (s.loop n).queued = [] →
      s.fld (R.SV_STATUS.STATE n) = 0 → (s.loop n).forecast = none → Does (.slewTick n) s (fun t =>
      (t.loop n).ref = stepToward (s.loop n).ref (s.target n * 4096) (slewStep (s.loop n).rate) ∧
      t.deadline (T.slew n) = some (t.ns + 100)))

/-- What the commands that may set off a whole reaction leave alone.  One clause for each of the commands that may
stop loops, rails and groups, run the action lines, or write any register: START_BEGIN, SEQUENCER_RELEASE,
PLLE_UNLOCK, PLLE_RECONFIG_DONE, POWER_DOWN_TO_PARK, POWER_DOWN_TO_FLACON, BANKS_JUDGED, FABRIC_CONFIGURED,
PARAM_WRITE, SCRUB_FRAME_READ, FABRIC_GROUP_SHUTDOWN, FABRIC_URGENT_REQUEST, FABRIC_FS63_RAISE,
FABRIC_RSTO_ASSERT, FABRIC_SETPOINT_COMMAND, FABRIC_EVENT_RAISE, FABRIC_SNAPSHOT_REQUEST, SCHEDULED_SWITCH,
SWITCH_RELEASE, LONG_PRESS, SLEW_TICK, TELEMETRY_UPDATE, LOOP_OVERVOLTAGE, LOOP_UNDERVOLTAGE, LOOP_OC_FAULT,
PHASE_OPEN, PHASE_STAGE_FAULT, STAGE_BLANK_END, PHASE_HOT, PLLP_RELOCK, PLLP_UNLOCK_TIMEOUT, RAIL_START_TIMEOUT,
RAIL_CHATTER_LIMIT, RAIL_DISCHARGE_TIMEOUT, SEQUENCER_TICK, MON_FILTER_EXPIRY, GRACE_EXPIRY,
IMMEDIATE_ESCALATION, DMA_BEAT, ENGINE_INSTRUCTION, REGISTER_WRITE, PARAM_FRAME, LINK_CMD_PARK, LINK_CMD_FLACON,
WR_FRAME, ORPHAN_PARK, DRYDOWN_CHECKS_DONE, BIST_RUN_DRYDOWN, QUAD_WIN_WRITE and WIN_DATA. Each completes and
changes no part of the state but those its clause lists. Where the clause lists register blocks too, it changes
no registers outside them and those of the collector and the records; the clauses of SEQUENCER_RELEASE,
BANKS_JUDGED, FABRIC_CONFIGURED, PARAM_WRITE, SCHEDULED_SWITCH, SWITCH_RELEASE, SEQUENCER_TICK, GRACE_EXPIRY,
IMMEDIATE_ESCALATION, DMA_BEAT, ENGINE_INSTRUCTION, REGISTER_WRITE, PARAM_FRAME, WR_FRAME, QUAD_WIN_WRITE and
WIN_DATA list none, since a parameter, an image or a window may reach any block.  (spec/01_accord.md,
spec/03_supplies_park.md, spec/04_loop_array.md, spec/05_phase_ports.md, spec/07_sequencer.md,
spec/08_supervisors.md, spec/11_faults.md, spec/12_engines.md, spec/14_host_bus.md, spec/15_hierarchy.md,
spec/16_drydown.md.) -/
def Obligations.FaultReactionsLeaveOtherUnits : Prop :=
  (∀ (s : State), Does .startBegin s (fun t =>
      Frame (.clock :: .freeCount :: .sys :: .phases :: .seq :: .link :: notes) s t ∧
      RegsIn [B.evt, B.ledg, B.link, B.phase, B.sys] s t)) ∧
  (∀ (s : State), Does .sequencerRelease s (fun t =>
      Frame (.clock :: .freeCount :: .sys :: .acrd :: .loops :: .phases :: .rails :: .groups :: .seq :: .sup :: .path :: .meas :: .link :: notes) s t)) ∧
  (∀ (s : State), Does .plleUnlock s (fun t =>
      Frame (.sys :: .acrd :: .loops :: .rails :: .groups :: .seq :: .sup :: .meas :: .link :: notes) s t ∧
      RegsIn [B.bist, B.evt, B.link, B.loop, B.meas, B.seq, B.sup, B.sys] s t)) ∧
  (∀ (s : State), Does .plleReconfigDone s (fun t =>
      Frame (.clock :: .sys :: .acrd :: .loops :: .rails :: .groups :: .seq :: .sup :: .meas :: .link :: notes) s t ∧
      RegsIn [B.acrd, B.bist, B.loop, B.meas, B.seq, B.sup] s t)) ∧
  (∀ (r : Req) (m : Option BusMsg) (s : State), Does (.powerDownToPark r m) s (fun t =>
      Frame (.sys :: .rails :: .groups :: .seq :: .link :: notes) s t ∧
      RegsIn [B.evt, B.host, B.ledg, B.link, B.seq, B.sup, B.sys] s t)) ∧
  (∀ (r : Req) (v : Bool) (m : Option BusMsg) (s : State), Does (.powerDownToFlacon r v m) s (fun t =>
      Frame (.sys :: .rails :: .groups :: .seq :: .link :: notes) s t ∧
      RegsIn [B.evt, B.host, B.ledg, B.link, B.seq, B.sup, B.sys] s t)) ∧
  (∀ (s : State), Does .banksJudged s (fun t =>
      Frame (.clock :: .sys :: .acrd :: .seq :: .link :: notes) s t)) ∧
  (∀ (s : State), Does .fabricConfigured s (fun t =>
      Frame (.clock :: .freeCount :: .sys :: .acrd :: .loops :: .phases :: .rails :: .groups :: .seq :: .sup :: .path :: .meas :: .link :: notes) s t)) ∧
  (∀ (r : Req) (id : BitVec 12) (v : Word) (persist : Bool) (m : Option BusMsg) (s : State),
      Does (.paramWrite r id v persist m) s (fun t =>
      Frame (.acrd :: .loops :: .rails :: .seq :: .sup :: .path :: .meas :: .link :: notes) s t)) ∧
  (∀ (tile : Fin 4096) (frame : Fin 128) (s : State), Does (.scrubFrameRead tile frame) s (fun t =>
      Frame (.acrd :: .loops :: .rails :: .groups :: .seq :: .sup :: .meas :: .link :: notes) s t ∧
      RegsIn [B.acrd, B.bist, B.evt, B.link, B.loop, B.meas, B.seq, B.sup] s t)) ∧
  (∀ (n : Fin 16) (level : Bool) (s : State), Does (.fabricGroupShutdown n level) s (fun t =>
      Frame (.freeCount :: .acrd :: .loops :: .rails :: .groups :: .seq :: .sup :: .meas :: .link :: notes) s t ∧
      RegsIn [B.bist, B.loop, B.meas, B.seq, B.sup] s t)) ∧
  (∀ (n : Fin 16) (level : Bool) (s : State), Does (.fabricUrgentRequest n level) s (fun t =>
      Frame (.freeCount :: .acrd :: .loops :: .rails :: .groups :: .seq :: .meas :: .link :: notes) s t ∧
      RegsIn [B.bist, B.loop, B.meas, B.seq] s t)) ∧
  (∀ (n : Fin 64) (level : Bool) (s : State), Does (.fabricFs63Raise n level) s (fun t =>
      Frame (.freeCount :: .acrd :: .loops :: .rails :: .groups :: .seq :: .meas :: .link :: notes) s t ∧
      RegsIn [B.bist, B.loop, B.meas, B.seq] s t)) ∧
  (∀ (n : Fin 8) (level : Bool) (s : State), Does (.fabricRstoAssert n level) s (fun t =>
      Frame (.freeCount :: .acrd :: .loops :: .rails :: .groups :: .seq :: .sup :: .meas :: .link :: notes) s t ∧
      RegsIn [B.bist, B.loop, B.meas, B.seq, B.sup] s t)) ∧
  (∀ (n : Fin 24) (level : Bool) (s : State), Does (.fabricSetpointCommand n level) s (fun t =>
      Frame (.freeCount :: .acrd :: .loops :: .rails :: .groups :: .seq :: .meas :: .link :: notes) s t ∧
      RegsIn [B.bist, B.loop, B.meas, B.seq] s t)) ∧
  (∀ (n : Fin 32) (level : Bool) (s : State), Does (.fabricEventRaise n level) s (fun t =>
      Frame (.freeCount :: .acrd :: .loops :: .rails :: .groups :: .seq :: .meas :: .link :: notes) s t ∧
      RegsIn [B.bist, B.loop, B.meas, B.seq] s t)) ∧
  (∀ (level : Bool) (s : State), Does (.fabricSnapshotRequest level) s (fun t =>
      Frame (.freeCount :: .acrd :: .loops :: .rails :: .groups :: .seq :: .meas :: .link :: notes) s t ∧
      RegsIn [B.bist, B.loop, B.meas, B.seq] s t)) ∧
  (∀ (s : State), Does .scheduledSwitch s (fun t =>
      Frame (.clock :: .acrd :: .loops :: .phases :: .rails :: .groups :: .seq :: .sup :: .path :: .meas :: .link :: notes) s t)) ∧
  (∀ (s : State), Does .switchRelease s (fun t =>
      Frame (.clock :: .freeCount :: .acrd :: .loops :: .phases :: .rails :: .groups :: .seq :: .sup :: .path :: .meas :: .link :: notes) s t)) ∧
  (∀ (inside : Bool) (s : State), Does (.longPress inside) s (fun t =>
      Frame (.clock :: .sys :: .seq :: .path :: .link :: notes) s t ∧ RegsIn [B.path] s t)) ∧
  (∀ (n : Fin 24) (s : State), Does (.slewTick n) s (fun t =>
      Frame (.clock :: .loops :: .phases :: .seq :: .link :: notes) s t ∧
      RegsIn [B.evt, B.host, B.link, B.loop, B.phase] s t)) ∧
  (∀ (n : Fin 24) (errs : List Int) (s : State), Does (.telemetryUpdate n errs) s (fun t =>
      Frame (.loops :: .phases :: .rails :: .groups :: .seq :: .sup :: .link :: notes) s t ∧
      RegsIn [B.host, B.loop, B.phase, B.seq] s t)) ∧
  (∀ (n : Fin 24) (ceiling : Bool) (uv held : Nat) (s : State),
      Does (.loopOvervoltage n ceiling uv held) s (fun t =>
      Frame (.loops :: .phases :: .rails :: .groups :: .seq :: .sup :: .link :: notes) s t ∧
      RegsIn [B.host, B.loop, B.phase, B.seq] s t)) ∧
  (∀ (n : Fin 24) (uv held : Nat) (s : State), Does (.loopUndervoltage n uv held) s (fun t =>
      Frame (.loops :: .phases :: .rails :: .groups :: .seq :: .sup :: .link :: notes) s t ∧
      RegsIn [B.host, B.loop, B.phase, B.seq] s t)) ∧
  (∀ (n : Fin 24) (s : State), Does (.loopOcFault n) s (fun t =>
      Frame (.clock :: .loops :: .phases :: .rails :: .groups :: .seq :: .sup :: .link :: notes) s t ∧
      RegsIn [B.host, B.loop, B.phase, B.seq] s t)) ∧
  (∀ (p : Fin 48) (s : State), Does (.phaseOpen p) s (fun t =>
      Frame (.loops :: .phases :: .rails :: .groups :: .seq :: .sup :: .link :: notes) s t ∧
      RegsIn [B.host, B.loop, B.phase, B.seq] s t)) ∧
  (∀ (p : Fin 48) (low : Bool) (held : Nat) (s : State), Does (.phaseStageFault p low held) s (fun t =>
      Frame (.loops :: .phases :: .rails :: .groups :: .seq :: .sup :: .link :: notes) s t ∧
      RegsIn [B.host, B.loop, B.phase, B.seq] s t)) ∧
  (∀ (p : Fin 48) (tmfLow : Bool) (s : State), Does (.stageBlankEnd p tmfLow) s (fun t =>
      Frame (.clock :: .loops :: .phases :: .rails :: .groups :: .seq :: .sup :: .link :: notes) s t ∧
      RegsIn [B.host, B.loop, B.phase, B.seq] s t)) ∧
  (∀ (p : Fin 48) (s : State), Does (.phaseHot p) s (fun t =>
      Frame (.loops :: .phases :: .rails :: .groups :: .seq :: .sup :: .link :: notes) s t ∧
      RegsIn [B.host, B.loop, B.phase, B.seq] s t)) ∧
  (∀ (s : State), Does .pllpRelock s (fun t =>
      Frame (.sys :: .loops :: .phases :: .rails :: .groups :: .seq :: .sup :: .link :: notes) s t ∧
      RegsIn [B.host, B.loop, B.phase, B.seq, B.sys] s t)) ∧
  (∀ (s : State), Does .pllpUnlockTimeout s (fun t =>
      Frame (.clock :: .loops :: .phases :: .rails :: .groups :: .seq :: .sup :: .link :: notes) s t ∧
      RegsIn [B.host, B.loop, B.phase, B.seq] s t)) ∧
  (∀ (n : Fin 64) (s : State), Does (.railStartTimeout n) s (fun t =>
      Frame (.clock :: .loops :: .phases :: .rails :: .groups :: .seq :: .sup :: .link :: notes) s t ∧
      RegsIn [B.host, B.loop, B.phase, B.seq] s t)) ∧
  (∀ (n : Fin 64) (s : State), Does (.railChatterLimit n) s (fun t =>
      Frame (.loops :: .phases :: .rails :: .groups :: .seq :: .sup :: .link :: notes) s t ∧
      RegsIn [B.host, B.loop, B.phase, B.seq] s t)) ∧
  (∀ (n : Fin 64) (s : State), Does (.railDischargeTimeout n) s (fun t =>
      Frame (.clock :: .loops :: .phases :: .rails :: .groups :: .seq :: .sup :: .link :: notes) s t ∧
      RegsIn [B.host, B.loop, B.phase, B.seq] s t)) ∧
  (∀ (s : State), Does .sequencerTick s (fun t =>
      Frame [.clock, .freeCount, .regs, .timers, .trace, .tracePost, .loops, .phases, .rails, .groups, .seq, .sup, .path, .evt, .host, .link, .bist] s t)) ∧
  (∀ (n : Fin 64) (s : State), Does (.monFilterExpiry n) s (fun t =>
      Frame (.clock :: .loops :: .phases :: .rails :: .groups :: .seq :: .sup :: .link :: notes) s t ∧
      RegsIn [B.host, B.loop, B.phase, B.seq, B.sup] s t)) ∧
  (∀ (n : Fin 64) (s : State), Does (.graceExpiry n) s (fun t =>
      Frame (.clock :: .freeCount :: .sys :: .loops :: .phases :: .rails :: .groups :: .seq :: .sup :: .path :: .meas :: .link :: notes) s t)) ∧
  (∀ (n : Fin 64) (s : State), Does (.immediateEscalation n) s (fun t =>
      Frame (.clock :: .freeCount :: .sys :: .loops :: .phases :: .rails :: .groups :: .seq :: .sup :: .path :: .meas :: .link :: notes) s t)) ∧
  (∀ (c : Fin 32) (errs : List EccErr) (s : State), Does (.dmaBeat c errs) s (fun t =>
      Frame (.freeCount :: .sys :: .acrd :: .loops :: .rails :: .groups :: .seq :: .sup :: .path :: .meas :: .link :: .hiLatch :: .loLatch :: notes) s t)) ∧
  (∀ (e : Fin 16) (errs : List EccErr) (s : State), Does (.engineInstruction e errs) s (fun t =>
      Frame (.freeCount :: .sys :: .acrd :: .loops :: .rails :: .groups :: .seq :: .sup :: .path :: .meas :: .link :: .hiLatch :: .loLatch :: notes) s t)) ∧
  (∀ (r : Req) (addr w : Word) (s : State), Does (.registerWrite r addr w) s (fun t =>
      Frame (.freeCount :: .sys :: .acrd :: .loops :: .rails :: .groups :: .seq :: .sup :: .path :: .meas :: .link :: .loLatch :: notes) s t)) ∧
  (∀ (f : FrameId) (id : BitVec 12) (value : Word) (persist : Bool) (s : State),
      Does (.paramFrame f id value persist) s (fun t =>
      Frame (.acrd :: .loops :: .rails :: .seq :: .sup :: .path :: .meas :: .link :: notes) s t)) ∧
  (∀ (f : FrameId) (s : State), Does (.linkCmdPark f) s (fun t =>
      Frame (.sys :: .rails :: .groups :: .seq :: .link :: notes) s t ∧
      RegsIn [B.evt, B.ledg, B.link, B.seq, B.sup, B.sys] s t)) ∧
  (∀ (f : FrameId) (vinAbove6 : Bool) (s : State), Does (.linkCmdFlacon f vinAbove6) s (fun t =>
      Frame (.sys :: .rails :: .groups :: .seq :: .link :: notes) s t ∧
      RegsIn [B.evt, B.ledg, B.link, B.seq, B.sup, B.sys] s t)) ∧
  (∀ (f : FrameId) (addr : Word) (data : List Byte) (s : State), Does (.wrFrame f addr data) s (fun t =>
      Frame (.freeCount :: .sys :: .acrd :: .loops :: .rails :: .groups :: .seq :: .sup :: .path :: .meas :: .link :: .loLatch :: notes) s t)) ∧
  (∀ (s : State), Does .orphanPark s (fun t =>
      Frame (.clock :: .sys :: .rails :: .groups :: .seq :: .link :: notes) s t ∧
      RegsIn [B.evt, B.ledg, B.link, B.seq, B.sup, B.sys] s t)) ∧
  (∀ (fails : List Check) (duration : Nat) (s : State), Does (.drydownChecksDone fails duration) s (fun t =>
      Frame (.clock :: .sys :: .seq :: .meas :: .link :: notes) s t ∧
      RegsIn [B.bist, B.evt, B.ledg, B.link, B.meas] s t)) ∧
  (∀ (r : Req) (fails : List Check) (s : State), Does (.bistRunDrydown r fails) s (fun t =>
      Frame (.clock :: .sys :: .seq :: .meas :: .link :: notes) s t ∧
      RegsIn [B.bist, B.evt, B.host, B.link, B.meas] s t)) ∧
  (∀ (addr : Word) (data : List Byte) (q : QuadEnd) (s : State), Does (.quadWinWrite addr data q) s (fun t =>
      Frame (.freeCount :: .sys :: .acrd :: .loops :: .rails :: .groups :: .seq :: .sup :: .path :: .meas :: .link :: .loLatch :: notes) s t)) ∧
  (∀ (m : BusMsg) (s : State), Does (.winData m) s (fun t =>
      Frame (.freeCount :: .sys :: .acrd :: .loops :: .rails :: .groups :: .seq :: .sup :: .path :: .meas :: .link :: .hiLatch :: .loLatch :: notes) s t))

/-- A start runs through its stages.  The commands of a start (VIN rise, flacon exit, start of the sequence, straps,
top-note domain, Ledger read, start-up self-test, release, log scan) each complete: life phase, stage, hierarchy
time, straps, reset causes, nonce and clock status take the values Tables 3.3 and 1.7 give. The model's choices:
causes are added to those of SYS_RESET_CAUSE that are still set (log entry 20), the strap result and hierarchy
time that a start keeps (log entries 21 and 22). Clauses that a command whose precondition fails changes nothing
rest on log entry 4, and those that carry time to a deadline on log entry 3.  (spec/03_supplies_park.md,
spec/02_balls.md, spec/01_accord.md.) -/
def Obligations.StartSequenceCompletes : Prop :=
  (∀ (s : State), s.sys.phase = .unpowered → Does .vinRiseStart s (fun t =>
      t.sys.phase = .start ∧ t.sys.stage = .off ∧ t.sys.brown = .none ∧
      (s.sys.address = none → t.now = 0#64 ∧ t.sys.nextCause = s.sys.nextCause ||| 1) ∧
      (s.sys.address ≠ none → t.htOfs = s.htOfs ∧ t.sys.nextCause = s.sys.nextCause) ∧
      Frame [.htOfs, .regs, .timers, .sys, .path, .link] s t ∧ RegsIn [B.path] s t)) ∧
  (∀ (s : State), s.sys.phase ≠ .unpowered → exec .vinRiseStart s = .next s) ∧
  (∀ (svc : Bool) (s : State), s.sys.phase = .flacon → Does (.flaconExit svc) s (fun t =>
      t.sys.phase = .start ∧ t.sys.stage = .off ∧ t.now = 0#64 ∧ t.sys.nextCause = s.sys.nextCause ||| 0x40 ∧
      Frame [.htOfs, .regs, .timers, .sys, .path, .link] s t ∧ RegsIn [B.path] s t)) ∧
  (∀ (svc : Bool) (s : State), s.sys.phase ≠ .flacon → exec (.flaconExit svc) s = .next s) ∧
  (∀ (s : State), s.sys.phase = .start → s.sys.stage = .off →
      (s.sys.brown = .none ∨ s.sys.brown = .restart ∧ s.runs T.brown = true) → Does .startBegin s (fun t =>
      t.fld R.SYS_STATUS.PHASE = 1 ∧ t.sys.stage = (if s.sys.address.isNone then .t0 else .t2) ∧
      t.sys.brown = .none ∧ (s.sys.address ≠ none → t.bit R.SYS_STATUS.VCC5_OK = true) ∧
      t.freeCount = s.freeCount + 1 ∧
      t.pair R.SYS_LC_NONCE_LO.reg R.SYS_LC_NONCE_HI.reg = Config.nonce s.freeCount)) ∧
  (∀ (mv0 mv1 : Nat) (ft : BitVec 4) (s : State), s.sys.stage = .t0 → s.runs T.strap = true →
      Does (.strapReadingDone mv0 mv1 ft) s (fun t =>
      t.sys.address = some (0x40 + 8 * strapBin1 mv1 + strapBin0 mv0) ∧ t.sys.ft = ft.toNat ∧
      t.sys.stage = .t2 ∧ t.bit R.SYS_STATUS.VCC5_OK = true ∧
      t.reg R.SYS_RESET_CAUSE.reg = s.reg R.SYS_RESET_CAUSE.reg ||| BitVec.ofNat 32 s.sys.nextCause ∧
      Frame [.clock, .regs, .timers, .sys] s t ∧ RegsIn [B.sys] s t)) ∧
  (∀ (s : State), s.sys.stage = .t2 → Does .topNoteDomainUp s (fun t =>
      t.sys.stage = .t5 ∧ t.sys.pllP = .locked ∧ t.sys.pllE = .locked ∧ t.sys.pllM = .locked ∧
      t.bit R.SYS_CLK_STATUS.LOCKED = true ∧ t.bit R.SYS_STATUS.VCC5_OK = s.bit R.SYS_STATUS.VCC5_OK ∧
      t.bit R.SYS_STATUS.VBN_OK = true ∧ t.flt.collecting = true ∧ t.host.stretch = false ∧
      Frame [.sys, .regs, .flt, .sup, .host, .freeCount] s t)) ∧
  (∀ (s : State), s.sys.stage ≠ .t2 → exec .topNoteDomainUp s = .next s) ∧
  (∀ (s : State), s.sys.stage = .t5 → Does .startLedgerRead s (fun t =>
      t.sys.stage = .t6 ∧ t.sys.phase = s.sys.phase ∧ Frame (.sys :: .acrd :: .seq :: .link :: notes) s t ∧
      RegsIn [B.bist, B.evt, B.ledg, B.link, B.sys] s t)) ∧
  (∀ (s : State), s.sys.stage ≠ .t5 → exec .startLedgerRead s = .next s) ∧
  (∀ (fails : List Check) (d : Nat) (s : State), s.sys.stage = .t6 → s.sys.selfTest = true →
      Does (.startupSelfTestEnd fails d) s (fun t =>
      t.sys.selfTest = false ∧ t.sys.stage = .t6 ∧ t.bit R.SYS_STATUS.STARTUP_TEST = true ∧
      t.bit R.BIST_START.RAN = true ∧ t.bit R.BIST_START.PASS = (startFails fails).isEmpty ∧
      t.fld R.BIST_START.FAILS = min 255 (startFails fails).length ∧
      (∀ c ∈ (startFails fails).head?, t.fld R.BIST_START.ITEM = c.item.toNat ∧ t.fld R.BIST_START.INDEX = c.index.toNat) ∧
      (s.flt.collecting = true → ∀ c ∈ startFails fails, t.fstat.getLsbD (if c.item = 1#4 then 62 else 58) = true) ∧
      t.clock = max s.clock (2 * (s.bist.dryAt + testNs true 39025000 40000000 (startFails fails) d)) ∧
      Frame (.clock :: .sys :: .seq :: .link :: notes) s t ∧ RegsIn [B.bist, B.sys] s t)) ∧
  (∀ (fails : List Check) (d : Nat) (s : State), (s.sys.stage ≠ .t6 ∨ s.sys.selfTest = false) →
      exec (.startupSelfTestEnd fails d) s = .next s) ∧
  (∀ (s : State), s.sys.phase = .start → s.sys.stage = .configured → s.runs T.release = true →
      Does .sequencerRelease s (fun t =>
      t.sys.stage = .released ∧ s.clock ≤ t.clock)) ∧
  (∀ (s : State), s.sys.stage = .released → s.bit R.LEDG_STATUS.SCAN = true → Does .logScanEnd s (fun t =>
      t.ledg.scanned = true ∧ t.sys.stage = .released ∧ t.deadline T.logScan = none ∧
      Frame (.seq :: .link :: notes) s t ∧ RegsIn [B.evt, B.ledg, B.link] s t))

/-- Loss of power and house-rail faults.  UVLO, brown-out of each rail, the base-note reset, the HSUP and VCC5
over-voltage marks, a house-rail excursion and the drained restart complete with the life phase, the house
counter, the cleared SRAM, the kept banks and the raise of FS_61 that the chapter gives; UVLO, brown-out and the
base-note reset are power loss, and their clauses say what of the state stays. The model's choices: the device
waits for VIN after UVLO and a base-note reset (log entry 21), what a low VCC5 closes (log entry 25), the
long-press time runs on (log entry 170). Clauses that a command whose precondition fails changes nothing rest on
log entry 4, and those that carry time to a deadline on log entry 3.  (spec/03_supplies_park.md,
spec/11_faults.md.) -/
def Obligations.PowerLossCompletes : Prop :=
  (∀ (cut : Cut) (s : State), s.topPhase = true → Does (.uvlo cut) s (fun t =>
      t.sys.phase = .unpowered ∧ t.sys.stage = .off ∧ t.sys.brown = .vinRise ∧ t.sys.safeLatch = none ∧
      t.evt.sram = [] ∧ t.acrd.bankA = s.acrd.bankA ∧ t.acrd.bankB = s.acrd.bankB ∧ t.acrd.image = none ∧
      t.sys.nextCause = s.sys.nextCause ||| 8 ∧ t.sys.address = s.sys.address ∧ t.clock = s.clock ∧
      t.freeCount = s.freeCount ∧ t.htOfs = s.htOfs + s.link.servo.added s.ns ∧ t.phases = s.phases ∧
      (∀ k, baseKey k = false → phaseStat k = false → t.reg k = resetWord k) ∧
      (∀ k, phaseStat k = true → t.reg k = s.reg k) ∧
      Frame [.clock, .htOfs, .freeCount, .regs, .timers, .sys, .acrd, .phases, .path, .ledg] State.reset { t with pending := [] })) ∧
  (∀ (cut : Cut) (s : State), s.topPhase = false → exec (.uvlo cut) s = .next s) ∧
  (∀ (rail : HouseRail) (cut : Cut) (s : State), rail ≠ .vbn → s.topPhase = true → 2 ≤ s.sys.stage.ord →
      Does (.brownOut rail cut) s (fun t =>
      t.fld R.SYS_RESET_CAUSE.HOUSE_CNT = min 8 (s.fld R.SYS_RESET_CAUSE.HOUSE_CNT + 1) ∧
      t.sys.phase = (if 8 ≤ s.fld R.SYS_RESET_CAUSE.HOUSE_CNT + 1 then .park else .start) ∧
      t.sys.stage = .off ∧ t.evt.sram = [] ∧
      (8 ≤ s.fld R.SYS_RESET_CAUSE.HOUSE_CNT + 1 → t.bit R.SYS_RESET_CAUSE.HOUSE_LOCKOUT = true) ∧
      (s.fld R.SYS_RESET_CAUSE.HOUSE_CNT + 1 < 8 → t.deadline T.brown = some (t.ns + 10000000)) ∧
      t.sys.nextCause = s.sys.nextCause ||| 16 ∧ t.acrd.bankA = s.acrd.bankA ∧ t.acrd.bankB = s.acrd.bankB ∧
      t.clock = s.clock ∧ t.freeCount = s.freeCount ∧ t.htOfs = s.htOfs + s.link.servo.added s.ns ∧
      t.phases = s.phases ∧ (∀ k, baseKey k = false → phaseStat k = false → t.reg k = resetWord k) ∧
      (∀ k, phaseStat k = true → t.reg k = s.reg k) ∧
      Frame [.clock, .htOfs, .freeCount, .regs, .timers, .sys, .acrd, .phases, .path, .ledg] State.reset { t with pending := [] })) ∧
  (∀ (cut : Cut) (s : State), s.sys.phase ≠ .flacon → Does (.brownOut .vbn cut) s (fun t =>
      t.sys.phase = .unpowered ∧ t.regs = [] ∧ t.clock = s.clock ∧ t.freeCount = s.freeCount ∧
      t.htOfs = s.htOfs + s.link.servo.added s.ns ∧
      t.acrd = { AcrdState.reset with bankA := s.acrd.bankA, bankB := s.acrd.bankB } ∧
      t.path = { PathState.reset with released := s.path.released } ∧
      Frame [.clock, .htOfs, .freeCount, .timers, .sys, .acrd, .path, .ledg] State.reset { t with pending := [] })) ∧
  (∀ (s : State), s.sys.brown = .tenMs → s.runs T.brown = true → Does .brownOutRestart s (fun t =>
      t.sys.phase = .start ∧ t.sys.stage = .off ∧ t.sys.brown = .none ∧ t.deadline T.brown = none ∧
      Frame [.clock, .timers, .sys] s t)) ∧
  (∀ (cut : Cut) (s : State), s.sys.phase ≠ .flacon → Does (.bnPor cut) s (fun t =>
      t.sys.phase = .unpowered ∧ t.regs = [] ∧ (∀ k, k ≠ T.longEnd → t.timers.at none k = none) ∧
      t.clock = s.clock ∧ t.freeCount = s.freeCount ∧ t.htOfs = s.htOfs + s.link.servo.added s.ns ∧
      t.acrd = { AcrdState.reset with bankA := s.acrd.bankA, bankB := s.acrd.bankB } ∧
      t.path = { PathState.reset with released := s.path.released } ∧
      Frame [.clock, .htOfs, .freeCount, .timers, .sys, .acrd, .path, .ledg] State.reset { t with pending := [] })) ∧
  (∀ (cut : Cut) (s : State), s.sys.phase = .flacon → exec (.bnPor cut) s = .next s) ∧
  (∀ (s : State), s.topPhase = true → 2 ≤ s.sys.stage.ord → s.sys.hsupOv = false →
      Does .hsupOvervoltage s (fun t =>
      t.sys.hsupOv = true ∧ Raises 61 s t ∧ Frame (.sys :: notes) s t ∧ RegsOnly [] s t)) ∧
  (∀ (s : State), Does .hsupOvRecover s (fun t =>
      t.sys.hsupOv = false ∧ Frame [.sys] s t)) ∧
  (∀ (rail : HouseRail) (high : Bool) (s : State), s.topPhase = true → 2 ≤ s.sys.stage.ord →
      Does (.houseRailExcursion rail high) s (fun t =>
      (rail = .vcc5 → if high then t.sys.vcc5Ov = true ∧ Raises 61 s t else t.bit R.SYS_STATUS.VCC5_OK = false) ∧
      (rail = .vdd08 → t.bit R.SYS_STATUS.VDD08_OK = false ∧ Raises 61 s t) ∧
      (rail = .vdda18 → t.bit R.SYS_STATUS.VDDA18_OK = false ∧ Raises 61 s t) ∧
      (rail = .vddio33 → t.bit R.SYS_STATUS.VDDIO33_OK = false ∧ Raises 61 s t) ∧
      (rail = .vbn → t.bit R.SYS_STATUS.VBN_OK = false ∧ Raises 61 s t) ∧ RegsOnly [R.SYS_STATUS.reg] s t ∧
      Frame (.sys :: .seq :: .link :: notes) s t)) ∧
  (∀ (s : State), Does .vcc5OvRecover s (fun t =>
      t.sys.vcc5Ov = false ∧ Frame [.sys] s t)) ∧
  (∀ (s : State), s.sys.phase = .safe → s.ledg.drain = .restart → s.ledgDrained = true →
      Does .restartDrained s (fun t =>
      t.sys.phase = .start ∧ t.sys.brown = .restart ∧ t.sys.safeLatch = none ∧
      t.deadline T.brown = some (t.ns + 10000000) ∧ t.evt.sram = []))

/-- Clock sources and PLLs.  Qualification and failure of XIN, REF100 and BNO, and unlock and relock of PLL_E and
PLL_M, set the bits of SYS_CLK_STATUS, the PLL states, the reconfiguration time and the raise of FS_60, and
change nothing else in the frame stated. That PLL_E is in lock at once where no fabric is configured is the
model's choice (log entry 30). Clauses that a command whose precondition fails changes nothing rest on log entry
4, and those that carry time to a deadline on log entry 3.  (spec/03_supplies_park.md.) -/
def Obligations.ClockCommandsComplete : Prop :=
  (∀ (s : State), s.sys.xinWait = true → Does .xinQualified s (fun t =>
      t.sys.xinWait = false ∧ t.bit R.SYS_CLK_STATUS.SRC = true ∧ t.deadline T.xin = none ∧
      Frame [.sys, .timers, .regs] s t ∧ RegsOnly [R.SYS_CLK_STATUS.reg] s t)) ∧
  (∀ (s : State), s.sys.xinWait = false → exec .xinQualified s = .next s) ∧
  (∀ (s : State), s.sys.xinWait = true → s.runs T.xin = true → Does .xinQualifyTimeout s (fun t =>
      t.sys.xinWait = false ∧ t.bit R.SYS_CLK_STATUS.XIN_FAIL = true ∧ Raises 60 s t ∧
      RegsOnly [R.SYS_CLK_STATUS.reg] s t ∧ Frame (.clock :: .sys :: .seq :: .link :: notes) s t)) ∧
  (∀ (s : State), s.bit R.SYS_CLK_STATUS.SRC = true → Does .xinMonitorFail s (fun t =>
      t.bit R.SYS_CLK_STATUS.SRC = false ∧ t.bit R.SYS_CLK_STATUS.XIN_FAIL = true ∧ Raises 60 s t ∧
      Frame notes s t ∧ RegsOnly [R.SYS_CLK_STATUS.reg] s t)) ∧
  (∀ (s : State), s.bit R.SYS_CLK_STATUS.SRC = false → exec .xinMonitorFail s = .next s) ∧
  (∀ (s : State), s.topOn = true → Does .ref100MonitorFail s (fun t =>
      t.bit R.SYS_CLK_STATUS.REF_FAIL = true ∧ Raises 60 s t ∧ Frame notes s t ∧
      RegsOnly [R.SYS_CLK_STATUS.reg] s t)) ∧
  (∀ (s : State), s.topOn = false → exec .ref100MonitorFail s = .next s) ∧
  (∀ (s : State), s.topOn = true → Does .bnoMonitorFail s (fun t =>
      t.bit R.SYS_CLK_STATUS.BNO_FAIL = true ∧ Raises 60 s t ∧ Frame notes s t ∧
      RegsOnly [R.SYS_CLK_STATUS.reg] s t)) ∧
  (∀ (s : State), s.topOn = false → exec .bnoMonitorFail s = .next s) ∧
  (∀ (s : State), (s.sys.pllE = .locked ∨ s.sys.pllE = .reconfiguring) → Does .plleUnlock s (fun t =>
      t.sys.pllE = .out ∧ t.bit R.SYS_CLK_STATUS.PLLE_UNLOCK = true ∧ t.bit R.SYS_CLK_STATUS.LOCKED = false)) ∧
  (∀ (s : State), (s.sys.pllE ≠ .locked ∧ s.sys.pllE ≠ .reconfiguring) → exec .plleUnlock s = .next s) ∧
  (∀ (s : State), s.sys.pllE = .out → Does .plleRelock s (fun t =>
      t.sys.pllE = (if s.fabricOn then .reconfiguring else .locked) ∧
      (s.fabricOn = true → t.deadline T.reconfig = some (s.ns + 2621440)) ∧ Frame [.sys, .timers, .regs] s t ∧
      RegsOnly [R.SYS_CLK_STATUS.reg] s t)) ∧
  (∀ (s : State), s.sys.pllE ≠ .out → exec .plleRelock s = .next s) ∧
  (∀ (s : State), s.sys.pllE = .reconfiguring → s.runs T.reconfig = true → Does .plleReconfigDone s (fun t =>
      t.sys.pllE = .locked ∧ t.acrd.tiles = [] ∧ t.acrd.reloading = none ∧
      t.bit R.ACRD_STATUS.FROZEN_ANY = false)) ∧
  (∀ (s : State), s.sys.pllM = .locked → Does .pllmUnlock s (fun t =>
      t.sys.pllM = .out ∧ t.bit R.SYS_CLK_STATUS.PLLM_UNLOCK = true ∧ t.bit R.SYS_CLK_STATUS.LOCKED = false ∧
      Raises 60 s t ∧ Frame (.sys :: notes) s t ∧ RegsOnly [R.SYS_CLK_STATUS.reg] s t)) ∧
  (∀ (s : State), s.sys.pllM ≠ .locked → exec .pllmUnlock s = .next s) ∧
  (∀ (s : State), s.sys.pllM = .out → Does .pllmRelock s (fun t =>
      t.sys.pllM = .locked ∧ Frame [.sys, .regs] s t ∧ RegsOnly [R.SYS_CLK_STATUS.reg] s t)) ∧
  (∀ (s : State), s.sys.pllM ≠ .out → exec .pllmRelock s = .next s)

/-- Power-down, park, flacon and wake.  Accepted power commands, by a register, by the two-wire message or by the
link, enter power-down; park and flacon entry leave the state they name; an enabled wake source starts a parked
device or is kept during a power-down, and a disabled source does nothing. The model's choices: wake bits are
replaced at a new wake and added until its start begins (log entry 31), the park alarm carries time to its alarm
(log entry 32), a later power command only replaces the destination (log entry 33). Clauses that a command whose
precondition fails changes nothing rest on log entry 4, and those that carry time to a deadline on log entry 3.
(spec/03_supplies_park.md.) -/
def Obligations.PowerDownParkAndWakeComplete : Prop :=
  (∀ (r : Req) (s : State), s.may r R.SYS_PWR_CMD.reg true (some 0xE4) = true → s.powerOk false = true →
      Does (.powerDownToPark r) s (fun t =>
      t.sys.phase = .powerDown ∧ t.bit R.SYS_STATUS.DEST_FLACON = false ∧ t.sys.stage = s.sys.stage ∧
      t.acrd.image = s.acrd.image)) ∧
  (∀ (r : Req) (s : State), s.may r R.SYS_PWR_CMD.reg true (some 0xE4) = false →
      exec (.powerDownToPark r) s = .next (s.denied r true)) ∧
  (∀ (r : Req) (s : State), s.may r R.SYS_PWR_CMD.reg true (some 0xE4) = true → s.powerOk false = false →
      Does (.powerDownToPark r) s (fun t =>
      t.bit R.SYS_STATUS.PWR_REFUSED = true ∧ t.sys = s.sys)) ∧
  (∀ (m : BusMsg) (s : State), s.takesWrite m 0xE4 1 1 = true → bytesLE m.data = 1 → s.powerOk false = true →
      Does (.powerDownToPark .hostBus (some m)) s (fun t =>
      t.sys.phase = .powerDown ∧ t.bit R.SYS_STATUS.DEST_FLACON = false ∧ t.host.refused = false)) ∧
  (∀ (m : BusMsg) (s : State), s.takesWrite m 0xE4 1 1 = true → bytesLE m.data ≠ 1 → bytesLE m.data ≠ 2 →
      Does (.powerDownToPark .hostBus (some m)) s (fun t =>
      t.fld R.HOST_STATUS.CML = s.fld R.HOST_STATUS.CML ||| 0x40 ∧ t.sys = s.sys ∧ Frame [.regs, .host] s t ∧
      RegsOnly [R.HOST_STATUS.reg] s t)) ∧
  (∀ (r : Req) (v : Bool) (s : State), s.may r R.SYS_PWR_CMD.reg true (some 0xE4) = true → s.powerOk v = true →
      Does (.powerDownToFlacon r v) s (fun t =>
      t.sys.phase = .powerDown ∧ t.bit R.SYS_STATUS.DEST_FLACON = true)) ∧
  (∀ (r : Req) (v : Bool) (s : State), s.may r R.SYS_PWR_CMD.reg true (some 0xE4) = false →
      exec (.powerDownToFlacon r v) s = .next (s.denied r true)) ∧
  (∀ (r : Req) (v : Bool) (s : State), s.may r R.SYS_PWR_CMD.reg true (some 0xE4) = true → s.powerOk v = false →
      Does (.powerDownToFlacon r v) s (fun t =>
      t.bit R.SYS_STATUS.PWR_REFUSED = true ∧ t.sys = s.sys)) ∧
  (∀ (v : Bool) (m : BusMsg) (s : State), s.takesWrite m 0xE4 1 1 = true → bytesLE m.data = 2 →
      s.powerOk v = true → Does (.powerDownToFlacon .hostBus v (some m)) s (fun t =>
      t.sys.phase = .powerDown ∧ t.bit R.SYS_STATUS.DEST_FLACON = true ∧ t.host.refused = false)) ∧
  (∀ (n : Nat) (s : State), s.sys.phase = .powerDown → s.bit R.SYS_STATUS.DEST_FLACON = false →
      s.sys.dry = .recorded → s.ledgDrained = true → s.bit R.SYS_CLK_STATUS.BNO_FAIL = false →
      Does (.parkEntry n) s (fun t =>
      (s.sys.wakePending ≠ 0 → t.sys.phase = .start ∧ (t.reg R.SYS_WAKE_CAUSE.reg).getLsbD 11 = true) ∧
      (s.sys.wakePending = 0 → s.wakeLevels = 0 → t.sys.phase = .park) ∧
      (s.wakeLevels ≠ 0 → t.sys.phase = .start) ∧ t.sys.bnoPeriod = n ∧ t.evt.sram = [] ∧
      t.acrd.bankA = s.acrd.bankA ∧ t.ledg.array = s.ledg.array)) ∧
  (∀ (s : State), s.sys.phase = .powerDown → s.bit R.SYS_STATUS.DEST_FLACON = true → s.sys.dry = .recorded →
      s.ledgDrained = true → Does .flaconEntry s (fun t =>
      t.sys.phase = .flacon ∧ t.regs = [] ∧ t.evt.sram = [] ∧ t.ledg.array = s.ledg.array)) ∧
  (∀ (n : Fin 4) (s : State), (s.fld R.SYS_WAKE_CFG.EN_WAKE).testBit n = true →
      Does (.wakeInputWake n) s (fun t =>
      (s.sys.phase = .park → t.sys.phase = .start ∧ t.sys.stage = .off ∧ t.reg R.SYS_WAKE_CAUSE.reg = BitVec.ofNat 32 (2 ^ n.val)) ∧
      (s.sys.phase = .powerDown → s.sys.wakeArmed = true → t.sys.wakePending = s.sys.wakePending ||| (2 ^ n.val) ∧ t.sys.phase = .powerDown) ∧
      Frame [.sys, .regs] s t)) ∧
  (∀ (n : Fin 4) (s : State), (s.fld R.SYS_WAKE_CFG.EN_WAKE).testBit n = false →
      exec (.wakeInputWake n) s = .next s) ∧
  (∀ (s : State), s.bit R.SYS_WAKE_CFG.EN_BUS = true → Does .busAddressWake s (fun t =>
      (s.sys.phase = .park → t.sys.phase = .start ∧ t.sys.stage = .off ∧ t.reg R.SYS_WAKE_CAUSE.reg = 0x100#32 ∧ (s.sys.address.isSome = true → t.host.stretch = true)) ∧
      (s.sys.phase = .powerDown → s.sys.wakeArmed = true → t.sys.wakePending = s.sys.wakePending ||| (0x100) ∧ t.sys.phase = .powerDown) ∧
      (s.matching = true → t.reg R.SYS_WAKE_CAUSE.reg = s.reg R.SYS_WAKE_CAUSE.reg ||| 0x100#32 ∧ t.host.stretch = true) ∧
      Frame [.sys, .regs, .host] s t)) ∧
  (∀ (s : State), s.bit R.SYS_WAKE_CFG.EN_BUS = false → exec .busAddressWake s = .next s) ∧
  (∀ (n : Fin 4) (s : State), (s.fld R.SYS_WAKE_CFG.EN_LINK).testBit n = true →
      Does (.linkActivityWake n) s (fun t =>
      (s.sys.phase = .park → t.sys.phase = .start ∧ t.sys.stage = .off ∧ t.reg R.SYS_WAKE_CAUSE.reg = BitVec.ofNat 32 (2 ^ (4 + n.val))) ∧
      (s.sys.phase = .powerDown → s.sys.wakeArmed = true → t.sys.wakePending = s.sys.wakePending ||| (2 ^ (4 + n.val)) ∧ t.sys.phase = .powerDown) ∧
      Frame [.sys, .regs] s t)) ∧
  (∀ (n : Fin 4) (s : State), (s.fld R.SYS_WAKE_CFG.EN_LINK).testBit n = false →
      exec (.linkActivityWake n) s = .next s) ∧
  (∀ (s : State), s.bit R.SYS_WAKE_CFG.EN_SVC = true → Does .svcNWake s (fun t =>
      (s.sys.phase = .park → t.sys.phase = .start ∧ t.sys.stage = .off ∧ t.reg R.SYS_WAKE_CAUSE.reg = BitVec.ofNat 32 (0x200)) ∧
      (s.sys.phase = .powerDown → s.sys.wakeArmed = true → t.sys.wakePending = s.sys.wakePending ||| (0x200) ∧ t.sys.phase = .powerDown) ∧
      Frame [.sys, .regs] s t)) ∧
  (∀ (s : State), s.bit R.SYS_WAKE_CFG.EN_SVC = false → exec .svcNWake s = .next s) ∧
  (∀ (s : State), s.bit R.SYS_WAKE_CFG.EN_ALARM = true → Does .parkAlarmWake s (fun t =>
      (s.sys.phase = .park → t.sys.phase = .start ∧ t.sys.stage = .off ∧ t.reg R.SYS_WAKE_CAUSE.reg = BitVec.ofNat 32 (0x400)) ∧
      (s.sys.phase = .powerDown → s.sys.wakeArmed = true → t.sys.wakePending = s.sys.wakePending ||| (0x400) ∧ t.sys.phase = .powerDown) ∧
      (s.sys.phase = .park → t.clock = max s.clock (2 * s.localAt s.parkAlarm)) ∧
      Frame [.clock, .sys, .regs] s t)) ∧
  (∀ (s : State), s.bit R.SYS_WAKE_CFG.EN_ALARM = false → exec .parkAlarmWake s = .next s) ∧
  (∀ (below bat : Bool) (s : State), s.sys.phase = .park → Does (.parkVinUvloChange below bat) s (fun t =>
      (below = true → bat = false → t.sys.phase = .unpowered ∧ t.regs = []) ∧
      ((below = false ∨ bat = true) → t.sys.batLeg = below ∧ t.sys.phase = .park ∧ Frame [.sys] s t))) ∧
  (∀ (below bat : Bool) (s : State), s.sys.phase ≠ .park → exec (.parkVinUvloChange below bat) s = .next s)

/-- Long press, life-cycle requests, TAP and pin lines.  The end of a long press, a life-cycle request and the
judgement of a return, a TAP operation, a pin-state line and a bit edge of hierarchy time complete with the
registers and hidden state their rules give. The model's choices: how SYS_LC_CMD is judged (log entry 26), the
TAP's codes, content and scan order (log entries 28 and 163), a reported level of a ball that the device drives
(log entry 164). Clauses that a command whose precondition fails changes nothing rest on log entry 4, and those
that carry time to a deadline on log entry 3.  (spec/02_balls.md, spec/03_supplies_park.md.) -/
def Obligations.ServicePinsAndLifeCycleComplete : Prop :=
  (∀ (lost : Bool) (s : State), s.runs T.longEnd = true → Does (.longPressEnd lost) s (fun t =>
      ((lost = true ∨ s.sys.phase = .unpowered) → t.sys.phase = .start ∧ t.now = 0#64) ∧
      (lost = false → s.sys.phase ≠ .unpowered → t.sys.phase = s.sys.phase ∧ (s.bit R.PATH_SVC.LPACT = true → t.sys.batLeg = s.topPhase)) ∧
      s.clock ≤ t.clock)) ∧
  (∀ (lost : Bool) (s : State), s.runs T.longEnd = false → exec (.longPressEnd lost) s = .next s) ∧
  (∀ (r : Req) (w : Word) (s : State), (r = .hostBus ∨ r = .quad) → s.may r R.SYS_LC_CMD.reg true none = true →
      4 ≤ s.sys.stage.ord → w.field 24 8 = 0xA9 → s.sys.lcJudging = false →
      s.bit R.SYS_LC_STATUS.PEND = false → s.ledg.keyMove = false → 0 < s.fld R.SYS_STATUS.LC →
      s.fld R.SYS_STATUS.LC ≤ 3 → w.field 0 3 = s.fld R.SYS_STATUS.LC + 1 →
      Does (.lcTransitionRequest r w) s (fun t =>
      (s.fld R.SYS_STATUS.LC = 3 → t.sys.lcJudging = true ∧ t.deadline T.lcJudge = some (s.ns + 1000000)) ∧
      (s.fld R.SYS_STATUS.LC ≠ 3 → s.lcCondition (s.fld R.SYS_STATUS.LC + 1) = true → t.fld R.SYS_LC_STATUS.RESULT = 1 ∧ t.bit R.SYS_LC_STATUS.PEND = true ∧ t.fld R.SYS_LC_STATUS.NEXT = s.fld R.SYS_STATUS.LC + 1) ∧
      (s.fld R.SYS_STATUS.LC ≠ 3 → s.lcCondition (s.fld R.SYS_STATUS.LC + 1) = false → t.fld R.SYS_LC_STATUS.RESULT = 3) ∧
      Frame (.sys :: .seq :: .link :: notes) s t)) ∧
  (∀ (s : State), s.sys.lcJudging = true → Does .returnRequestJudged s (fun t =>
      t.sys.lcJudging = false ∧ (∀ i, i < 40 → t.reg (R.SYS_LC_REQ.reg i) = 0#32) ∧
      (s.judgeReturn ≠ 1 → t.fld R.SYS_LC_STATUS.RESULT = s.judgeReturn) ∧
      Frame (.freeCount :: .sys :: .seq :: .link :: notes) s t ∧ RegsIn [B.evt, B.ledg, B.link, B.sys] s t)) ∧
  (∀ (s : State), s.sys.lcJudging = false → exec .returnRequestJudged s = .next s) ∧
  (∀ (op : TapOp) (s : State), 4 ≤ s.sys.stage.ord → (s.fld R.SYS_STATUS.LC = 1 ∨ s.fld R.SYS_STATUS.LC = 4) →
      Does (.tapOperation op) s (fun t =>
      (op = .reset → t.sys.tapReset = true ∧ t.sys.scanDrive = none) ∧
      (∀ i, op = .shiftIr i → t.sys.tapReset = false ∧ t.sys.tapIr = i.toNat) ∧
      (∀ l, op = .shiftDr l → t.sys.tapReset = false ∧ t.sys.tapDr = l ∧ t.sys.tapOut = (List.range l.length).map (Config.tapBit s.freeCount)) ∧
      (op = .update → s.sys.tapReset = false → Config.tapDrives (BitVec.ofNat 8 s.sys.tapIr) = true → t.sys.scanDrive = some s.sys.tapDr) ∧
      Frame [.sys, .freeCount] s t)) ∧
  (∀ (line : Fin 45) (level : Bool) (s : State), Does (.pinStateLineChange line level) s (fun t =>
      t.sys.pinLines.testBit line = level ∧
      (∀ j, j ≠ line.val → t.sys.pinLines.testBit j = s.sys.pinLines.testBit j) ∧
      t.sys.pinHeld.testBit line = decide (s.drivenLine line = some (!level)) ∧ Frame [.sys] s t)) ∧
  (∀ (k : Fin 32) (s : State), s.topOn = true → Does (.hierarchyTimeBitEdge k) s (fun t =>
      t.clock = max s.clock (2 * s.localAt (((s.now.toNat / 2 ^ (10 + k.val) + 1) * 2 ^ (10 + k.val) : Nat) : Int)) ∧
      Frame [.clock] s t)) ∧
  (∀ (k : Fin 32) (s : State), s.topOn = false → exec (.hierarchyTimeBitEdge k) s = .next s) ∧
  (∀ (k : Fin 32) (s : State), s.topOn = true → s.link.servo.rate = 0 → s.link.servo.slew = 0 →
      s.link.servo.base ≤ s.ns → 0 ≤ (s.ns : Int) + s.htOfs → (s.ns : Int) + s.htOfs < 2 ^ 63 →
      Does (.hierarchyTimeBitEdge k) s (fun t =>
      t.now.toNat = (s.now.toNat / 2 ^ (10 + k.val) + 1) * 2 ^ (10 + k.val) ∧ Frame [.clock] s t))

/-- Loading, parameters, verification and scrubbing.  Load with the replay of the stored parameters, judgement of
the banks, configuration, VERIFY with VCAUSE, VDONE and STAGED_OK, and SELECT of a staged image; an accepted
parameter write, which replaces its field or file, extends the journal and changes the digest, and a refused one
with its result; scrubbing, tile reload, tile timers and cell upsets complete with the state the chapter gives.
The model's choices: the selector that SELECT writes (log entry 43), the note of a host command (log entry 155),
the state bits of a tile (log entry 162), words that wait for their loop (log entry 169). Clauses that a command
whose precondition fails changes nothing rest on log entry 4, and those that carry time to a deadline on log
entry 3.  (spec/01_accord.md.) -/
def Obligations.AccordCommandsComplete : Prop :=
  (∀ (s : State), s.sys.phase = .start → s.sys.stage = .t6 → s.sys.selfTest = false → s.usedStored = true →
      (s.sys.ft = 0 ∨ s.fld R.SYS_STATUS.LC ≠ 1 ∧ s.fld R.SYS_STATUS.LC ≠ 4) → Does .accordLoadStart s (fun t =>
      t.sys.stage = .t7 ∧ t.deadline T.load = some (s.ns + 4970000) ∧ Frame [.sys, .timers] s t)) ∧
  (∀ (s : State), s.sys.stage = .t7 → s.runs T.load = true → Does .banksJudged s (fun t =>
      t.sys.stage = .judged ∧ t.acrd.active = chooseBank s.acrd.selB t.acrd.causeA t.acrd.causeB ∧
      t.acrd.defaults = t.acrd.active.isNone ∧ t.acrd.image.isSome = t.acrd.active.isSome ∧
      t.deadline T.config = some (t.ns + if t.acrd.active.isSome then 2941440 else 0))) ∧
  (∀ (s : State), s.sys.stage = .judged → s.runs T.config = true → Does .fabricConfigured s (fun t =>
      t.sys.stage = .configured ∧ t.acrd.tiles = [] ∧ t.acrd.act = 0#256 ∧ t.deadline T.release = some t.ns ∧
      t.acrd.image = s.acrd.image ∧
      (∀ im, s.acrd.image = some im → t.acrd.journal = replayJournal t.acrd.replayed ∧ (∀ e ∈ t.acrd.replayed, ∃ p ∈ im.params, p.id = e.1 ∧ p.within e.2 = true)))) ∧
  (∀ (r : Req) (bank b : Bool) (s : State), s.may r R.ACRD_CTRL.reg true none = true →
      s.commandBank bank = some b → Does (.verifyStaged r bank) s (fun t =>
      t.acrd.verifying = some b ∧ t.deadline T.verify = some (s.ns + 5000000) ∧ Frame (.acrd :: notes) s t ∧
      RegsOnly [R.HOST_LAST_TS_LO.reg, R.HOST_LAST_TS_HI.reg] s t)) ∧
  (∀ (b : Bool) (s : State), s.acrd.verifying = some b → s.runs T.verify = true →
      Does .verifyStagedDone s (fun t =>
      t.acrd.verifying = none ∧ t.acrd.stagedBank = some b ∧
      t.fld R.ACRD_STATUS.VCAUSE = s.judgeCause (s.bankImage b) ∧ t.bit R.ACRD_STATUS.VDONE = true ∧
      t.bit R.ACRD_STATUS.STAGED_OK = decide (s.judgeCause (s.bankImage b) = 0) ∧
      (t.acrd.staged.isSome = true ↔ s.judgeCause (s.bankImage b) = 0 ∧ s.acrd.defaults = false) ∧
      t.sys.phase = s.sys.phase ∧ Frame (.clock :: .acrd :: .seq :: .link :: notes) s t)) ∧
  (∀ (r : Req) (bank b : Bool) (s : State), s.may r R.ACRD_CTRL.reg true none = true →
      s.bit R.ACRD_STATUS.STAGED_OK = true → s.acrd.stagedBank = some b → (s.acrd.defaults = true → b = bank) →
      Does (.selectStaged r bank) s (fun t =>
      t = (s.writeSelector b).hostWrite r 0xD1 (2 + 16 * bank.toNat) ∧ t.acrd.image = s.acrd.image ∧
      t.acrd.active = s.acrd.active)) ∧
  (∀ (r : Req) (id : BitVec 12) (v : Word) (persist : Bool) (s : State),
      s.may r 0x400D0034 true (some 0xE0) = true → Does (.paramWrite r id v persist) s (fun t =>
      t.bit (R.ACRD_PARAM_STAT.DONE (reqCode r)) = true ∧
      t.fld (R.ACRD_PARAM_STAT.RESULT (reqCode r)) = s.paramJudge r id.toNat v persist ∧
      t.sys.phase = s.sys.phase)) ∧
  (∀ (r : Req) (id : BitVec 12) (v : Word) (persist : Bool) (s : State),
      s.may r 0x400D0034 true (some 0xE0) = false →
      exec (.paramWrite r id v persist) s = .next (s.denied r true)) ∧
  (∀ (r : Req) (id : BitVec 12) (v : Word) (persist : Bool) (s : State),
      s.may r 0x400D0034 true (some 0xE0) = true → s.paramJudge r id.toNat v persist ≠ 0 →
      Does (.paramWrite r id v persist) s (fun t =>
      t.acrd = s.acrd ∧ t.loops = s.loops ∧ Frame notes s t ∧
      RegsOnly [R.ACRD_PARAM_VAL.reg (reqCode r), R.ACRD_PARAM_STAT.reg (reqCode r), R.HOST_LAST_TS_LO.reg, R.HOST_LAST_TS_HI.reg] s t)) ∧
  (∀ (r : Req) (id : BitVec 12) (v : Word) (persist : Bool) (p : Param) (im : Image) (s : State),
      s.may r 0x400D0034 true (some 0xE0) = true → s.paramJudge r id.toNat v persist = 0 →
      s.param id.toNat = some p → s.acrd.image = some im → Does (.paramWrite r id v persist) s (fun t =>
      t.acrd.journal = journalNext s.acrd.journal p.id v ∧
      t.pair R.ACRD_DIGEST_LO.reg R.ACRD_DIGEST_HI.reg = digestOf im.hash (journalNext s.acrd.journal p.id v) ∧
      Counts R.ACRD_JOURNAL.COUNT s t ∧ t.acrd.image = s.acrd.image ∧
      (p.flag 5 = false → p.target = 0 → t.acrd.paramFile.at 0#32 p.id = v) ∧
      (p.flag 5 = false → 0x40020000 ≤ p.target → p.target < 0x40030000 → p.lsb + p.width ≤ 32 → (t.reg p.target).field p.lsb p.width = v.toNat % 2 ^ p.width))) ∧
  (∀ (id : BitVec 12) (v : Word) (persist : Bool) (m : BusMsg) (s : State), s.takesWrite m 0xE0 7 7 = true →
      Does (.paramWrite .hostBus id v persist (some m)) s (fun t =>
      t.bit (R.ACRD_PARAM_STAT.DONE (reqCode .hostBus)) = true ∧
      t.fld (R.ACRD_PARAM_STAT.RESULT (reqCode .hostBus)) = s.openBus.paramJudge .hostBus (bytesAt m.data 0 2) (BitVec.ofNat 32 (bytesAt m.data 2 4)) (decide (bytesAt m.data 6 1 % 2 = 1)) ∧
      t.host.refused = false ∧ t.pair R.HOST_LAST_TS_LO.reg R.HOST_LAST_TS_HI.reg = s.now)) ∧
  (∀ (r : Req) (id : BitVec 12) (p : Param) (s : State), s.may r 0x400D0034 true none = true →
      s.sys.stage = .released → s.acrd.defaults = false → s.param id.toNat = some p →
      Does (.paramRead r id) s (fun t =>
      t.reg (R.ACRD_PARAM_VAL.reg (reqCode r)) = s.paramValue p ∧
      t.bit (R.ACRD_PARAM_STAT.DONE (reqCode r)) = true ∧ t.fld (R.ACRD_PARAM_STAT.RESULT (reqCode r)) = 0 ∧
      Frame notes s t)) ∧
  (∀ (r : Req) (id : BitVec 12) (p : Param) (s : State), s.may r 0x400D0034 true none = true →
      s.sys.stage = .released → s.acrd.defaults = false → s.param id.toNat = some p →
      Does (.paramReadDefault r id) s (fun t =>
      t.reg (R.ACRD_PARAM_VAL.reg (reqCode r)) = p.dflt ∧ t.bit (R.ACRD_PARAM_STAT.DONE (reqCode r)) = true ∧
      t.fld (R.ACRD_PARAM_STAT.RESULT (reqCode r)) = 0 ∧ Frame notes s t)) ∧
  (∀ (tile : Fin 4096) (frame : Fin 128) (s : State), s.fabricOn = true → (s.tile tile).frozen = false →
      s.acrd.reloading ≠ some tile.val → s.acrd.switching = false → s.sys.pllE = .locked →
      Does (.scrubFrameRead tile frame) s (fun t =>
      (((s.tile tile).upsets.filter (fun c => c / 64 = frame.val)).length = 0 → t = s) ∧
      (((s.tile tile).upsets.filter (fun c => c / 64 = frame.val)).length = 1 → (t.tile tile).upsets = (s.tile tile).upsets.filter (fun c => c / 64 ≠ frame.val) ∧ (t.tile tile).frozen = false) ∧
      (2 ≤ ((s.tile tile).upsets.filter (fun c => c / 64 = frame.val)).length → (t.tile tile).frozen = true) ∧
      (∀ k, k ≠ tile.val → t.tile k = s.tile k))) ∧
  (∀ (r : Req) (w : Word) (s : State), s.may r R.ACRD_TILE_RELOAD.reg true none = true → w.field 24 8 = 0x5A →
      (s.tile (w.field 0 12)).frozen = true → s.bit R.ACRD_STATUS.RELOAD_BUSY = false →
      Does (.tileReloadRequest r w) s (fun t =>
      t.acrd.reloading = some (w.field 0 12) ∧ t.bit R.ACRD_STATUS.RELOAD_BUSY = true ∧
      t.deadline T.tileReload = some (s.ns + 12000) ∧ Frame (.acrd :: notes) s t)) ∧
  (∀ (n : Nat) (s : State), s.acrd.reloading = some n → s.runs T.tileReload = true →
      Does .tileReloadDone s (fun t =>
      t.acrd.reloading = none ∧ t.bit R.ACRD_STATUS.RELOAD_BUSY = false ∧
      (s.tileChecks n = true → t.tile n = Tile.zero) ∧
      (s.tileChecks n = false → t.bit R.ACRD_STATUS.RELOAD_ERR = true ∧ t.tile n = s.tile n) ∧
      Frame (.clock :: .acrd :: .seq :: .link :: notes) s t ∧ RegsIn [B.acrd] s t)) ∧
  (∀ (tile : Fin 4096) (timer : Fin 2) (s : State), s.tileRuns tile = true → s.timerUsed tile timer = true →
      Does (.tileTimerExpiry tile timer) s (fun t =>
      (t.tile tile).timerHit.testBit timer = true ∧ (∀ k, k ≠ tile.val → t.tile k = s.tile k) ∧
      (t.tile tile).bits = some (Config.tileBits s.freeCount) ∧ Frame [.acrd, .freeCount] s t)) ∧
  (∀ (tile : Fin 4096) (cell : Fin 8192) (s : State), s.fabricOn = true → Does (.cellUpset tile cell) s (fun t =>
      (cell.val ∈ (t.tile tile).upsets ↔ cell.val ∉ (s.tile tile).upsets) ∧
      (∀ k, k ≠ tile.val → t.tile k = s.tile k) ∧ Frame [.acrd] s t)) ∧
  (∀ (tile : Fin 4096) (cell : Fin 8192) (s : State), s.fabricOn = false →
      exec (.cellUpset tile cell) s = .next s)

/-- Action lines of the fabric and the scheduled switch.  Each group of action lines takes the reported level, or
holds it during a switch, and its edge shuts its group down, requests its conversion, asserts its reset output,
takes its snapshot, raises its event, commands its loop or raises FS_63; a scheduled switch begins at its time
and its release ends it. The model's choices: what drives a line and the state bits of tiles (log entries 35 and
162), what changes at T (log entry 46), the held copy of the lines (log entry 47). Clauses that a command whose
precondition fails changes nothing rest on log entry 4, and those that carry time to a deadline on log entry 3.
(spec/01_accord.md, spec/07_sequencer.md.) -/
def Obligations.FabricLinesComplete : Prop :=
  (∀ (n : Fin 64) (level : Bool) (k : Nat) (s : State), s.driver n.val = some k → s.tileRuns k = true →
      Does (.fabricTermChange n level) s (fun t =>
      (s.linesHeld = true → t.acrd.heldAct.getLsbD n.val = level ∧ t.acrd.act = s.acrd.act) ∧
      (s.linesHeld = false → t.acrd.act.getLsbD n.val = level) ∧
      (∀ j, j ≠ n.val → s.linesHeld = false → t.acrd.act.getLsbD j = s.acrd.act.getLsbD j) ∧
      (t.tile k).bits = some (Config.tileBits s.freeCount) ∧ Frame [.acrd, .freeCount] s t)) ∧
  (∀ (n : Fin 64) (level : Bool) (s : State), s.driver n.val = none → Does (.fabricTermChange n level) s (fun t =>
      t = s)) ∧
  (∀ (n : Fin 16) (level : Bool) (k : Nat) (s : State), s.driver (64 + n.val) = some k → s.tileRuns k = true →
      Does (.fabricGroupShutdown n level) s (fun t =>
      (s.linesHeld = true → t.acrd.heldAct.getLsbD (64 + n.val) = level ∧ t.acrd.act = s.acrd.act) ∧
      (s.linesHeld = false → t.acrd.act.getLsbD (64 + n.val) = level))) ∧
  (∀ (n : Fin 16) (level : Bool) (s : State), s.driver (64 + n.val) = none →
      Does (.fabricGroupShutdown n level) s (fun t =>
      t = s.rstoRefresh)) ∧
  (∀ (n : Fin 16) (level : Bool) (k : Nat) (s : State), s.driver (80 + n.val) = some k → s.tileRuns k = true →
      Does (.fabricUrgentRequest n level) s (fun t =>
      (s.linesHeld = true → t.acrd.heldAct.getLsbD (80 + n.val) = level ∧ t.acrd.act = s.acrd.act) ∧
      (s.linesHeld = false → t.acrd.act.getLsbD (80 + n.val) = level))) ∧
  (∀ (n : Fin 16) (level : Bool) (s : State), s.driver (80 + n.val) = none →
      Does (.fabricUrgentRequest n level) s (fun t =>
      t = s)) ∧
  (∀ (n : Fin 64) (level : Bool) (k : Nat) (s : State), s.driver (96 + n.val) = some k → s.tileRuns k = true →
      Does (.fabricFs63Raise n level) s (fun t =>
      (s.linesHeld = true → t.acrd.heldAct.getLsbD (96 + n.val) = level ∧ t.acrd.act = s.acrd.act) ∧
      (s.linesHeld = false → t.acrd.act.getLsbD (96 + n.val) = level) ∧
      (level = true → s.linesHeld = false → s.acrd.act.getLsbD (96 + n.val) = false → ∃ u : State, t = State.traceRec (u.raise 63) 0x0D00 3 n.val ∧ u.fstat = s.fstat))) ∧
  (∀ (n : Fin 64) (level : Bool) (s : State), s.driver (96 + n.val) = none →
      Does (.fabricFs63Raise n level) s (fun t =>
      t = s)) ∧
  (∀ (n : Fin 24) (level : Bool) (k : Nat) (s : State), s.driver (160 + n.val) = some k → s.tileRuns k = true →
      Does (.fabricGpLevel n level) s (fun t =>
      (s.linesHeld = true → t.acrd.heldAct.getLsbD (160 + n.val) = level ∧ t.acrd.act = s.acrd.act) ∧
      (s.linesHeld = false → t.acrd.act.getLsbD (160 + n.val) = level) ∧
      (∀ j, j ≠ (160 + n.val) → s.linesHeld = false → t.acrd.act.getLsbD j = s.acrd.act.getLsbD j) ∧
      (t.tile k).bits = some (Config.tileBits s.freeCount) ∧ Frame [.acrd, .freeCount] s t)) ∧
  (∀ (n : Fin 24) (level : Bool) (s : State), s.driver (160 + n.val) = none →
      Does (.fabricGpLevel n level) s (fun t =>
      t = s)) ∧
  (∀ (n : Fin 8) (level : Bool) (k : Nat) (s : State), s.driver (184 + n.val) = some k → s.tileRuns k = true →
      Does (.fabricRstoAssert n level) s (fun t =>
      (s.linesHeld = true → t.acrd.heldAct.getLsbD (184 + n.val) = level ∧ t.acrd.act = s.acrd.act) ∧
      (s.linesHeld = false → t.acrd.act.getLsbD (184 + n.val) = level))) ∧
  (∀ (n : Fin 8) (level : Bool) (s : State), s.driver (184 + n.val) = none →
      Does (.fabricRstoAssert n level) s (fun t =>
      t = s.rstoRefresh)) ∧
  (∀ (n : Fin 24) (level : Bool) (k : Nat) (s : State), s.driver (192 + n.val) = some k → s.tileRuns k = true →
      Does (.fabricSetpointCommand n level) s (fun t =>
      (s.linesHeld = true → t.acrd.heldAct.getLsbD (192 + n.val) = level ∧ t.acrd.act = s.acrd.act) ∧
      (s.linesHeld = false → t.acrd.act.getLsbD (192 + n.val) = level))) ∧
  (∀ (n : Fin 24) (level : Bool) (s : State), s.driver (192 + n.val) = none →
      Does (.fabricSetpointCommand n level) s (fun t =>
      t = s)) ∧
  (∀ (n : Fin 32) (level : Bool) (k : Nat) (s : State), s.driver (216 + n.val) = some k → s.tileRuns k = true →
      Does (.fabricEventRaise n level) s (fun t =>
      (s.linesHeld = true → t.acrd.heldAct.getLsbD (216 + n.val) = level ∧ t.acrd.act = s.acrd.act) ∧
      (s.linesHeld = false → t.acrd.act.getLsbD (216 + n.val) = level) ∧
      (level = true → s.linesHeld = false → s.acrd.act.getLsbD (216 + n.val) = false → ∃ u : State, t = State.event u (96 + n.val) ∧ u.regs = s.regs))) ∧
  (∀ (n : Fin 32) (level : Bool) (s : State), s.driver (216 + n.val) = none →
      Does (.fabricEventRaise n level) s (fun t =>
      t = s)) ∧
  (∀ (level : Bool) (k : Nat) (s : State), s.driver 248 = some k → s.tileRuns k = true →
      Does (.fabricSnapshotRequest level) s (fun t =>
      (s.linesHeld = true → t.acrd.heldAct.getLsbD 248 = level ∧ t.acrd.act = s.acrd.act) ∧
      (s.linesHeld = false → t.acrd.act.getLsbD 248 = level))) ∧
  (∀ (level : Bool) (s : State), s.driver 248 = none → Does (.fabricSnapshotRequest level) s (fun t =>
      t = s)) ∧
  (∀ (n : Fin 16) (k : Nat) (s : State), s.driver (64 + n.val) = some k → s.tileRuns k = true →
      s.linesHeld = false → s.acrd.act.getLsbD (64 + n.val) = false → s.seqHeld = false → s.sysHolds = false →
      (s.fld (R.SEQ_GRP_STATUS.STATE n) ≠ 1 ∨ (s.group n).byHandover = true) →
      Does (.fabricGroupShutdown n true) s (fun t =>
      t.fld (R.SEQ_GRP_STATUS.STATE n) = 1 ∧ t.bit (R.SEQ_GRP_STATUS.EXH n) = false ∧
      (t.group n).byHandover = false ∧ t.deadline (T.rsdly n) = none)) ∧
  (∀ (n : Fin 16) (k : Nat) (s : State), s.driver (80 + n.val) = some k → s.tileRuns k = true →
      s.linesHeld = false → s.acrd.act.getLsbD (80 + n.val) = false → s.meas.running = true →
      4 ≤ (s.conv ((s.reg (R.MEAS_URG_MAP.reg (n.val / 4))).field (8 * (n.val % 4)) 8 / 32)).uq.length →
      Does (.fabricUrgentRequest n true) s (fun t =>
      Counts (R.MEAS_MC_CNT.DROP ((s.reg (R.MEAS_URG_MAP.reg (n.val / 4))).field (8 * (n.val % 4)) 8 / 32)) s t ∧
      t.meas = s.meas)) ∧
  (∀ (n : Fin 16) (k : Nat) (v : Visit) (s : State), s.driver (80 + n.val) = some k → s.tileRuns k = true →
      s.linesHeld = false → s.acrd.act.getLsbD (80 + n.val) = false → s.meas.running = true →
      (s.conv ((s.reg (R.MEAS_URG_MAP.reg (n.val / 4))).field (8 * (n.val % 4)) 8 / 32)).uq.length < 4 →
      (s.conv ((s.reg (R.MEAS_URG_MAP.reg (n.val / 4))).field (8 * (n.val % 4)) 8 / 32)).visit = some v →
      v.urgent.isSome = true → Does (.fabricUrgentRequest n true) s (fun t =>
      (t.conv ((s.reg (R.MEAS_URG_MAP.reg (n.val / 4))).field (8 * (n.val % 4)) 8 / 32)).uq = (s.conv ((s.reg (R.MEAS_URG_MAP.reg (n.val / 4))).field (8 * (n.val % 4)) 8 / 32)).uq ++ [((s.reg (R.MEAS_URG_MAP.reg (n.val / 4))).field (8 * (n.val % 4)) 8, none)])) ∧
  (∀ (n : Fin 16) (k : Nat) (s : State), s.driver (80 + n.val) = some k → s.tileRuns k = true →
      s.linesHeld = false → s.acrd.act.getLsbD (80 + n.val) = false → s.meas.running = false →
      Does (.fabricUrgentRequest n true) s (fun t =>
      t.meas = s.meas ∧ Frame [.acrd, .freeCount] s t)) ∧
  (∀ (n : Fin 8) (k : Nat) (s : State), s.driver (184 + n.val) = some k → s.tileRuns k = true →
      s.linesHeld = false → s.acrd.act.getLsbD (184 + n.val) = false → s.supRuns = true →
      s.bit (R.SUP_RSTO_CFG.EN n) = true → (s.fld (R.SUP_RSTO_CFG.SRC n)).testBit 1 = true →
      Does (.fabricRstoAssert n true) s (fun t =>
      t.bit (R.SUP_RSTO_STATUS.LOW n) = true ∧
      (s.bit (R.SUP_RSTO_STATUS.LOW n) = false → t.runs (T.rstoMin n) = true))) ∧
  (∀ (k : Nat) (s : State), s.driver 248 = some k → s.tileRuns k = true → s.linesHeld = false →
      s.acrd.act.getLsbD 248 = false → s.seq.snapEntries.length < 4 →
      Does (.fabricSnapshotRequest true) s (fun t =>
      t.seq.snapEntries.length = s.seq.snapEntries.length + 1 ∧
      (∀ p ∈ t.seq.snapEntries.getLast?, p.ftime = s.now ∧ p.rail = 0xFF ∧ p.ctime = s.now))) ∧
  (∀ (k : Nat) (s : State), s.driver 248 = some k → s.tileRuns k = true → s.linesHeld = false →
      s.acrd.act.getLsbD 248 = false → 4 ≤ s.seq.snapEntries.length →
      s.seq.snapPending.any (fun p => p.rail = 0xFF) = false → Does (.fabricSnapshotRequest true) s (fun t =>
      t.seq.snapEntries = s.seq.snapEntries ∧ t.seq.snapPending.length = s.seq.snapPending.length + 1)) ∧
  (∀ (n : Fin 24) (k : Nat) (s : State), s.driver (192 + n.val) = some k → s.tileRuns k = true →
      s.linesHeld = false → s.acrd.act.getLsbD (192 + n.val) = false → s.sys.phase ≠ .safe →
      s.sys.stage = .released → s.refusal n .fabric (s.fld (R.LOOP_FSET.TARGET n)) = none →
      s.lstate n = L.off → s.fld (R.LOOP_LOCK.OWNER n) ≠ srcCode .fabric →
      (s.loop n).lastRank ≤ srcRank .fabric → Does (.fabricSetpointCommand n true) s (fun t =>
      t.target n = s.fld (R.LOOP_FSET.TARGET n))) ∧
  (∀ (im : Image) (s : State), s.bit R.ACRD_STATUS.SWITCH_PEND = true → s.link.swGo = true →
      s.acrd.switching = false → s.acrd.staged = some im → Does .scheduledSwitch s (fun t =>
      t.acrd.switching = true ∧ t.acrd.image = some im ∧ t.acrd.heldAct = s.acrd.act ∧
      t.deadline T.switchRel = some (t.ns + 3000000) ∧ t.clock = max s.clock (2 * s.localAt s.link.swT.toNat))) ∧
  (∀ (im : Image) (s : State), s.acrd.switching = true → s.runs T.switchRel = true → s.acrd.image = some im →
      Does .switchRelease s (fun t =>
      t.acrd.switching = false ∧ t.acrd.active = s.acrd.stagedBank ∧ t.acrd.image = some im))

/-- Words, urgent requests, snapshots and the queue.  A valid word updates the latch of its channel and an invalid
one no channel; urgent requests, TAKE, CLEAR, TAKE_CLEAR, by a register or by the two-wire message, the end of a
TAKE and a queue release complete as R197 to R204 give. The model's choices: the calibration of a word is a
constant of the configuration (log entry 79), and a refused TAKE_CLEAR clears nothing (log entry 82). Clauses
that a command whose precondition fails changes nothing rest on log entry 4, and those that carry time to a
deadline on log entry 3.  (spec/10_measurement.md.) -/
def Obligations.MeasurementCommandsComplete : Prop :=
  (∀ (k : Fin 8) (code : Int) (v : Visit) (s : State), (s.conv k).visit = some v → v.ch < 32 → v.inv = 0 →
      v.ow = none → s.sys.pllM = .locked → Does (.converterWord k code) s (fun t =>
      (t.chan (32 * k + v.ch)).latest = (s.chanValue (32 * k + v.ch) v.gain (s.calibrated k v.gain (clampInt (-codeMax) codeMax code))).1 ∧
      t.bit (R.MEAS_CH_STATUS.LV (32 * k + v.ch)) = true ∧
      Frame (.clock :: .seq :: .meas :: .link :: notes) s t ∧ RegsIn [B.evt, B.link, B.meas] s t)) ∧
  (∀ (k : Fin 8) (code : Int) (v : Visit) (s : State), (s.conv k).visit = some v →
      (0 < v.inv ∨ s.sys.pllM ≠ .locked) → v.n = 0 → Does (.converterWord k code) s (fun t =>
      (∀ c, t.chan c = s.chan c) ∧ t.sys = s.sys ∧ Frame (.clock :: .seq :: .meas :: .link :: notes) s t ∧
      RegsIn [B.evt, B.link, B.meas] s t)) ∧
  (∀ (e : Fin 16) (ch : Fin 256) (s : State), s.meas.running = true → Does (.urgentRequest e ch) s (fun t =>
      t.fld (R.MEAS_URG_REQ.CH e) = ch.val ∧
      t.bit (R.MEAS_URG_STAT.REFUSED e) = decide (4 ≤ (s.conv (ch.val / 32)).uq.length) ∧
      t.bit (R.MEAS_URG_STAT.DONE e) = false ∧ Frame [.regs, .timers, .meas, .evt, .host, .bist] s t ∧
      RegsIn [B.bist, B.meas] s t)) ∧
  (∀ (r : Req) (buf : Fin 4) (s : State), s.may r R.MEAS_SNAP_CMD.reg true (some 0xD4) = true →
      Does (.snapshotTake r buf) s (fun t =>
      (s.bit (R.MEAS_SNAP_STAT.READY buf) = true → t.bit (R.MEAS_SNAP_STAT.READY buf) = false ∧ (t.snapBuf buf).taken = some (s.now, s.capture) ∧ t.deadline (T.snap buf) = some (s.ns + 20000)) ∧
      (s.bit (R.MEAS_SNAP_STAT.READY buf) = false → t.bit (R.MEAS_SNAP_STAT.REJ buf) = true ∧ t.meas = s.meas) ∧
      Frame (.seq :: .meas :: .link :: notes) s t ∧ RegsIn [B.evt, B.host, B.link, B.meas] s t)) ∧
  (∀ (r : Req) (buf : Fin 4) (s : State), s.may r R.MEAS_SNAP_CMD.reg true (some 0xD4) = true →
      Does (.snapshotClear r buf) s (fun t =>
      (∀ c, c < 256 → t.chan c = (s.chan c).cleared ∧ t.bit (R.MEAS_CH_STATUS.ASAT c) = false) ∧
      t.meas.bufs = s.meas.bufs ∧ Frame (.seq :: .meas :: .link :: notes) s t ∧
      RegsIn [B.evt, B.host, B.link, B.meas] s t)) ∧
  (∀ (r : Req) (buf : Fin 4) (s : State), s.may r R.MEAS_SNAP_CMD.reg true (some 0xD4) = true →
      Does (.snapshotTakeClear r buf) s (fun t =>
      (s.bit (R.MEAS_SNAP_STAT.READY buf) = true → t.bit (R.MEAS_SNAP_STAT.READY buf) = false ∧ (t.snapBuf buf).taken = some (s.now, s.capture) ∧ t.deadline (T.snap buf) = some (s.ns + 20000)) ∧
      (s.bit (R.MEAS_SNAP_STAT.READY buf) = true → ∀ c, c < 256 → t.chan c = (s.chan c).cleared) ∧
      (s.bit (R.MEAS_SNAP_STAT.READY buf) = false → t.bit (R.MEAS_SNAP_STAT.REJ buf) = true ∧ t.meas = s.meas) ∧
      Frame (.seq :: .meas :: .link :: notes) s t ∧ RegsIn [B.evt, B.host, B.link, B.meas] s t)) ∧
  (∀ (buf : Fin 4) (m : BusMsg) (s : State), s.takesWrite m 0xD4 1 1 = true → bytesLE m.data % 4 = 1 →
      Does (.snapshotTake .hostBus buf (some m)) s (fun t =>
      (∀ n, n < 4 → n = bytesLE m.data / 4 % 4 → s.bit (R.MEAS_SNAP_STAT.READY n) = true → t.bit (R.MEAS_SNAP_STAT.READY n) = false ∧ (t.snapBuf n).taken = some (s.now, s.capture) ∧ t.deadline (T.snap n) = some (s.ns + 20000)) ∧
      (∀ n, n < 4 → n = bytesLE m.data / 4 % 4 → s.bit (R.MEAS_SNAP_STAT.READY n) = false → t.bit (R.MEAS_SNAP_STAT.REJ n) = true ∧ t.meas = s.meas) ∧
      t.host.refused = false ∧ t.pair R.HOST_LAST_TS_LO.reg R.HOST_LAST_TS_HI.reg = s.now ∧
      Frame (.seq :: .meas :: .link :: notes) s t ∧ RegsIn [B.evt, B.host, B.link, B.meas] s t)) ∧
  (∀ (buf : Fin 4) (m : BusMsg) (s : State), s.busOn = false →
      exec (.snapshotTake .hostBus buf (some m)) s = .next s) ∧
  (∀ (buf : Fin 4) (m : BusMsg) (s : State), s.takesWrite m 0xD4 1 1 = true → bytesLE m.data % 4 = 2 →
      Does (.snapshotClear .hostBus buf (some m)) s (fun t =>
      (∀ c, c < 256 → t.chan c = (s.chan c).cleared) ∧ t.host.refused = false ∧
      t.pair R.HOST_LAST_TS_LO.reg R.HOST_LAST_TS_HI.reg = s.now ∧
      Frame (.seq :: .meas :: .link :: notes) s t ∧ RegsIn [B.evt, B.host, B.link, B.meas] s t)) ∧
  (∀ (buf : Fin 4) (m : BusMsg) (s : State), s.busOn = false →
      exec (.snapshotClear .hostBus buf (some m)) s = .next s) ∧
  (∀ (buf : Fin 4) (m : BusMsg) (s : State), s.takesWrite m 0xD4 1 1 = true → bytesLE m.data % 4 = 3 →
      Does (.snapshotTakeClear .hostBus buf (some m)) s (fun t =>
      (∀ n, n < 4 → n = bytesLE m.data / 4 % 4 → s.bit (R.MEAS_SNAP_STAT.READY n) = true → t.bit (R.MEAS_SNAP_STAT.READY n) = false ∧ (t.snapBuf n).taken = some (s.now, s.capture) ∧ t.deadline (T.snap n) = some (s.ns + 20000)) ∧
      (∀ n, n < 4 → n = bytesLE m.data / 4 % 4 → s.bit (R.MEAS_SNAP_STAT.READY n) = false → t.bit (R.MEAS_SNAP_STAT.REJ n) = true ∧ t.meas = s.meas) ∧
      (s.bit (R.MEAS_SNAP_STAT.READY (bytesLE m.data / 4 % 4)) = true → ∀ c, c < 256 → t.chan c = (s.chan c).cleared) ∧
      t.host.refused = false ∧ t.pair R.HOST_LAST_TS_LO.reg R.HOST_LAST_TS_HI.reg = s.now ∧
      Frame (.seq :: .meas :: .link :: notes) s t ∧ RegsIn [B.evt, B.host, B.link, B.meas] s t)) ∧
  (∀ (buf : Fin 4) (m : BusMsg) (s : State), s.busOn = false →
      exec (.snapshotTakeClear .hostBus buf (some m)) s = .next s) ∧
  (∀ (buf : Fin 4) (at_ : BitVec 64) (ch : Cells SnapChan) (s : State), (s.snapBuf buf).taken = some (at_, ch) →
      Does (.snapshotReady buf) s (fun t =>
      t.snapBuf buf = ⟨at_, ch, none⟩ ∧ t.bit (R.MEAS_SNAP_STAT.READY buf) = true ∧
      t.fld (R.MEAS_SNAP_STAT.SEQ buf) = (s.fld (R.MEAS_SNAP_STAT.SEQ buf) + 1) % 65536 ∧
      Frame [.regs, .timers, .meas, .evt, .host] s t ∧ RegsIn [B.meas] s t)) ∧
  (∀ (e : Fin 16) (rd : BitVec 12) (s : State), s.bit R.MEAS_Q_CFG.OWNER = true → rd.toNat < s.queueDepth →
      s.fld R.MEAS_Q_PTR.RD < s.queueDepth →
      (rd.toNat + s.queueDepth - s.fld R.MEAS_Q_PTR.RD) % s.queueDepth ≤ s.fld R.MEAS_Q_STAT.COUNT →
      Does (.queueRelease e rd) s (fun t =>
      t.fld R.MEAS_Q_PTR.RD = rd.toNat ∧
      t.fld R.MEAS_Q_STAT.COUNT = s.fld R.MEAS_Q_STAT.COUNT - (rd.toNat + s.queueDepth - s.fld R.MEAS_Q_PTR.RD) % s.queueDepth ∧
      Frame [.regs] s t)) ∧
  (∀ (e : Fin 16) (rd : BitVec 12) (s : State), s.bit R.MEAS_Q_CFG.OWNER = false →
      exec (.queueRelease e rd) s = .next s)

/-- The backup power path.  Soft start, triggers and hand-over, pack warning and cut, return, excursions and VSYS_OK
move the path between the states of Table 9.2, with the gates and status bits of the rules and the raises of
FS_40, FS_41 and FS_42. The comparison of the pack voltage that no filter has passed is the model's choice (log
entry 70). Clauses that a command whose precondition fails changes nothing rest on log entry 4, and those that
carry time to a deadline on log entry 3.  (spec/09_backup_path.md.) -/
def Obligations.PowerPathCompletes : Prop :=
  (∀ (s : State), (s.pst = P.softVin ∨ s.pst = P.softBat) → Does .softStartEnd s (fun t =>
      (s.pst = P.softVin → t.pst = P.onVin ∧ t.path.gin = !s.path.revCond ∧ t.path.bsw = false) ∧
      (s.pst = P.softBat → t.path.bsw = true ∧ (t.pst = P.onBat ∨ t.pst = P.ret)) ∧
      Frame [.regs, .timers, .path, .evt, .host] s t ∧ RegsIn [B.path] s t)) ∧
  (∀ (s : State), (s.pst ≠ P.softVin ∧ s.pst ≠ P.softBat) → exec .softStartEnd s = .next s) ∧
  (∀ (s : State), (s.pst = P.softVin ∨ s.pst = P.softBat) → Does .softStartTimeout s (fun t =>
      t.pst = P.nosrc ∧ t.path.gin = false ∧ t.path.bsw = false ∧ t.bit R.PATH_STATUS.SSFAIL = true ∧
      Frame [.regs, .timers, .path, .evt, .host] s t ∧ RegsIn [B.path] s t)) ∧
  (∀ (s : State), (s.pst ≠ P.softVin ∧ s.pst ≠ P.softBat) → exec .softStartTimeout s = .next s) ∧
  (∀ (s : State), (s.runs T.vinStable = true ∨ s.runs T.pathWait = true) → Does .vinStable s (fun t =>
      (s.runs T.vinStable = true → t.bit R.PATH_STATUS.VIN_STABLE = true ∧ t.deadline T.vinStable = none) ∧
      (s.runs T.vinStable = false → t.deadline T.pathWait = none) ∧ s.clock ≤ t.clock ∧
      Frame [.clock, .regs, .timers, .path, .evt, .host] s t ∧ RegsIn [B.path] s t)) ∧
  (∀ (s : State), (s.runs T.vinStable = false ∧ s.runs T.pathWait = false) → exec .vinStable s = .next s) ∧
  (∀ (present : Bool) (s : State), s.pathOn = true → Does (.reverseDetect present) s (fun t =>
      t.path.revCond = present ∧
      (present = true → s.pst = P.onVin → s.bit R.PATH_CFG.REVEN = true → s.handoverOk = true → t.pst = P.handover ∧ t.fld R.PATH_STATUS.TRIG = 2 ∧ t.path.bsw = true ∧ t.path.gin = false ∧ t.path.trigAt = s.ns) ∧
      ((present = false ∨ s.pst ≠ P.onVin ∨ s.bit R.PATH_CFG.REVEN = false) → Frame [.path] s t) ∧
      ((present = false ∨ s.pst ≠ P.onVin) → t.path.gin = (if s.inputDiode then !present else s.path.gin)))) ∧
  (∀ (present : Bool) (s : State), s.pathOn = false → exec (.reverseDetect present) s = .next s) ∧
  (∀ (present : Bool) (s : State), s.pathOn = true → Does (.vsysLowDetect present) s (fun t =>
      t.path.vlowCond = present ∧
      (present = true → s.pst = P.onVin → s.bit R.PATH_CFG.VLEN = true → s.handoverOk = true → t.pst = P.handover ∧ t.fld R.PATH_STATUS.TRIG = 3 ∧ t.path.bsw = true ∧ t.path.gin = false ∧ t.path.trigAt = s.ns) ∧
      ((present = false ∨ s.pst ≠ P.onVin ∨ s.bit R.PATH_CFG.VLEN = false) → Frame [.path] s t))) ∧
  (∀ (present : Bool) (s : State), s.pathOn = false → exec (.vsysLowDetect present) s = .next s) ∧
  (∀ (slow : Bool) (s : State), s.pst = P.handover → Does (.handoverComplete slow) s (fun t =>
      t.fld R.PATH_HO_DLY.DLY = min 0xFFFF (t.ns - s.path.trigAt) ∧
      (s.flt.collecting = true → t.fstat.getLsbD 40 = true) ∧
      (slow = true → t.bit R.PATH_STATUS.BSW_SLOW = true) ∧
      (s.path.afterHo = false → t.pst = P.onBat ∨ t.pst = P.ret) ∧
      (s.path.afterHo = true → s.bit R.PATH_SVC.LPACT = false → t.pst = P.nosrc) ∧
      Frame (.clock :: .seq :: .path :: .link :: notes) s t ∧ RegsIn [B.path] s t)) ∧
  (∀ (slow : Bool) (s : State), s.pst ≠ P.handover → exec (.handoverComplete slow) s = .next s) ∧
  (∀ (off : Bool) (s : State), (s.pst = P.onBat ∨ s.pst = P.ret) → Does (.bswReverseOff off) s (fun t =>
      t.path.bsw = !off ∧ Frame [.path] s t)) ∧
  (∀ (off : Bool) (s : State), (s.pst ≠ P.onBat ∧ s.pst ≠ P.ret) → exec (.bswReverseOff off) s = .next s) ∧
  (∀ (mv held : Nat) (s : State), s.pathOn = true → s.path.warnHold = false → mv < s.warnLevel →
      packFilter ≤ held → Does (.packWarning mv held) s (fun t =>
      t.path.warnHold = true ∧ t.bit R.PATH_STATUS.WARN = true ∧ Frame (.path :: notes) s t ∧
      RegsOnly [R.PATH_STATUS.reg] s t)) ∧
  (∀ (mv held : Nat) (s : State), (s.pathOn = false ∨ s.warnLevel ≤ mv ∨ held < packFilter) →
      exec (.packWarning mv held) s = .next s) ∧
  (∀ (mv held : Nat) (s : State), s.pathOn = true → s.warnLevel < mv → packFilter ≤ held →
      Does (.packWarningEnd mv held) s (fun t =>
      t.path.warnHold = false ∧ t.bit R.PATH_STATUS.WARN = false ∧ Frame [.path, .regs] s t ∧
      RegsOnly [R.PATH_STATUS.reg] s t)) ∧
  (∀ (mv held : Nat) (s : State), (s.pathOn = false ∨ mv ≤ s.warnLevel ∨ held < packFilter) →
      exec (.packWarningEnd mv held) s = .next s) ∧
  (∀ (mv held : Nat) (s : State), s.pathOn = true → s.path.cutHold = false → mv < s.cutLevel →
      packFilter ≤ held → Does (.packCut mv held) s (fun t =>
      t.path.cutHold = true ∧ t.path.cutNow = true ∧ t.bit R.PATH_STATUS.CUT = true ∧
      t.bit R.PATH_STATUS.INHIBIT = true ∧ t.fld R.PATH_CHG_STATUS.CAUSE = 6 ∧
      (s.flt.collecting = true → t.fstat.getLsbD 42 = true) ∧ (s.pst = P.onBat → t.pst = P.nosrc) ∧
      (s.pst = P.handover → t.path.afterHo = true) ∧ Frame (.seq :: .path :: .link :: notes) s t ∧
      RegsIn [B.path] s t)) ∧
  (∀ (mv held : Nat) (s : State), (s.pathOn = false ∨ s.cutLevel < mv) → exec (.packCut mv held) s = .next s) ∧
  (∀ (mv held : Nat) (s : State), s.pathOn = true → mv ≤ s.cutLevel →
      (held < packFilter ∨ mv = s.cutLevel ∨ s.path.cutHold = true) → Does (.packCut mv held) s (fun t =>
      t.path.cutNow = true ∧ t.path.cutHold = s.path.cutHold ∧ t.bit R.PATH_STATUS.INHIBIT = true ∧
      Frame [.path, .regs] s t ∧ RegsOnly [R.PATH_STATUS.reg] s t)) ∧
  (∀ (mv held : Nat) (s : State), s.pathOn = true → s.cutLevel < mv → Does (.packCutEnd mv held) s (fun t =>
      t.path.cutNow = false ∧ t.path.cutHold = (s.path.cutHold && decide (held < packFilter)) ∧
      t.bit R.PATH_STATUS.CUT = s.bit R.PATH_STATUS.CUT ∧ Frame [.regs, .timers, .path, .evt, .host] s t ∧
      RegsIn [B.path] s t)) ∧
  (∀ (mv held : Nat) (s : State), (s.pathOn = false ∨ mv ≤ s.cutLevel) → exec (.packCutEnd mv held) s = .next s) ∧
  (∀ (s : State), (s.pst = P.ret ∨ s.pst = P.peerOut ∧ s.path.peerReturn = true) →
      Does .returnTransfer s (fun t =>
      t.pst = P.onVin ∧ t.path.gin = !s.path.revCond ∧ t.path.bsw = false ∧
      (s.flt.collecting = true → t.fstat.getLsbD 40 = true) ∧ Frame (.seq :: .path :: .link :: notes) s t ∧
      RegsIn [B.path] s t)) ∧
  (∀ (s : State), (s.pst ≠ P.ret ∧ (s.pst ≠ P.peerOut ∨ s.path.peerReturn = false)) →
      exec .returnTransfer s = .next s) ∧
  (∀ (s : State), s.runs T.retMax = true → s.pst = P.ret → Does .returnNoTransfer s (fun t =>
      t.pst = P.onBat ∧ t.path.gin = false ∧ t.deadline T.pathWait = some (t.ns + s.tRet) ∧
      Frame [.clock, .regs, .timers, .path, .evt, .host] s t ∧ RegsIn [B.path] s t)) ∧
  (∀ (s : State), s.runs T.retMax = false → exec .returnNoTransfer s = .next s) ∧
  (∀ (outside : Bool) (s : State), s.baseOn = true → Does (.vinExcursion outside) s (fun t =>
      t.path.excursion = outside ∧
      (outside = true → t.bit R.PATH_STATUS.VIN_STABLE = false ∧ t.deadline T.vinStable = none) ∧
      Frame [.regs, .timers, .path, .evt, .host] s t ∧ RegsIn [B.path] s t)) ∧
  (∀ (outside : Bool) (s : State), s.baseOn = false → exec (.vinExcursion outside) s = .next s) ∧
  (∀ (ok : Bool) (s : State), s.pathOn = true → Does (.vsysOkChange ok) s (fun t =>
      t.bit R.PATH_STATUS.VSYS_OK = ok ∧ Frame [.regs] s t ∧ RegsOnly [R.PATH_STATUS.reg] s t)) ∧
  (∀ (ok : Bool) (s : State), s.pathOn = false → exec (.vsysOkChange ok) s = .next s)

/-- The charger.  Source return, precharge, steps, termination, recharge, time-outs, zones, faults and the charger
commands move the charger between the states of Table 9.5 with their causes and the raise of FS_42. The model's
choices: FAULT stays until it is cleared (log entry 73), and only DONE and the mark of an absent pack clear the
fast-charge timer (log entry 171). Clauses that a command whose precondition fails changes nothing rest on log
entry 4, and those that carry time to a deadline on log entry 3.  (spec/09_backup_path.md.) -/
def Obligations.ChargerCompletes : Prop :=
  (∀ (s : State), s.runs T.chgSource = true → s.cst = C.suspend → s.chgSource = true → s.chgZoneOk = true →
      s.bit R.PATH_SVC.LPACT = false → Does .chargerSourceReturn s (fun t =>
      t.cst = (if s.bit R.PATH_STATUS.PRESENT && !s.bit R.PATH_STATUS.ABSENT then C.precharge else C.detect) ∧
      Frame [.clock, .regs, .timers, .path, .evt, .host] s t ∧ RegsIn [B.path] s t)) ∧
  (∀ (s : State), s.runs T.chgSource = false → exec .chargerSourceReturn s = .next s) ∧
  (∀ (v : Nat) (s : State), s.cst = C.precharge → s.preLevel ≤ v → Does (.prechargeExit v) s (fun t =>
      (t.cst = C.cc ∨ t.cst = C.cv) ∧ t.path.preLeft = none ∧ Frame [.regs, .timers, .path, .evt, .host] s t ∧
      RegsIn [B.path] s t)) ∧
  (∀ (v : Nat) (s : State), (s.cst ≠ C.precharge ∨ v < s.preLevel) → exec (.prechargeExit v) s = .next s) ∧
  (∀ (s : State), s.runs T.chPre = true → Does .prechargeTimeout s (fun t =>
      t.cst = C.fault ∧ t.fld R.PATH_CHG_STATUS.CAUSE = 1 ∧ t.deadline T.chgSource = none ∧ t.path.chg = .off ∧
      (s.flt.collecting = true → t.fstat.getLsbD 42 = true) ∧
      Frame (.clock :: .seq :: .path :: .link :: notes) s t ∧ RegsIn [B.path] s t)) ∧
  (∀ (s : State), s.runs T.chPre = false → exec .prechargeTimeout s = .next s) ∧
  (∀ (v : Nat) (s : State), s.cst = C.cc → s.cvLevel ≤ v → s.lastStep (s.fld R.PATH_CHG_STATUS.STEP) = true →
      Does (.chargerStepEnd v) s (fun t =>
      t.cst = C.cv ∧ Frame [.regs, .timers, .path, .evt, .host] s t ∧ RegsIn [B.path] s t)) ∧
  (∀ (v j : Nat) (s : State), s.cst = C.cc → v < s.cvLevel →
      3500 + 5 * s.fld (R.PATH_CHG_STEP.VEND (s.fld R.PATH_CHG_STATUS.STEP)) ≤ v →
      s.chgStepFrom (s.fld R.PATH_CHG_STATUS.STEP + 1) 0 = some j → Does (.chargerStepEnd v) s (fun t =>
      t.cst = C.cc ∧ t.fld R.PATH_CHG_STATUS.STEP = j ∧ s.fld R.PATH_CHG_STATUS.STEP < j ∧
      Frame [.regs, .timers, .path, .evt, .host] s t ∧ RegsIn [B.path] s t)) ∧
  (∀ (s : State), s.cst = C.cv → Does .chargerTermination s (fun t =>
      t.cst = C.done ∧ t.path.fastLeft = none ∧ t.fld R.PATH_CHG_TMR.FAST = 0 ∧
      Frame [.regs, .timers, .path, .evt, .host] s t ∧ RegsIn [B.path] s t)) ∧
  (∀ (s : State), s.cst ≠ C.cv → exec .chargerTermination s = .next s) ∧
  (∀ (v : Nat) (s : State), s.cst = C.done → v + 5 * min 100 (max 4 (s.fld R.PATH_CHG_TERM.VRCH)) < s.cvLevel →
      Does (.chargerRecharge v) s (fun t =>
      (t.cst = C.cc ∨ t.cst = C.cv) ∧ Frame [.regs, .timers, .path, .evt, .host] s t ∧ RegsIn [B.path] s t)) ∧
  (∀ (v : Nat) (s : State), s.cst ≠ C.done → exec (.chargerRecharge v) s = .next s) ∧
  (∀ (s : State), s.runs T.chFast = true → Does .fastChargeTimeout s (fun t =>
      t.cst = C.fault ∧ t.fld R.PATH_CHG_STATUS.CAUSE = 2 ∧ t.deadline T.chgSource = none ∧ t.path.chg = .off ∧
      (s.flt.collecting = true → t.fstat.getLsbD 42 = true) ∧
      Frame (.clock :: .seq :: .path :: .link :: notes) s t ∧ RegsIn [B.path] s t)) ∧
  (∀ (s : State), s.runs T.chFast = false → exec .fastChargeTimeout s = .next s) ∧
  (∀ (uv : Nat) (s : State), s.pathOn = true → Does (.packZoneChange uv) s (fun t =>
      t.fld R.PATH_CHG_STATUS.ZONE = (if tsInRange uv then s.nextZone (s.tsTemp uv) else 7) ∧
      Frame (.seq :: .path :: .link :: notes) s t ∧ RegsIn [B.path] s t)) ∧
  (∀ (uv : Nat) (s : State), s.pathOn = false → exec (.packZoneChange uv) s = .next s) ∧
  (∀ (cause : Fin 8) (s : State), s.pathOn = true →
      (cause.val = 3 ∧ s.charging = true ∨ cause.val = 4 ∨ cause.val = 5) → s.cst ≠ C.off → s.cst ≠ C.fault →
      Does (.chargerFault cause) s (fun t =>
      t.cst = C.fault ∧ t.fld R.PATH_CHG_STATUS.CAUSE = cause.val ∧ t.path.chg = .off ∧
      (s.flt.collecting = true → t.fstat.getLsbD 42 = true) ∧ Frame (.seq :: .path :: .link :: notes) s t ∧
      RegsIn [B.path] s t)) ∧
  (∀ (cause : Fin 8) (s : State),
      (s.pathOn = false ∨ cause.val ≠ 3 ∧ cause.val ≠ 4 ∧ cause.val ≠ 5 ∨ cause.val = 3 ∧ s.charging = false) →
      exec (.chargerFault cause) s = .next s) ∧
  (∀ (cause : Fin 8) (s : State), s.pathOn = true → (cause.val = 4 ∨ cause.val = 5) →
      (s.cst = C.off ∨ s.cst = C.fault) → Does (.chargerFault cause) s (fun t =>
      t.cst = s.cst ∧ t.fld R.PATH_CHG_STATUS.CAUSE = cause.val ∧
      (s.flt.collecting = true → t.fstat.getLsbD 42 = true) ∧ t.path = s.path ∧ Frame notes s t)) ∧
  (∀ (r : Req) (s : State), s.may r R.PATH_CHG_CTRL.reg true none = true → s.cst = C.fault →
      Does (.chargerClear r) s (fun t =>
      ((s.chgSource && s.chgZoneOk && !s.bit R.PATH_SVC.LPACT) = true → t.cst = (if s.bit R.PATH_STATUS.PRESENT && !s.bit R.PATH_STATUS.ABSENT then C.precharge else C.detect)) ∧
      ((s.chgSource && s.chgZoneOk && !s.bit R.PATH_SVC.LPACT) = false → t.cst = C.suspend) ∧
      Frame (.seq :: .path :: .link :: notes) s t ∧ RegsIn [B.evt, B.host, B.link, B.path] s t)) ∧
  (∀ (r : Req) (s : State), s.may r R.PATH_CHG_CTRL.reg true none = true → s.cst ≠ C.off → s.cst ≠ C.suspend →
      s.cst ≠ C.fault → Does (.chargerRestart r) s (fun t =>
      t.cst = (if s.bit R.PATH_STATUS.PRESENT && !s.bit R.PATH_STATUS.ABSENT then C.precharge else C.detect) ∧
      Frame (.seq :: .path :: .link :: notes) s t ∧ RegsIn [B.evt, B.host, B.link, B.path] s t)) ∧
  (∀ (r : Req) (w : Word) (s : State), s.may r R.PATH_CHG_SOFT.reg true none = true →
      Does (.chargerSoftLimit r w) s (fun t =>
      t.reg R.PATH_CHG_SOFT.reg = w &&& 0x80FF00FF#32 ∧ Frame (.path :: notes) s t ∧
      RegsOnly [R.PATH_CHG_SOFT.reg, R.PATH_CHG_STATUS.reg, R.HOST_LAST_TS_LO.reg, R.HOST_LAST_TS_HI.reg] s t)) ∧
  (∀ (r : Req) (w : Word) (s : State), s.may r R.PATH_CHG_SOFT.reg true none = false →
      exec (.chargerSoftLimit r w) s = .next (s.denied r true))

/-- Pack presence, peer mode and the service key.  Presence, absence and probing of the pack, the peer modes and the
end of PEER_OUT, and the service key complete with the bits and gates of the rules. The model's choices: the
mark of an absent pack puts a charging state to DETECT (log entry 74), and the timer values of the service key
(log entries 76 and 77). Clauses that a command whose precondition fails changes nothing rest on log entry 4,
and those that carry time to a deadline on log entry 3.  (spec/09_backup_path.md.) -/
def Obligations.PackAndPeerComplete : Prop :=
  (∀ (id ts : Bool) (s : State), s.pathOn = true → Does (.packPresent id ts) s (fun t =>
      t.bit R.PATH_STATUS.PRESENT = (id && ts) ∧ t.path.batId = some id ∧ t.path.ts = some ts ∧
      Frame [.regs, .timers, .path, .evt, .host] s t ∧ RegsIn [B.path] s t)) ∧
  (∀ (id ts : Bool) (s : State), s.pathOn = false → exec (.packPresent id ts) s = .next s) ∧
  (∀ (why : AbsentWhy) (s : State), s.pathOn = true →
      (why ≠ .currentCollapse ∨ s.cst = C.cc ∧ s.path.cvAt + 10000000 ≤ s.ns) →
      Does (.packAbsent why) s (fun t =>
      t.bit R.PATH_STATUS.ABSENT = true ∧ t.bit R.PATH_STATUS.INHIBIT = true ∧
      t.fld R.PATH_CHG_STATUS.PRES = 0 ∧
      (s.bit R.PATH_STATUS.ABSENT = false → s.flt.collecting = true → t.fstat.getLsbD 41 = true) ∧
      t.deadline T.chFast = none ∧ Frame (.seq :: .path :: .link :: notes) s t ∧ RegsIn [B.path] s t)) ∧
  (∀ (why : AbsentWhy) (s : State), s.pathOn = false → exec (.packAbsent why) s = .next s) ∧
  (∀ (present : Bool) (s : State), s.bit R.PATH_STATUS.ABSENT = true → s.chgSource = true → s.cst ≠ C.off →
      Does (.presenceProbe present) s (fun t =>
      ((present && s.bit R.PATH_STATUS.PRESENT) = true → 1 ≤ s.fld R.PATH_CHG_STATUS.PRES → s.pst = P.onVin → t.bit R.PATH_STATUS.ABSENT = false ∧ t.cst = C.precharge) ∧
      ((present && s.bit R.PATH_STATUS.PRESENT) = true → s.fld R.PATH_CHG_STATUS.PRES = 0 → t.fld R.PATH_CHG_STATUS.PRES = 1 ∧ t.deadline T.probe = some (t.ns + 1000000000)) ∧
      ((present && s.bit R.PATH_STATUS.PRESENT) = false → t.fld R.PATH_CHG_STATUS.PRES = 0 ∧ t.bit R.PATH_STATUS.ABSENT = true ∧ t.deadline T.probe = some (t.ns + 1000000000)) ∧
      Frame [.clock, .regs, .timers, .path, .evt, .host] s t ∧ RegsIn [B.path] s t)) ∧
  (∀ (r : Req) (s : State), s.may r R.PATH_PEER.reg true none = true → s.bit R.PATH_CFG.PEEREN = true →
      s.pathOn = true → Does (.peerModeOff r) s (fun t =>
      t.fld R.PATH_PEER.MODE = 0 ∧ t.path.pgA = false ∧ t.path.pgB = false ∧ t.fld R.PATH_STATUS.PEER = 0 ∧
      Frame (.seq :: .path :: .link :: notes) s t ∧ RegsIn [B.evt, B.host, B.link, B.path] s t)) ∧
  (∀ (r : Req) (s : State), s.may r R.PATH_PEER.reg true none = true → s.bit R.PATH_CFG.PEEREN = true →
      s.pathOn = true → Does (.peerModeIn r) s (fun t =>
      t.fld R.PATH_PEER.MODE = 1 ∧ t.path.pgA = false ∧ t.path.pgB = true ∧ t.fld R.PATH_STATUS.PEER = 1 ∧
      Frame (.seq :: .path :: .link :: notes) s t ∧ RegsIn [B.evt, B.host, B.link, B.path] s t)) ∧
  (∀ (r : Req) (b : Bool) (s : State), s.may r R.PATH_PEER.reg true none = true →
      s.bit R.PATH_CFG.PEEREN = true → (s.pst = P.onBat ∨ s.pst = P.nosrc) →
      s.bit R.PATH_STATUS.VIN_STABLE = false → s.bit R.PATH_STATUS.PRESENT = true →
      s.bit R.PATH_STATUS.ABSENT = false → b = true → s.zoneBit R.PATH_ZONE.DSG = true →
      Does (.peerModeOut r b) s (fun t =>
      t.fld R.PATH_PEER.MODE = 2 ∧ t.fld R.PATH_STATUS.PEER = 2 ∧ t.path.pgB = false ∧ t.path.peerWait = true ∧
      t.path.chg = .reverse ∧ Frame (.seq :: .path :: .link :: notes) s t ∧
      RegsIn [B.evt, B.host, B.link, B.path] s t)) ∧
  (∀ (s : State), s.path.peerWait = true → (s.pst = P.onBat ∨ s.pst = P.nosrc) →
      Does .peerOutEstablished s (fun t =>
      t.pst = P.peerOut ∧ t.path.bsw = false ∧ t.path.pgA = true ∧ t.path.peerWait = false ∧
      t.deadline T.pathWait = none ∧ Frame [.path, .regs, .timers] s t)) ∧
  (∀ (s : State), s.path.peerWait = false → exec .peerOutEstablished s = .next s) ∧
  (∀ (s : State), s.pst = P.peerOut → Does .peerOutUndervoltage s (fun t =>
      t.fld R.PATH_CHG_STATUS.CAUSE = 7 ∧ (s.flt.collecting = true → t.fstat.getLsbD 42 = true) ∧
      t.path.pgA = false ∧ (t.cst = C.off ∨ t.cst = C.fault ∨ t.cst = C.suspend) ∧
      t.pst = (if s.handoverOk then P.handover else P.nosrc) ∧ Frame (.seq :: .path :: .link :: notes) s t ∧
      RegsIn [B.path] s t)) ∧
  (∀ (s : State), s.pst ≠ P.peerOut → exec .peerOutUndervoltage s = .next s) ∧
  (∀ (inside : Bool) (s : State), s.runs T.press = true → Does (.longPress inside) s (fun t =>
      t.bit R.PATH_SVC.LPACT = true ∧ t.sys.batLeg = false ∧ t.path.pgB = false ∧
      t.deadline T.longEnd = some (t.ns + 300000000))) ∧
  (∀ (inside : Bool) (s : State), s.runs T.press = false → exec (.longPress inside) s = .next s) ∧
  (∀ (low : Bool) (s : State), Does (.svcNChange low) s (fun t =>
      t.sys.svcLow = low ∧
      (s.sys.phase ≠ .unpowered → s.sys.phase ≠ .flacon → s.sys.svcLow = true → low = false → t.deadline T.press = none ∧ t.path.released = s.ns) ∧
      (s.sys.phase ≠ .unpowered → s.sys.phase ≠ .flacon → s.sys.svcLow = false → low = true → s.path.released + 100000000 ≤ s.ns → t.runs T.press = true ∧ t.sys.svcArmed = true) ∧
      Frame [.sys, .path, .timers] s t))

/-- Set-points, slew, compensator and loop faults.  An accepted set-point replaces the target or waits for its tick,
in the order of the sources within one tick, and a refused one leaves its reason; the slew tick, the compensator
update with u and the duties of its phases, the telemetry update with LOOP_VOUT, LOOP_IOUT and power-good, the
power-good mask and the loop faults, with and without a rail, complete with the values of R73 to R85. The
model's choices: a LOOP_VSET write of the link is ignored (log entry 53), and codes above 1,000 of a time act as
1,000 (log entry 147). Clauses that a command whose precondition fails changes nothing rest on log entry 4, and
those that carry time to a deadline on log entry 3.  (spec/04_loop_array.md.) -/
def Obligations.LoopRegulationCompletes : Prop :=
  (∀ (r : Req) (n : Fin 24) (w : Word) (src : Src) (s : State),
      s.may r (R.LOOP_VSET.reg n) true (some 0x21) = true → srcOf r = some src →
      s.refusal n src (w.field 0 16) = none → (s.lstate n = L.off ∨ s.lbase n = L.stop) →
      (s.loop n).lastRank ≤ srcRank src → Does (.setpointCommand r n w) s (fun t =>
      t.target n = w.field 0 16 ∧ t.fld (R.LOOP_VSET.TARGET n) = w.field 0 16 ∧
      t.fld (R.LOOP_VSET.RATE n) = w.field 16 10 ∧ (t.loop n).lastRank = srcRank src ∧
      Frame (.loops :: notes) s t ∧
      RegsOnly [R.LOOP_VSET.reg n, R.LOOP_VREF.reg n, R.HOST_LAST_TS_LO.reg, R.HOST_LAST_TS_HI.reg] s t)) ∧
  (∀ (r : Req) (n : Fin 24) (w : Word) (s : State), s.may r (R.LOOP_VSET.reg n) true (some 0x21) = false →
      exec (.setpointCommand r n w) s = .next (s.denied r true)) ∧
  (∀ (r : Req) (n : Fin 24) (w : Word) (s : State), s.may r (R.LOOP_VSET.reg n) true (some 0x21) = true →
      r = .link → exec (.setpointCommand r n w) s = .next s) ∧
  (∀ (r : Req) (n : Fin 24) (w : Word) (src : Src) (s : State),
      s.may r (R.LOOP_VSET.reg n) true (some 0x21) = true → srcOf r = some src →
      s.refusal n src (w.field 0 16) = none → (s.lstate n = L.off ∨ s.lbase n = L.stop) →
      srcRank src < (s.loop n).lastRank → Does (.setpointCommand r n w) s (fun t =>
      t.target n = s.target n ∧ t.fld (R.LOOP_VSET.TARGET n) = s.fld (R.LOOP_VSET.TARGET n) ∧ Frame notes s t ∧
      RegsOnly [R.LOOP_VSET.reg n, R.HOST_LAST_TS_LO.reg, R.HOST_LAST_TS_HI.reg] s t)) ∧
  (∀ (r : Req) (n : Fin 24) (w : Word) (src : Src) (s : State),
      s.may r (R.LOOP_VSET.reg n) true (some 0x21) = true → srcOf r = some src →
      s.refusal n src (w.field 0 16) = none → s.lstate n ≠ L.off → s.lbase n ≠ L.stop →
      Does (.setpointCommand r n w) s (fun t =>
      (t.loop n).queued = enqueueCmd ⟨srcRank src, w.field 0 16, slewCode (if w.field 16 10 = 0 then s.fld (R.LOOP_SLEW.RATE n) else w.field 16 10)⟩ (s.loop n).queued ∧
      t.target n = s.target n ∧ Frame (.loops :: notes) s t ∧
      RegsOnly [R.LOOP_VSET.reg n, R.HOST_LAST_TS_LO.reg, R.HOST_LAST_TS_HI.reg] s t)) ∧
  (∀ (r : Req) (n : Fin 24) (w : Word) (src : Src) (why : Nat) (s : State),
      s.may r (R.LOOP_VSET.reg n) true (some 0x21) = true → srcOf r = some src →
      s.refusal n src (w.field 0 16) = some why → Does (.setpointCommand r n w) s (fun t =>
      t.fld (R.LOOP_REFUSE.REASON n) = why ∧ t.fld (R.LOOP_REFUSE.SRC n) = srcCode src ∧
      t.target n = s.target n ∧ Frame notes s t ∧
      RegsOnly [R.LOOP_VSET.reg n, R.LOOP_REFUSE.reg n, R.HOST_LAST_TS_LO.reg, R.HOST_LAST_TS_HI.reg] s t)) ∧
  (∀ (n : Fin 24) (s : State), s.lstate n ≠ L.fault → s.lstate n ≠ L.off → (s.loop n).clkHeld = false →
      s.lbase n ≠ L.start → s.lbase n ≠ L.stop → (s.loop n).moving = true → (s.loop n).queued = [] →
      s.fld (R.SV_STATUS.STATE n) = 0 → (s.loop n).forecast = none → Does (.slewTick n) s (fun t =>
      (t.loop n).ref = stepToward (s.loop n).ref (s.target n * 4096) (slewStep (s.loop n).rate) ∧
      t.deadline (T.slew n) = some (t.ns + 100))) ∧
  (∀ (n : Fin 24) (s : State), (s.lstate n = L.fault ∨ s.lstate n = L.off ∨ (s.loop n).clkHeld = true) →
      Does (.slewTick n) s (fun t =>
      (t.loop n).ref = (s.loop n).ref ∧ t.target n = s.target n ∧ t.lstate n = s.lstate n ∧
      t.deadline (T.slew n) = some (t.ns + 100))) ∧
  (∀ (n : Fin 24) (errs : List Int) (s : State), s.lstate n ≠ L.off → s.lstate n ≠ L.fault →
      (s.loop n).clkHeld = false → (s.loop n).pend = [] → Does (.compensatorUpdate n errs) s (fun t =>
      (t.loop n).cur = s.loopCurrent n ∧ t.target n = s.target n ∧ (t.loop n).ref = (s.loop n).ref ∧
      (t.loop n).e1 = meanError errs ∧ (t.loop n).e2 = (s.loop n).e1 ∧
      (t.loop n).p1 = sat48 (sat48 ((t.fld (R.LOOP_CK_EFF.COEF n) : Int) * (meanError errs * 2 ^ 48 - ((t.fld (R.LOOP_CZ1_EFF.COEF n) : Int) + (t.fld (R.LOOP_CZ2_EFF.COEF n) : Int)) * (s.loop n).e1 * 2 ^ 24 + (t.fld (R.LOOP_CZ1_EFF.COEF n) : Int) * (t.fld (R.LOOP_CZ2_EFF.COEF n) : Int) * (s.loop n).e2) / 2 ^ 64) + (t.fld (R.LOOP_CP1.COEF n) : Int) * (s.loop n).p1 / 2 ^ 24) ∧
      (t.loop n).p2 = sat48 ((t.loop n).p1 + (t.fld (R.LOOP_CP2.COEF n) : Int) * (s.loop n).p2 / 2 ^ 24) ∧
      (t.loop n).p3 = sat48 ((t.loop n).p2 + (t.fld (R.LOOP_CP3.COEF n) : Int) * (s.loop n).p3 / 2 ^ 24) ∧
      (t.bit (R.LOOP_STATUS.ILIM n) = decide ((t.fld (R.LOOP_ILIM_EFF.LIM n) * 10 : Nat) < s.loopCurrent n)) ∧
      (t.bit (R.LOOP_STATUS.ILIM n) = false → s.lstate n ≠ L.nl → (t.loop n).u = clampInt 0 uMax ((s.loop n).u + (t.loop n).p3) ∧ (t.loop n).out = (t.loop n).u) ∧
      ((t.bit (R.LOOP_STATUS.ILIM n) = true ∨ s.lstate n = L.nl) → (t.loop n).u = (s.loop n).u) ∧
      (∀ p ∈ s.active n, ((t.phase p).duty : Int) = clampInt (s.fld (R.LOOP_DLIM.DMIN n)) (s.fld (R.LOOP_DLIM.DMAX n)) ((t.loop n).out * 65536000 / (max 1 (s.stageSupply n) * 16777216 : Nat) + t.sfld (R.PH_TRIM.TRIM p))) ∧
      Frame [.freeCount, .regs, .timers, .loops, .phases, .evt, .host] s t)) ∧
  (∀ (n : Fin 24) (errs : List Int) (s : State),
      (s.lstate n = L.off ∨ s.lstate n = L.fault ∨ (s.loop n).clkHeld = true) → (s.loop n).pend = [] →
      Does (.compensatorUpdate n errs) s (fun t =>
      (t.loop n).u = (s.loop n).u ∧
      t.fld (R.LOOP_ILIM_EFF.LIM n) = (if (s.assigned n).length = 0 then min 24000 (s.fld (R.LOOP_ILIM.LIM n)) else min 24000 (s.fld (R.LOOP_ILIM.LIM n)) * ((s.assigned n).length - ((s.assigned n).filter s.lost).length) / (s.assigned n).length) ∧
      Frame [.regs, .loops] s t)) ∧
  (∀ (n : Fin 24) (errs : List Int) (s : State), (s.railsOn.all fun r => decide (s.qst r ≠ Q.ramp)) = true →
      Does (.telemetryUpdate n errs) s (fun t =>
      (t.loop n).curSum = 0 ∧
      (s.sliceOn 6 n = false → (s.loop n).refHist ≠ [] → t.fld (R.LOOP_VOUT.VOUT n) = (clampInt 0 0xFFFF ((((s.loop n).refHist.sum / (s.loop n).refHist.length : Nat) - meanError errs) / 4096)).toNat) ∧
      (s.sliceOn 6 n = true → t.fld (R.LOOP_VOUT.VOUT n) = s.fld (R.LOOP_VOUT.VOUT n)) ∧
      ((s.loop n).curCnt ≠ 0 → t.reg (R.LOOP_IOUT.reg n) = (s.setI (R.LOOP_IOUT.IOUT n) ((s.loop n).curSum.tdiv (s.loop n).curCnt)).reg (R.LOOP_IOUT.reg n)) ∧
      ((s.loop n).curCnt = 0 → t.reg (R.LOOP_IOUT.reg n) = (s.setI (R.LOOP_IOUT.IOUT n) (s.loop n).cur).reg (R.LOOP_IOUT.reg n)) ∧
      (t.bit (R.LOOP_STATUS.IN_PG n) = (decide (s.target n * 1000 ≤ t.fld (R.LOOP_VOUT.VOUT n) * 1000 + s.fld (R.LOOP_PGW.PGL n) * 4096) && decide (t.fld (R.LOOP_VOUT.VOUT n) * 1000 ≤ s.target n * 1000 + s.fld (R.LOOP_PGW.PGH n) * 4096))) ∧
      (t.loop n).curCnt = 0 ∧ t.bit (R.LOOP_STATUS.SAT_E n) = errs.any (fun e => (errorWord e).2) ∧
      (t.loop n).ref = (s.loop n).ref)) ∧
  (∀ (n : Fin 24) (s : State), s.runs (T.pgMask n) = true → Does (.pgMaskEnd n) s (fun t =>
      t.bit (R.LOOP_STATUS.PG_MASK n) = false ∧ (t.loop n).hi = s.target n ∧ (t.loop n).lo = s.target n ∧
      t.deadline (T.pgMask n) = none ∧ Frame [.clock, .timers, .regs, .loops] s t ∧
      RegsOnly [R.LOOP_STATUS.reg n] s t)) ∧
  (∀ (n : Fin 24) (s : State), s.runs (T.pgMask n) = false → exec (.pgMaskEnd n) s = .next s) ∧
  (∀ (n : Fin 24) (ceiling : Bool) (uv held : Nat) (s : State), s.lstate n ≠ L.off → s.lstate n ≠ L.fault →
      (if ceiling then s.fld (R.LOOP_OVABS.VABS n) * 1000000 < uv * 4096 else s.ovThreshold n < uv) →
      s.fld (R.LOOP_PROT.OVF n) * 25 ≤ held → Does (.loopOvervoltage n ceiling uv held) s (fun t =>
      (s.railOfLoop n = none → t.lstate n = L.fault) ∧
      (s.railOfLoop n ≠ none → t.lstate n = L.fault ∨ t.lstate n = L.off) ∧
      (∀ r ∈ s.railOfLoop n, t.bit (R.SEQ_RAIL_STATUS.FLT r) = true ∧ t.fld (R.SEQ_RAIL_STATUS.CAUSE r) = 1 ∧ Counts (R.SEQ_RAIL_CNT.FAULTS r) s t) ∧
      t.fld (R.LOOP_STATUS.CAUSE n) = (if ceiling then 2 else 1) ∧ t.fld (R.LOOP_LOCK.OWNER n) = 0 ∧
      t.bit (R.LOOP_STATUS.PG_MASK n) = false ∧ (t.loop n).ovLow = true)) ∧
  (∀ (n : Fin 24) (ceiling : Bool) (uv held : Nat) (s : State), s.lstate n = L.off →
      exec (.loopOvervoltage n ceiling uv held) s = .next s) ∧
  (∀ (n : Fin 24) (uv : Nat) (s : State), (s.loop n).ovLow = true → uv * 4096 < s.target n * 1000000 →
      Does (.loopOvClear n uv) s (fun t =>
      (t.loop n).ovLow = false ∧
      (∀ p ∈ s.assigned n, s.lstate n = L.fault → s.fld (R.PH_STATUS.STATE p) ≠ 2 → t.drive p = .mid) ∧
      Frame [.loops] s t)) ∧
  (∀ (n : Fin 24) (uv : Nat) (s : State), s.target n * 1000000 ≤ uv * 4096 → exec (.loopOvClear n uv) s = .next s) ∧
  (∀ (n : Fin 24) (uv held : Nat) (s : State), (s.loop n).uvArmed = true →
      (s.regulating n = true ∨ s.lstate n = L.nl) → (uv : Int) < s.uvThreshold n →
      min 1000 (max 1 (s.fld (R.LOOP_TIME.TUV n))) * 1000 ≤ held →
      Does (.loopUndervoltage n uv held) s (fun t =>
      (s.railOfLoop n = none → t.lstate n = L.fault) ∧
      (s.railOfLoop n ≠ none → t.lstate n = L.fault ∨ t.lstate n = L.off) ∧
      (∀ r ∈ s.railOfLoop n, t.bit (R.SEQ_RAIL_STATUS.FLT r) = true ∧ t.fld (R.SEQ_RAIL_STATUS.CAUSE r) = 1 ∧ Counts (R.SEQ_RAIL_CNT.FAULTS r) s t) ∧
      t.fld (R.LOOP_STATUS.CAUSE n) = 3 ∧ t.fld (R.LOOP_LOCK.OWNER n) = 0 ∧
      t.bit (R.LOOP_STATUS.PG_MASK n) = false)) ∧
  (∀ (n : Fin 24) (uv held : Nat) (s : State), (s.loop n).uvArmed = false →
      exec (.loopUndervoltage n uv held) s = .next s) ∧
  (∀ (n : Fin 24) (s : State), s.runs (T.ilf n) = true → s.bit (R.LOOP_STATUS.ILIM n) = true →
      s.lstate n ≠ L.fault → Does (.loopOcFault n) s (fun t =>
      (s.railOfLoop n = none → t.lstate n = L.fault) ∧
      (s.railOfLoop n ≠ none → t.lstate n = L.fault ∨ t.lstate n = L.off) ∧
      (∀ r ∈ s.railOfLoop n, t.bit (R.SEQ_RAIL_STATUS.FLT r) = true ∧ t.fld (R.SEQ_RAIL_STATUS.CAUSE r) = 1 ∧ Counts (R.SEQ_RAIL_CNT.FAULTS r) s t) ∧
      t.fld (R.LOOP_STATUS.CAUSE n) = 4 ∧ t.fld (R.LOOP_LOCK.OWNER n) = 0 ∧
      t.bit (R.LOOP_STATUS.PG_MASK n) = false)) ∧
  (∀ (n : Fin 24) (s : State), s.runs (T.ilf n) = false → exec (.loopOcFault n) s = .next s)

/-- Nonlinear path, shedding, lock and synchronisation.  Entry and exit of the nonlinear path with the phases it
turns on, shedding, restoring and re-spacing, taking, releasing and timing out the lock, and SYNC_IN complete as
R71 and R76 to R95 give. The model's choices: entry from REG, TRANS and SETTLE (log entry 55), when the loss of
SYNC_IN acts (log entry 56), the order of shedding of merged loops (log entry 57). Clauses that a command whose
precondition fails changes nothing rest on log entry 4, and those that carry time to a deadline on log entry 3.
(spec/04_loop_array.md, spec/05_phase_ports.md.) -/
def Obligations.LoopShedLockAndSyncComplete : Prop :=
  (∀ (n : Fin 24) (errs : List Int) (s : State), s.bit (R.LOOP_NL.EN n) = true →
      (s.regulating n = true ∨ s.lstate n = L.start ∨ s.lstate n = L.stop) → s.runs (T.nlHold n) = false →
      (s.loop n).clkHeld = false → s.nlCrossed n true errs = true → Does (.nlEntry n errs) s (fun t =>
      t.lstate n = L.nl ∧ (∀ p ∈ s.shedPhases n, t.fld (R.PH_STATUS.STATE p) = 2) ∧
      (t.loop n).nlFrom = some (s.lstate n) ∧ (t.loop n).nlUnder = true ∧
      t.deadline (T.nlMax n) = some (t.ns + max 1 (s.fld (R.LOOP_NL.TMAX n)) * 10) ∧
      (∀ p ∈ s.active n, s.sys.pllP = .locked → (s.loop n).ovLow = false → s.bit (R.PH_STATUS.BLANKING p) = false → s.runs (T.nlLow p) = false → t.drive p = .high) ∧
      Frame (.loops :: .phases :: .seq :: .link :: notes) s t ∧ RegsIn [B.evt, B.link, B.loop, B.phase] s t)) ∧
  (∀ (n : Fin 24) (errs : List Int) (s : State), s.bit (R.LOOP_NL.EN n) = false →
      exec (.nlEntry n errs) s = .next s) ∧
  (∀ (n : Fin 24) (errs : List Int) (s : State), s.bit (R.LOOP_NL.EN n) = true →
      (s.regulating n = true ∨ s.lstate n = L.start ∨ s.lstate n = L.stop) → s.runs (T.nlHold n) = false →
      (s.loop n).clkHeld = false → s.nlCrossed n true errs = false → s.nlCrossed n false errs = true →
      Does (.nlEntry n errs) s (fun t =>
      t.lstate n = L.nl ∧ (∀ p ∈ s.shedPhases n, t.fld (R.PH_STATUS.STATE p) = 2) ∧
      (t.loop n).nlFrom = some (s.lstate n) ∧ (t.loop n).nlUnder = false ∧
      t.deadline (T.nlMax n) = some (t.ns + max 1 (s.fld (R.LOOP_NL.TMAX n)) * 10) ∧
      Frame (.loops :: .phases :: .seq :: .link :: notes) s t ∧ RegsIn [B.evt, B.link, B.loop, B.phase] s t)) ∧
  (∀ (n : Fin 24) (err : Int) (base : Nat) (s : State), (s.loop n).nlFrom = some base → base < 8 →
      2 * (if (s.loop n).nlUnder then (errorWord err).1 else -(errorWord err).1) ≤ s.nlThreshold n (s.loop n).nlUnder →
      Does (.nlExit n err) s (fun t =>
      t.lstate n = base ∧ (t.loop n).nlFrom = none ∧ t.deadline (T.nlMax n) = none ∧
      t.deadline (T.nlHold n) = some (t.ns + s.periodNs n) ∧
      (∀ p ∈ s.active n, base ≠ L.nl → s.sys.pllP = .locked → (s.loop n).ovLow = false → s.bit (R.PH_STATUS.BLANKING p) = false → s.fld (R.PH_STATUS.POS p) ≠ 0x1F → t.drive p = .switching) ∧
      Frame [.clock, .regs, .timers, .loops, .phases] s t ∧ RegsIn [B.loop] s t)) ∧
  (∀ (n : Fin 24) (err : Int) (s : State), ((s.loop n).nlFrom = none ∧ s.runs (T.nlMax n) = false) →
      exec (.nlExit n err) s = .next s) ∧
  (∀ (n : Fin 24) (p : Nat) (s : State), s.bit (R.LOOP_SHED.EN n) = true → s.lstate n = L.reg →
      max 1 (s.fld (R.LOOP_SHED.NMIN n)) < (s.active n).length → s.runs (T.shed n) = true →
      (s.active n).getLast? = some p → Does (.phaseShed n) s (fun t =>
      t.fld (R.PH_STATUS.STATE p) = 3 ∧ t.drive p = .mid ∧ (t.loop n).respace = true ∧
      Frame [.clock, .regs, .timers, .loops, .phases, .evt, .host] s t ∧ RegsIn [B.loop, B.phase] s t)) ∧
  (∀ (n : Fin 24) (s : State), s.runs (T.shed n) = false → exec (.phaseShed n) s = .next s) ∧
  (∀ (n : Fin 24) (s : State), (s.loop n).respace = true → s.lstate n ≠ L.nl → s.lstate n ≠ L.off →
      s.lstate n ≠ L.fault → Does (.respacing n) s (fun t =>
      (t.loop n).respace = false ∧ (t.loop n).restore = false ∧
      ((s.loop n).restore = false → t.active n = s.active n) ∧
      ((s.loop n).restore = true → ∀ p ∈ s.shedPhases n, t.fld (R.PH_STATUS.STATE p) = 2) ∧
      (∀ j, j < (t.active n).length → t.fld (R.PH_STATUS.POS ((t.active n).getD j 0)) = j ∧ (t.phase ((t.active n).getD j 0)).pos = phasePos (s.loopPeriod n).1 (t.active n).length j) ∧
      Frame [.regs, .timers, .loops, .phases, .evt, .host] s t ∧ RegsIn [B.loop, B.phase] s t)) ∧
  (∀ (n : Fin 24) (s : State), (s.loop n).respace = false → exec (.respacing n) s = .next s) ∧
  (∀ (src : Src) (n : Fin 24) (s : State), s.fld (R.LOOP_LOCK.OWNER n) = 0 →
      (s.fld (R.LOOP_LOCK.PERM n)).testBit (srcPermBit src) = true → Does (.lockTake src n) s (fun t =>
      t.fld (R.LOOP_LOCK.OWNER n) = srcCode src ∧
      (s.fld (R.LOOP_LOCK.TOUT n) ≠ 0 → t.deadline (T.lock n) = some (t.ns + s.fld (R.LOOP_LOCK.TOUT n) * 1000000)) ∧
      Frame [.regs, .timers] s t ∧ RegsOnly [R.LOOP_LOCK.reg n] s t)) ∧
  (∀ (src : Src) (n : Fin 24) (s : State),
      (s.fld (R.LOOP_LOCK.OWNER n) ≠ 0 ∨ (s.fld (R.LOOP_LOCK.PERM n)).testBit (srcPermBit src) = false) →
      Does (.lockTake src n) s (fun t =>
      t.fld (R.LOOP_LOCK.OWNER n) = s.fld (R.LOOP_LOCK.OWNER n) ∧ t.fld (R.LOOP_REFUSE.REASON n) = 5 ∧
      t.fld (R.LOOP_REFUSE.SRC n) = srcCode src ∧ RegsOnly [R.LOOP_REFUSE.reg n] s t ∧
      Frame [.regs, .timers, .evt, .host] s t)) ∧
  (∀ (src : Src) (n : Fin 24) (s : State), s.fld (R.LOOP_LOCK.OWNER n) = srcCode src →
      Does (.lockRelease src n) s (fun t =>
      t.fld (R.LOOP_LOCK.OWNER n) = 0 ∧ t.deadline (T.lock n) = none ∧ Frame [.regs, .timers] s t ∧
      RegsOnly [R.LOOP_LOCK.reg n] s t)) ∧
  (∀ (src : Src) (n : Fin 24) (s : State), s.fld (R.LOOP_LOCK.OWNER n) ≠ srcCode src →
      exec (.lockRelease src n) s = .next s) ∧
  (∀ (n : Fin 24) (s : State), s.runs (T.lock n) = true → Does (.lockTimeout n) s (fun t =>
      t.fld (R.LOOP_LOCK.OWNER n) = 0 ∧ t.deadline (T.lock n) = none ∧ Frame [.clock, .regs, .timers] s t ∧
      RegsOnly [R.LOOP_LOCK.reg n] s t)) ∧
  (∀ (n : Fin 24) (s : State), s.runs (T.lock n) = false → exec (.lockTimeout n) s = .next s) ∧
  (∀ (s : State), s.bit R.LOOP_REF_CFG.SRC = true → Does .syncInLost s (fun t =>
      t.bit R.LOOP_REF_STATUS.LOST = true ∧ t.bit R.LOOP_REF_STATUS.LOCKED = false ∧ Frame notes s t ∧
      RegsOnly [R.LOOP_REF_STATUS.reg] s t)) ∧
  (∀ (s : State), s.bit R.LOOP_REF_CFG.SRC = false → exec .syncInLost s = .next s) ∧
  (∀ (period : Nat) (s : State), s.bit R.LOOP_REF_CFG.SRC = true → 9 * s.cfgPeriod ≤ 10 * period →
      10 * period ≤ 11 * s.cfgPeriod → Does (.syncInEdge period) s (fun t =>
      t.bit R.LOOP_REF_STATUS.LOCKED = true ∧
      t.fld R.LOOP_REF_STATUS.PER = stepToward s.refPeriod period (s.refPeriod / 200) ∧
      Frame [.regs, .phases] s t ∧ RegsOnly [R.LOOP_REF_STATUS.reg] s t)) ∧
  (∀ (period : Nat) (s : State), s.bit R.LOOP_REF_CFG.SRC = false → exec (.syncInEdge period) s = .next s)

/-- Phase limits, loss, temperature and TMF.  Current limits, an open phase, a stage fault, blanking,
over-temperature and its warning, and TMF readings complete with the phase state, its loss code and its drive,
for phases of loops with and without a rail. That a phase which starts with TMF low blanks first is the model's
choice (log entry 165). Clauses that a command whose precondition fails changes nothing rest on log entry 4, and
those that carry time to a deadline on log entry 3.  (spec/05_phase_ports.md.) -/
def Obligations.PhaseLimitsAndLossComplete : Prop :=
  (∀ (p : Fin 48) (cur : Int) (s : State), s.phaseActive p = true → (s.phase p).taken = false →
      s.posLimit p ≤ cur → Does (.phasePosLimit p cur) s (fun t =>
      (t.phase p).ocp = true ∧
      (s.lstate (s.fld (R.PH_CFG.LOOP p)) ≠ L.nl → s.sys.pllP = .locked → s.bit (R.PH_STATUS.BLANKING p) = false → s.fld (R.PH_STATUS.POS p) ≠ 0x1F → t.drive p = .low) ∧
      (s.nlHigh p = true → t.deadline (T.nlLow p) = some (s.ns + s.fld (R.PH_TIME.MINOFF p) * 5)) ∧
      RegsOnly [R.PH_OCCNT.reg p] s t ∧ Frame (.phases :: notes) s t)) ∧
  (∀ (p : Fin 48) (cur : Int) (s : State), s.fld (R.PH_STATUS.STATE p) ≠ 2 →
      exec (.phasePosLimit p cur) s = .next s) ∧
  (∀ (p : Fin 48) (cur : Int) (s : State), s.phaseActive p = true → s.nlHigh p = false →
      (s.phase p).taken = false → cur < -s.negLimit p → Does (.phaseNegLimit p cur) s (fun t =>
      (t.phase p).ocn = true ∧ ((s.loop (s.fld (R.PH_CFG.LOOP p))).ovLow = false → t.drive p = .mid) ∧
      RegsOnly [R.PH_OCCNT.reg p] s t ∧ Frame (.phases :: notes) s t)) ∧
  (∀ (p : Fin 48) (cur : Int) (s : State), s.fld (R.PH_STATUS.STATE p) ≠ 2 →
      exec (.phaseNegLimit p cur) s = .next s) ∧
  (∀ (p : Fin 48) (s : State), s.fld (R.PH_STATUS.STATE p) = 2 → s.fld (R.PH_STATUS.OPENCNT p) = 64 →
      s.phaseOn p = true → Does (.phaseOpen p) s (fun t =>
      t.fld (R.PH_STATUS.STATE p) = 4 ∧ t.fld (R.PH_STATUS.LOSS p) = 1)) ∧
  (∀ (p : Fin 48) (s : State), s.fld (R.PH_STATUS.STATE p) ≠ 2 → exec (.phaseOpen p) s = .next s) ∧
  (∀ (p : Fin 48) (low : Bool) (held : Nat) (s : State), s.phaseOn p = true → s.lost p = false →
      s.sliceOn 7 p = false → s.fld (R.PH_TMF.SFF p) * 50 < held →
      (low = false ∨ s.bit (R.PH_STATUS.BLANKING p) = true) → Does (.phaseStageFault p low held) s (fun t =>
      t.bit (R.PH_STATUS.TMF_LOW p) = low ∧
      (low = true → (s.loop (s.fld (R.PH_CFG.LOOP p))).ovLow = false → t.drive p = .mid) ∧ Frame [.regs] s t ∧
      RegsOnly [R.PH_STATUS.reg p] s t)) ∧
  (∀ (p : Fin 48) (low : Bool) (held : Nat) (s : State), s.phaseOn p = false →
      exec (.phaseStageFault p low held) s = .next s) ∧
  (∀ (p : Fin 48) (low : Bool) (held : Nat) (s : State), s.phaseOn p = true → s.lost p = false →
      s.sliceOn 7 p = false → s.fld (R.PH_TMF.SFF p) * 50 < held → low = true →
      s.bit (R.PH_STATUS.BLANKING p) = false → Does (.phaseStageFault p low held) s (fun t =>
      t.fld (R.PH_STATUS.STATE p) = 4 ∧ t.fld (R.PH_STATUS.LOSS p) = 2 ∧ t.drive p = .mid)) ∧
  (∀ (p : Fin 48) (tmfLow : Bool) (s : State), s.runs (T.stageBlank p) = true → tmfLow = false →
      s.sliceOn 7 p = false → Does (.stageBlankEnd p tmfLow) s (fun t =>
      t.bit (R.PH_STATUS.BLANKING p) = false ∧ t.bit (R.PH_STATUS.TMF_LOW p) = false ∧
      Frame [.clock, .timers, .regs] s t ∧ RegsOnly [R.PH_STATUS.reg p] s t)) ∧
  (∀ (p : Fin 48) (tmfLow : Bool) (s : State), s.runs (T.stageBlank p) = false →
      exec (.stageBlankEnd p tmfLow) s = .next s) ∧
  (∀ (p : Fin 48) (tmfLow : Bool) (s : State), s.runs (T.stageBlank p) = true → tmfLow = true →
      s.sliceOn 7 p = false → s.phaseOn p = true → s.lost p = false → Does (.stageBlankEnd p tmfLow) s (fun t =>
      t.fld (R.PH_STATUS.STATE p) = 4 ∧ t.fld (R.PH_STATUS.LOSS p) = 2)) ∧
  (∀ (p : Fin 48) (s : State), 16 ≤ (s.phase p).hot → s.phaseOn p = true → s.lost p = false →
      Does (.phaseHot p) s (fun t =>
      t.fld (R.PH_STATUS.STATE p) = 4 ∧ t.fld (R.PH_STATUS.LOSS p) = 3)) ∧
  (∀ (p : Fin 48) (s : State), (s.phase p).hot < 16 → exec (.phaseHot p) s = .next s) ∧
  (∀ (p : Fin 48) (s : State), s.phaseOn p = true → 16 ≤ (s.phase p).warm → s.bit (R.PH_STATUS.WARN p) = false →
      Does (.phaseTempWarning p) s (fun t =>
      t.bit (R.PH_STATUS.WARN p) = true ∧ t.phases = s.phases ∧ t.loops = s.loops ∧
      Frame (.seq :: .link :: notes) s t ∧ RegsIn [B.host, B.phase] s t)) ∧
  (∀ (p : Fin 48) (s : State), (s.phase p).warm < 16 → exec (.phaseTempWarning p) s = .next s) ∧
  (∀ (p : Fin 48) (s : State), 16 ≤ (s.phase p).cool → s.bit (R.PH_STATUS.WARN p) = true →
      Does (.phaseTempWarningEnd p) s (fun t =>
      t.bit (R.PH_STATUS.WARN p) = false ∧ Frame [.regs] s t ∧ RegsOnly [R.PH_STATUS.reg p] s t)) ∧
  (∀ (p : Fin 48) (s : State), (s.phase p).cool < 16 → exec (.phaseTempWarningEnd p) s = .next s) ∧
  (∀ (p : Fin 48) (mv : Nat) (s : State), s.phaseOn p = true → Does (.tmfReading p mv) s (fun t =>
      t.sfld (R.PH_TEMP.TEMP p) = clampInt (-32768) 32767 (s.tmfTemp p mv) ∧
      (t.phase p).hot = (if ((s.fld (R.PH_TLIM.TSHUT p) * 10 : Nat) : Int) < s.tmfTemp p mv then min 16 ((s.phase p).hot + 1) else 0) ∧
      Frame [.regs, .phases] s t ∧ RegsOnly [R.PH_TEMP.reg p] s t)) ∧
  (∀ (p : Fin 48) (mv : Nat) (s : State), s.phaseOn p = false → exec (.tmfReading p mv) s = .next s)

/-- Suspect sensing, switching cycles and PLL_P.  Suspect current sensing, the reference of ISNS, the end of a
switching cycle and the loss and return of PLL_P, with its time-out for loops with and without a rail, complete
with the registers and loop states of the rules. Clauses that a command whose precondition fails changes nothing
rest on log entry 4, and those that carry time to a deadline on log entry 3.  (spec/05_phase_ports.md,
spec/04_loop_array.md.) -/
def Obligations.SensingAndPllPComplete : Prop :=
  (∀ (p : Fin 48) (s : State), s.phaseActive p = true → s.bit (R.PH_STATUS.SUSPECT p) = false →
      4 ≤ (s.phase p).range → Does (.senseSuspectRange p) s (fun t =>
      t.bit (R.PH_STATUS.SUSPECT p) = true ∧ t.fld (R.PH_STATUS.SUSC p) = 1 ∧ Raises 25 s t ∧
      Frame (.loops :: .seq :: .link :: notes) s t ∧ RegsIn [B.host, B.loop, B.phase] s t)) ∧
  (∀ (p : Fin 48) (s : State), s.fld (R.PH_STATUS.STATE p) ≠ 2 → exec (.senseSuspectRange p) s = .next s) ∧
  (∀ (p : Fin 48) (s : State), s.phaseActive p = true → s.bit (R.PH_STATUS.SUSPECT p) = false →
      256 ≤ s.fld (R.PH_FLUX.CNT p) → Does (.senseSuspectFlux p) s (fun t =>
      t.bit (R.PH_STATUS.SUSPECT p) = true ∧ t.fld (R.PH_STATUS.SUSC p) = 2 ∧ Raises 25 s t ∧
      Frame (.loops :: .seq :: .link :: notes) s t ∧ RegsIn [B.host, B.loop, B.phase] s t)) ∧
  (∀ (p : Fin 48) (s : State), s.fld (R.PH_STATUS.STATE p) ≠ 2 → exec (.senseSuspectFlux p) s = .next s) ∧
  (∀ (mv : BitVec 12) (s : State), 1100 ≤ mv.toNat → mv.toNat ≤ 1300 → Does (.isnsRefFail mv) s (fun t =>
      t.fld R.PH_REF_STATUS.VREF = mv.toNat ∧ Frame [.regs] s t ∧ RegsOnly [R.PH_REF_STATUS.reg] s t)) ∧
  (∀ (mv : BitVec 12) (s : State), (mv.toNat < 1100 ∨ 1300 < mv.toNat) → Does (.isnsRefFail mv) s (fun t =>
      t.fld R.PH_REF_STATUS.VREF = mv.toNat ∧ t.bit R.PH_REF_STATUS.FAIL = true ∧ Raises 25 s t ∧
      Frame (.loops :: .seq :: .link :: notes) s t ∧ RegsIn [B.host, B.loop, B.phase] s t)) ∧
  (∀ (p : Fin 48) (c : CycleSamples) (s : State), s.phaseActive p = true →
      Does (.switchingCycleEnd p c) s (fun t =>
      (t.phase p).cyc = s.sampleCurrent p 100 c.centre ∧
      t.sfld (R.PH_IPV.IPK p) = clampInt (-32768) 32767 (s.sampleCurrent p 10 c.peak) ∧
      (t.phase p).ocp = false ∧ (t.phase p).ocn = false ∧
      Frame (.loops :: .phases :: .seq :: .link :: notes) s t ∧ RegsIn [B.evt, B.link, B.loop, B.phase] s t)) ∧
  (∀ (p : Fin 48) (c : CycleSamples) (s : State), s.fld (R.PH_STATUS.STATE p) ≠ 2 →
      exec (.switchingCycleEnd p c) s = .next s) ∧
  (∀ (s : State), s.sys.pllP = .locked → Does .pllpUnlock s (fun t =>
      t.sys.pllP = .out ∧ t.bit R.SYS_CLK_STATUS.PLLP_UNLOCK = true ∧
      (∀ n, n < 24 → s.lstate n ≠ L.off → s.lstate n ≠ L.fault → (t.loop n).clkHeld = true) ∧
      (∀ p, p < 48 → t.drive p = .mid) ∧ Raises 60 s t ∧ Frame (.sys :: .loops :: .seq :: .link :: notes) s t ∧
      RegsIn [B.sys] s t)) ∧
  (∀ (s : State), s.sys.pllP ≠ .locked → exec .pllpUnlock s = .next s) ∧
  (∀ (s : State), s.sys.pllP = .out → Does .pllpRelock s (fun t =>
      t.sys.pllP = .locked ∧ t.deadline T.pllP = none ∧
      (s.runs T.pllP = true → ∀ n, n < 24 → (s.loop n).clkHeld = true → s.lstate n ≠ L.off → s.lstate n ≠ L.fault → (t.loop n).clkHeld = false ∧ (t.loop n).ref = s.fld (R.LOOP_VOUT.VOUT n) * 4096))) ∧
  (∀ (s : State), s.sys.pllP ≠ .out → exec .pllpRelock s = .next s) ∧
  (∀ (s : State), s.runs T.pllP = true → Does .pllpUnlockTimeout s (fun t =>
      (∀ n, n < 24 → s.lstate n ≠ L.off → s.lstate n ≠ L.fault → (t.lstate n = L.fault ∨ t.lstate n = L.off) ∧ t.fld (R.LOOP_STATUS.CAUSE n) = 6 ∧ (∀ r ∈ s.railOfLoop n, t.bit (R.SEQ_RAIL_STATUS.FLT r) = true)) ∧
      (((List.range 24).all fun n => (s.railOfLoop n).isNone) = true → ∀ n, n < 24 → s.lstate n ≠ L.off → s.lstate n ≠ L.fault → t.lstate n = L.fault))) ∧
  (∀ (s : State), s.runs T.pllP = false → exec .pllpUnlockTimeout s = .next s)

/-- Survey bursts, forecasts and the intent links.  A burst starts, pauses, resumes, times out, ends and yields its
result; a forecast is prepositioned, fulfilled or dropped; an intent command is acknowledged with the next SEQ
and acts on its loop (a set-point becomes the target or waits for its tick, a forecast is held), or is refused
with its reason. Clauses that a command whose precondition fails changes nothing rest on log entry 4, and those
that carry time to a deadline on log entry 3.  (spec/06_survey_intent.md.) -/
def Obligations.SurveyForecastAndIntentComplete : Prop :=
  (∀ (n : Fin 24) (s : State), s.surveyAllowed n = true → s.fld (R.SV_STATUS.STATE n) = 0 →
      s.runs (T.survey n) = true → Does (.surveyBurstStart n) s (fun t =>
      t.fld (R.SV_STATUS.STATE n) = 1 ∧ (t.loop n).svStart = t.ns ∧
      t.deadline (T.burstLimit n) = some (t.ns + 500000000) ∧
      t.deadline (T.survey n) = some (t.ns + s.surveyPeriod n) ∧ Frame [.clock, .timers, .regs, .loops] s t ∧
      RegsOnly [R.SV_STATUS.reg n] s t)) ∧
  (∀ (n : Fin 24) (s : State), s.surveyAllowed n = false → exec (.surveyBurstStart n) s = .next s) ∧
  (∀ (n : Fin 24) (s : State), s.surveyAllowed n = true → s.fld (R.SV_STATUS.STATE n) = 0 →
      Does (.surveyForce n) s (fun t =>
      t.fld (R.SV_STATUS.STATE n) = 1 ∧ (t.loop n).svStart = s.ns ∧ (t.loop n).svLfsr = n.val + 1 ∧
      t.deadline (T.survey n) = some (s.ns + s.surveyPeriod n) ∧ Frame [.timers, .regs, .loops] s t ∧
      RegsOnly [R.SV_STATUS.reg n] s t)) ∧
  (∀ (n : Fin 24) (s : State), (s.surveyAllowed n = false ∨ s.fld (R.SV_STATUS.STATE n) ≠ 0) →
      exec (.surveyForce n) s = .next s) ∧
  (∀ (n : Fin 24) (s : State), s.fld (R.SV_STATUS.STATE n) = 1 → s.surveyAllowed n = false →
      Does (.surveyPause n) s (fun t =>
      t.fld (R.SV_STATUS.STATE n) = 2 ∧ t.deadline (T.burst n) = none ∧
      (t.loop n).svLeft = (s.loop n).svLeft - (s.ns - (s.loop n).svRun) / s.seqNs n ∧
      Frame [.timers, .regs, .loops] s t)) ∧
  (∀ (n : Fin 24) (s : State), s.fld (R.SV_STATUS.STATE n) ≠ 1 → exec (.surveyPause n) s = .next s) ∧
  (∀ (n : Fin 24) (s : State), s.fld (R.SV_STATUS.STATE n) = 2 → s.surveyAllowed n = true →
      s.runs (T.resume n) = true → Does (.surveyResume n) s (fun t =>
      t.fld (R.SV_STATUS.STATE n) = 1 ∧ (t.loop n).svLfsr = n.val + 1 ∧
      t.deadline (T.burst n) = some (t.ns + max 1 (s.loop n).svLeft * s.seqNs n) ∧
      Frame [.clock, .timers, .regs, .loops] s t)) ∧
  (∀ (n : Fin 24) (s : State), (s.fld (R.SV_STATUS.STATE n) ≠ 2 ∨ s.surveyAllowed n = false) →
      exec (.surveyResume n) s = .next s) ∧
  (∀ (n : Fin 24) (s : State), s.runs (T.burstLimit n) = true →
      (s.fld (R.SV_STATUS.STATE n) = 1 ∨ s.fld (R.SV_STATUS.STATE n) = 2) → Does (.surveyTimeout n) s (fun t =>
      t.fld (R.SV_STATUS.STATE n) = 0 ∧ (t.loop n).pert = 0 ∧ t.deadline (T.burst n) = none ∧
      Frame [.clock, .regs, .timers, .loops, .evt, .host] s t ∧ RegsIn [B.loop] s t)) ∧
  (∀ (n : Fin 24) (s : State), s.runs (T.burstLimit n) = false → exec (.surveyTimeout n) s = .next s) ∧
  (∀ (n : Fin 24) (s : State), s.fld (R.SV_STATUS.STATE n) = 1 → s.runs (T.burst n) = true →
      Does (.surveyBurstEnd n) s (fun t =>
      t.fld (R.SV_STATUS.STATE n) = 3 ∧ t.deadline (T.burst n) = none ∧
      t.deadline (T.compute n) = some (t.ns + 2000000) ∧ Frame [.clock, .timers, .regs] s t)) ∧
  (∀ (n : Fin 24) (s : State), s.fld (R.SV_STATUS.STATE n) ≠ 1 → exec (.surveyBurstEnd n) s = .next s) ∧
  (∀ (n : Fin 24) (est : Estimate) (s : State), s.fld (R.SV_STATUS.STATE n) = 3 →
      Does (.surveyResult n est) s (fun t =>
      t.fld (R.SV_STATUS.STATE n) = 0 ∧ t.fld (R.SV_STATUS.RESULT n) = s.surveyCode n est ∧
      (s.surveyCode n est = 1 → t.fld (R.SV_RES_C.C n) = satNat 0xFFFFF est.cap) ∧ t.loops = s.loops ∧
      Frame [.clock, .regs, .timers, .trace, .tracePost, .evt, .host] s t ∧ RegsIn [B.host, B.loop] s t)) ∧
  (∀ (n : Fin 24) (est : Estimate) (s : State), s.fld (R.SV_STATUS.STATE n) ≠ 3 →
      exec (.surveyResult n est) s = .next s) ∧
  (∀ (n : Fin 24) (f : Forecast) (s : State), s.runs (T.fcPre n) = true → (s.loop n).forecast = some f →
      f.fulfilled = false → f.unwinding = false → Does (.forecastPreposition n) s (fun t =>
      (t.loop n).forecast = some { f with prepos := true } ∧ t.regs = s.regs ∧
      Frame [.clock, .timers, .loops, .phases] s t)) ∧
  (∀ (n : Fin 24) (s : State), s.runs (T.fcPre n) = false → exec (.forecastPreposition n) s = .next s) ∧
  (∀ (n : Fin 24) (f : Forecast) (s : State), s.runs (T.fcWin n) = true → (s.loop n).forecast = some f →
      f.delta ≠ 0 → Does (.forecastUnfulfilled n) s (fun t =>
      (t.loop n).forecast = (if (s.loop n).preraise = 0 then none else some { f with unwinding := true }) ∧
      t.deadline (T.fcWin n) = none ∧ t.deadline (T.fcPre n) = none ∧
      Frame [.clock, .regs, .timers, .trace, .tracePost, .loops, .phases, .evt, .host] s t ∧
      RegsIn [B.host, B.loop] s t)) ∧
  (∀ (n : Fin 24) (s : State), s.runs (T.fcWin n) = false → exec (.forecastUnfulfilled n) s = .next s) ∧
  (∀ (n : Fin 24) (f : Forecast) (s : State), s.runs (T.fcWin n) = true → (s.loop n).forecast = some f →
      f.delta = 0 → Does (.forecastUnfulfilled n) s (fun t =>
      (t.loop n).forecast = some { f with fulfilled := true } ∧ t.deadline (T.fcWin n) = none ∧
      t.runs (T.fcHold n) = true ∧
      Frame [.clock, .regs, .timers, .trace, .tracePost, .loops, .phases, .evt, .host] s t ∧
      RegsIn [B.host, B.loop] s t)) ∧
  (∀ (n : Fin 24) (f : Forecast) (s : State), s.runs (T.fcHold n) = true → (s.loop n).forecast = some f →
      Does (.preraiseHoldEnd n) s (fun t =>
      (t.loop n).forecast = (if (s.loop n).preraise = 0 then none else some { f with unwinding := true }) ∧
      t.deadline (T.fcHold n) = none ∧ Frame [.clock, .timers, .regs, .loops] s t ∧ RegsOnly [R.IL_FC.reg n] s t)) ∧
  (∀ (n : Fin 24) (s : State), s.runs (T.fcHold n) = false → exec (.preraiseHoldEnd n) s = .next s) ∧
  (∀ (il : Fin 2) (frame : Word) (s : State), s.ilServiced il = true → frame.field 29 3 = 1 →
      s.intentReason il frame = none → Does (.intentSetpoint il frame) s (fun t =>
      ((s.lstate (frame.field 24 5) = L.off ∨ s.lbase (frame.field 24 5) = L.stop) → (s.loop (frame.field 24 5)).lastRank ≤ srcRank (.il il) → t.target (frame.field 24 5) = frame.field 8 15) ∧
      (s.lstate (frame.field 24 5) ≠ L.off → s.lbase (frame.field 24 5) ≠ L.stop → t.target (frame.field 24 5) = s.target (frame.field 24 5) ∧ (t.loop (frame.field 24 5)).queued = enqueueCmd ⟨srcRank (.il il), frame.field 8 15, slewCode (if frame.field 23 1 = 1 then max 1 (s.fld (R.IL_CFG.FRATE il)) else s.fld (R.LOOP_SLEW.RATE (frame.field 24 5)))⟩ (s.loop (frame.field 24 5)).queued) ∧
      t.fld (R.IL_STAT.SEQ il) = (s.fld (R.IL_STAT.SEQ il) + 1) % 65536 ∧
      t.ilReply.at 0#32 il = intentFrame 5 (frame.field 24 5) ((s.fld (R.IL_STAT.SEQ il) + 1) % 65536) ∧
      t.pair (R.IL_LAST_TS_LO.reg il) (R.IL_LAST_TS_HI.reg il) = s.now)) ∧
  (∀ (il : Fin 2) (frame : Word) (why : Nat) (s : State), s.ilServiced il = true →
      s.intentReason il frame = some why → Does (.intentSetpoint il frame) s (fun t =>
      t.ilReply.at 0#32 il = intentFrame 6 (frame.field 24 5) (why * 256) ∧ Counts (R.IL_ERR.NACK il) s t ∧
      t.loops = s.loops ∧ t.phases = s.phases)) ∧
  (∀ (il : Fin 2) (frame : Word) (s : State), s.ilServiced il = false →
      exec (.intentSetpoint il frame) s = .next s) ∧
  (∀ (il : Fin 2) (frame : Word) (s : State), s.ilServiced il = true → frame.field 29 3 = 2 →
      s.intentReason il frame = none → Does (.intentForecast il frame) s (fun t =>
      t.bit (R.IL_FC.PEND (frame.field 24 5)) = true ∧ Counts (R.IL_FCNT2.ACC (frame.field 24 5)) s t ∧
      t.bit (R.LOOP_STATUS.DE (frame.field 24 5)) = (s.loop (frame.field 24 5)).deForced ∧
      (t.loop (frame.field 24 5)).forecast.map (fun f => (f.link, f.frame, f.time, f.delta)) = some (il.val, frame, s.ns + frame.field 8 6 * 1000, signedOf 10 (frame.field 14 10) * 200) ∧
      t.fld (R.IL_STAT.SEQ il) = (s.fld (R.IL_STAT.SEQ il) + 1) % 65536 ∧
      t.ilReply.at 0#32 il = intentFrame 5 (frame.field 24 5) ((s.fld (R.IL_STAT.SEQ il) + 1) % 65536) ∧
      t.pair (R.IL_LAST_TS_LO.reg il) (R.IL_LAST_TS_HI.reg il) = s.now)) ∧
  (∀ (il : Fin 2) (frame : Word) (why : Nat) (s : State), s.ilServiced il = true →
      s.intentReason il frame = some why → Does (.intentForecast il frame) s (fun t =>
      t.ilReply.at 0#32 il = intentFrame 6 (frame.field 24 5) (why * 256) ∧ Counts (R.IL_ERR.NACK il) s t ∧
      t.loops = s.loops ∧ t.phases = s.phases)) ∧
  (∀ (il : Fin 2) (frame : Word) (s : State), s.ilServiced il = false →
      exec (.intentForecast il frame) s = .next s) ∧
  (∀ (il : Fin 2) (frame : Word) (why : Nat) (s : State), s.ilServiced il = true →
      s.intentReason il frame = some why → Does (.intentBadFrame il frame) s (fun t =>
      t.ilReply.at 0#32 il = intentFrame 6 (frame.field 24 5) (why * 256) ∧ Counts (R.IL_ERR.NACK il) s t ∧
      t.loops = s.loops ∧ t.phases = s.phases)) ∧
  (∀ (il : Fin 2) (frame : Word) (s : State), s.ilServiced il = false →
      exec (.intentBadFrame il frame) s = .next s) ∧
  (∀ (il : Fin 2) (s : State), s.ilServiced il = true → Does (.intentShortTransaction il) s (fun t =>
      Counts (R.IL_ERR.SHORT il) s t ∧ Frame notes s t ∧ RegsOnly [R.IL_ERR.reg il] s t)) ∧
  (∀ (il : Fin 2) (s : State), s.ilServiced il = false → exec (.intentShortTransaction il) s = .next s)

/-- Rail requests, qualification and faults.  Rail requests, by a register or by the two-wire message,
qualification, start time-out, chatter, discharge time-out, retry delay and the clearing of the retry count
complete with the states and causes of Table 7.1; a reacting fault of a rail retries, latches, shuts its group
down or resets the system as REACT, RETRIES and EXH say (R139 to R141). Clauses that a command whose
precondition fails changes nothing rest on log entry 4, and those that carry time to a deadline on log entry 3.
(spec/07_sequencer.md.) -/
def Obligations.RailCommandsComplete : Prop :=
  (∀ (r : Req) (n : Fin 64) (s : State), s.may r (R.SEQ_RAIL_CTRL.reg n) true (some 0xE5) = true →
      s.railCtrlOk n = true → Does (.railOnRequest r n) s (fun t =>
      t.bit (R.SEQ_RAIL_STATUS.REQ n) = true ∧ t.rails = s.rails ∧ t.seq = s.seq ∧
      (s.qst n = Q.off → s.holdOf n = .none → t.qst n = Q.wait) ∧
      (s.qst n = Q.off → s.holdOf n ≠ .none → t.qst n = Q.off) ∧
      Frame (.rails :: .groups :: .seq :: .link :: notes) s t ∧ RegsIn [B.evt, B.host, B.link, B.seq] s t)) ∧
  (∀ (r : Req) (n : Fin 64) (s : State), s.may r (R.SEQ_RAIL_CTRL.reg n) true (some 0xE5) = false →
      exec (.railOnRequest r n) s = .next (s.denied r true)) ∧
  (∀ (r : Req) (n : Fin 64) (s : State), s.may r (R.SEQ_RAIL_CTRL.reg n) true (some 0xE5) = true →
      s.railCtrlOk n = false → exec (.railOnRequest r n) s = .next s) ∧
  (∀ (r : Req) (n : Fin 64) (s : State), s.may r (R.SEQ_RAIL_CTRL.reg n) true (some 0xE5) = true →
      s.railCtrlOk n = true → Does (.railOffRequest r n) s (fun t =>
      t.bit (R.SEQ_RAIL_STATUS.REQ n) = false ∧ t.bit (R.SEQ_RAIL_STATUS.FLT n) = false ∧
      t.seq.offClosures.length = s.seq.offClosures.length + 1 ∧
      Frame (.rails :: .groups :: .seq :: .link :: notes) s t ∧ RegsIn [B.evt, B.host, B.link, B.seq] s t)) ∧
  (∀ (r : Req) (n : Fin 64) (s : State), s.may r (R.SEQ_RAIL_CTRL.reg n) true (some 0xE5) = false →
      exec (.railOffRequest r n) s = .next (s.denied r true)) ∧
  (∀ (r : Req) (n : Fin 64) (s : State), s.may r (R.SEQ_RAIL_CTRL.reg n) true (some 0xE5) = true →
      s.railCtrlOk n = false → exec (.railOffRequest r n) s = .next s) ∧
  (∀ (r : Req) (n : Fin 64) (s : State), s.may r (R.SEQ_RAIL_CTRL.reg n) true (some 0xE5) = true →
      s.railCtrlOk n = true → s.qst n = Q.latched → Does (.railClearLatch r n) s (fun t =>
      t.qst n = (if s.bit (R.SEQ_RAIL_STATUS.REQ n) && s.holdOf n = .none then Q.wait else Q.off) ∧
      Frame (.rails :: .groups :: notes) s t)) ∧
  (∀ (r : Req) (n : Fin 64) (s : State), s.may r (R.SEQ_RAIL_CTRL.reg n) true (some 0xE5) = false →
      exec (.railClearLatch r n) s = .next (s.denied r true)) ∧
  (∀ (r : Req) (n : Fin 64) (s : State), s.may r (R.SEQ_RAIL_CTRL.reg n) true (some 0xE5) = true →
      (s.railCtrlOk n = false ∨ s.qst n ≠ Q.latched) → exec (.railClearLatch r n) s = .next s) ∧
  (∀ (n : Fin 64) (m : BusMsg) (s : State), s.takesWrite m 0xE5 2 2 = true → bytesLE m.data / 256 % 4 = 1 →
      s.railCtrlOk (bytesLE m.data % 64) = true → Does (.railOnRequest .hostBus n (some m)) s (fun t =>
      t.bit (R.SEQ_RAIL_STATUS.REQ (bytesLE m.data % 64)) = true ∧
      (s.qst (bytesLE m.data % 64) = Q.off → s.holdOf (bytesLE m.data % 64) = .none → t.qst (bytesLE m.data % 64) = Q.wait) ∧
      t.rails = s.rails ∧ t.host.refused = false ∧ t.pair R.HOST_LAST_TS_LO.reg R.HOST_LAST_TS_HI.reg = s.now ∧
      Frame (.rails :: .groups :: .seq :: .link :: notes) s t ∧ RegsIn [B.evt, B.host, B.link, B.seq] s t)) ∧
  (∀ (n : Fin 64) (m : BusMsg) (s : State), s.busOn = false →
      exec (.railOnRequest .hostBus n (some m)) s = .next s) ∧
  (∀ (n : Fin 64) (m : BusMsg) (s : State), s.busOn = true → s.codeMay 0xE5 (!m.read) = false →
      Does (.railOnRequest .hostBus n (some m)) s (fun t =>
      t = s.refuse 0x80 false)) ∧
  (∀ (n : Fin 64) (m : BusMsg) (s : State), s.takesWrite m 0xE5 2 2 = true → bytesLE m.data / 256 % 4 = 2 →
      s.railCtrlOk (bytesLE m.data % 64) = true → Does (.railOffRequest .hostBus n (some m)) s (fun t =>
      t.bit (R.SEQ_RAIL_STATUS.REQ (bytesLE m.data % 64)) = false ∧
      t.bit (R.SEQ_RAIL_STATUS.FLT (bytesLE m.data % 64)) = false ∧
      t.seq.offClosures.length = s.seq.offClosures.length + 1 ∧ t.host.refused = false ∧
      t.pair R.HOST_LAST_TS_LO.reg R.HOST_LAST_TS_HI.reg = s.now ∧
      Frame (.rails :: .groups :: .seq :: .link :: notes) s t ∧ RegsIn [B.evt, B.host, B.link, B.seq] s t)) ∧
  (∀ (n : Fin 64) (m : BusMsg) (s : State), s.busOn = false →
      exec (.railOffRequest .hostBus n (some m)) s = .next s) ∧
  (∀ (n : Fin 64) (m : BusMsg) (s : State), s.busOn = true → s.codeMay 0xE5 (!m.read) = false →
      Does (.railOffRequest .hostBus n (some m)) s (fun t =>
      t = s.refuse 0x80 false)) ∧
  (∀ (n : Fin 64) (m : BusMsg) (s : State), s.takesWrite m 0xE5 2 2 = true → bytesLE m.data / 256 % 4 = 3 →
      s.railCtrlOk (bytesLE m.data % 64) = true → Does (.railClearLatch .hostBus n (some m)) s (fun t =>
      (s.qst (bytesLE m.data % 64) = Q.latched → s.openBus.holdOf (bytesLE m.data % 64) = .none → t.qst (bytesLE m.data % 64) = (if s.bit (R.SEQ_RAIL_STATUS.REQ (bytesLE m.data % 64)) then Q.wait else Q.off)) ∧
      (s.qst (bytesLE m.data % 64) ≠ Q.latched → t.qst (bytesLE m.data % 64) = s.qst (bytesLE m.data % 64)) ∧
      t.host.refused = false ∧ t.pair R.HOST_LAST_TS_LO.reg R.HOST_LAST_TS_HI.reg = s.now ∧
      Frame (.rails :: .groups :: .seq :: .link :: notes) s t ∧ RegsIn [B.evt, B.host, B.link, B.seq] s t)) ∧
  (∀ (n : Fin 64) (m : BusMsg) (s : State), s.busOn = false →
      exec (.railClearLatch .hostBus n (some m)) s = .next s) ∧
  (∀ (n : Fin 64) (m : BusMsg) (s : State), s.busOn = true → s.codeMay 0xE5 (!m.read) = false →
      Does (.railClearLatch .hostBus n (some m)) s (fun t =>
      t = s.refuse 0x80 false)) ∧
  (∀ (n : Fin 64) (t0 : Nat) (s : State), (s.rail n).qualFrom = some t0 → s.qst n = Q.ramp → s.railPg n = true →
      Does (.railQualified n) s (fun t =>
      t.qst n = Q.good ∧ t.bit (R.SEQ_RAIL_STATUS.FLT n) = false ∧ t0 + s.pgqNs n ≤ t.ns ∧
      t.fld (R.SEQ_RAIL_TON.TON n) = satNat 0xFFFFFF ((t.ns - (s.rail n).startNs) / 1000) ∧
      (t.rail n).goodFrom = some t.ns ∧ Frame [.clock, .regs, .loops, .rails] s t ∧ RegsIn [B.seq] s t)) ∧
  (∀ (n : Fin 64) (s : State), (s.rail n).qualFrom = none → exec (.railQualified n) s = .next s) ∧
  (∀ (n : Fin 64) (t0 : Nat) (s : State), (s.rail n).onFrom = some t0 → s.qst n = Q.ramp →
      s.fld (R.SEQ_RAIL_REACT.REACT n) = 0 → s.railPd n = false → s.sys.phase ≠ .safe →
      Does (.railStartTimeout n) s (fun t =>
      t.bit (R.SEQ_RAIL_STATUS.FLT n) = true ∧ t.fld (R.SEQ_RAIL_STATUS.CAUSE n) = 2 ∧ t.qst n = Q.ramp ∧
      (t.rail n).onFrom = none ∧ t0 + s.onmaxNs n ≤ t.ns)) ∧
  (∀ (n : Fin 64) (s : State), (s.rail n).onFrom = none → exec (.railStartTimeout n) s = .next s) ∧
  (∀ (n : Fin 64) (s : State), s.chatters n = true → s.fld (R.SEQ_RAIL_REACT.REACT n) = 0 → s.railPd n = false →
      s.sys.phase ≠ .safe → Does (.railChatterLimit n) s (fun t =>
      t.bit (R.SEQ_RAIL_STATUS.FLT n) = true ∧ t.fld (R.SEQ_RAIL_STATUS.CAUSE n) = 3 ∧
      t.qst n = (if s.running n then Q.ramp else s.qst n) ∧ Counts (R.SEQ_RAIL_CNT.FAULTS n) s t)) ∧
  (∀ (n : Fin 64) (s : State), s.chatters n = false → exec (.railChatterLimit n) s = .next s) ∧
  (∀ (n : Fin 64) (t0 : Nat) (s : State), (s.rail n).onFrom = some t0 → s.qst n = Q.ramp → s.railPd n = false →
      s.sys.phase ≠ .safe → s.fld (R.SEQ_RAIL_REACT.REACT n) = 1 →
      (s.fld (R.SEQ_RAIL_REACT.RETRIES n) = 0 ∨ s.fld (R.SEQ_RAIL_CNT.RETRY n) < s.fld (R.SEQ_RAIL_REACT.RETRIES n)) →
      Does (.railStartTimeout n) s (fun t =>
      t.bit (R.SEQ_RAIL_STATUS.FLT n) = true ∧ t.fld (R.SEQ_RAIL_STATUS.CAUSE n) = 2 ∧
      Counts (R.SEQ_RAIL_CNT.FAULTS n) s t ∧ t.qst n = Q.stop ∧
      (t.rail n).stopFor = (if (s.rail n).stopFor = .offRequest then .offRequest else .retry) ∧
      (t.rail n).offFrom = some t.ns ∧
      t.fld (R.SEQ_RAIL_CNT.RETRY n) = min 15 (s.fld (R.SEQ_RAIL_CNT.RETRY n) + 1))) ∧
  (∀ (n : Fin 64) (t0 : Nat) (s : State), (s.rail n).onFrom = some t0 → s.qst n = Q.ramp → s.railPd n = false →
      s.sys.phase ≠ .safe → s.fld (R.SEQ_RAIL_REACT.REACT n) = 1 → 0 < s.fld (R.SEQ_RAIL_REACT.RETRIES n) →
      s.fld (R.SEQ_RAIL_REACT.RETRIES n) ≤ s.fld (R.SEQ_RAIL_CNT.RETRY n) →
      s.fld (R.SEQ_RAIL_REACT.EXH n) = 0 → Does (.railStartTimeout n) s (fun t =>
      t.bit (R.SEQ_RAIL_STATUS.FLT n) = true ∧ t.fld (R.SEQ_RAIL_STATUS.CAUSE n) = 2 ∧
      Counts (R.SEQ_RAIL_CNT.FAULTS n) s t ∧ t.qst n = Q.stop ∧ (t.rail n).stopFor = .latch)) ∧
  (∀ (n : Fin 64) (t0 : Nat) (s : State), (s.rail n).onFrom = some t0 → s.qst n = Q.ramp → s.railPd n = false →
      s.sys.phase ≠ .safe → s.fld (R.SEQ_RAIL_REACT.REACT n) = 2 →
      s.fld (R.SEQ_GRP_STATUS.STATE (s.fld (R.SEQ_RAIL_CFG.GRP n))) ≠ 1 →
      s.bit (R.SEQ_RAIL_CFG.INGRP n) = true → s.seqHeld = false → s.sysHolds = false →
      Does (.railStartTimeout n) s (fun t =>
      t.bit (R.SEQ_RAIL_STATUS.FLT n) = true ∧ t.fld (R.SEQ_RAIL_STATUS.CAUSE n) = 2 ∧
      Counts (R.SEQ_RAIL_CNT.FAULTS n) s t ∧
      t.fld (R.SEQ_GRP_STATUS.STATE (s.fld (R.SEQ_RAIL_CFG.GRP n))) = 1 ∧
      t.bit (R.SEQ_GRP_STATUS.EXH (s.fld (R.SEQ_RAIL_CFG.GRP n))) = false ∧
      (t.group (s.fld (R.SEQ_RAIL_CFG.GRP n))).byHandover = false ∧
      (∀ r ∈ (t.group (s.fld (R.SEQ_RAIL_CFG.GRP n))).closure, s.running r = true → t.qst r = s.qst r ∧ (t.rail r).marked = true ∧ (t.rail r).stopFor = .group))) ∧
  (∀ (n : Fin 64) (t0 : Nat) (s : State), (s.rail n).onFrom = some t0 → s.qst n = Q.ramp → s.railPd n = false →
      s.sys.phase ≠ .safe → s.fld (R.SEQ_RAIL_REACT.REACT n) = 1 → 0 < s.fld (R.SEQ_RAIL_REACT.RETRIES n) →
      s.fld (R.SEQ_RAIL_REACT.RETRIES n) ≤ s.fld (R.SEQ_RAIL_CNT.RETRY n) →
      s.fld (R.SEQ_RAIL_REACT.EXH n) = 1 → s.fld (R.SEQ_GRP_STATUS.STATE (s.fld (R.SEQ_RAIL_CFG.GRP n))) ≠ 1 →
      s.bit (R.SEQ_RAIL_CFG.INGRP n) = true → s.seqHeld = false → s.sysHolds = false →
      Does (.railStartTimeout n) s (fun t =>
      t.bit (R.SEQ_RAIL_STATUS.FLT n) = true ∧ t.fld (R.SEQ_RAIL_STATUS.CAUSE n) = 2 ∧
      Counts (R.SEQ_RAIL_CNT.FAULTS n) s t ∧
      t.fld (R.SEQ_GRP_STATUS.STATE (s.fld (R.SEQ_RAIL_CFG.GRP n))) = 1 ∧
      t.bit (R.SEQ_GRP_STATUS.EXH (s.fld (R.SEQ_RAIL_CFG.GRP n))) = false ∧
      (t.group (s.fld (R.SEQ_RAIL_CFG.GRP n))).byHandover = false ∧
      (∀ r ∈ (t.group (s.fld (R.SEQ_RAIL_CFG.GRP n))).closure, s.running r = true → t.qst r = s.qst r ∧ (t.rail r).marked = true ∧ (t.rail r).stopFor = .group))) ∧
  (∀ (n : Fin 64) (t0 : Nat) (s : State), (s.rail n).onFrom = some t0 → s.qst n = Q.ramp → s.railPd n = false →
      s.sys.phase ≠ .safe →
      (s.fld (R.SEQ_RAIL_REACT.REACT n) = 3 ∨ s.fld (R.SEQ_RAIL_REACT.REACT n) = 2 ∧ s.bit (R.SEQ_RAIL_CFG.INGRP n) = false ∨ s.fld (R.SEQ_RAIL_REACT.REACT n) = 1 ∧ 0 < s.fld (R.SEQ_RAIL_REACT.RETRIES n) ∧ s.fld (R.SEQ_RAIL_REACT.RETRIES n) ≤ s.fld (R.SEQ_RAIL_CNT.RETRY n) ∧ s.fld (R.SEQ_RAIL_REACT.EXH n) ≠ 0 ∧ (s.fld (R.SEQ_RAIL_REACT.EXH n) ≠ 1 ∨ s.bit (R.SEQ_RAIL_CFG.INGRP n) = false)) →
      s.seqHeld = false → s.sysHolds = false → Does (.railStartTimeout n) s (fun t =>
      t.bit (R.SEQ_RAIL_STATUS.FLT n) = true ∧ t.fld (R.SEQ_RAIL_STATUS.CAUSE n) = 2 ∧
      Counts (R.SEQ_RAIL_CNT.FAULTS n) s t ∧ t.seq.sysReset = .stopping ∧
      t.sup.rstoSys = s.fld R.SEQ_SYS.RSTOM ∧
      t.seq.halting = decide (max 1 (s.fld R.SEQ_SYS.MAXSR) < s.fld R.SEQ_STATUS.SYSCNT + 1) ∧
      (t.seq.halting = false → t.fld R.SEQ_STATUS.SYSCNT = min 15 (s.fld R.SEQ_STATUS.SYSCNT + 1)) ∧
      (t.seq.halting = true → t.fld R.SEQ_STATUS.SYSCNT = s.fld R.SEQ_STATUS.SYSCNT) ∧
      (∀ r, r < 64 → s.bit (R.SEQ_RAIL_CFG.EN r) = true → s.running r = true → t.qst r = s.qst r ∧ (t.rail r).marked = true ∧ (t.rail r).stopFor = .system) ∧
      (∀ g, g < 16 → t.fld (R.SEQ_GRP_STATUS.STATE g) = 0))) ∧
  (∀ (n : Fin 64) (s : State), s.chatters n = true → s.running n = true → s.railPd n = false →
      s.sys.phase ≠ .safe → s.fld (R.SEQ_RAIL_REACT.REACT n) = 1 →
      (s.fld (R.SEQ_RAIL_REACT.RETRIES n) = 0 ∨ s.fld (R.SEQ_RAIL_CNT.RETRY n) < s.fld (R.SEQ_RAIL_REACT.RETRIES n)) →
      Does (.railChatterLimit n) s (fun t =>
      t.bit (R.SEQ_RAIL_STATUS.FLT n) = true ∧ t.fld (R.SEQ_RAIL_STATUS.CAUSE n) = 3 ∧
      Counts (R.SEQ_RAIL_CNT.FAULTS n) s t ∧ t.qst n = Q.stop ∧
      (t.rail n).stopFor = (if (s.rail n).stopFor = .offRequest then .offRequest else .retry) ∧
      (t.rail n).offFrom = some t.ns ∧
      t.fld (R.SEQ_RAIL_CNT.RETRY n) = min 15 (s.fld (R.SEQ_RAIL_CNT.RETRY n) + 1))) ∧
  (∀ (n : Fin 64) (s : State), s.chatters n = true → s.running n = true → s.railPd n = false →
      s.sys.phase ≠ .safe → s.fld (R.SEQ_RAIL_REACT.REACT n) = 1 → 0 < s.fld (R.SEQ_RAIL_REACT.RETRIES n) →
      s.fld (R.SEQ_RAIL_REACT.RETRIES n) ≤ s.fld (R.SEQ_RAIL_CNT.RETRY n) →
      s.fld (R.SEQ_RAIL_REACT.EXH n) = 0 → Does (.railChatterLimit n) s (fun t =>
      t.bit (R.SEQ_RAIL_STATUS.FLT n) = true ∧ t.fld (R.SEQ_RAIL_STATUS.CAUSE n) = 3 ∧
      Counts (R.SEQ_RAIL_CNT.FAULTS n) s t ∧ t.qst n = Q.stop ∧ (t.rail n).stopFor = .latch)) ∧
  (∀ (n : Fin 64) (s : State), s.chatters n = true → s.running n = true → s.railPd n = false →
      s.sys.phase ≠ .safe → s.fld (R.SEQ_RAIL_REACT.REACT n) = 2 →
      s.fld (R.SEQ_GRP_STATUS.STATE (s.fld (R.SEQ_RAIL_CFG.GRP n))) ≠ 1 →
      s.bit (R.SEQ_RAIL_CFG.INGRP n) = true → s.seqHeld = false → s.sysHolds = false →
      Does (.railChatterLimit n) s (fun t =>
      t.bit (R.SEQ_RAIL_STATUS.FLT n) = true ∧ t.fld (R.SEQ_RAIL_STATUS.CAUSE n) = 3 ∧
      Counts (R.SEQ_RAIL_CNT.FAULTS n) s t ∧
      t.fld (R.SEQ_GRP_STATUS.STATE (s.fld (R.SEQ_RAIL_CFG.GRP n))) = 1 ∧
      t.bit (R.SEQ_GRP_STATUS.EXH (s.fld (R.SEQ_RAIL_CFG.GRP n))) = false ∧
      (t.group (s.fld (R.SEQ_RAIL_CFG.GRP n))).byHandover = false ∧
      (∀ r ∈ (t.group (s.fld (R.SEQ_RAIL_CFG.GRP n))).closure, s.running r = true → t.qst r = s.qst r ∧ (t.rail r).marked = true ∧ (t.rail r).stopFor = .group))) ∧
  (∀ (n : Fin 64) (s : State), s.chatters n = true → s.running n = true → s.railPd n = false →
      s.sys.phase ≠ .safe → s.fld (R.SEQ_RAIL_REACT.REACT n) = 1 → 0 < s.fld (R.SEQ_RAIL_REACT.RETRIES n) →
      s.fld (R.SEQ_RAIL_REACT.RETRIES n) ≤ s.fld (R.SEQ_RAIL_CNT.RETRY n) →
      s.fld (R.SEQ_RAIL_REACT.EXH n) = 1 → s.fld (R.SEQ_GRP_STATUS.STATE (s.fld (R.SEQ_RAIL_CFG.GRP n))) ≠ 1 →
      s.bit (R.SEQ_RAIL_CFG.INGRP n) = true → s.seqHeld = false → s.sysHolds = false →
      Does (.railChatterLimit n) s (fun t =>
      t.bit (R.SEQ_RAIL_STATUS.FLT n) = true ∧ t.fld (R.SEQ_RAIL_STATUS.CAUSE n) = 3 ∧
      Counts (R.SEQ_RAIL_CNT.FAULTS n) s t ∧
      t.fld (R.SEQ_GRP_STATUS.STATE (s.fld (R.SEQ_RAIL_CFG.GRP n))) = 1 ∧
      t.bit (R.SEQ_GRP_STATUS.EXH (s.fld (R.SEQ_RAIL_CFG.GRP n))) = false ∧
      (t.group (s.fld (R.SEQ_RAIL_CFG.GRP n))).byHandover = false ∧
      (∀ r ∈ (t.group (s.fld (R.SEQ_RAIL_CFG.GRP n))).closure, s.running r = true → t.qst r = s.qst r ∧ (t.rail r).marked = true ∧ (t.rail r).stopFor = .group))) ∧
  (∀ (n : Fin 64) (s : State), s.chatters n = true → s.running n = true → s.railPd n = false →
      s.sys.phase ≠ .safe →
      (s.fld (R.SEQ_RAIL_REACT.REACT n) = 3 ∨ s.fld (R.SEQ_RAIL_REACT.REACT n) = 2 ∧ s.bit (R.SEQ_RAIL_CFG.INGRP n) = false ∨ s.fld (R.SEQ_RAIL_REACT.REACT n) = 1 ∧ 0 < s.fld (R.SEQ_RAIL_REACT.RETRIES n) ∧ s.fld (R.SEQ_RAIL_REACT.RETRIES n) ≤ s.fld (R.SEQ_RAIL_CNT.RETRY n) ∧ s.fld (R.SEQ_RAIL_REACT.EXH n) ≠ 0 ∧ (s.fld (R.SEQ_RAIL_REACT.EXH n) ≠ 1 ∨ s.bit (R.SEQ_RAIL_CFG.INGRP n) = false)) →
      s.seqHeld = false → s.sysHolds = false → Does (.railChatterLimit n) s (fun t =>
      t.bit (R.SEQ_RAIL_STATUS.FLT n) = true ∧ t.fld (R.SEQ_RAIL_STATUS.CAUSE n) = 3 ∧
      Counts (R.SEQ_RAIL_CNT.FAULTS n) s t ∧ t.seq.sysReset = .stopping ∧
      t.sup.rstoSys = s.fld R.SEQ_SYS.RSTOM ∧
      t.seq.halting = decide (max 1 (s.fld R.SEQ_SYS.MAXSR) < s.fld R.SEQ_STATUS.SYSCNT + 1) ∧
      (t.seq.halting = false → t.fld R.SEQ_STATUS.SYSCNT = min 15 (s.fld R.SEQ_STATUS.SYSCNT + 1)) ∧
      (t.seq.halting = true → t.fld R.SEQ_STATUS.SYSCNT = s.fld R.SEQ_STATUS.SYSCNT) ∧
      (∀ r, r < 64 → s.bit (R.SEQ_RAIL_CFG.EN r) = true → s.running r = true → t.qst r = s.qst r ∧ (t.rail r).marked = true ∧ (t.rail r).stopFor = .system) ∧
      (∀ g, g < 16 → t.fld (R.SEQ_GRP_STATUS.STATE g) = 0))) ∧
  (∀ (n : Fin 64) (t0 : Nat) (s : State), (s.rail n).offFrom = some t0 → s.qst n = Q.stop →
      Does (.railDischargeTimeout n) s (fun t =>
      t.bit (R.SEQ_RAIL_STATUS.FLT n) = true ∧ t.fld (R.SEQ_RAIL_STATUS.CAUSE n) = 4 ∧
      t.qst n = (match (s.rail n).stopFor with | .retry => Q.retry | .latch => Q.latched | _ => Q.off) ∧
      t0 + s.offmaxNs n ≤ t.ns)) ∧
  (∀ (n : Fin 64) (s : State), (s.rail n).offFrom = none → exec (.railDischargeTimeout n) s = .next s) ∧
  (∀ (n : Fin 64) (t0 : Nat) (s : State), (s.rail n).retryFrom = some t0 → s.qst n = Q.retry →
      Does (.retryDelayEnd n) s (fun t =>
      t.qst n = (if s.bit (R.SEQ_RAIL_STATUS.REQ n) then Q.wait else Q.off) ∧ (t.rail n).retryFrom = none ∧
      t0 + s.rdlyNs n ≤ t.ns ∧ Frame [.clock, .regs, .evt, .rails] s t)) ∧
  (∀ (n : Fin 64) (s : State), (s.rail n).retryFrom = none → exec (.retryDelayEnd n) s = .next s) ∧
  (∀ (n : Fin 64) (t0 : Nat) (s : State), (s.rail n).goodFrom = some t0 → s.qst n = Q.good →
      Does (.retryCountClear n) s (fun t =>
      t.fld (R.SEQ_RAIL_CNT.RETRY n) = 0 ∧ t.bit (R.SEQ_RAIL_CNT.SAT_R n) = false ∧
      t0 + max 1 (s.fld R.SEQ_CFG.TRC) * 1000000000 ≤ t.ns ∧ Frame [.clock, .regs] s t ∧
      RegsOnly [R.SEQ_RAIL_CNT.reg n] s t)) ∧
  (∀ (n : Fin 64) (s : State), (s.rail n).goodFrom = none → exec (.retryCountClear n) s = .next s)

/-- Groups, system reset, snapshots and the tick.  Shut-down, closure, re-sequence and stability of groups, the hold
of a system reset, RESUME and a placed snapshot complete as R142 to R151 give; the sequencer tick evaluates
power-good, admits starts, issues starts and stops, and times qualification as R131 to R136 and R144 give.
Clauses that a command whose precondition fails changes nothing rest on log entry 4, and those that carry time
to a deadline on log entry 3.  (spec/07_sequencer.md, spec/13_ledger.md.) -/
def Obligations.GroupsResetAndSnapshotsComplete : Prop :=
  (∀ (r : Req) (g : Fin 16) (s : State), s.may r (R.SEQ_GRP_CTRL.reg g) true none = true → s.seqHeld = false →
      s.seq.sysReset = .none → s.fld (R.SEQ_GRP_STATUS.STATE g) = 0 →
      Does (.groupShutdownRequest r g) s (fun t =>
      t.fld (R.SEQ_GRP_STATUS.STATE g) = 1 ∧ t.bit (R.SEQ_GRP_STATUS.EXH g) = false ∧
      t.deadline (T.rsdly g) = none ∧ Frame (.rails :: .groups :: .seq :: .link :: notes) s t ∧
      RegsIn [B.evt, B.host, B.link, B.seq] s t)) ∧
  (∀ (r : Req) (g : Fin 16) (s : State), s.may r (R.SEQ_GRP_CTRL.reg g) true none = false →
      exec (.groupShutdownRequest r g) s = .next (s.denied r true)) ∧
  (∀ (r : Req) (g : Fin 16) (s : State), s.may r (R.SEQ_GRP_CTRL.reg g) true none = true → s.seqHeld = true →
      exec (.groupShutdownRequest r g) s = .next s) ∧
  (∀ (g : Fin 16) (s : State), s.fld (R.SEQ_GRP_STATUS.STATE g) = 1 →
      (s.stoppingGroups.all fun k => (s.group k).closure.all s.railDown) = true →
      Does (.groupClosureOff g) s (fun t =>
      (t.fld (R.SEQ_GRP_STATUS.STATE g) = 0 ∨ t.fld (R.SEQ_GRP_STATUS.STATE g) = 2) ∧
      Frame [.regs, .timers, .rails, .groups] s t ∧ RegsIn [B.seq] s t)) ∧
  (∀ (g : Fin 16) (s : State), s.fld (R.SEQ_GRP_STATUS.STATE g) ≠ 1 → exec (.groupClosureOff g) s = .next s) ∧
  (∀ (g : Fin 16) (s : State), s.reseqHeld g = false → s.runs (T.rsdly g) = true →
      Does (.groupResequence g) s (fun t =>
      t.fld (R.SEQ_GRP_STATUS.STATE g) = 3 ∧ t.deadline (T.rsdly g) = none ∧ (t.group g).byHandover = false ∧
      Frame [.clock, .regs, .timers, .rails, .groups, .evt, .host] s t ∧ RegsIn [B.seq] s t)) ∧
  (∀ (g : Fin 16) (s : State), (s.reseqHeld g = true ∨ s.runs (T.rsdly g) = false) →
      exec (.groupResequence g) s = .next s) ∧
  (∀ (g : Fin 16) (t0 : Nat) (s : State),
      s.goodSince (s.railsOn.filter (fun r => s.bit (R.SEQ_RAIL_CFG.INGRP r) && decide (s.fld (R.SEQ_RAIL_CFG.GRP r) = g.val))) = some t0 →
      Does (.groupStable g) s (fun t =>
      t.fld (R.SEQ_GRP_STATUS.RSCNT g) = 0 ∧ t.bit (R.SEQ_GRP_STATUS.SAT g) = false ∧ t0 + s.tstable ≤ t.ns ∧
      Frame [.clock, .regs] s t ∧ RegsOnly [R.SEQ_GRP_STATUS.reg g] s t)) ∧
  (∀ (t0 : Nat) (s : State), s.goodSince s.autoRails = some t0 → Does .systemStable s (fun t =>
      t.fld R.SEQ_STATUS.SYSCNT = 0 ∧ t.bit R.SEQ_STATUS.SAT = false ∧ t0 + s.tstable ≤ t.ns ∧
      Frame [.clock, .regs] s t ∧ RegsOnly [R.SEQ_STATUS.reg] s t)) ∧
  (∀ (s : State), s.goodSince s.autoRails = none → exec .systemStable s = .next s) ∧
  (∀ (s : State), s.runs T.sysHold = true → s.seq.halting = true → Does .systemResetHoldEnd s (fun t =>
      t.bit R.SEQ_STATUS.HALT = true ∧ t.seq.sysReset = .halted ∧ t.rails = s.rails ∧
      Frame [.clock, .regs, .timers, .rails, .seq, .evt, .host] s t ∧ RegsIn [B.seq] s t)) ∧
  (∀ (s : State), s.runs T.sysHold = false → exec .systemResetHoldEnd s = .next s) ∧
  (∀ (s : State), s.runs T.sysHold = true → s.seq.halting = false → Does .systemResetHoldEnd s (fun t =>
      t.seq.sysReset = .resequencing ∧
      (∀ r, r < 64 → s.bit (R.SEQ_RAIL_CFG.EN r) = true → t.qst r = (if s.bit (R.SEQ_RAIL_CFG.AUTO r) then Q.wait else Q.off)) ∧
      Frame [.clock, .regs, .timers, .rails, .seq, .evt, .host] s t ∧ RegsIn [B.seq] s t)) ∧
  (∀ (r : Req) (s : State), s.may r R.SEQ_CTRL.reg true none = true → s.bit R.SEQ_STATUS.HALT = true →
      s.seqHeld = false → Does (.seqResume r) s (fun t =>
      t.bit R.SEQ_STATUS.HALT = false ∧ t.fld R.SEQ_STATUS.SYSCNT = 0 ∧ t.seq.sysReset = .resequencing ∧
      Frame (.rails :: .seq :: .link :: notes) s t ∧ RegsIn [B.evt, B.host, B.link, B.seq] s t)) ∧
  (∀ (r : Req) (s : State), s.may r R.SEQ_CTRL.reg true none = false →
      exec (.seqResume r) s = .next (s.denied r true)) ∧
  (∀ (r : Req) (s : State), s.may r R.SEQ_CTRL.reg true none = true → s.bit R.SEQ_STATUS.HALT = false →
      exec (.seqResume r) s = .next s) ∧
  (∀ (p : Snapshot) (rest : List Snapshot) (s : State), s.seq.snapEntries = p :: rest → p.loops.length = 24 →
      s.ledg.again = false → s.ledg.drain = .none → s.seq.snapPending = [] → s.ledg.running = [] →
      s.ledg.slots = [] → Does .snapshotPlaced s (fun t =>
      t.seq.snapEntries = rest ∧
      (∀ k, k < 16 → t.ledg.slots.any (fun x => decide (x.page = 1536 + 16 * ((s.recRead 4).1.toNat % 32) + k)) = true) ∧
      t.ledg.array = s.ledg.array ∧ Frame (.loops :: .seq :: .link :: notes) s t ∧
      RegsIn [B.evt, B.ledg, B.link, B.seq] s t)) ∧
  (∀ (s : State), s.seq.snapEntries = [] → exec .snapshotPlaced s = .next s) ∧
  (∀ (s : State), s.runs T.seqTick = false → s.supRuns = false → s.bit R.LINK_ID.JOINED = false →
      s.link.pdoneOwed = none → Does .sequencerTick s (fun t =>
      t.link.sent = [] ∧ t.regs = s.regs ∧ t.rails = s.rails ∧ Frame [.link] s t)) ∧
  (∀ (d : Nat) (s : State), s.deadline T.seqTick = some d → Does .sequencerTick s (fun t =>
      d ≤ t.ns ∧ t.deadline T.seqTick = some (max s.ns d + 250))) ∧
  (∀ (n : Fin 64) (d : Nat) (s : State), s.deadline T.seqTick = some d → s.path.hoBegan = false → s.groups = [] →
      ((List.range 16).all fun g => decide (s.fld (R.SEQ_GRP_STATUS.STATE g) = 0) && decide (s.deadline (T.rsdly g) = none)) = true →
      s.seq.offClosures = [] → s.seq.sysReset = .none → s.seqHeld = false → s.seq.switchHold = false →
      (s.railsOn.all fun r => !(s.rail r).marked && decide (s.qst r ≠ Q.stop)) = true →
      s.bit (R.SEQ_RAIL_CFG.EN n) = true → (s.qst n = Q.wait ∨ s.qst n = Q.inAdmit) →
      Does .sequencerTick s (fun t =>
      ((t.parentsOk n && t.fabricOk n && t.remoteOk n) = true → t.qst n = Q.inAdmit ∨ t.qst n = Q.ramp) ∧
      ((t.parentsOk n && t.fabricOk n && t.remoteOk n) = false → t.qst n = Q.wait ∧ t.bit (R.SEQ_RAIL_STATUS.WFAB n) = !t.fabricOk n ∧ t.bit (R.SEQ_RAIL_STATUS.WREM n) = !t.remoteOk n ∧ t.bit (R.SEQ_RAIL_STATUS.WLOC n) = !t.parentsOk n))) ∧
  (∀ (n : Fin 64) (d : Nat) (s : State), s.deadline T.seqTick = some d → s.path.hoBegan = false → s.groups = [] →
      ((List.range 16).all fun g => decide (s.fld (R.SEQ_GRP_STATUS.STATE g) = 0) && decide (s.deadline (T.rsdly g) = none)) = true →
      s.seq.offClosures = [] → s.seq.sysReset = .none → s.seqHeld = false → s.seq.switchHold = false →
      (s.railsOn.all fun r => !(s.rail r).marked && decide (s.qst r ≠ Q.stop)) = true →
      (s.railsOn.all fun r => decide (s.qst r ≠ Q.wait)) = true →
      (s.railsOn.all fun r => decide (s.qst r ≠ Q.inAdmit) || s.fabricOk r && s.parentsOk r && decide (s.fld (R.SEQ_RAIL_TERM.REMEN r) = 0)) = true →
      s.admitHead = some n.val → Does .sequencerTick s (fun t =>
      ((s.inrush n = 0 ∨ s.inrush n + s.rampSum ≤ t.budget ∨ t.budget < s.inrush n ∧ (s.railsOn.all fun r => decide (s.qst r ≠ Q.ramp)) = true) → (∀ l ∈ s.seq.lastStart, l + s.tstagNs ≤ t.ns) → t.qst n = Q.ramp ∧ (t.rail n).onFrom = some t.ns ∧ (t.rail n).startNs = t.ns ∧ t.seq.lastStart = some t.ns ∧ t.bit (R.SEQ_RAIL_STATUS.FLT n) = false) ∧
      ((s.inrush n = 0 ∨ s.inrush n + s.rampSum ≤ t.budget ∨ t.budget < s.inrush n ∧ (s.railsOn.all fun r => decide (s.qst r ≠ Q.ramp)) = true) → ¬(∀ l ∈ s.seq.lastStart, l + s.tstagNs ≤ t.ns) → t.qst n = Q.inAdmit ∧ t.bit (R.SEQ_RAIL_STATUS.WSTAG n) = true ∧ t.bit (R.SEQ_RAIL_STATUS.WBUD n) = false) ∧
      (¬(s.inrush n = 0 ∨ s.inrush n + s.rampSum ≤ t.budget ∨ t.budget < s.inrush n ∧ (s.railsOn.all fun r => decide (s.qst r ≠ Q.ramp)) = true) → t.qst n = Q.inAdmit ∧ t.bit (R.SEQ_RAIL_STATUS.WBUD n) = true ∧ t.bit (R.SEQ_RAIL_STATUS.WSTAG n) = false) ∧
      (∀ r, r < 64 → s.bit (R.SEQ_RAIL_CFG.EN r) = true → s.qst r = Q.inAdmit → r ≠ n.val → t.qst r = Q.inAdmit ∧ t.bit (R.SEQ_RAIL_STATUS.WBUD r) = true))) ∧
  (∀ (n : Fin 64) (d : Nat) (s : State), s.deadline T.seqTick = some d → s.path.hoBegan = false → s.groups = [] →
      ((List.range 16).all fun g => decide (s.fld (R.SEQ_GRP_STATUS.STATE g) = 0) && decide (s.deadline (T.rsdly g) = none)) = true →
      s.seq.offClosures = [] → s.seq.sysReset = .none →
      (s.railsOn.all fun r => decide (s.qst r ≠ Q.wait) && decide (s.qst r ≠ Q.inAdmit) && decide (s.qst r ≠ Q.stop)) = true →
      s.stopHead = some n.val → Does .sequencerTick s (fun t =>
      ((∀ l ∈ s.seq.lastStop, l + s.tstagNs ≤ t.ns) → t.qst n = Q.stop ∧ (t.rail n).stopFor = (s.rail n).stopFor ∧ (t.rail n).offFrom = some t.ns ∧ t.seq.lastStop = some t.ns) ∧
      ((∀ l ∈ s.seq.lastStop, t.ns < l + s.tstagNs) → s.seq.lastStop ≠ none → t.qst n = s.qst n ∧ t.seq.lastStop = s.seq.lastStop) ∧
      (∀ r, r < 64 → r ≠ n.val → s.running r = true → t.qst r = s.qst r))) ∧
  (∀ (n : Fin 64) (d : Nat) (s : State), s.deadline T.seqTick = some d → s.path.hoBegan = false → s.groups = [] →
      ((List.range 16).all fun g => decide (s.fld (R.SEQ_GRP_STATUS.STATE g) = 0) && decide (s.deadline (T.rsdly g) = none)) = true →
      s.seq.offClosures = [] → s.seq.sysReset = .none → s.bit (R.SEQ_RAIL_CFG.EN n) = true → s.qst n = Q.stop →
      s.offTest n = true → Does .sequencerTick s (fun t =>
      (t.rail n).offFrom = none ∧
      ((s.rail n).stopFor = .retry → t.qst n = Q.retry ∧ (t.rail n).retryFrom = some t.ns) ∧
      ((s.rail n).stopFor = .latch → t.qst n = Q.latched) ∧
      ((s.rail n).stopFor ≠ .retry → (s.rail n).stopFor ≠ .latch → t.qst n = Q.off))) ∧
  (∀ (n : Fin 64) (d : Nat) (s : State), s.deadline T.seqTick = some d → s.path.hoBegan = false → s.groups = [] →
      ((List.range 16).all fun g => decide (s.fld (R.SEQ_GRP_STATUS.STATE g) = 0) && decide (s.deadline (T.rsdly g) = none)) = true →
      s.seq.offClosures = [] → s.seq.sysReset = .none → s.bit (R.SEQ_RAIL_CFG.EN n) = true → s.qst n = Q.ramp →
      (s.rail n).marked = false → Does .sequencerTick s (fun t =>
      (s.railPg n = true → (t.rail n).qualFrom = some ((s.rail n).qualFrom.getD t.ns)) ∧
      (s.railPg n = false → (t.rail n).qualFrom = none) ∧
      (s.railPg n = false → (s.rail n).qualFrom ≠ none → Counts (R.SEQ_RAIL_CNT.CHAT n) s t)))

/-- Monitors, VIN supervisors, reset outputs and watchdog.  Monitor crossings and filters, VIN events, reset outputs
and the watchdog complete; a good answer takes a fresh challenge, which is the state of the LFSR at local time.
The LFSR runs from a free state (log entry 65), and its form and direction are the model's choice (log entry
143). Clauses that a command whose precondition fails changes nothing rest on log entry 4, and those that carry
time to a deadline on log entry 3.  (spec/08_supervisors.md.) -/
def Obligations.SupervisorsComplete : Prop :=
  (∀ (n : Fin 64) (mv uv : Nat) (s : State), s.sys.stage = .released → s.bit (R.SUP_MON_CFG.EN n) = true →
      Does (.monCrossing n mv uv) s (fun t =>
      t.bit (R.SUP_MON_STATUS.ABOVE n) = hysteresis (s.bit (R.SUP_MON_STATUS.ABOVE n)) (s.fld (R.SUP_MON_THR.HI n) * 2500 < 1000 * mv + uv) (1000 * mv + uv < (s.fld (R.SUP_MON_THR.HI n) - s.fld (R.SUP_MON_CFG.HYS n)) * 2500) ∧
      t.bit (R.SUP_MON_STATUS.BELOW n) = hysteresis (s.bit (R.SUP_MON_STATUS.BELOW n)) (1000 * mv + uv < s.fld (R.SUP_MON_THR.LO n) * 2500) ((s.fld (R.SUP_MON_THR.LO n) + s.fld (R.SUP_MON_CFG.HYS n)) * 2500 < 1000 * mv + uv) ∧
      t.bit (R.SUP_MON_STATUS.INSIDE n) = s.bit (R.SUP_MON_STATUS.INSIDE n) ∧
      (t.monOutside n ≠ s.monOutside n → t.monOutside n = s.bit (R.SUP_MON_STATUS.INSIDE n) → t.deadline (T.mon n) = some (s.ns + s.fld (R.SUP_MON_CFG.FILT n) * 500)) ∧
      (t.monOutside n = !s.bit (R.SUP_MON_STATUS.INSIDE n) → t.monOutside n ≠ s.monOutside n → t.deadline (T.mon n) = none) ∧
      Frame [.regs, .timers] s t ∧ RegsOnly [R.SUP_MON_STATUS.reg n] s t)) ∧
  (∀ (n : Fin 64) (mv uv : Nat) (s : State), (s.sys.stage ≠ .released ∨ s.bit (R.SUP_MON_CFG.EN n) = false) →
      exec (.monCrossing n mv uv) s = .next s) ∧
  (∀ (n : Fin 64) (s : State), s.runs (T.mon n) = true → s.sys.dry ≠ .running →
      s.bit (R.SUP_MON_CFG.EN n) = true → (s.monArmed n = false ∨ s.monOutside n = false) →
      Does (.monFilterExpiry n) s (fun t =>
      t.bit (R.SUP_MON_STATUS.INSIDE n) = !s.monOutside n ∧ t.deadline (T.mon n) = none ∧ t.rails = s.rails ∧
      t.seq = s.seq)) ∧
  (∀ (n : Fin 64) (s : State), s.runs (T.mon n) = false → exec (.monFilterExpiry n) s = .next s) ∧
  (∀ (mv held : Nat) (s : State), s.baseOn = true → s.bit R.SUP_VIN_STATUS.LOSS = false →
      2 * mv < 125 * s.fld R.SUP_VIN_CFG.LOSS → min 5 (s.fld R.SUP_VIN_CFG.LFILT) * 100 ≤ held →
      Does (.vinLossSet mv held) s (fun t =>
      t.bit R.SUP_VIN_STATUS.LOSS = true ∧ t.bit R.PATH_STATUS.VIN_STABLE = false ∧
      (s.pst = P.onVin → s.bit R.PATH_CFG.LOSSEN = true → s.handoverOk = true → t.pst = P.handover ∧ t.fld R.PATH_STATUS.TRIG = 1) ∧
      Frame (.seq :: .path :: .link :: notes) s t ∧ RegsIn [B.path, B.sup] s t)) ∧
  (∀ (mv held : Nat) (s : State),
      (s.baseOn = false ∨ s.bit R.SUP_VIN_STATUS.LOSS = true ∨ 125 * s.fld R.SUP_VIN_CFG.LOSS ≤ 2 * mv ∨ held < s.lossFilter) →
      exec (.vinLossSet mv held) s = .next s) ∧
  (∀ (mv held : Nat) (s : State), s.bit R.SUP_VIN_STATUS.LOSS = true →
      125 * s.fld R.SUP_VIN_CFG.LOSS + 500 ≤ 2 * mv → min 5 (s.fld R.SUP_VIN_CFG.LFILT) * 100 ≤ held →
      Does (.vinLossClear mv held) s (fun t =>
      t.bit R.SUP_VIN_STATUS.LOSS = false ∧
      (s.path.excursion = false → t.path.excEnd = s.ns ∧ t.deadline T.vinStable = some (s.ns + s.tRet)) ∧
      Frame [.regs, .timers, .path, .evt, .host] s t ∧ RegsIn [B.path, B.sup] s t)) ∧
  (∀ (mv held : Nat) (s : State),
      (s.bit R.SUP_VIN_STATUS.LOSS = false ∨ 2 * mv < 125 * s.fld R.SUP_VIN_CFG.LOSS + 500 ∨ held < s.lossFilter) →
      exec (.vinLossClear mv held) s = .next s) ∧
  (∀ (high : Bool) (mv held : Nat) (s : State), s.baseOn = true →
      s.bit (if high then R.SUP_VIN_STATUS.HIGH else R.SUP_VIN_STATUS.LOW) = false →
      (if high then 125 * s.fld R.SUP_VIN_THR.OVT < 2 * mv else 2 * mv < 125 * s.fld R.SUP_VIN_THR.UVT) →
      max 1 (s.fld R.SUP_VIN_CFG.WFILT) * 10000 ≤ held → Does (.vinWindowExit high mv held) s (fun t =>
      t.bit (if high then R.SUP_VIN_STATUS.HIGH else R.SUP_VIN_STATUS.LOW) = true ∧
      (s.topOn = true → s.bit R.SUP_VIN_STATUS.HIGH = false → s.bit R.SUP_VIN_STATUS.LOW = false → Raises 34 s t) ∧
      Frame notes s t)) ∧
  (∀ (high : Bool) (mv held : Nat) (s : State),
      (s.baseOn = false ∨ s.bit (if high then R.SUP_VIN_STATUS.HIGH else R.SUP_VIN_STATUS.LOW) = true ∨ s.vinOutside high mv 0 = false ∨ held < s.windowFilter) →
      exec (.vinWindowExit high mv held) s = .next s) ∧
  (∀ (high : Bool) (mv held : Nat) (s : State),
      s.bit (if high then R.SUP_VIN_STATUS.HIGH else R.SUP_VIN_STATUS.LOW) = true →
      (if high then 2 * (mv + 250) ≤ 125 * s.fld R.SUP_VIN_THR.OVT else 125 * s.fld R.SUP_VIN_THR.UVT + 500 ≤ 2 * mv) →
      max 1 (s.fld R.SUP_VIN_CFG.WFILT) * 10000 ≤ held → Does (.vinWindowReturn high mv held) s (fun t =>
      t.bit (if high then R.SUP_VIN_STATUS.HIGH else R.SUP_VIN_STATUS.LOW) = false ∧ Frame notes s t ∧
      RegsOnly [R.SUP_VIN_STATUS.reg] s t)) ∧
  (∀ (high : Bool) (mv held : Nat) (s : State),
      (s.bit (if high then R.SUP_VIN_STATUS.HIGH else R.SUP_VIN_STATUS.LOW) = false ∨ s.vinOutside high mv 250 = true ∨ held < s.windowFilter) →
      exec (.vinWindowReturn high mv held) s = .next s) ∧
  (∀ (n : Fin 8) (d : Nat) (s : State), s.deadline (T.rstoMin n) = some d → d ≤ s.ns → s.supRuns = true →
      Does (.rstoMinwEnd n) s (fun t =>
      t.fld (R.SUP_RSTO_STATUS.ACT n) = s.rstoSources n ∧ Frame [.clock, .regs, .timers, .evt, .host] s t ∧
      RegsIn [B.sup] s t)) ∧
  (∀ (n : Fin 8) (s : State), s.runs (T.rstoMin n) = false → exec (.rstoMinwEnd n) s = .next s) ∧
  (∀ (n : Fin 8) (s : State), s.runs (T.rstoRel n) = true → s.supRuns = true → Does (.rstoRelease n) s (fun t =>
      t.bit (R.SUP_RSTO_STATUS.LOW n) = false ∧ t.bit (R.SUP_RSTO_STATUS.DELAY n) = false ∧
      Frame [.clock, .regs, .timers, .sup] s t ∧ RegsIn [B.sup] s t)) ∧
  (∀ (n : Fin 8) (s : State), s.runs (T.rstoRel n) = false → exec (.rstoRelease n) s = .next s) ∧
  (∀ (r : Req) (ans : BitVec 16) (s : State), (r = .hostBus ∨ r = .quad) →
      s.may r R.SUP_WD_ANS.reg true (some 0xDF) = true →
      (s.fld R.SUP_WD_STATUS.STATE = 2 ∨ s.fld R.SUP_WD_STATUS.STATE = 4) → ans.toNat = s.wdExpected →
      Does (.wdAnswer r ans) s (fun t =>
      t.fld R.SUP_WD_STATUS.ERRCNT = s.fld R.SUP_WD_STATUS.ERRCNT - 1 ∧
      t.fld R.SUP_WD_STATUS.SEQ = (s.fld R.SUP_WD_STATUS.SEQ + 1) % 2 ^ R.SUP_WD_STATUS.SEQ.width ∧
      t.fld R.SUP_WD_CHAL.CHAL = s.wdLfsr.toNat ∧
      t.fld R.SUP_WD_STATUS.STATE = (if s.sup.wdCfg.field 0 8 = 0 then 4 else 3) ∧ Frame notes s t ∧
      RegsOnly [R.SUP_WD_STATUS.reg, R.SUP_WD_CHAL.reg, R.HOST_LAST_TS_LO.reg, R.HOST_LAST_TS_HI.reg] s t)) ∧
  (∀ (r : Req) (ans : BitVec 16) (s : State), r = .link → exec (.wdAnswer r ans) s = .next s) ∧
  (∀ (e : Fin 16) (ans : BitVec 16) (s : State), Does (.wdAnswer (.engine e) ans) s (fun t =>
      t = s)) ∧
  (∀ (r : Req) (ans : BitVec 16) (s : State), (r = .hostBus ∨ r = .quad) →
      s.may r R.SUP_WD_ANS.reg true (some 0xDF) = true →
      (s.fld R.SUP_WD_STATUS.STATE = 3 ∨ (s.fld R.SUP_WD_STATUS.STATE = 2 ∨ s.fld R.SUP_WD_STATUS.STATE = 4) ∧ ans.toNat ≠ s.wdExpected) →
      s.fld R.SUP_WD_STATUS.ERRCNT + 1 < max 1 (s.sup.wdCfg.field 24 3) → Does (.wdAnswer r ans) s (fun t =>
      t.fld R.SUP_WD_STATUS.ERRCNT = s.fld R.SUP_WD_STATUS.ERRCNT + 1 ∧ Counts R.SUP_WD_CNT.BAD s t ∧
      t.fld R.SUP_WD_CHAL.CHAL = s.fld R.SUP_WD_CHAL.CHAL ∧ Frame (.seq :: .sup :: .link :: notes) s t ∧
      RegsIn [B.evt, B.host, B.link, B.sup] s t)) ∧
  (∀ (ans : BitVec 16) (m : BusMsg) (s : State), s.takesWrite m 0xDF 2 2 = true →
      (s.fld R.SUP_WD_STATUS.STATE = 2 ∨ s.fld R.SUP_WD_STATUS.STATE = 4) → bytesLE m.data = s.wdExpected →
      Does (.wdAnswer .hostBus ans (some m)) s (fun t =>
      t.fld R.SUP_WD_STATUS.ERRCNT = s.fld R.SUP_WD_STATUS.ERRCNT - 1 ∧
      t.fld R.SUP_WD_STATUS.SEQ = (s.fld R.SUP_WD_STATUS.SEQ + 1) % 2 ^ R.SUP_WD_STATUS.SEQ.width ∧
      t.fld R.SUP_WD_CHAL.CHAL = s.wdLfsr.toNat ∧ t.host.refused = false ∧
      t.pair R.HOST_LAST_TS_LO.reg R.HOST_LAST_TS_HI.reg = s.now ∧ Frame (.seq :: .sup :: .link :: notes) s t ∧
      RegsIn [B.evt, B.host, B.link, B.sup] s t)) ∧
  (∀ (ans : BitVec 16) (m : BusMsg) (s : State), s.busOn = false →
      exec (.wdAnswer .hostBus ans (some m)) s = .next s) ∧
  (∀ (ans : BitVec 16) (m : BusMsg) (s : State), s.takesWrite m 0xDF 2 2 = true →
      (s.fld R.SUP_WD_STATUS.STATE = 2 ∨ s.fld R.SUP_WD_STATUS.STATE = 4) → bytesLE m.data ≠ s.wdExpected →
      s.fld R.SUP_WD_STATUS.ERRCNT + 1 < max 1 (s.sup.wdCfg.field 24 3) →
      Does (.wdAnswer .hostBus ans (some m)) s (fun t =>
      t.fld R.SUP_WD_STATUS.ERRCNT = s.fld R.SUP_WD_STATUS.ERRCNT + 1 ∧ Counts R.SUP_WD_CNT.BAD s t ∧
      t.host.refused = false ∧ Frame (.seq :: .sup :: .link :: notes) s t ∧
      RegsIn [B.evt, B.host, B.link, B.sup] s t)) ∧
  (∀ (s : State), s.fld R.SUP_WD_STATUS.STATE = 3 → s.runs T.wd = true → Does .wdClosedEnd s (fun t =>
      t.fld R.SUP_WD_STATUS.STATE = 4 ∧
      t.deadline T.wd = some (t.ns + max 1 (s.sup.wdCfg.field 8 8) * 1000000) ∧
      Frame [.clock, .timers, .regs] s t ∧ RegsOnly [R.SUP_WD_STATUS.reg] s t)) ∧
  (∀ (s : State), s.fld R.SUP_WD_STATUS.STATE ≠ 3 → exec .wdClosedEnd s = .next s) ∧
  (∀ (s : State), (s.fld R.SUP_WD_STATUS.STATE = 2 ∨ s.fld R.SUP_WD_STATUS.STATE = 4) → s.runs T.wd = true →
      s.fld R.SUP_WD_STATUS.ERRCNT + 1 < max 1 (s.sup.wdCfg.field 24 3) → Does .wdTimeout s (fun t =>
      t.fld R.SUP_WD_STATUS.ERRCNT = s.fld R.SUP_WD_STATUS.ERRCNT + 1 ∧ Counts R.SUP_WD_CNT.TOUT s t ∧
      t.fld R.SUP_WD_STATUS.STATE = (if s.sup.wdCfg.field 0 8 = 0 then 4 else 3) ∧
      t.fld R.SUP_WD_CHAL.CHAL = s.fld R.SUP_WD_CHAL.CHAL ∧
      Frame (.clock :: .seq :: .sup :: .link :: notes) s t ∧ RegsIn [B.sup] s t)) ∧
  (∀ (s : State), (s.fld R.SUP_WD_STATUS.STATE ≠ 2 ∧ s.fld R.SUP_WD_STATUS.STATE ≠ 4) →
      exec .wdTimeout s = .next s)

/-- Acknowledge, clear, inject, escalate and restart.  Acknowledgement, by a register or by the two-wire message,
clearing and injection of sources, grace and immediate escalation to the safe state with its source, the
escalation of an uncorrected source to its group or a system reset (R215), restart from the safe state and the
die-temperature sources complete with the FSTAT, FLT_PEND and timers of the rules. Clauses that a command whose
precondition fails changes nothing rest on log entry 4, and those that carry time to a deadline on log entry 3.
(spec/11_faults.md, spec/17_electrical.md.) -/
def Obligations.FaultCollectorCompletes : Prop :=
  (∀ (r : Req) (n : Fin 64) (s : State),
      s.may r (pairKey R.FLT_ACK_LO.reg R.FLT_ACK_HI.reg (n / 32)) true (some 0xDD) = true →
      s.runs (T.grace n) = true → Does (.faultAck r n) s (fun t =>
      t.deadline (T.grace n) = none ∧ t.bitAt (pairKey R.FLT_PEND_LO.reg R.FLT_PEND_HI.reg) n = false ∧
      t.fstat = s.fstat ∧ Frame notes s t)) ∧
  (∀ (r : Req) (n : Fin 64) (s : State),
      s.may r (pairKey R.FLT_ACK_LO.reg R.FLT_ACK_HI.reg (n / 32)) true (some 0xDD) = true →
      s.runs (T.grace n) = false → s.flt.expired.getLsbD n = true → Does (.faultAck r n) s (fun t =>
      t.bit R.FLT_STATUS.LATE_ACK = true ∧ t.fstat = s.fstat ∧ Frame (.seq :: .link :: notes) s t ∧
      RegsIn [B.evt, B.host, B.link] s t)) ∧
  (∀ (r : Req) (n : Fin 64) (s : State),
      s.may r (pairKey R.FLT_ACK_LO.reg R.FLT_ACK_HI.reg (n / 32)) true (some 0xDD) = false →
      exec (.faultAck r n) s = .next (s.denied r true)) ∧
  (∀ (n : Fin 64) (m : BusMsg) (s : State), s.takesWrite m 0xDD 8 8 = true →
      Does (.faultAck .hostBus n (some m)) s (fun t =>
      (∀ k, k < 64 → (bytesLE m.data).testBit k = true → t.deadline (T.grace k) = none) ∧
      (∀ k, k < 64 → (bytesLE m.data).testBit k = false → t.deadline (T.grace k) = s.deadline (T.grace k)) ∧
      t.fstat = s.fstat ∧ t.host.refused = false ∧ t.pair R.HOST_LAST_TS_LO.reg R.HOST_LAST_TS_HI.reg = s.now ∧
      Frame (.seq :: .link :: notes) s t ∧ RegsIn [B.evt, B.host, B.link] s t)) ∧
  (∀ (n : Fin 64) (m : BusMsg) (s : State), s.busOn = false → exec (.faultAck .hostBus n (some m)) s = .next s) ∧
  (∀ (r : Req) (n : Fin 64) (s : State),
      s.may r (pairKey R.FLT_STAT_LO.reg R.FLT_STAT_HI.reg (n / 32)) true none = true →
      s.fstat.getLsbD n = true → s.runs (T.grace n) = false → Does (.faultClear r n) s (fun t =>
      t.fstat.getLsbD n = false ∧ (∀ k, k < 64 → k ≠ n.val → t.fstat.getLsbD k = s.fstat.getLsbD k) ∧
      t.flt.firstArmed = (s.flt.firstArmed || decide (t.fstat = 0#64)) ∧ Frame notes s t)) ∧
  (∀ (r : Req) (n : Fin 64) (s : State),
      s.may r (pairKey R.FLT_STAT_LO.reg R.FLT_STAT_HI.reg (n / 32)) true none = false →
      exec (.faultClear r n) s = .next (s.denied r true)) ∧
  (∀ (r : Req) (n : Fin 64) (s : State),
      s.may r (pairKey R.FLT_STAT_LO.reg R.FLT_STAT_HI.reg (n / 32)) true none = true →
      (s.fstat.getLsbD n = false ∨ s.runs (T.grace n) = true) → exec (.faultClear r n) s = .next s) ∧
  (∀ (r : Req) (n : Fin 64) (s : State), s.may r R.FLT_INJ.reg true none = true →
      (s.fld R.SYS_STATUS.LC = 1 ∨ s.fld R.SYS_STATUS.LC = 4) → s.flt.collecting = true →
      Does (.faultInject r n) s (fun t =>
      t.fstat.getLsbD n = true ∧ (∀ k, k < 64 → k ≠ n.val → k ≠ 50 → t.fstat.getLsbD k = s.fstat.getLsbD k) ∧
      Frame notes s t ∧ RegsOnly [R.HOST_LAST_TS_LO.reg, R.HOST_LAST_TS_HI.reg] s t)) ∧
  (∀ (r : Req) (n : Fin 64) (s : State), s.may r R.FLT_INJ.reg true none = false →
      exec (.faultInject r n) s = .next (s.denied r true)) ∧
  (∀ (r : Req) (n : Fin 64) (s : State), s.may r R.FLT_INJ.reg true none = true → s.fld R.SYS_STATUS.LC ≠ 1 →
      s.fld R.SYS_STATUS.LC ≠ 4 → Does (.faultInject r n) s (fun t =>
      t.bit R.FLT_STATUS.INJ_REF = true ∧ Frame notes s t ∧
      RegsOnly [R.FLT_STATUS.reg, R.HOST_LAST_TS_LO.reg, R.HOST_LAST_TS_HI.reg] s t)) ∧
  (∀ (n : Fin 64) (d : Nat) (s : State), s.deadline (T.grace n) = some d → s.sys.phase = .safe →
      Does (.graceExpiry n) s (fun t =>
      t.deadline (T.grace n) = none ∧ t.sys.phase = .safe ∧ t.flt.expired.getLsbD n = true ∧
      t.flt.immediate = [] ∧ t.rails = s.rails ∧ t.loops = s.loops)) ∧
  (∀ (n : Fin 64) (s : State), s.deadline (T.grace n) = none → exec (.graceExpiry n) s = .next s) ∧
  (∀ (n : Fin 64) (d : Nat) (s : State), s.deadline (T.grace n) = some d → s.faultClass n = 2 →
      Does (.graceExpiry n) s (fun t =>
      t.sys.phase = .safe ∧ d ≤ t.ns)) ∧
  (∀ (n : Fin 64) (d : Nat) (s : State), s.deadline (T.grace n) = some d → s.escAction n = 1 →
      ((s.escalating d).all fun k => decide (s.escAction k = 1)) = true →
      s.fld (R.SEQ_GRP_STATUS.STATE (s.fld (R.FLT_CFG.GRP n))) ≠ 1 → s.seqHeld = false → s.sysHolds = false →
      Does (.graceExpiry n) s (fun t =>
      t.fld (R.SEQ_GRP_STATUS.STATE (s.fld (R.FLT_CFG.GRP n))) = 1 ∧
      t.bit (R.SEQ_GRP_STATUS.EXH (s.fld (R.FLT_CFG.GRP n))) = false ∧
      (t.group (s.fld (R.FLT_CFG.GRP n))).byHandover = false ∧ t.sys.phase = s.sys.phase ∧
      t.seq.sysReset = s.seq.sysReset ∧ t.bit R.FLT_STATUS.ESC_ANY = true ∧ t.flt.immediate = [])) ∧
  (∀ (n : Fin 64) (d : Nat) (s : State), s.deadline (T.grace n) = some d → s.escAction n = 2 →
      ((s.escalating d).all fun k => decide (s.escAction k ≠ 3)) = true → s.seqHeld = false →
      s.sysHolds = false → Does (.graceExpiry n) s (fun t =>
      t.seq.sysReset = .stopping ∧ t.sup.rstoSys = s.fld R.SEQ_SYS.RSTOM ∧
      t.seq.halting = decide (max 1 (s.fld R.SEQ_SYS.MAXSR) < s.fld R.SEQ_STATUS.SYSCNT + 1) ∧
      (t.seq.halting = false → t.fld R.SEQ_STATUS.SYSCNT = min 15 (s.fld R.SEQ_STATUS.SYSCNT + 1)) ∧
      (t.seq.halting = true → t.fld R.SEQ_STATUS.SYSCNT = s.fld R.SEQ_STATUS.SYSCNT) ∧
      (∀ r, r < 64 → s.bit (R.SEQ_RAIL_CFG.EN r) = true → s.running r = true → t.qst r = s.qst r ∧ (t.rail r).marked = true ∧ (t.rail r).stopFor = .system) ∧
      (∀ g, g < 16 → t.fld (R.SEQ_GRP_STATUS.STATE g) = 0) ∧ t.sys.phase = s.sys.phase ∧
      t.bit R.FLT_STATUS.ESC_ANY = true ∧ t.flt.immediate = [])) ∧
  (∀ (n : Fin 64) (s : State), n.val ∈ s.flt.immediate → s.escAction n = 1 →
      ((s.escalating s.ns).all fun k => decide (s.escAction k = 1)) = true →
      s.fld (R.SEQ_GRP_STATUS.STATE (s.fld (R.FLT_CFG.GRP n))) ≠ 1 → s.seqHeld = false → s.sysHolds = false →
      Does (.immediateEscalation n) s (fun t =>
      t.fld (R.SEQ_GRP_STATUS.STATE (s.fld (R.FLT_CFG.GRP n))) = 1 ∧
      t.bit (R.SEQ_GRP_STATUS.EXH (s.fld (R.FLT_CFG.GRP n))) = false ∧
      (t.group (s.fld (R.FLT_CFG.GRP n))).byHandover = false ∧ t.sys.phase = s.sys.phase ∧
      t.seq.sysReset = s.seq.sysReset ∧ t.bit R.FLT_STATUS.ESC_ANY = true ∧ t.flt.immediate = [])) ∧
  (∀ (n : Fin 64) (s : State), n.val ∈ s.flt.immediate → s.escAction n = 2 →
      ((s.escalating s.ns).all fun k => decide (s.escAction k ≠ 3)) = true → s.seqHeld = false →
      s.sysHolds = false → Does (.immediateEscalation n) s (fun t =>
      t.seq.sysReset = .stopping ∧ t.sup.rstoSys = s.fld R.SEQ_SYS.RSTOM ∧
      t.seq.halting = decide (max 1 (s.fld R.SEQ_SYS.MAXSR) < s.fld R.SEQ_STATUS.SYSCNT + 1) ∧
      (t.seq.halting = false → t.fld R.SEQ_STATUS.SYSCNT = min 15 (s.fld R.SEQ_STATUS.SYSCNT + 1)) ∧
      (t.seq.halting = true → t.fld R.SEQ_STATUS.SYSCNT = s.fld R.SEQ_STATUS.SYSCNT) ∧
      (∀ r, r < 64 → s.bit (R.SEQ_RAIL_CFG.EN r) = true → s.running r = true → t.qst r = s.qst r ∧ (t.rail r).marked = true ∧ (t.rail r).stopFor = .system) ∧
      (∀ g, g < 16 → t.fld (R.SEQ_GRP_STATUS.STATE g) = 0) ∧ t.sys.phase = s.sys.phase ∧
      t.bit R.FLT_STATUS.ESC_ANY = true ∧ t.flt.immediate = [])) ∧
  (∀ (n : Fin 64) (s : State), n.val ∈ s.flt.immediate → s.faultClass n = 2 →
      Does (.immediateEscalation n) s (fun t =>
      t.sys.phase = .safe ∧
      (∀ k ∈ ((s.escalating s.ns).filter (fun k => decide (s.escAction k = 3))).head?, s.sys.phase ≠ .safe → t.fld R.FLT_STATUS.SAFE_SRC = k ∧ t.fld R.FLT_STATUS.ESC_SRC = k) ∧
      t.bit R.FLT_STATUS.ESC_ANY = true)) ∧
  (∀ (n : Fin 64) (s : State), n.val ∉ s.flt.immediate → exec (.immediateEscalation n) s = .next s) ∧
  (∀ (r : Req) (s : State), (r = .hostBus ∨ r = .quad ∨ r = .link) →
      s.may r R.FLT_RESTART.reg true (some 0xE9) = true → s.sys.phase = .safe → s.ledg.drain ≠ .restart →
      Does (.restartCommand r) s (fun t =>
      t.ledg.drain = .restart ∧ t.sys.phase = .safe ∧ Frame (.seq :: .link :: notes) s t ∧
      RegsIn [B.evt, B.host, B.ledg, B.link] s t)) ∧
  (∀ (r : Req) (s : State),
      (s.may r R.FLT_RESTART.reg true (some 0xE9) = true ∧ r ≠ .hostBus ∧ s.sys.phase ≠ .safe) →
      exec (.restartCommand r) s = .next s) ∧
  (∀ (r : Req) (s : State), (r = .hostBus ∨ r = .quad ∨ r = .link) →
      s.may r R.FLT_RESTART.reg true (some 0xE9) = false → Does (.restartCommand r) s (fun t =>
      t = s.denied r true)) ∧
  (∀ (m : BusMsg) (s : State), s.takesWrite m 0xE9 1 1 = true → bytesLE m.data = 0xD7 → s.sys.phase = .safe →
      s.ledg.drain ≠ .restart → Does (.restartCommand .hostBus (some m)) s (fun t =>
      t.ledg.drain = .restart ∧ t.sys.phase = .safe ∧ t.host.refused = false ∧
      Frame (.seq :: .link :: notes) s t ∧ RegsIn [B.evt, B.host, B.ledg, B.link] s t)) ∧
  (∀ (m : BusMsg) (s : State), s.busOn = false → exec (.restartCommand .hostBus (some m)) s = .next s) ∧
  (∀ (m : BusMsg) (s : State), s.takesWrite m 0xE9 1 1 = true → bytesLE m.data ≠ 0xD7 →
      Does (.restartCommand .hostBus (some m)) s (fun t =>
      t.fld R.HOST_STATUS.CML = s.fld R.HOST_STATUS.CML ||| 0x40 ∧ t.ledg = s.ledg ∧ Frame [.regs, .host] s t ∧
      RegsOnly [R.HOST_STATUS.reg] s t)) ∧
  (∀ (s : State), s.topOn = true → s.flt.dieHot = false → Does .dieTempWarning s (fun t =>
      t.flt.dieHot = true ∧ Raises 35 s t ∧ Frame notes s t ∧ RegsOnly [] s t)) ∧
  (∀ (s : State), (s.topOn = false ∨ s.flt.dieHot = true) → exec .dieTempWarning s = .next s) ∧
  (∀ (s : State), Does .dieTempCool s (fun t =>
      t.flt.dieHot = false ∧ Frame [.flt] s t)) ∧
  (∀ (s : State), s.topOn = true → Does .dieTempShutdown s (fun t =>
      Raises 36 s t ∧ Frame notes s t ∧ RegsOnly [] s t)) ∧
  (∀ (s : State), s.topOn = false → exec .dieTempShutdown s = .next s)

/-- Writes, commits, records and log entries of the Ledger.  A waiting write takes its slot, a commit starts or is
held by the guard, its end stores every word of its pages and clears their poison, a record read answers the
value buffered or stored, and record and log commands answer their results. Clauses that a command whose
precondition fails changes nothing rest on log entry 4, and those that carry time to a deadline on log entry 3.
(spec/13_ledger.md.) -/
def Obligations.LedgerCommandsComplete : Prop :=
  (∀ (w : WaitWrite) (rest : List WaitWrite) (r : Req) (s : State), s.ledg.waiting = w :: rest →
      w.writer = .window r → s.ledg.running = [] → s.ledg.slots.length < 63 → s.ledg.drain = .none →
      s.ledg.again = false → s.ledg.owed = 0 → writeDirty (decide (w.page < 128)) w.off w.bytes.length ≠ 0 →
      (∀ i, i < 8 → s.ledg.poison.at false (8 * w.page + i) = false) → Does .waitingWritePlaced s (fun t =>
      t.ledg.waiting = rest ∧ t.ledg.slots.any (fun x => decide (x.page = w.page)) = true ∧
      t.ledg.array = s.ledg.array ∧
      (s.ledg.slots.any (fun x => decide (x.page = w.page)) = false → t.fld R.LEDG_STATUS.PAGES = s.ledg.slots.length + 1) ∧
      Frame (.seq :: .link :: notes) s t ∧ RegsIn [B.evt, B.ledg, B.link] s t)) ∧
  (∀ (s : State), s.ledg.waiting = [] → exec .waitingWritePlaced s = .next s) ∧
  (∀ (w : WaitWrite) (rest : List WaitWrite) (r : Req) (s : State), s.ledg.waiting = w :: rest →
      w.writer = .window r → s.ledg.running.any (fun x => decide (x.page = w.page)) = true →
      Does .waitingWritePlaced s (fun t =>
      t = s)) ∧
  (∀ (r : Req) (s : State), s.ledgOn = true → s.may r R.LEDG_CTRL.reg true none = true → s.ledg.running = [] →
      s.bit R.SYS_STATUS.VCC5_OK = false → s.ledg.slots ≠ [] → Does (.commitCommand r) s (fun t =>
      t.bit R.LEDG_STATUS.HELD = true ∧ t.ledg.slots = s.ledg.slots ∧ t.ledg.array = s.ledg.array ∧
      Frame (.seq :: .link :: notes) s t ∧ RegsIn [B.evt, B.host, B.ledg, B.link] s t)) ∧
  (∀ (r : Req) (s : State), s.may r R.LEDG_CTRL.reg true none = false →
      exec (.commitCommand r) s = .next (s.denied r true)) ∧
  (∀ (r : Req) (s : State), s.may r R.LEDG_CTRL.reg true none = true → s.ledgOn = false →
      exec (.commitCommand r) s = .next s) ∧
  (∀ (r : Req) (s : State), s.ledgOn = true → s.may r R.LEDG_CTRL.reg true none = true → s.ledg.running = [] →
      s.bit R.SYS_STATUS.VCC5_OK = true → s.ledg.slots ≠ [] → Does (.commitCommand r) s (fun t =>
      t.ledg.running ≠ [] ∧ t.ledg.slots = [] ∧ t.bit R.LEDG_STATUS.BUSY = true ∧
      t.bit R.LEDG_STATUS.HELD = false ∧ t.runs T.commitEnd = true ∧ t.ledg.array = s.ledg.array ∧
      t.ledg.poison = s.ledg.poison ∧ Frame (.seq :: .link :: notes) s t ∧
      RegsIn [B.evt, B.host, B.ledg, B.link] s t)) ∧
  (∀ (s : State), s.runs T.commitAge = true → s.ledg.running = [] → s.bit R.SYS_STATUS.VCC5_OK = true →
      s.ledg.slots ≠ [] → Does .commitAgeExpiry s (fun t =>
      t.ledg.running ≠ [] ∧ t.ledg.slots = [] ∧ t.bit R.LEDG_STATUS.BUSY = true ∧ t.runs T.commitEnd = true ∧
      t.ledg.array = s.ledg.array ∧ t.ledg.poison = s.ledg.poison ∧ t.sys.phase = s.sys.phase ∧
      Frame (.clock :: .seq :: .link :: notes) s t ∧ RegsIn [B.evt, B.ledg, B.link] s t)) ∧
  (∀ (s : State), s.runs T.commitAge = false → exec .commitAgeExpiry s = .next s) ∧
  (∀ (s : State), s.houseOn = true → s.bit R.LEDG_STATUS.HELD = false → Does .commitGuardRelease s (fun t =>
      t.bit R.SYS_STATUS.VCC5_OK = true ∧ t.bit R.LEDG_STATUS.HELD = false ∧ Frame [.regs] s t ∧
      RegsOnly [R.SYS_STATUS.reg, R.LEDG_STATUS.reg] s t)) ∧
  (∀ (s : State), s.houseOn = false → exec .commitGuardRelease s = .next s) ∧
  (∀ (s : State), s.runs T.commitEnd = true → Does .commitEnd s (fun t =>
      (∀ e ∈ (commitWords s.ledg.running).getLast?.toList, t.ledg.array.at 0#64 e.1 = e.2 ∧ t.ledg.poison.at false e.1 = false) ∧
      (∀ e ∈ commitWords s.ledg.running, t.ledg.poison.at false e.1 = false ∧ (((commitWords s.ledg.running).filter fun x => decide (x.1 = e.1)).length = 1 → t.ledg.array.at 0#64 e.1 = e.2)) ∧
      (∀ k, ((commitWords s.ledg.running).all fun x => decide (x.1 ≠ k)) = true → t.ledg.array.at 0#64 k = s.ledg.array.at 0#64 k ∧ t.ledg.poison.at false k = s.ledg.poison.at false k) ∧
      Frame (.clock :: .sys :: .seq :: .link :: notes) s t ∧ RegsIn [B.bist, B.evt, B.ledg, B.link, B.sys] s t)) ∧
  (∀ (s : State), s.runs T.commitEnd = false → exec .commitEnd s = .next s) ∧
  (∀ (r : Req) (rec : BitVec 9) (s : State), s.ledgOn = true → s.may r 0x40090020 true none = true →
      Does (.recordRead r rec) s (fun t =>
      t.bit (R.LEDG_REC_STAT.DONE (reqCode r)) = true ∧
      t.fld (R.LEDG_REC_STAT.RESULT (reqCode r)) = (if (s.recRead rec.toNat).2.2 then 0 else 1) ∧
      t.pair (R.LEDG_REC_VAL_LO.reg (reqCode r)) (R.LEDG_REC_VAL_HI.reg (reqCode r)) = (s.recRead rec.toNat).1 ∧
      t.bit (R.LEDG_REC_STAT.PENDING (reqCode r)) = (s.recRead rec.toNat).2.1 ∧ t.ledg.array = s.ledg.array ∧
      Frame (.seq :: .link :: notes) s t ∧ RegsIn [B.evt, B.host, B.ledg, B.link] s t)) ∧
  (∀ (r : Req) (rec : BitVec 9) (s : State), s.may r 0x40090020 true none = false →
      exec (.recordRead r rec) s = .next (s.denied r true)) ∧
  (∀ (r : Req) (rec : BitVec 9) (s : State), s.may r 0x40090020 true none = true → s.ledgOn = false →
      exec (.recordRead r rec) s = .next s) ∧
  (∀ (r : Req) (rec : BitVec 9) (value : BitVec 64) (s : State), s.ledgOn = true →
      s.may r 0x40090020 true none = true → rec.toNat < 16 → Does (.recordSet r rec value) s (fun t =>
      t.bit (R.LEDG_REC_STAT.DONE (reqCode r)) = true ∧ t.fld (R.LEDG_REC_STAT.RESULT (reqCode r)) = 2 ∧
      t.ledg = s.ledg ∧ Frame (.seq :: .link :: notes) s t ∧ RegsIn [B.evt, B.host, B.ledg, B.link] s t)) ∧
  (∀ (r : Req) (rec : BitVec 9) (value : BitVec 64) (s : State), s.may r 0x40090020 true none = false →
      exec (.recordSet r rec value) s = .next (s.denied r true)) ∧
  (∀ (r : Req) (rec : BitVec 9) (value : BitVec 64) (s : State), s.may r 0x40090020 true none = true →
      s.ledgOn = false → exec (.recordSet r rec value) s = .next s) ∧
  (∀ (r : Req) (rec : BitVec 9) (value : BitVec 64) (s : State), s.ledgOn = true →
      s.may r 0x40090020 true none = true → 16 ≤ rec.toNat → Does (.recordSet r rec value) s (fun t =>
      (t.fld (R.LEDG_REC_STAT.RESULT (reqCode r)) = 0 → t.recLatest rec.toNat = value) ∧
      t.bit (R.LEDG_REC_STAT.DONE (reqCode r)) = true ∧
      (t.fld (R.LEDG_REC_STAT.RESULT (reqCode r)) = 0 ∨ t.fld (R.LEDG_REC_STAT.RESULT (reqCode r)) = 3) ∧
      Frame (.seq :: .link :: notes) s t ∧ RegsIn [B.evt, B.host, B.ledg, B.link] s t)) ∧
  (∀ (r : Req) (rec : BitVec 9) (inc : Word) (s : State), s.ledgOn = true → s.may r 0x40090020 true none = true →
      rec.toNat < 16 → Does (.recordAdd r rec inc) s (fun t =>
      t.bit (R.LEDG_REC_STAT.DONE (reqCode r)) = true ∧ t.fld (R.LEDG_REC_STAT.RESULT (reqCode r)) = 2 ∧
      t.ledg = s.ledg ∧ Frame (.seq :: .link :: notes) s t ∧ RegsIn [B.evt, B.host, B.ledg, B.link] s t)) ∧
  (∀ (r : Req) (rec : BitVec 9) (inc : Word) (s : State), s.may r 0x40090020 true none = false →
      exec (.recordAdd r rec inc) s = .next (s.denied r true)) ∧
  (∀ (r : Req) (rec : BitVec 9) (inc : Word) (s : State), s.may r 0x40090020 true none = true →
      s.ledgOn = false → exec (.recordAdd r rec inc) s = .next s) ∧
  (∀ (r : Req) (rec : BitVec 9) (inc : Word) (s : State), s.ledgOn = true → s.may r 0x40090020 true none = true →
      16 ≤ rec.toNat → Does (.recordAdd r rec inc) s (fun t =>
      (t.fld (R.LEDG_REC_STAT.RESULT (reqCode r)) = 0 → t.recLatest rec.toNat = addSat64 (s.recLatest rec.toNat) inc.toNat) ∧
      t.bit (R.LEDG_REC_STAT.DONE (reqCode r)) = true ∧
      (t.fld (R.LEDG_REC_STAT.RESULT (reqCode r)) = 0 ∨ t.fld (R.LEDG_REC_STAT.RESULT (reqCode r)) = 3) ∧
      Frame (.seq :: .link :: notes) s t ∧ RegsIn [B.evt, B.host, B.ledg, B.link] s t)) ∧
  (∀ (r : Req) (code : Byte) (source : BitVec 16) (s : State), s.ledgOn = true →
      s.may r 0x40090030 true none = true → source.toNat < 0x8000 →
      Does (.logRecordAdd r code source) s (fun t =>
      t = s)) ∧
  (∀ (r : Req) (code : Byte) (source : BitVec 16) (s : State), s.may r 0x40090030 true none = false →
      exec (.logRecordAdd r code source) s = .next (s.denied r true)) ∧
  (∀ (r : Req) (code : Byte) (source : BitVec 16) (s : State), s.may r 0x40090030 true none = true →
      s.ledgOn = false → exec (.logRecordAdd r code source) s = .next s) ∧
  (∀ (r : Req) (code : Byte) (source : BitVec 16) (s : State), s.ledgOn = true →
      s.may r 0x40090030 true none = true → 0x8000 ≤ source.toNat → s.ledg.logQueue.length < 32 →
      s.ledg.owed = 0 → Does (.logRecordAdd r code source) s (fun t =>
      (s.ledg.scanned = false → t.ledg.logQueue.length = s.ledg.logQueue.length + 1 ∧ t.ledg.logQueue.getLast?.map (fun x => (x.time, x.source, x.code, x.data)) = some (s.now, source, code, BitVec.ofNat 16 (s.fld (R.LEDG_LOG_DATA.DATA (reqCode r))))) ∧
      t.ledg.array = s.ledg.array ∧ t.loops = s.loops ∧ Frame (.seq :: .link :: notes) s t ∧
      RegsIn [B.evt, B.host, B.link] s t))

/-- Forwarder, claims, doorbells, timers and semaphores.  The forward time-out, claim and completion of a source, a
doorbell, a timer match and semaphores complete with the pending bits, running levels and holders of R233 and
R237 to R241. Clauses that a command whose precondition fails changes nothing rest on log entry 4, and those
that carry time to a deadline on log entry 3.  (spec/12_engines.md.) -/
def Obligations.InterruptsAndSemaphoresComplete : Prop :=
  (∀ (s : State), s.bit R.EVT_FWD.BUSY = true → s.runs T.forward = true → Does .forwardTimeout s (fun t =>
      t.bit R.EVT_FWD.BUSY = false ∧ t.bit R.EVT_FWD.LINKW = false ∧ t.fld R.EVT_FWD.WAIT = 0 ∧
      t.deadline T.forward = none ∧
      (∀ e, e < 16 → (s.fld R.EVT_FWD.WAIT).testBit e = true → t.bitAt (R.EIC_PEND.reg e) (s.fld R.EVT_FWD.EV) = false) ∧
      Frame [.clock, .regs, .timers, .trace, .tracePost, .evt, .host, .link] s t ∧ RegsIn [B.evt] s t)) ∧
  (∀ (s : State), s.bit R.EVT_FWD.BUSY = false → exec .forwardTimeout s = .next s) ∧
  (∀ (e : Fin 16) (l : Nat) (s : State), s.engRuns e = true → s.qualified e = some l →
      Does (.eicClaim e) s (fun t =>
      t.bitAt (R.EIC_PEND.reg e) l = false ∧ (t.eng e).claims = (l, s.lsLevel e l) :: (s.eng e).claims ∧
      Frame [.regs, .evt] s t)) ∧
  (∀ (e : Fin 16) (s : State), (s.engRuns e = false ∨ s.qualified e = none) → exec (.eicClaim e) s = .next s) ∧
  (∀ (e : Fin 16) (src : Byte) (lv : Nat) (rest : List (Nat × Nat)) (s : State), s.engRuns e = true →
      (s.eng e).claims = (src.toNat, lv) :: rest → Does (.eicComplete e src) s (fun t =>
      (t.eng e).claims = rest ∧ Frame [.regs, .evt, .timers] s t)) ∧
  (∀ (e : Fin 16) (src : Byte) (s : State), s.engRuns e = false → exec (.eicComplete e src) s = .next s) ∧
  (∀ (e : Fin 16) (src : Byte) (s : State), s.engRuns e = true →
      ((s.eng e).claims.head?.map Prod.fst) ≠ some src.toNat → Does (.eicComplete e src) s (fun t =>
      t.bit (R.EIC_STATUS.BADCOMP e) = true ∧ t.evt = s.evt ∧ Frame [.regs] s t ∧
      RegsOnly [R.EIC_STATUS.reg e] s t)) ∧
  (∀ (e : Fin 16) (targets : BitVec 16) (s : State), s.engRuns e = true → Does (.doorbell e targets) s (fun t =>
      (∀ k, k < 16 → targets.toNat.testBit k = true → t.bitAt (R.EIC_PEND.reg k) (176 + e.val) = true) ∧
      Frame [.regs] s t)) ∧
  (∀ (e : Fin 16) (targets : BitVec 16) (s : State), s.engRuns e = false → exec (.doorbell e targets) s = .next s) ∧
  (∀ (e : Fin 16) (s : State), s.engRuns e = true → (s.eng e).tcmpArmed = true →
      Does (.timerCompareMatch e) s (fun t =>
      (t.eng e).tcmpArmed = false ∧ t.bitAt (R.EIC_PEND.reg e) 162 = true ∧ (s.tcmp e : Int) ≤ t.ns + t.htOfs ∧
      Frame [.clock, .regs, .evt] s t)) ∧
  (∀ (e : Fin 16) (s : State), s.engRuns e = false → exec (.timerCompareMatch e) s = .next s) ∧
  (∀ (r : Req) (n : Fin 64) (s : State), s.may r (R.SEM.reg n) false none = true → s.bit (R.SEM.HELD n) = false →
      Does (.semAcquire r n) s (fun t =>
      t.bit (R.SEM.HELD n) = true ∧ t.fld (R.SEM.HOLDER n) = semCode r ∧ Frame [.regs] s t ∧
      RegsOnly [R.SEM.reg n] s t)) ∧
  (∀ (r : Req) (n : Fin 64) (s : State), s.may r (R.SEM.reg n) false none = false →
      exec (.semAcquire r n) s = .next (s.denied r false)) ∧
  (∀ (r : Req) (n : Fin 64) (s : State), s.may r (R.SEM.reg n) false none = true → s.bit (R.SEM.HELD n) = true →
      exec (.semAcquire r n) s = .next s) ∧
  (∀ (r : Req) (n : Fin 64) (w : Word) (s : State), s.may r (R.SEM.reg n) true none = true →
      s.bit (R.SEM.HELD n) = true → s.fld (R.SEM.HOLDER n) = semCode r → w.field 0 5 = 0 →
      Does (.semRelease r n w) s (fun t =>
      t.bit (R.SEM.HELD n) = false ∧ t.bit (R.SEM.BROKEN n) = false ∧ Frame notes s t ∧
      RegsOnly [R.SEM.reg n, R.HOST_LAST_TS_LO.reg, R.HOST_LAST_TS_HI.reg] s t)) ∧
  (∀ (r : Req) (n : Fin 64) (w : Word) (s : State), s.may r (R.SEM.reg n) true none = false →
      exec (.semRelease r n w) s = .next (s.denied r true)) ∧
  (∀ (r : Req) (n : Fin 64) (w : Word) (s : State), s.may r (R.SEM.reg n) true none = true →
      (r ≠ .hostBus ∧ (s.bit (R.SEM.HELD n) = false ∨ s.fld (R.SEM.HOLDER n) ≠ semCode r ∨ w.field 0 5 ≠ 0)) →
      exec (.semRelease r n w) s = .next s)

/-- DMA, lockstep, takeover, events and ECC.  DMA start, suspend and abort, a beat (the unit it moves from source to
destination, the last one's among them, and the end of the transfer with it), a lockstep mismatch, takeover,
software events, host clears by a register and by the two-wire message, interrupts and scrubbing complete with
the state R228 to R242 give. Clauses that a command whose precondition fails changes nothing rest on log entry
4, and those that carry time to a deadline on log entry 3.  (spec/12_engines.md.) -/
def Obligations.DmaTakeoverAndMemoryComplete : Prop :=
  (∀ (e : Fin 16) (c : Fin 32) (s : State), s.dmaOwner c = some e.val → s.dmaRuns c = true →
      Does (.dmaSuspend e c) s (fun t =>
      (t.dma c).stop = 3 ∧ t.regs = s.regs ∧ Frame [.evt] s t)) ∧
  (∀ (e : Fin 16) (c : Fin 32) (s : State), (s.dmaOwner c ≠ some e.val ∨ s.dmaRuns c = false) →
      exec (.dmaSuspend e c) s = .next s) ∧
  (∀ (e : Fin 16) (c : Fin 32) (s : State), s.dmaOwner c = some e.val → s.dmaRuns c = true →
      Does (.dmaAbort e c) s (fun t =>
      (t.dma c).stop = 6 ∧ t.regs = s.regs ∧ Frame [.evt] s t)) ∧
  (∀ (e : Fin 16) (c : Fin 32) (s : State), (s.dmaOwner c ≠ some e.val ∨ s.dmaRuns c = false) →
      exec (.dmaAbort e c) s = .next s) ∧
  (∀ (e : Fin 16) (c : Fin 32) (s : State), s.dmaOwner c = some e.val → s.dmaRuns c = false →
      s.engRuns e = true → Does (.dmaStart e c) s (fun t =>
      (t.dma c).desc = BitVec.ofNat 32 (s.fld (R.DMA_CH_DESC.ADDR c) * 32) ∧
      (t.fld (R.DMA_CH_STATUS.STATE c) = 1 ∨ t.fld (R.DMA_CH_STATUS.STATE c) = 4) ∧
      Frame (.seq :: .link :: notes) s t ∧ RegsIn [B.evt] s t)) ∧
  (∀ (e : Fin 16) (c : Fin 32) (s : State), (s.dmaOwner c ≠ some e.val ∨ s.dmaRuns c = true) →
      exec (.dmaStart e c) s = .next s) ∧
  (∀ (c : Fin 32) (errs : List EccErr) (s : State), s.dmaRuns c = true → (s.dma c).stop ≠ 0 →
      (s.dma c).stop < 16 → Does (.dmaBeat c errs) s (fun t =>
      t.fld (R.DMA_CH_STATUS.STATE c) = (s.dma c).stop ∧ t.fld (R.DMA_CH_STATUS.CAUSE c) = 0 ∧
      (t.dma c).stop = 0)) ∧
  (∀ (c : Fin 32) (errs : List EccErr) (s : State), s.dmaRuns c = false → exec (.dmaBeat c errs) s = .next s) ∧
  (∀ (c : Fin 32) (o : Fin 16) (errs : List EccErr) (s : State), s.dmaRuns c = true → (s.dma c).stop = 0 →
      s.dmaWinner = some c.val → s.dmaOwner c = some o.val →
      s.mpuMay o 1 (s.beatFrom c) (s.dma c).width = false → Does (.dmaBeat c errs) s (fun t =>
      t.fld (R.DMA_CH_STATUS.STATE c) = 4 ∧ t.fld (R.DMA_CH_STATUS.CAUSE c) = 1 ∧
      (s.flt.collecting = true → t.fstat.getLsbD 48 = true ∧ t.fstat.getLsbD 49 = true))) ∧
  (∀ (c : Fin 32) (o : Fin 16) (s : State), s.movesBeat c o = true →
      s.inSram (s.beatFrom c) (s.dma c).width = true → s.inSram (s.beatTo c) (s.dma c).width = true →
      s.fld (R.DMA_CH_STATUS.DONE c) + (s.dma c).width < (s.dma c).len → (s.dma c).len < 2 ^ 24 →
      Does (.dmaBeat c []) s (fun t =>
      t.sramBytes (s.beatTo c - 0x20000000) (s.dma c).width = s.sramBytes (s.beatFrom c - 0x20000000) (s.dma c).width ∧
      (∀ k, k ≠ (s.beatTo c - 0x20000000) / 8 → t.evt.sram.at 0#64 k = s.evt.sram.at 0#64 k) ∧
      t.evt.engines = s.evt.engines ∧
      t.fld (R.DMA_CH_STATUS.DONE c) = s.fld (R.DMA_CH_STATUS.DONE c) + (s.dma c).width ∧
      t.fld (R.DMA_CH_STATUS.STATE c) = 1 ∧ Frame [.regs, .evt] s t ∧ RegsOnly [R.DMA_CH_STATUS.reg c] s t)) ∧
  (∀ (c : Fin 32) (o : Fin 16) (s : State), s.movesBeat c o = true →
      s.inDtcm o (s.beatFrom c) (s.dma c).width = true → s.inDtcm o (s.beatTo c) (s.dma c).width = true →
      s.fld (R.DMA_CH_STATUS.DONE c) + (s.dma c).width < (s.dma c).len → (s.dma c).len < 2 ^ 24 →
      Does (.dmaBeat c []) s (fun t =>
      (t.eng o).dtcm.at 0#32 ((s.beatTo c - 0x10000) / 4) = setLane ((s.eng o).dtcm.at 0#32 ((s.beatTo c - 0x10000) / 4)) (s.beatTo c % 4) (s.dma c).width (lane ((s.eng o).dtcm.at 0#32 ((s.beatFrom c - 0x10000) / 4)) (s.beatFrom c % 4) (s.dma c).width) ∧
      (∀ k, k ≠ (s.beatTo c - 0x10000) / 4 → (t.eng o).dtcm.at 0#32 k = (s.eng o).dtcm.at 0#32 k) ∧
      (∀ k, k ≠ o.val → t.eng k = s.eng k) ∧ t.evt.sram = s.evt.sram ∧
      t.fld (R.DMA_CH_STATUS.DONE c) = s.fld (R.DMA_CH_STATUS.DONE c) + (s.dma c).width ∧
      t.fld (R.DMA_CH_STATUS.STATE c) = 1 ∧ Frame [.regs, .evt] s t ∧ RegsOnly [R.DMA_CH_STATUS.reg c] s t)) ∧
  (∀ (c : Fin 32) (o : Fin 16) (s : State), s.movesBeat c o = true →
      s.inSram (s.beatFrom c) (s.dma c).width = true → s.inSram (s.beatTo c) (s.dma c).width = true →
      (s.dma c).len ≤ s.fld (R.DMA_CH_STATUS.DONE c) + (s.dma c).width →
      s.fld (R.DMA_CH_STATUS.DONE c) + (s.dma c).width < 2 ^ 24 → (s.dma c).ctrl.getLsbD 5 = false →
      Does (.dmaBeat c []) s (fun t =>
      t.sramBytes (s.beatTo c - 0x20000000) (s.dma c).width = s.sramBytes (s.beatFrom c - 0x20000000) (s.dma c).width ∧
      (∀ k, k ≠ (s.beatTo c - 0x20000000) / 8 → t.evt.sram.at 0#64 k = s.evt.sram.at 0#64 k) ∧
      t.fld (R.DMA_CH_STATUS.DONE c) = s.fld (R.DMA_CH_STATUS.DONE c) + (s.dma c).width ∧
      t.fld (R.DMA_CH_STATUS.STATE c) = 2 ∧ t.fld (R.DMA_CH_STATUS.CAUSE c) = 0 ∧
      ((s.dma c).ctrl.getLsbD 4 = true → t.bitAt (R.EIC_PEND.reg o) (128 + c.val) = true) ∧
      Frame [.regs, .evt] s t ∧ RegsOnly [R.DMA_CH_STATUS.reg c] s t)) ∧
  (∀ (e : Fin 16) (s : State), s.engRuns e = true → Does (.lockstepMismatch e) s (fun t =>
      t.fld (R.ENG_STATUS.STATE e) = 3 ∧ t.reg (R.ENG_HALT_PC.reg e) = (s.eng e).pc ∧ (t.eng e).claims = [] ∧
      (∀ n, n < 64 → s.bit (R.SEM.HELD n) = true → s.fld (R.SEM.HOLDER n) = e.val → t.bit (R.SEM.HELD n) = false ∧ t.bit (R.SEM.BROKEN n) = true) ∧
      Frame (.seq :: .link :: notes) s t ∧ RegsIn [B.evt] s t)) ∧
  (∀ (e : Fin 16) (s : State), s.engRuns e = false → exec (.lockstepMismatch e) s = .next s) ∧
  (∀ (e frm : Fin 16) (s : State), s.engRuns e = true → (s.fld (R.ENG_CFG.SPARE_FOR e)).testBit frm = true →
      s.est frm = 3 → s.bit (R.ENG_STATUS.TKO e) = false → Does (.takeover e frm) s (fun t =>
      t.est e = 5 ∧ t.fld (R.ENG_STATUS.AS e) = frm.val ∧ t.bit (R.ENG_STATUS.TKO e) = true ∧
      (t.eng e).claims = [] ∧ t.deadline (timerKey 90 e) = some (t.ns + 150000) ∧
      (∀ r, r < 16 → t.reg (R.ENG_MPU_BASE.reg e r) = s.reg (R.ENG_MPU_BASE.reg frm r) ∧ t.reg (R.ENG_MPU_LIM.reg e r) = s.reg (R.ENG_MPU_LIM.reg frm r)) ∧
      Frame (.seq :: .link :: notes) s t ∧ RegsIn [B.evt, B.link] s t)) ∧
  (∀ (e frm : Fin 16) (s : State), s.engRuns e = false → exec (.takeover e frm) s = .next s) ∧
  (∀ (e : Fin 16) (s : State), s.est e = 5 → Does (.takeoverRelease e) s (fun t =>
      t.est e = 1 ∧ t.deadline (timerKey 90 e) = none ∧ t.xreg e 10 = BitVec.ofNat 32 e.val ∧
      t.xreg e 11 = BitVec.ofNat 32 (s.fld (R.ENG_STATUS.AS e)) ∧ t.fld (R.EIC_THR.THR e) = 0 ∧
      Frame (.seq :: .link :: notes) s t ∧ RegsIn [B.evt, B.link] s t)) ∧
  (∀ (e : Fin 16) (s : State), s.est e ≠ 5 → exec (.takeoverRelease e) s = .next s) ∧
  (∀ (r : Req) (sw : BitVec 5) (s : State), s.may r R.EVT_RAISE.reg true none = true → sw.toNat < 20 →
      Does (.softwareEventRaise r sw) s (fun t =>
      t.runs (T.evPulse (76 + sw.toNat)) = true ∧
      t.fld (R.EVT_CNT.RAISE (76 + sw.toNat)) = min 0x7FFFFF (s.fld (R.EVT_CNT.RAISE (76 + sw.toNat)) + 1) ∧
      Frame notes s t ∧ RegsOnly [R.HOST_LAST_TS_LO.reg, R.HOST_LAST_TS_HI.reg] s t)) ∧
  (∀ (r : Req) (sw : BitVec 5) (s : State), s.may r R.EVT_RAISE.reg true none = false →
      exec (.softwareEventRaise r sw) s = .next (s.denied r true)) ∧
  (∀ (r : Req) (sw : BitVec 5) (s : State), s.may r R.EVT_RAISE.reg true none = true → 20 ≤ sw.toNat →
      exec (.softwareEventRaise r sw) s = .next s) ∧
  (∀ (mask : BitVec 128) (r : Req) (s : State), (r = .hostBus ∨ r = .quad) →
      s.may r (R.EVT_PEND.reg 0) true (some 0xDB) 16 = true → Does (.hostEventClear mask r) s (fun t =>
      (∀ e, e < 128 → t.bitAt R.EVT_PEND.reg e = (s.bitAt R.EVT_PEND.reg e && !mask.getLsbD e)) ∧
      Frame notes s t ∧ RegsOnly [R.HOST_LAST_TS_LO.reg, R.HOST_LAST_TS_HI.reg] s t)) ∧
  (∀ (mask : BitVec 128) (r : Req) (s : State), (r ≠ .hostBus ∧ r ≠ .quad) →
      exec (.hostEventClear mask r) s = .next s) ∧
  (∀ (mask : BitVec 128) (r : Req) (s : State),
      ((r = .hostBus ∨ r = .quad) ∧ s.may r (R.EVT_PEND.reg 0) true (some 0xDB) 16 = false) →
      exec (.hostEventClear mask r) s = .next (s.denied r true)) ∧
  (∀ (mask : BitVec 128) (m : BusMsg) (s : State), s.takesWrite m 0xDB 16 16 = true →
      Does (.hostEventClear mask .hostBus (some m)) s (fun t =>
      (∀ e, e < 128 → t.bitAt R.EVT_PEND.reg e = (s.bitAt R.EVT_PEND.reg e && !(bytesLE m.data).testBit e)) ∧
      t.host.refused = false ∧ t.pair R.HOST_LAST_TS_LO.reg R.HOST_LAST_TS_HI.reg = s.now ∧
      Frame (.seq :: .link :: notes) s t ∧ RegsIn [B.evt, B.host, B.link] s t)) ∧
  (∀ (mask : BitVec 128) (m : BusMsg) (s : State), s.busOn = false →
      exec (.hostEventClear mask .hostBus (some m)) s = .next s) ∧
  (∀ (e : Fin 16) (s : State), s.engRuns e = true → (s.eng e).mie = true → (s.qualified e).isSome = true →
      Does (.interruptTaken e) s (fun t =>
      (t.eng e).mepc = (s.eng e).pc ∧ (t.eng e).mcause = 0x8000000B#32 ∧ (t.eng e).mie = false ∧
      (t.eng e).mpie = true ∧ t.est e = 1 ∧
      ((s.eng e).mtvec.field 0 2 ≠ 1 → (t.eng e).pc = (s.eng e).mtvec &&& 0xFFFFFFFC#32) ∧
      ((s.eng e).mtvec.field 0 2 = 1 → (t.eng e).pc = ((s.eng e).mtvec &&& 0xFFFFFFFC#32) + 44#32) ∧
      (t.eng e).xs = (s.eng e).xs ∧ Frame [.regs, .evt] s t ∧ RegsOnly [R.ENG_STATUS.reg e] s t)) ∧
  (∀ (e : Fin 16) (s : State), (s.engRuns e = false ∨ (s.eng e).mie = false) →
      exec (.interruptTaken e) s = .next s) ∧
  (∀ (mem : EccMem) (addr : Nat) (err : EccErr) (s : State), s.topOn = true → eccHolds mem addr = true →
      s.eccBad mem addr = false → err = .single → Does (.sramScrub mem addr err) s (fun t =>
      Raises 46 s t ∧ Frame notes s t)) ∧
  (∀ (mem : EccMem) (addr : Nat) (err : EccErr) (s : State),
      (s.topOn = false ∨ eccHolds mem addr = false ∨ s.eccBad mem addr = false ∧ err = .none) →
      exec (.sramScrub mem addr err) s = .next s) ∧
  (∀ (mem : EccMem) (addr : Nat) (err : EccErr) (s : State), s.topOn = true → eccHolds mem addr = true →
      (s.eccBad mem addr = true ∨ err = .double) → Does (.sramScrub mem addr err) s (fun t =>
      Raises 47 s t ∧ t.eccBad mem addr = true ∧ Frame (.seq :: .link :: notes) s t ∧ RegsIn [] s t))

/-- Every instruction of a policy engine.  For a running engine whose fetch decodes to an instruction, one clause
for each kind: the destination register, the program counter and the frame (LUI, AUIPC, immediate and register
operations, multiply and divide, jumps with rd equal to rs1 too, branches, loads, stores to the data TCM, to
shared SRAM and to registers, CSR reads and writes, FENCE, ECALL, EBREAK, MRET, WFI), and the trap of an illegal
instruction or CSR, of a misaligned load or store, and of a fetch, load or store that the MPU refuses. mtval of
an illegal instruction and of EBREAK is a free value (log entry 90). Clauses that a command whose precondition
fails changes nothing rest on log entry 4.  (spec/12_engines.md.) -/
def Obligations.EngineInstructionsExecute : Prop :=
  (∀ (e : Fin 16) (errs : List EccErr) (len rd : Nat) (imm : Word) (s : State), (s.awake e).est e = 1 →
      s.fetchedOp e errs = some (some (.lui rd imm), len) → Does (.engineInstruction e errs) s (fun t =>
      t.xreg e rd = (if rd = 0 then 0#32 else imm) ∧ (∀ k, k ≠ rd → t.xreg e k = (s.fetched e errs).xreg e k) ∧
      Frame [.evt] (s.fetched e errs) t ∧ (∀ k, k ≠ e.val → t.eng k = (s.fetched e errs).eng k) ∧
      (t.eng e).pc = ((s.fetched e errs).eng e).pc + BitVec.ofNat 32 len)) ∧
  (∀ (e : Fin 16) (errs : List EccErr) (len rd : Nat) (imm : Word) (s : State), (s.awake e).est e = 1 →
      s.fetchedOp e errs = some (some (.auipc rd imm), len) → Does (.engineInstruction e errs) s (fun t =>
      t.xreg e rd = (if rd = 0 then 0#32 else ((s.fetched e errs).eng e).pc + imm) ∧
      (∀ k, k ≠ rd → t.xreg e k = (s.fetched e errs).xreg e k) ∧ Frame [.evt] (s.fetched e errs) t ∧
      (∀ k, k ≠ e.val → t.eng k = (s.fetched e errs).eng k) ∧
      (t.eng e).pc = ((s.fetched e errs).eng e).pc + BitVec.ofNat 32 len)) ∧
  (∀ (e : Fin 16) (errs : List EccErr) (len f3 : Nat) (alt : Bool) (rd rs1 : Nat) (imm : Word) (s : State),
      (s.awake e).est e = 1 → s.fetchedOp e errs = some (some (.opImm f3 alt rd rs1 imm), len) →
      Does (.engineInstruction e errs) s (fun t =>
      t.xreg e rd = (if rd = 0 then 0#32 else rvAlu f3 alt ((s.fetched e errs).xreg e rs1) imm) ∧
      (∀ k, k ≠ rd → t.xreg e k = (s.fetched e errs).xreg e k) ∧ Frame [.evt] (s.fetched e errs) t ∧
      (∀ k, k ≠ e.val → t.eng k = (s.fetched e errs).eng k) ∧
      (t.eng e).pc = ((s.fetched e errs).eng e).pc + BitVec.ofNat 32 len)) ∧
  (∀ (e : Fin 16) (errs : List EccErr) (len f3 : Nat) (alt : Bool) (rd rs1 rs2 : Nat) (s : State),
      (s.awake e).est e = 1 → s.fetchedOp e errs = some (some (.op f3 alt rd rs1 rs2), len) →
      Does (.engineInstruction e errs) s (fun t =>
      t.xreg e rd = (if rd = 0 then 0#32 else rvAlu f3 alt ((s.fetched e errs).xreg e rs1) ((s.fetched e errs).xreg e rs2)) ∧
      (∀ k, k ≠ rd → t.xreg e k = (s.fetched e errs).xreg e k) ∧ Frame [.evt] (s.fetched e errs) t ∧
      (∀ k, k ≠ e.val → t.eng k = (s.fetched e errs).eng k) ∧
      (t.eng e).pc = ((s.fetched e errs).eng e).pc + BitVec.ofNat 32 len)) ∧
  (∀ (e : Fin 16) (errs : List EccErr) (len f3 rd rs1 rs2 : Nat) (s : State), (s.awake e).est e = 1 →
      s.fetchedOp e errs = some (some (.mul f3 rd rs1 rs2), len) → Does (.engineInstruction e errs) s (fun t =>
      t.xreg e rd = (if rd = 0 then 0#32 else rvMul f3 ((s.fetched e errs).xreg e rs1) ((s.fetched e errs).xreg e rs2)) ∧
      (∀ k, k ≠ rd → t.xreg e k = (s.fetched e errs).xreg e k) ∧ Frame [.evt] (s.fetched e errs) t ∧
      (∀ k, k ≠ e.val → t.eng k = (s.fetched e errs).eng k) ∧
      (t.eng e).pc = ((s.fetched e errs).eng e).pc + BitVec.ofNat 32 len)) ∧
  (∀ (e : Fin 16) (errs : List EccErr) (len rd : Nat) (ofs : Word) (s : State), (s.awake e).est e = 1 →
      s.fetchedOp e errs = some (some (.jal rd ofs), len) → Does (.engineInstruction e errs) s (fun t =>
      t.xreg e rd = (if rd = 0 then 0#32 else ((s.fetched e errs).eng e).pc + BitVec.ofNat 32 len) ∧
      (∀ k, k ≠ rd → t.xreg e k = (s.fetched e errs).xreg e k) ∧ Frame [.evt] (s.fetched e errs) t ∧
      (∀ k, k ≠ e.val → t.eng k = (s.fetched e errs).eng k) ∧ (t.eng e).pc = ((s.fetched e errs).eng e).pc + ofs)) ∧
  (∀ (e : Fin 16) (errs : List EccErr) (len rd rs1 : Nat) (ofs : Word) (s : State), (s.awake e).est e = 1 →
      s.fetchedOp e errs = some (some (.jalr rd rs1 ofs), len) → Does (.engineInstruction e errs) s (fun t =>
      t.xreg e rd = (if rd = 0 then 0#32 else ((s.fetched e errs).eng e).pc + BitVec.ofNat 32 len) ∧
      (∀ k, k ≠ rd → t.xreg e k = (s.fetched e errs).xreg e k) ∧ Frame [.evt] (s.fetched e errs) t ∧
      (∀ k, k ≠ e.val → t.eng k = (s.fetched e errs).eng k) ∧
      (t.eng e).pc = ((s.fetched e errs).xreg e rs1 + ofs) &&& 0xFFFFFFFE#32)) ∧
  (∀ (e : Fin 16) (errs : List EccErr) (len f3 a b : Nat) (ofs : Word) (s : State), (s.awake e).est e = 1 →
      s.fetchedOp e errs = some (some (.branch f3 a b ofs), len) → Does (.engineInstruction e errs) s (fun t =>
      (t.eng e).xs = ((s.fetched e errs).eng e).xs ∧ Frame [.evt] (s.fetched e errs) t ∧
      (t.eng e).pc = (if rvTaken f3 ((s.fetched e errs).xreg e a) ((s.fetched e errs).xreg e b) then ((s.fetched e errs).eng e).pc + ofs else ((s.fetched e errs).eng e).pc + BitVec.ofNat 32 len))) ∧
  (∀ (e : Fin 16) (errs : List EccErr) (len f3 rd rs1 v : Nat) (ofs : Word) (s : State), (s.awake e).est e = 1 →
      s.fetchedOp e errs = some (some (.load f3 rd rs1 ofs), len) →
      ((s.fetched e errs).engLoad e ((s.fetched e errs).xreg e rs1 + ofs) (rvBytes f3)).1 = some v →
      Does (.engineInstruction e errs) s (fun t =>
      t.xreg e rd = (if rd = 0 then 0#32 else rvLoaded f3 v) ∧
      (∀ k, k ≠ rd → t.xreg e k = ((s.fetched e errs).engLoad e ((s.fetched e errs).xreg e rs1 + ofs) (rvBytes f3)).2.xreg e k) ∧
      (t.eng e).pc = ((s.fetched e errs).eng e).pc + BitVec.ofNat 32 len)) ∧
  (∀ (e : Fin 16) (errs : List EccErr) (len f3 rd rs1 : Nat) (ofs : Word) (s : State), (s.awake e).est e = 1 →
      s.fetchedOp e errs = some (some (.load f3 rd rs1 ofs), len) →
      ((s.fetched e errs).xreg e rs1 + ofs).toNat % rvBytes f3 ≠ 0 →
      Does (.engineInstruction e errs) s (fun t =>
      (t.eng e).mcause = 4#32 ∧ (t.eng e).mepc = ((s.fetched e errs).eng e).pc ∧
      (t.eng e).mtval = ((s.fetched e errs).xreg e rs1 + ofs) ∧ (t.eng e).xs = ((s.fetched e errs).eng e).xs)) ∧
  (∀ (e : Fin 16) (errs : List EccErr) (len f3 rs1 rs2 : Nat) (ofs : Word) (s : State), (s.awake e).est e = 1 →
      s.fetchedOp e errs = some (some (.store f3 rs1 rs2 ofs), len) →
      ((s.fetched e errs).xreg e rs1 + ofs).toNat % rvBytes f3 = 0 →
      (s.fetched e errs).mpuMay e 2 ((s.fetched e errs).xreg e rs1 + ofs).toNat (rvBytes f3) = true →
      0x10000 ≤ ((s.fetched e errs).xreg e rs1 + ofs).toNat →
      ((s.fetched e errs).xreg e rs1 + ofs).toNat < 0x20000 →
      ((s.fetched e errs).eng e).dtcmBad.at false ((((s.fetched e errs).xreg e rs1 + ofs).toNat - 0x10000) / 4) = false →
      (s.fetched e errs).evt.eccNext = [] → Does (.engineInstruction e errs) s (fun t =>
      (t.eng e).pc = ((s.fetched e errs).eng e).pc + BitVec.ofNat 32 len ∧
      (t.eng e).dtcm.at 0#32 ((((s.fetched e errs).xreg e rs1 + ofs).toNat - 0x10000) / 4) = setLane (((s.fetched e errs).eng e).dtcm.at 0#32 ((((s.fetched e errs).xreg e rs1 + ofs).toNat - 0x10000) / 4)) (((s.fetched e errs).xreg e rs1 + ofs).toNat % 4) (rvBytes f3) (((s.fetched e errs).xreg e rs2).toNat % 2 ^ (8 * rvBytes f3)) ∧
      (∀ k, k ≠ (((s.fetched e errs).xreg e rs1 + ofs).toNat - 0x10000) / 4 → (t.eng e).dtcm.at 0#32 k = ((s.fetched e errs).eng e).dtcm.at 0#32 k) ∧
      (t.eng e).xs = ((s.fetched e errs).eng e).xs ∧ Frame [.evt] (s.fetched e errs) t)) ∧
  (∀ (e : Fin 16) (errs : List EccErr) (len f3 rs1 rs2 : Nat) (ofs : Word) (s : State), (s.awake e).est e = 1 →
      s.fetchedOp e errs = some (some (.store f3 rs1 rs2 ofs), len) →
      ((s.fetched e errs).xreg e rs1 + ofs).toNat % rvBytes f3 = 0 →
      (s.fetched e errs).mpuMay e 2 ((s.fetched e errs).xreg e rs1 + ofs).toNat (rvBytes f3) = true →
      (s.fetched e errs).inSram ((s.fetched e errs).xreg e rs1 + ofs).toNat (rvBytes f3) = true →
      (s.fetched e errs).evt.eccNext = [] → Does (.engineInstruction e errs) s (fun t =>
      (t.eng e).pc = ((s.fetched e errs).eng e).pc + BitVec.ofNat 32 len ∧
      t.sramBytes (((s.fetched e errs).xreg e rs1 + ofs).toNat - 0x20000000) (rvBytes f3) = leBytes (rvBytes f3) (((s.fetched e errs).xreg e rs2).toNat % 2 ^ (8 * rvBytes f3)) ∧
      (∀ k, k ≠ (((s.fetched e errs).xreg e rs1 + ofs).toNat - 0x20000000) / 8 → t.evt.sram.at 0#64 k = (s.fetched e errs).evt.sram.at 0#64 k) ∧
      (t.eng e).xs = ((s.fetched e errs).eng e).xs ∧ (t.eng e).dtcm = ((s.fetched e errs).eng e).dtcm ∧
      Frame [.evt] (s.fetched e errs) t)) ∧
  (∀ (e : Fin 16) (errs : List EccErr) (len f3 rs1 rs2 : Nat) (ofs : Word) (s : State), (s.awake e).est e = 1 →
      s.fetchedOp e errs = some (some (.store f3 rs1 rs2 ofs), len) →
      ((s.fetched e errs).xreg e rs1 + ofs).toNat % 4 = 0 → rvBytes f3 = 4 →
      (s.fetched e errs).mpuMay e 2 ((s.fetched e errs).xreg e rs1 + ofs).toNat (rvBytes f3) = true →
      0x40000000 ≤ ((s.fetched e errs).xreg e rs1 + ofs).toNat →
      ((s.fetched e errs).xreg e rs1 + ofs).toNat < 0x400E0000 → Does (.engineInstruction e errs) s (fun t =>
      (t.eng e).pc = ((s.fetched e errs).eng e).pc + BitVec.ofNat 32 len ∧
      t.regs = ((s.fetched e errs).writeReg (.engine e) ((s.fetched e errs).xreg e rs1 + ofs).toNat ((s.fetched e errs).xreg e rs2)).regs ∧
      t.phases = ((s.fetched e errs).writeReg (.engine e) ((s.fetched e errs).xreg e rs1 + ofs).toNat ((s.fetched e errs).xreg e rs2)).phases)) ∧
  (∀ (e : Fin 16) (errs : List EccErr) (len f3 rs1 rs2 : Nat) (ofs : Word) (s : State), (s.awake e).est e = 1 →
      s.fetchedOp e errs = some (some (.store f3 rs1 rs2 ofs), len) →
      ((s.fetched e errs).xreg e rs1 + ofs).toNat % rvBytes f3 ≠ 0 →
      Does (.engineInstruction e errs) s (fun t =>
      (t.eng e).mcause = 6#32 ∧ (t.eng e).mepc = ((s.fetched e errs).eng e).pc ∧
      (t.eng e).mtval = ((s.fetched e errs).xreg e rs1 + ofs) ∧
      (t.eng e).pc = ((s.fetched e errs).eng e).mtvec &&& 0xFFFFFFFC#32 ∧
      (t.eng e).xs = ((s.fetched e errs).eng e).xs ∧ (t.eng e).mie = false ∧ Frame [.evt] (s.fetched e errs) t)) ∧
  (∀ (e : Fin 16) (errs : List EccErr) (len f3 rs1 rs2 : Nat) (ofs : Word) (s : State), (s.awake e).est e = 1 →
      s.fetchedOp e errs = some (some (.store f3 rs1 rs2 ofs), len) →
      ((s.fetched e errs).xreg e rs1 + ofs).toNat % rvBytes f3 = 0 →
      (s.fetched e errs).mpuMay e 2 ((s.fetched e errs).xreg e rs1 + ofs).toNat (rvBytes f3) = false →
      Does (.engineInstruction e errs) s (fun t =>
      (t.eng e).mcause = 7#32 ∧ (t.eng e).mepc = ((s.fetched e errs).eng e).pc ∧
      (t.eng e).mtval = ((s.fetched e errs).xreg e rs1 + ofs) ∧
      (t.eng e).pc = ((s.fetched e errs).eng e).mtvec &&& 0xFFFFFFFC#32 ∧
      (t.eng e).xs = ((s.fetched e errs).eng e).xs ∧ (t.eng e).mie = false ∧
      (s.flt.collecting = true → t.fstat.getLsbD 48 = true) ∧ t.bit (R.ENG_MPU_FINFO.VALID e) = true ∧
      ((s.fetched e errs).bit (R.ENG_MPU_FINFO.VALID e) = false → t.reg (R.ENG_MPU_FADDR.reg e) = ((s.fetched e errs).xreg e rs1 + ofs)) ∧
      t.evt.sram = (s.fetched e errs).evt.sram ∧ (t.eng e).dtcm = ((s.fetched e errs).eng e).dtcm)) ∧
  (∀ (e : Fin 16) (errs : List EccErr) (len f3 rd rs1 : Nat) (ofs : Word) (s : State), (s.awake e).est e = 1 →
      s.fetchedOp e errs = some (some (.load f3 rd rs1 ofs), len) →
      ((s.fetched e errs).xreg e rs1 + ofs).toNat % rvBytes f3 = 0 →
      (s.fetched e errs).mpuMay e 1 ((s.fetched e errs).xreg e rs1 + ofs).toNat (rvBytes f3) = false →
      Does (.engineInstruction e errs) s (fun t =>
      (t.eng e).mcause = 5#32 ∧ (t.eng e).mepc = ((s.fetched e errs).eng e).pc ∧
      (t.eng e).mtval = ((s.fetched e errs).xreg e rs1 + ofs) ∧
      (t.eng e).pc = ((s.fetched e errs).eng e).mtvec &&& 0xFFFFFFFC#32 ∧
      (t.eng e).xs = ((s.fetched e errs).eng e).xs ∧ (t.eng e).mie = false ∧
      (s.flt.collecting = true → t.fstat.getLsbD 48 = true) ∧ t.bit (R.ENG_MPU_FINFO.VALID e) = true ∧
      ((s.fetched e errs).bit (R.ENG_MPU_FINFO.VALID e) = false → t.reg (R.ENG_MPU_FADDR.reg e) = ((s.fetched e errs).xreg e rs1 + ofs)))) ∧
  (∀ (e : Fin 16) (errs : List EccErr) (len f3 rd rs1 c : Nat) (old : Word) (s : State), (s.awake e).est e = 1 →
      s.fetchedOp e errs = some (some (.csr f3 rd rs1 c), len) → rs1 = 0 → f3 % 4 ≠ 1 →
      ((s.fetched e errs).csrRead e c).1 = some old → c ≠ 0xB00 → c ≠ 0xB80 →
      Does (.engineInstruction e errs) s (fun t =>
      t.xreg e rd = (if rd = 0 then 0#32 else old) ∧ (∀ k, k ≠ rd → t.xreg e k = (s.fetched e errs).xreg e k) ∧
      (t.eng e).pc = ((s.fetched e errs).eng e).pc + BitVec.ofNat 32 len)) ∧
  (∀ (e : Fin 16) (errs : List EccErr) (len f3 rd rs1 : Nat) (old : Word) (s : State), (s.awake e).est e = 1 →
      s.fetchedOp e errs = some (some (.csr f3 rd rs1 0x304), len) → (f3 % 4 = 1 ∨ rs1 ≠ 0) →
      ((s.fetched e errs).csrRead e 0x304).1 = some old → Does (.engineInstruction e errs) s (fun t =>
      (t.eng e).mieReg = (if f3 % 4 = 1 then (if 4 ≤ f3 then BitVec.ofNat 32 rs1 else (s.fetched e errs).xreg e rs1) else if f3 % 4 = 2 then old ||| (if 4 ≤ f3 then BitVec.ofNat 32 rs1 else (s.fetched e errs).xreg e rs1) else old &&& ~~~(if 4 ≤ f3 then BitVec.ofNat 32 rs1 else (s.fetched e errs).xreg e rs1)) &&& 0x888#32 ∧
      t.xreg e rd = (if rd = 0 then 0#32 else old) ∧ (∀ k, k ≠ rd → t.xreg e k = (s.fetched e errs).xreg e k) ∧
      (t.eng e).pc = ((s.fetched e errs).eng e).pc + BitVec.ofNat 32 len ∧ Frame [.evt] (s.fetched e errs) t)) ∧
  (∀ (e : Fin 16) (errs : List EccErr) (len f3 rd rs1 : Nat) (old : Word) (s : State), (s.awake e).est e = 1 →
      s.fetchedOp e errs = some (some (.csr f3 rd rs1 0x305), len) → (f3 % 4 = 1 ∨ rs1 ≠ 0) →
      ((s.fetched e errs).csrRead e 0x305).1 = some old → Does (.engineInstruction e errs) s (fun t =>
      (t.eng e).mtvec = (if f3 % 4 = 1 then (if 4 ≤ f3 then BitVec.ofNat 32 rs1 else (s.fetched e errs).xreg e rs1) else if f3 % 4 = 2 then old ||| (if 4 ≤ f3 then BitVec.ofNat 32 rs1 else (s.fetched e errs).xreg e rs1) else old &&& ~~~(if 4 ≤ f3 then BitVec.ofNat 32 rs1 else (s.fetched e errs).xreg e rs1)) &&& 0xFFFFFFFD#32 ∧
      t.xreg e rd = (if rd = 0 then 0#32 else old) ∧ (∀ k, k ≠ rd → t.xreg e k = (s.fetched e errs).xreg e k) ∧
      (t.eng e).pc = ((s.fetched e errs).eng e).pc + BitVec.ofNat 32 len ∧ Frame [.evt] (s.fetched e errs) t)) ∧
  (∀ (e : Fin 16) (errs : List EccErr) (len f3 rd rs1 : Nat) (old : Word) (s : State), (s.awake e).est e = 1 →
      s.fetchedOp e errs = some (some (.csr f3 rd rs1 0x340), len) → (f3 % 4 = 1 ∨ rs1 ≠ 0) →
      ((s.fetched e errs).csrRead e 0x340).1 = some old → Does (.engineInstruction e errs) s (fun t =>
      (t.eng e).mscratch = (if f3 % 4 = 1 then (if 4 ≤ f3 then BitVec.ofNat 32 rs1 else (s.fetched e errs).xreg e rs1) else if f3 % 4 = 2 then old ||| (if 4 ≤ f3 then BitVec.ofNat 32 rs1 else (s.fetched e errs).xreg e rs1) else old &&& ~~~(if 4 ≤ f3 then BitVec.ofNat 32 rs1 else (s.fetched e errs).xreg e rs1)) ∧
      t.xreg e rd = (if rd = 0 then 0#32 else old) ∧ (∀ k, k ≠ rd → t.xreg e k = (s.fetched e errs).xreg e k) ∧
      (t.eng e).pc = ((s.fetched e errs).eng e).pc + BitVec.ofNat 32 len ∧ Frame [.evt] (s.fetched e errs) t)) ∧
  (∀ (e : Fin 16) (errs : List EccErr) (len f3 rd rs1 : Nat) (old : Word) (s : State), (s.awake e).est e = 1 →
      s.fetchedOp e errs = some (some (.csr f3 rd rs1 0x341), len) → (f3 % 4 = 1 ∨ rs1 ≠ 0) →
      ((s.fetched e errs).csrRead e 0x341).1 = some old → Does (.engineInstruction e errs) s (fun t =>
      (t.eng e).mepc = (if f3 % 4 = 1 then (if 4 ≤ f3 then BitVec.ofNat 32 rs1 else (s.fetched e errs).xreg e rs1) else if f3 % 4 = 2 then old ||| (if 4 ≤ f3 then BitVec.ofNat 32 rs1 else (s.fetched e errs).xreg e rs1) else old &&& ~~~(if 4 ≤ f3 then BitVec.ofNat 32 rs1 else (s.fetched e errs).xreg e rs1)) &&& 0xFFFFFFFE#32 ∧
      t.xreg e rd = (if rd = 0 then 0#32 else old) ∧ (∀ k, k ≠ rd → t.xreg e k = (s.fetched e errs).xreg e k) ∧
      (t.eng e).pc = ((s.fetched e errs).eng e).pc + BitVec.ofNat 32 len ∧ Frame [.evt] (s.fetched e errs) t)) ∧
  (∀ (e : Fin 16) (errs : List EccErr) (len f3 rd rs1 : Nat) (old : Word) (s : State), (s.awake e).est e = 1 →
      s.fetchedOp e errs = some (some (.csr f3 rd rs1 0x342), len) → (f3 % 4 = 1 ∨ rs1 ≠ 0) →
      ((s.fetched e errs).csrRead e 0x342).1 = some old → Does (.engineInstruction e errs) s (fun t =>
      (t.eng e).mcause = (if f3 % 4 = 1 then (if 4 ≤ f3 then BitVec.ofNat 32 rs1 else (s.fetched e errs).xreg e rs1) else if f3 % 4 = 2 then old ||| (if 4 ≤ f3 then BitVec.ofNat 32 rs1 else (s.fetched e errs).xreg e rs1) else old &&& ~~~(if 4 ≤ f3 then BitVec.ofNat 32 rs1 else (s.fetched e errs).xreg e rs1)) ∧
      t.xreg e rd = (if rd = 0 then 0#32 else old) ∧ (∀ k, k ≠ rd → t.xreg e k = (s.fetched e errs).xreg e k) ∧
      (t.eng e).pc = ((s.fetched e errs).eng e).pc + BitVec.ofNat 32 len ∧ Frame [.evt] (s.fetched e errs) t)) ∧
  (∀ (e : Fin 16) (errs : List EccErr) (len f3 rd rs1 : Nat) (old : Word) (s : State), (s.awake e).est e = 1 →
      s.fetchedOp e errs = some (some (.csr f3 rd rs1 0x343), len) → (f3 % 4 = 1 ∨ rs1 ≠ 0) →
      ((s.fetched e errs).csrRead e 0x343).1 = some old → Does (.engineInstruction e errs) s (fun t =>
      (t.eng e).mtval = (if f3 % 4 = 1 then (if 4 ≤ f3 then BitVec.ofNat 32 rs1 else (s.fetched e errs).xreg e rs1) else if f3 % 4 = 2 then old ||| (if 4 ≤ f3 then BitVec.ofNat 32 rs1 else (s.fetched e errs).xreg e rs1) else old &&& ~~~(if 4 ≤ f3 then BitVec.ofNat 32 rs1 else (s.fetched e errs).xreg e rs1)) ∧
      t.xreg e rd = (if rd = 0 then 0#32 else old) ∧ (∀ k, k ≠ rd → t.xreg e k = (s.fetched e errs).xreg e k) ∧
      (t.eng e).pc = ((s.fetched e errs).eng e).pc + BitVec.ofNat 32 len ∧ Frame [.evt] (s.fetched e errs) t)) ∧
  (∀ (e : Fin 16) (errs : List EccErr) (len f3 rd rs1 : Nat) (old : Word) (s : State), (s.awake e).est e = 1 →
      s.fetchedOp e errs = some (some (.csr f3 rd rs1 0x300), len) → (f3 % 4 = 1 ∨ rs1 ≠ 0) →
      ((s.fetched e errs).csrRead e 0x300).1 = some old → Does (.engineInstruction e errs) s (fun t =>
      (t.eng e).mie = (if f3 % 4 = 1 then (if 4 ≤ f3 then BitVec.ofNat 32 rs1 else (s.fetched e errs).xreg e rs1) else if f3 % 4 = 2 then old ||| (if 4 ≤ f3 then BitVec.ofNat 32 rs1 else (s.fetched e errs).xreg e rs1) else old &&& ~~~(if 4 ≤ f3 then BitVec.ofNat 32 rs1 else (s.fetched e errs).xreg e rs1)).getLsbD 3 ∧
      (t.eng e).mpie = (if f3 % 4 = 1 then (if 4 ≤ f3 then BitVec.ofNat 32 rs1 else (s.fetched e errs).xreg e rs1) else if f3 % 4 = 2 then old ||| (if 4 ≤ f3 then BitVec.ofNat 32 rs1 else (s.fetched e errs).xreg e rs1) else old &&& ~~~(if 4 ≤ f3 then BitVec.ofNat 32 rs1 else (s.fetched e errs).xreg e rs1)).getLsbD 7 ∧
      t.xreg e rd = (if rd = 0 then 0#32 else old) ∧ (∀ k, k ≠ rd → t.xreg e k = (s.fetched e errs).xreg e k) ∧
      (t.eng e).pc = ((s.fetched e errs).eng e).pc + BitVec.ofNat 32 len ∧ Frame [.evt] (s.fetched e errs) t)) ∧
  (∀ (e : Fin 16) (errs : List EccErr) (len f3 rd rs1 : Nat) (old : Word) (s : State), (s.awake e).est e = 1 →
      s.fetchedOp e errs = some (some (.csr f3 rd rs1 0xB02), len) → (f3 % 4 = 1 ∨ rs1 ≠ 0) →
      ((s.fetched e errs).csrRead e 0xB02).1 = some old → Does (.engineInstruction e errs) s (fun t =>
      (t.eng e).minstret.setWidth 32 = (if f3 % 4 = 1 then (if 4 ≤ f3 then BitVec.ofNat 32 rs1 else (s.fetched e errs).xreg e rs1) else if f3 % 4 = 2 then old ||| (if 4 ≤ f3 then BitVec.ofNat 32 rs1 else (s.fetched e errs).xreg e rs1) else old &&& ~~~(if 4 ≤ f3 then BitVec.ofNat 32 rs1 else (s.fetched e errs).xreg e rs1)) ∧
      t.xreg e rd = (if rd = 0 then 0#32 else old) ∧ (∀ k, k ≠ rd → t.xreg e k = (s.fetched e errs).xreg e k) ∧
      (t.eng e).pc = ((s.fetched e errs).eng e).pc + BitVec.ofNat 32 len ∧ Frame [.evt] (s.fetched e errs) t)) ∧
  (∀ (e : Fin 16) (errs : List EccErr) (len f3 rd rs1 : Nat) (old : Word) (s : State), (s.awake e).est e = 1 →
      s.fetchedOp e errs = some (some (.csr f3 rd rs1 0xB82), len) → (f3 % 4 = 1 ∨ rs1 ≠ 0) →
      ((s.fetched e errs).csrRead e 0xB82).1 = some old → Does (.engineInstruction e errs) s (fun t =>
      ((t.eng e).minstret >>> 32).setWidth 32 = (if f3 % 4 = 1 then (if 4 ≤ f3 then BitVec.ofNat 32 rs1 else (s.fetched e errs).xreg e rs1) else if f3 % 4 = 2 then old ||| (if 4 ≤ f3 then BitVec.ofNat 32 rs1 else (s.fetched e errs).xreg e rs1) else old &&& ~~~(if 4 ≤ f3 then BitVec.ofNat 32 rs1 else (s.fetched e errs).xreg e rs1)) ∧
      t.xreg e rd = (if rd = 0 then 0#32 else old) ∧ (∀ k, k ≠ rd → t.xreg e k = (s.fetched e errs).xreg e k) ∧
      (t.eng e).pc = ((s.fetched e errs).eng e).pc + BitVec.ofNat 32 len ∧ Frame [.evt] (s.fetched e errs) t)) ∧
  (∀ (e : Fin 16) (errs : List EccErr) (len f3 rd rs1 c : Nat) (s : State), (s.awake e).est e = 1 →
      s.fetchedOp e errs = some (some (.csr f3 rd rs1 c), len) →
      ((f3 % 4 = 1 ∨ rs1 ≠ 0) ∧ c / 1024 = 3 ∨ ((s.fetched e errs).csrRead e c).1 = none) →
      Does (.engineInstruction e errs) s (fun t =>
      (t.eng e).mcause = 2#32 ∧ (t.eng e).mepc = ((s.fetched e errs).eng e).pc ∧
      (t.eng e).mtval = Config.freeWord (s.fetched e errs).freeCount ∧
      (t.eng e).xs = ((s.fetched e errs).eng e).xs)) ∧
  (∀ (e : Fin 16) (errs : List EccErr) (len : Nat) (s : State), (s.awake e).est e = 1 →
      s.fetchedOp e errs = some (some (.fence), len) → Does (.engineInstruction e errs) s (fun t =>
      (t.eng e).xs = ((s.fetched e errs).eng e).xs ∧ Frame [.evt] (s.fetched e errs) t ∧
      (t.eng e).pc = ((s.fetched e errs).eng e).pc + BitVec.ofNat 32 len)) ∧
  (∀ (e : Fin 16) (errs : List EccErr) (len : Nat) (s : State), (s.awake e).est e = 1 →
      s.fetchedOp e errs = some (some (.ecall), len) → Does (.engineInstruction e errs) s (fun t =>
      (t.eng e).xs = ((s.fetched e errs).eng e).xs ∧ Frame [.evt] (s.fetched e errs) t ∧
      (t.eng e).mepc = ((s.fetched e errs).eng e).pc ∧ (t.eng e).mcause = 11#32 ∧
      (t.eng e).mpie = ((s.fetched e errs).eng e).mie ∧ (t.eng e).mie = false ∧
      (t.eng e).pc = ((s.fetched e errs).eng e).mtvec &&& 0xFFFFFFFC#32)) ∧
  (∀ (e : Fin 16) (errs : List EccErr) (len : Nat) (s : State), (s.awake e).est e = 1 →
      s.fetchedOp e errs = some (some (.ebreak), len) → Does (.engineInstruction e errs) s (fun t =>
      (t.eng e).xs = ((s.fetched e errs).eng e).xs ∧ (t.eng e).mepc = ((s.fetched e errs).eng e).pc ∧
      (t.eng e).mcause = 3#32 ∧ (t.eng e).mtval = Config.freeWord (s.fetched e errs).freeCount ∧
      (t.eng e).pc = ((s.fetched e errs).eng e).mtvec &&& 0xFFFFFFFC#32)) ∧
  (∀ (e : Fin 16) (errs : List EccErr) (len : Nat) (s : State), (s.awake e).est e = 1 →
      s.fetchedOp e errs = some (some (.mret), len) → Does (.engineInstruction e errs) s (fun t =>
      (t.eng e).xs = ((s.fetched e errs).eng e).xs ∧ Frame [.evt] (s.fetched e errs) t ∧
      (t.eng e).pc = ((s.fetched e errs).eng e).mepc ∧ (t.eng e).mie = ((s.fetched e errs).eng e).mpie ∧
      (t.eng e).mpie = true)) ∧
  (∀ (e : Fin 16) (errs : List EccErr) (len : Nat) (s : State), (s.awake e).est e = 1 →
      s.fetchedOp e errs = some (some (.wfi), len) → Does (.engineInstruction e errs) s (fun t =>
      (t.eng e).xs = ((s.fetched e errs).eng e).xs ∧
      (t.eng e).pc = ((s.fetched e errs).eng e).pc + BitVec.ofNat 32 len ∧ t.est e = 2)) ∧
  (∀ (e : Fin 16) (errs : List EccErr) (s : State), (s.awake e).est e = 1 →
      (s.awake e).mpuMay e 0 ((s.awake e).eng e).pc.toNat 2 = false →
      Does (.engineInstruction e errs) s (fun t =>
      (t.eng e).mcause = 1#32 ∧ (t.eng e).mepc = ((s.awake e).eng e).pc ∧
      (t.eng e).mtval = ((s.awake e).eng e).pc ∧ (t.eng e).xs = ((s.awake e).eng e).xs ∧
      (s.flt.collecting = true → t.fstat.getLsbD 48 = true))) ∧
  (∀ (e : Fin 16) (errs : List EccErr) (len : Nat) (s : State), (s.awake e).est e = 1 →
      s.fetchedOp e errs = some (none, len) → Does (.engineInstruction e errs) s (fun t =>
      (t.eng e).mcause = 2#32 ∧ (t.eng e).mepc = ((s.fetched e errs).eng e).pc ∧
      (t.eng e).mtval = Config.freeWord (s.fetched e errs).freeCount)) ∧
  (∀ (e : Fin 16) (errs : List EccErr) (s : State),
      (s.est e ≠ 1 ∧ (s.est e ≠ 2 ∨ (s.qualified e).isSome = false)) →
      exec (.engineInstruction e errs) s = .next s)

/-- Ports, discovery and the time servo.  Bring-up with its bursts, up and down of a port, HELLO (the peer's own,
one relayed with its header, one refused at depth 5), ASSIGN taken, refused, repeated or passed on, the
synchronisation exchange with offset, delay, step, slew and rate, and its time-out complete with the port
states, numbers and offsets of R288 to R296. The model's choices: the DST of a hop (log entry 203), the depth of
a relayed HELLO (log entry 204), t3 as reported or a free value (log entries 122 and 205), the rate as a free
value and the servo (log entry 206), which HELLO the MANAGER answers (log entry 121), the default header of a
row (log entry 207). Clauses that a command whose precondition fails changes nothing rest on log entry 4, and
those that carry time to a deadline on log entry 3.  (spec/15_hierarchy.md.) -/
def Obligations.LinkPortsAndTimeComplete : Prop :=
  (∀ (p : Fin 4) (s : State), s.portState p = 1 → Does (.linkBringupBurst p) s (fun t =>
      (t.port p).first = true ∧
      t.link.sent = (if s.sys.pllE = .out then [] else [⟨p.val, 0x100, s.dev, 0xFF, 0, []⟩]) ∧
      Frame [.link] s t ∧ (∀ q, q ≠ p.val → t.port q = s.port q))) ∧
  (∀ (p : Fin 4) (s : State), s.portState p ≠ 1 → exec (.linkBringupBurst p) s = .next s) ∧
  (∀ (p : Fin 4) (first : Bool) (s : State), s.portState p = 1 → s.sys.pllE ≠ .out →
      Does (.linkUp p first) s (fun t =>
      t.fld (R.LINK_PORT_STATUS.STATE p) = 2 ∧ (t.port p).first = first ∧
      t.link.sent.any (fun x => decide (x.port = p.val) && decide (x.typ = 0x100) && decide (x.payload = [])) = !first ∧
      t.link.sent.any (fun x => decide (x.port = p.val) && decide (x.typ = 1) && decide (x.payload = (BitVec.ofNat 8 s.manager.toNat :: BitVec.ofNat 8 s.depthByte :: BitVec.ofNat 8 s.devPin :: BitVec.ofNat 8 s.dev :: leBytes 8 s.ownHash.toNat))) = true ∧
      t.deadline (T.hello p) = some (t.ns + 100000000) ∧ t.runs T.rvec = true ∧
      Frame (.freeCount :: .seq :: .link :: notes) s t ∧ RegsIn [B.evt, B.link] s t)) ∧
  (∀ (p : Fin 4) (first : Bool) (s : State), (s.portState p ≠ 1 ∨ s.sys.pllE = .out) →
      exec (.linkUp p first) s = .next s) ∧
  (∀ (p : Fin 4) (s : State), s.portUp p = true → Does (.linkDown p) s (fun t =>
      t.fld (R.LINK_PORT_STATUS.STATE p) = 0 ∧ t.fld (R.LINK_PORT_STATUS.PEER p) = 0xFF ∧
      t.port p = PortState.zero ∧ t.deadline (T.hello p) = none ∧ (∀ e ∈ t.link.routes, e.2 ≠ some p.val) ∧
      (s.flt.collecting = true → t.fstat.getLsbD 53 = true) ∧
      (s.worker = true → s.upPort = some p.val → t.runs T.align = false ∨ t.upPort.isSome = true) ∧
      Frame (.seq :: .link :: notes) s t ∧ RegsIn [B.evt, B.link] s t)) ∧
  (∀ (p : Fin 4) (s : State), s.portUp p = false → exec (.linkDown p) s = .next s) ∧
  (∀ (p : Fin 4) (s : State), s.runs (T.hello p) = true → s.portUp p = true → Does (.helloTimer p) s (fun t =>
      t.deadline (T.hello p) = some (t.ns + 100000000) ∧
      (s.sys.pllE ≠ .out → t.link.sent.any (fun x => decide (x.port = p.val) && decide (x.typ = 1) && decide (x.src = s.dev) && decide (x.dst ≠ 0xFF) && decide (x.payload = (BitVec.ofNat 8 s.manager.toNat :: BitVec.ofNat 8 s.depthByte :: BitVec.ofNat 8 s.devPin :: BitVec.ofNat 8 s.dev :: leBytes 8 s.ownHash.toNat))) = true) ∧
      t.regs = s.regs ∧ Frame [.clock, .timers, .link, .freeCount] s t)) ∧
  (∀ (p : Fin 4) (s : State), s.runs (T.hello p) = false → exec (.helloTimer p) s = .next s) ∧
  (∀ (p : Fin 4) (s : State), s.runs (T.hello p) = true → s.portUp p = false → Does (.helloTimer p) s (fun t =>
      t.deadline (T.hello p) = none ∧ Frame [.clock, .timers] s t)) ∧
  (∀ (p : Fin 4) (role depth devPin dev : Byte) (hash : BitVec 64) (toManager : Bool) (s : State),
      s.portUp p = true → s.sys.pllE ≠ .out → ((s.port p).peerHash = 0#64 ∨ (s.port p).peerHash = hash) →
      Does (.hello p role depth devPin dev hash toManager) s (fun t =>
      (t.port p).peerHash = hash ∧ (t.port p).peerRole = role.toNat ∧ (t.port p).peerDepth = depth.toNat ∧
      (t.port p).leads = toManager ∧ t.fld (R.LINK_PORT_STATUS.PEER p) = dev.toNat ∧
      Frame (.seq :: .link :: notes) s t ∧ RegsIn [B.evt, B.link] s t)) ∧
  (∀ (p : Fin 4) (role depth devPin dev : Byte) (hash : BitVec 64) (toManager : Bool) (s : State),
      (s.portUp p = false ∨ s.sys.pllE = .out) →
      exec (.hello p role depth devPin dev hash toManager) s = .next s) ∧
  (∀ (p : Fin 4) (role depth devPin dev : Byte) (hash : BitVec 64) (toManager : Bool) (f : FrameId) (hops : Nat) (s : State),
      s.portUp p = true → s.sys.pllE ≠ .out → f.crcOk = true →
      ((s.port p).peerHash = 0#64 ∨ (s.port p).peerHash = hash) →
      Does (.hello p role depth devPin dev hash toManager (some f) hops) s (fun t =>
      (t.port p).peerHash = hash ∧ (t.port p).peerRole = role.toNat ∧ (t.port p).peerDepth = depth.toNat ∧
      (t.port p).leads = toManager ∧ t.fld (R.LINK_PORT_STATUS.PEER p) = dev.toNat ∧
      Frame (.seq :: .link :: notes) s t ∧ RegsIn [B.evt, B.link] s t)) ∧
  (∀ (p : Fin 4) (role depth devPin dev : Byte) (hash : BitVec 64) (toManager : Bool) (f : FrameId) (hops : Nat) (s : State),
      (s.portUp p = false ∨ s.sys.pllE = .out) →
      exec (.hello p role depth devPin dev hash toManager (some f) hops) s = .next s) ∧
  (∀ (p : Fin 4) (role depth devPin dev : Byte) (hash : BitVec 64) (toManager : Bool) (f : FrameId) (hops : Nat) (s : State),
      s.portUp p = true → s.sys.pllE ≠ .out → f.crcOk = false → (s.port p).bad + 1 < 16 →
      Does (.hello p role depth devPin dev hash toManager (some f) hops) s (fun t =>
      Counts (R.LINK_PORT_STATUS.CRCERR p) s t ∧ (t.port p).bad = (s.port p).bad + 1 ∧
      (t.port p).peerHash = (s.port p).peerHash ∧ Frame (.link :: notes) s t)) ∧
  (∀ (p : Fin 4) (role depth devPin dev : Byte) (hash : BitVec 64) (toManager : Bool) (f : FrameId) (hops : Nat) (s : State),
      s.portUp p = true → s.sys.pllE ≠ .out → f.crcOk = true → s.worker = true → (s.port p).peerHash ≠ 0#64 →
      (s.port p).peerHash ≠ hash → s.bestUp = s.upPort → s.fld R.LINK_ID.DEPTH < 4 →
      Does (.hello p role depth devPin dev hash toManager (some f) hops) s (fun t =>
      (t.port p).peerHash = (s.port p).peerHash ∧
      t.fld (R.LINK_PORT_STATUS.PEER p) = s.fld (R.LINK_PORT_STATUS.PEER p) ∧
      (∀ u ∈ t.upPort, u ≠ p.val → t.worker = true → t.fld R.LINK_ID.DEPTH < 4 → t.link.sent = [⟨u, 1, f.src.toNat, s.link.mgr, f.seq.toNat, ([role, depth, devPin, dev] ++ leBytes 8 hash.toNat)⟩] ∧ (hash, p.val) ∈ t.link.hellos ∧ (dev ≠ 0xFF#8 → t.link.routes.at none dev.toNat = some p.val)) ∧
      (t.upPort = none ∨ t.upPort = some p.val ∨ 4 ≤ t.fld R.LINK_ID.DEPTH → t.link.sent = []) ∧
      Frame (.seq :: .link :: notes) s t ∧ RegsIn [B.evt, B.link] s t)) ∧
  (∀ (p : Fin 4) (role depth devPin dev : Byte) (hash : BitVec 64) (toManager : Bool) (f : FrameId) (hops : Nat) (s : State),
      s.portUp p = true → s.sys.pllE ≠ .out → f.crcOk = true → s.manager = true → role.toNat = 1 →
      s.fld (R.LINK_PORT_STATUS.STATE p) ≠ 4 →
      Does (.hello p role depth devPin dev hash toManager (some f) hops) s (fun t =>
      t.fld (R.LINK_PORT_STATUS.STATE p) = 4 ∧ (s.flt.collecting = true → t.fstat.getLsbD 53 = true) ∧
      Frame (.seq :: .link :: notes) s t ∧ RegsIn [B.evt, B.link] s t)) ∧
  (∀ (p : Fin 4) (role depth devPin dev : Byte) (hash : BitVec 64) (toManager : Bool) (f : FrameId) (hops d : Nat) (s : State),
      s.portUp p = true → s.sys.pllE ≠ .out → f.crcOk = true → s.manager = true → role.toNat ≠ 1 →
      (dev = 0xFF#8 ∨ s.link.routes.at none dev.toNat = none ∨ s.link.routes.at none dev.toNat ≠ some p.val ∧ (toManager = false ∨ (s.port p).peerHash ≠ 0#64 ∧ (s.port p).peerHash ≠ hash)) →
      ((1 + (if (s.port p).peerHash ≠ 0#64 ∧ (s.port p).peerHash ≠ hash then max 1 hops else 0)) ≤ 4) →
      s.numberFor devPin.toNat hash = some d →
      Does (.hello p role depth devPin dev hash toManager (some f) hops) s (fun t =>
      t.link.holders.at none d = some hash ∧ t.link.routes.at none d = some p.val ∧
      (t.link.out.any (fun o => decide (o.typ = 2) && decide (o.dst = d) && decide (o.payload = leBytes 8 hash.toNat ++ [BitVec.ofNat 8 d, BitVec.ofNat 8 (1 + (if (s.port p).peerHash ≠ 0#64 ∧ (s.port p).peerHash ≠ hash then max 1 hops else 0))])) = true) ∧
      Frame (.seq :: .link :: notes) s t ∧ RegsIn [B.evt, B.link] s t)) ∧
  (∀ (p : Fin 4) (role depth devPin dev : Byte) (hash : BitVec 64) (toManager : Bool) (f : FrameId) (hops : Nat) (s : State),
      s.portUp p = true → s.sys.pllE ≠ .out → f.crcOk = true → s.manager = true → role.toNat ≠ 1 →
      (4 < (1 + (if (s.port p).peerHash ≠ 0#64 ∧ (s.port p).peerHash ≠ hash then max 1 hops else 0))) →
      Does (.hello p role depth devPin dev hash toManager (some f) hops) s (fun t =>
      t.link.holders = s.link.holders ∧ t.link.routes = s.link.routes ∧ t.link.out = s.link.out ∧
      t.link.sent = [] ∧ Frame (.seq :: .link :: notes) s t ∧ RegsIn [B.evt, B.link] s t)) ∧
  (∀ (f : FrameId) (hash : BitVec 64) (dev depth : Byte) (s : State), s.hears f.port = true → s.manager = false →
      f.crcOk = true → hash = s.ownHash → s.ackGiven f = none → s.upPort.isSome = true → depth.toNat ≤ 4 →
      Does (.assign f hash dev depth) s (fun t =>
      t.fld R.LINK_ID.DEV = dev.toNat ∧ t.fld R.LINK_ID.DEPTH = depth.toNat ∧ t.bit R.LINK_ID.JOINED = true ∧
      t.bit R.LINK_ID.ORPHAN = false ∧ t.link.mgr = f.src.toNat ∧ t.fld R.LINK_TIME_STATUS.STATE = 1 ∧
      t.ackResult f = some 0#8 ∧ t.deadline T.tsync = some (t.ns + 1000000) ∧
      t.deadline T.align = some (t.ns + 20000000) ∧ Frame (.seq :: .link :: notes) s t ∧
      RegsIn [B.evt, B.link] s t)) ∧
  (∀ (f : FrameId) (hash : BitVec 64) (dev depth : Byte) (s : State), s.hears f.port = true → s.manager = false →
      f.crcOk = true → hash = s.ownHash → s.ackGiven f = none → (s.upPort = none ∨ 4 < depth.toNat) →
      Does (.assign f hash dev depth) s (fun t =>
      t.link.sent = [] ∧ Frame [.link] s t ∧ t.link.mgr = s.link.mgr)) ∧
  (∀ (f : FrameId) (hash : BitVec 64) (dev depth : Byte) (body : List Byte) (s : State), s.hears f.port = true →
      s.manager = false → f.crcOk = true → hash = s.ownHash → s.ackGiven f = some body →
      Does (.assign f hash dev depth) s (fun t =>
      t.link.sent = [⟨(s.link.routes.at none f.src.toNat).getD f.port, 7, s.dev, f.src.toNat, s.link.seqNext, body⟩] ∧
      Frame [.link] s t)) ∧
  (∀ (f : FrameId) (hash : BitVec 64) (dev depth : Byte) (q : Nat) (s : State), s.hears f.port = true →
      s.manager = false → f.crcOk = true → hash ≠ s.ownHash →
      s.link.hellos.find? (fun e => e.1 = hash) = some (hash, q) → Does (.assign f hash dev depth) s (fun t =>
      t.link.sent = [⟨q, 2, f.src.toNat, dev.toNat, f.seq.toNat, leBytes 8 hash.toNat ++ [dev, depth]⟩] ∧
      t.link.routes.at none dev.toNat = some q ∧ Frame [.link] s t)) ∧
  (∀ (f : FrameId) (hash : BitVec 64) (dev depth : Byte) (s : State), s.hears f.port = true → s.manager = false →
      f.crcOk = true → hash ≠ s.ownHash → s.link.hellos.find? (fun e => e.1 = hash) = none →
      Does (.assign f hash dev depth) s (fun t =>
      t.link.sent = [] ∧ t.link.mgr = s.link.mgr ∧ Frame [.link] s t)) ∧
  (∀ (f : FrameId) (hash : BitVec 64) (dev depth : Byte) (s : State),
      (s.hears f.port = false ∨ s.manager = true) → Does (.assign f hash dev depth) s (fun t =>
      Frame [.link] s t ∧ t.link.mgr = s.link.mgr)) ∧
  (∀ (f : FrameId) (hash : BitVec 64) (dev depth : Byte) (s : State), s.hears f.port = true → s.manager = false →
      f.crcOk = false → (s.port f.port).bad + 1 < 16 → Does (.assign f hash dev depth) s (fun t =>
      Counts (R.LINK_PORT_STATUS.CRCERR f.port) s t ∧ (t.port f.port).bad = (s.port f.port).bad + 1 ∧
      t.bit R.LINK_ID.JOINED = s.bit R.LINK_ID.JOINED ∧ Frame (.link :: notes) s t)) ∧
  (∀ (p : Nat) (s : State), s.runs T.tsync = true → s.upPort = some p → s.worker = true → s.sys.pllE ≠ .out →
      Does .tsyncTimer s (fun t =>
      t.link.sent = [⟨p, 3, s.dev, s.fld (R.LINK_PORT_STATUS.PEER p), s.link.seqNext, []⟩] ∧
      t.deadline T.tsync = some (t.ns + 1000000) ∧ Frame [.clock, .timers, .link] s t)) ∧
  (∀ (s : State), s.runs T.tsync = false → exec .tsyncTimer s = .next s) ∧
  (∀ (p : Fin 4) (s : State), s.hears p = true → s.upPort ≠ some p.val → s.bit R.LINK_ID.JOINED = true →
      BitVec.ofNat 8 s.dev ≠ 0xFF#8 → Does (.tsyncReq p) s (fun t =>
      t.link.sent = [⟨p.val, 4, s.dev, s.fld (R.LINK_PORT_STATUS.PEER p), s.link.seqNext, leBytes 8 s.now.toNat ++ leBytes 8 (s.now + BitVec.ofNat 64 (1 + (Config.freeInt s.freeCount).natAbs % 4400)).toNat⟩] ∧
      Frame [.freeCount, .link] s t)) ∧
  (∀ (p : Fin 4) (f : FrameId) (t3 : BitVec 64) (s : State), s.gets f = true → f.dst ≠ 0xFF#8 →
      s.upPort ≠ some p.val → s.bit R.LINK_ID.JOINED = true → Does (.tsyncReq p (some f) (some t3)) s (fun t =>
      t.link.sent = [⟨p.val, 4, s.dev, s.fld (R.LINK_PORT_STATUS.PEER p), s.link.seqNext, leBytes 8 s.now.toNat ++ leBytes 8 t3.toNat⟩] ∧
      Frame [.link] s t)) ∧
  (∀ (p : Fin 4) (f : FrameId) (s : State), s.gets f = true → f.dst ≠ 0xFF#8 → s.upPort ≠ some p.val →
      s.bit R.LINK_ID.JOINED = true → Does (.tsyncReq p (some f) none) s (fun t =>
      t.link.sent = [⟨p.val, 4, s.dev, s.fld (R.LINK_PORT_STATUS.PEER p), s.link.seqNext, leBytes 8 s.now.toNat ++ leBytes 8 (s.now + BitVec.ofNat 64 (1 + (Config.freeInt s.freeCount).natAbs % 4400)).toNat⟩] ∧
      Frame [.freeCount, .link] s t)) ∧
  (∀ (p : Fin 4) (s : State), s.hears p = true → (s.upPort = some p.val ∨ s.bit R.LINK_ID.JOINED = false) →
      Does (.tsyncReq p) s (fun t =>
      t.link.sent = [] ∧ Frame [.link] s t)) ∧
  (∀ (t1 t2 t3 t4 : Int) (p : Nat) (s : State), s.worker = true → s.upPort = some p → s.hears p = true → p < 4 →
      s.dev ≠ 0xFF → Does (.tsyncRsp t1 t2 t3 t4) s (fun t =>
      t.sfld R.LINK_TIME_STATUS.OFS = clampInt (-32767) 32767 (roundDiv ((t2 - t1) - (t4 - t3)) 4) ∧
      t.fld R.LINK_TIME_DLY.DLY = (clampInt 0 65535 (roundDiv ((t2 - t1) + (t4 - t3)) 4)).toNat ∧
      t.deadline T.align = some (t.ns + 20000000) ∧
      Frame (.htOfs :: .freeCount :: .seq :: .link :: notes) s t ∧ RegsIn [B.evt, B.link] s t)) ∧
  (∀ (t1 t2 t3 t4 : Int) (p : Nat) (s : State), s.worker = true → s.upPort = some p → s.hears p = true → p < 4 →
      s.dev ≠ 0xFF → s.fld R.LINK_TIME_STATUS.STATE = 1 → s.link.first = true →
      Does (.tsyncRsp t1 t2 t3 t4) s (fun t =>
      t.htOfs = s.htOfs + roundDiv ((t2 - t1) - (t4 - t3)) 4 ∧ t.link.servo.slew = 0 ∧ t.link.first = false ∧
      t.fld R.LINK_TIME_STATUS.STATE = 1 ∧
      t.pair R.LINK_TIME_STEP_LO.reg R.LINK_TIME_STEP_HI.reg = BitVec.ofInt 64 (roundDiv ((t2 - t1) - (t4 - t3)) 4) ∧
      Counts R.LINK_TIME_STATUS.STEPS s t ∧ Frame (.htOfs :: .freeCount :: .seq :: .link :: notes) s t ∧
      RegsIn [B.evt, B.link] s t)) ∧
  (∀ (t1 t2 t3 t4 : Int) (p : Nat) (s : State), s.worker = true → s.upPort = some p → s.hears p = true → p < 4 →
      s.dev ≠ 0xFF → s.fld R.LINK_TIME_STATUS.STATE = 1 → s.link.first = false →
      (roundDiv ((t2 - t1) - (t4 - t3)) 4).natAbs ≤ max 1 (s.fld R.LINK_TCFG.STEP) * 1000 →
      Does (.tsyncRsp t1 t2 t3 t4) s (fun t =>
      t.link.servo.slew = roundDiv ((t2 - t1) - (t4 - t3)) 4 ∧ t.htOfs = s.rebase.htOfs ∧
      t.fld R.LINK_TIME_STATUS.STEPS = s.fld R.LINK_TIME_STATUS.STEPS ∧
      t.sfld R.LINK_TIME_RATE.RATE = clampInt (-128849018) 128849018 (Config.freeInt s.freeCount) ∧
      t.link.servo.rate = clampInt (-128849018) 128849018 (Config.freeInt s.freeCount) ∧
      t.link.near = (if (roundDiv ((t2 - t1) - (t4 - t3)) 4).natAbs ≤ 20 then s.link.near + 1 else 0) ∧
      (t.fld R.LINK_TIME_STATUS.STATE = 2 ↔ 8 ≤ t.link.near) ∧
      Frame (.htOfs :: .freeCount :: .seq :: .link :: notes) s t ∧ RegsIn [B.evt, B.link] s t)) ∧
  (∀ (t1 t2 t3 t4 : Int) (p : Nat) (s : State), s.worker = true → s.upPort = some p → s.hears p = true → p < 4 →
      s.dev ≠ 0xFF → s.fld R.LINK_TIME_STATUS.STATE = 1 → s.link.first = false →
      max 1 (s.fld R.LINK_TCFG.STEP) * 1000 < (roundDiv ((t2 - t1) - (t4 - t3)) 4).natAbs →
      Does (.tsyncRsp t1 t2 t3 t4) s (fun t =>
      t.htOfs = s.rebase.htOfs + roundDiv ((t2 - t1) - (t4 - t3)) 4 ∧ t.link.servo.slew = 0 ∧ t.link.near = 0 ∧
      Counts R.LINK_TIME_STATUS.STEPS s t ∧ Frame (.htOfs :: .freeCount :: .seq :: .link :: notes) s t ∧
      RegsIn [B.evt, B.link] s t)) ∧
  (∀ (t1 t2 t3 t4 : Int) (p : Nat) (s : State), s.worker = true → s.upPort = some p → s.hears p = true → p < 4 →
      s.dev ≠ 0xFF → s.fld R.LINK_TIME_STATUS.STATE = 2 →
      ((roundDiv ((t2 - t1) - (t4 - t3)) 4).natAbs ≤ 200 ∨ s.link.far < 2) →
      Does (.tsyncRsp t1 t2 t3 t4) s (fun t =>
      t.link.servo.slew = roundDiv ((t2 - t1) - (t4 - t3)) 4 ∧ t.fld R.LINK_TIME_STATUS.STATE = 2 ∧
      t.fld R.LINK_TIME_STATUS.STEPS = s.fld R.LINK_TIME_STATUS.STEPS ∧
      t.link.far = (if 200 < (roundDiv ((t2 - t1) - (t4 - t3)) 4).natAbs then s.link.far + 1 else 0) ∧
      Frame (.htOfs :: .freeCount :: .seq :: .link :: notes) s t ∧ RegsIn [B.evt, B.link] s t)) ∧
  (∀ (t1 t2 t3 t4 : Int) (p : Nat) (s : State), s.worker = true → s.upPort = some p → s.hears p = true → p < 4 →
      s.dev ≠ 0xFF → s.fld R.LINK_TIME_STATUS.STATE = 2 → 200 < (roundDiv ((t2 - t1) - (t4 - t3)) 4).natAbs →
      2 ≤ s.link.far → Does (.tsyncRsp t1 t2 t3 t4) s (fun t =>
      t.fld R.LINK_TIME_STATUS.STATE = 1 ∧ t.link.near = 0 ∧ t.link.far = 0 ∧
      (s.flt.collecting = true → t.fstat.getLsbD 54 = true) ∧
      Frame (.htOfs :: .freeCount :: .seq :: .link :: notes) s t ∧ RegsIn [B.evt, B.link] s t)) ∧
  (∀ (t1 t2 t3 t4 : Int) (f : FrameId) (s : State), s.gets f = true → f.dst ≠ 0xFF#8 → s.worker = true →
      s.upPort.isSome = true → Does (.tsyncRsp t1 t2 t3 t4 (some f)) s (fun t =>
      t.sfld R.LINK_TIME_STATUS.OFS = clampInt (-32767) 32767 (roundDiv ((t2 - t1) - (t4 - t3)) 4) ∧
      t.fld R.LINK_TIME_DLY.DLY = (clampInt 0 65535 (roundDiv ((t2 - t1) + (t4 - t3)) 4)).toNat ∧
      t.deadline T.align = some (t.ns + 20000000) ∧
      Frame (.htOfs :: .freeCount :: .seq :: .link :: notes) s t ∧ RegsIn [B.evt, B.link] s t)) ∧
  (∀ (t1 t2 t3 t4 : Int) (f : FrameId) (s : State), s.gets f = true → f.dst ≠ 0xFF#8 →
      (s.worker = false ∨ s.upPort = none) → Does (.tsyncRsp t1 t2 t3 t4 (some f)) s (fun t =>
      t.link.sent = [] ∧ t.htOfs = s.htOfs ∧ Frame [.link] s t)) ∧
  (∀ (s : State), s.runs T.align = true → s.worker = true → s.upPort.isSome = true →
      Does .alignmentTimeout s (fun t =>
      t.fld R.LINK_TIME_STATUS.STATE = 1 ∧ t.link.near = 0 ∧ t.deadline T.align = some (t.ns + 20000000) ∧
      (s.flt.collecting = true → t.fstat.getLsbD 54 = true) ∧ Frame (.clock :: .seq :: .link :: notes) s t ∧
      RegsIn [B.link] s t)) ∧
  (∀ (s : State), s.runs T.align = false → exec .alignmentTimeout s = .next s) ∧
  (∀ (s : State), s.runs T.align = true → (s.worker = false ∨ s.upPort = none) →
      Does .alignmentTimeout s (fun t =>
      t.deadline T.align = none ∧ Frame [.clock, .timers] s t))

/-- Remote status, events, acknowledgements and resends.  Status frames and RVEC set the vector of their device and
pass on, stale status drops it, events are forwarded and queued, and acknowledged or exhausted frames leave the
list of open frames. Of every general frame: discarded on a port that does not hear, counted where its CRC is
wrong (the sixteenth in a row takes the port down), passed on as it came where it is for another device, passed
on downstream and applied only by a joined device where it is for every device, and acknowledged again but not
applied where it was acknowledged before (R290, R291). The model's choices: which frames of a hop carry which
DST (log entry 203), the default header of a row (log entry 207), the stale vector (log entry 124). Clauses that
a command whose precondition fails changes nothing rest on log entry 4, and those that carry time to a deadline
on log entry 3.  (spec/15_hierarchy.md.) -/
def Obligations.RemoteStatusAndFramesComplete : Prop :=
  (∀ (p : Fin 4) (dev rs chk : Byte) (s : State), s.hears p = true → crc8 [dev, rs] = chk → dev.toNat < 64 →
      dev.toNat ≠ s.dev → Does (.statusFrame p dev rs chk) s (fun t =>
      t.link.vectors.at 0#64 dev.toNat = (if rs.getLsbD 7 then s.link.vectors.at 0#64 dev.toNat ||| (1#64 <<< (rs.toNat % 64)) else s.link.vectors.at 0#64 dev.toNat &&& ~~~(1#64 <<< (rs.toNat % 64))) ∧
      t.bitAt (pairKey R.LINK_PRES_LO.reg R.LINK_PRES_HI.reg) dev.toNat = true ∧
      t.deadline (T.stale dev.toNat) = some (t.ns + 30000000) ∧
      (∀ q, q < 4 → q ≠ p.val → s.portOpen q = true → ⟨q, 0, s.dev, 0xFF, 0, [dev, rs, chk]⟩ ∈ t.link.sent) ∧
      Frame [.timers, .regs, .seq, .link] s t)) ∧
  (∀ (p : Fin 4) (dev rs chk : Byte) (s : State), s.hears p = false → Does (.statusFrame p dev rs chk) s (fun t =>
      Frame [.link] s t ∧ t.link.vectors = s.link.vectors)) ∧
  (∀ (p : Fin 4) (dev rs chk : Byte) (s : State), s.hears p = true → crc8 [dev, rs] ≠ chk →
      (s.port p).bad + 1 < 16 → Does (.statusFrame p dev rs chk) s (fun t =>
      Counts (R.LINK_PORT_STATUS.CRCERR p) s t ∧ (t.port p).bad = (s.port p).bad + 1 ∧
      t.link.vectors = s.link.vectors ∧ Frame (.link :: notes) s t ∧ RegsOnly [R.LINK_PORT_STATUS.reg p] s t)) ∧
  (∀ (s : State), s.runs T.rvec = true → Does .rvecTimer s (fun t =>
      t.deadline T.rvec = some (t.ns + 10000000) ∧ t.link.vectors = s.link.vectors ∧
      (s.sys.pllE ≠ .out → ∀ p, p < 4 → s.portOpen p = true → ∀ d, d < 64 → (s.bitAt (pairKey R.LINK_PRES_LO.reg R.LINK_PRES_HI.reg) d = true ∨ d = s.dev ∧ s.bit R.LINK_ID.JOINED = true) → t.link.sent.any (fun x => decide (x.port = p) && decide (x.typ = 5) && decide (x.src = s.dev) && decide (x.dst ≠ 0xFF) && decide (x.payload = BitVec.ofNat 8 d :: leBytes 8 (s.vectorOf d).toNat)) = true) ∧
      Frame [.clock, .timers, .link, .freeCount] s t)) ∧
  (∀ (s : State), s.runs T.rvec = false → exec .rvecTimer s = .next s) ∧
  (∀ (p : Fin 4) (dev : Byte) (vec newer : BitVec 64) (s : State), s.hears p = true → dev.toNat < 64 →
      dev.toNat ≠ s.dev → Does (.rvec p dev vec newer) s (fun t =>
      t.link.vectors.at 0#64 dev.toNat = (vec &&& ~~~newer) ||| (s.link.vectors.at 0#64 dev.toNat &&& newer) ∧
      t.bitAt (pairKey R.LINK_PRES_LO.reg R.LINK_PRES_HI.reg) dev.toNat = true ∧
      t.deadline (T.stale dev.toNat) = some (t.ns + 30000000) ∧
      Frame [.timers, .regs, .seq, .link, .freeCount] s t)) ∧
  (∀ (p : Fin 4) (dev : Byte) (vec newer : BitVec 64) (f : FrameId) (s : State), s.hears p = true →
      f.crcOk = true → dev.toNat < 64 → dev.toNat ≠ s.dev → Does (.rvec p dev vec newer (some f)) s (fun t =>
      t.link.vectors.at 0#64 dev.toNat = (vec &&& ~~~newer) ||| (s.link.vectors.at 0#64 dev.toNat &&& newer) ∧
      t.bitAt (pairKey R.LINK_PRES_LO.reg R.LINK_PRES_HI.reg) dev.toNat = true ∧
      t.deadline (T.stale dev.toNat) = some (t.ns + 30000000) ∧
      (∀ q, q < 4 → q ≠ p.val → s.portOpen q = true → t.link.sent.any (fun x => decide (x.port = q) && decide (x.typ = 5) && decide (x.src = f.src.toNat) && decide (x.seq = f.seq.toNat) && decide (x.dst ≠ 0xFF) && decide (x.payload = dev :: leBytes 8 vec.toNat)) = true) ∧
      Frame [.timers, .regs, .seq, .link, .freeCount] s t)) ∧
  (∀ (p : Fin 4) (dev : Byte) (vec newer : BitVec 64) (f : FrameId) (s : State), s.hears p = true →
      f.crcOk = false → (s.port p).bad + 1 < 16 → Does (.rvec p dev vec newer (some f)) s (fun t =>
      Counts (R.LINK_PORT_STATUS.CRCERR p) s t ∧ (t.port p).bad = (s.port p).bad + 1 ∧
      t.link.vectors = s.link.vectors ∧ Frame (.link :: notes) s t)) ∧
  (∀ (p : Fin 4) (dev : Byte) (vec newer : BitVec 64) (f : FrameId) (s : State), s.hears p = false →
      Does (.rvec p dev vec newer (some f)) s (fun t =>
      t.link.vectors = s.link.vectors ∧ t.link.sent = [] ∧ Frame [.link] s t)) ∧
  (∀ (dev : Fin 64) (s : State), s.runs (T.stale dev) = true → Does (.remoteStatusStale dev) s (fun t =>
      t.link.vectors.at 0#64 dev = 0#64 ∧ t.bitAt (pairKey R.LINK_PRES_LO.reg R.LINK_PRES_HI.reg) dev = false ∧
      t.deadline (T.stale dev) = none ∧ Frame [.clock, .timers, .regs, .seq, .link] s t)) ∧
  (∀ (dev : Fin 64) (s : State), s.runs (T.stale dev) = false → exec (.remoteStatusStale dev) s = .next s) ∧
  (∀ (v : Nat) (s : State), s.nextForward = some v → s.bit R.EVT_FWD.BUSY = false → Does .eventForward s (fun t =>
      t.fld R.EVT_FWD.EV = v ∧
      (∀ e, e < 16 → (s.fld (R.EVT_ROUTE.ENG v)).testBit e = true → s.engRuns e = true → t.bitAt (R.EIC_PEND.reg e) v = true) ∧
      t.ledg = s.ledg ∧ t.sys = s.sys ∧ Frame [.regs, .timers, .evt, .link] s t ∧ RegsIn [B.evt] s t)) ∧
  (∀ (s : State), (s.nextForward = none ∨ s.bit R.EVT_FWD.BUSY = true) → exec .eventForward s = .next s) ∧
  (∀ (f : FrameId) (ev : Fin 128) (raised : BitVec 64) (s : State), s.takes f = true →
      Does (.eventFrame f ev raised) s (fun t =>
      (s.link.rxev.length < 32 → t.link.rxev = s.link.rxev ++ [(f.src.toNat, ev.val)]) ∧
      (32 ≤ s.link.rxev.length → t.link.rxev = s.link.rxev ∧ t.link.rxDrop = true) ∧ t.ackResult f = some 0#8 ∧
      Frame (.seq :: .link :: notes) s t ∧ RegsIn [B.evt, B.link] s t)) ∧
  (∀ (src : Byte) (seq : BitVec 16) (result : Byte) (data : List Byte) (f : FrameId) (o : OutFrame) (s : State),
      s.gets f = true → f.dst ≠ 0xFF#8 →
      s.link.out.find? (fun o => decide (o.seq = seq.toNat) && o.waits.contains src.toNat) = some o →
      o.waits = [src.toNat] → o.typ = 6 → Does (.ackFrame src seq result data (some f)) s (fun t =>
      (∀ x ∈ t.link.out, x.seq ≠ seq.toNat) ∧ t.deadline (T.resend seq.toNat) = none ∧
      Frame (.rails :: .groups :: .seq :: .link :: notes) s t ∧ RegsIn [B.acrd, B.evt, B.link, B.seq] s t)) ∧
  (∀ (src : Byte) (seq : BitVec 16) (result : Byte) (data : List Byte) (f : FrameId) (o : OutFrame) (s : State),
      s.gets f = true → f.dst ≠ 0xFF#8 →
      s.link.out.find? (fun o => decide (o.seq = seq.toNat) && o.waits.contains src.toNat) = some o →
      o.waits = [src.toNat] → o.typ = 0x0B → o.engine = none → s.bit R.LINK_CFG.AUTOEXP = true →
      result.toNat = 0 → src.toNat < 64 → data.length = 9 →
      Does (.ackFrame src seq result data (some f)) s (fun t =>
      (∀ x ∈ t.link.out, x.seq ≠ seq.toNat) ∧ t.deadline (T.resend seq.toNat) = none ∧
      t.pair (R.LINK_EXP_LO.reg src.toNat) (R.LINK_EXP_HI.reg src.toNat) = BitVec.ofNat 64 (bytesAt data 1 8) ∧
      Frame (.rails :: .groups :: .seq :: .link :: notes) s t ∧ RegsIn [B.acrd, B.evt, B.link, B.seq] s t)) ∧
  (∀ (src : Byte) (seq : BitVec 16) (result : Byte) (data : List Byte) (f : FrameId) (o : OutFrame) (e : Nat) (s : State),
      s.gets f = true → f.dst ≠ 0xFF#8 →
      s.link.out.find? (fun o => decide (o.seq = seq.toNat) && o.waits.contains src.toNat) = some o →
      o.waits = [src.toNat] → o.typ = 0x12 → o.engine = some e → e < 16 →
      Does (.ackFrame src seq result data (some f)) s (fun t =>
      (∀ x ∈ t.link.out, x.seq ≠ seq.toNat) ∧ t.deadline (T.resend seq.toNat) = none ∧
      t.bit (R.LINK_TX_STAT.DONE e) = true ∧ t.bit (R.LINK_TX_STAT.BUSY e) = false ∧
      t.fld (R.LINK_TX_STAT.RESULT e) = 0 ∧ Frame (.rails :: .groups :: .seq :: .link :: notes) s t ∧
      RegsIn [B.acrd, B.evt, B.link, B.seq] s t)) ∧
  (∀ (src : Byte) (seq : BitVec 16) (result : Byte) (data : List Byte) (f : FrameId) (o : OutFrame) (s : State),
      s.gets f = true → f.dst ≠ 0xFF#8 →
      s.link.out.find? (fun o => decide (o.seq = seq.toNat) && o.waits.contains src.toNat) = some o →
      (o.waits.filter (fun d => d ≠ src.toNat)) ≠ [] → o.typ = 6 →
      Does (.ackFrame src seq result data (some f)) s (fun t =>
      t.link.out = s.link.out.map (fun x => if x.seq = o.seq then { x with waits := o.waits.filter (fun d => d ≠ src.toNat) } else x) ∧
      Frame [.link] s t)) ∧
  (∀ (src : Byte) (seq : BitVec 16) (result : Byte) (data : List Byte) (f : FrameId) (s : State),
      s.gets f = true → f.dst ≠ 0xFF#8 →
      s.link.out.find? (fun o => decide (o.seq = seq.toNat) && o.waits.contains src.toNat) = none →
      Does (.ackFrame src seq result data (some f)) s (fun t =>
      Frame [.link] s t ∧ t.link.out = s.link.out ∧ t.link.sent = [])) ∧
  (∀ (src : Byte) (seq : BitVec 16) (result : Byte) (data : List Byte) (o : OutFrame) (p : Nat) (s : State),
      s.portTo src.toNat = some p → p < 4 → s.hears p = true → s.dev < 255 →
      s.link.out.find? (fun o => decide (o.seq = seq.toNat) && o.waits.contains src.toNat) = some o →
      o.waits = [src.toNat] → o.typ = 6 → Does (.ackFrame src seq result data) s (fun t =>
      (∀ x ∈ t.link.out, x.seq ≠ seq.toNat) ∧ t.deadline (T.resend seq.toNat) = none ∧
      Frame (.rails :: .groups :: .seq :: .link :: notes) s t ∧ RegsIn [B.acrd, B.evt, B.link, B.seq] s t)) ∧
  (∀ (seq : BitVec 16) (o : OutFrame) (s : State), s.runs (T.resend seq.toNat) = true →
      s.link.out.find? (fun o => decide (o.seq = seq.toNat)) = some o → 8 ≤ o.sends → o.typ ≠ 0x11 →
      Does (.frameResend seq) s (fun t =>
      (∀ x ∈ t.link.out, x.seq ≠ seq.toNat) ∧ t.deadline (T.resend seq.toNat) = none ∧
      Frame [.clock, .regs, .timers, .rails, .groups, .seq, .evt, .host, .link] s t ∧ RegsIn [B.link, B.seq] s t)) ∧
  (∀ (seq : BitVec 16) (s : State), s.runs (T.resend seq.toNat) = false → exec (.frameResend seq) s = .next s) ∧
  (∀ (seq : BitVec 16) (o : OutFrame) (s : State), s.runs (T.resend seq.toNat) = true →
      s.link.out.find? (fun o => decide (o.seq = seq.toNat)) = some o → o.sends < 8 →
      Does (.frameResend seq) s (fun t =>
      t.deadline (T.resend seq.toNat) = some (t.ns + 2000000) ∧ t.link.out.length = s.link.out.length ∧
      Frame [.clock, .regs, .timers, .rails, .groups, .seq, .evt, .host, .link] s t ∧ RegsIn [B.link, B.seq] s t)) ∧
  (∀ (c : Instr) (f : FrameId) (ty : Nat) (pl : List Byte) (ak : Bool) (s : State), generalFrame c = some (f, ty, pl, ak) → s.hears f.port = false →
    exec c s = .next (s.updLink (fun l => { l with sent := [] }))) ∧
  (∀ (c : Instr) (f : FrameId) (ty : Nat) (pl : List Byte) (ak : Bool) (s : State), generalFrame c = some (f, ty, pl, ak) → s.hears f.port = true →
    f.crcOk = false → (s.port f.port).bad + 1 < 16 →
    Does c s (fun t => Counts (R.LINK_PORT_STATUS.CRCERR f.port) s t ∧ (t.port f.port).bad = (s.port f.port).bad + 1 ∧
      RegsOnly [R.LINK_PORT_STATUS.reg f.port] s t ∧ Frame (.link :: notes) s t)) ∧
  (∀ (c : Instr) (f : FrameId) (ty : Nat) (pl : List Byte) (ak : Bool) (s : State), generalFrame c = some (f, ty, pl, ak) → s.hears f.port = true →
    f.crcOk = false → 15 ≤ (s.port f.port).bad →
    Does c s (fun t => t.fld (R.LINK_PORT_STATUS.STATE f.port) = 0 ∧ t.fld (R.LINK_PORT_STATUS.PEER f.port) = 0xFF ∧
      (s.flt.collecting = true → t.fstat.getLsbD 53 = true))) ∧
  (∀ (c : Instr) (f : FrameId) (ty : Nat) (pl : List Byte) (ak : Bool) (s : State), generalFrame c = some (f, ty, pl, ak) →
    s.hears f.port = true → f.crcOk = true → f.dst ≠ 0xFF#8 → f.dst.toNat ≠ s.dev →
    Does c s (fun t => t.link.sent = ((s.portTo f.dst.toNat).toList.filter (fun p => p ≠ f.port.val)).map
      (fun p => ⟨p, ty, f.src.toNat, f.dst.toNat, f.seq.toNat, pl⟩) ∧ Frame [.link] s t)) ∧
  (∀ (c : Instr) (f : FrameId) (ty : Nat) (pl : List Byte) (ak : Bool) (s : State), generalFrame c = some (f, ty, pl, ak) →
    s.hears f.port = true → f.crcOk = true → f.dst = 0xFF#8 → s.manager = false → s.bit R.LINK_ID.JOINED = false →
    Does c s (fun t => t.link.sent = (s.downPorts.filter (fun p => p ≠ f.port.val)).map
      (fun p => ⟨p, ty, f.src.toNat, 0xFF, f.seq.toNat, pl⟩) ∧ Frame [.link] s t)) ∧
  (∀ (c : Instr) (f : FrameId) (ty : Nat) (pl : List Byte) (ak : Bool) (s : State), generalFrame c = some (f, ty, pl, ak) →
    s.hears f.port = true → f.crcOk = true → f.dst = 0xFF#8 → (s.manager = true ∨ s.bit R.LINK_ID.JOINED = true) →
    Does c s (fun t => ∀ p ∈ s.downPorts, p ≠ f.port.val → ⟨p, ty, f.src.toNat, 0xFF, f.seq.toNat, pl⟩ ∈ t.link.sent)) ∧
  (∀ (c : Instr) (f : FrameId) (ty : Nat) (pl : List Byte) (ak : Bool) (s : State), generalFrame c = some (f, ty, pl, ak) → ak = true →
    s.gets f = true → f.dst ≠ 0xFF#8 → (∀ body, s.ackGiven f = some body →
    Does c s (fun t => t.link.sent = [⟨(s.link.routes.at none f.src.toNat).getD f.port, 7, s.dev, f.src.toNat, s.link.seqNext, body⟩] ∧
      Frame [.link] s t)))

/-- Probes, mismatches, parameters and bank frames.  Probes, their passing on and their answers, MISMATCH, PARAM,
BANK_WR and VERIFY frames complete with the answered set, the acknowledgement results and the bytes of the bank.
The default header of a row is the model's choice (log entry 207). Clauses that a command whose precondition
fails changes nothing rest on log entry 4, and those that carry time to a deadline on log entry 3.
(spec/15_hierarchy.md, spec/01_accord.md.) -/
def Obligations.CoherenceAndBankFramesComplete : Prop :=
  (∀ (s : State), s.runs T.probeTick = true → Does .probeTimer s (fun t =>
      t.link.answered = 0#64 ∧
      (s.sys.pllE ≠ .out → ∀ p, p < 4 → s.fld (R.LINK_PORT_STATUS.STATE p) = 2 → t.link.sent.any (fun x => decide (x.port = p) && decide (x.typ = 8) && decide (x.payload = leBytes 4 (t.reg R.LINK_EPOCH.reg).toNat ++ leBytes 2 (s.fld R.LINK_CFG.PPER))) = true) ∧
      s.clock ≤ t.clock ∧ t.ledg.array = s.ledg.array ∧ Frame (.clock :: .seq :: .link :: notes) s t ∧
      RegsIn [B.evt, B.link] s t)) ∧
  (∀ (s : State), s.runs T.probeTick = false → exec .probeTimer s = .next s) ∧
  (∀ (src : Byte) (epoch : Word) (pper : BitVec 16) (p : Fin 4) (s : State), s.upPort = some p.val →
      s.hears p = true → s.worker = true → src.toNat = s.link.mgr → Does (.probe src epoch pper) s (fun t =>
      t.deadline T.probeMiss = some (t.ns + 3 * min 10000 (max 10 pper.toNat) * 1000000) ∧
      (∀ q, s.portTo src.toNat = some q → t.link.sent.any (fun x => decide (x.port = q) && decide (x.typ = 9) && decide (x.src = s.dev) && decide (x.dst = src.toNat) && decide (x.payload = (leBytes 4 (s.reg R.LINK_EPOCH.reg).toNat ++ leBytes 8 (s.pair R.ACRD_DIGEST_LO.reg R.ACRD_DIGEST_HI.reg).toNat))) = true) ∧
      (∀ q ∈ s.downPorts, q ≠ p.val → ⟨q, 8, src.toNat, 0xFF, 0, leBytes 4 epoch.toNat ++ leBytes 2 pper.toNat⟩ ∈ t.link.sent) ∧
      Frame [.timers, .link] s t)) ∧
  (∀ (src : Byte) (epoch : Word) (pper : BitVec 16) (f : FrameId) (s : State), s.gets f = true →
      s.upPort.isSome = true → s.worker = true → src.toNat = s.link.mgr →
      Does (.probe src epoch pper (some f)) s (fun t =>
      t.deadline T.probeMiss = some (t.ns + 3 * min 10000 (max 10 pper.toNat) * 1000000) ∧
      (∀ q, s.portTo src.toNat = some q → t.link.sent.any (fun x => decide (x.port = q) && decide (x.typ = 9) && decide (x.src = s.dev) && decide (x.dst = src.toNat) && decide (x.payload = (leBytes 4 (s.reg R.LINK_EPOCH.reg).toNat ++ leBytes 8 (s.pair R.ACRD_DIGEST_LO.reg R.ACRD_DIGEST_HI.reg).toNat))) = true) ∧
      (f.dst = 0xFF#8 → ∀ q ∈ s.downPorts, q ≠ f.port.val → ⟨q, 8, f.src.toNat, 0xFF, f.seq.toNat, leBytes 4 epoch.toNat ++ leBytes 2 pper.toNat⟩ ∈ t.link.sent) ∧
      Frame [.timers, .link] s t)) ∧
  (∀ (src : Byte) (epoch : Word) (pper : BitVec 16) (f : FrameId) (s : State), s.gets f = true →
      (s.upPort = none ∨ s.worker = false ∨ src.toNat ≠ s.link.mgr) →
      Does (.probe src epoch pper (some f)) s (fun t =>
      t.timers = s.timers ∧ Frame [.link] s t)) ∧
  (∀ (dev : Fin 64) (epoch : Word) (digest : BitVec 64) (f : FrameId) (s : State), s.gets f = true →
      s.manager = true → s.expected dev = true → Does (.answer dev epoch digest (some f)) s (fun t =>
      t.link.answered.getLsbD dev = true ∧
      t.bitAt (pairKey R.LINK_MISM_LO.reg R.LINK_MISM_HI.reg) dev = !s.answerOk dev epoch digest ∧
      t.link.missed.at 0 dev = 0 ∧
      (s.answerOk dev epoch digest = false → s.bitAt (pairKey R.LINK_MISM_LO.reg R.LINK_MISM_HI.reg) dev = false → s.flt.collecting = true → t.fstat.getLsbD 55 = true) ∧
      Frame (.seq :: .link :: notes) s t ∧ RegsIn [B.evt, B.link] s t)) ∧
  (∀ (dev : Fin 64) (epoch : Word) (digest : BitVec 64) (f : FrameId) (s : State), s.gets f = true →
      (s.manager = false ∨ s.expected dev = false) → Does (.answer dev epoch digest (some f)) s (fun t =>
      Frame [.link] s t ∧ t.link.answered = s.link.answered)) ∧
  (∀ (dev : Fin 64) (epoch : Word) (digest : BitVec 64) (p : Nat) (s : State), s.portTo dev = some p → p < 4 →
      s.hears p = true → s.dev ≠ 0xFF → s.manager = true → s.expected dev = true →
      Does (.answer dev epoch digest) s (fun t =>
      t.link.answered.getLsbD dev = true ∧
      t.bitAt (pairKey R.LINK_MISM_LO.reg R.LINK_MISM_HI.reg) dev = !s.answerOk dev epoch digest ∧
      t.link.missed.at 0 dev = 0 ∧
      (s.answerOk dev epoch digest = false → s.bitAt (pairKey R.LINK_MISM_LO.reg R.LINK_MISM_HI.reg) dev = false → s.flt.collecting = true → t.fstat.getLsbD 55 = true) ∧
      Frame (.seq :: .link :: notes) s t ∧ RegsIn [B.evt, B.link] s t)) ∧
  (∀ (dev : Fin 64) (epoch : Word) (digest : BitVec 64) (p : Nat) (s : State), s.portTo dev = some p → p < 4 →
      s.hears p = true → s.manager = false → s.link.mgr < 64 → s.link.mgr ≠ s.dev →
      Does (.answer dev epoch digest) s (fun t =>
      Frame [.link] s t ∧ t.link.answered = s.link.answered ∧
      t.link.sent = ((s.portTo s.link.mgr).toList.filter (fun q => q ≠ p)).map (fun q => ⟨q, 9, dev.val, s.link.mgr, 0, leBytes 4 epoch.toNat ++ leBytes 8 digest.toNat⟩))) ∧
  (∀ (s : State), s.runs T.probeMiss = true → s.worker = true → s.upPort.isSome = true →
      Does .probeMissing s (fun t =>
      t.deadline T.probeMiss = none ∧ (s.flt.collecting = true → t.fstat.getLsbD 55 = true) ∧ RegsOnly [] s t ∧
      Frame (.clock :: .seq :: .link :: notes) s t)) ∧
  (∀ (s : State), s.runs T.probeMiss = false → exec .probeMissing s = .next s) ∧
  (∀ (f : FrameId) (epoch : Word) (expected : BitVec 64) (s : State), s.obeys f = true →
      Does (.mismatch f epoch expected) s (fun t =>
      t.ackResult f = some 0#8 ∧ (s.flt.collecting = true → t.fstat.getLsbD 55 = true) ∧ RegsOnly [] s t ∧
      Frame (.seq :: .link :: notes) s t)) ∧
  (∀ (f : FrameId) (id : BitVec 12) (value : Word) (persist : Bool) (s : State), s.obeys f = true →
      Does (.paramFrame f id value persist) s (fun t =>
      t.ackResult f = some (if t.fld (R.ACRD_PARAM_STAT.RESULT (reqCode .link)) = 0 then 0#8 else 1#8) ∧
      t.bit (R.ACRD_PARAM_STAT.DONE (reqCode .link)) = true)) ∧
  (∀ (f : FrameId) (off : Word) (data : List Byte) (b : Bool) (s : State), s.obeys f = true →
      s.commandBank false = some b → s.bankOpen .link b = true → off.toNat + data.length ≤ imageLen →
      Does (.bankWr f off data) s (fun t =>
      t.ackResult f = some 0#8 ∧ t.bankRead b off.toNat data.length = data ∧
      (∀ o, o < off.toNat ∨ off.toNat + data.length ≤ o → t.bankRead b o 1 = s.bankRead b o 1) ∧
      (∀ o, t.bankRead (!b) o 1 = s.bankRead (!b) o 1) ∧ Frame (.acrd :: .seq :: .link :: notes) s t ∧
      RegsIn [B.acrd, B.evt, B.link] s t)) ∧
  (∀ (f : FrameId) (off : Word) (data : List Byte) (s : State), s.obeys f = true → s.commandBank false = none →
      Does (.bankWr f off data) s (fun t =>
      t.ackResult f = some 1#8 ∧ Frame [.link] s t)) ∧
  (∀ (f : FrameId) (s : State), s.obeys f = true → (s.commandBank false).isSome = true →
      Does (.verifyFrame f) s (fun t =>
      t.link.verifyAck = some (f.port.val, f.src.toNat, f.seq.toNat) ∧
      Frame (.acrd :: .seq :: .link :: notes) s t ∧ RegsIn [B.evt, B.link] s t)) ∧
  (∀ (f : FrameId) (s : State), s.obeys f = true → s.commandBank false = none → Does (.verifyFrame f) s (fun t =>
      t.ackResult f = some 1#8 ∧ Frame [.link] s t))

/-- SWITCH_AT, GO, CANCEL and their time limits.  SWITCH_AT, GO and CANCEL are taken or refused, and the self-cancel
at T - 1 ms of hierarchy time and the GO lead decide an open switch, with the states and causes of Table 15.3.
Clauses that a command whose precondition fails changes nothing rest on log entry 4, and those that carry time
to a deadline on log entry 3.  (spec/15_hierarchy.md.) -/
def Obligations.ScheduledSwitchFramesComplete : Prop :=
  (∀ (f : FrameId) (tm : BitVec 64) (epoch : Word) (s : State), s.obeys f = true → s.switchCause tm = 0 →
      Does (.switchAt f tm epoch) s (fun t =>
      t.ackResult f = some 0#8 ∧ t.bit R.ACRD_STATUS.SWITCH_PEND = true ∧ t.fld R.LINK_SW_STATUS.STATE = 1 ∧
      t.link.swT = tm ∧ t.link.swEpoch = epoch ∧ t.link.swGo = false ∧
      t.deadline T.selfCancel = some (t.ns + t.untilTime ((tm.toNat : Int) - 1000000)) ∧
      Frame (.loops :: .seq :: .link :: notes) s t ∧ RegsIn [B.acrd, B.evt, B.link, B.loop] s t)) ∧
  (∀ (f : FrameId) (tm : BitVec 64) (epoch : Word) (s : State), s.obeys f = true → s.switchCause tm ≠ 0 →
      Does (.switchAt f tm epoch) s (fun t =>
      t.ackResult f = some 1#8 ∧ Frame [.link] s t ∧ t.link.swT = s.link.swT)) ∧
  (∀ (f : FrameId) (epoch : Word) (s : State), s.obeys f = true → s.switchOpen = true → epoch = s.link.swEpoch →
      Does (.go f epoch) s (fun t =>
      t.ackResult f = some 0#8 ∧ t.link.swGo = true ∧ t.fld R.LINK_SW_STATUS.STATE = 2 ∧
      t.deadline T.selfCancel = none ∧ Frame (.seq :: .link :: notes) s t ∧ RegsIn [B.evt, B.link] s t)) ∧
  (∀ (f : FrameId) (epoch : Word) (s : State), s.obeys f = true → s.switchOpen = true → epoch = s.link.swEpoch →
      Does (.cancel f epoch) s (fun t =>
      t.ackResult f = some 0#8 ∧ t.bit R.ACRD_STATUS.SWITCH_PEND = false ∧ t.fld R.LINK_SW_STATUS.STATE = 5 ∧
      t.fld R.LINK_SW_STATUS.CAUSE = 8 ∧ t.link.swGo = false ∧ Frame (.seq :: .link :: notes) s t ∧
      RegsIn [B.acrd, B.evt, B.link] s t)) ∧
  (∀ (f : FrameId) (epoch : Word) (s : State), s.obeys f = true →
      (s.switchOpen = false ∨ epoch ≠ s.link.swEpoch) → Does (.go f epoch) s (fun t =>
      t.ackResult f = some 0#8 ∧ Frame [.link] s t ∧ t.link.swGo = s.link.swGo)) ∧
  (∀ (f : FrameId) (epoch : Word) (s : State), s.obeys f = true →
      (s.switchOpen = false ∨ epoch ≠ s.link.swEpoch) → Does (.cancel f epoch) s (fun t =>
      t.ackResult f = some 0#8 ∧ Frame [.link] s t ∧ t.link.swGo = s.link.swGo)) ∧
  (∀ (s : State), s.runs T.selfCancel = true → s.switchOpen = true → s.link.swGo = false →
      Does .switchSelfCancel s (fun t =>
      t.bit R.ACRD_STATUS.SWITCH_PEND = false ∧ t.fld R.LINK_SW_STATUS.STATE = 5 ∧
      t.fld R.LINK_SW_STATUS.CAUSE = 7 ∧
      Frame [.clock, .regs, .timers, .trace, .tracePost, .evt, .host, .link] s t ∧ RegsIn [B.acrd, B.link] s t)) ∧
  (∀ (s : State), s.runs T.selfCancel = false → exec .switchSelfCancel s = .next s) ∧
  (∀ (s : State), s.runs T.goLead = true → s.switchOpen = true → s.link.swGo = false → s.link.swWait ≠ [] →
      Does .goLeadReached s (fun t =>
      t.bit R.ACRD_STATUS.SWITCH_PEND = false ∧ t.fld R.LINK_SW_STATUS.STATE = 5 ∧
      t.fld R.LINK_SW_STATUS.CAUSE = 8 ∧
      Frame [.clock, .regs, .timers, .trace, .tracePost, .evt, .host, .link] s t ∧ RegsIn [B.acrd, B.link] s t)) ∧
  (∀ (s : State), s.runs T.goLead = false → exec .goLeadReached s = .next s) ∧
  (∀ (d : Nat) (s : State), s.deadline T.goLead = some d → d ≤ s.ns → s.switchOpen = true → s.link.swGo = false →
      s.link.swWait = [] → (s.goLeadNs : Int) ≤ (s.link.swT.toNat : Int) - s.now.toNat →
      Does .goLeadReached s (fun t =>
      t.link.swGo = true ∧ t.fld R.LINK_SW_STATUS.STATE = 2 ∧ t.bit R.ACRD_STATUS.SWITCH_PEND = true ∧
      Frame [.clock, .regs, .timers, .trace, .tracePost, .evt, .host, .link] s t ∧ RegsIn [B.acrd, B.link] s t))

/-- Commands, remote access, cascade and orphan policy.  COMMAND frames, remote reads and writes, RDATA, PDONE, the
cascade and the orphan policy complete with the acknowledgement result, the life phase and the registers of the
rules. The model's choices: the coding of PDONE (log entry 156), where the payload of RDATA lies (log entry
157), the default header of a row (log entry 207). Clauses that a command whose precondition fails changes
nothing rest on log entry 4, and those that carry time to a deadline on log entry 3.  (spec/15_hierarchy.md,
spec/03_supplies_park.md.) -/
def Obligations.HierarchyCommandsComplete : Prop :=
  (∀ (f : FrameId) (s : State), s.obeys f = true → s.powerOk false = true → Does (.linkCmdPark f) s (fun t =>
      t.ackResult f = some 0#8 ∧ t.sys.phase = .powerDown ∧ t.link.pdoneOwed = some f.src.toNat ∧
      t.bit R.SYS_STATUS.DEST_FLACON = false)) ∧
  (∀ (f : FrameId) (s : State), s.obeys f = true → s.powerOk false = false → Does (.linkCmdPark f) s (fun t =>
      t.ackResult f = some 1#8 ∧ t.sys = s.sys ∧ t.bit R.SYS_STATUS.PWR_REFUSED = true ∧
      Frame [.regs, .link] s t)) ∧
  (∀ (f : FrameId) (vinAbove6 : Bool) (s : State), s.obeys f = true → s.powerOk vinAbove6 = true →
      Does (.linkCmdFlacon f vinAbove6) s (fun t =>
      t.ackResult f = some 0#8 ∧ t.sys.phase = .powerDown ∧ t.link.pdoneOwed = some f.src.toNat ∧
      t.bit R.SYS_STATUS.DEST_FLACON = true)) ∧
  (∀ (f : FrameId) (vinAbove6 : Bool) (s : State), s.obeys f = true → s.powerOk vinAbove6 = false →
      Does (.linkCmdFlacon f vinAbove6) s (fun t =>
      t.ackResult f = some 1#8 ∧ t.sys = s.sys ∧ t.bit R.SYS_STATUS.PWR_REFUSED = true ∧
      Frame [.regs, .link] s t)) ∧
  (∀ (f : FrameId) (s : State), s.obeys f = true → Does (.linkCmdRestart f) s (fun t =>
      t.ackResult f = some (if s.sys.phase = .safe then 0#8 else 1#8) ∧
      (s.sys.phase = .safe → t.ledg.drain = .restart) ∧ (s.sys.phase ≠ .safe → Frame [.link] s t))) ∧
  (∀ (f : FrameId) (s : State), s.obeys f = true → Does (.linkCmdSelectStaged f) s (fun t =>
      t.ackResult f = some (if s.bit R.ACRD_STATUS.STAGED_OK then 0#8 else 1#8) ∧
      (s.bit R.ACRD_STATUS.STAGED_OK = false → Frame [.link] s t))) ∧
  (∀ (f : FrameId) (addr : Word) (len : Nat) (s : State), s.obeys f = true →
      Does (.rdFrame f addr len) s (fun t =>
      t.ackResult f = some (if s.bit R.LINK_CFG.RMR && linkPlace addr.toNat len false then 0#8 else 1#8) ∧
      (s.bit R.LINK_CFG.RMR = false → Frame [.link] s t))) ∧
  (∀ (f : FrameId) (addr : Word) (data : List Byte) (s : State), s.obeys f = true →
      (s.bit R.LINK_CFG.RMW = false ∨ linkPlace addr.toNat data.length true = false) →
      Does (.wrFrame f addr data) s (fun t =>
      t.ackResult f = some 1#8 ∧ Frame [.link] s t)) ∧
  (∀ (f : FrameId) (addr : Word) (data : List Byte) (s : State), s.obeys f = true → s.bit R.LINK_CFG.RMW = true →
      linkPlace addr.toNat data.length true = true → inBlock addr.toNat = true →
      Does (.wrFrame f addr data) s (fun t =>
      t.ackResult f = some 0#8)) ∧
  (∀ (f : FrameId) (addr : Word) (data : List Byte) (x : RegRow) (s : State), s.obeys f = true →
      s.bit R.LINK_CFG.RMW = true → addr.toNat % 4 = 0 → data.length = 4 → 0x40020000 ≤ addr.toNat →
      addr.toNat < 0x40030000 → regRowOf addr.toNat = some x → Does (.wrFrame f addr data) s (fun t =>
      t.ackResult f = some 0#8 ∧
      t.reg addr.toNat = ((s.reg addr.toNat &&& ~~~(BitVec.ofNat 32 x.rw ||| (if s.rwlOpen then BitVec.ofNat 32 x.rwl else 0#32))) ||| (BitVec.ofNat 32 (bytesLE data) &&& (BitVec.ofNat 32 x.rw ||| (if s.rwlOpen then BitVec.ofNat 32 x.rwl else 0#32)))) &&& ~~~(BitVec.ofNat 32 (bytesLE data) &&& BitVec.ofNat 32 x.w1c) ∧
      (∀ k, k ≠ addr.toNat → t.reg k = s.reg k))) ∧
  (∀ (src : Byte) (addr : Word) (data : List Byte) (f : FrameId) (e : Nat) (s : State), s.gets f = true →
      s.link.rdWait.at none src.toNat = some e → Does (.rdata src addr data (some f)) s (fun t =>
      t.link.rdWait.at none src.toNat = none ∧
      (∀ i, i < (data.length + 7) / 4 → i < 65 → t.reg (R.LINK_TX_BUF.reg e i) = BitVec.ofNat 32 (bytesAt (leBytes 4 addr.toNat ++ data) (4 * i) 4)) ∧
      Frame [.regs, .link] s t)) ∧
  (∀ (src : Byte) (addr : Word) (data : List Byte) (f : FrameId) (s : State), s.gets f = true →
      s.link.rdWait.at none src.toNat = none → Does (.rdata src addr data (some f)) s (fun t =>
      t.regs = s.regs ∧ Frame [.link] s t)) ∧
  (∀ (src : Byte) (addr : Word) (data : List Byte) (p e : Nat) (s : State), s.portTo src.toNat = some p → p < 4 →
      s.hears p = true → s.manager = true → s.dev ≠ 0xFF → s.link.rdWait.at none src.toNat = some e →
      Does (.rdata src addr data) s (fun t =>
      t.link.rdWait.at none src.toNat = none ∧
      (∀ i, i < (data.length + 7) / 4 → i < 65 → t.reg (R.LINK_TX_BUF.reg e i) = BitVec.ofNat 32 (bytesAt (leBytes 4 addr.toNat ++ data) (4 * i) 4)) ∧
      Frame [.regs, .link] s t)) ∧
  (∀ (f : FrameId) (dest : Byte) (s : State), s.takes f = true → Does (.pdone f dest) s (fun t =>
      t.ackResult f = some 0#8 ∧ (s.link.cascOn = false → Frame [.link] s t))) ∧
  (∀ (d : Nat) (r : List Nat) (s : State), s.runs T.casc = true → s.link.cascOn = true → s.link.casc = d :: r →
      Does .cascadeWaitExpiry s (fun t =>
      t.link.casc = r ∧ t.link.cascWait = [d] ∧
      t.deadline T.casc = some (t.ns + max 1 (s.fld R.LINK_PD.TWAIT) * 1000000) ∧
      Frame [.clock, .regs, .timers, .rails, .groups, .seq, .link] s t ∧ RegsIn [B.seq] s t)) ∧
  (∀ (s : State), s.runs T.casc = false → exec .cascadeWaitExpiry s = .next s) ∧
  (∀ (s : State), s.runs T.orphan = true → s.worker = true → s.upPort = none → Does .orphanDetect s (fun t =>
      t.bit R.LINK_ID.ORPHAN = true ∧ t.deadline T.orphan = none ∧
      (s.fld R.LINK_ORPH.POL = 2 → t.deadline T.orphPark = some (t.ns + max 1 (s.fld R.LINK_ORPH.TPD) * 1000000000)) ∧
      Frame [.clock, .regs, .timers, .rails, .groups, .evt, .link] s t ∧ RegsIn [B.evt, B.link, B.seq] s t)) ∧
  (∀ (s : State), s.runs T.orphan = false → exec .orphanDetect s = .next s) ∧
  (∀ (s : State), s.runs T.orphPark = true → s.bit R.LINK_ID.ORPHAN = true → s.powerOk false = true →
      Does .orphanPark s (fun t =>
      t.sys.phase = .powerDown ∧ t.bit R.SYS_STATUS.DEST_FLACON = false)) ∧
  (∀ (s : State), s.runs T.orphPark = false → exec .orphanPark s = .next s)

/-- Frames that an engine sends.  Each LINK_TX command of a running engine ends with RESULT 1 on a WORKER, with
RESULT 2 without a route, and otherwise queues one frame of its type with the engine's payload and the next SEQ,
to one device or, with DST 0xFF, to every joined device over every downstream port, each of which is then
awaited. Clauses that a command whose precondition fails changes nothing rest on log entry 4.
(spec/15_hierarchy.md.) -/
def Obligations.EngineFramesComplete : Prop :=
  (∀ (e : Fin 16) (dst : Byte) (len : BitVec 9) (s : State), s.engRuns e = true → s.manager = false →
      Does (.linkTxParam e dst len) s (fun t =>
      t.bit (R.LINK_TX_STAT.DONE e) = true ∧ t.fld (R.LINK_TX_STAT.RESULT e) = 1 ∧
      t.bit (R.LINK_TX_STAT.BUSY e) = false ∧ Frame [.regs, .link] s t ∧ RegsOnly [R.LINK_TX_STAT.reg e] s t)) ∧
  (∀ (e : Fin 16) (dst : Byte) (len : BitVec 9) (s : State), s.engRuns e = false →
      exec (.linkTxParam e dst len) s = .next s) ∧
  (∀ (e : Fin 16) (dst : Byte) (len : BitVec 9) (s : State), s.engRuns e = true → s.manager = true →
      dst.toNat ≠ 0xFF → (dst.toNat = s.dev ∨ s.portTo dst.toNat = none) →
      Does (.linkTxParam e dst len) s (fun t =>
      t.bit (R.LINK_TX_STAT.DONE e) = true ∧ t.fld (R.LINK_TX_STAT.RESULT e) = 2 ∧ Frame [.regs, .link] s t ∧
      RegsOnly [R.LINK_TX_STAT.reg e] s t)) ∧
  (∀ (e : Fin 16) (dst : Byte) (len : BitVec 9) (s : State), s.engRuns e = true → s.manager = true →
      dst.toNat ≠ 0xFF → dst.toNat ≠ s.dev → (s.portTo dst.toNat).isSome = true → s.link.seqNext < 65536 →
      Does (.linkTxParam e dst len) s (fun t =>
      t.bit (R.LINK_TX_STAT.BUSY e) = true ∧ t.bit (R.LINK_TX_STAT.DONE e) = false ∧
      t.fld (R.LINK_TX_STAT.SEQ e) = s.link.seqNext ∧ t.link.out.length = s.link.out.length + 1 ∧
      t.link.seqNext = (s.link.seqNext + 1) % 65536 ∧
      ((t.link.out.getLast?.map (fun o => (o.typ, o.dst, o.payload))) = some (0x0B, dst.toNat, s.txPayload e (min 260 len.toNat))) ∧
      Frame (.seq :: .link :: notes) s t ∧ RegsIn [B.evt, B.link] s t)) ∧
  (∀ (e : Fin 16) (dst : Byte) (len : BitVec 9) (s : State), s.engRuns e = true → s.manager = true →
      dst.toNat = 0xFF → s.link.seqNext < 65536 → Does (.linkTxParam e dst len) s (fun t =>
      t.bit (R.LINK_TX_STAT.BUSY e) = true ∧ t.bit (R.LINK_TX_STAT.DONE e) = false ∧
      t.fld (R.LINK_TX_STAT.SEQ e) = s.link.seqNext ∧ t.link.out.length = s.link.out.length + 1 ∧
      t.link.seqNext = (s.link.seqNext + 1) % 65536 ∧
      ((t.link.out.getLast?.map (fun o => (o.typ, o.dst, o.payload, o.waits))) = some (0x0B, 0xFF, s.txPayload e (min 260 len.toNat), s.joinedDevs)) ∧
      (s.link.out = [] → s.sys.pllE ≠ .out → t.link.sent = s.downPorts.map (fun p => ⟨p, 0x0B, s.dev, 0xFF, s.link.seqNext, s.txPayload e (min 260 len.toNat)⟩)) ∧
      Frame (.seq :: .link :: notes) s t ∧ RegsIn [B.evt, B.link] s t)) ∧
  (∀ (e : Fin 16) (dst : Byte) (len : BitVec 9) (s : State), s.engRuns e = true → s.manager = false →
      Does (.linkTxBankWr e dst len) s (fun t =>
      t.bit (R.LINK_TX_STAT.DONE e) = true ∧ t.fld (R.LINK_TX_STAT.RESULT e) = 1 ∧
      t.bit (R.LINK_TX_STAT.BUSY e) = false ∧ Frame [.regs, .link] s t ∧ RegsOnly [R.LINK_TX_STAT.reg e] s t)) ∧
  (∀ (e : Fin 16) (dst : Byte) (len : BitVec 9) (s : State), s.engRuns e = false →
      exec (.linkTxBankWr e dst len) s = .next s) ∧
  (∀ (e : Fin 16) (dst : Byte) (len : BitVec 9) (s : State), s.engRuns e = true → s.manager = true →
      dst.toNat ≠ 0xFF → (dst.toNat = s.dev ∨ s.portTo dst.toNat = none) →
      Does (.linkTxBankWr e dst len) s (fun t =>
      t.bit (R.LINK_TX_STAT.DONE e) = true ∧ t.fld (R.LINK_TX_STAT.RESULT e) = 2 ∧ Frame [.regs, .link] s t ∧
      RegsOnly [R.LINK_TX_STAT.reg e] s t)) ∧
  (∀ (e : Fin 16) (dst : Byte) (len : BitVec 9) (s : State), s.engRuns e = true → s.manager = true →
      dst.toNat ≠ 0xFF → dst.toNat ≠ s.dev → (s.portTo dst.toNat).isSome = true → s.link.seqNext < 65536 →
      Does (.linkTxBankWr e dst len) s (fun t =>
      t.bit (R.LINK_TX_STAT.BUSY e) = true ∧ t.bit (R.LINK_TX_STAT.DONE e) = false ∧
      t.fld (R.LINK_TX_STAT.SEQ e) = s.link.seqNext ∧ t.link.out.length = s.link.out.length + 1 ∧
      t.link.seqNext = (s.link.seqNext + 1) % 65536 ∧
      ((t.link.out.getLast?.map (fun o => (o.typ, o.dst, o.payload))) = some (0x0C, dst.toNat, s.txPayload e (min 260 len.toNat))) ∧
      Frame (.seq :: .link :: notes) s t ∧ RegsIn [B.evt, B.link] s t)) ∧
  (∀ (e : Fin 16) (dst : Byte) (len : BitVec 9) (s : State), s.engRuns e = true → s.manager = true →
      dst.toNat = 0xFF → s.link.seqNext < 65536 → Does (.linkTxBankWr e dst len) s (fun t =>
      t.bit (R.LINK_TX_STAT.BUSY e) = true ∧ t.bit (R.LINK_TX_STAT.DONE e) = false ∧
      t.fld (R.LINK_TX_STAT.SEQ e) = s.link.seqNext ∧ t.link.out.length = s.link.out.length + 1 ∧
      t.link.seqNext = (s.link.seqNext + 1) % 65536 ∧
      ((t.link.out.getLast?.map (fun o => (o.typ, o.dst, o.payload, o.waits))) = some (0x0C, 0xFF, s.txPayload e (min 260 len.toNat), s.joinedDevs)) ∧
      (s.link.out = [] → s.sys.pllE ≠ .out → t.link.sent = s.downPorts.map (fun p => ⟨p, 0x0C, s.dev, 0xFF, s.link.seqNext, s.txPayload e (min 260 len.toNat)⟩)) ∧
      Frame (.seq :: .link :: notes) s t ∧ RegsIn [B.evt, B.link] s t)) ∧
  (∀ (e : Fin 16) (dst : Byte) (len : BitVec 9) (s : State), s.engRuns e = true → s.manager = false →
      Does (.linkTxVerify e dst len) s (fun t =>
      t.bit (R.LINK_TX_STAT.DONE e) = true ∧ t.fld (R.LINK_TX_STAT.RESULT e) = 1 ∧
      t.bit (R.LINK_TX_STAT.BUSY e) = false ∧ Frame [.regs, .link] s t ∧ RegsOnly [R.LINK_TX_STAT.reg e] s t)) ∧
  (∀ (e : Fin 16) (dst : Byte) (len : BitVec 9) (s : State), s.engRuns e = false →
      exec (.linkTxVerify e dst len) s = .next s) ∧
  (∀ (e : Fin 16) (dst : Byte) (len : BitVec 9) (s : State), s.engRuns e = true → s.manager = true →
      dst.toNat ≠ 0xFF → (dst.toNat = s.dev ∨ s.portTo dst.toNat = none) →
      Does (.linkTxVerify e dst len) s (fun t =>
      t.bit (R.LINK_TX_STAT.DONE e) = true ∧ t.fld (R.LINK_TX_STAT.RESULT e) = 2 ∧ Frame [.regs, .link] s t ∧
      RegsOnly [R.LINK_TX_STAT.reg e] s t)) ∧
  (∀ (e : Fin 16) (dst : Byte) (len : BitVec 9) (s : State), s.engRuns e = true → s.manager = true →
      dst.toNat ≠ 0xFF → dst.toNat ≠ s.dev → (s.portTo dst.toNat).isSome = true → s.link.seqNext < 65536 →
      Does (.linkTxVerify e dst len) s (fun t =>
      t.bit (R.LINK_TX_STAT.BUSY e) = true ∧ t.bit (R.LINK_TX_STAT.DONE e) = false ∧
      t.fld (R.LINK_TX_STAT.SEQ e) = s.link.seqNext ∧ t.link.out.length = s.link.out.length + 1 ∧
      t.link.seqNext = (s.link.seqNext + 1) % 65536 ∧
      ((t.link.out.getLast?.map (fun o => (o.typ, o.dst, o.payload))) = some (0x0D, dst.toNat, s.txPayload e (min 260 len.toNat))) ∧
      Frame (.seq :: .link :: notes) s t ∧ RegsIn [B.evt, B.link] s t)) ∧
  (∀ (e : Fin 16) (dst : Byte) (len : BitVec 9) (s : State), s.engRuns e = true → s.manager = true →
      dst.toNat = 0xFF → s.link.seqNext < 65536 → Does (.linkTxVerify e dst len) s (fun t =>
      t.bit (R.LINK_TX_STAT.BUSY e) = true ∧ t.bit (R.LINK_TX_STAT.DONE e) = false ∧
      t.fld (R.LINK_TX_STAT.SEQ e) = s.link.seqNext ∧ t.link.out.length = s.link.out.length + 1 ∧
      t.link.seqNext = (s.link.seqNext + 1) % 65536 ∧
      ((t.link.out.getLast?.map (fun o => (o.typ, o.dst, o.payload, o.waits))) = some (0x0D, 0xFF, s.txPayload e (min 260 len.toNat), s.joinedDevs)) ∧
      (s.link.out = [] → s.sys.pllE ≠ .out → t.link.sent = s.downPorts.map (fun p => ⟨p, 0x0D, s.dev, 0xFF, s.link.seqNext, s.txPayload e (min 260 len.toNat)⟩)) ∧
      Frame (.seq :: .link :: notes) s t ∧ RegsIn [B.evt, B.link] s t)) ∧
  (∀ (e : Fin 16) (dst : Byte) (len : BitVec 9) (s : State), s.engRuns e = true → s.manager = false →
      Does (.linkTxCommand e dst len) s (fun t =>
      t.bit (R.LINK_TX_STAT.DONE e) = true ∧ t.fld (R.LINK_TX_STAT.RESULT e) = 1 ∧
      t.bit (R.LINK_TX_STAT.BUSY e) = false ∧ Frame [.regs, .link] s t ∧ RegsOnly [R.LINK_TX_STAT.reg e] s t)) ∧
  (∀ (e : Fin 16) (dst : Byte) (len : BitVec 9) (s : State), s.engRuns e = false →
      exec (.linkTxCommand e dst len) s = .next s) ∧
  (∀ (e : Fin 16) (dst : Byte) (len : BitVec 9) (s : State), s.engRuns e = true → s.manager = true →
      dst.toNat ≠ 0xFF → (dst.toNat = s.dev ∨ s.portTo dst.toNat = none) →
      Does (.linkTxCommand e dst len) s (fun t =>
      t.bit (R.LINK_TX_STAT.DONE e) = true ∧ t.fld (R.LINK_TX_STAT.RESULT e) = 2 ∧ Frame [.regs, .link] s t ∧
      RegsOnly [R.LINK_TX_STAT.reg e] s t)) ∧
  (∀ (e : Fin 16) (dst : Byte) (len : BitVec 9) (s : State), s.engRuns e = true → s.manager = true →
      dst.toNat ≠ 0xFF → dst.toNat ≠ s.dev → (s.portTo dst.toNat).isSome = true → s.link.seqNext < 65536 →
      Does (.linkTxCommand e dst len) s (fun t =>
      t.bit (R.LINK_TX_STAT.BUSY e) = true ∧ t.bit (R.LINK_TX_STAT.DONE e) = false ∧
      t.fld (R.LINK_TX_STAT.SEQ e) = s.link.seqNext ∧ t.link.out.length = s.link.out.length + 1 ∧
      t.link.seqNext = (s.link.seqNext + 1) % 65536 ∧
      ((t.link.out.getLast?.map (fun o => (o.typ, o.dst, o.payload))) = some (0x11, dst.toNat, s.txPayload e (min 260 len.toNat))) ∧
      Frame (.seq :: .link :: notes) s t ∧ RegsIn [B.evt, B.link] s t)) ∧
  (∀ (e : Fin 16) (dst : Byte) (len : BitVec 9) (s : State), s.engRuns e = true → s.manager = true →
      dst.toNat = 0xFF → s.link.seqNext < 65536 → Does (.linkTxCommand e dst len) s (fun t =>
      t.bit (R.LINK_TX_STAT.BUSY e) = true ∧ t.bit (R.LINK_TX_STAT.DONE e) = false ∧
      t.fld (R.LINK_TX_STAT.SEQ e) = s.link.seqNext ∧ t.link.out.length = s.link.out.length + 1 ∧
      t.link.seqNext = (s.link.seqNext + 1) % 65536 ∧
      ((t.link.out.getLast?.map (fun o => (o.typ, o.dst, o.payload, o.waits))) = some (0x11, 0xFF, s.txPayload e (min 260 len.toNat), s.joinedDevs)) ∧
      (s.link.out = [] → s.sys.pllE ≠ .out → t.link.sent = s.downPorts.map (fun p => ⟨p, 0x11, s.dev, 0xFF, s.link.seqNext, s.txPayload e (min 260 len.toNat)⟩)) ∧
      Frame (.seq :: .link :: notes) s t ∧ RegsIn [B.evt, B.link] s t)) ∧
  (∀ (e : Fin 16) (dst : Byte) (len : BitVec 9) (s : State), s.engRuns e = true → s.manager = false →
      Does (.linkTxRd e dst len) s (fun t =>
      t.bit (R.LINK_TX_STAT.DONE e) = true ∧ t.fld (R.LINK_TX_STAT.RESULT e) = 1 ∧
      t.bit (R.LINK_TX_STAT.BUSY e) = false ∧ Frame [.regs, .link] s t ∧ RegsOnly [R.LINK_TX_STAT.reg e] s t)) ∧
  (∀ (e : Fin 16) (dst : Byte) (len : BitVec 9) (s : State), s.engRuns e = false →
      exec (.linkTxRd e dst len) s = .next s) ∧
  (∀ (e : Fin 16) (dst : Byte) (len : BitVec 9) (s : State), s.engRuns e = true → s.manager = true →
      dst.toNat ≠ 0xFF → (dst.toNat = s.dev ∨ s.portTo dst.toNat = none) →
      Does (.linkTxRd e dst len) s (fun t =>
      t.bit (R.LINK_TX_STAT.DONE e) = true ∧ t.fld (R.LINK_TX_STAT.RESULT e) = 2 ∧ Frame [.regs, .link] s t ∧
      RegsOnly [R.LINK_TX_STAT.reg e] s t)) ∧
  (∀ (e : Fin 16) (dst : Byte) (len : BitVec 9) (s : State), s.engRuns e = true → s.manager = true →
      dst.toNat ≠ 0xFF → dst.toNat ≠ s.dev → (s.portTo dst.toNat).isSome = true → s.link.seqNext < 65536 →
      Does (.linkTxRd e dst len) s (fun t =>
      t.bit (R.LINK_TX_STAT.BUSY e) = true ∧ t.bit (R.LINK_TX_STAT.DONE e) = false ∧
      t.fld (R.LINK_TX_STAT.SEQ e) = s.link.seqNext ∧ t.link.out.length = s.link.out.length + 1 ∧
      t.link.seqNext = (s.link.seqNext + 1) % 65536 ∧
      ((t.link.out.getLast?.map (fun o => (o.typ, o.dst, o.payload))) = some (0x12, dst.toNat, s.txPayload e (min 260 len.toNat))) ∧
      Frame (.seq :: .link :: notes) s t ∧ RegsIn [B.evt, B.link] s t)) ∧
  (∀ (e : Fin 16) (dst : Byte) (len : BitVec 9) (s : State), s.engRuns e = true → s.manager = true →
      dst.toNat = 0xFF → s.link.seqNext < 65536 → Does (.linkTxRd e dst len) s (fun t =>
      t.bit (R.LINK_TX_STAT.BUSY e) = true ∧ t.bit (R.LINK_TX_STAT.DONE e) = false ∧
      t.fld (R.LINK_TX_STAT.SEQ e) = s.link.seqNext ∧ t.link.out.length = s.link.out.length + 1 ∧
      t.link.seqNext = (s.link.seqNext + 1) % 65536 ∧
      ((t.link.out.getLast?.map (fun o => (o.typ, o.dst, o.payload, o.waits))) = some (0x12, 0xFF, s.txPayload e (min 260 len.toNat), s.joinedDevs)) ∧
      (s.link.out = [] → s.sys.pllE ≠ .out → t.link.sent = s.downPorts.map (fun p => ⟨p, 0x12, s.dev, 0xFF, s.link.seqNext, s.txPayload e (min 260 len.toNat)⟩)) ∧
      Frame (.seq :: .link :: notes) s t ∧ RegsIn [B.evt, B.link] s t)) ∧
  (∀ (e : Fin 16) (dst : Byte) (len : BitVec 9) (s : State), s.engRuns e = true → s.manager = false →
      Does (.linkTxWr e dst len) s (fun t =>
      t.bit (R.LINK_TX_STAT.DONE e) = true ∧ t.fld (R.LINK_TX_STAT.RESULT e) = 1 ∧
      t.bit (R.LINK_TX_STAT.BUSY e) = false ∧ Frame [.regs, .link] s t ∧ RegsOnly [R.LINK_TX_STAT.reg e] s t)) ∧
  (∀ (e : Fin 16) (dst : Byte) (len : BitVec 9) (s : State), s.engRuns e = false →
      exec (.linkTxWr e dst len) s = .next s) ∧
  (∀ (e : Fin 16) (dst : Byte) (len : BitVec 9) (s : State), s.engRuns e = true → s.manager = true →
      dst.toNat ≠ 0xFF → (dst.toNat = s.dev ∨ s.portTo dst.toNat = none) →
      Does (.linkTxWr e dst len) s (fun t =>
      t.bit (R.LINK_TX_STAT.DONE e) = true ∧ t.fld (R.LINK_TX_STAT.RESULT e) = 2 ∧ Frame [.regs, .link] s t ∧
      RegsOnly [R.LINK_TX_STAT.reg e] s t)) ∧
  (∀ (e : Fin 16) (dst : Byte) (len : BitVec 9) (s : State), s.engRuns e = true → s.manager = true →
      dst.toNat ≠ 0xFF → dst.toNat ≠ s.dev → (s.portTo dst.toNat).isSome = true → s.link.seqNext < 65536 →
      Does (.linkTxWr e dst len) s (fun t =>
      t.bit (R.LINK_TX_STAT.BUSY e) = true ∧ t.bit (R.LINK_TX_STAT.DONE e) = false ∧
      t.fld (R.LINK_TX_STAT.SEQ e) = s.link.seqNext ∧ t.link.out.length = s.link.out.length + 1 ∧
      t.link.seqNext = (s.link.seqNext + 1) % 65536 ∧
      ((t.link.out.getLast?.map (fun o => (o.typ, o.dst, o.payload))) = some (0x13, dst.toNat, s.txPayload e (min 260 len.toNat))) ∧
      Frame (.seq :: .link :: notes) s t ∧ RegsIn [B.evt, B.link] s t)) ∧
  (∀ (e : Fin 16) (dst : Byte) (len : BitVec 9) (s : State), s.engRuns e = true → s.manager = true →
      dst.toNat = 0xFF → s.link.seqNext < 65536 → Does (.linkTxWr e dst len) s (fun t =>
      t.bit (R.LINK_TX_STAT.BUSY e) = true ∧ t.bit (R.LINK_TX_STAT.DONE e) = false ∧
      t.fld (R.LINK_TX_STAT.SEQ e) = s.link.seqNext ∧ t.link.out.length = s.link.out.length + 1 ∧
      t.link.seqNext = (s.link.seqNext + 1) % 65536 ∧
      ((t.link.out.getLast?.map (fun o => (o.typ, o.dst, o.payload, o.waits))) = some (0x13, 0xFF, s.txPayload e (min 260 len.toNat), s.joinedDevs)) ∧
      (s.link.out = [] → s.sys.pllE ≠ .out → t.link.sent = s.downPorts.map (fun p => ⟨p, 0x13, s.dev, 0xFF, s.link.seqNext, s.txPayload e (min 260 len.toNat)⟩)) ∧
      Frame (.seq :: .link :: notes) s t ∧ RegsIn [B.evt, B.link] s t))

/-- Switch commands, the event queue and the trace.  ARM and CANCEL of a scheduled switch, the read of the event
queue, a trace write and UNFREEZE complete with the registers and trace record of the rules. That UNFREEZE of a
full trace lets it fill once more is the model's choice (log entry 158). Clauses that a command whose
precondition fails changes nothing rest on log entry 4.  (spec/15_hierarchy.md.) -/
def Obligations.SwitchCommandsAndTraceComplete : Prop :=
  (∀ (r : Req) (s : State), s.may r R.LINK_SW_CMD.reg true none = true → s.manager = true →
      (s.switchCause (s.pair R.LINK_SW_T_LO.reg R.LINK_SW_T_HI.reg)) = 0 → Does (.switchArm r) s (fun t =>
      t.bit R.ACRD_STATUS.SWITCH_PEND = true ∧ t.link.swT = s.pair R.LINK_SW_T_LO.reg R.LINK_SW_T_HI.reg ∧
      t.link.swEpoch = s.reg R.LINK_EPOCH.reg + 1 ∧ t.ledg.array = s.ledg.array ∧
      Frame (.loops :: .seq :: .link :: notes) s t ∧ RegsIn [B.acrd, B.evt, B.host, B.link, B.loop] s t)) ∧
  (∀ (r : Req) (s : State), s.may r R.LINK_SW_CMD.reg true none = false →
      exec (.switchArm r) s = .next (s.denied r true)) ∧
  (∀ (r : Req) (s : State), s.may r R.LINK_SW_CMD.reg true none = true → s.manager = true →
      (s.switchCause (s.pair R.LINK_SW_T_LO.reg R.LINK_SW_T_HI.reg)) ≠ 0 → Does (.switchArm r) s (fun t =>
      t.bit R.ACRD_STATUS.SWITCH_PEND = s.bit R.ACRD_STATUS.SWITCH_PEND ∧
      t.fld R.LINK_SW_STATUS.CAUSE = (s.switchCause (s.pair R.LINK_SW_T_LO.reg R.LINK_SW_T_HI.reg)) ∧
      t.acrd = s.acrd ∧ Frame (.loops :: .seq :: .link :: notes) s t ∧
      RegsIn [B.acrd, B.evt, B.host, B.link, B.loop] s t)) ∧
  (∀ (r : Req) (s : State), s.may r R.LINK_SW_CMD.reg true none = true → s.manager = false →
      Does (.switchArm r) s (fun t =>
      Frame [.link] s t)) ∧
  (∀ (r : Req) (s : State), s.may r R.LINK_SW_CMD.reg true none = true → s.manager = true → s.switchOpen = true →
      Does (.switchCancel r) s (fun t =>
      t.bit R.ACRD_STATUS.SWITCH_PEND = false ∧ t.fld R.LINK_SW_STATUS.STATE = 5 ∧
      t.fld R.LINK_SW_STATUS.CAUSE = 8 ∧ Frame (.loops :: .seq :: .link :: notes) s t ∧
      RegsIn [B.acrd, B.evt, B.host, B.link, B.loop] s t)) ∧
  (∀ (r : Req) (s : State), s.may r R.LINK_SW_CMD.reg true none = false →
      exec (.switchCancel r) s = .next (s.denied r true)) ∧
  (∀ (r : Req) (s : State), s.may r R.LINK_SW_CMD.reg true none = true →
      (s.manager = false ∨ s.switchOpen = false) → Does (.switchCancel r) s (fun t =>
      Frame [.link] s t)) ∧
  (∀ (r : Req) (x : Nat × Nat) (rest : List (Nat × Nat)) (s : State), s.may r R.LINK_RXEV.reg false none = true →
      s.link.rxev = x :: rest → Does (.rxevRead r) s (fun t =>
      t.link.rxev = rest ∧ t.link.rxDrop = false ∧ Frame [.link] s t)) ∧
  (∀ (r : Req) (s : State), s.may r R.LINK_RXEV.reg false none = false →
      exec (.rxevRead r) s = .next (s.denied r false)) ∧
  (∀ (r : Req) (code source : BitVec 16) (s : State), s.topOn = true → s.may r 0x400B00C8 true none = true →
      0x8000 ≤ source.toNat → s.bit R.LINK_TRC_CFG.EN = true → s.bit R.LINK_TRC_STAT.FROZEN = false →
      s.bit R.LINK_TRC_CFG.STOP = false → Does (.traceWrite r code source) s (fun t =>
      t.trace.at ⟨0, 0, 0, 0⟩ (s.fld R.LINK_TRC_STAT.WR) = ⟨s.now, source, code, s.reg (R.LINK_TRC_WR_DATA.reg (reqCode r))⟩ ∧
      t.fld R.LINK_TRC_STAT.WR = (s.fld R.LINK_TRC_STAT.WR + 1) % 65536 ∧ Frame [.regs, .trace, .tracePost] s t)) ∧
  (∀ (r : Req) (code source : BitVec 16) (s : State), s.may r 0x400B00C8 true none = false →
      exec (.traceWrite r code source) s = .next (s.denied r true)) ∧
  (∀ (r : Req) (code source : BitVec 16) (s : State), s.may r 0x400B00C8 true none = true →
      (s.topOn = false ∨ source.toNat < 0x8000) → exec (.traceWrite r code source) s = .next s) ∧
  (∀ (r : Req) (s : State), s.may r R.LINK_TRC_CTRL.reg true none = true → Does (.traceUnfreeze r) s (fun t =>
      t.bit R.LINK_TRC_STAT.FROZEN = false ∧ t.tracePost = none ∧ Frame [.regs, .tracePost] s t ∧
      RegsOnly [R.LINK_TRC_STAT.reg] s t)) ∧
  (∀ (r : Req) (s : State), s.may r R.LINK_TRC_CTRL.reg true none = false →
      exec (.traceUnfreeze r) s = .next (s.denied r true))

/-- Slices, drydown and commanded tests.  A slice ends with a pass, a repeat or a confirmed failure; drydown starts,
runs its items in order within its budget and ends with its record, or, by command, with its result; commanded
tests run only in FACTORY and RETURN, and a fatal raise is a failed check of item 0. The model's choices: the
order of checks within an item (log entry 193), a fatal raise after the record (log entry 194). Clauses that a
command whose precondition fails changes nothing rest on log entry 4, and those that carry time to a deadline on
log entry 3.  (spec/16_drydown.md.) -/
def Obligations.SelfTestCompletes : Prop :=
  (∀ (s : State), s.slicesRun = true → Does .sliceInstant s (fun t =>
      t.bist.instant = some t.ns ∧ s.ns ≤ t.ns ∧ (s.acrd.switching = true → t.regs = s.regs) ∧
      Frame [.clock, .regs, .timers, .meas, .evt, .host, .bist] s t ∧ RegsIn [B.bist, B.meas] s t)) ∧
  (∀ (s : State), s.slicesRun = false → exec .sliceInstant s = .next s) ∧
  (∀ (dom : Fin 3) (pass : Bool) (x : Nat × Nat) (s : State), s.sliceOf dom = some x → pass = true →
      Does (.sliceEnd dom pass) s (fun t =>
      t.sliceOf dom = none ∧ t.bist.again.at none dom = none ∧ t.fstat = s.fstat ∧
      Frame (.seq :: .meas :: .link :: notes) s t ∧ RegsIn [B.bist, B.meas] s t)) ∧
  (∀ (dom : Fin 3) (pass : Bool) (s : State), s.sliceOf dom = none → exec (.sliceEnd dom pass) s = .next s) ∧
  (∀ (dom : Fin 3) (pass : Bool) (x : Nat × Nat) (s : State), s.sliceOf dom = some x → pass = false →
      s.bist.again.at none dom ≠ some x → Does (.sliceEnd dom pass) s (fun t =>
      t.sliceOf dom = none ∧ t.bist.again.at none dom = some x ∧ t.fstat = s.fstat ∧
      Frame (.seq :: .meas :: .link :: notes) s t ∧ RegsIn [B.bist, B.meas] s t)) ∧
  (∀ (dom : Fin 3) (pass : Bool) (x : Nat × Nat) (s : State), s.sliceOf dom = some x → pass = false →
      s.bist.again.at none dom = some x → x.1 < 256 → x.2 < 256 → Does (.sliceEnd dom pass) s (fun t =>
      t.sliceOf dom = none ∧ t.bist.again.at none dom = none ∧
      (s.flt.collecting = true → t.fstat.getLsbD (sliceSource x.1) = true) ∧ t.bit R.BIST_LAST.VALID = true ∧
      t.fld R.BIST_LAST.CODE = x.1 ∧ t.fld R.BIST_LAST.INDEX = x.2 ∧ Counts R.BIST_CNT.FAIL s t ∧
      Frame (.seq :: .meas :: .link :: notes) s t ∧ RegsIn [B.bist, B.meas] s t)) ∧
  (∀ (tj : Int) (s : State), s.sys.phase = .powerDown → s.sys.dry = .idle → s.link.cascOn = false →
      s.railsOn.all s.railDown = true → Does (.drydownStart tj) s (fun t =>
      t.sys.dry = .running ∧ t.bist.fatals = [] ∧ t.bist.tj = tj ∧ t.bist.dryAt = s.ns ∧
      t.bist.direct = false ∧ t.fld R.BIST_STATUS.STATE = 3 ∧ (∀ d, d < 3 → t.sliceOf d = none) ∧
      Frame [.regs, .timers, .sys, .evt, .host, .bist] s t ∧ RegsIn [B.bist] s t)) ∧
  (∀ (tj : Int) (s : State), (s.sys.phase ≠ .powerDown ∨ s.sys.dry ≠ .idle) → exec (.drydownStart tj) s = .next s) ∧
  (∀ (fails : List Check) (duration : Nat) (s : State), s.sys.dry = .running → s.bist.direct = false →
      Does (.drydownChecksDone fails duration) s (fun t =>
      t.sys.dry = .recorded ∧
      s.bist.dryAt + (testNs false 109300000 180000000 (checksRun dryOrder [] fails) duration) ≤ t.ns ∧
      (109300000 ≤ (testNs false 109300000 180000000 (checksRun dryOrder [] fails) duration) ∧ (testNs false 109300000 180000000 (checksRun dryOrder [] fails) duration) ≤ 180000000) ∧
      t.sys.phase = s.sys.phase ∧
      t.bist.dryFails = failuresInTime (checksRun dryOrder [] fails) s.bist.fatals ∧
      t.bist.dryTime = (testNs false 109300000 180000000 (checksRun dryOrder [] fails) duration) / 10000 ∧
      t.bist.dryCount = (s.recLatest 2).toNat + 1 ∧
      t.recLatest 2 = dryRecord (failuresInTime (checksRun dryOrder [] fails) s.bist.fatals) s.bist.tj ((testNs false 109300000 180000000 (checksRun dryOrder [] fails) duration) / 10000) ((s.recLatest 2).toNat + 1) ∧
      t.ledg.drain = .park)) ∧
  (∀ (fails : List Check) (duration : Nat) (s : State), s.sys.dry ≠ .running →
      exec (.drydownChecksDone fails duration) s = .next s) ∧
  (∀ (fails : List Check) (duration : Nat) (s : State), s.sys.dry = .running → s.bist.direct = true →
      Does (.drydownChecksDone fails duration) s (fun t =>
      t.sys.dry = .idle ∧ t.bist.direct = false ∧ t.bit R.BIST_CMDRES.DONE = true ∧
      t.bit R.BIST_CMDRES.REFUSED = false ∧
      t.bit R.BIST_CMDRES.PASS = (failuresInTime (checksRun dryOrder [] fails) s.bist.fatals).isEmpty ∧
      t.fld R.BIST_CMDRES.FAILS = min 255 (failuresInTime (checksRun dryOrder [] fails) s.bist.fatals).length ∧
      (∀ x ∈ (failuresInTime (checksRun dryOrder [] fails) s.bist.fatals).head?, t.fld R.BIST_CMDRES.ITEM = x.1 % 16 ∧ t.fld R.BIST_CMDRES.INDEX = x.2 % 256) ∧
      s.bist.dryAt + (testNs false 109300000 180000000 (checksRun dryOrder [] fails) duration) ≤ t.ns ∧
      t.ledg = s.ledg)) ∧
  (∀ (r : Req) (code index : Byte) (pass : Bool) (s : State), s.topOn = true →
      s.may r R.BIST_CMD.reg true none = true → s.fld R.SYS_STATUS.LC ≠ 1 → s.fld R.SYS_STATUS.LC ≠ 4 →
      Does (.bistRunSlice r code index pass) s (fun t =>
      t.bit R.BIST_STATUS.DENIED = true ∧ Frame notes s t ∧
      RegsOnly [R.BIST_STATUS.reg, R.HOST_LAST_TS_LO.reg, R.HOST_LAST_TS_HI.reg] s t)) ∧
  (∀ (r : Req) (code index : Byte) (pass : Bool) (s : State), s.may r R.BIST_CMD.reg true none = false →
      exec (.bistRunSlice r code index pass) s = .next (s.denied r true)) ∧
  (∀ (r : Req) (code index : Byte) (pass : Bool) (s : State), s.may r R.BIST_CMD.reg true none = true →
      s.topOn = false → exec (.bistRunSlice r code index pass) s = .next s) ∧
  (∀ (r : Req) (code index : Byte) (pass : Bool) (s : State), s.topOn = true →
      s.may r R.BIST_CMD.reg true none = true → (s.fld R.SYS_STATUS.LC = 1 ∨ s.fld R.SYS_STATUS.LC = 4) →
      (sliceCatalogue 0 ++ (sliceCatalogue 1 ++ sliceCatalogue 2)).contains (code.toNat, index.toNat) = true →
      s.sliceEligible code.toNat index.toNat = true → s.sliceOn code.toNat index.toNat = false →
      Does (.bistRunSlice r code index pass) s (fun t =>
      t.bit R.BIST_CMDRES.DONE = true ∧ t.bit R.BIST_CMDRES.PASS = pass ∧ t.bit R.BIST_CMDRES.REFUSED = false ∧
      t.fld R.BIST_CMDRES.FAILS = (if pass then 0 else 1) ∧ Frame notes s t ∧
      RegsOnly [R.BIST_CMDRES.reg, R.HOST_LAST_TS_LO.reg, R.HOST_LAST_TS_HI.reg] s t)) ∧
  (∀ (r : Req) (code index : Byte) (pass : Bool) (s : State), s.topOn = true →
      s.may r R.BIST_CMD.reg true none = true → (s.fld R.SYS_STATUS.LC = 1 ∨ s.fld R.SYS_STATUS.LC = 4) →
      (((sliceCatalogue 0 ++ (sliceCatalogue 1 ++ sliceCatalogue 2)).contains (code.toNat, index.toNat) = false) ∨ s.sliceEligible code.toNat index.toNat = false ∨ s.sliceOn code.toNat index.toNat = true) →
      Does (.bistRunSlice r code index pass) s (fun t =>
      t.bit R.BIST_CMDRES.DONE = true ∧ t.bit R.BIST_CMDRES.REFUSED = true ∧ t.bit R.BIST_CMDRES.PASS = false ∧
      Frame notes s t ∧ RegsOnly [R.BIST_CMDRES.reg, R.HOST_LAST_TS_LO.reg, R.HOST_LAST_TS_HI.reg] s t)) ∧
  (∀ (r : Req) (fails : List Check) (s : State), s.topOn = true → s.may r R.BIST_CMD.reg true none = true →
      s.fld R.SYS_STATUS.LC ≠ 1 → s.fld R.SYS_STATUS.LC ≠ 4 → Does (.bistRunDrydown r fails) s (fun t =>
      t.bit R.BIST_STATUS.DENIED = true ∧ Frame notes s t ∧
      RegsOnly [R.BIST_STATUS.reg, R.HOST_LAST_TS_LO.reg, R.HOST_LAST_TS_HI.reg] s t)) ∧
  (∀ (r : Req) (fails : List Check) (s : State), s.may r R.BIST_CMD.reg true none = false →
      exec (.bistRunDrydown r fails) s = .next (s.denied r true)) ∧
  (∀ (r : Req) (fails : List Check) (s : State), s.may r R.BIST_CMD.reg true none = true → s.topOn = false →
      exec (.bistRunDrydown r fails) s = .next s) ∧
  (∀ (r : Req) (fails : List Check) (s : State), s.topOn = true → s.may r R.BIST_CMD.reg true none = true →
      (s.fld R.SYS_STATUS.LC = 1 ∨ s.fld R.SYS_STATUS.LC = 4) → s.railsOn.all s.railDown = true →
      s.sys.dry = .idle → fails.all (fun k => decide (k.item ≠ 0#4)) = true →
      Does (.bistRunDrydown r fails) s (fun t =>
      t.bit R.BIST_CMDRES.DONE = true ∧ t.bit R.BIST_CMDRES.PASS = (checksRun dryOrder [] fails).isEmpty ∧
      t.bit R.BIST_CMDRES.REFUSED = false ∧
      t.fld R.BIST_CMDRES.FAILS = min 255 (checksRun dryOrder [] fails).length ∧ t.sys.dry = .idle ∧
      t.sys.phase = s.sys.phase ∧ t.ledg.array = s.ledg.array ∧ t.recLatest 2 = s.recLatest 2 ∧
      s.ns + testNs false 109300000 180000000 (checksRun dryOrder [] fails) 0 ≤ t.ns)) ∧
  (∀ (r : Req) (fails : List Check) (n : Nat) (s : State), s.topOn = true →
      s.may r R.BIST_CMD.reg true none = true → (s.fld R.SYS_STATUS.LC = 1 ∨ s.fld R.SYS_STATUS.LC = 4) →
      s.railsOn.all s.railDown = true → s.sys.dry = .idle →
      fails.head?.map (fun k => (k.item, k.index.toNat)) = some (0#4, n) → n < 64 → s.flt.collecting = true →
      s.faultClass n = 2 → Does (.bistRunDrydown r fails) s (fun t =>
      t.bit R.BIST_CMDRES.DONE = true ∧ t.bit R.BIST_CMDRES.PASS = false ∧ t.fld R.BIST_CMDRES.ITEM = 0 ∧
      t.fld R.BIST_CMDRES.INDEX = n ∧ t.fstat.getLsbD n = true)) ∧
  (∀ (r : Req) (fails : List Check) (s : State), s.topOn = true → s.may r R.BIST_CMD.reg true none = true →
      (s.fld R.SYS_STATUS.LC = 1 ∨ s.fld R.SYS_STATUS.LC = 4) →
      (s.railsOn.all s.railDown = false ∨ s.sys.dry ≠ .idle) → Does (.bistRunDrydown r fails) s (fun t =>
      t.bit R.BIST_CMDRES.DONE = true ∧ t.bit R.BIST_CMDRES.REFUSED = true ∧ t.bit R.BIST_CMDRES.PASS = false ∧
      t.sys.dry = s.sys.dry ∧ Frame notes s t ∧
      RegsOnly [R.BIST_CMDRES.reg, R.HOST_LAST_TS_LO.reg, R.HOST_LAST_TS_HI.reg] s t))

/-- Mailboxes, bus errors, Host Notify and alert response.  Mailbox commands of an engine, an abandoned or timed-out
transaction, an unknown command, Host Notify with its three bytes (own address, lowest pending event, count) and
its retries, and the alert response complete with the counters and bytes of R264 to R276. The event byte of a
Host Notify with no event pending any more is a free value. Clauses that a command whose precondition fails
changes nothing rest on log entry 4, and those that carry time to a deadline on log entry 3.
(spec/14_host_bus.md.) -/
def Obligations.BusEventsComplete : Prop :=
  (∀ (e : Fin 16) (s : State), s.engRuns e = true → Does (.mboxInboundRelease e) s (fun t =>
      t.bit R.HOST_MBOX_STAT.INFULL = false ∧ t.fld R.HOST_MBOX_STAT.INLEN = 0 ∧ Frame [.regs] s t ∧
      RegsOnly [R.HOST_MBOX_STAT.reg] s t)) ∧
  (∀ (e : Fin 16) (s : State), s.engRuns e = false → exec (.mboxInboundRelease e) s = .next s) ∧
  (∀ (e : Fin 16) (len : BitVec 7) (s : State), s.engRuns e = true → Does (.mboxOutboundPost e len) s (fun t =>
      t.fld R.HOST_MBOX_STAT.OUTLEN = len.toNat ∧ Frame [.regs] s t ∧ RegsOnly [R.HOST_MBOX_STAT.reg] s t)) ∧
  (∀ (e : Fin 16) (len : BitVec 7) (s : State), s.engRuns e = false → exec (.mboxOutboundPost e len) s = .next s) ∧
  (∀ (s : State), s.busOn = true → Does .busTransactionAbandon s (fun t =>
      Counts R.HOST_CNT.PROTO s t ∧ Raises 57 s t ∧ Frame notes s t ∧ RegsOnly [R.HOST_CNT.reg] s t)) ∧
  (∀ (s : State), s.busOn = false → exec .busTransactionAbandon s = .next s) ∧
  (∀ (s : State), s.busOn = true → Does .busTimeout s (fun t =>
      Counts R.HOST_CNT.PROTO s t ∧ (s.flt.collecting = true → t.fstat.getLsbD 57 = true) ∧
      t.deadline T.recov = some (s.ns + 100000) ∧ Frame notes s t ∧ RegsOnly [R.HOST_CNT.reg] s t)) ∧
  (∀ (s : State), s.busOn = false → exec .busTimeout s = .next s) ∧
  (∀ (code : Byte) (s : State), s.busOn = true → knownCodes.contains code.toNat = false →
      Does (.unknownCommand code) s (fun t =>
      t.host.refused = true ∧ t.fld R.HOST_STATUS.CML = s.fld R.HOST_STATUS.CML ||| 0x80 ∧
      Frame [.regs, .host] s t ∧ RegsOnly [R.HOST_STATUS.reg] s t)) ∧
  (∀ (code : Byte) (s : State), (s.busOn = false ∨ knownCodes.contains code.toNat = true) →
      exec (.unknownCommand code) s = .next s) ∧
  (∀ (lost : Bool) (e : Nat) (s : State), s.busOn = true → s.bit R.HOST_CFG.HNEN = true → s.host.notify = true →
      s.host.losses = 0 → s.notifyDue = true → lost = false → s.pendEvents.head? = some e →
      Does (.hostNotify lost) s (fun t =>
      t.host.notify = false ∧ t.host.losses = 0 ∧ t.host.notifiedAt = some s.ns ∧
      t.host.message = [BitVec.ofNat 8 (2 * s.sys.address.getD 0), BitVec.ofNat 8 e, BitVec.ofNat 8 (min 255 s.pendEvents.length)] ∧
      Frame [.timers, .host] s t)) ∧
  (∀ (lost : Bool) (s : State), s.busOn = true → s.bit R.HOST_CFG.HNEN = true → s.host.notify = true →
      s.host.losses = 0 → s.notifyDue = true → lost = false → s.pendEvents = [] →
      Does (.hostNotify lost) s (fun t =>
      t.host.notify = false ∧ t.host.losses = 0 ∧ t.host.notifiedAt = some s.ns ∧
      t.host.message = [BitVec.ofNat 8 (2 * s.sys.address.getD 0), Config.freeByte s.freeCount, 0#8] ∧
      t.freeCount = s.freeCount + 1 ∧ Frame [.freeCount, .timers, .host] s t)) ∧
  (∀ (lost : Bool) (s : State), (s.busOn = false ∨ s.bit R.HOST_CFG.HNEN = false ∨ s.host.notify = false) →
      exec (.hostNotify lost) s = .next s) ∧
  (∀ (lost : Bool) (s : State), s.busOn = true → s.bit R.HOST_CFG.HNEN = true → s.host.notify = true →
      s.host.losses = 0 → s.notifyDue = true → lost = true → Does (.hostNotify lost) s (fun t =>
      t.host.losses = 1 ∧ t.deadline T.retry = some (s.ns + 50000) ∧ Counts R.HOST_CNT2.ARB s t ∧
      Frame [.freeCount, .regs, .timers, .evt, .host] s t ∧ RegsIn [B.host] s t)) ∧
  (∀ (lost : Bool) (e : Nat) (s : State), s.busOn = true → s.host.notify = true → s.host.losses ≠ 0 →
      s.runs T.retry = true → lost = false → s.pendEvents.head? = some e →
      Does (.controllerRetry lost) s (fun t =>
      t.host.notify = false ∧ t.host.losses = 0 ∧
      t.host.message = [BitVec.ofNat 8 (2 * s.sys.address.getD 0), BitVec.ofNat 8 e, BitVec.ofNat 8 (min 255 s.pendEvents.length)] ∧
      Frame [.clock, .freeCount, .regs, .timers, .evt, .host] s t ∧ RegsIn [B.host] s t)) ∧
  (∀ (lost : Bool) (s : State), s.busOn = true → s.host.notify = true → s.host.losses ≠ 0 →
      s.runs T.retry = true → lost = false → Does (.controllerRetry lost) s (fun t =>
      t.host.notify = false ∧ t.host.losses = 0 ∧ t.host.notifiedAt = some t.ns ∧ t.deadline T.retry = none ∧
      Frame [.clock, .freeCount, .regs, .timers, .evt, .host] s t ∧ RegsIn [B.host] s t)) ∧
  (∀ (lost : Bool) (s : State), (s.busOn = false ∨ s.host.notify = false ∨ s.runs T.retry = false) →
      exec (.controllerRetry lost) s = .next s) ∧
  (∀ (lost : Bool) (s : State), s.busOn = true → s.host.notify = true → s.host.losses ≠ 0 →
      s.runs T.retry = true → lost = true → 7 ≤ s.host.losses → Does (.controllerRetry lost) s (fun t =>
      t.host.losses = 0 ∧ Counts R.HOST_CNT2.HNDROP s t ∧ t.deadline T.retry = none ∧
      Frame [.clock, .freeCount, .regs, .timers, .evt, .host] s t ∧ RegsIn [B.host] s t)) ∧
  (∀ (lost : Bool) (s : State), s.busOn = true → s.host.notify = true → s.host.losses ≠ 0 →
      s.runs T.retry = true → lost = true → s.host.losses < 7 → Does (.controllerRetry lost) s (fun t =>
      t.host.losses = s.host.losses + 1 ∧ Counts R.HOST_CNT2.ARB s t ∧
      t.deadline T.retry = some (t.ns + 50000) ∧ Frame [.clock, .freeCount, .regs, .timers, .evt, .host] s t ∧
      RegsIn [B.host] s t)) ∧
  (∀ (lost acked : Bool) (s : State), s.busOn = true → s.alertLow = true → lost = false →
      Does (.alertResponse lost acked) s (fun t =>
      t.host.reply = BitVec.ofNat 8 (2 * s.sys.address.getD 0) :: (if acked then [crc8 [0x19#8, BitVec.ofNat 8 (2 * s.sys.address.getD 0)]] else []) ∧
      Frame [.host] s t)) ∧
  (∀ (lost acked : Bool) (s : State), (s.busOn = false ∨ s.alertLow = false) →
      exec (.alertResponse lost acked) s = .next s) ∧
  (∀ (lost acked : Bool) (s : State), s.busOn = true → s.alertLow = true → lost = true →
      Does (.alertResponse lost acked) s (fun t =>
      Counts R.HOST_CNT2.ARB s t ∧ Frame notes s t ∧ RegsOnly [R.HOST_CNT2.reg] s t))

/-- Frames of the quad port.  Window reads answer the bytes of SRAM, trace, queue memory, bank, Ledger word and
register with their CRC, window writes reach SRAM, register, Ledger and bank or are refused or busy, queue reads
answer the count and the entries and remove them when the frame ends complete, and the status frame and the
stored bank frame complete, each with the status byte of Table 14.7; a wrong CRC, an unknown OP and non-zero
FLAGS are answered for each. The permission that Q_READ and STATUS need is the model's choice (log entry 199).
Clauses that a command whose precondition fails changes nothing rest on log entry 4, and those that carry time
to a deadline on log entry 3.  (spec/14_host_bus.md.) -/
def Obligations.QuadFramesComplete : Prop :=
  (∀ (addr : Word) (len : Nat) (q : QuadEnd) (s : State), s.quadOn = true →
      quadCrcRight q 1 addr (len) [] = true → quadOp q 1 = 1 → q.flags = 0#8 → q.errs = [] →
      s.quadJudge false addr.toNat len 4 = 0xA5 → Does (.quadWinRead addr len q) s (fun t =>
      t.fld R.QP_STATUS.LAST = 0xA5 ∧ t.fld R.QP_STATUS.OP = 1 ∧ t.host.quadData.head? = some 0xA5#8 ∧
      Frame (.freeCount :: .seq :: .link :: .hiLatch :: notes) s t ∧ RegsIn [B.evt, B.host, B.ledg, B.link] s t)) ∧
  (∀ (addr : Word) (len : Nat) (q : QuadEnd) (s : State), s.quadOn = false →
      exec (.quadWinRead addr len q) s = .next s) ∧
  (∀ (addr : Word) (len : Nat) (q : QuadEnd) (o : Nat) (s : State), s.quadOn = true →
      quadCrcRight q 1 addr (len) [] = true → quadOp q 1 = 1 → q.flags = 0#8 → q.errs = [] →
      s.quadJudge false addr.toNat len 4 = 0xA5 → placeOf addr.toNat = some (.sram o) → s.evt.eccNext = [] →
      s.sramPoisoned o len = false → Does (.quadWinRead addr len q) s (fun t =>
      t.host.quadData = (0xA5#8 :: (s.sramBytes o len)) ++ leBytes 2 (crc16 (0xA5#8 :: (s.sramBytes o len))).toNat ∧
      RegsOnly [R.QP_STATUS.reg] s t ∧ t.evt.sram = s.evt.sram ∧
      Frame (.freeCount :: .seq :: .link :: .hiLatch :: notes) s t)) ∧
  (∀ (addr : Word) (len : Nat) (q : QuadEnd) (o : Nat) (s : State), s.quadOn = true →
      quadCrcRight q 1 addr (len) [] = true → quadOp q 1 = 1 → q.flags = 0#8 → q.errs = [] →
      s.quadJudge false addr.toNat len 4 = 0xA5 → placeOf addr.toNat = some (.trace o) →
      Does (.quadWinRead addr len q) s (fun t =>
      t.host.quadData = (0xA5#8 :: (s.traceBytes o len)) ++ leBytes 2 (crc16 (0xA5#8 :: (s.traceBytes o len))).toNat ∧
      Frame [.regs, .host] s t ∧ RegsOnly [R.QP_STATUS.reg] s t)) ∧
  (∀ (addr : Word) (len : Nat) (q : QuadEnd) (o : Nat) (s : State), s.quadOn = true →
      quadCrcRight q 1 addr (len) [] = true → quadOp q 1 = 1 → q.flags = 0#8 → q.errs = [] →
      s.quadJudge false addr.toNat len 4 = 0xA5 → placeOf addr.toNat = some (.queue o) →
      Does (.quadWinRead addr len q) s (fun t =>
      t.host.quadData = (0xA5#8 :: (s.queueBytes o len)) ++ leBytes 2 (crc16 (0xA5#8 :: (s.queueBytes o len))).toNat ∧
      Frame [.regs, .host] s t ∧ RegsOnly [R.QP_STATUS.reg] s t)) ∧
  (∀ (addr : Word) (len : Nat) (q : QuadEnd) (b : Bool) (o : Nat) (s : State), s.quadOn = true →
      quadCrcRight q 1 addr (len) [] = true → quadOp q 1 = 1 → q.flags = 0#8 → q.errs = [] →
      s.quadJudge false addr.toNat len 4 = 0xA5 → placeOf addr.toNat = some (.bank b o) →
      Does (.quadWinRead addr len q) s (fun t =>
      t.host.quadData = (0xA5#8 :: (s.bankRead b o len)) ++ leBytes 2 (crc16 (0xA5#8 :: (s.bankRead b o len))).toNat ∧
      Frame [.regs, .host] s t ∧ RegsOnly [R.QP_STATUS.reg] s t)) ∧
  (∀ (addr : Word) (len : Nat) (q : QuadEnd) (w : Nat) (s : State), s.quadOn = true →
      quadCrcRight q 1 addr (len) [] = true → quadOp q 1 = 1 → q.flags = 0#8 → q.errs = [] →
      s.quadJudge false addr.toNat len 4 = 0xA5 → placeOf addr.toNat = some (.ledger (8 * w)) → len = 8 →
      Does (.quadWinRead addr len q) s (fun t =>
      t.host.quadData = (0xA5#8 :: ((match s.slotOf (w / 8) with | some x => leBytes 8 (BitVec.ofNat 64 (bytesAt x.image (8 * (w % 8)) 8)).toNat | none => if s.ledg.poison.at false (w) then List.replicate 8 0xFF#8 else leBytes 8 (s.ledg.array.at 0#64 (w)).toNat))) ++ leBytes 2 (crc16 (0xA5#8 :: ((match s.slotOf (w / 8) with | some x => leBytes 8 (BitVec.ofNat 64 (bytesAt x.image (8 * (w % 8)) 8)).toNat | none => if s.ledg.poison.at false (w) then List.replicate 8 0xFF#8 else leBytes 8 (s.ledg.array.at 0#64 (w)).toNat)))).toNat ∧
      t.ledg.array = s.ledg.array ∧ t.bit (R.LEDG_RSTAT.BUF (reqCode .quad)) = (s.slotOf (w / 8)).isSome ∧
      Frame (.freeCount :: .seq :: .link :: .hiLatch :: notes) s t ∧ RegsIn [B.evt, B.host, B.ledg, B.link] s t)) ∧
  (∀ (addr : Word) (len : Nat) (q : QuadEnd) (x : RegRow) (s : State), s.quadOn = true →
      quadCrcRight q 1 addr (len) [] = true → quadOp q 1 = 1 → q.flags = 0#8 → q.errs = [] →
      s.quadJudge false addr.toNat len 4 = 0xA5 → 0x40020000 ≤ addr.toNat → addr.toNat < 0x40030000 → len = 4 →
      regRowOf addr.toNat = some x → x.wo = 0 → Does (.quadWinRead addr len q) s (fun t =>
      t.host.quadData = (0xA5#8 :: (leBytes 4 (s.reg addr.toNat).toNat)) ++ leBytes 2 (crc16 (0xA5#8 :: (leBytes 4 (s.reg addr.toNat).toNat))).toNat ∧
      Frame [.regs, .host] s t ∧ RegsOnly [R.QP_STATUS.reg] s t)) ∧
  (∀ (addr : Word) (len : Nat) (q : QuadEnd) (s : State), s.quadOn = true →
      quadCrcRight q 1 addr (len) [] = true → quadOp q 1 = 1 → q.flags = 0#8 → q.errs = [] →
      s.quadJudge false addr.toNat len 4 ≠ 0xA5 → Does (.quadWinRead addr len q) s (fun t =>
      t.fld R.QP_STATUS.LAST = s.quadJudge false addr.toNat len 4 ∧
      t.host.quadData = [BitVec.ofNat 8 (s.quadJudge false addr.toNat len 4)] ∧ Counts R.QP_CNT.REF s t ∧
      Frame (.host :: notes) s t ∧ RegsOnly [R.QP_STATUS.reg, R.QP_CNT.reg] s t)) ∧
  (∀ (addr : Word) (len : Nat) (q : QuadEnd) (s : State), s.quadOn = true →
      quadCrcRight q 1 addr (len) [] = false → q.complete = true → Does (.quadWinRead addr len q) s (fun t =>
      t.fld R.QP_STATUS.LAST = 1 ∧ t.fld R.QP_STATUS.OP = quadOp q 1 % 256 ∧ t.host.quadData = [1#8] ∧
      Counts R.QP_CNT.CRC s t ∧ Frame (.host :: notes) s t ∧ RegsOnly [R.QP_STATUS.reg, R.QP_CNT.reg] s t)) ∧
  (∀ (addr : Word) (len : Nat) (q : QuadEnd) (s : State), s.quadOn = true →
      quadCrcRight q 1 addr (len) [] = true → (quadOp q 1 ≠ 1 ∨ q.flags ≠ 0#8) → q.complete = true →
      Does (.quadWinRead addr len q) s (fun t =>
      t.fld R.QP_STATUS.LAST = 2 ∧ t.fld R.QP_STATUS.OP = quadOp q 1 % 256 ∧ t.host.quadData = [2#8] ∧
      Counts R.QP_CNT.REF s t ∧ Frame (.host :: notes) s t ∧ RegsOnly [R.QP_STATUS.reg, R.QP_CNT.reg] s t)) ∧
  (∀ (addr : Word) (len : Nat) (q : QuadEnd) (s : State), quadCrcRight q 1 addr (len) [] = false →
      q.complete = false → exec (.quadWinRead addr len q) s = .next s) ∧
  (∀ (addr : Word) (data : List Byte) (q : QuadEnd) (o : Nat) (u : State) (s : State), s.quadOn = true →
      quadCrcRight q 2 addr (data.length) data = true → quadOp q 2 = 2 → q.flags = 0#8 → q.errs = [] →
      q.complete = true → s.quadJudge true addr.toNat data.length 1 = 0xA5 →
      placeOf addr.toNat = some (.sram o) → s.evt.eccNext = [] → s.sramWrite o data = some u →
      Does (.quadWinWrite addr data q) s (fun t =>
      t.fld R.QP_STATUS.LAST = 0xA5 ∧ t.fld R.QP_STATUS.OP = 2 ∧ t.evt.sram = u.evt.sram ∧
      t.evt.sramBad = u.evt.sramBad ∧ t.host.quadData = [0xA5#8] ∧ t.acrd = s.acrd ∧
      RegsOnly [R.QP_STATUS.reg] s t)) ∧
  (∀ (addr : Word) (data : List Byte) (q : QuadEnd) (s : State), s.quadOn = false →
      exec (.quadWinWrite addr data q) s = .next s) ∧
  (∀ (addr : Word) (data : List Byte) (q : QuadEnd) (x : RegRow) (s : State), s.quadOn = true →
      quadCrcRight q 2 addr (data.length) data = true → quadOp q 2 = 2 → q.flags = 0#8 → q.errs = [] →
      q.complete = true → s.quadJudge true addr.toNat data.length 1 = 0xA5 → 0x40025000 ≤ addr.toNat →
      addr.toNat < 0x40030000 → data.length = 4 → regRowOf addr.toNat = some x →
      Does (.quadWinWrite addr data q) s (fun t =>
      t.fld R.QP_STATUS.LAST = 0xA5 ∧ t.fld R.QP_STATUS.OP = 2 ∧
      t.reg addr.toNat = ((s.reg addr.toNat &&& ~~~(BitVec.ofNat 32 x.rw ||| (if s.rwlOpen then BitVec.ofNat 32 x.rwl else 0#32))) ||| (BitVec.ofNat 32 (bytesLE data) &&& (BitVec.ofNat 32 x.rw ||| (if s.rwlOpen then BitVec.ofNat 32 x.rwl else 0#32)))) &&& ~~~(BitVec.ofNat 32 (bytesLE data) &&& BitVec.ofNat 32 x.w1c) ∧
      (∀ k, k ≠ addr.toNat → k ≠ R.QP_STATUS.reg → t.reg k = s.reg k) ∧ t.host.quadData = [0xA5#8])) ∧
  (∀ (addr : Word) (data : List Byte) (q : QuadEnd) (o : Nat) (s : State), s.quadOn = true →
      quadCrcRight q 2 addr (data.length) data = true → quadOp q 2 = 2 → q.flags = 0#8 → q.errs = [] →
      q.complete = true → s.quadJudge true addr.toNat data.length 1 = 0xA5 →
      placeOf addr.toNat = some (.ledger o) →
      (s.windowWrite (.window .quad) (o / 64) (o % 64) data).1 = .placed →
      Does (.quadWinWrite addr data q) s (fun t =>
      t.fld R.QP_STATUS.LAST = 0xA5 ∧ t.fld R.QP_STATUS.OP = 2 ∧
      t.ledg = (s.windowWrite (.window .quad) (o / 64) (o % 64) data).2.ledg ∧ t.host.quadData = [0xA5#8] ∧
      (data.length = 8 → o % 8 = 0 → (s.slotOf (o / 64)).all (fun z => decide (z.image.length = 64)) = true → (t.ledgReadWord (o / 8)).1.1 = BitVec.ofNat 64 (bytesLE data)))) ∧
  (∀ (addr : Word) (data : List Byte) (q : QuadEnd) (o : Nat) (s : State), s.quadOn = true →
      quadCrcRight q 2 addr (data.length) data = true → quadOp q 2 = 2 → q.flags = 0#8 → q.errs = [] →
      q.complete = true → s.quadJudge true addr.toNat data.length 1 = 0xA5 →
      placeOf addr.toNat = some (.ledger o) →
      (s.windowWrite (.window .quad) (o / 64) (o % 64) data).1 = .refused →
      Does (.quadWinWrite addr data q) s (fun t =>
      t.fld R.QP_STATUS.LAST = 4 ∧ t.bit (R.LEDG_RSTAT.REFUSED (reqCode .quad)) = true ∧
      t.ledg.slots = s.ledg.slots ∧ t.ledg.waiting = s.ledg.waiting ∧ Counts R.LEDG_CNT.REFUSED s t)) ∧
  (∀ (addr : Word) (data : List Byte) (q : QuadEnd) (o : Nat) (s : State), s.quadOn = true →
      quadCrcRight q 2 addr (data.length) data = true → quadOp q 2 = 2 → q.flags = 0#8 → q.errs = [] →
      q.complete = true → s.quadJudge true addr.toNat data.length 1 = 0xA5 →
      placeOf addr.toNat = some (.ledger o) →
      (s.windowWrite (.window .quad) (o / 64) (o % 64) data).1 = .notPermitted →
      Does (.quadWinWrite addr data q) s (fun t =>
      t.fld R.QP_STATUS.LAST = 3 ∧ t.bit (R.LEDG_RSTAT.REFUSED (reqCode .quad)) = true ∧ t.ledg = s.ledg)) ∧
  (∀ (addr : Word) (data : List Byte) (q : QuadEnd) (b : Bool) (o : Nat) (s : State), s.quadOn = true →
      quadCrcRight q 2 addr (data.length) data = true → quadOp q 2 = 2 → q.flags = 0#8 → q.errs = [] →
      q.complete = true → s.quadJudge true addr.toNat data.length 1 = 0xA5 →
      placeOf addr.toNat = some (.bank b o) → s.host.quadStore = none → s.bankOpen .quad b = true →
      Does (.quadWinWrite addr data q) s (fun t =>
      t.fld R.QP_STATUS.LAST = 0xA5 ∧ t.fld R.QP_STATUS.OP = 2 ∧ t.host.quadStore = some (b, o, data) ∧
      t.bit R.QP_STATUS.BUSY = true ∧ t.deadline T.quadStore = some (s.ns + 150000) ∧ t.acrd = s.acrd)) ∧
  (∀ (addr : Word) (data : List Byte) (q : QuadEnd) (b : Bool) (o : Nat) (s : State), s.quadOn = true →
      quadCrcRight q 2 addr (data.length) data = true → quadOp q 2 = 2 → q.flags = 0#8 → q.errs = [] →
      q.complete = true → s.quadJudge true addr.toNat data.length 1 = 0xA5 →
      placeOf addr.toNat = some (.bank b o) → s.host.quadStore ≠ none →
      Does (.quadWinWrite addr data q) s (fun t =>
      t.fld R.QP_STATUS.LAST = 4 ∧ t.host.quadStore = s.host.quadStore ∧ t.acrd = s.acrd ∧
      Counts R.QP_CNT.REF s t)) ∧
  (∀ (addr : Word) (data : List Byte) (q : QuadEnd) (b : Bool) (o : Nat) (s : State), s.quadOn = true →
      quadCrcRight q 2 addr (data.length) data = true → quadOp q 2 = 2 → q.flags = 0#8 → q.errs = [] →
      q.complete = true → s.quadJudge true addr.toNat data.length 1 = 0xA5 →
      placeOf addr.toNat = some (.bank b o) → s.host.quadStore = none → s.bankOpen .quad b = false →
      Does (.quadWinWrite addr data q) s (fun t =>
      t.fld R.QP_STATUS.LAST = 3 ∧ t.host.quadStore = none ∧ t.acrd = s.acrd ∧ Counts R.QP_CNT.REF s t)) ∧
  (∀ (addr : Word) (data : List Byte) (q : QuadEnd) (s : State), s.quadOn = true →
      quadCrcRight q 2 addr (data.length) data = true → quadOp q 2 = 2 → q.flags = 0#8 → q.errs = [] →
      q.complete = true → s.quadJudge true addr.toNat data.length 1 ≠ 0xA5 →
      Does (.quadWinWrite addr data q) s (fun t =>
      t.fld R.QP_STATUS.LAST = s.quadJudge true addr.toNat data.length 1 ∧
      t.host.quadData = [BitVec.ofNat 8 (s.quadJudge true addr.toNat data.length 1)] ∧
      Counts R.QP_CNT.REF s t ∧ Frame (.host :: notes) s t ∧ RegsOnly [R.QP_STATUS.reg, R.QP_CNT.reg] s t ∧
      t.evt.sram = s.evt.sram ∧ t.acrd = s.acrd)) ∧
  (∀ (addr : Word) (data : List Byte) (q : QuadEnd) (s : State), s.quadOn = true →
      quadCrcRight q 2 addr (data.length) data = false → q.complete = true →
      Does (.quadWinWrite addr data q) s (fun t =>
      t.fld R.QP_STATUS.LAST = 1 ∧ t.fld R.QP_STATUS.OP = quadOp q 2 % 256 ∧ t.host.quadData = [1#8] ∧
      Counts R.QP_CNT.CRC s t ∧ Frame (.host :: notes) s t ∧ RegsOnly [R.QP_STATUS.reg, R.QP_CNT.reg] s t)) ∧
  (∀ (addr : Word) (data : List Byte) (q : QuadEnd) (s : State),
      (s.quadOn = false ∨ q.complete = false ∧ q.errs = []) → exec (.quadWinWrite addr data q) s = .next s) ∧
  (∀ (addr : Word) (data : List Byte) (q : QuadEnd) (s : State), s.quadOn = true →
      quadCrcRight q 2 addr (data.length) data = true → (quadOp q 2 ≠ 2 ∨ q.flags ≠ 0#8) → q.complete = true →
      Does (.quadWinWrite addr data q) s (fun t =>
      t.fld R.QP_STATUS.LAST = 2 ∧ t.fld R.QP_STATUS.OP = quadOp q 2 % 256 ∧ t.host.quadData = [2#8] ∧
      Counts R.QP_CNT.REF s t ∧ Frame (.host :: notes) s t ∧ RegsOnly [R.QP_STATUS.reg, R.QP_CNT.reg] s t)) ∧
  (∀ (addr : Word) (data : List Byte) (q : QuadEnd) (s : State),
      quadCrcRight q 2 addr (data.length) data = false → q.complete = false →
      exec (.quadWinWrite addr data q) s = .next s) ∧
  (∀ (n : Nat) (q : QuadEnd) (s : State), s.quadOn = true → quadCrcRight q 3 q.addr (n) [] = true →
      quadOp q 3 = 3 → q.flags = 0#8 → q.errs = [] → s.rangeMay true false 0x20300000 0x10000 = true → 1 ≤ n →
      n ≤ 4096 → Does (.quadQRead n q) s (fun t =>
      t.fld R.QP_STATUS.LAST = 0xA5 ∧ t.fld R.QP_STATUS.OP = 3 ∧
      t.host.quadData = (0xA5#8 :: (leBytes 2 (if s.bit R.MEAS_Q_CFG.OWNER then [] else s.queueHead n).length ++ (if s.bit R.MEAS_Q_CFG.OWNER then [] else s.queueHead n).flatMap QEntry.bytes)) ++ leBytes 2 (crc16 (0xA5#8 :: (leBytes 2 (if s.bit R.MEAS_Q_CFG.OWNER then [] else s.queueHead n).length ++ (if s.bit R.MEAS_Q_CFG.OWNER then [] else s.queueHead n).flatMap QEntry.bytes))).toNat ∧
      Frame (.seq :: .link :: notes) s t ∧ RegsIn [B.evt, B.host, B.link, B.meas] s t)) ∧
  (∀ (n : Nat) (q : QuadEnd) (s : State), s.quadOn = false → exec (.quadQRead n q) s = .next s) ∧
  (∀ (n : Nat) (q : QuadEnd) (s : State), s.quadOn = true → quadCrcRight q 3 q.addr (n) [] = true →
      quadOp q 3 = 3 → q.flags = 0#8 → q.errs = [] → s.rangeMay true false 0x20300000 0x10000 = true → 1 ≤ n →
      n ≤ 4096 → q.complete = true → s.bit R.MEAS_Q_CFG.OWNER = false → s.queueHead n ≠ [] →
      Does (.quadQRead n q) s (fun t =>
      t.fld R.MEAS_Q_STAT.COUNT = s.fld R.MEAS_Q_STAT.COUNT - (s.queueHead n).length ∧
      t.fld R.MEAS_Q_PTR.RD = (s.fld R.MEAS_Q_PTR.RD + (s.queueHead n).length) % s.queueDepth % 4096 ∧
      t.meas = s.meas ∧ Frame (.seq :: .link :: notes) s t ∧ RegsIn [B.evt, B.host, B.link, B.meas] s t)) ∧
  (∀ (n : Nat) (q : QuadEnd) (s : State), s.quadOn = true → quadCrcRight q 3 q.addr (n) [] = true →
      quadOp q 3 = 3 → q.flags = 0#8 → q.errs = [] → s.rangeMay true false 0x20300000 0x10000 = true → 1 ≤ n →
      n ≤ 4096 → (q.complete = false ∨ s.bit R.MEAS_Q_CFG.OWNER = true) → Does (.quadQRead n q) s (fun t =>
      Frame [.regs, .host] s t ∧ RegsOnly [R.QP_STATUS.reg] s t)) ∧
  (∀ (n : Nat) (q : QuadEnd) (s : State), s.quadOn = true → quadCrcRight q 3 q.addr (n) [] = true →
      quadOp q 3 = 3 → q.flags = 0#8 → q.errs = [] → (n = 0 ∨ 4096 < n) → Does (.quadQRead n q) s (fun t =>
      t.fld R.QP_STATUS.LAST = 2 ∧ t.host.quadData = [BitVec.ofNat 8 (2)] ∧ Counts R.QP_CNT.REF s t ∧
      Frame (.host :: notes) s t ∧ RegsOnly [R.QP_STATUS.reg, R.QP_CNT.reg] s t ∧ t.meas = s.meas)) ∧
  (∀ (n : Nat) (q : QuadEnd) (s : State), s.quadOn = true → quadCrcRight q 3 q.addr (n) [] = true →
      quadOp q 3 = 3 → q.flags = 0#8 → q.errs = [] → 1 ≤ n → n ≤ 4096 →
      s.rangeMay true false 0x20300000 0x10000 = false → Does (.quadQRead n q) s (fun t =>
      t.fld R.QP_STATUS.LAST = 3 ∧ t.host.quadData = [BitVec.ofNat 8 (3)] ∧ Counts R.QP_CNT.REF s t ∧
      Frame (.host :: notes) s t ∧ RegsOnly [R.QP_STATUS.reg, R.QP_CNT.reg] s t ∧ t.meas = s.meas)) ∧
  (∀ (n : Nat) (q : QuadEnd) (s : State), s.quadOn = true → quadCrcRight q 3 q.addr (n) [] = false →
      q.complete = true → Does (.quadQRead n q) s (fun t =>
      t.fld R.QP_STATUS.LAST = 1 ∧ t.fld R.QP_STATUS.OP = quadOp q 3 % 256 ∧ t.host.quadData = [1#8] ∧
      Counts R.QP_CNT.CRC s t ∧ Frame (.host :: notes) s t ∧ RegsOnly [R.QP_STATUS.reg, R.QP_CNT.reg] s t)) ∧
  (∀ (n : Nat) (q : QuadEnd) (s : State), s.quadOn = true → quadCrcRight q 3 q.addr (n) [] = true →
      (quadOp q 3 ≠ 3 ∨ q.flags ≠ 0#8) → q.complete = true → Does (.quadQRead n q) s (fun t =>
      t.fld R.QP_STATUS.LAST = 2 ∧ t.fld R.QP_STATUS.OP = quadOp q 3 % 256 ∧ t.host.quadData = [2#8] ∧
      Counts R.QP_CNT.REF s t ∧ Frame (.host :: notes) s t ∧ RegsOnly [R.QP_STATUS.reg, R.QP_CNT.reg] s t)) ∧
  (∀ (n : Nat) (q : QuadEnd) (s : State), quadCrcRight q 3 q.addr (n) [] = false → q.complete = false →
      exec (.quadQRead n q) s = .next s) ∧
  (∀ (q : QuadEnd) (s : State), s.quadOn = true → quadCrcRight q 4 q.addr (q.len) [] = true → quadOp q 4 = 4 →
      q.flags = 0#8 → q.errs = [] → q.len = 0 → s.rangeMay true false R.QP_STATUS.reg 8 = true →
      Does (.quadStatus q) s (fun t =>
      t.fld R.QP_STATUS.LAST = 0xA5 ∧ t.fld R.QP_STATUS.OP = 4 ∧
      t.host.quadData = (0xA5#8 :: (leBytes 4 (s.reg R.QP_STATUS.reg).toNat ++ leBytes 4 (s.reg R.QP_CNT.reg).toNat)) ++ leBytes 2 (crc16 (0xA5#8 :: (leBytes 4 (s.reg R.QP_STATUS.reg).toNat ++ leBytes 4 (s.reg R.QP_CNT.reg).toNat))).toNat ∧
      Frame [.regs, .host] s t ∧ RegsOnly [R.QP_STATUS.reg] s t)) ∧
  (∀ (q : QuadEnd) (s : State), s.quadOn = false → exec (.quadStatus q) s = .next s) ∧
  (∀ (q : QuadEnd) (s : State), s.quadOn = true → quadCrcRight q 4 q.addr (q.len) [] = true → quadOp q 4 = 4 →
      q.flags = 0#8 → q.errs = [] → q.len ≠ 0 → Does (.quadStatus q) s (fun t =>
      t.fld R.QP_STATUS.LAST = 2 ∧ t.host.quadData = [BitVec.ofNat 8 (2)] ∧ Counts R.QP_CNT.REF s t ∧
      Frame (.host :: notes) s t ∧ RegsOnly [R.QP_STATUS.reg, R.QP_CNT.reg] s t)) ∧
  (∀ (q : QuadEnd) (s : State), s.quadOn = true → quadCrcRight q 4 q.addr (q.len) [] = true → quadOp q 4 = 4 →
      q.flags = 0#8 → q.errs = [] → q.len = 0 → s.rangeMay true false R.QP_STATUS.reg 8 = false →
      Does (.quadStatus q) s (fun t =>
      t.fld R.QP_STATUS.LAST = 3 ∧ t.host.quadData = [BitVec.ofNat 8 (3)] ∧ Counts R.QP_CNT.REF s t ∧
      Frame (.host :: notes) s t ∧ RegsOnly [R.QP_STATUS.reg, R.QP_CNT.reg] s t)) ∧
  (∀ (q : QuadEnd) (s : State), s.quadOn = true → quadCrcRight q 4 q.addr (q.len) [] = false →
      q.complete = true → Does (.quadStatus q) s (fun t =>
      t.fld R.QP_STATUS.LAST = 1 ∧ t.fld R.QP_STATUS.OP = quadOp q 4 % 256 ∧ t.host.quadData = [1#8] ∧
      Counts R.QP_CNT.CRC s t ∧ Frame (.host :: notes) s t ∧ RegsOnly [R.QP_STATUS.reg, R.QP_CNT.reg] s t)) ∧
  (∀ (q : QuadEnd) (s : State), s.quadOn = true → quadCrcRight q 4 q.addr (q.len) [] = true →
      (quadOp q 4 ≠ 4 ∨ q.flags ≠ 0#8) → q.complete = true → Does (.quadStatus q) s (fun t =>
      t.fld R.QP_STATUS.LAST = 2 ∧ t.fld R.QP_STATUS.OP = quadOp q 4 % 256 ∧ t.host.quadData = [2#8] ∧
      Counts R.QP_CNT.REF s t ∧ Frame (.host :: notes) s t ∧ RegsOnly [R.QP_STATUS.reg, R.QP_CNT.reg] s t)) ∧
  (∀ (q : QuadEnd) (s : State), quadCrcRight q 4 q.addr (q.len) [] = false → q.complete = false →
      exec (.quadStatus q) s = .next s) ∧
  (∀ (b : Bool) (o : Nat) (l : List Byte) (s : State), s.host.quadStore = some (b, o, l) →
      Does .quadBankStoreDone s (fun t =>
      t.host.quadStore = none ∧ t.bankRead b o l.length = l ∧ t.bit R.QP_STATUS.BUSY = false ∧
      t.deadline T.quadStore = none ∧ Frame [.regs, .timers, .acrd, .host] s t ∧ RegsIn [B.acrd, B.host] s t)) ∧
  (∀ (s : State), s.host.quadStore = none → exec .quadBankStoreDone s = .next s)

/-- PMBus reads of loops and status.  Each permitted, complete read of PAGE, OPERATION, limits and status answers
the bytes Table 14.3 and Table 14.4 give, with the PEC, cut at the bytes clocked; a paged read with PAGE 0xFF is
refused. An over-voltage limit above 16 bits is a free value (log entry 110). Clauses that a command whose
precondition fails changes nothing rest on log entry 4.  (spec/14_host_bus.md.) -/
def Obligations.BusReadsOfLoopsComplete : Prop :=
  (∀ (m : BusMsg) (s : State), s.takesRead m 0x00 false 0 = true → Does (.page m) s (fun t =>
      t.host.reply = (leBytes 1 s.page ++ [s.replyPec 0x00 [] (leBytes 1 s.page)]).take m.clocked ∧
      t.host.refused = false ∧ Frame [.host] s t)) ∧
  (∀ (m : BusMsg) (s : State), s.busOn = false → exec (.page m) s = .next s) ∧
  (∀ (m : BusMsg) (s : State), s.takesRead m 0x01 true 0 = true → Does (.operation m) s (fun t =>
      t.host.reply = ((match s.railOfLoop s.page with | some r => [if s.bit (R.SEQ_RAIL_STATUS.REQ r) then 0x80#8 else 0#8] | none => [0#8]) ++ [s.replyPec 0x01 [] ((match s.railOfLoop s.page with | some r => [if s.bit (R.SEQ_RAIL_STATUS.REQ r) then 0x80#8 else 0#8] | none => [0#8]))]).take m.clocked ∧
      t.host.refused = false ∧ Frame [.host] s t)) ∧
  (∀ (m : BusMsg) (s : State), s.busOn = false → exec (.operation m) s = .next s) ∧
  (∀ (m : BusMsg) (s : State), s.busOn = true → s.codeMay 0x01 false = true → m.read = true → m.data = [] →
      s.fld R.HOST_STATUS.PAGE = 0xFF → Does (.operation m) s (fun t =>
      t.host.refused = true ∧ t.host.reply = [] ∧ t.fld R.HOST_STATUS.CML = s.fld R.HOST_STATUS.CML ||| 2 ∧
      Frame [.regs, .host] s t ∧ RegsOnly [R.HOST_STATUS.reg] s t)) ∧
  (∀ (m : BusMsg) (s : State), s.takesRead m 0x19 false 0 = true → Does (.capability m) s (fun t =>
      t.host.reply = ([0xD0#8] ++ [s.replyPec 0x19 [] ([0xD0#8])]).take m.clocked ∧ t.host.refused = false ∧
      Frame [.host] s t)) ∧
  (∀ (m : BusMsg) (s : State), s.busOn = false → exec (.capability m) s = .next s) ∧
  (∀ (m : BusMsg) (s : State), s.takesRead m 0x20 true 0 = true → Does (.voutMode m) s (fun t =>
      t.host.reply = ([0x14#8] ++ [s.replyPec 0x20 [] ([0x14#8])]).take m.clocked ∧ t.host.refused = false ∧
      Frame [.host] s t)) ∧
  (∀ (m : BusMsg) (s : State), s.busOn = false → exec (.voutMode m) s = .next s) ∧
  (∀ (m : BusMsg) (s : State), s.busOn = true → s.codeMay 0x20 false = true → m.read = true → m.data = [] →
      s.fld R.HOST_STATUS.PAGE = 0xFF → Does (.voutMode m) s (fun t =>
      t.host.refused = true ∧ t.host.reply = [] ∧ t.fld R.HOST_STATUS.CML = s.fld R.HOST_STATUS.CML ||| 2 ∧
      Frame [.regs, .host] s t ∧ RegsOnly [R.HOST_STATUS.reg] s t)) ∧
  (∀ (m : BusMsg) (s : State), s.takesRead m 0x21 true 0 = true → Does (.voutCommand m) s (fun t =>
      t.host.reply = (leBytes 2 (s.fld (R.LOOP_VREF.TARGET s.page)) ++ [s.replyPec 0x21 [] (leBytes 2 (s.fld (R.LOOP_VREF.TARGET s.page)))]).take m.clocked ∧
      t.host.refused = false ∧ Frame [.host] s t)) ∧
  (∀ (m : BusMsg) (s : State), s.busOn = false → exec (.voutCommand m) s = .next s) ∧
  (∀ (m : BusMsg) (s : State), s.busOn = true → s.codeMay 0x21 false = true → m.read = true → m.data = [] →
      s.fld R.HOST_STATUS.PAGE = 0xFF → Does (.voutCommand m) s (fun t =>
      t.host.refused = true ∧ t.host.reply = [] ∧ t.fld R.HOST_STATUS.CML = s.fld R.HOST_STATUS.CML ||| 2 ∧
      Frame [.regs, .host] s t ∧ RegsOnly [R.HOST_STATUS.reg] s t)) ∧
  (∀ (m : BusMsg) (s : State), s.takesRead m 0x24 true 0 = true → Does (.voutMax m) s (fun t =>
      t.host.reply = (leBytes 2 (s.fld (R.LOOP_VLIM.VMAX s.page)) ++ [s.replyPec 0x24 [] (leBytes 2 (s.fld (R.LOOP_VLIM.VMAX s.page)))]).take m.clocked ∧
      t.host.refused = false ∧ Frame [.host] s t)) ∧
  (∀ (m : BusMsg) (s : State), s.busOn = false → exec (.voutMax m) s = .next s) ∧
  (∀ (m : BusMsg) (s : State), s.busOn = true → s.codeMay 0x24 false = true → m.read = true → m.data = [] →
      s.fld R.HOST_STATUS.PAGE = 0xFF → Does (.voutMax m) s (fun t =>
      t.host.refused = true ∧ t.host.reply = [] ∧ t.fld R.HOST_STATUS.CML = s.fld R.HOST_STATUS.CML ||| 2 ∧
      Frame [.regs, .host] s t ∧ RegsOnly [R.HOST_STATUS.reg] s t)) ∧
  (∀ (m : BusMsg) (s : State), s.takesRead m 0x27 true 0 = true → Does (.voutTransitionRate m) s (fun t =>
      t.host.reply = (leBytes 2 (linear11 (min 1000 (max 1 (s.fld (R.LOOP_SLEW.RATE s.page))) : Nat) 20).toNat ++ [s.replyPec 0x27 [] (leBytes 2 (linear11 (min 1000 (max 1 (s.fld (R.LOOP_SLEW.RATE s.page))) : Nat) 20).toNat)]).take m.clocked ∧
      t.host.refused = false ∧ Frame [.host] s t)) ∧
  (∀ (m : BusMsg) (s : State), s.busOn = false → exec (.voutTransitionRate m) s = .next s) ∧
  (∀ (m : BusMsg) (s : State), s.busOn = true → s.codeMay 0x27 false = true → m.read = true → m.data = [] →
      s.fld R.HOST_STATUS.PAGE = 0xFF → Does (.voutTransitionRate m) s (fun t =>
      t.host.refused = true ∧ t.host.reply = [] ∧ t.fld R.HOST_STATUS.CML = s.fld R.HOST_STATUS.CML ||| 2 ∧
      Frame [.regs, .host] s t ∧ RegsOnly [R.HOST_STATUS.reg] s t)) ∧
  (∀ (m : BusMsg) (s : State), s.takesRead m 0x2B true 0 = true → Does (.voutMin m) s (fun t =>
      t.host.reply = (leBytes 2 (s.fld (R.LOOP_VLIM.VMIN s.page)) ++ [s.replyPec 0x2B [] (leBytes 2 (s.fld (R.LOOP_VLIM.VMIN s.page)))]).take m.clocked ∧
      t.host.refused = false ∧ Frame [.host] s t)) ∧
  (∀ (m : BusMsg) (s : State), s.busOn = false → exec (.voutMin m) s = .next s) ∧
  (∀ (m : BusMsg) (s : State), s.busOn = true → s.codeMay 0x2B false = true → m.read = true → m.data = [] →
      s.fld R.HOST_STATUS.PAGE = 0xFF → Does (.voutMin m) s (fun t =>
      t.host.refused = true ∧ t.host.reply = [] ∧ t.fld R.HOST_STATUS.CML = s.fld R.HOST_STATUS.CML ||| 2 ∧
      Frame [.regs, .host] s t ∧ RegsOnly [R.HOST_STATUS.reg] s t)) ∧
  (∀ (m : BusMsg) (s : State), s.takesRead m 0x40 true 0 = true →
      ((s.fld (R.LOOP_VREF.TARGET s.page) * 1000 + marginMilli (s.fld (R.LOOP_PROT.OVM s.page))) / 1000) < 65536 →
      Does (.voutOvFaultLimit m) s (fun t =>
      t.host.reply = (leBytes 2 ((s.fld (R.LOOP_VREF.TARGET s.page) * 1000 + marginMilli (s.fld (R.LOOP_PROT.OVM s.page))) / 1000) ++ [s.replyPec 0x40 [] (leBytes 2 ((s.fld (R.LOOP_VREF.TARGET s.page) * 1000 + marginMilli (s.fld (R.LOOP_PROT.OVM s.page))) / 1000))]).take m.clocked ∧
      t.host.refused = false ∧ Frame [.host] s t)) ∧
  (∀ (m : BusMsg) (s : State), s.busOn = false → exec (.voutOvFaultLimit m) s = .next s) ∧
  (∀ (m : BusMsg) (s : State), s.busOn = true → s.codeMay 0x40 false = true → m.read = true → m.data = [] →
      s.fld R.HOST_STATUS.PAGE = 0xFF → Does (.voutOvFaultLimit m) s (fun t =>
      t.host.refused = true ∧ t.host.reply = [] ∧ t.fld R.HOST_STATUS.CML = s.fld R.HOST_STATUS.CML ||| 2 ∧
      Frame [.regs, .host] s t ∧ RegsOnly [R.HOST_STATUS.reg] s t)) ∧
  (∀ (m : BusMsg) (s : State), s.takesRead m 0x40 true 0 = true →
      65536 ≤ ((s.fld (R.LOOP_VREF.TARGET s.page) * 1000 + marginMilli (s.fld (R.LOOP_PROT.OVM s.page))) / 1000) →
      Does (.voutOvFaultLimit m) s (fun t =>
      t.host.reply = (leBytes 2 (Config.freeWord s.freeCount).toNat ++ [s.replyPec 0x40 [] (leBytes 2 (Config.freeWord s.freeCount).toNat)]).take m.clocked ∧
      t.host.refused = false ∧ t.freeCount = s.freeCount + 1 ∧ Frame [.freeCount, .host] s t)) ∧
  (∀ (m : BusMsg) (s : State), s.takesRead m 0x44 true 0 = true → Does (.voutUvFaultLimit m) s (fun t =>
      t.host.reply = (leBytes 2 ((s.fld (R.LOOP_VREF.TARGET s.page) * 1000 - marginMilli (s.fld (R.LOOP_PROT.UVM s.page))) / 1000) ++ [s.replyPec 0x44 [] (leBytes 2 ((s.fld (R.LOOP_VREF.TARGET s.page) * 1000 - marginMilli (s.fld (R.LOOP_PROT.UVM s.page))) / 1000))]).take m.clocked ∧
      t.host.refused = false ∧ Frame [.host] s t)) ∧
  (∀ (m : BusMsg) (s : State), s.busOn = false → exec (.voutUvFaultLimit m) s = .next s) ∧
  (∀ (m : BusMsg) (s : State), s.busOn = true → s.codeMay 0x44 false = true → m.read = true → m.data = [] →
      s.fld R.HOST_STATUS.PAGE = 0xFF → Does (.voutUvFaultLimit m) s (fun t =>
      t.host.refused = true ∧ t.host.reply = [] ∧ t.fld R.HOST_STATUS.CML = s.fld R.HOST_STATUS.CML ||| 2 ∧
      Frame [.regs, .host] s t ∧ RegsOnly [R.HOST_STATUS.reg] s t)) ∧
  (∀ (m : BusMsg) (s : State), s.takesRead m 0x46 true 0 = true → Does (.ioutOcFaultLimit m) s (fun t =>
      t.host.reply = (leBytes 2 (linear11 (s.fld (R.LOOP_ILIM_EFF.LIM s.page) : Nat) 10).toNat ++ [s.replyPec 0x46 [] (leBytes 2 (linear11 (s.fld (R.LOOP_ILIM_EFF.LIM s.page) : Nat) 10).toNat)]).take m.clocked ∧
      t.host.refused = false ∧ Frame [.host] s t)) ∧
  (∀ (m : BusMsg) (s : State), s.busOn = false → exec (.ioutOcFaultLimit m) s = .next s) ∧
  (∀ (m : BusMsg) (s : State), s.busOn = true → s.codeMay 0x46 false = true → m.read = true → m.data = [] →
      s.fld R.HOST_STATUS.PAGE = 0xFF → Does (.ioutOcFaultLimit m) s (fun t =>
      t.host.refused = true ∧ t.host.reply = [] ∧ t.fld R.HOST_STATUS.CML = s.fld R.HOST_STATUS.CML ||| 2 ∧
      Frame [.regs, .host] s t ∧ RegsOnly [R.HOST_STATUS.reg] s t)) ∧
  (∀ (m : BusMsg) (s : State), s.takesRead m 0x78 true 0 = true → Does (.statusByte m) s (fun t =>
      t.host.reply = (leBytes 1 (s.statusWord s.page) ++ [s.replyPec 0x78 [] (leBytes 1 (s.statusWord s.page))]).take m.clocked ∧
      t.host.refused = false ∧ Frame [.host] s t)) ∧
  (∀ (m : BusMsg) (s : State), s.busOn = false → exec (.statusByte m) s = .next s) ∧
  (∀ (m : BusMsg) (s : State), s.busOn = true → s.codeMay 0x78 false = true → m.read = true → m.data = [] →
      s.fld R.HOST_STATUS.PAGE = 0xFF → Does (.statusByte m) s (fun t =>
      t.host.refused = true ∧ t.host.reply = [] ∧ t.fld R.HOST_STATUS.CML = s.fld R.HOST_STATUS.CML ||| 2 ∧
      Frame [.regs, .host] s t ∧ RegsOnly [R.HOST_STATUS.reg] s t)) ∧
  (∀ (m : BusMsg) (s : State), s.takesRead m 0x79 true 0 = true → Does (.statusWord m) s (fun t =>
      t.host.reply = (leBytes 2 (s.statusWord s.page) ++ [s.replyPec 0x79 [] (leBytes 2 (s.statusWord s.page))]).take m.clocked ∧
      t.host.refused = false ∧ Frame [.host] s t ∧ t.host.busy = false)) ∧
  (∀ (m : BusMsg) (s : State), s.busOn = false → exec (.statusWord m) s = .next s) ∧
  (∀ (m : BusMsg) (s : State), s.busOn = true → s.codeMay 0x79 false = true → m.read = true → m.data = [] →
      s.fld R.HOST_STATUS.PAGE = 0xFF → Does (.statusWord m) s (fun t =>
      t.host.refused = true ∧ t.host.reply = [] ∧ t.fld R.HOST_STATUS.CML = s.fld R.HOST_STATUS.CML ||| 2 ∧
      Frame [.regs, .host] s t ∧ RegsOnly [R.HOST_STATUS.reg] s t)) ∧
  (∀ (m : BusMsg) (s : State), s.takesRead m 0x7A true 0 = true → Does (.statusVout m) s (fun t =>
      t.host.reply = (leBytes 1 (Word.field (s.reg (R.HOST_PMST.reg s.page)) 0 8) ++ [s.replyPec 0x7A [] (leBytes 1 (Word.field (s.reg (R.HOST_PMST.reg s.page)) 0 8))]).take m.clocked ∧
      t.host.refused = false ∧ Frame [.host] s t)) ∧
  (∀ (m : BusMsg) (s : State), s.busOn = false → exec (.statusVout m) s = .next s) ∧
  (∀ (m : BusMsg) (s : State), s.busOn = true → s.codeMay 0x7A false = true → m.read = true → m.data = [] →
      s.fld R.HOST_STATUS.PAGE = 0xFF → Does (.statusVout m) s (fun t =>
      t.host.refused = true ∧ t.host.reply = [] ∧ t.fld R.HOST_STATUS.CML = s.fld R.HOST_STATUS.CML ||| 2 ∧
      Frame [.regs, .host] s t ∧ RegsOnly [R.HOST_STATUS.reg] s t)) ∧
  (∀ (m : BusMsg) (s : State), s.takesRead m 0x7B true 0 = true → Does (.statusIout m) s (fun t =>
      t.host.reply = (leBytes 1 (Word.field (s.reg (R.HOST_PMST.reg s.page)) 8 8) ++ [s.replyPec 0x7B [] (leBytes 1 (Word.field (s.reg (R.HOST_PMST.reg s.page)) 8 8))]).take m.clocked ∧
      t.host.refused = false ∧ Frame [.host] s t)) ∧
  (∀ (m : BusMsg) (s : State), s.busOn = false → exec (.statusIout m) s = .next s) ∧
  (∀ (m : BusMsg) (s : State), s.busOn = true → s.codeMay 0x7B false = true → m.read = true → m.data = [] →
      s.fld R.HOST_STATUS.PAGE = 0xFF → Does (.statusIout m) s (fun t =>
      t.host.refused = true ∧ t.host.reply = [] ∧ t.fld R.HOST_STATUS.CML = s.fld R.HOST_STATUS.CML ||| 2 ∧
      Frame [.regs, .host] s t ∧ RegsOnly [R.HOST_STATUS.reg] s t)) ∧
  (∀ (m : BusMsg) (s : State), s.takesRead m 0x7D true 0 = true → Does (.statusTemperature m) s (fun t =>
      t.host.reply = (leBytes 1 (Word.field (s.reg (R.HOST_PMST.reg s.page)) 16 8) ++ [s.replyPec 0x7D [] (leBytes 1 (Word.field (s.reg (R.HOST_PMST.reg s.page)) 16 8))]).take m.clocked ∧
      t.host.refused = false ∧ Frame [.host] s t)) ∧
  (∀ (m : BusMsg) (s : State), s.busOn = false → exec (.statusTemperature m) s = .next s) ∧
  (∀ (m : BusMsg) (s : State), s.busOn = true → s.codeMay 0x7D false = true → m.read = true → m.data = [] →
      s.fld R.HOST_STATUS.PAGE = 0xFF → Does (.statusTemperature m) s (fun t =>
      t.host.refused = true ∧ t.host.reply = [] ∧ t.fld R.HOST_STATUS.CML = s.fld R.HOST_STATUS.CML ||| 2 ∧
      Frame [.regs, .host] s t ∧ RegsOnly [R.HOST_STATUS.reg] s t)) ∧
  (∀ (m : BusMsg) (s : State), s.takesRead m 0x80 true 0 = true → Does (.statusMfrSpecific m) s (fun t =>
      t.host.reply = (leBytes 1 (Word.field (s.reg (R.HOST_PMST.reg s.page)) 24 8) ++ [s.replyPec 0x80 [] (leBytes 1 (Word.field (s.reg (R.HOST_PMST.reg s.page)) 24 8))]).take m.clocked ∧
      t.host.refused = false ∧ Frame [.host] s t)) ∧
  (∀ (m : BusMsg) (s : State), s.busOn = false → exec (.statusMfrSpecific m) s = .next s) ∧
  (∀ (m : BusMsg) (s : State), s.busOn = true → s.codeMay 0x80 false = true → m.read = true → m.data = [] →
      s.fld R.HOST_STATUS.PAGE = 0xFF → Does (.statusMfrSpecific m) s (fun t =>
      t.host.refused = true ∧ t.host.reply = [] ∧ t.fld R.HOST_STATUS.CML = s.fld R.HOST_STATUS.CML ||| 2 ∧
      Frame [.regs, .host] s t ∧ RegsOnly [R.HOST_STATUS.reg] s t)) ∧
  (∀ (m : BusMsg) (s : State), s.takesRead m 0x7E false 0 = true → Does (.statusCml m) s (fun t =>
      t.host.reply = (leBytes 1 (s.fld R.HOST_STATUS.CML) ++ [s.replyPec 0x7E [] (leBytes 1 (s.fld R.HOST_STATUS.CML))]).take m.clocked ∧
      t.host.refused = false ∧ Frame [.host] s t)) ∧
  (∀ (m : BusMsg) (s : State), s.busOn = false → exec (.statusCml m) s = .next s)

/-- PMBus readings and identification.  Each permitted, complete read of a reading or of the identification answers
its bytes with the PEC; READ_VIN and READ_TEMPERATURE_2 are refused while their value does not exist, a paged
read with PAGE 0xFF is refused, and READ_TEMPERATURE_1 of a loop with no assigned phase is a free value (log
entry 110). Clauses that a command whose precondition fails changes nothing rest on log entry 4.
(spec/14_host_bus.md.) -/
def Obligations.BusReadsOfValuesComplete : Prop :=
  (∀ (m : BusMsg) (s : State), s.takesRead m 0x88 false 0 = true → s.bit (R.MEAS_CH_STATUS.LV 63) = true →
      Does (.readVin m) s (fun t =>
      t.host.reply = (leBytes 2 (linear11 (s.latest 63) 100000).toNat ++ [s.replyPec 0x88 [] (leBytes 2 (linear11 (s.latest 63) 100000).toNat)]).take m.clocked ∧
      t.host.refused = false ∧ Frame [.host] s t)) ∧
  (∀ (m : BusMsg) (s : State), s.busOn = false → exec (.readVin m) s = .next s) ∧
  (∀ (m : BusMsg) (s : State), s.takesRead m 0x8B true 0 = true → Does (.readVout m) s (fun t =>
      t.host.reply = (leBytes 2 (s.fld (R.LOOP_VOUT.VOUT s.page)) ++ [s.replyPec 0x8B [] (leBytes 2 (s.fld (R.LOOP_VOUT.VOUT s.page)))]).take m.clocked ∧
      t.host.refused = false ∧ Frame [.host] s t)) ∧
  (∀ (m : BusMsg) (s : State), s.busOn = false → exec (.readVout m) s = .next s) ∧
  (∀ (m : BusMsg) (s : State), s.busOn = true → s.codeMay 0x8B false = true → m.read = true → m.data = [] →
      s.fld R.HOST_STATUS.PAGE = 0xFF → Does (.readVout m) s (fun t =>
      t.host.refused = true ∧ t.host.reply = [] ∧ t.fld R.HOST_STATUS.CML = s.fld R.HOST_STATUS.CML ||| 2 ∧
      Frame [.regs, .host] s t ∧ RegsOnly [R.HOST_STATUS.reg] s t)) ∧
  (∀ (m : BusMsg) (s : State), s.takesRead m 0x8C true 0 = true → Does (.readIout m) s (fun t =>
      t.host.reply = (leBytes 2 (linear11 (s.sfld (R.LOOP_IOUT.IOUT s.page)) 100).toNat ++ [s.replyPec 0x8C [] (leBytes 2 (linear11 (s.sfld (R.LOOP_IOUT.IOUT s.page)) 100).toNat)]).take m.clocked ∧
      t.host.refused = false ∧ Frame [.host] s t)) ∧
  (∀ (m : BusMsg) (s : State), s.busOn = false → exec (.readIout m) s = .next s) ∧
  (∀ (m : BusMsg) (s : State), s.busOn = true → s.codeMay 0x8C false = true → m.read = true → m.data = [] →
      s.fld R.HOST_STATUS.PAGE = 0xFF → Does (.readIout m) s (fun t =>
      t.host.refused = true ∧ t.host.reply = [] ∧ t.fld R.HOST_STATUS.CML = s.fld R.HOST_STATUS.CML ||| 2 ∧
      Frame [.regs, .host] s t ∧ RegsOnly [R.HOST_STATUS.reg] s t)) ∧
  (∀ (x : Int) (m : BusMsg) (s : State), s.takesRead m 0x8D true 0 = true →
      maxOf ((s.assigned s.page).map (fun p => s.sfld (R.PH_TEMP.TEMP p))) = some x →
      Does (.readTemperature1 m) s (fun t =>
      t.host.reply = (leBytes 2 (linear11 x 10).toNat ++ [s.replyPec 0x8D [] (leBytes 2 (linear11 x 10).toNat)]).take m.clocked ∧
      t.host.refused = false ∧ Frame [.host] s t)) ∧
  (∀ (m : BusMsg) (s : State), s.busOn = false → exec (.readTemperature1 m) s = .next s) ∧
  (∀ (m : BusMsg) (s : State), s.busOn = true → s.codeMay 0x8D false = true → m.read = true → m.data = [] →
      s.fld R.HOST_STATUS.PAGE = 0xFF → Does (.readTemperature1 m) s (fun t =>
      t.host.refused = true ∧ t.host.reply = [] ∧ t.fld R.HOST_STATUS.CML = s.fld R.HOST_STATUS.CML ||| 2 ∧
      Frame [.regs, .host] s t ∧ RegsOnly [R.HOST_STATUS.reg] s t)) ∧
  (∀ (x : Int) (m : BusMsg) (s : State), s.takesRead m 0x8E false 0 = true →
      maxOf ((([29, 30, 61, 90, 122] : List Nat).filter (fun c => s.bit (R.MEAS_CH_STATUS.LV c))).map s.latest) = some x →
      Does (.readTemperature2 m) s (fun t =>
      t.host.reply = (leBytes 2 (linear11 x 100).toNat ++ [s.replyPec 0x8E [] (leBytes 2 (linear11 x 100).toNat)]).take m.clocked ∧
      t.host.refused = false ∧ Frame [.host] s t)) ∧
  (∀ (m : BusMsg) (s : State), s.busOn = false → exec (.readTemperature2 m) s = .next s) ∧
  (∀ (m : BusMsg) (s : State), s.takesRead m 0x8E false 0 = true →
      (∀ k ∈ ([29, 30, 61, 90, 122] : List Nat), s.bit (R.MEAS_CH_STATUS.LV k) = false) →
      Does (.readTemperature2 m) s (fun t =>
      t.host.refused = true ∧ t.host.reply = [] ∧ t.fld R.HOST_STATUS.CML = s.fld R.HOST_STATUS.CML ||| 2 ∧
      Frame [.regs, .host] s t ∧ RegsOnly [R.HOST_STATUS.reg] s t ∧ t.host.busy = s.host.busy)) ∧
  (∀ (m : BusMsg) (s : State), s.takesRead m 0x88 false 0 = true → s.bit (R.MEAS_CH_STATUS.LV 63) = false →
      Does (.readVin m) s (fun t =>
      t.host.refused = true ∧ t.host.reply = [] ∧ t.fld R.HOST_STATUS.CML = s.fld R.HOST_STATUS.CML ||| 2 ∧
      Frame [.regs, .host] s t ∧ RegsOnly [R.HOST_STATUS.reg] s t ∧ t.host.busy = s.host.busy)) ∧
  (∀ (m : BusMsg) (s : State), s.takesRead m 0x8D true 0 = true → s.assigned s.page = [] →
      Does (.readTemperature1 m) s (fun t =>
      t.host.reply = (leBytes 2 (Config.freeWord s.freeCount).toNat ++ [s.replyPec 0x8D [] (leBytes 2 (Config.freeWord s.freeCount).toNat)]).take m.clocked ∧
      t.host.refused = false ∧ t.freeCount = s.freeCount + 1 ∧ Frame [.freeCount, .host] s t)) ∧
  (∀ (m : BusMsg) (s : State), s.takesRead m 0x98 false 0 = true → Does (.pmbusRevision m) s (fun t =>
      t.host.reply = ([0x44#8] ++ [s.replyPec 0x98 [] ([0x44#8])]).take m.clocked ∧ t.host.refused = false ∧
      Frame [.host] s t)) ∧
  (∀ (m : BusMsg) (s : State), s.busOn = false → exec (.pmbusRevision m) s = .next s) ∧
  (∀ (m : BusMsg) (s : State), s.takesRead m 0x99 false 0 = true → Does (.mfrId m) s (fun t =>
      t.host.reply = (blockOf maltanik ++ [s.replyPec 0x99 [] (blockOf maltanik)]).take m.clocked ∧
      t.host.refused = false ∧ Frame [.host] s t)) ∧
  (∀ (m : BusMsg) (s : State), s.busOn = false → exec (.mfrId m) s = .next s) ∧
  (∀ (m : BusMsg) (s : State), s.takesRead m 0x9A false 0 = true → Does (.mfrModel m) s (fun t =>
      t.host.reply = (blockOf dn8256 ++ [s.replyPec 0x9A [] (blockOf dn8256)]).take m.clocked ∧
      t.host.refused = false ∧ Frame [.host] s t)) ∧
  (∀ (m : BusMsg) (s : State), s.busOn = false → exec (.mfrModel m) s = .next s) ∧
  (∀ (m : BusMsg) (s : State), s.takesRead m 0x9B false 0 = true → Does (.mfrRevision m) s (fun t =>
      t.host.reply = (blockOf (s.openBus.ledgRead (reqCode .hostBus) 16 2).1 ++ [s.replyPec 0x9B [] (blockOf (s.openBus.ledgRead (reqCode .hostBus) 16 2).1)]).take m.clocked ∧
      t.host.refused = false ∧ Frame (.seq :: .link :: notes) s t ∧ RegsIn [B.evt, B.host, B.ledg, B.link] s t)) ∧
  (∀ (m : BusMsg) (s : State), s.busOn = false → exec (.mfrRevision m) s = .next s) ∧
  (∀ (m : BusMsg) (s : State), s.takesRead m 0x9E false 0 = true → Does (.mfrSerial m) s (fun t =>
      t.host.reply = (blockOf (s.openBus.ledgRead (reqCode .hostBus) 0 16).1 ++ [s.replyPec 0x9E [] (blockOf (s.openBus.ledgRead (reqCode .hostBus) 0 16).1)]).take m.clocked ∧
      t.host.refused = false ∧ Frame (.seq :: .link :: notes) s t ∧ RegsIn [B.evt, B.host, B.ledg, B.link] s t)) ∧
  (∀ (m : BusMsg) (s : State), s.busOn = false → exec (.mfrSerial m) s = .next s)

/-- Device reads of the two-wire bus.  Each permitted, complete read of a device command (window into SRAM, trace,
queue memory, bank, Ledger word or register, queue with the removal of its entries, snapshot channel, latest
value, events, faults, watchdog, parameters, digest, system, rail, mailbox) answers its bytes with the PEC, and
is refused while its value or resource does not exist or its window is not there or not permitted. Clauses that
a command whose precondition fails changes nothing rest on log entry 4.  (spec/14_host_bus.md,
spec/10_measurement.md.) -/
def Obligations.BusReadsOfTheDeviceComplete : Prop :=
  (∀ (m : BusMsg) (s : State), s.takesRead m 0xD0 false 0 = true → Does (.winAddr m) s (fun t =>
      t.host.reply = (blockOf (leBytes 4 s.host.winAddr.toNat ++ leBytes 1 s.host.winLen) ++ [s.replyPec 0xD0 [] (blockOf (leBytes 4 s.host.winAddr.toNat ++ leBytes 1 s.host.winLen))]).take m.clocked ∧
      t.host.refused = false ∧ Frame [.host] s t ∧ t.host.winAddr = s.host.winAddr)) ∧
  (∀ (m : BusMsg) (s : State), s.busOn = false → exec (.winAddr m) s = .next s) ∧
  (∀ (m : BusMsg) (s : State), s.takesRead m 0xD3 false 0 = true → Does (.qStatus m) s (fun t =>
      t.host.reply = (blockOf (leBytes 4 (s.reg R.MEAS_Q_STAT.reg).toNat) ++ [s.replyPec 0xD3 [] (blockOf (leBytes 4 (s.reg R.MEAS_Q_STAT.reg).toNat))]).take m.clocked ∧
      t.host.refused = false ∧ Frame [.host] s t)) ∧
  (∀ (m : BusMsg) (s : State), s.busOn = false → exec (.qStatus m) s = .next s) ∧
  (∀ (m : BusMsg) (s : State), s.takesRead m 0xDA false 0 = true → Does (.evtPend m) s (fun t =>
      t.host.reply = (blockOf ((List.range 4).flatMap (fun i => leBytes 4 (s.reg (R.EVT_PEND.reg i)).toNat)) ++ [s.replyPec 0xDA [] (blockOf ((List.range 4).flatMap (fun i => leBytes 4 (s.reg (R.EVT_PEND.reg i)).toNat)))]).take m.clocked ∧
      t.host.refused = false ∧ Frame [.host] s t)) ∧
  (∀ (m : BusMsg) (s : State), s.busOn = false → exec (.evtPend m) s = .next s) ∧
  (∀ (m : BusMsg) (s : State), s.takesRead m 0xDC false 0 = true → Does (.fstat m) s (fun t =>
      t.host.reply = (blockOf (leBytes 8 s.fstat.toNat) ++ [s.replyPec 0xDC [] (blockOf (leBytes 8 s.fstat.toNat))]).take m.clocked ∧
      t.host.refused = false ∧ Frame [.host] s t)) ∧
  (∀ (m : BusMsg) (s : State), s.busOn = false → exec (.fstat m) s = .next s) ∧
  (∀ (m : BusMsg) (s : State), s.takesRead m 0xDE false 0 = true → Does (.wdChal m) s (fun t =>
      t.host.reply = (leBytes 2 (s.openBus.readReg .hostBus R.SUP_WD_CHAL.reg).1.toNat ++ [s.replyPec 0xDE [] (leBytes 2 (s.openBus.readReg .hostBus R.SUP_WD_CHAL.reg).1.toNat)]).take m.clocked ∧
      t.host.refused = false ∧ Frame (.freeCount :: .seq :: .link :: .hiLatch :: notes) s t ∧
      RegsIn [B.evt, B.host, B.link] s t)) ∧
  (∀ (m : BusMsg) (s : State), s.busOn = false → exec (.wdChal m) s = .next s) ∧
  (∀ (m : BusMsg) (s : State), s.takesRead m 0xE1 false 0 = true → Does (.paramStat m) s (fun t =>
      t.host.reply = (leBytes 2 (Word.field (s.reg (R.ACRD_PARAM_STAT.reg (reqCode .hostBus))) 16 16) ++ [s.replyPec 0xE1 [] (leBytes 2 (Word.field (s.reg (R.ACRD_PARAM_STAT.reg (reqCode .hostBus))) 16 16))]).take m.clocked ∧
      t.host.refused = false ∧ Frame [.host] s t)) ∧
  (∀ (m : BusMsg) (s : State), s.busOn = false → exec (.paramStat m) s = .next s) ∧
  (∀ (m : BusMsg) (s : State), s.takesRead m 0xE2 false 0 = true → Does (.digest m) s (fun t =>
      t.host.reply = (blockOf (leBytes 4 (s.reg R.ACRD_DIGEST_LO.reg).toNat ++ leBytes 4 (s.reg R.ACRD_DIGEST_HI.reg).toNat ++ leBytes 4 (s.reg R.ACRD_VERSION.reg).toNat ++ leBytes 2 (s.fld R.ACRD_SVN.SVN) ++ leBytes 2 (s.reg R.ACRD_STATUS.reg).toNat) ++ [s.replyPec 0xE2 [] (blockOf (leBytes 4 (s.reg R.ACRD_DIGEST_LO.reg).toNat ++ leBytes 4 (s.reg R.ACRD_DIGEST_HI.reg).toNat ++ leBytes 4 (s.reg R.ACRD_VERSION.reg).toNat ++ leBytes 2 (s.fld R.ACRD_SVN.SVN) ++ leBytes 2 (s.reg R.ACRD_STATUS.reg).toNat))]).take m.clocked ∧
      t.host.refused = false ∧ Frame [.host] s t)) ∧
  (∀ (m : BusMsg) (s : State), s.busOn = false → exec (.digest m) s = .next s) ∧
  (∀ (m : BusMsg) (s : State), s.takesRead m 0xE3 false 0 = true → Does (.sysInfo m) s (fun t =>
      t.host.reply = (blockOf (leBytes 4 (s.openBus.shown R.SYS_STATUS.reg).1.toNat ++ leBytes 4 (s.reg R.SYS_RESET_CAUSE.reg).toNat ++ leBytes 4 (s.reg R.SYS_WAKE_CAUSE.reg).toNat ++ leBytes 4 (s.reg R.FLT_FIRST.reg).toNat ++ leBytes 8 s.now.toNat) ++ [s.replyPec 0xE3 [] (blockOf (leBytes 4 (s.openBus.shown R.SYS_STATUS.reg).1.toNat ++ leBytes 4 (s.reg R.SYS_RESET_CAUSE.reg).toNat ++ leBytes 4 (s.reg R.SYS_WAKE_CAUSE.reg).toNat ++ leBytes 4 (s.reg R.FLT_FIRST.reg).toNat ++ leBytes 8 s.now.toNat))]).take m.clocked ∧
      t.host.refused = false ∧ t.regs = s.regs ∧ Frame (.freeCount :: .seq :: .link :: notes) s t ∧
      RegsIn [B.evt, B.host, B.link] s t)) ∧
  (∀ (m : BusMsg) (s : State), s.busOn = false → exec (.sysInfo m) s = .next s) ∧
  (∀ (m : BusMsg) (s : State), s.takesRead m 0xE6 false 1 = true → bytesLE m.data < 64 →
      Does (.railStatus m) s (fun t =>
      t.host.reply = (blockOf (leBytes 4 (s.reg (R.SEQ_RAIL_STATUS.reg (bytesLE m.data))).toNat ++ leBytes 4 (s.reg (R.SEQ_RAIL_CNT.reg (bytesLE m.data))).toNat) ++ [s.replyPec 0xE6 (BitVec.ofNat 8 1 :: m.data) (blockOf (leBytes 4 (s.reg (R.SEQ_RAIL_STATUS.reg (bytesLE m.data))).toNat ++ leBytes 4 (s.reg (R.SEQ_RAIL_CNT.reg (bytesLE m.data))).toNat))]).take m.clocked ∧
      t.host.refused = false ∧ Frame [.host] s t)) ∧
  (∀ (m : BusMsg) (s : State), s.busOn = false → exec (.railStatus m) s = .next s) ∧
  (∀ (m : BusMsg) (s : State), s.takesRead m 0xD9 false 1 = true →
      s.bit (R.MEAS_CH_STATUS.LV (bytesLE m.data)) = true → Does (.latest m) s (fun t =>
      t.host.reply = (blockOf (leBytes 3 (unsignedOf 24 (s.latest (bytesLE m.data))) ++ leBytes 1 (Word.field (s.reg (R.MEAS_CH_STATUS.reg (bytesLE m.data))) 24 8)) ++ [s.replyPec 0xD9 (BitVec.ofNat 8 1 :: m.data) (blockOf (leBytes 3 (unsignedOf 24 (s.latest (bytesLE m.data))) ++ leBytes 1 (Word.field (s.reg (R.MEAS_CH_STATUS.reg (bytesLE m.data))) 24 8)))]).take m.clocked ∧
      t.host.refused = false ∧ Frame [.host] s t)) ∧
  (∀ (m : BusMsg) (s : State), s.busOn = false → exec (.latest m) s = .next s) ∧
  (∀ (m : BusMsg) (s : State), s.takesRead m 0xD2 false 0 = true → Does (.qRead m) s (fun t =>
      t.host.reply = (blockOf ((s.hostEntries 15).flatMap QEntry.bytes) ++ [s.replyPec 0xD2 [] (blockOf ((s.hostEntries 15).flatMap QEntry.bytes))]).take m.clocked ∧
      t.host.refused = false ∧ (s.hostEntries 15 = [] → Frame [.host] s t) ∧ t.meas = s.meas)) ∧
  (∀ (m : BusMsg) (s : State), s.busOn = false → exec (.qRead m) s = .next s) ∧
  (∀ (m : BusMsg) (s : State), s.takesRead m 0xD2 false 0 = true → (s.hostEntries 15) ≠ [] →
      (blockOf ((s.hostEntries 15).flatMap QEntry.bytes)).length < m.clocked → m.pec ≠ .bad →
      Does (.qRead m) s (fun t =>
      t.host.reply = (blockOf ((s.hostEntries 15).flatMap QEntry.bytes) ++ [s.replyPec 0xD2 [] (blockOf ((s.hostEntries 15).flatMap QEntry.bytes))]).take m.clocked ∧
      t.fld R.MEAS_Q_STAT.COUNT = s.fld R.MEAS_Q_STAT.COUNT - (s.hostEntries 15).length ∧
      t.fld R.MEAS_Q_PTR.RD = (s.fld R.MEAS_Q_PTR.RD + (s.hostEntries 15).length) % s.queueDepth % 4096 ∧
      Frame (.seq :: .link :: notes) s t ∧ RegsIn [B.evt, B.host, B.link, B.meas] s t)) ∧
  (∀ (m : BusMsg) (s : State), s.takesRead m 0xD2 false 0 = true →
      m.clocked < (blockOf ((s.hostEntries 15).flatMap QEntry.bytes)).length → Does (.qRead m) s (fun t =>
      Frame [.host] s t)) ∧
  (∀ (m : BusMsg) (s : State), s.takesRead m 0xE8 false 0 = true → s.fld R.HOST_MBOX_STAT.OUTLEN ≠ 0 →
      Does (.mboxRead m) s (fun t =>
      t.host.reply = (blockOf s.outbox ++ [s.replyPec 0xE8 [] (blockOf s.outbox)]).take m.clocked ∧
      t.host.refused = false ∧
      ((blockOf s.outbox).length < m.clocked → m.pec ≠ .bad → t.fld R.HOST_MBOX_STAT.OUTLEN = 0) ∧
      RegsOnly [R.HOST_MBOX_STAT.reg] s t ∧ Frame (.seq :: .link :: notes) s t)) ∧
  (∀ (m : BusMsg) (s : State), s.busOn = false → exec (.mboxRead m) s = .next s) ∧
  (∀ (buf : Fin 4) (m : BusMsg) (s : State), s.takesRead m (0xD5 + buf.val) false 1 = true →
      s.bit (R.MEAS_SNAP_STAT.READY buf) = false → Does (.snapRead buf m) s (fun t =>
      t.host.refused = true ∧ t.host.reply = [] ∧ t.fld R.HOST_STATUS.CML = s.fld R.HOST_STATUS.CML ||| 2 ∧
      Frame [.regs, .host] s t)) ∧
  (∀ (buf : Fin 4) (m : BusMsg) (s : State), s.busOn = false → exec (.snapRead buf m) s = .next s) ∧
  (∀ (buf : Fin 4) (m : BusMsg) (s : State), s.takesRead m (0xD5 + buf.val) false 1 = true →
      s.bit (R.MEAS_SNAP_STAT.READY buf) = true → Does (.snapRead buf m) s (fun t =>
      t.host.refused = false ∧
      t.host.reply = ((blockOf (leBytes 2 (s.fld (R.MEAS_SNAP_STAT.SEQ buf)) ++ leBytes 1 (1 + (if ((s.snapBuf buf).chans.at SnapChan.zero (bytesLE m.data)).cnt = 0 then 2 else 0) + (if ((s.snapBuf buf).chans.at SnapChan.zero (bytesLE m.data)).frozen then 4 else 0)) ++ [0#8] ++ leBytes 8 (unsignedOf 64 ((s.snapBuf buf).chans.at SnapChan.zero (bytesLE m.data)).sum) ++ leBytes 4 ((s.snapBuf buf).chans.at SnapChan.zero (bytesLE m.data)).cnt ++ leBytes 4 (unsignedOf 32 ((s.snapBuf buf).chans.at SnapChan.zero (bytesLE m.data)).min) ++ leBytes 4 (unsignedOf 32 ((s.snapBuf buf).chans.at SnapChan.zero (bytesLE m.data)).max) ++ leBytes 8 (s.snapBuf buf).time.toNat)) ++ [s.replyPec (0xD5 + buf.val) (BitVec.ofNat 8 1 :: m.data) (blockOf (leBytes 2 (s.fld (R.MEAS_SNAP_STAT.SEQ buf)) ++ leBytes 1 (1 + (if ((s.snapBuf buf).chans.at SnapChan.zero (bytesLE m.data)).cnt = 0 then 2 else 0) + (if ((s.snapBuf buf).chans.at SnapChan.zero (bytesLE m.data)).frozen then 4 else 0)) ++ [0#8] ++ leBytes 8 (unsignedOf 64 ((s.snapBuf buf).chans.at SnapChan.zero (bytesLE m.data)).sum) ++ leBytes 4 ((s.snapBuf buf).chans.at SnapChan.zero (bytesLE m.data)).cnt ++ leBytes 4 (unsignedOf 32 ((s.snapBuf buf).chans.at SnapChan.zero (bytesLE m.data)).min) ++ leBytes 4 (unsignedOf 32 ((s.snapBuf buf).chans.at SnapChan.zero (bytesLE m.data)).max) ++ leBytes 8 (s.snapBuf buf).time.toNat))]).take m.clocked ∧
      Frame [.host] s t)) ∧
  (∀ (m : BusMsg) (s : State), s.takesRead m 0xD9 false 1 = true →
      s.bit (R.MEAS_CH_STATUS.LV (bytesLE m.data)) = false → Does (.latest m) s (fun t =>
      t.host.refused = true ∧ t.host.reply = [] ∧ t.fld R.HOST_STATUS.CML = s.fld R.HOST_STATUS.CML ||| 2 ∧
      Frame [.regs, .host] s t ∧ RegsOnly [R.HOST_STATUS.reg] s t ∧ t.host.busy = s.host.busy)) ∧
  (∀ (m : BusMsg) (s : State), s.takesRead m 0xE8 false 0 = true → s.fld R.HOST_MBOX_STAT.OUTLEN = 0 →
      Does (.mboxRead m) s (fun t =>
      t.host.refused = true ∧ t.host.reply = [] ∧ t.fld R.HOST_STATUS.CML = s.fld R.HOST_STATUS.CML ||| 2 ∧
      Frame [.regs, .host] s t ∧ RegsOnly [R.HOST_STATUS.reg] s t ∧ t.host.busy = true)) ∧
  (∀ (o : Nat) (m : BusMsg) (s : State), s.takesRead m 0xD1 false 0 = true →
      placeFits s.host.winAddr.toNat s.host.winLen = true →
      s.rangeMay false false s.host.winAddr.toNat s.host.winLen = true → m.errs = [] →
      placeOf s.host.winAddr.toNat = some (.sram o) → s.sramPoisoned o s.host.winLen = false →
      s.evt.eccNext = [] → Does (.winData m) s (fun t =>
      t.host.reply = (blockOf (s.sramBytes o s.host.winLen) ++ [s.replyPec 0xD1 [] (blockOf (s.sramBytes o s.host.winLen))]).take m.clocked ∧
      (s.host.winLen + 1 < m.clocked → m.pec ≠ .bad → t.host.winAddr = BitVec.ofNat 32 (s.host.winAddr.toNat + s.host.winLen)) ∧
      t.evt.sram = s.evt.sram ∧ t.regs = s.regs)) ∧
  (∀ (m : BusMsg) (s : State), s.busOn = false → exec (.winData m) s = .next s) ∧
  (∀ (o : Nat) (m : BusMsg) (s : State), s.takesRead m 0xD1 false 0 = true →
      placeFits s.host.winAddr.toNat s.host.winLen = true →
      s.rangeMay false false s.host.winAddr.toNat s.host.winLen = true → m.errs = [] →
      placeOf s.host.winAddr.toNat = some (.trace o) → Does (.winData m) s (fun t =>
      t.host.reply = (blockOf (s.traceBytes o s.host.winLen) ++ [s.replyPec 0xD1 [] (blockOf (s.traceBytes o s.host.winLen))]).take m.clocked ∧
      (s.host.winLen + 1 < m.clocked → m.pec ≠ .bad → t.host.winAddr = BitVec.ofNat 32 (s.host.winAddr.toNat + s.host.winLen)) ∧
      Frame [.host] s t)) ∧
  (∀ (o : Nat) (m : BusMsg) (s : State), s.takesRead m 0xD1 false 0 = true →
      placeFits s.host.winAddr.toNat s.host.winLen = true →
      s.rangeMay false false s.host.winAddr.toNat s.host.winLen = true → m.errs = [] →
      placeOf s.host.winAddr.toNat = some (.queue o) → Does (.winData m) s (fun t =>
      t.host.reply = (blockOf (s.queueBytes o s.host.winLen) ++ [s.replyPec 0xD1 [] (blockOf (s.queueBytes o s.host.winLen))]).take m.clocked ∧
      (s.host.winLen + 1 < m.clocked → m.pec ≠ .bad → t.host.winAddr = BitVec.ofNat 32 (s.host.winAddr.toNat + s.host.winLen)) ∧
      Frame [.host] s t)) ∧
  (∀ (b : Bool) (o : Nat) (m : BusMsg) (s : State), s.takesRead m 0xD1 false 0 = true →
      placeFits s.host.winAddr.toNat s.host.winLen = true →
      s.rangeMay false false s.host.winAddr.toNat s.host.winLen = true → m.errs = [] →
      placeOf s.host.winAddr.toNat = some (.bank b o) → Does (.winData m) s (fun t =>
      t.host.reply = (blockOf (s.bankRead b o s.host.winLen) ++ [s.replyPec 0xD1 [] (blockOf (s.bankRead b o s.host.winLen))]).take m.clocked ∧
      (s.host.winLen + 1 < m.clocked → m.pec ≠ .bad → t.host.winAddr = BitVec.ofNat 32 (s.host.winAddr.toNat + s.host.winLen)) ∧
      Frame [.host] s t)) ∧
  (∀ (w : Nat) (m : BusMsg) (s : State), s.takesRead m 0xD1 false 0 = true →
      placeFits s.host.winAddr.toNat s.host.winLen = true →
      s.rangeMay false false s.host.winAddr.toNat s.host.winLen = true → m.errs = [] →
      placeOf s.host.winAddr.toNat = some (.ledger (8 * w)) → s.host.winLen = 8 → Does (.winData m) s (fun t =>
      t.host.reply = (blockOf ((match s.slotOf (w / 8) with | some x => leBytes 8 (BitVec.ofNat 64 (bytesAt x.image (8 * (w % 8)) 8)).toNat | none => if s.ledg.poison.at false (w) then List.replicate 8 0xFF#8 else leBytes 8 (s.ledg.array.at 0#64 (w)).toNat)) ++ [s.replyPec 0xD1 [] (blockOf ((match s.slotOf (w / 8) with | some x => leBytes 8 (BitVec.ofNat 64 (bytesAt x.image (8 * (w % 8)) 8)).toNat | none => if s.ledg.poison.at false (w) then List.replicate 8 0xFF#8 else leBytes 8 (s.ledg.array.at 0#64 (w)).toNat)))]).take m.clocked ∧
      (s.host.winLen + 1 < m.clocked → m.pec ≠ .bad → t.host.winAddr = BitVec.ofNat 32 (s.host.winAddr.toNat + s.host.winLen)) ∧
      t.ledg.array = s.ledg.array ∧ t.bit (R.LEDG_RSTAT.BUF (reqCode .hostBus)) = (s.slotOf (w / 8)).isSome)) ∧
  (∀ (x : RegRow) (m : BusMsg) (s : State), s.takesRead m 0xD1 false 0 = true →
      placeFits s.host.winAddr.toNat s.host.winLen = true →
      s.rangeMay false false s.host.winAddr.toNat s.host.winLen = true → m.errs = [] →
      0x40020000 ≤ s.host.winAddr.toNat → s.host.winAddr.toNat < 0x40030000 → s.host.winAddr.toNat % 4 = 0 →
      s.host.winLen = 4 → regRowOf s.host.winAddr.toNat = some x → x.wo = 0 → Does (.winData m) s (fun t =>
      t.host.reply = (blockOf (leBytes 4 (s.reg s.host.winAddr.toNat).toNat) ++ [s.replyPec 0xD1 [] (blockOf (leBytes 4 (s.reg s.host.winAddr.toNat).toNat))]).take m.clocked ∧
      (s.host.winLen + 1 < m.clocked → m.pec ≠ .bad → t.host.winAddr = BitVec.ofNat 32 (s.host.winAddr.toNat + s.host.winLen)) ∧
      Frame [.host] s t)) ∧
  (∀ (m : BusMsg) (s : State), s.busOn = true → s.codeMay 0xD1 (!m.read) = true → m.read = true → m.errs = [] →
      (placeFits s.host.winAddr.toNat s.host.winLen = false ∨ inBlock s.host.winAddr.toNat = true ∧ (s.host.winAddr.toNat % 4 ≠ 0 ∨ s.host.winLen % 4 ≠ 0)) →
      Does (.winData m) s (fun t =>
      t.fld R.HOST_STATUS.CML = s.fld R.HOST_STATUS.CML ||| 2 ∧ t.host.refused = true ∧ t.host.reply = [] ∧
      Frame [.regs, .host] s t ∧ RegsOnly [R.HOST_STATUS.reg] s t)) ∧
  (∀ (m : BusMsg) (s : State), s.busOn = true → s.codeMay 0xD1 (!m.read) = true → m.read = true → m.errs = [] →
      placeFits s.host.winAddr.toNat s.host.winLen = true → inBlock s.host.winAddr.toNat = false →
      s.rangeMay false false s.host.winAddr.toNat s.host.winLen = false → Does (.winData m) s (fun t =>
      t.fld R.HOST_STATUS.CML = s.fld R.HOST_STATUS.CML ||| 0x80 ∧ t.host.refused = true ∧ t.host.reply = [] ∧
      Frame [.regs, .host] s t ∧ RegsOnly [R.HOST_STATUS.reg] s t))

/-- Writes of the two-wire bus.  Each permitted, complete write with a good PEC has its effect on the loops of the
page, or of all with PAGE 0xFF, the status registers, the window (SRAM, register, Ledger, bank) or the mailbox
with its EV_066, and HOST_LAST_TS takes the time; invalid data sets STATUS_CML bit 6 and applies nothing; a
Ledger or bank write that is refused or busy is refused. Of every command: a wrong length or an unfinished write
counts in HOST_CNT.PROTO and raises FS_57, a wrong or missing PEC counts in HOST_CNT.PEC, sets STATUS_CML bit 5
and raises FS_56, and neither applies anything. Clauses that a command whose precondition fails changes nothing
rest on log entry 4.  (spec/14_host_bus.md.) -/
def Obligations.BusWritesComplete : Prop :=
  (∀ (m : BusMsg) (s : State), s.takesWrite m 0x00 1 1 = true → 0x17 < bytesLE m.data → bytesLE m.data ≠ 0xFF →
      Does (.page m) s (fun t =>
      t.fld R.HOST_STATUS.CML = s.fld R.HOST_STATUS.CML ||| 0x40 ∧ t.host.refused = false ∧
      Frame [.regs, .host] s t ∧ RegsOnly [R.HOST_STATUS.reg] s t)) ∧
  (∀ (m : BusMsg) (s : State), s.takesWrite m 0x01 1 1 = true → bytesLE m.data ≠ 0x80 → bytesLE m.data ≠ 0 →
      Does (.operation m) s (fun t =>
      t.fld R.HOST_STATUS.CML = s.fld R.HOST_STATUS.CML ||| 0x40 ∧ t.host.refused = false ∧
      Frame [.regs, .host] s t ∧ RegsOnly [R.HOST_STATUS.reg] s t)) ∧
  (∀ (m : BusMsg) (s : State), s.takesWrite m 0x01 1 1 = true → (bytesLE m.data = 0x80 ∨ bytesLE m.data = 0) →
      s.page < 24 → s.railOfLoop s.page = none → Does (.operation m) s (fun t =>
      t.fld R.HOST_STATUS.CML = s.fld R.HOST_STATUS.CML ||| 0x40 ∧ t.host.refused = false ∧
      Frame [.regs, .host] s t ∧ RegsOnly [R.HOST_STATUS.reg] s t)) ∧
  (∀ (m : BusMsg) (s : State), s.takesWrite m 0x27 2 2 = true →
      (ofLinear11 (BitVec.ofNat 16 (wordOf m.data)) ≤ 0 ∨ 50 * 65536 < ofLinear11 (BitVec.ofNat 16 (wordOf m.data))) →
      Does (.voutTransitionRate m) s (fun t =>
      t.fld R.HOST_STATUS.CML = s.fld R.HOST_STATUS.CML ||| 0x40 ∧ t.host.refused = false ∧
      Frame [.regs, .host] s t ∧ RegsOnly [R.HOST_STATUS.reg] s t)) ∧
  (∀ (m : BusMsg) (s : State), s.takesWrite m 0xD0 4 5 = true → m.data.length = 5 →
      (m.data.getD 4 0#8).toNat = 0 → Does (.winAddr m) s (fun t =>
      t.fld R.HOST_STATUS.CML = s.fld R.HOST_STATUS.CML ||| 0x40 ∧ t.host.refused = false ∧
      Frame [.regs, .host] s t ∧ RegsOnly [R.HOST_STATUS.reg] s t)) ∧
  (∀ (m : BusMsg) (s : State), s.takesWrite m 0x00 1 1 = true → (bytesLE m.data ≤ 0x17 ∨ bytesLE m.data = 0xFF) →
      Does (.page m) s (fun t =>
      t.fld R.HOST_STATUS.PAGE = bytesLE m.data ∧ t.host.refused = false ∧
      t.pair R.HOST_LAST_TS_LO.reg R.HOST_LAST_TS_HI.reg = s.now ∧ Frame (.seq :: .link :: notes) s t ∧
      RegsIn [B.evt, B.host, B.link] s t)) ∧
  (∀ (r : Nat) (m : BusMsg) (s : State), s.takesWrite m 0x01 1 1 = true → s.page < 24 →
      s.railOfLoop s.page = some r → s.railCtrlOk r = true → bytesLE m.data = 0x80 →
      Does (.operation m) s (fun t =>
      t.bit (R.SEQ_RAIL_STATUS.REQ r) = true ∧ t.pair R.HOST_LAST_TS_LO.reg R.HOST_LAST_TS_HI.reg = s.now ∧
      Frame (.rails :: .seq :: .link :: notes) s t ∧ RegsIn [B.evt, B.host, B.link, B.seq] s t)) ∧
  (∀ (r : Nat) (m : BusMsg) (s : State), s.takesWrite m 0x01 1 1 = true → s.page < 24 →
      s.railOfLoop s.page = some r → s.railCtrlOk r = true → bytesLE m.data = 0 →
      Does (.operation m) s (fun t =>
      t.bit (R.SEQ_RAIL_STATUS.REQ r) = false ∧ t.pair R.HOST_LAST_TS_LO.reg R.HOST_LAST_TS_HI.reg = s.now ∧
      Frame (.rails :: .seq :: .link :: notes) s t ∧ RegsIn [B.evt, B.host, B.link, B.seq] s t)) ∧
  (∀ (m : BusMsg) (s : State), s.takesWrite m 0x03 0 0 = true → Does (.clearFaults m) s (fun t =>
      t.fld R.HOST_STATUS.CML = 0 ∧ t.host.refused = false ∧
      t.pair R.HOST_LAST_TS_LO.reg R.HOST_LAST_TS_HI.reg = s.now ∧ Frame (.seq :: .link :: notes) s t ∧
      RegsIn [B.evt, B.host] s t)) ∧
  (∀ (m : BusMsg) (s : State), s.busOn = false → exec (.clearFaults m) s = .next s) ∧
  (∀ (m : BusMsg) (s : State), s.takesWrite m 0x21 2 2 = true → s.page < 24 → s.lstate s.page = L.off →
      s.refusal s.page .hostBus (wordOf m.data) = none → Does (.voutCommand m) s (fun t =>
      t.target s.page = wordOf m.data ∧ t.pair R.HOST_LAST_TS_LO.reg R.HOST_LAST_TS_HI.reg = s.now ∧
      Frame (.loops :: .seq :: .link :: notes) s t ∧ RegsIn [B.evt, B.host, B.link, B.loop] s t)) ∧
  (∀ (m : BusMsg) (s : State), s.takesWrite m 0x27 2 2 = true → s.page < 24 →
      0 < (ofLinear11 (BitVec.ofNat 16 (wordOf m.data))) →
      (ofLinear11 (BitVec.ofNat 16 (wordOf m.data))) ≤ 50 * 65536 → Does (.voutTransitionRate m) s (fun t =>
      t.fld (R.LOOP_SLEW.RATE s.page) = (roundDiv ((ofLinear11 (BitVec.ofNat 16 (wordOf m.data))) * 20) 65536).toNat % 1024 ∧
      t.pair R.HOST_LAST_TS_LO.reg R.HOST_LAST_TS_HI.reg = s.now ∧ Frame (.seq :: .link :: notes) s t ∧
      RegsIn [B.evt, B.host, B.link, B.loop] s t)) ∧
  (∀ (m : BusMsg) (s : State), s.takesWrite m 0x27 2 2 = true → s.page = 0xFF →
      0 < (ofLinear11 (BitVec.ofNat 16 (wordOf m.data))) →
      (ofLinear11 (BitVec.ofNat 16 (wordOf m.data))) ≤ 50 * 65536 → Does (.voutTransitionRate m) s (fun t =>
      (∀ n, n < 24 → t.fld (R.LOOP_SLEW.RATE n) = (roundDiv ((ofLinear11 (BitVec.ofNat 16 (wordOf m.data))) * 20) 65536).toNat % 1024) ∧
      t.pair R.HOST_LAST_TS_LO.reg R.HOST_LAST_TS_HI.reg = s.now ∧ Frame (.seq :: .link :: notes) s t ∧
      RegsIn [B.evt, B.host, B.link, B.loop] s t)) ∧
  (∀ (m : BusMsg) (s : State), s.takesWrite m 0x21 2 2 = true → s.page = 0xFF → Does (.voutCommand m) s (fun t =>
      (∀ n, n < 24 → s.lstate n = L.off → s.refusal n .hostBus (wordOf m.data) = none → t.target n = wordOf m.data) ∧
      t.pair R.HOST_LAST_TS_LO.reg R.HOST_LAST_TS_HI.reg = s.now ∧
      Frame (.loops :: .seq :: .link :: notes) s t ∧ RegsIn [B.evt, B.host, B.link, B.loop] s t)) ∧
  (∀ (m : BusMsg) (s : State), s.takesWrite m 0x03 0 0 = true → s.page = 0xFF → Does (.clearFaults m) s (fun t =>
      (∀ n, n < 24 → t.reg (R.HOST_PMST.reg n) = s.pmLive n) ∧
      (∀ n, n < 24 → t.host.pm.at 0#16 n = s.pmLiveWord n) ∧
      t.pair R.HOST_LAST_TS_LO.reg R.HOST_LAST_TS_HI.reg = s.now ∧ Frame (.seq :: .link :: notes) s t ∧
      RegsIn [B.evt, B.host] s t)) ∧
  (∀ (m : BusMsg) (s : State), s.busOn = false → exec (.clearFaults m) s = .next s) ∧
  (∀ (m : BusMsg) (s : State), s.takesWrite m 0x03 0 0 = true → s.page < 24 → Does (.clearFaults m) s (fun t =>
      t.reg (R.HOST_PMST.reg s.page) = s.pmLive s.page ∧ t.host.pm.at 0#16 s.page = s.pmLiveWord s.page ∧
      t.pair R.HOST_LAST_TS_LO.reg R.HOST_LAST_TS_HI.reg = s.now ∧ Frame (.seq :: .link :: notes) s t ∧
      RegsIn [B.evt, B.host] s t)) ∧
  (∀ (m : BusMsg) (s : State), s.busOn = false → exec (.clearFaults m) s = .next s) ∧
  (∀ (r k : Nat) (m : BusMsg) (s : State), s.takesWrite m 0x01 1 1 = true → s.page = 0xFF →
      s.railOfLoop k = some r → k < 24 → s.railCtrlOk r = true → (bytesLE m.data = 0x80 ∨ bytesLE m.data = 0) →
      Does (.operation m) s (fun t =>
      t.bit (R.SEQ_RAIL_STATUS.REQ r) = decide (bytesLE m.data = 0x80) ∧
      ((List.range 24).any (fun j => (s.railOfLoop j).isNone) = true → t.fld R.HOST_STATUS.CML = s.fld R.HOST_STATUS.CML ||| 0x40) ∧
      t.pair R.HOST_LAST_TS_LO.reg R.HOST_LAST_TS_HI.reg = s.now ∧
      Frame (.rails :: .seq :: .link :: notes) s t ∧ RegsIn [B.evt, B.host, B.link, B.seq] s t)) ∧
  (∀ (m : BusMsg) (s : State), s.takesWrite m 0x78 1 1 = true → s.page = 0xFF → Does (.statusByte m) s (fun t =>
      (∀ n, n < 24 → t.host.pm.at 0#16 n = ((s.host.pm.at 0#16 n &&& ~~~(BitVec.ofNat 16 (bytesLE m.data) &&& statusLatched)) ||| (s.pmLiveWord n &&& (BitVec.ofNat 16 (bytesLE m.data) &&& statusLatched)))) ∧
      t.pair R.HOST_LAST_TS_LO.reg R.HOST_LAST_TS_HI.reg = s.now ∧ Frame (.seq :: .link :: notes) s t ∧
      RegsIn [B.evt, B.host, B.link] s t)) ∧
  (∀ (m : BusMsg) (s : State), s.takesWrite m 0x79 2 2 = true → s.page = 0xFF → Does (.statusWord m) s (fun t =>
      (∀ n, n < 24 → t.host.pm.at 0#16 n = ((s.host.pm.at 0#16 n &&& ~~~(BitVec.ofNat 16 (wordOf m.data) &&& statusLatched)) ||| (s.pmLiveWord n &&& (BitVec.ofNat 16 (wordOf m.data) &&& statusLatched)))) ∧
      t.pair R.HOST_LAST_TS_LO.reg R.HOST_LAST_TS_HI.reg = s.now ∧ Frame (.seq :: .link :: notes) s t ∧
      RegsIn [B.evt, B.host, B.link] s t)) ∧
  (∀ (m : BusMsg) (s : State), s.takesWrite m 0x7A 1 1 = true → s.page = 0xFF → Does (.statusVout m) s (fun t =>
      (∀ n, n < 24 → t.reg (R.HOST_PMST.reg n) = ((s.reg (R.HOST_PMST.reg n) &&& ~~~(BitVec.ofNat 32 (bytesLE m.data * 2 ^ 0))) ||| (s.pmLive n &&& (BitVec.ofNat 32 (bytesLE m.data * 2 ^ 0))))) ∧
      t.pair R.HOST_LAST_TS_LO.reg R.HOST_LAST_TS_HI.reg = s.now ∧ Frame (.seq :: .link :: notes) s t ∧
      RegsIn [B.evt, B.host, B.link] s t)) ∧
  (∀ (m : BusMsg) (s : State), s.takesWrite m 0x7B 1 1 = true → s.page = 0xFF → Does (.statusIout m) s (fun t =>
      (∀ n, n < 24 → t.reg (R.HOST_PMST.reg n) = ((s.reg (R.HOST_PMST.reg n) &&& ~~~(BitVec.ofNat 32 (bytesLE m.data * 2 ^ 8))) ||| (s.pmLive n &&& (BitVec.ofNat 32 (bytesLE m.data * 2 ^ 8))))) ∧
      t.pair R.HOST_LAST_TS_LO.reg R.HOST_LAST_TS_HI.reg = s.now ∧ Frame (.seq :: .link :: notes) s t ∧
      RegsIn [B.evt, B.host, B.link] s t)) ∧
  (∀ (m : BusMsg) (s : State), s.takesWrite m 0x7D 1 1 = true → s.page = 0xFF →
      Does (.statusTemperature m) s (fun t =>
      (∀ n, n < 24 → t.reg (R.HOST_PMST.reg n) = ((s.reg (R.HOST_PMST.reg n) &&& ~~~(BitVec.ofNat 32 (bytesLE m.data * 2 ^ 16))) ||| (s.pmLive n &&& (BitVec.ofNat 32 (bytesLE m.data * 2 ^ 16))))) ∧
      t.pair R.HOST_LAST_TS_LO.reg R.HOST_LAST_TS_HI.reg = s.now ∧ Frame (.seq :: .link :: notes) s t ∧
      RegsIn [B.evt, B.host, B.link] s t)) ∧
  (∀ (m : BusMsg) (s : State), s.takesWrite m 0x80 1 1 = true → s.page = 0xFF →
      Does (.statusMfrSpecific m) s (fun t =>
      (∀ n, n < 24 → t.reg (R.HOST_PMST.reg n) = ((s.reg (R.HOST_PMST.reg n) &&& ~~~(BitVec.ofNat 32 (bytesLE m.data * 2 ^ 24))) ||| (s.pmLive n &&& (BitVec.ofNat 32 (bytesLE m.data * 2 ^ 24))))) ∧
      t.pair R.HOST_LAST_TS_LO.reg R.HOST_LAST_TS_HI.reg = s.now ∧ Frame (.seq :: .link :: notes) s t ∧
      RegsIn [B.evt, B.host, B.link] s t)) ∧
  (∀ (m : BusMsg) (s : State), s.takesWrite m 0x78 1 1 = true → s.page < 24 → Does (.statusByte m) s (fun t =>
      t.host.pm.at 0#16 s.page = ((s.host.pm.at 0#16 s.page &&& ~~~(BitVec.ofNat 16 (bytesLE m.data) &&& statusLatched)) ||| (s.pmLiveWord s.page &&& (BitVec.ofNat 16 (bytesLE m.data) &&& statusLatched))) ∧
      t.pair R.HOST_LAST_TS_LO.reg R.HOST_LAST_TS_HI.reg = s.now ∧ Frame (.seq :: .link :: notes) s t ∧
      RegsIn [B.evt, B.host, B.link] s t)) ∧
  (∀ (m : BusMsg) (s : State), s.takesWrite m 0x79 2 2 = true → s.page < 24 → Does (.statusWord m) s (fun t =>
      t.host.pm.at 0#16 s.page = ((s.host.pm.at 0#16 s.page &&& ~~~(BitVec.ofNat 16 (wordOf m.data) &&& statusLatched)) ||| (s.pmLiveWord s.page &&& (BitVec.ofNat 16 (wordOf m.data) &&& statusLatched))) ∧
      t.pair R.HOST_LAST_TS_LO.reg R.HOST_LAST_TS_HI.reg = s.now ∧ Frame (.seq :: .link :: notes) s t ∧
      RegsIn [B.evt, B.host, B.link] s t)) ∧
  (∀ (m : BusMsg) (s : State), s.takesWrite m 0x7A 1 1 = true → s.page < 24 → Does (.statusVout m) s (fun t =>
      t.reg (R.HOST_PMST.reg s.page) = ((s.reg (R.HOST_PMST.reg s.page) &&& ~~~(BitVec.ofNat 32 (bytesLE m.data * 2 ^ 0))) ||| (s.pmLive s.page &&& (BitVec.ofNat 32 (bytesLE m.data * 2 ^ 0)))) ∧
      t.pair R.HOST_LAST_TS_LO.reg R.HOST_LAST_TS_HI.reg = s.now ∧ Frame (.seq :: .link :: notes) s t ∧
      RegsIn [B.evt, B.host, B.link] s t)) ∧
  (∀ (m : BusMsg) (s : State), s.takesWrite m 0x7B 1 1 = true → s.page < 24 → Does (.statusIout m) s (fun t =>
      t.reg (R.HOST_PMST.reg s.page) = ((s.reg (R.HOST_PMST.reg s.page) &&& ~~~(BitVec.ofNat 32 (bytesLE m.data * 2 ^ 8))) ||| (s.pmLive s.page &&& (BitVec.ofNat 32 (bytesLE m.data * 2 ^ 8)))) ∧
      t.pair R.HOST_LAST_TS_LO.reg R.HOST_LAST_TS_HI.reg = s.now ∧ Frame (.seq :: .link :: notes) s t ∧
      RegsIn [B.evt, B.host, B.link] s t)) ∧
  (∀ (m : BusMsg) (s : State), s.takesWrite m 0x7D 1 1 = true → s.page < 24 →
      Does (.statusTemperature m) s (fun t =>
      t.reg (R.HOST_PMST.reg s.page) = ((s.reg (R.HOST_PMST.reg s.page) &&& ~~~(BitVec.ofNat 32 (bytesLE m.data * 2 ^ 16))) ||| (s.pmLive s.page &&& (BitVec.ofNat 32 (bytesLE m.data * 2 ^ 16)))) ∧
      t.pair R.HOST_LAST_TS_LO.reg R.HOST_LAST_TS_HI.reg = s.now ∧ Frame (.seq :: .link :: notes) s t ∧
      RegsIn [B.evt, B.host, B.link] s t)) ∧
  (∀ (m : BusMsg) (s : State), s.takesWrite m 0x80 1 1 = true → s.page < 24 →
      Does (.statusMfrSpecific m) s (fun t =>
      t.reg (R.HOST_PMST.reg s.page) = ((s.reg (R.HOST_PMST.reg s.page) &&& ~~~(BitVec.ofNat 32 (bytesLE m.data * 2 ^ 24))) ||| (s.pmLive s.page &&& (BitVec.ofNat 32 (bytesLE m.data * 2 ^ 24)))) ∧
      t.pair R.HOST_LAST_TS_LO.reg R.HOST_LAST_TS_HI.reg = s.now ∧ Frame (.seq :: .link :: notes) s t ∧
      RegsIn [B.evt, B.host, B.link] s t)) ∧
  (∀ (m : BusMsg) (s : State), s.takesWrite m 0x7E 1 1 = true → Does (.statusCml m) s (fun t =>
      t.fld R.HOST_STATUS.CML = ((BitVec.ofNat 8 (s.fld R.HOST_STATUS.CML)) &&& ~~~(BitVec.ofNat 8 (bytesLE m.data))).toNat ∧
      t.pair R.HOST_LAST_TS_LO.reg R.HOST_LAST_TS_HI.reg = s.now ∧ Frame (.seq :: .link :: notes) s t ∧
      RegsIn [B.evt, B.host, B.link] s t)) ∧
  (∀ (m : BusMsg) (s : State), s.takesWrite m 0xD0 4 5 = true →
      (m.data.length = 5 → (m.data.getD 4 0#8).toNat ≠ 0) → Does (.winAddr m) s (fun t =>
      t.host.winAddr = BitVec.ofNat 32 (bytesLE (m.data.take 4)) ∧
      t.host.winLen = (if m.data.length = 5 then (m.data.getD 4 0#8).toNat else 4) ∧
      t.pair R.HOST_LAST_TS_LO.reg R.HOST_LAST_TS_HI.reg = s.now ∧ Frame (.seq :: .link :: notes) s t ∧
      RegsIn [B.evt, B.host, B.link] s t)) ∧
  (∀ (o : Nat) (u : State) (m : BusMsg) (s : State), s.takesWrite m 0xD1 1 255 = true →
      s.rangeMay false true (winSpan true s.host.winAddr.toNat m.data.length).1 (winSpan true s.host.winAddr.toNat m.data.length).2 = true →
      placeFits (winSpan true s.host.winAddr.toNat m.data.length).1 (winSpan true s.host.winAddr.toNat m.data.length).2 = true →
      m.errs = [] → placeOf s.host.winAddr.toNat = some (.sram o) → s.evt.eccNext = [] →
      s.sramWrite o m.data = some u → Does (.winData m) s (fun t =>
      t.evt.sram = u.evt.sram ∧ t.evt.sramBad = u.evt.sramBad ∧
      t.host.winAddr = BitVec.ofNat 32 (s.host.winAddr.toNat + m.data.length) ∧ t.acrd = s.acrd ∧
      t.pair R.HOST_LAST_TS_LO.reg R.HOST_LAST_TS_HI.reg = s.now)) ∧
  (∀ (x : RegRow) (m : BusMsg) (s : State), s.takesWrite m 0xD1 1 255 = true →
      s.rangeMay false true (winSpan true s.host.winAddr.toNat m.data.length).1 (winSpan true s.host.winAddr.toNat m.data.length).2 = true →
      placeFits (winSpan true s.host.winAddr.toNat m.data.length).1 (winSpan true s.host.winAddr.toNat m.data.length).2 = true →
      m.errs = [] → 0x40025000 ≤ s.host.winAddr.toNat → s.host.winAddr.toNat < 0x40030000 →
      s.host.winAddr.toNat % 4 = 0 → m.data.length = 4 → regRowOf s.host.winAddr.toNat = some x →
      Does (.winData m) s (fun t =>
      t.reg s.host.winAddr.toNat = ((s.reg s.host.winAddr.toNat &&& ~~~(BitVec.ofNat 32 x.rw ||| (if s.rwlOpen then BitVec.ofNat 32 x.rwl else 0#32))) ||| (BitVec.ofNat 32 (bytesLE m.data) &&& (BitVec.ofNat 32 x.rw ||| (if s.rwlOpen then BitVec.ofNat 32 x.rwl else 0#32)))) &&& ~~~(BitVec.ofNat 32 (bytesLE m.data) &&& BitVec.ofNat 32 x.w1c) ∧
      (∀ k, k ≠ s.host.winAddr.toNat → noteKey k = false → k ≠ R.HOST_LAST_TS_LO.reg → k ≠ R.HOST_LAST_TS_HI.reg → t.reg k = s.reg k) ∧
      t.host.winAddr = BitVec.ofNat 32 (s.host.winAddr.toNat + m.data.length) ∧
      t.pair R.HOST_LAST_TS_LO.reg R.HOST_LAST_TS_HI.reg = s.now)) ∧
  (∀ (o : Nat) (m : BusMsg) (s : State), s.takesWrite m 0xD1 1 255 = true →
      s.rangeMay false true (winSpan true s.host.winAddr.toNat m.data.length).1 (winSpan true s.host.winAddr.toNat m.data.length).2 = true →
      placeFits (winSpan true s.host.winAddr.toNat m.data.length).1 (winSpan true s.host.winAddr.toNat m.data.length).2 = true →
      m.errs = [] → placeOf s.host.winAddr.toNat = some (.ledger o) →
      (s.openBus.windowWrite (.window .hostBus) (o / 64) (o % 64) m.data).1 = .placed →
      Does (.winData m) s (fun t =>
      t.ledg = (s.openBus.windowWrite (.window .hostBus) (o / 64) (o % 64) m.data).2.ledg ∧
      (m.data.length = 8 → o % 8 = 0 → (s.slotOf (o / 64)).all (fun z => decide (z.image.length = 64)) = true → (t.ledgReadWord (o / 8)).1.1 = BitVec.ofNat 64 (bytesLE m.data)) ∧
      t.host.winAddr = BitVec.ofNat 32 (s.host.winAddr.toNat + m.data.length) ∧
      t.pair R.HOST_LAST_TS_LO.reg R.HOST_LAST_TS_HI.reg = s.now)) ∧
  (∀ (o : Nat) (m : BusMsg) (s : State), s.takesWrite m 0xD1 1 255 = true →
      s.rangeMay false true (winSpan true s.host.winAddr.toNat m.data.length).1 (winSpan true s.host.winAddr.toNat m.data.length).2 = true →
      placeFits (winSpan true s.host.winAddr.toNat m.data.length).1 (winSpan true s.host.winAddr.toNat m.data.length).2 = true →
      m.errs = [] → placeOf s.host.winAddr.toNat = some (.ledger o) →
      ((s.openBus.windowWrite (.window .hostBus) (o / 64) (o % 64) m.data).1 = .refused ∨ (s.openBus.windowWrite (.window .hostBus) (o / 64) (o % 64) m.data).1 = .waits) →
      Does (.winData m) s (fun t =>
      t.fld R.HOST_STATUS.CML = s.fld R.HOST_STATUS.CML ||| 2 ∧ t.host.busy = true ∧
      t.ledg.slots = s.ledg.slots ∧ t.ledg.waiting = s.ledg.waiting ∧ t.host.refused = true ∧
      t.host.winAddr = s.host.winAddr)) ∧
  (∀ (o : Nat) (m : BusMsg) (s : State), s.takesWrite m 0xD1 1 255 = true →
      s.rangeMay false true (winSpan true s.host.winAddr.toNat m.data.length).1 (winSpan true s.host.winAddr.toNat m.data.length).2 = true →
      placeFits (winSpan true s.host.winAddr.toNat m.data.length).1 (winSpan true s.host.winAddr.toNat m.data.length).2 = true →
      m.errs = [] → placeOf s.host.winAddr.toNat = some (.ledger o) →
      (s.openBus.windowWrite (.window .hostBus) (o / 64) (o % 64) m.data).1 = .notPermitted →
      Does (.winData m) s (fun t =>
      t.fld R.HOST_STATUS.CML = s.fld R.HOST_STATUS.CML ||| 0x80 ∧
      t.bit (R.LEDG_RSTAT.REFUSED (reqCode .hostBus)) = true ∧ t.ledg = s.ledg ∧ t.host.refused = true ∧
      t.host.winAddr = s.host.winAddr)) ∧
  (∀ (b : Bool) (o : Nat) (m : BusMsg) (s : State), s.takesWrite m 0xD1 1 255 = true →
      s.rangeMay false true (winSpan true s.host.winAddr.toNat m.data.length).1 (winSpan true s.host.winAddr.toNat m.data.length).2 = true →
      placeFits (winSpan true s.host.winAddr.toNat m.data.length).1 (winSpan true s.host.winAddr.toNat m.data.length).2 = true →
      m.errs = [] → placeOf s.host.winAddr.toNat = some (.bank b o) → s.bankOpen .hostBus b = true →
      Does (.winData m) s (fun t =>
      t.bankRead b o m.data.length = m.data ∧
      (∀ k, k < o ∨ o + m.data.length ≤ k → t.bankRead b k 1 = s.bankRead b k 1) ∧
      (∀ k, t.bankRead (!b) k 1 = s.bankRead (!b) k 1) ∧
      t.host.winAddr = BitVec.ofNat 32 (s.host.winAddr.toNat + m.data.length) ∧
      t.pair R.HOST_LAST_TS_LO.reg R.HOST_LAST_TS_HI.reg = s.now)) ∧
  (∀ (b : Bool) (o : Nat) (m : BusMsg) (s : State), s.takesWrite m 0xD1 1 255 = true →
      s.rangeMay false true (winSpan true s.host.winAddr.toNat m.data.length).1 (winSpan true s.host.winAddr.toNat m.data.length).2 = true →
      placeFits (winSpan true s.host.winAddr.toNat m.data.length).1 (winSpan true s.host.winAddr.toNat m.data.length).2 = true →
      m.errs = [] → placeOf s.host.winAddr.toNat = some (.bank b o) → s.bankOpen .hostBus b = false →
      Does (.winData m) s (fun t =>
      t.fld R.HOST_STATUS.CML = s.fld R.HOST_STATUS.CML ||| 0x80 ∧ t.acrd = s.acrd ∧ t.host.refused = true ∧
      t.host.winAddr = s.host.winAddr)) ∧
  (∀ (o : Nat) (m : BusMsg) (s : State), s.busOn = true → s.codeMay 0xD1 true = true → m.read = false →
      m.errs = [] → placeOf s.host.winAddr.toNat = some (.sram o) →
      placeFits s.host.winAddr.toNat (max m.data.length 1) = true →
      s.rangeMay false true s.host.winAddr.toNat (max m.data.length 1) = true → m.data.length ≤ 255 →
      1 ≤ m.data.length → m.complete = true → s.pecWrong m 0xD1 = true → s.evt.eccNext = [] →
      (s.openBus.sramPortWrite o m.data).1 = true → Does (.winData m) s (fun t =>
      Counts R.HOST_CNT.PEC s t ∧ t.fld R.HOST_STATUS.CML = s.fld R.HOST_STATUS.CML ||| 0x20 ∧
      t.evt.sram = s.evt.sram ∧ t.host.winAddr = s.host.winAddr ∧
      (s.flt.collecting = true → t.fstat.getLsbD 56 = true))) ∧
  (∀ (m : BusMsg) (s : State), s.takesWrite m 0xE7 1 64 = true → s.bit R.HOST_MBOX_STAT.INFULL = false →
      Does (.mboxWrite m) s (fun t =>
      t.bit R.HOST_MBOX_STAT.INFULL = true ∧ t.fld R.HOST_MBOX_STAT.INLEN = m.data.length ∧
      (∀ i, i < 16 → t.reg (R.HOST_MBOX_IN.reg i) = BitVec.ofNat 32 (bytesAt m.data (4 * i) 4)) ∧
      (s.fld (R.EVT_CNT.RAISE 66) < 0x7FFFFE → t.fld (R.EVT_CNT.RAISE 66) = s.fld (R.EVT_CNT.RAISE 66) + 1) ∧
      (s.bit (R.EVT_ROUTE.HOST 66) = true → t.bitAt R.EVT_PEND.reg 66 = true) ∧
      (s.fld (R.EVT_ROUTE.ENG 66) ≠ 0 → t.bitAt R.EVT_FWD_PEND.reg 66 = true) ∧
      t.pair R.HOST_LAST_TS_LO.reg R.HOST_LAST_TS_HI.reg = s.now ∧ Frame (.seq :: .link :: notes) s t ∧
      RegsIn [B.evt, B.host, B.link] s t)) ∧
  (∀ (m : BusMsg) (s : State), s.busOn = false → exec (.mboxWrite m) s = .next s) ∧
  (∀ (m : BusMsg) (s : State), s.busOn = true → s.codeMay 0xE7 true = true → m.read = false →
      s.bit R.HOST_MBOX_STAT.INFULL = true → Does (.mboxWrite m) s (fun t =>
      t.host.refused = true ∧ t.host.busy = true ∧ t.fld R.HOST_STATUS.CML = s.fld R.HOST_STATUS.CML ||| 2 ∧
      Frame [.regs, .host] s t)) ∧
  (∀ (c : Instr) (code lo hi : Nat) (m : BusMsg) (s : State), busCode c = some (code, m) → writeSizes code = some (lo, hi) →
    code ≠ 0xD1 → (code = 0xE7 → s.bit R.HOST_MBOX_STAT.INFULL = false) → s.busOn = true →
    s.codeMay code (decide (code ≠ 3)) = true → m.read = false → (m.complete = false ∨ m.data.length < lo ∨ hi < m.data.length) →
    Does c s (fun t => Counts R.HOST_CNT.PROTO s t ∧ (s.flt.collecting = true → t.fstat.getLsbD 57 = true) ∧ t.host.refused = false ∧
      Frame (.host :: notes) s t ∧ RegsOnly [R.HOST_CNT.reg] s t)) ∧
  (∀ (c : Instr) (code lo hi : Nat) (m : BusMsg) (s : State), busCode c = some (code, m) → writeSizes code = some (lo, hi) →
    code ≠ 0xD1 → (code = 0xE7 → s.bit R.HOST_MBOX_STAT.INFULL = false) → s.busOn = true →
    s.codeMay code (decide (code ≠ 3)) = true → m.read = false → m.complete = true → lo ≤ m.data.length →
    m.data.length ≤ hi → (s.pecWrong m code = true ∨ m.pec = .absent ∧ s.bit R.HOST_CFG.PECREQ = true) →
    Does c s (fun t => Counts R.HOST_CNT.PEC s t ∧ t.fld R.HOST_STATUS.CML = s.fld R.HOST_STATUS.CML ||| 0x20 ∧
      (s.flt.collecting = true → t.fstat.getLsbD 56 = true) ∧ t.host.refused = false ∧
      Frame (.host :: notes) s t ∧ RegsOnly [R.HOST_CNT.reg, R.HOST_STATUS.reg] s t)) ∧
  (∀ (c : Instr) (code : Nat) (m : BusMsg) (s : State), busCode c = some (code, m) → writeSizes code = none → s.busOn = true →
    s.codeMay code true = true → m.read = false →
    Does c s (fun t => Counts R.HOST_CNT.PROTO s t ∧ (s.flt.collecting = true → t.fstat.getLsbD 57 = true) ∧ t.host.refused = false ∧
      Frame (.host :: notes) s t ∧ RegsOnly [R.HOST_CNT.reg] s t))

/-- A register write merges its bits by the access codes.  A permitted write to a register of any block (SYS, ACRD,
LOOP, PHASE, SEQ, SUP, PATH, MEAS, FLT, EVT, LEDG, HOST, LINK, BIST) that is no command, acknowledgement,
semaphore or half of a 64-bit pair (commandKey lists those) sets the RW bits, and the RWL bits while they are
open, to the written ones, clears the W1C bits written with 1 and keeps every other bit; an offset field beyond
its range stays as it was (keepOfs, R72). Where the written bits have no live effect on a block, no other
register but those of the host's note and no other state change. Outside its conditions the write changes
nothing, or is refused as the port refuses: that rests on log entry 4.  (spec/00_scope.md, spec/01_accord.md,
spec/04_loop_array.md, spec/05_phase_ports.md, spec/07_sequencer.md, spec/08_supervisors.md,
spec/09_backup_path.md, spec/10_measurement.md, spec/11_faults.md, spec/14_host_bus.md, spec/15_hierarchy.md,
spec/16_drydown.md.) -/
def Obligations.RegisterWriteMergesByAccessCode : Prop :=
  (∀ (r : Req) (addr w : Word) (k : Nat) (x : RegRow) (s : State), s.topOn = true → addr.toNat % 4 = 0 →
      0x40000000 ≤ addr.toNat → addr.toNat < 0x400E0000 → s.may r addr.toNat true none = true →
      portHidden r addr.toNat 4 = false → regKey r addr.toNat = some k → commandKey k = false →
      regRowOf (k % 2 ^ 32) = some x → (noteKey k = false ∨ r ≠ .hostBus) →
      Does (.registerWrite r addr w) s (fun t =>
      t.reg k = keepOfs k (s.reg k) (((s.reg k &&& ~~~(BitVec.ofNat 32 x.rw ||| (if s.rwlOpen then BitVec.ofNat 32 x.rwl else 0#32))) ||| (w &&& (BitVec.ofNat 32 x.rw ||| (if s.rwlOpen then BitVec.ofNat 32 x.rwl else 0#32)))) &&& ~~~(w &&& BitVec.ofNat 32 x.w1c)) ∧
      t.acrd = s.acrd ∧ t.htOfs = s.htOfs)) ∧
  (∀ (r : Req) (addr w : Word) (s : State), s.topOn = false → exec (.registerWrite r addr w) s = .next s) ∧
  (∀ (r : Req) (addr w : Word) (s : State),
      (s.topOn = true ∧ (addr.toNat % 4 ≠ 0 ∨ addr.toNat < 0x40000000 ∨ 0x400E0000 ≤ addr.toNat)) →
      exec (.registerWrite r addr w) s = .next (s.misplaced r)) ∧
  (∀ (r : Req) (addr w : Word) (s : State),
      (s.topOn = true ∧ addr.toNat % 4 = 0 ∧ 0x40000000 ≤ addr.toNat ∧ addr.toNat < 0x400E0000 ∧ s.may r addr.toNat true none = false) →
      exec (.registerWrite r addr w) s = .next (s.denied r true)) ∧
  (∀ (r : Req) (addr w : Word) (k : Nat) (x : RegRow) (s : State), s.topOn = true → addr.toNat % 4 = 0 →
      0x40000000 ≤ addr.toNat → addr.toNat < 0x400E0000 → s.may r addr.toNat true none = true →
      portHidden r addr.toNat 4 = false → regKey r addr.toNat = some k → commandKey k = false →
      regRowOf (k % 2 ^ 32) = some x →
      (s.sys.stage ≠ .released ∨ (s.reg k ^^^ w) &&& (if s.rwlOpen then BitVec.ofNat 32 x.rwl else 0#32) = 0#32) →
      Does (.registerWrite r addr w) s (fun t =>
      Frame notes s t ∧ RegsOnly [k, R.HOST_LAST_TS_LO.reg, R.HOST_LAST_TS_HI.reg] s t))
end

