-- ==== Sys2Proof/Laws/Cells.lean ====
section
/-! SUPPORT.  The laws of sparse storage: what a write leaves readable, and that every operation keeps the
canonical form. -/

set_option Elab.async false

namespace Sys2Proof.Machine

variable {α : Type}

@[simp] theorem Cells.find_nil (k : Nat) : Cells.find ([] : Cells α) k = none := rfl

theorem Cells.find_drop_self (c : Cells α) (k : Nat) : (c.drop k).find k = none := by
  induction c with
  | nil => rfl
  | cons e r ih =>
    obtain ⟨j, v⟩ := e
    by_cases h : j = k <;> simp [Cells.drop, Cells.find, h, ih]

theorem Cells.find_drop_ne (c : Cells α) {j k : Nat} (h : k ≠ j) : (c.drop j).find k = c.find k := by
  induction c with
  | nil => rfl
  | cons e r ih =>
    obtain ⟨i, v⟩ := e
    by_cases hi : i = j
    · subst hi; simp [Cells.drop, Cells.find, ih, Ne.symm h]
    · by_cases hk : i = k
      · subst hk; simp [Cells.drop, Cells.find, hi]
      · simp [Cells.drop, Cells.find, hi, hk, ih]

theorem Cells.find_place_self (c : Cells α) (k : Nat) (v : α) (h : c.find k = none) : (c.place k v).find k = some v := by
  induction c with
  | nil => simp [Cells.place, Cells.find]
  | cons e r ih =>
    obtain ⟨j, w⟩ := e
    have hj : j ≠ k := fun hk => by simp [Cells.find, hk] at h
    have hr : Cells.find r k = none := by simpa [Cells.find, hj] using h
    by_cases hlt : k < j
    · simp [Cells.place, hlt, Cells.find]
    · simp [Cells.place, hlt, Cells.find, hj, ih hr]

theorem Cells.find_place_ne (c : Cells α) {j k : Nat} (v : α) (h : k ≠ j) : (c.place j v).find k = c.find k := by
  induction c with
  | nil => simp [Cells.place, Cells.find, Ne.symm h]
  | cons e r ih =>
    obtain ⟨i, w⟩ := e
    by_cases hlt : j < i
    · simp [Cells.place, hlt, Cells.find, Ne.symm h]
    · by_cases hi : i = k
      · subst hi; simp [Cells.place, hlt, Cells.find]
      · simp [Cells.place, hlt, Cells.find, hi, ih]

/-! ## The canonical form -/

theorem Cells.mem_drop {c : Cells α} {k : Nat} {e : Nat × α} (h : e ∈ c.drop k) : e ∈ c ∧ e.1 ≠ k := by
  induction c with
  | nil => simp [Cells.drop] at h
  | cons x r ih =>
    obtain ⟨j, w⟩ := x
    by_cases hj : j = k
    · simp [Cells.drop, hj] at h
      exact ⟨List.mem_cons_of_mem _ (ih h).1, (ih h).2⟩
    · simp [Cells.drop, hj] at h
      rcases h with rfl | h
      · exact ⟨List.mem_cons_self .., hj⟩
      · exact ⟨List.mem_cons_of_mem _ (ih h).1, (ih h).2⟩

theorem Cells.drop_pairwise {c : Cells α} (k : Nat) (h : c.Pairwise (fun x y => x.1 < y.1)) :
    (c.drop k).Pairwise (fun x y => x.1 < y.1) := by
  induction c with
  | nil => simp [Cells.drop]
  | cons x r ih =>
    obtain ⟨j, w⟩ := x
    rw [List.pairwise_cons] at h
    by_cases hj : j = k
    · simpa [Cells.drop, hj] using ih h.2
    · simp only [Cells.drop, hj, if_false, List.pairwise_cons]
      exact ⟨fun e he => h.1 e (Cells.mem_drop he).1, ih h.2⟩

theorem Cells.mem_place {c : Cells α} {k : Nat} {v : α} {e : Nat × α} (h : e ∈ c.place k v) : e = (k, v) ∨ e ∈ c := by
  induction c with
  | nil => simpa [Cells.place] using h
  | cons x r ih =>
    obtain ⟨j, w⟩ := x
    by_cases hj : k < j
    · simpa [Cells.place, hj] using h
    · simp [Cells.place, hj] at h
      rcases h with rfl | h
      · exact .inr (List.mem_cons_self ..)
      · exact (ih h).imp id (List.mem_cons_of_mem _)

theorem Cells.place_pairwise {c : Cells α} (k : Nat) (v : α) (h : c.Pairwise (fun x y => x.1 < y.1))
    (hk : ∀ e ∈ c, e.1 ≠ k) : (c.place k v).Pairwise (fun x y => x.1 < y.1) := by
  induction c with
  | nil => simp [Cells.place]
  | cons x r ih =>
    obtain ⟨j, w⟩ := x
    rw [List.pairwise_cons] at h
    by_cases hj : k < j
    · simp only [Cells.place, hj, if_true, List.pairwise_cons]
      refine ⟨?_, h.1, h.2⟩
      intro e he
      rcases List.mem_cons.1 he with rfl | he
      · exact hj
      · exact hj.trans (h.1 e he)
    · simp only [Cells.place, hj, if_false, List.pairwise_cons]
      refine ⟨?_, ih h.2 (fun e he => hk e (List.mem_cons_of_mem _ he))⟩
      intro e he
      rcases Cells.mem_place he with rfl | he
      · exact lt_of_le_of_ne (not_lt.1 hj) (hk (j, w) (List.mem_cons_self ..))
      · exact h.1 e he

variable [DecidableEq α]

/-- A write is read back: as nothing listed where it is what an unlisted key reads as. -/
theorem Cells.find_put_self (d : α) (c : Cells α) (k : Nat) (v : α) : ((c.put d k v).find k).getD d = v := by
  by_cases h : v = d
  · simp [Cells.put, h, Cells.find_drop_self]
  · simp [Cells.put, h, Cells.find_place_self _ _ _ (Cells.find_drop_self c k)]

/-- A write leaves every other key as it was. -/
theorem Cells.find_put_ne (d : α) (c : Cells α) {j k : Nat} (v : α) (h : k ≠ j) : (c.put d j v).find k = c.find k := by
  by_cases hv : v = d
  · simp [Cells.put, hv, Cells.find_drop_ne c h]
  · simp [Cells.put, hv, Cells.find_place_ne _ v h, Cells.find_drop_ne c h]

@[simp] theorem Cells.at_put_self (d : α) (c : Cells α) (k : Nat) (v : α) : Cells.at d (c.put d k v) k = v :=
  Cells.find_put_self d c k v

theorem Cells.at_put_ne (d : α) (c : Cells α) {j k : Nat} (v : α) (h : k ≠ j) :
    Cells.at d (c.put d j v) k = Cells.at d c k := by simp [Cells.at, Cells.find_put_ne d c v h]

@[simp] theorem Cells.at_upd_self (d : α) (c : Cells α) (k : Nat) (f : α → α) :
    Cells.at d (c.upd d k f) k = f (Cells.at d c k) := Cells.at_put_self d c k _

theorem Cells.at_upd_ne (d : α) (c : Cells α) {j k : Nat} (f : α → α) (h : k ≠ j) :
    Cells.at d (c.upd d j f) k = Cells.at d c k := Cells.at_put_ne d c _ h

/-- The canonical form as a proposition: rising keys, and no entry equal to its default. -/
theorem Cells.wf_iff (d : Nat → α) (c : Cells α) :
    c.wf d = true ↔ c.Pairwise (fun x y => x.1 < y.1) ∧ ∀ e ∈ c, e.2 ≠ d e.1 := by
  have hs : ∀ c : Cells α, c.sorted = true ↔ c.Pairwise (fun x y => x.1 < y.1) := by
    intro c
    induction c with
    | nil => simp [Cells.sorted]
    | cons e r ih =>
      obtain ⟨j, w⟩ := e
      cases r with
      | nil => simp [Cells.sorted]
      | cons e' r' =>
        obtain ⟨k, v⟩ := e'
        rw [Cells.sorted, Bool.and_eq_true, decide_eq_true_eq, ih,
          List.pairwise_cons (a := (j, w)) (l := (k, v) :: r')]
        constructor
        · rintro ⟨h, hp⟩
          refine ⟨?_, hp⟩
          intro x hx
          rcases List.mem_cons.1 hx with rfl | hx
          · exact h
          · exact h.trans ((List.pairwise_cons.1 hp).1 x hx)
        · rintro ⟨h, hp⟩
          exact ⟨h (k, v) (List.mem_cons_self ..), hp⟩
  simp [Cells.wf, hs]

/-- A write keeps the canonical form. -/
theorem Cells.wf_put {d : Nat → α} {c : Cells α} (k : Nat) (v : α) (h : c.wf d = true) :
    (c.put (d k) k v).wf d = true := by
  rw [Cells.wf_iff] at h ⊢
  by_cases hv : v = d k
  · rw [Cells.put, if_pos hv]
    exact ⟨Cells.drop_pairwise k h.1, fun e he => h.2 e (Cells.mem_drop he).1⟩
  · rw [Cells.put, if_neg hv]
    refine ⟨Cells.place_pairwise k v (Cells.drop_pairwise k h.1) (fun e he => (Cells.mem_drop he).2), ?_⟩
    intro e he
    rcases Cells.mem_place he with rfl | he
    · exact hv
    · exact h.2 e (Cells.mem_drop he).1

/-- A write to a table whose unlisted keys all read alike keeps the canonical form. -/
theorem Cells.wf_put_const {d : α} {c : Cells α} (k : Nat) (v : α) (h : c.wf (fun _ => d) = true) :
    (c.put d k v).wf (fun _ => d) = true := Cells.wf_put (d := fun _ => d) k v h

/-- Entries taken out keep the canonical form. -/
theorem Cells.wf_filter {d : Nat → α} {c : Cells α} (p : Nat × α → Bool) (h : c.wf d = true) :
    Cells.wf d (c.filter p) = true := by
  rw [Cells.wf_iff] at h ⊢
  exact ⟨h.1.filter p, fun e he => h.2 e (List.mem_filter.1 he).1⟩

theorem Cells.wf_nil (d : Nat → α) : Cells.wf d ([] : Cells α) = true := rfl

end Sys2Proof.Machine
end

