-- ==== Sys2Proof/Laws/Ecc.lean ====
section
/-! SUPPORT.  Reads of shared SRAM through a port that meet no error (R228): what they read, and that they change
nothing. -/

set_option Elab.async false

namespace Sys2Proof.Machine

/-- A word that is good, with no fresh error waiting, is read as it is. -/
theorem State.eccTake_clean {s : State} {m : EccMem} {k : Nat} (he : s.evt.eccNext = []) (hk : s.eccBad m k = false) :
    s.eccTake m k = (true, s) := by
  have e : ({ s with evt := { s.evt with eccNext := s.evt.eccNext.tail } } : State) = s := by
    rw [he]; show ({ s with evt := { s.evt with eccNext := [] } } : State) = s; rw [← he]
  unfold State.eccTake
  rw [e, he]
  simp [State.eccRead, hk]

theorem State.sramTake_clean {s : State} {ws : List Nat} (he : s.evt.eccNext = [])
    (hw : ∀ k ∈ ws, s.evt.sramBad.at false k = false) : s.sramTake ws = ([], s) := by
  induction ws with
  | nil => rfl
  | cons k ws ih =>
    unfold State.sramTake
    rw [State.eccTake_clean he (by exact hw k (List.mem_cons_self ..))]
    dsimp only
    rw [ih (fun j hj => hw j (List.mem_cons_of_mem _ hj))]
    rfl

/-- Where no touched word is poisoned and no fresh error waits, the port reads the bytes and changes nothing. -/
theorem State.sramPortRead_clean {s : State} {o n : Nat} (he : s.evt.eccNext = []) (h : s.sramPoisoned o n = false) :
    s.sramPortRead o n = (s.sramBytes o n, s) := by
  unfold State.sramPortRead
  rw [State.sramTake_clean he (by simpa [State.sramPoisoned] using h)]
  rfl

end Sys2Proof.Machine
end

