-- ==== Sys2Proof/Laws/Keeps.lean ====
section
/-! SUPPORT.  What one operation of the block may do to the queue, the clock, the canonical form and the memories:
the relation that every operation's lemma speaks of, and its closure under the ways operations are put together. -/

set_option Elab.async false

namespace Sys2Proof.Machine

/-- `s` follows from `a` by operations that leave the queue alone, never turn the clock or the index of free values
back and keep the canonical form; with `m`, that leave the banks, the Ledger's array and shared SRAM alone; with
`i`, that leave the running image and the active bank alone; with `p`, that leave the life phase and the stage of
the start alone. -/
structure Keeps (m i p : Bool) (a s : State) : Prop where
  pending : s.pending = a.pending
  clock : a.clock ≤ s.clock
  free : a.freeCount ≤ s.freeCount
  wf : a.memWf = true → s.memWf = true
  mem : m = true → s.acrd.bankA = a.acrd.bankA ∧ s.acrd.bankB = a.acrd.bankB ∧ s.ledg.array = a.ledg.array ∧
    s.ledg.poison = a.ledg.poison ∧ s.evt.sram = a.evt.sram ∧ s.evt.sramBad = a.evt.sramBad
  img : i = true → s.acrd.image = a.acrd.image ∧ s.acrd.active = a.acrd.active
  pha : p = true → s.sys.phase = a.sys.phase ∧ s.sys.stage = a.sys.stage

variable {m i p : Bool} {a s t : State}

theorem Keeps.refl (m i p : Bool) (s : State) : Keeps m i p s s :=
  ⟨rfl, le_refl _, le_refl _, id, fun _ => ⟨rfl, rfl, rfl, rfl, rfl, rfl⟩, fun _ => ⟨rfl, rfl⟩, fun _ => ⟨rfl, rfl⟩⟩

theorem keeps_ite {c : Prop} [Decidable c] (h : Keeps m i p a s) (h' : Keeps m i p a t) :
    Keeps m i p a (if c then s else t) := by split <;> assumption

theorem keeps_foldl {β : Type} {l : List β} {f : State → β → State} (hf : ∀ s x, Keeps m i p a s → Keeps m i p a (f s x))
    (h : Keeps m i p a s) : Keeps m i p a (l.foldl f s) := by
  induction l generalizing s with
  | nil => exact h
  | cons x r ih => exact ih (hf s x h)

/-- The canonical form of the six tables, apart. -/
theorem State.memWf_iff : s.memWf = true ↔ s.regs.wf resetWord = true ∧ s.ledg.array.wf (fun _ => 0#64) = true ∧
    s.evt.sram.wf (fun _ => 0#64) = true ∧ s.acrd.bankA.wf (fun _ => 0#8) = true ∧
    s.acrd.bankB.wf (fun _ => 0#8) = true ∧ s.timers.wf (fun _ => none) = true := by
  simp [State.memWf, and_assoc]

theorem State.setReg_keeps {k : Nat} {v : Word} (h : Keeps m i p a s) : Keeps m i p a (s.setReg k v) := by
  refine ⟨h.pending, h.clock, h.free, fun hw => ?_, h.mem, h.img, h.pha⟩
  have h1 := State.memWf_iff.1 (h.wf hw)
  exact State.memWf_iff.2 ⟨Cells.wf_put k v h1.1, h1.2⟩

theorem State.resetRegs_keeps {f : Nat → Bool} (h : Keeps m i p a s) : Keeps m i p a (s.resetRegs f) := by
  refine ⟨h.pending, h.clock, h.free, fun hw => ?_, h.mem, h.img, h.pha⟩
  have h1 := State.memWf_iff.1 (h.wf hw)
  exact State.memWf_iff.2 ⟨Cells.wf_filter _ h1.1, h1.2⟩

theorem State.arm_keeps {k d : Nat} (h : Keeps m i p a s) : Keeps m i p a (s.arm k d) := by
  refine ⟨h.pending, h.clock, h.free, fun hw => ?_, h.mem, h.img, h.pha⟩
  obtain ⟨h1, h2, h3, h4, h5, h6⟩ := State.memWf_iff.1 (h.wf hw)
  exact State.memWf_iff.2 ⟨h1, h2, h3, h4, h5, Cells.wf_put_const k (some (s.ns + d)) h6⟩

theorem State.disarm_keeps {k : Nat} (h : Keeps m i p a s) : Keeps m i p a (s.disarm k) := by
  refine ⟨h.pending, h.clock, h.free, fun hw => ?_, h.mem, h.img, h.pha⟩
  obtain ⟨h1, h2, h3, h4, h5, h6⟩ := State.memWf_iff.1 (h.wf hw)
  exact State.memWf_iff.2 ⟨h1, h2, h3, h4, h5, Cells.wf_put_const k none h6⟩

theorem State.notBefore_keeps {n : Nat} (h : Keeps m i p a s) : Keeps m i p a (s.notBefore n) :=
  ⟨h.pending, h.clock.trans (le_max_left ..), h.free, h.wf, h.mem, h.img, h.pha⟩

theorem State.takeFree_keeps (h : Keeps m i p a s) : Keeps m i p a s.takeFree.2 :=
  ⟨h.pending, h.clock, h.free.trans (Nat.le_succ _), h.wf, h.mem, h.img, h.pha⟩

theorem State.expire_keeps {k : Nat} (h : Keeps m i p a s) (he : s.expire k = some t) : Keeps m i p a t := by
  unfold State.expire at he
  split at he
  · cases he; exact State.disarm_keeps (State.notBefore_keeps h)
  · cases he

/-! ## What an updated record holds -/

theorem AcrdState.bankA_mk {x0 : Cells Byte} {x1 : Cells Byte} {x2 : Bool} {x3 : Option Bool} {x4 : Option Image}
    {x5 : Option Image} {x6 : Option Bool} {x7 : Option Bool} {x8 : Nat} {x9 : Nat} {x10 : Bool} {x11 : Bool}
    {x12 : Bool} {x13 : Bool} {x14 : Cells Word} {x15 : List (Nat × Word)} {x16 : List Byte} {x17 : Cells Tile}
    {x18 : List Byte} {x19 : Option Nat} {x20 : BitVec 256} {x21 : BitVec 256} {x22 : Bool} :
    (AcrdState.mk x0 x1 x2 x3 x4 x5 x6 x7 x8 x9 x10 x11 x12 x13 x14 x15 x16 x17 x18 x19 x20 x21 x22).bankA = x0 :=
      rfl

theorem AcrdState.bankB_mk {x0 : Cells Byte} {x1 : Cells Byte} {x2 : Bool} {x3 : Option Bool} {x4 : Option Image}
    {x5 : Option Image} {x6 : Option Bool} {x7 : Option Bool} {x8 : Nat} {x9 : Nat} {x10 : Bool} {x11 : Bool}
    {x12 : Bool} {x13 : Bool} {x14 : Cells Word} {x15 : List (Nat × Word)} {x16 : List Byte} {x17 : Cells Tile}
    {x18 : List Byte} {x19 : Option Nat} {x20 : BitVec 256} {x21 : BitVec 256} {x22 : Bool} :
    (AcrdState.mk x0 x1 x2 x3 x4 x5 x6 x7 x8 x9 x10 x11 x12 x13 x14 x15 x16 x17 x18 x19 x20 x21 x22).bankB = x1 :=
      rfl

theorem AcrdState.image_mk {x0 : Cells Byte} {x1 : Cells Byte} {x2 : Bool} {x3 : Option Bool} {x4 : Option Image}
    {x5 : Option Image} {x6 : Option Bool} {x7 : Option Bool} {x8 : Nat} {x9 : Nat} {x10 : Bool} {x11 : Bool}
    {x12 : Bool} {x13 : Bool} {x14 : Cells Word} {x15 : List (Nat × Word)} {x16 : List Byte} {x17 : Cells Tile}
    {x18 : List Byte} {x19 : Option Nat} {x20 : BitVec 256} {x21 : BitVec 256} {x22 : Bool} :
    (AcrdState.mk x0 x1 x2 x3 x4 x5 x6 x7 x8 x9 x10 x11 x12 x13 x14 x15 x16 x17 x18 x19 x20 x21 x22).image = x4 :=
      rfl

theorem AcrdState.active_mk {x0 : Cells Byte} {x1 : Cells Byte} {x2 : Bool} {x3 : Option Bool} {x4 : Option Image}
    {x5 : Option Image} {x6 : Option Bool} {x7 : Option Bool} {x8 : Nat} {x9 : Nat} {x10 : Bool} {x11 : Bool}
    {x12 : Bool} {x13 : Bool} {x14 : Cells Word} {x15 : List (Nat × Word)} {x16 : List Byte} {x17 : Cells Tile}
    {x18 : List Byte} {x19 : Option Nat} {x20 : BitVec 256} {x21 : BitVec 256} {x22 : Bool} :
    (AcrdState.mk x0 x1 x2 x3 x4 x5 x6 x7 x8 x9 x10 x11 x12 x13 x14 x15 x16 x17 x18 x19 x20 x21 x22).active = x3 :=
      rfl

theorem LedgState.array_mk {x0 : Cells (BitVec 64)} {x1 : Cells Bool} {x2 : Cells Bool} {x3 : List Slot}
    {x4 : List Slot} {x5 : List WaitWrite} {x6 : List LogRec} {x7 : Bool} {x8 : Bool} {x9 : Cells RecPend}
    {x10 : Option (Nat × Nat)} {x11 : Drain} {x12 : Bool} {x13 : List Nat} {x14 : Nat} {x15 : Nat} {x16 : Nat}
    {x17 : Option Nat} {x18 : Bool} {x19 : Bool} :
    (LedgState.mk x0 x1 x2 x3 x4 x5 x6 x7 x8 x9 x10 x11 x12 x13 x14 x15 x16 x17 x18 x19).array = x0 := rfl

theorem LedgState.poison_mk {x0 : Cells (BitVec 64)} {x1 : Cells Bool} {x2 : Cells Bool} {x3 : List Slot}
    {x4 : List Slot} {x5 : List WaitWrite} {x6 : List LogRec} {x7 : Bool} {x8 : Bool} {x9 : Cells RecPend}
    {x10 : Option (Nat × Nat)} {x11 : Drain} {x12 : Bool} {x13 : List Nat} {x14 : Nat} {x15 : Nat} {x16 : Nat}
    {x17 : Option Nat} {x18 : Bool} {x19 : Bool} :
    (LedgState.mk x0 x1 x2 x3 x4 x5 x6 x7 x8 x9 x10 x11 x12 x13 x14 x15 x16 x17 x18 x19).poison = x1 := rfl

theorem EvtState.sram_mk {x0 : Cells EngState} {x1 : Cells (BitVec 64)} {x2 : Cells Bool} {x3 : Cells DmaState}
    {x4 : Bool} {x5 : Cells (BitVec 64)} {x6 : Cells Nat} {x7 : List EccErr} :
    (EvtState.mk x0 x1 x2 x3 x4 x5 x6 x7).sram = x1 := rfl

theorem EvtState.sramBad_mk {x0 : Cells EngState} {x1 : Cells (BitVec 64)} {x2 : Cells Bool} {x3 : Cells DmaState}
    {x4 : Bool} {x5 : Cells (BitVec 64)} {x6 : Cells Nat} {x7 : List EccErr} :
    (EvtState.mk x0 x1 x2 x3 x4 x5 x6 x7).sramBad = x2 := rfl

theorem SysState.phase_mk {x0 : Phase} {x1 : Stage} {x2 : Option Nat} {x3 : Nat} {x4 : Option Nat} {x5 : BrownWait}
    {x6 : Nat} {x7 : Bool} {x8 : Nat} {x9 : Bool} {x10 : Bool} {x11 : Bool} {x12 : Nat} {x13 : Pll} {x14 : Pll}
    {x15 : Pll} {x16 : Bool} {x17 : Bool} {x18 : Dry} {x19 : Bool} {x20 : Bool} {x21 : Nat} {x22 : Nat} {x23 : Bool}
    {x24 : Nat} {x25 : List Bool} {x26 : List Bool} {x27 : Option (List Bool)} {x28 : Bool} {x29 : Nat} {x30 : Bool} :
    (SysState.mk x0 x1 x2 x3 x4 x5 x6 x7 x8 x9 x10 x11 x12 x13 x14 x15 x16 x17 x18 x19 x20 x21 x22 x23 x24 x25 x26
      x27 x28 x29 x30).phase = x0 := rfl

theorem SysState.stage_mk {x0 : Phase} {x1 : Stage} {x2 : Option Nat} {x3 : Nat} {x4 : Option Nat} {x5 : BrownWait}
    {x6 : Nat} {x7 : Bool} {x8 : Nat} {x9 : Bool} {x10 : Bool} {x11 : Bool} {x12 : Nat} {x13 : Pll} {x14 : Pll}
    {x15 : Pll} {x16 : Bool} {x17 : Bool} {x18 : Dry} {x19 : Bool} {x20 : Bool} {x21 : Nat} {x22 : Nat} {x23 : Bool}
    {x24 : Nat} {x25 : List Bool} {x26 : List Bool} {x27 : Option (List Bool)} {x28 : Bool} {x29 : Nat} {x30 : Bool} :
    (SysState.mk x0 x1 x2 x3 x4 x5 x6 x7 x8 x9 x10 x11 x12 x13 x14 x15 x16 x17 x18 x19 x20 x21 x22 x23 x24 x25 x26
      x27 x28 x29 x30).stage = x1 := rfl

/-! ## Changes of what the relation does not speak of -/

/-- A change of parts that the relation does not speak of; `hi` and `hp` say what it does to the running image and to
the life phase. -/
theorem keeps_mkX (h : Keeps m i p a s)
    {xHtOfs : Int} {xTrace : Cells TraceRec} {xTracePost : Option Nat} {xSys : SysState} {xAcrd : AcrdState} {xLoops
    : Cells LoopState} {xPhases : Cells PhaseState} {xIlReply : Cells Word} {xRails : Cells RailState} {xGroups :
    Cells GroupState} {xSeq : SeqState} {xSup : SupState} {xPath : PathState} {xMeas : MeasState} {xFlt : FltState}
    {xLedg : LedgState} {xEvt : EvtState} {xHost : HostState} {xLink : LinkState} {xBist : BistState} {xHiLatch :
    Cells (Option Word)} {xLoLatch : Cells (Option Word)}
    (eA : xAcrd.bankA = s.acrd.bankA := by exact rfl)
    (eB : xAcrd.bankB = s.acrd.bankB := by exact rfl)
    (eL : xLedg.array = s.ledg.array := by exact rfl)
    (eP : xLedg.poison = s.ledg.poison := by exact rfl)
    (eS : xEvt.sram = s.evt.sram := by exact rfl)
    (eX : xEvt.sramBad = s.evt.sramBad := by exact rfl)
    (hi : i = true → xAcrd.image = s.acrd.image ∧ xAcrd.active = s.acrd.active)
    (hp : p = true → xSys.phase = s.sys.phase ∧ xSys.stage = s.sys.stage) :
    Keeps m i p a
      ⟨s.pending, s.clock, xHtOfs, s.freeCount, s.regs, s.timers, xTrace, xTracePost, xSys, xAcrd, xLoops, xPhases,
      xIlReply, xRails, xGroups, xSeq, xSup, xPath, xMeas, xFlt, xLedg, xEvt, xHost, xLink, xBist, xHiLatch,
      xLoLatch⟩ := by
  refine ⟨h.pending, h.clock, h.free, fun hw => ?_, fun hm => ?_, fun h1 => ?_, fun h1 => ?_⟩
  · have h1 := State.memWf_iff.1 (h.wf hw)
    refine State.memWf_iff.2 ?_
    dsimp only
    rw [eA, eB, eL, eS]
    exact h1
  · dsimp only
    rw [eA, eB, eL, eP, eS, eX]
    exact h.mem hm
  · dsimp only
    rw [(hi h1).1, (hi h1).2]
    exact h.img h1
  · dsimp only
    rw [(hp h1).1, (hp h1).2]
    exact h.pha h1

/-- A change of other parts alone. -/
theorem keeps_mk (h : Keeps m i p a s)
    {xHtOfs : Int} {xTrace : Cells TraceRec} {xTracePost : Option Nat} {xSys : SysState} {xAcrd : AcrdState} {xLoops
    : Cells LoopState} {xPhases : Cells PhaseState} {xIlReply : Cells Word} {xRails : Cells RailState} {xGroups :
    Cells GroupState} {xSeq : SeqState} {xSup : SupState} {xPath : PathState} {xMeas : MeasState} {xFlt : FltState}
    {xLedg : LedgState} {xEvt : EvtState} {xHost : HostState} {xLink : LinkState} {xBist : BistState} {xHiLatch :
    Cells (Option Word)} {xLoLatch : Cells (Option Word)}
    (eA : xAcrd.bankA = s.acrd.bankA := by exact rfl)
    (eB : xAcrd.bankB = s.acrd.bankB := by exact rfl)
    (eL : xLedg.array = s.ledg.array := by exact rfl)
    (eP : xLedg.poison = s.ledg.poison := by exact rfl)
    (eS : xEvt.sram = s.evt.sram := by exact rfl)
    (eX : xEvt.sramBad = s.evt.sramBad := by exact rfl)
    (eI : xAcrd.image = s.acrd.image := by exact rfl)
    (eV : xAcrd.active = s.acrd.active := by exact rfl)
    (eH : xSys.phase = s.sys.phase := by exact rfl)
    (eG : xSys.stage = s.sys.stage := by exact rfl) :
    Keeps m i p a
      ⟨s.pending, s.clock, xHtOfs, s.freeCount, s.regs, s.timers, xTrace, xTracePost, xSys, xAcrd, xLoops, xPhases,
      xIlReply, xRails, xGroups, xSeq, xSup, xPath, xMeas, xFlt, xLedg, xEvt, xHost, xLink, xBist, xHiLatch,
      xLoLatch⟩ :=
  keeps_mkX h eA eB eL eP eS eX (fun _ => ⟨eI, eV⟩) (fun _ => ⟨eH, eG⟩)

/-- A change that may replace the running image. -/
theorem keeps_mkI (h : Keeps m false p a s)
    {xHtOfs : Int} {xTrace : Cells TraceRec} {xTracePost : Option Nat} {xSys : SysState} {xAcrd : AcrdState} {xLoops
    : Cells LoopState} {xPhases : Cells PhaseState} {xIlReply : Cells Word} {xRails : Cells RailState} {xGroups :
    Cells GroupState} {xSeq : SeqState} {xSup : SupState} {xPath : PathState} {xMeas : MeasState} {xFlt : FltState}
    {xLedg : LedgState} {xEvt : EvtState} {xHost : HostState} {xLink : LinkState} {xBist : BistState} {xHiLatch :
    Cells (Option Word)} {xLoLatch : Cells (Option Word)}
    (eA : xAcrd.bankA = s.acrd.bankA := by exact rfl)
    (eB : xAcrd.bankB = s.acrd.bankB := by exact rfl)
    (eL : xLedg.array = s.ledg.array := by exact rfl)
    (eP : xLedg.poison = s.ledg.poison := by exact rfl)
    (eS : xEvt.sram = s.evt.sram := by exact rfl)
    (eX : xEvt.sramBad = s.evt.sramBad := by exact rfl)
    (eH : xSys.phase = s.sys.phase := by exact rfl)
    (eG : xSys.stage = s.sys.stage := by exact rfl) :
    Keeps m false p a
      ⟨s.pending, s.clock, xHtOfs, s.freeCount, s.regs, s.timers, xTrace, xTracePost, xSys, xAcrd, xLoops, xPhases,
      xIlReply, xRails, xGroups, xSeq, xSup, xPath, xMeas, xFlt, xLedg, xEvt, xHost, xLink, xBist, xHiLatch,
      xLoLatch⟩ :=
  keeps_mkX h eA eB eL eP eS eX (fun h => nomatch h) (fun _ => ⟨eH, eG⟩)

/-- A change that may end a life phase. -/
theorem keeps_mkP (h : Keeps m i false a s)
    {xHtOfs : Int} {xTrace : Cells TraceRec} {xTracePost : Option Nat} {xSys : SysState} {xAcrd : AcrdState} {xLoops
    : Cells LoopState} {xPhases : Cells PhaseState} {xIlReply : Cells Word} {xRails : Cells RailState} {xGroups :
    Cells GroupState} {xSeq : SeqState} {xSup : SupState} {xPath : PathState} {xMeas : MeasState} {xFlt : FltState}
    {xLedg : LedgState} {xEvt : EvtState} {xHost : HostState} {xLink : LinkState} {xBist : BistState} {xHiLatch :
    Cells (Option Word)} {xLoLatch : Cells (Option Word)}
    (eA : xAcrd.bankA = s.acrd.bankA := by exact rfl)
    (eB : xAcrd.bankB = s.acrd.bankB := by exact rfl)
    (eL : xLedg.array = s.ledg.array := by exact rfl)
    (eP : xLedg.poison = s.ledg.poison := by exact rfl)
    (eS : xEvt.sram = s.evt.sram := by exact rfl)
    (eX : xEvt.sramBad = s.evt.sramBad := by exact rfl)
    (eI : xAcrd.image = s.acrd.image := by exact rfl)
    (eV : xAcrd.active = s.acrd.active := by exact rfl) :
    Keeps m i false a
      ⟨s.pending, s.clock, xHtOfs, s.freeCount, s.regs, s.timers, xTrace, xTracePost, xSys, xAcrd, xLoops, xPhases,
      xIlReply, xRails, xGroups, xSeq, xSup, xPath, xMeas, xFlt, xLedg, xEvt, xHost, xLink, xBist, xHiLatch,
      xLoLatch⟩ :=
  keeps_mkX h eA eB eL eP eS eX (fun _ => ⟨eI, eV⟩) (fun h => nomatch h)

/-! ## A change of the loader's row and of the front-end's -/

theorem keeps_acrd {r : AcrdState} (h : Keeps m i p a s)
    (eA : r.bankA = s.acrd.bankA := by first | exact AcrdState.bankA_mk | rfl)
    (eB : r.bankB = s.acrd.bankB := by first | exact AcrdState.bankB_mk | rfl)
    (eI : r.image = s.acrd.image := by first | exact AcrdState.image_mk | rfl)
    (eV : r.active = s.acrd.active := by first | exact AcrdState.active_mk | rfl) :
    Keeps m i p a { s with acrd := r } :=
  keeps_mk h eA eB (eI := eI) (eV := eV)

theorem State.updAcrd_keeps {f : AcrdState → AcrdState} (h : Keeps m i p a s)
    (eA : (f s.acrd).bankA = s.acrd.bankA := by first | exact AcrdState.bankA_mk | rfl)
    (eB : (f s.acrd).bankB = s.acrd.bankB := by first | exact AcrdState.bankB_mk | rfl)
    (eI : (f s.acrd).image = s.acrd.image := by first | exact AcrdState.image_mk | rfl)
    (eV : (f s.acrd).active = s.acrd.active := by first | exact AcrdState.active_mk | rfl) : Keeps m i p a (s.updAcrd f) :=
  keeps_acrd h eA eB eI eV

theorem State.updAcrd_keepsI {f : AcrdState → AcrdState} (h : Keeps m false p a s)
    (eA : (f s.acrd).bankA = s.acrd.bankA := by first | exact AcrdState.bankA_mk | rfl)
    (eB : (f s.acrd).bankB = s.acrd.bankB := by first | exact AcrdState.bankB_mk | rfl) : Keeps m false p a (s.updAcrd f) :=
  keeps_mkI h eA eB

theorem State.updSys_keeps {f : SysState → SysState} (h : Keeps m i p a s)
    (eH : (f s.sys).phase = s.sys.phase := by first | exact SysState.phase_mk | rfl)
    (eG : (f s.sys).stage = s.sys.stage := by first | exact SysState.stage_mk | rfl) : Keeps m i p a (s.updSys f) :=
  keeps_mk h (eH := eH) (eG := eG)

theorem State.updSys_keepsP {f : SysState → SysState} (h : Keeps m i false a s) : Keeps m i false a (s.updSys f) :=
  keeps_mkP h

/-! ## A change of the shared SRAM -/

theorem keeps_sram {c : Cells (BitVec 64)} {d : Cells Bool} (h : Keeps false i p a s)
    (hc : s.evt.sram.wf (fun _ => 0#64) = true → c.wf (fun _ => 0#64) = true) :
    Keeps false i p a { s with evt := { s.evt with sram := c, sramBad := d } } := by
  refine ⟨h.pending, h.clock, h.free, fun hw => ?_, nofun, h.img, h.pha⟩
  obtain ⟨h1, h2, h3, h4, h5, h6⟩ := State.memWf_iff.1 (h.wf hw)
  exact State.memWf_iff.2 ⟨h1, h2, hc h3, h4, h5, h6⟩

end Sys2Proof.Machine
end

