-- ==== Sys2Proof/Laws/KeepsCore.lean ====
section
/-! SUPPORT.  What each operation and each command keeps, in the sense of `Keeps`: the shared operations, the Ledger's, the self-tests' and the windows'. -/

set_option Elab.async false

namespace Sys2Proof.Machine

variable {m i p : Bool} {a s t : State}

/-! ## Ops -/

theorem State.setF_keeps {x1 x2} (h : Keeps m i p a s) : Keeps m i p a (State.setF s x1 x2) := by
  unfold State.setF
  exact (State.setReg_keeps h)

theorem State.setB_keeps {x1 x2} (h : Keeps m i p a s) : Keeps m i p a (State.setB s x1 x2) := by
  unfold State.setB
  exact (State.setF_keeps h)

theorem State.setI_keeps {x1 x2} (h : Keeps m i p a s) : Keeps m i p a (State.setI s x1 x2) := by
  unfold State.setI
  exact (State.setF_keeps h)

theorem State.setPair_keeps {x1 x2 x3} (h : Keeps m i p a s) : Keeps m i p a (State.setPair s x1 x2 x3) := by
  unfold State.setPair
  exact (State.setReg_keeps (State.setReg_keeps h))

theorem State.setBitAt_keeps {x1 x2 x3} (h : Keeps m i p a s) : Keeps m i p a (State.setBitAt s x1 x2 x3) := by
  unfold State.setBitAt
  extract_lets v1
  exact (State.setReg_keeps h)

theorem State.rebase_keeps (h : Keeps m i p a s) : Keeps m i p a (State.rebase s) := by
  unfold State.rebase
  extract_lets v1 v2
  exact (keeps_mk h)

theorem State.idleTick_keeps (h : Keeps m i p a s) : Keeps m i p a (State.idleTick s) := by
  unfold State.idleTick
  split
  · exact h
  · exact h
  · exact ⟨h.pending, h.clock.trans (Nat.le_add_right ..), h.free, h.wf, h.mem, h.img, h.pha⟩
  · exact ⟨h.pending, h.clock.trans (Nat.le_add_right ..), h.free, h.wf, h.mem, h.img, h.pha⟩

theorem State.showLocked_keeps (h : Keeps m i p a s) : Keeps m i p a (State.showLocked s) := by
  unfold State.showLocked
  exact (State.setB_keeps h)

theorem State.eventMarks_keeps {x1} (h : Keeps m i p a s) : Keeps m i p a (State.eventMarks s x1) := by
  unfold State.eventMarks
  extract_lets v1 v2 v3 v4 v5 v6 v7 v8 v9
  have k10 : Keeps m i p a v1 := (State.arm_keeps h)
  clear_value v1
  have k11 : Keeps m i p a v4 := (keeps_ite (keeps_mk k10 (eS := EvtState.sram_mk) (eX := EvtState.sramBad_mk)) k10)
  clear_value v4
  have k12 : Keeps m i p a v6 := (keeps_ite (keeps_mk k11 (eS := EvtState.sram_mk) (eX := EvtState.sramBad_mk)) k11)
  clear_value v6
  have k13 : Keeps m i p a v7 := (keeps_ite (State.setBitAt_keeps k12) k12)
  clear_value v7
  have k14 : Keeps m i p a v9 := (keeps_ite (keeps_mk k13) k13)
  clear_value v9
  exact (keeps_ite (State.setBitAt_keeps k14) k13)

theorem State.eventCount_keeps {x1} (h : Keeps m i p a s) : Keeps m i p a (State.eventCount s x1) := by
  unfold State.eventCount
  extract_lets v1
  exact (keeps_ite (State.setF_keeps h) (State.setB_keeps (State.setF_keeps h)))

theorem State.saturated_keeps {x1} (h : Keeps m i p a s) : Keeps m i p a (State.saturated s x1) := by
  unfold State.saturated
  extract_lets v1 v2
  have k3 : Keeps m i p a v2 := (State.setReg_keeps h)
  clear_value v2
  exact (State.eventMarks_keeps (State.eventCount_keeps k3))

theorem State.event_keeps {x1} (h : Keeps m i p a s) : Keeps m i p a (State.event s x1) := by
  unfold State.event
  extract_lets v1 v2
  have k3 : Keeps m i p a v2 := (State.eventMarks_keeps (State.eventCount_keeps h))
  clear_value v2
  exact (keeps_ite (State.saturated_keeps k3) k3)

theorem State.count_keeps {x1 x2 x3} (h : Keeps m i p a s) : Keeps m i p a (State.count s x1 x2 x3) := by
  unfold State.count
  extract_lets v1 v2
  exact (keeps_ite (State.setF_keeps h) (keeps_ite (State.saturated_keeps (State.setB_keeps (State.setF_keeps h))) h))

theorem State.traceAt_keeps {x1 x2 x3 x4} (h : Keeps m i p a s) : Keeps m i p a (State.traceAt s x1 x2 x3 x4) := by
  unfold State.traceAt
  extract_lets v1 v2 v3 v4 v5 v6 v7 v8 v9 v10
  have k11 : Keeps m i p a v6 := (keeps_mk h)
  have k12 : Keeps m i p a v7 := (State.setF_keeps k11)
  have k13 : Keeps m i p a v8 := (keeps_ite (State.setB_keeps k12) k12)
  have k14 : Keeps m i p a v10 := (keeps_ite (State.setF_keeps k13) (keeps_ite k13 (State.saturated_keeps
      (State.setB_keeps (State.setF_keeps k13)))))
  clear_value v10
  refine keeps_ite ?_ ?_
  · exact h
  · refine keeps_ite ?_ ?_
    · exact (keeps_ite (State.setF_keeps h) (keeps_ite h (State.saturated_keeps (State.setB_keeps (State.setF_keeps
        h)))))
    · split
      · rename_i u15 u16
        exact k14
      · rename_i u17 u18 u19
        exact (keeps_ite (State.setB_keeps (keeps_mk k14)) (keeps_mk k14))

theorem State.traceRec_keeps {x1 x2 x3} (h : Keeps m i p a s) : Keeps m i p a (State.traceRec s x1 x2 x3) := by
  unfold State.traceRec
  exact (State.traceAt_keeps h)

theorem State.localSource_keeps {x1 x2} (h : Keeps m i p a s) : Keeps m i p a (State.localSource s x1 x2) := by
  unfold State.localSource
  exact (State.setBitAt_keeps h)

theorem State.railNews_keeps {x1} (h : Keeps m i p a s) : Keeps m i p a (State.railNews s x1) := by
  unfold State.railNews
  exact (keeps_foldl (fun _ _ g1 => (State.localSource_keeps g1)) h)

theorem State.pmStat_keeps {x1 x2 x3} (h : Keeps m i p a s) : Keeps m i p a (State.pmStat s x1 x2 x3) := by
  unfold State.pmStat
  exact (State.setF_keeps h)

theorem State.pmLatch_keeps {x1 x2} (h : Keeps m i p a s) : Keeps m i p a (State.pmLatch s x1 x2) := by
  unfold State.pmLatch
  extract_lets v1
  exact (keeps_mk h)

/-! ## Buffer -/

theorem State.showPages_keeps (h : Keeps m i p a s) : Keeps m i p a (State.showPages s) := by
  unfold State.showPages
  exact (State.setF_keeps h)

theorem State.noteErr_keeps {x1} (h : Keeps m i p a s) : Keeps m i p a (State.noteErr s x1) := by
  unfold State.noteErr
  extract_lets v1 v2
  have k3 : Keeps m i p a v1 := (State.count_keeps (State.setF_keeps h))
  clear_value v1
  exact (keeps_ite (keeps_mk k3 (eL := LedgState.array_mk) (eP := LedgState.poison_mk)) (keeps_ite
      (State.count_keeps h) h))

theorem State.fillErrs_keeps {x1 x2} (h : Keeps m i p a s) : Keeps m i p a (State.fillErrs s x1 x2) := by
  unfold State.fillErrs
  exact (keeps_foldl (fun _ _ g1 => (keeps_ite g1 (State.noteErr_keeps g1))) h)

theorem State.placeBytes_keeps {x1 x2 x3 x4 x5} (h : Keeps m i p a s)
    (ht : (State.placeBytes s x1 x2 x3 x4 x5) = some t) : Keeps m i p a t := by
  unfold State.placeBytes at ht
  extract_lets v1 v2 v3 v4 v5 v6 v7 v8 v9 v10 at ht
  split at ht
  · cases ht; exact h
  · split at ht
    · cases ht
    · split at ht
      · cases ht; exact keeps_mk h
      · split at ht
        · cases ht
        · cases ht
          have k1 : Keeps m i p a v9 := keeps_mk (State.fillErrs_keeps h)
          exact State.showPages_keeps (keeps_ite (State.arm_keeps k1) k1)

theorem State.slotLast_keeps {x1} (h : Keeps m i p a s) : Keeps m i p a (State.slotLast s x1) := by
  unfold State.slotLast
  extract_lets v1
  exact (keeps_mk h (eL := LedgState.array_mk) (eP := LedgState.poison_mk))

theorem State.placeRecord_keeps {x1 x2} (h : Keeps m i p a s) (ht : (State.placeRecord s x1 x2) = some t)
    : Keeps m i p a t := by
  unfold State.placeRecord at ht
  split at ht
  · cases ht; exact h
  · extract_lets v1 at ht
    split at ht
    · cases ht
    · rename_i e
      extract_lets v2 at ht
      cases ht
      have k1 := State.placeBytes_keeps h e
      exact keeps_mk (keeps_ite (State.noteErr_keeps (State.noteErr_keeps k1)) k1)

theorem State.placeParam_keeps {x1 x2} (h : Keeps m i p a s) (ht : (State.placeParam s x1 x2) = some t)
    : Keeps m i p a t := by
  unfold State.placeParam at ht
  extract_lets v1 v2 v3 at ht
  unfold v3 at ht
  split at ht
  · obtain ⟨u, hu, e⟩ := Option.bind_eq_some_iff.1 ht
    exact State.placeBytes_keeps (State.placeBytes_keeps h hu) e
  · obtain ⟨u, hu, rfl⟩ := Option.map_eq_some_iff.1 ht
    exact keeps_ite (State.placeBytes_keeps h hu) (State.fillErrs_keeps (State.placeBytes_keeps h hu))

theorem State.placeWait_keeps {x1} (h : Keeps m i p a s) (ht : (State.placeWait s x1) = some t)
    : Keeps m i p a t := by
  unfold State.placeWait at ht
  split at ht
  · exact State.placeBytes_keeps h ht
  · exact State.placeBytes_keeps h ht
  · exact State.placeParam_keeps h ht
  · exact State.placeRecord_keeps h ht
  · exact State.placeBytes_keeps h ht
  · exact State.placeBytes_keeps h ht
  · exact State.placeBytes_keeps h ht
  · exact State.placeBytes_keeps h ht

theorem State.fillLife_keeps (h : Keeps m i p a s) : Keeps m i p a (State.fillLife s) := by
  unfold State.fillLife
  exact (keeps_ite h (State.fillErrs_keeps h))

theorem State.bumpRecord_keeps {x1} (h : Keeps m i p a s) : Keeps m i p a (State.bumpRecord s x1) := by
  unfold State.bumpRecord
  extract_lets v1 v2
  split
  · rename_i u3 u4 u5
    have k6 := State.placeRecord_keeps h u5
    exact k6
  · rename_i u7 u8
    exact (keeps_mk h (eL := LedgState.array_mk) (eP := LedgState.poison_mk))

theorem State.commitParts_keeps (h : Keeps m i p a s) : Keeps m i p a (State.commitParts s) := by
  unfold State.commitParts
  extract_lets v1 v2 v3 v4 v5 v6 v7 v8 v9 v10 v11
  have k12 : Keeps m i p a v3 := (keeps_ite (State.bumpRecord_keeps h) h)
  clear_value v3
  have k13 : Keeps m i p a v4 := (keeps_ite (State.bumpRecord_keeps k12) k12)
  clear_value v4
  have k14 : Keeps m i p a v5 := (keeps_ite (State.fillLife_keeps k13) k13)
  clear_value v5
  have k15 : Keeps m i p a v10 := (keeps_mk k14 (eL := LedgState.array_mk) (eP := LedgState.poison_mk))
  clear_value v10
  exact (keeps_ite (keeps_mk k15 (eL := LedgState.array_mk) (eP := LedgState.poison_mk)) k15)

theorem State.runCommit_keeps {x1 x2} (h : Keeps m i p a s) : Keeps m i p a (State.runCommit s x1 x2) := by
  unfold State.runCommit
  extract_lets v1 v2 v3 v4
  have k5 : Keeps m i p a v2 := (keeps_mk h (eL := LedgState.array_mk) (eP := LedgState.poison_mk))
  clear_value v2
  have k6 : Keeps m i p a v3 := (State.setB_keeps (State.setB_keeps k5))
  clear_value v3
  have k7 : Keeps m i p a v4 := (State.arm_keeps k6)
  clear_value v4
  exact (State.showPages_keeps (keeps_ite (State.disarm_keeps k7) k7))

theorem State.holdCommit_keeps (h : Keeps m i p a s) : Keeps m i p a (State.holdCommit s) := by
  unfold State.holdCommit
  exact (keeps_ite h (State.event_keeps (State.setB_keeps h)))

theorem State.beginCommit_keeps (h : Keeps m i p a s) : Keeps m i p a (State.beginCommit s) := by
  unfold State.beginCommit
  extract_lets v1 v2
  have k3 : Keeps m i p a v2 := (State.commitParts_keeps (keeps_mk h (eL := LedgState.array_mk) (eP :=
      LedgState.poison_mk)))
  clear_value v2
  exact (keeps_ite (keeps_mk h (eL := LedgState.array_mk) (eP := LedgState.poison_mk)) (keeps_ite (keeps_mk h (eL
      := LedgState.array_mk) (eP := LedgState.poison_mk)) (keeps_ite (State.holdCommit_keeps (keeps_mk h (eL :=
          LedgState.array_mk) (eP := LedgState.poison_mk))) (State.runCommit_keeps k3))))

theorem State.commitLifeCycle_keeps {x1} (h : Keeps m i p a s) : Keeps m i p a (State.commitLifeCycle s x1) := by
  unfold State.commitLifeCycle
  extract_lets v1 v2 v3 v4
  have k5 : Keeps m i p a v2 := (keeps_mk h (eL := LedgState.array_mk) (eP := LedgState.poison_mk))
  have k6 : Keeps m i p a v4 := (State.fillLife_keeps (keeps_mk k5 (eL := LedgState.array_mk) (eP :=
      LedgState.poison_mk)))
  clear_value v4
  exact (keeps_ite k5 (keeps_ite (State.holdCommit_keeps k5) (State.runCommit_keeps k6)))

theorem State.placeLog_keeps (h : Keeps m i p a s) (ht : (State.placeLog s) = some t) : Keeps m i p a t := by
  unfold State.placeLog at ht
  split at ht
  · cases ht
  · split at ht
    · cases ht
    · extract_lets v1 v2 at ht
      split at ht
      · cases ht
      · rename_i u e
        have k1 := State.placeBytes_keeps h e
        obtain ⟨w, hw, rfl⟩ := Option.map_eq_some_iff.1 ht
        have k2 : Keeps m i p a w := by
          split at hw
          · obtain ⟨x, hx, rfl⟩ := Option.map_eq_some_iff.1 hw
            exact State.slotLast_keeps (State.placeRecord_keeps k1 hx)
          · cases hw; exact k1
        exact State.setF_keeps (State.setF_keeps (keeps_mk (keeps_ite (State.setB_keeps k2) k2)))

theorem State.placeLogs_keeps {x0} (h : Keeps m i p a s) : Keeps m i p a (State.placeLogs x0 s) := by
  induction x0 generalizing s with
  | zero => exact h
  | succ n ih =>
    unfold State.placeLogs
    split
    · rename_i u e
      exact ih (State.placeLog_keeps h e)
    · exact h

theorem State.commitIfFull_keeps (h : Keeps m i p a s) : Keeps m i p a (State.commitIfFull s) := by
  unfold State.commitIfFull
  exact (keeps_ite (State.beginCommit_keeps h) h)

theorem State.drainLog_keeps (h : Keeps m i p a s) : Keeps m i p a (State.drainLog s) := by
  unfold State.drainLog
  exact (State.commitIfFull_keeps (State.placeLogs_keeps h))

/-! ## Raise -/

theorem State.waitLog_keeps {x1 x2 x3 x4} (h : Keeps m i p a s) : Keeps m i p a (State.waitLog s x1 x2 x3 x4) := by
  unfold State.waitLog
  extract_lets v1 v2 v3 v4 v5 v6
  have k7 : Keeps m i p a v4 := (keeps_mk h (eL := LedgState.array_mk) (eP := LedgState.poison_mk))
  clear_value v4
  have k8 : Keeps m i p a v5 := (State.count_keeps h)
  clear_value v5
  exact (keeps_ite (State.setF_keeps k7) (keeps_mk k8 (eL := LedgState.array_mk) (eP := LedgState.poison_mk)))

theorem State.enterLog_keeps {x1 x2 x3 x4} (h : Keeps m i p a s) : Keeps m i p a (State.enterLog s x1 x2 x3 x4) := by
  unfold State.enterLog
  exact (State.drainLog_keeps (State.waitLog_keeps h))

theorem State.logRaise_keeps {x1 x2 x3} (h : Keeps m i p a s) : Keeps m i p a (State.logRaise s x1 x2 x3) := by
  unfold State.logRaise
  extract_lets v1 v2 v3 v4 v5 v6
  have k7 : Keeps m i p a v5 := (keeps_mk h)
  clear_value v5
  have k8 : Keeps m i p a v6 := (State.arm_keeps k7)
  clear_value v6
  exact (keeps_ite (State.enterLog_keeps h) (keeps_ite (State.enterLog_keeps k8) (keeps_mk h)))

theorem State.noteFirst_keeps {x1} (h : Keeps m i p a s) : Keeps m i p a (State.noteFirst s x1) := by
  unfold State.noteFirst
  extract_lets v1 v2 v3
  have k4 : Keeps m i p a v2 := (keeps_mk h)
  clear_value v2
  have k5 : Keeps m i p a v3 := (State.setF_keeps (State.setB_keeps k4))
  clear_value v3
  exact (keeps_ite (State.setPair_keeps k5) h)

theorem State.startGrace_keeps {x1 x2} (h : Keeps m i p a s) : Keeps m i p a (State.startGrace s x1 x2) := by
  unfold State.startGrace
  extract_lets v1 v2 v3
  have k4 : Keeps m i p a v2 := (keeps_mk h)
  clear_value v2
  have k5 : Keeps m i p a v3 := (State.arm_keeps k4)
  clear_value v3
  exact (keeps_ite (keeps_ite (keeps_mk h) h) (keeps_ite (State.setBitAt_keeps k5) h))

theorem State.collect_keeps {x1 x2 x3 x4} (h : Keeps m i p a s) : Keeps m i p a (State.collect s x1 x2 x3 x4) := by
  unfold State.collect
  extract_lets v1 v2 v3 v4 v5 v6 v7 v8
  have k9 : Keeps m i p a v1 := (State.noteFirst_keeps h)
  clear_value v1
  have k10 : Keeps m i p a v2 := (State.setBitAt_keeps k9)
  clear_value v2
  have k11 : Keeps m i p a v4 := (keeps_ite (State.setF_keeps k10) (keeps_ite (State.saturated_keeps
      (State.setB_keeps (State.setF_keeps k10))) k10))
  clear_value v4
  have k12 : Keeps m i p a v5 := (State.traceRec_keeps k11)
  clear_value v5
  have k13 : Keeps m i p a v6 := (State.logRaise_keeps k12)
  clear_value v6
  have k14 : Keeps m i p a v8 := (keeps_ite (keeps_mk k13) k13)
  clear_value v8
  exact (keeps_ite h (keeps_ite (keeps_ite (State.startGrace_keeps k14) k14) (State.event_keeps
      (State.startGrace_keeps k14))))

theorem State.payReads_keeps {x0} (h : Keeps m i p a s) : Keeps m i p a (State.payReads x0 s) := by
  induction x0 generalizing s with
  | zero => exact h
  | succ n ih =>
    unfold State.payReads
    exact keeps_ite h (ih (State.collect_keeps (keeps_mk h)))

theorem State.pay_keeps (h : Keeps m i p a s) : Keeps m i p a (State.pay s) := by
  unfold State.pay
  exact (State.payReads_keeps h)

theorem State.raiseWith_keeps {x1 x2 x3 x4} (h : Keeps m i p a s) : Keeps m i p a (State.raiseWith s x1 x2 x3 x4)
    := by
  unfold State.raiseWith
  exact (State.pay_keeps (State.collect_keeps h))

theorem State.queueLog_keeps {x1 x2 x3 x4} (h : Keeps m i p a s) : Keeps m i p a (State.queueLog s x1 x2 x3 x4) := by
  unfold State.queueLog
  exact (State.pay_keeps (State.enterLog_keeps h))

theorem State.raise_keeps {x1} (h : Keeps m i p a s) : Keeps m i p a (State.raise s x1) := by
  unfold State.raise
  exact (State.raiseWith_keeps h)

/-! ## SelfTest -/

theorem State.updBist_keeps {x1} (h : Keeps m i p a s) : Keeps m i p a (State.updBist s x1) := by
  unfold State.updBist
  exact (keeps_mk h)

theorem State.showBist_keeps (h : Keeps m i p a s) : Keeps m i p a (State.showBist s) := by
  unfold State.showBist
  extract_lets v1 v2
  exact (State.setF_keeps (State.setF_keeps h))

theorem State.setSlice_keeps {x1 x2} (h : Keeps m i p a s) : Keeps m i p a (State.setSlice s x1 x2) := by
  unfold State.setSlice
  exact (State.showBist_keeps (State.updBist_keeps h))

theorem State.countDefer_keeps (h : Keeps m i p a s) : Keeps m i p a (State.countDefer s) := by
  unfold State.countDefer
  exact (State.count_keeps h)

theorem State.abandonSlices_keeps {x1} (h : Keeps m i p a s) : Keeps m i p a (State.abandonSlices s x1) := by
  unfold State.abandonSlices
  refine keeps_foldl (fun w2 x3 k4 => ?_) ?_
  · split
    · rename_i u5 u6 u7
      exact (keeps_ite (State.countDefer_keeps (State.setSlice_keeps k4)) k4)
    · rename_i u8 u9
      exact k4
  · exact h

/-! ## Ledger -/

theorem State.wearArea_keeps {x1} (h : Keeps m i p a s) : Keeps m i p a (State.wearArea s x1) := by
  unfold State.wearArea
  extract_lets v1 v2 v3 v4 v5
  have k6 : Keeps m i p a v4 := (keeps_mk h (eL := LedgState.array_mk) (eP := LedgState.poison_mk))
  clear_value v4
  have k7 : Keeps m i p a v5 := (State.traceRec_keeps (State.setB_keeps k6))
  clear_value v5
  exact (keeps_ite (State.queueLog_keeps k7) h)

theorem State.wearUpdate_keeps (h : Keeps m i p a s) : Keeps m i p a (State.wearUpdate s) := by
  unfold State.wearUpdate
  extract_lets v1 v2 v3
  have k4 : Keeps m i p a v2 := (State.setF_keeps (State.setF_keeps (State.setF_keeps h)))
  clear_value v2
  have k5 : Keeps m i p a v3 := (State.setF_keeps (State.setF_keeps k4))
  clear_value v3
  exact (keeps_foldl (fun _ _ g6 => (State.wearArea_keeps g6)) k5)

theorem State.ledgSubmit_keeps {x1} (h : Keeps m i p a s) : Keeps m i p a (State.ledgSubmit s x1).2 := by
  unfold State.ledgSubmit
  split
  · rename_i u e
    refine State.pay_keeps (State.commitIfFull_keeps ?_)
    split at e
    · cases e
    · exact State.placeWait_keeps h e
  · split
    · exact State.count_keeps h
    · exact keeps_mk h

theorem State.windowWrite_keeps {x1 x2 x3 x4} (h : Keeps m i p a s)
    : Keeps m i p a (State.windowWrite s x1 x2 x3 x4).2 := by
  unfold State.windowWrite
  split
  · rename_i u1
    exact (State.ledgSubmit_keeps h)
  · rename_i u2
    exact h

theorem State.recordOf_keeps {x1 x2 x3} (h : Keeps m i p a s) : Keeps m i p a (State.recordOf s x1 x2 x3) := by
  unfold State.recordOf
  exact (State.ledgSubmit_keeps h)

theorem State.deviceRecord_keeps {x1 x2} (h : Keeps m i p a s) : Keeps m i p a (State.deviceRecord s x1 x2) := by
  unfold State.deviceRecord
  exact (State.recordOf_keeps h)

theorem State.cleanRecord_keeps {x1 x2} (h : Keeps m i p a s) : Keeps m i p a (State.cleanRecord s x1 x2) := by
  unfold State.cleanRecord
  extract_lets v1 v2 v3
  exact (State.showPages_keeps (keeps_mk h (eL := LedgState.array_mk) (eP := LedgState.poison_mk)))

theorem State.dropRecord_keeps {x1 x2} (h : Keeps m i p a s) : Keeps m i p a (State.dropRecord s x1 x2) := by
  unfold State.dropRecord
  extract_lets v1 v2 v3
  have k4 : Keeps m i p a v2 := (keeps_mk h (eL := LedgState.array_mk) (eP := LedgState.poison_mk))
  clear_value v2
  have k5 : Keeps m i p a v3 := by
    unfold v3
    split
    · rename_i u6 u7 u8
      exact (keeps_ite k4 (State.cleanRecord_keeps k4))
    · rename_i u9 u10
      exact k4
  clear_value v3
  split
  · rename_i u11 u12
    exact (State.deviceRecord_keeps k5)
  · rename_i u13
    exact k5

theorem State.readErr_keeps {x1} (h : Keeps m i p a s) : Keeps m i p a (State.readErr s x1) := by
  unfold State.readErr
  extract_lets v1 v2
  have k3 : Keeps m i p a v2 := (State.noteErr_keeps h)
  clear_value v2
  exact (State.pay_keeps (keeps_ite (State.ledgSubmit_keeps k3) k3))

theorem State.ledgReadWord_keeps {x1} (h : Keeps m i p a s) : Keeps m i p a (State.ledgReadWord s x1).2 := by
  unfold State.ledgReadWord
  split
  · rename_i u1 u2 u3
    exact h
  · rename_i u4 u5
    split
    · rename_i u6
      exact (State.readErr_keeps h)
    · rename_i u7
      exact (State.readErr_keeps h)

theorem State.ledgRead_keeps {x1 x2 x3} (h : Keeps m i p a s) : Keeps m i p a (State.ledgRead s x1 x2 x3).2 := by
  unfold State.ledgRead
  extract_lets v1 v2
  have k : Keeps m i p a v2.2.2.2 := by
    unfold v2
    refine List.foldlRecOn (motive := fun r : List Byte × Bool × Bool × State => Keeps m i p a r.2.2.2) _ _ h ?_
    intro r hr w _
    exact State.ledgReadWord_keeps hr
  exact State.setB_keeps (State.setB_keeps k)

theorem State.requestCommit_keeps (h : Keeps m i p a s) : Keeps m i p a (State.requestCommit s) := by
  unfold State.requestCommit
  exact (State.pay_keeps (State.beginCommit_keeps h))

theorem State.writeWords_keeps {x1} (h : Keeps false i p a s) : Keeps false i p a (State.writeWords s x1) := by
  unfold State.writeWords
  refine keeps_foldl (fun s x h => ?_) h
  refine ⟨h.pending, h.clock, h.free, fun hw => ?_, nofun, h.img, h.pha⟩
  obtain ⟨h1, h2, h3, h4, h5, h6⟩ := State.memWf_iff.1 (h.wf hw)
  exact State.memWf_iff.2 ⟨h1, Cells.wf_put_const x.1 x.2 h2, h3, h4, h5, h6⟩

theorem State.settleRecords_keeps {x1} (h : Keeps m i p a s) : Keeps m i p a (State.settleRecords s x1) := by
  unfold State.settleRecords
  extract_lets v1
  exact (keeps_mk h (eL := LedgState.array_mk) (eP := LedgState.poison_mk))

theorem State.endCommit_keeps (h : Keeps false i p a s) : Keeps false i p a (State.endCommit s) := by
  unfold State.endCommit
  extract_lets v1 v2 v3 v4 v5 v6 v7 v8 v9 v10 v11
  have k12 : Keeps false i p a v2 := (State.settleRecords_keeps (State.writeWords_keeps h))
  clear_value v2
  have k13 : Keeps false i p a v4 := (keeps_mk k12 (eL := LedgState.array_mk) (eP := LedgState.poison_mk))
  clear_value v4
  have k14 : Keeps false i p a v5 := (State.showPages_keeps (State.setB_keeps k13))
  clear_value v5
  have k15 : Keeps false i p a v6 := (State.disarm_keeps k14)
  clear_value v6
  have k16 : Keeps false i p a v7 := (State.count_keeps k15)
  clear_value v7
  have k17 : Keeps false i p a v9 := (keeps_ite (State.setF_keeps (State.setB_keeps (keeps_mk k16 (eL :=
      LedgState.array_mk) (eP := LedgState.poison_mk)))) k16)
  clear_value v9
  have k18 : Keeps false i p a v11 := (keeps_ite (keeps_mk k17 (eL := LedgState.array_mk) (eP :=
      LedgState.poison_mk)) k17)
  clear_value v11
  exact (State.wearUpdate_keeps (State.event_keeps k18))

theorem State.cutLedger_keeps {x1} (h : Keeps false i p a s) : Keeps false i p a (State.cutLedger s x1) := by
  unfold State.cutLedger
  extract_lets ws s1
  have k : Keeps false i p a s1 := by
    unfold s1
    clear_value ws
    split
    · exact State.writeWords_keeps h
    · extract_lets v1
      have k1 : Keeps false i p a v1 := State.writeWords_keeps h
      clear_value v1
      split
      · exact k1
      · extract_lets v2
        have k2 : Keeps false i p a v2 := keeps_mk k1 (eL := LedgState.array_mk) (eP := LedgState.poison_mk)
        clear_value v2
        split
        · exact k2
        · exact State.writeWords_keeps k2
        · exact ⟨k2.pending, k2.clock, k2.free, k2.wf, nofun, k2.img, k2.pha⟩
  clear_value s1
  exact keeps_mk k (eL := LedgState.array_mk) (eP := LedgState.poison_mk)

theorem State.beginDrain_keeps {x1} (h : Keeps m i p a s) : Keeps m i p a (State.beginDrain s x1) := by
  unfold State.beginDrain
  extract_lets v1
  exact (keeps_mk h (eL := LedgState.array_mk) (eP := LedgState.poison_mk))

theorem State.endDrain_keeps (h : Keeps m i p a s) : Keeps m i p a (State.endDrain s) := by
  unfold State.endDrain
  extract_lets v1
  exact (keeps_mk h (eL := LedgState.array_mk) (eP := LedgState.poison_mk))

/-! ## Access -/

theorem State.bankWrite_keeps {x1 x2 x3} (h : Keeps false i p a s)
    : Keeps false i p a (State.bankWrite s x1 x2 x3) := by
  unfold State.bankWrite
  extract_lets put s1 s2 q s3 s4
  have hv : ∀ c : Cells Byte, c.wf (fun _ => 0#8) = true → (put c).wf (fun _ => 0#8) = true := by
    intro c hc
    have : ∀ (l : List (Byte × Nat)) (c : Cells Byte), c.wf (fun _ => 0#8) = true →
        (l.foldl (fun c (x, i) => c.put 0#8 (x2 + i) x) c).wf (fun _ => 0#8) = true := by
      intro l
      induction l with
      | nil => exact fun _ h => h
      | cons e r ih => exact fun c h => ih _ (Cells.wf_put_const _ _ h)
    exact this _ c hc
  have k1 : Keeps false i p a s2 := by
    unfold s2
    refine keeps_ite ⟨h.pending, h.clock, h.free, fun hw => ?_, nofun, h.img, h.pha⟩
      ⟨h.pending, h.clock, h.free, fun hw => ?_, nofun, h.img, h.pha⟩
    · obtain ⟨h1, h2, h3, h4, h5, h6⟩ := State.memWf_iff.1 (h.wf hw)
      exact State.memWf_iff.2 ⟨h1, h2, h3, h4, hv _ h5, h6⟩
    · obtain ⟨h1, h2, h3, h4, h5, h6⟩ := State.memWf_iff.1 (h.wf hw)
      exact State.memWf_iff.2 ⟨h1, h2, h3, hv _ h4, h5, h6⟩
  have k2 : ∀ u : State, Keeps false i p a u → Keeps false i p a
      (if u.acrd.verifying = some x1 then { u with acrd := { u.acrd with verifying := none } }.disarm T.verify else
          u) :=
    fun u k => keeps_ite (State.disarm_keeps (keeps_acrd k)) k
  have k3 : Keeps false i p a s3 := k2 s2 k1
  have k4 : Keeps false i p a s4 := keeps_ite (State.setB_keeps k3) k3
  exact keeps_ite (State.setB_keeps k4) k4

theorem State.applied_keeps {x1 x2} (h : Keeps m i p a s) : Keeps m i p a (State.applied s x1 x2) := by
  unfold State.applied
  extract_lets v1
  have k2 : Keeps m i p a v1 := (State.setPair_keeps h)
  clear_value v1
  exact (keeps_ite (State.traceRec_keeps k2) k2)

theorem State.hostWrite_keeps {x1 x2 x3} (h : Keeps m i p a s) : Keeps m i p a (State.hostWrite s x1 x2 x3) := by
  unfold State.hostWrite
  split
  · rename_i u1
    exact (State.applied_keeps h)
  · rename_i u2 u3
    exact h

theorem State.cml_keeps {x1} (h : Keeps m i p a s) : Keeps m i p a (State.cml s x1) := by
  unfold State.cml
  exact (State.setF_keeps h)

theorem State.protoFail_keeps (h : Keeps m i p a s) : Keeps m i p a (State.protoFail s) := by
  unfold State.protoFail
  exact (State.raise_keeps (State.count_keeps h))

theorem State.pecFail_keeps (h : Keeps m i p a s) : Keeps m i p a (State.pecFail s) := by
  unfold State.pecFail
  exact (State.raise_keeps (State.cml_keeps (State.count_keeps h)))

theorem State.refuse_keeps {x1 x2} (h : Keeps m i p a s) : Keeps m i p a (State.refuse s x1 x2) := by
  unfold State.refuse
  extract_lets v1 v2
  have k3 : Keeps m i p a v1 := (State.cml_keeps h)
  clear_value v1
  exact (keeps_mk k3)

theorem State.busCmd_keeps {x1 x2 x3} (h : Keeps m i p a s) (hf3 : ∀ w0, Keeps m i p a w0 → Keeps m i p a (x3 w0))
    : Keeps m i p a (State.busCmd s x1 x2 x3) := by
  unfold State.busCmd
  extract_lets v1
  refine keeps_ite ?_ ?_
  · exact h
  · refine keeps_ite ?_ ?_
    · exact (State.refuse_keeps h)
    · refine hf3 _ ?_
      exact (keeps_mk h)

theorem State.busWrite_keeps {x1 x2 x3 x4 x5} (h : Keeps m i p a s)
    (hf5 : ∀ w0 w1 t, Keeps m i p a w0 → x5 w0 w1 = some t → Keeps m i p a t)
    : Keeps m i p a (State.busWrite s x1 x2 x3 x4 x5) := by
  unfold State.busWrite
  refine keeps_ite (State.protoFail_keeps h) (keeps_ite (State.pecFail_keeps h) ?_)
  split
  · rename_i e
    exact State.applied_keeps (hf5 _ _ _ h e)
  · exact State.cml_keeps h

theorem State.quadAnswer_keeps {x1 x2 x3} (h : Keeps m i p a s) : Keeps m i p a (State.quadAnswer s x1 x2 x3) := by
  unfold State.quadAnswer
  extract_lets v1 v2 v3 v4 v5
  have k6 : Keeps m i p a v1 := (State.setF_keeps (State.setF_keeps h))
  clear_value v1
  have k7 : Keeps m i p a v5 := (keeps_mk k6)
  clear_value v5
  exact (keeps_ite k7 (keeps_ite (State.count_keeps k7) (State.count_keeps k7)))

theorem State.denied_keeps {x1 x2} (h : Keeps m i p a s) : Keeps m i p a (State.denied s x1 x2) := by
  unfold State.denied
  split
  · rename_i u1
    exact (keeps_ite (State.refuse_keeps h) h)
  · rename_i u2
    exact (keeps_ite (State.quadAnswer_keeps h) h)
  · rename_i u3 u4 u5
    exact h

theorem sentAs_keeps {x0 x1 x2} (h : Keeps m i p a s) (hf2 : ∀ w0, Keeps m i p a (x2 w0))
    : Keeps m i p a (sentAs x0 x1 x2 s) := by
  unfold sentAs
  split
  · exact hf2 _
  · exact h

theorem State.busSend_keeps {x1 x2 x3 x4} (h : Keeps m i p a s)
    (hf4 : ∀ w0 w1 t, Keeps m i p a w0 → x4 w0 w1 = some t → Keeps m i p a t)
    : Keeps m i p a (State.busSend s x1 x2 x3 x4) := by
  unfold State.busSend
  exact State.busCmd_keeps h (fun w hw => State.busWrite_keeps hw hf4)

end Sys2Proof.Machine
end

