-- ==== Sys2Proof/Laws/KeepsMeas.lean ====
section
/-! SUPPORT.  What each operation and each command keeps, in the sense of `Keeps`: measurement and the power path. -/

set_option Elab.async false

namespace Sys2Proof.Machine

variable {m i p : Bool} {a s t : State}

/-! ## Meas -/

theorem State.updConv_keeps {x1 x2} (h : Keeps m i p a s) : Keeps m i p a (State.updConv s x1 x2) := by
  unfold State.updConv
  extract_lets v1
  exact (keeps_mk h)

theorem State.updChan_keeps {x1 x2} (h : Keeps m i p a s) : Keeps m i p a (State.updChan s x1 x2) := by
  unfold State.updChan
  extract_lets v1
  exact (keeps_mk h)

theorem State.showQueue_keeps {x1} (h : Keeps m i p a s) : Keeps m i p a (State.showQueue s x1) := by
  unfold State.showQueue
  exact (State.setB_keeps (State.setB_keeps (State.setF_keeps h)))

theorem State.enqueue_keeps {x1 x2 x3} (h : Keeps m i p a s) : Keeps m i p a (State.enqueue s x1 x2 x3) := by
  unfold State.enqueue
  extract_lets v1 v2 v3 v4 v5 v6 v7 v8
  have k9 : Keeps m i p a v2 := (State.setF_keeps h)
  clear_value v2
  have k10 : Keeps m i p a v7 := (keeps_mk k9)
  clear_value v7
  have k11 : Keeps m i p a v8 := (State.showQueue_keeps (State.setF_keeps k10))
  clear_value v8
  exact (keeps_ite (keeps_ite (State.event_keeps k11) k11) (State.event_keeps (State.count_keeps k9)))

theorem State.dequeue_keeps {x1} (h : Keeps m i p a s) : Keeps m i p a (State.dequeue s x1) := by
  unfold State.dequeue
  extract_lets v1 v2
  exact (State.showQueue_keeps (State.setF_keeps h))

theorem State.releaseTo_keeps {x1} (h : Keeps m i p a s) : Keeps m i p a (State.releaseTo s x1) := by
  unfold State.releaseTo
  extract_lets v1 v2 v3
  exact (keeps_ite (State.dequeue_keeps h) h)

theorem State.emptyQueue_keeps (h : Keeps m i p a s) : Keeps m i p a (State.emptyQueue s) := by
  unfold State.emptyQueue
  exact (State.showQueue_keeps (State.setF_keeps (State.setF_keeps h)))

theorem State.queueWord_keeps {x1 x2 x3 x4 x5} (h : Keeps m i p a s)
    : Keeps m i p a (State.queueWord s x1 x2 x3 x4 x5) := by
  unfold State.queueWord
  exact (keeps_ite (State.enqueue_keeps h) h)

theorem State.takeWord_keeps {x1 x2} (h : Keeps m i p a s) : Keeps m i p a (State.takeWord s x1 x2) := by
  unfold State.takeWord
  extract_lets v1 v2
  have k3 : Keeps m i p a v1 := (State.setB_keeps h)
  clear_value v1
  have k4 : Keeps m i p a v2 := (State.updChan_keeps k3)
  clear_value v2
  exact (keeps_ite (State.updChan_keeps k4) (keeps_ite k4 (State.raise_keeps (State.setB_keeps k4))))

theorem State.clearAccs_keeps (h : Keeps m i p a s) : Keeps m i p a (State.clearAccs s) := by
  unfold State.clearAccs
  exact (keeps_foldl (fun _ _ g1 => (State.setB_keeps (State.updChan_keeps g1))) h)

theorem State.scaleChange_keeps {x1} (h : Keeps m i p a s) : Keeps m i p a (State.scaleChange s x1) := by
  unfold State.scaleChange
  exact (State.setB_keeps (State.setB_keeps (State.updChan_keeps h)))

theorem State.showSnap_keeps {x1} (h : Keeps m i p a s) : Keeps m i p a (State.showSnap s x1) := by
  unfold State.showSnap
  extract_lets v1 v2 v3 v4 v5 v6
  have k7 : Keeps m i p a v3 := (State.setB_keeps (State.setB_keeps h))
  clear_value v3
  have k8 : Keeps m i p a v4 := (State.setPair_keeps k7)
  clear_value v4
  have k9 : Keeps m i p a v5 := (State.setF_keeps k8)
  clear_value v5
  have k10 : Keeps m i p a v6 := (State.setReg_keeps (State.setReg_keeps k9))
  clear_value v6
  exact (State.setPair_keeps k10)

theorem State.snapTake_keeps {x1} (h : Keeps m i p a s) : Keeps m i p a (State.snapTake s x1) := by
  unfold State.snapTake
  extract_lets v1 v2 v3 v4 v5
  have k6 : Keeps m i p a v5 := (keeps_mk h)
  clear_value v5
  exact (keeps_ite (State.arm_keeps (State.setB_keeps k6)) (State.setB_keeps h))

theorem State.snapReady_keeps {x1} (h : Keeps m i p a s) : Keeps m i p a (State.snapReady s x1) := by
  unfold State.snapReady
  extract_lets v1 v2
  have k3 : Keeps m i p a v1 := (State.disarm_keeps h)
  clear_value v1
  split
  · rename_i u4 u5
    exact h
  · rename_i u6 u7 u8 u9
    extract_lets v10 v11
    have k12 : Keeps m i p a v10 := (keeps_mk k3)
    clear_value v10
    have k13 : Keeps m i p a v11 := (State.setB_keeps (State.setF_keeps k12))
    clear_value v11
    exact (State.event_keeps (State.showSnap_keeps k13))

theorem State.snapCommand_keeps {x1 x2} (h : Keeps m i p a s) : Keeps m i p a (State.snapCommand s x1 x2) := by
  unfold State.snapCommand
  exact (keeps_ite (State.snapTake_keeps h) (keeps_ite (State.clearAccs_keeps h) (keeps_ite (keeps_ite
      (State.clearAccs_keeps (State.snapTake_keeps h)) (State.snapTake_keeps h)) h)))

theorem State.showConv_keeps {x1} (h : Keeps m i p a s) : Keeps m i p a (State.showConv s x1) := by
  unfold State.showConv
  extract_lets v1 v2
  have k3 : Keeps m i p a v2 := (State.setF_keeps (State.setB_keeps h))
  clear_value v2
  split
  · rename_i u4 u5
    exact (State.setF_keeps (State.setB_keeps k3))
  · rename_i u6 u7 u8
    exact (State.setF_keeps (State.setB_keeps k3))

theorem State.beginVisit_keeps {x1 x2} (h : Keeps m i p a s) : Keeps m i p a (State.beginVisit s x1 x2) := by
  unfold State.beginVisit
  extract_lets v1 v2 v3 v4 v5
  have k6 : Keeps m i p a v4 := (State.updConv_keeps h)
  clear_value v4
  have k7 : Keeps m i p a v5 := by
    unfold v5
    split
    · rename_i u8 u9 u10 u11 u12 u13
      exact (State.arm_keeps k6)
    · rename_i u14 u15 u16
      exact k6
  clear_value v5
  exact (State.showConv_keeps (State.arm_keeps k7))

theorem State.beginRound_keeps {x1} (h : Keeps m i p a s) : Keeps m i p a (State.beginRound s x1) := by
  unfold State.beginRound
  extract_lets v1 v2 v3 v4 v5 v6
  have k7 : Keeps m i p a v2 := (keeps_ite (State.setF_keeps h) h)
  clear_value v2
  exact (State.updConv_keeps k7)

theorem State.visitChan_keeps {x1 x2} (h : Keeps m i p a s) : Keeps m i p a (State.visitChan s x1 x2) := by
  unfold State.visitChan
  extract_lets v1 v2 v3 v4 v5 v6 v7
  have k8 : Keeps m i p a v4 := (keeps_ite (State.setB_keeps h) h)
  clear_value v4
  have k9 : Keeps m i p a v5 := (keeps_ite (State.updConv_keeps k8) k8)
  clear_value v5
  have k10 : Keeps m i p a v7 := (State.updConv_keeps k9)
  clear_value v7
  exact (State.beginVisit_keeps k10)

theorem State.sleepConv_keeps {x1} (h : Keeps m i p a s) : Keeps m i p a (State.sleepConv s x1) := by
  unfold State.sleepConv
  extract_lets v1
  have k2 : Keeps m i p a v1 := (State.updConv_keeps h)
  clear_value v1
  exact (State.showConv_keeps (State.disarm_keeps k2))

theorem State.nextVisit_keeps {x1} (h : Keeps m i p a s) : Keeps m i p a (State.nextVisit s x1) := by
  unfold State.nextVisit
  extract_lets v1 v2
  refine keeps_ite ?_ ?_
  · generalize v2 = v2z
    split
    · rename_i u3 u4
      exact (State.visitChan_keeps h)
    · rename_i u5
      exact (State.visitChan_keeps (State.beginRound_keeps h))
  · exact (State.sleepConv_keeps h)

theorem State.serveUrgent_keeps {x1} (h : Keeps m i p a s) : Keeps m i p a (State.serveUrgent s x1) := by
  unfold State.serveUrgent
  extract_lets v1
  split
  · rename_i u2 u3
    exact h
  · rename_i u4 u5 u6 u7 u8
    extract_lets v9
    have k10 : Keeps m i p a v9 := (State.updConv_keeps h)
    clear_value v9
    exact (State.beginVisit_keeps k10)

theorem State.urgentAccept_keeps {x1 x2} (h : Keeps m i p a s) : Keeps m i p a (State.urgentAccept s x1 x2) := by
  unfold State.urgentAccept
  extract_lets v1 v2 v3
  have k4 : Keeps m i p a v2 := (State.updConv_keeps h)
  clear_value v2
  have k5 : Keeps m i p a v3 := (State.abandonSlices_keeps k4)
  clear_value v3
  split
  · rename_i u6 u7
    exact (State.serveUrgent_keeps k5)
  · rename_i u8 u9 u10
    exact (keeps_ite (State.serveUrgent_keeps (State.updConv_keeps k5)) (State.showConv_keeps k5))

theorem State.urgentRequest_keeps {x1 x2} (h : Keeps m i p a s) : Keeps m i p a (State.urgentRequest s x1 x2) := by
  unfold State.urgentRequest
  extract_lets v1 v2 v3
  have k4 : Keeps m i p a v2 := by
    unfold v2
    split
    · rename_i u5 u6
      exact (State.setB_keeps (State.setB_keeps (State.setF_keeps h)))
    · rename_i u7
      exact h
  clear_value v2
  have k8 : Keeps m i p a v3 := by
    unfold v3
    split
    · rename_i u9 u10
      exact (State.localSource_keeps (State.setB_keeps k4))
    · rename_i u11
      exact k4
  clear_value v3
  exact (keeps_ite k4 (keeps_ite (State.urgentAccept_keeps k4) (State.count_keeps k8)))

theorem State.urgentResult_keeps {x1 x2 x3 x4} (h : Keeps m i p a s)
    : Keeps m i p a (State.urgentResult s x1 x2 x3 x4) := by
  unfold State.urgentResult
  extract_lets v1
  have k2 : Keeps m i p a v1 := (State.count_keeps h)
  clear_value v1
  split
  · rename_i u3
    exact k2
  · rename_i u4 u5
    extract_lets v6
    have k7 : Keeps m i p a v6 := (State.setPair_keeps (State.setReg_keeps k2))
    clear_value v6
    exact (State.localSource_keeps (State.setB_keeps (State.setB_keeps k7)))

theorem State.crossCheck_keeps {x1} (h : Keeps m i p a s) : Keeps m i p a (State.crossCheck s x1) := by
  unfold State.crossCheck
  extract_lets v1 v2 v3 v4
  have k5 : Keeps m i p a v4 := (State.setB_keeps h)
  clear_value v4
  split
  · rename_i u6 u7 u8 u9 u10 u11
    extract_lets v12 v13 v14 v15 v16
    have k17 : Keeps m i p a v14 := (State.setF_keeps k5)
    clear_value v14
    have k18 : Keeps m i p a v15 := (State.setB_keeps (State.setB_keeps k17))
    clear_value v15
    exact (keeps_ite (keeps_ite (keeps_ite (State.traceRec_keeps (State.raise_keeps (State.setF_keeps k18)))
        (State.setF_keeps k18)) (State.setF_keeps k18)) k5)
  · rename_i u19 u20 u21
    exact k5

theorem State.openJudge_keeps {x1 x2 x3 x4} (h : Keeps m i p a s) : Keeps m i p a (State.openJudge s x1 x2 x3 x4)
    := by
  unfold State.openJudge
  extract_lets v1 v2
  have k3 : Keeps m i p a v1 := (State.updChan_keeps h)
  clear_value v1
  split
  · rename_i u4 u5
    exact k3
  · rename_i u6 u7 u8
    extract_lets v9 v10 v11
    exact (keeps_ite (keeps_ite k3 (State.traceRec_keeps (State.raise_keeps (State.setB_keeps k3)))) (keeps_ite
        (State.traceRec_keeps (State.setB_keeps k3)) k3))

theorem State.closeVisit_keeps {x1 x2} (h : Keeps m i p a s) : Keeps m i p a (State.closeVisit s x1 x2) := by
  unfold State.closeVisit
  extract_lets v1 v2 v3
  have k4 : Keeps m i p a v2 := (State.openJudge_keeps h)
  clear_value v2
  have k5 : Keeps m i p a v3 := (State.updChan_keeps h)
  clear_value v3
  refine keeps_ite ?_ ?_
  · exact h
  · refine keeps_ite ?_ ?_
    · split
      · rename_i u6 u7 u8
        exact (State.arm_keeps k4)
      · rename_i u9 u10
        exact k4
    · split
      · rename_i u11 u12 u13 u14
        exact (State.crossCheck_keeps k5)
      · rename_i u15 u16
        exact k5

theorem State.afterVisit_keeps {x1 x2} (h : Keeps m i p a s) : Keeps m i p a (State.afterVisit s x1 x2) := by
  unfold State.afterVisit
  extract_lets v1 v2
  have k3 : Keeps m i p a v1 := (keeps_ite h (State.updConv_keeps h))
  clear_value v1
  have k4 : Keeps m i p a v2 := (State.updConv_keeps k3)
  clear_value v2
  refine keeps_ite ?_ ?_
  · exact (State.serveUrgent_keeps k3)
  · split
    · rename_i u5 u6 u7
      exact (State.beginVisit_keeps k4)
    · rename_i u8 u9
      exact (State.nextVisit_keeps (State.updConv_keeps k3))

theorem State.validWord_keeps {x1 x2 x3} (h : Keeps m i p a s) : Keeps m i p a (State.validWord s x1 x2 x3).1 := by
  unfold State.validWord
  extract_lets v1 v2 v3 v4 v5 v6 v7 v8 v9 v10
  have k11 : Keeps m i p a v6 := (keeps_ite (State.setB_keeps h) h)
  clear_value v6
  have k12 : Keeps m i p a v7 := (keeps_ite k11 (State.takeWord_keeps k11))
  clear_value v7
  have k13 : Keeps m i p a v8 := (State.queueWord_keeps k12)
  clear_value v8
  have k14 : Keeps m i p a v9 := by
    unfold v9
    split
    · rename_i u15 u16 u17
      exact (State.urgentResult_keeps k13)
    · rename_i u18 u19
      exact k13
  clear_value v9
  exact k14

theorem State.convWord_keeps {x1 x2} (h : Keeps m i p a s) : Keeps m i p a (State.convWord s x1 x2) := by
  unfold State.convWord
  extract_lets v1
  have k2 : Keeps m i p a v1 := by
    unfold v1
    split
    · rename_i u3 u4 u5
      exact (State.notBefore_keeps h)
    · rename_i u6 u7
      exact h
  split
  · rename_i u8 u9
    exact h
  · rename_i u10 u11 u12
    extract_lets v13 v14 v15 v16 v17
    have k18 : Keeps m i p a v14.1 := by
      unfold v14
      split
      · rename_i u19
        exact (State.queueWord_keeps k2)
      · rename_i u20
        exact (State.validWord_keeps k2)
    clear_value v14
    have k21 : Keeps m i p a v15 := k18
    clear_value v15
    exact (keeps_ite (State.afterVisit_keeps (State.closeVisit_keeps k21)) (State.arm_keeps (State.updConv_keeps
        k21)))

theorem State.measOff_keeps (h : Keeps m i p a s) : Keeps m i p a (State.measOff s) := by
  unfold State.measOff
  extract_lets v1 v2 v3 v4
  have k5 : Keeps m i p a v1 := by
    unfold v1
    refine keeps_foldl (fun w8 x9 k10 => ?_) ?_
    · extract_lets v11
      have k12 : Keeps m i p a v11 := (State.disarm_keeps k10)
      clear_value v11
      exact (State.setB_keeps (State.setF_keeps (State.setF_keeps k12)))
    · exact h
  clear_value v1
  have k13 : Keeps m i p a v2 := (keeps_foldl (fun _ _ g14 => (State.disarm_keeps g14)) k5)
  clear_value v2
  have k15 : Keeps m i p a v3 := (keeps_foldl (fun _ _ g16 => (State.disarm_keeps g16)) k13)
  clear_value v3
  have k17 : Keeps m i p a v4 := (State.resetRegs_keeps k15)
  clear_value v4
  exact (keeps_mk k17)

theorem State.measStart_keeps (h : Keeps m i p a s) : Keeps m i p a (State.measStart s) := by
  unfold State.measStart
  extract_lets v1 v2
  have k3 : Keeps m i p a v2 := (keeps_mk h)
  clear_value v2
  exact (keeps_foldl (fun _ _ g4 => (State.nextVisit_keeps (State.setB_keeps g4))) k3)

theorem State.wakeConvs_keeps (h : Keeps m i p a s) : Keeps m i p a (State.wakeConvs s) := by
  unfold State.wakeConvs
  refine keeps_foldl (fun w2 x3 k4 => ?_) ?_
  · extract_lets v5
    have k6 : Keeps m i p a v5 := (State.setB_keeps k4)
    clear_value v5
    exact (keeps_ite (State.nextVisit_keeps k6) k6)
  · exact h

theorem State.measSwitch_keeps (h : Keeps m i p a s) : Keeps m i p a (State.measSwitch s) := by
  unfold State.measSwitch
  refine keeps_foldl (fun w2 x3 k4 => ?_) ?_
  · extract_lets v5 v6
    have k7 : Keeps m i p a v5 := (State.updConv_keeps k4)
    clear_value v5
    have k8 : Keeps m i p a v6 := (State.setB_keeps k7)
    clear_value v6
    exact (keeps_ite k8 (State.nextVisit_keeps k8))
  · exact h

theorem State.lendConv_keeps {x1} (h : Keeps m i p a s) : Keeps m i p a (State.lendConv s x1) := by
  unfold State.lendConv
  extract_lets v1
  have k2 : Keeps m i p a v1 := (State.updConv_keeps h)
  clear_value v1
  exact (State.showConv_keeps (State.disarm_keeps k2))

theorem State.returnConv_keeps {x1} (h : Keeps m i p a s) : Keeps m i p a (State.returnConv s x1) := by
  unfold State.returnConv
  extract_lets v1
  have k2 : Keeps m i p a v1 := (State.updConv_keeps h)
  clear_value v1
  refine keeps_ite ?_ ?_
  · exact k2
  · split
    · rename_i u3 u4 u5 u6 u7
      exact (State.serveUrgent_keeps k2)
    · rename_i u8 u9 u10 u11 u12
      exact (State.beginVisit_keeps (State.updConv_keeps k2))
    · rename_i u13 u14 u15 u16
      exact (State.nextVisit_keeps k2)

theorem execConverterWord_keeps {x0 x1} (h : Keeps m i p a s) (ht : (execConverterWord x0 x1 s) = .next t)
    : Keeps m i p a t := by
  obtain rfl := Host.Outcome.next.inj ht
  exact (State.convWord_keeps h)

theorem execUrgentRequest_keeps {x0 x1} (h : Keeps m i p a s) (ht : (execUrgentRequest x0 x1 s) = .next t)
    : Keeps m i p a t := by
  obtain rfl := Host.Outcome.next.inj ht
  exact (State.urgentRequest_keeps h)

theorem State.fabricUrgent_keeps {x1} (h : Keeps m i p a s) : Keeps m i p a (State.fabricUrgent s x1) := by
  unfold State.fabricUrgent
  exact (State.urgentRequest_keeps h)

theorem State.busSnap_keeps {x1} (h : Keeps m i p a s) : Keeps m i p a (State.busSnap s x1) := by
  unfold State.busSnap
  refine State.busSend_keeps ?_ ?_
  · exact h
  · intro w1 w2 w3 k4 w5
    cases w5
    exact (State.snapCommand_keeps k4)

theorem execSnapshotTake_keeps {x0 x1 x3} (h : Keeps m i p a s) (ht : (execSnapshotTake x0 x1 s x3) = .next t)
    : Keeps m i p a t := by
  obtain rfl := Host.Outcome.next.inj ht
  refine sentAs_keeps ?_ ?_
  · exact (keeps_ite (State.hostWrite_keeps (State.snapCommand_keeps h)) (State.denied_keeps h))
  · intro w1
    exact (State.busSnap_keeps h)

theorem execSnapshotClear_keeps {x0 x1 x3} (h : Keeps m i p a s) (ht : (execSnapshotClear x0 x1 s x3) = .next t)
    : Keeps m i p a t := by
  obtain rfl := Host.Outcome.next.inj ht
  refine sentAs_keeps ?_ ?_
  · exact (keeps_ite (State.hostWrite_keeps (State.snapCommand_keeps h)) (State.denied_keeps h))
  · intro w1
    exact (State.busSnap_keeps h)

theorem execSnapshotTakeClear_keeps {x0 x1 x3} (h : Keeps m i p a s)
    (ht : (execSnapshotTakeClear x0 x1 s x3) = .next t) : Keeps m i p a t := by
  obtain rfl := Host.Outcome.next.inj ht
  refine sentAs_keeps ?_ ?_
  · exact (keeps_ite (State.hostWrite_keeps (State.snapCommand_keeps h)) (State.denied_keeps h))
  · intro w1
    exact (State.busSnap_keeps h)

theorem execSnapshotReady_keeps {x0} (h : Keeps m i p a s) (ht : (execSnapshotReady x0 s) = .next t)
    : Keeps m i p a t := by
  obtain rfl := Host.Outcome.next.inj ht
  exact (State.snapReady_keeps h)

theorem execQueueRelease_keeps {x0 x1} (h : Keeps m i p a s) (ht : (execQueueRelease x0 x1 s) = .next t)
    : Keeps m i p a t := by
  obtain rfl := Host.Outcome.next.inj ht
  exact (State.releaseTo_keeps h)

/-! ## Path -/

theorem State.updPath_keeps {x1} (h : Keeps m i p a s) : Keeps m i p a (State.updPath s x1) := by
  unfold State.updPath
  exact (keeps_mk h)

theorem State.setPath_keeps {x1} (h : Keeps m i p a s) : Keeps m i p a (State.setPath s x1) := by
  unfold State.setPath
  exact (State.setF_keeps h)

theorem State.noteCv_keeps (h : Keeps m i p a s) : Keeps m i p a (State.noteCv s) := by
  unfold State.noteCv
  exact (keeps_ite h (State.updPath_keeps h))

theorem State.showCaps_keeps (h : Keeps m i p a s) : Keeps m i p a (State.showCaps s) := by
  unfold State.showCaps
  extract_lets v1 v2 v3 v4 v5 v6 v7 v8
  have k9 : Keeps m i p a v1 := (State.noteCv_keeps h)
  clear_value v1
  have k10 : Keeps m i p a v8 := (State.setB_keeps k9)
  clear_value v8
  exact (State.setB_keeps k10)

theorem State.pausePre_keeps (h : Keeps m i p a s) : Keeps m i p a (State.pausePre s) := by
  unfold State.pausePre
  split
  · rename_i u1 u2 u3
    exact (State.disarm_keeps (State.updPath_keeps h))
  · rename_i u4 u5
    exact h

theorem State.pauseFast_keeps (h : Keeps m i p a s) : Keeps m i p a (State.pauseFast s) := by
  unfold State.pauseFast
  split
  · rename_i u1 u2 u3
    exact (State.disarm_keeps (State.updPath_keeps h))
  · rename_i u4 u5
    exact h

theorem State.runTimers_keeps {x1} (h : Keeps m i p a s) : Keeps m i p a (State.runTimers s x1) := by
  unfold State.runTimers
  extract_lets v1
  have k2 : Keeps m i p a v1 := (keeps_ite (keeps_ite h (State.arm_keeps h)) (State.pausePre_keeps h))
  clear_value v1
  exact (keeps_ite (keeps_ite k2 (State.arm_keeps k2)) (State.pauseFast_keeps k2))

theorem State.setChg_keeps {x1} (h : Keeps m i p a s) : Keeps m i p a (State.setChg s x1) := by
  unfold State.setChg
  extract_lets v1 v2 v3 v4
  have k5 : Keeps m i p a v1 := (State.setF_keeps h)
  clear_value v1
  have k6 : Keeps m i p a v2 := (State.updPath_keeps k5)
  clear_value v2
  have k7 : Keeps m i p a v3 := (State.showCaps_keeps (State.runTimers_keeps k6))
  clear_value v3
  exact (keeps_ite h (State.event_keeps (State.setF_keeps (State.setF_keeps k7))))

theorem State.chgDetect_keeps (h : Keeps m i p a s) : Keeps m i p a (State.chgDetect s) := by
  unfold State.chgDetect
  extract_lets v1
  have k2 : Keeps m i p a v1 := (State.setChg_keeps h)
  clear_value v1
  exact (keeps_ite (State.setChg_keeps k2) k2)

theorem State.chgFollow_keeps (h : Keeps m i p a s) : Keeps m i p a (State.chgFollow s) := by
  unfold State.chgFollow
  extract_lets v1 v2 v3 v4
  have k5 : Keeps m i p a v3 := (State.updPath_keeps h)
  clear_value v3
  have k6 : Keeps m i p a v4 := (State.disarm_keeps k5)
  clear_value v4
  exact (keeps_ite (State.setChg_keeps k5) (keeps_ite (keeps_ite (State.chgDetect_keeps k5) (State.setChg_keeps
      k5)) (keeps_ite (keeps_ite k6 (State.setChg_keeps k6)) (keeps_ite (State.arm_keeps k5) k5))))

theorem State.pathCause_keeps {x1} (h : Keeps m i p a s) : Keeps m i p a (State.pathCause s x1) := by
  unfold State.pathCause
  exact (State.traceRec_keeps (State.raise_keeps (State.setF_keeps h)))

theorem State.chgFault_keeps {x1} (h : Keeps m i p a s) : Keeps m i p a (State.chgFault s x1) := by
  unfold State.chgFault
  extract_lets v1
  have k2 : Keeps m i p a v1 := (State.pathCause_keeps (State.setChg_keeps h))
  clear_value v1
  exact (State.disarm_keeps (State.updPath_keeps k2))

theorem State.enterCc_keeps {x1} (h : Keeps m i p a s) : Keeps m i p a (State.enterCc s x1) := by
  unfold State.enterCc
  split
  · rename_i u1 u2
    exact (State.setChg_keeps h)
  · rename_i u3 u4 u5
    extract_lets v6
    have k7 : Keeps m i p a v6 := (State.setF_keeps h)
    clear_value v6
    exact (keeps_ite (State.setChg_keeps k7) (State.showCaps_keeps (State.setChg_keeps k7)))

theorem State.chgStepEnd_keeps {x1} (h : Keeps m i p a s) : Keeps m i p a (State.chgStepEnd s x1) := by
  unfold State.chgStepEnd
  extract_lets v1 v2
  refine keeps_ite ?_ ?_
  · exact h
  · refine keeps_ite ?_ ?_
    · exact (State.setChg_keeps h)
    · refine keeps_ite ?_ ?_
      · split
        · rename_i u3 u4 u5
          exact (State.showCaps_keeps (State.setF_keeps h))
        · rename_i u6 u7
          exact h
      · exact h

theorem State.showCell_keeps {x1} (h : Keeps m i p a s) : Keeps m i p a (State.showCell s x1) := by
  unfold State.showCell
  exact (State.setF_keeps h)

theorem State.showPath_keeps (h : Keeps m i p a s) : Keeps m i p a (State.showPath s) := by
  unfold State.showPath
  exact (State.setB_keeps h)

theorem State.endPeerOut_keeps (h : Keeps m i p a s) : Keeps m i p a (State.endPeerOut s) := by
  unfold State.endPeerOut
  extract_lets v1
  have k2 : Keeps m i p a v1 := (State.updPath_keeps h)
  clear_value v1
  exact (keeps_ite (State.setF_keeps k2) k2)

theorem State.dropOutStart_keeps (h : Keeps m i p a s) : Keeps m i p a (State.dropOutStart s) := by
  unfold State.dropOutStart
  exact (keeps_ite (State.endPeerOut_keeps h) h)

theorem State.enterOnVin_keeps (h : Keeps m i p a s) : Keeps m i p a (State.enterOnVin s) := by
  unfold State.enterOnVin
  exact (State.chgFollow_keeps (State.updPath_keeps (State.setPath_keeps h)))

theorem State.enterNosrc_keeps (h : Keeps m i p a s) : Keeps m i p a (State.enterNosrc s) := by
  unfold State.enterNosrc
  extract_lets v1 v2
  have k3 : Keeps m i p a v1 := (State.disarm_keeps (State.updPath_keeps (State.setPath_keeps h)))
  clear_value v1
  have k4 : Keeps m i p a v2 := (keeps_ite (State.disarm_keeps k3) (State.arm_keeps k3))
  clear_value v2
  exact (State.showPath_keeps (State.chgFollow_keeps k4))

theorem State.enterSoft_keeps {x1} (h : Keeps m i p a s) : Keeps m i p a (State.enterSoft s x1) := by
  unfold State.enterSoft
  exact (State.disarm_keeps (State.updPath_keeps (State.setPath_keeps (State.dropOutStart_keeps h))))

theorem State.nosrcToBat_keeps (h : Keeps m i p a s) : Keeps m i p a (State.nosrcToBat s) := by
  unfold State.nosrcToBat
  exact (keeps_ite (State.chgFollow_keeps (State.enterSoft_keeps h)) h)

theorem State.pathRefresh_keeps (h : Keeps m i p a s) : Keeps m i p a (State.pathRefresh s) := by
  unfold State.pathRefresh
  extract_lets v1 v2
  have k3 : Keeps m i p a v2 := (State.showPath_keeps h)
  clear_value v2
  exact (keeps_ite (State.nosrcToBat_keeps k3) k3)

theorem State.transferDone_keeps {x1 x2 x3} (h : Keeps m i p a s) : Keeps m i p a (State.transferDone s x1 x2 x3)
    := by
  unfold State.transferDone
  exact (State.traceRec_keeps (State.event_keeps (State.raise_keeps h)))

theorem State.chgSuspend_keeps (h : Keeps m i p a s) : Keeps m i p a (State.chgSuspend s) := by
  unfold State.chgSuspend
  exact (keeps_ite h (State.setChg_keeps h))

theorem State.handoverStart_keeps (h : Keeps m i p a s) : Keeps m i p a (State.handoverStart s) := by
  unfold State.handoverStart
  extract_lets v1 v2 v3 v4
  have k5 : Keeps m i p a v1 := (State.chgSuspend_keeps h)
  clear_value v1
  have k6 : Keeps m i p a v2 := (State.updPath_keeps (State.setPath_keeps k5))
  clear_value v2
  have k7 : Keeps m i p a v3 := (State.setPair_keeps k6)
  clear_value v3
  have k8 : Keeps m i p a v4 := (keeps_ite k7 (State.raise_keeps k7))
  clear_value v4
  exact (State.chgFollow_keeps k8)

theorem State.pathTrigger_keeps {x1 x2} (h : Keeps m i p a s) : Keeps m i p a (State.pathTrigger s x1 x2) := by
  unfold State.pathTrigger
  extract_lets v1
  have k2 : Keeps m i p a v1 := (State.setF_keeps h)
  clear_value v1
  exact (keeps_ite (keeps_ite (State.handoverStart_keeps k2) (State.nosrcToBat_keeps (State.enterNosrc_keeps k2))) h)

theorem State.startReturn_keeps (h : Keeps m i p a s) : Keeps m i p a (State.startReturn s) := by
  unfold State.startReturn
  extract_lets v1 v2
  have k3 : Keeps m i p a v2 := (State.updPath_keeps (State.setPath_keeps (State.dropOutStart_keeps h)))
  clear_value v2
  exact (State.arm_keeps (State.disarm_keeps k3))

theorem State.abandonReturn_keeps (h : Keeps m i p a s) : Keeps m i p a (State.abandonReturn s) := by
  unfold State.abandonReturn
  exact (State.disarm_keeps (State.updPath_keeps (State.setPath_keeps h)))

theorem State.completeReturn_keeps (h : Keeps m i p a s) : Keeps m i p a (State.completeReturn s) := by
  unfold State.completeReturn
  extract_lets v1 v2 v3 v4
  have k5 : Keeps m i p a v3 := (State.enterOnVin_keeps (State.disarm_keeps h))
  clear_value v3
  have k6 : Keeps m i p a v4 := (State.count_keeps k5)
  clear_value v4
  exact (State.transferDone_keeps k6)

theorem State.dropPack_keeps {x1} (h : Keeps m i p a s) : Keeps m i p a (State.dropPack s x1) := by
  unfold State.dropPack
  extract_lets v1
  exact (keeps_ite (State.enterNosrc_keeps (State.endPeerOut_keeps h)) (keeps_ite (State.updPath_keeps h)
      (keeps_ite (State.completeReturn_keeps h) (keeps_ite (State.enterNosrc_keeps (State.endPeerOut_keeps h)) h))))

theorem State.vinStableActs_keeps (h : Keeps m i p a s) : Keeps m i p a (State.vinStableActs s) := by
  unfold State.vinStableActs
  extract_lets v1 v2
  exact (keeps_ite (State.enterSoft_keeps h) (keeps_ite (State.startReturn_keeps h) (keeps_ite (State.updPath_keeps
      h) h)))

theorem State.handoverDone_keeps {x1} (h : Keeps m i p a s) : Keeps m i p a (State.handoverDone s x1) := by
  unfold State.handoverDone
  extract_lets v1 v2 v3 v4 v5 v6
  have k7 : Keeps m i p a v1 := (keeps_ite (State.setB_keeps (State.notBefore_keeps h)) h)
  clear_value v1
  have k8 : Keeps m i p a v3 := (State.setPath_keeps (State.setF_keeps k7))
  clear_value v3
  have k9 : Keeps m i p a v4 := (State.count_keeps k8)
  clear_value v4
  have k10 : Keeps m i p a v5 := (State.transferDone_keeps k9)
  clear_value v5
  have k11 : Keeps m i p a v6 := (State.enterNosrc_keeps k10)
  clear_value v6
  exact (keeps_ite (keeps_ite (State.enterSoft_keeps k11) k11) (State.vinStableActs_keeps k10))

theorem State.excursionChange_keeps (h : Keeps m i p a s) : Keeps m i p a (State.excursionChange s) := by
  unfold State.excursionChange
  extract_lets v1 v2 v3
  have k4 : Keeps m i p a v1 := (State.disarm_keeps (State.disarm_keeps (State.setB_keeps h)))
  clear_value v1
  have k5 : Keeps m i p a v2 := (keeps_ite (State.updPath_keeps k4) k4)
  clear_value v2
  have k6 : Keeps m i p a v3 := (State.arm_keeps (State.updPath_keeps h))
  clear_value v3
  exact (keeps_ite (keeps_ite (State.count_keeps (State.abandonReturn_keeps k5)) (State.nosrcToBat_keeps k5))
      (keeps_ite (State.arm_keeps k6) k6))

theorem State.showPresence_keeps (h : Keeps m i p a s) : Keeps m i p a (State.showPresence s) := by
  unfold State.showPresence
  exact (State.pathRefresh_keeps (State.setB_keeps h))

theorem State.enterZone_keeps {x1} (h : Keeps m i p a s) : Keeps m i p a (State.enterZone s x1) := by
  unfold State.enterZone
  extract_lets v1 v2 v3 v4
  have k5 : Keeps m i p a v3 := (State.showCaps_keeps (State.setF_keeps h))
  clear_value v3
  have k6 : Keeps m i p a v4 := (keeps_ite k5 (keeps_ite (keeps_ite k5 (State.raise_keeps (State.setChg_keeps k5)))
      (keeps_ite (State.chgDetect_keeps k5) k5)))
  clear_value v4
  exact (State.pathRefresh_keeps k6)

theorem State.markAbsent_keeps (h : Keeps m i p a s) : Keeps m i p a (State.markAbsent s) := by
  unfold State.markAbsent
  extract_lets v1 v2 v3 v4 v5 v6
  have k7 : Keeps m i p a v2 := (State.setF_keeps (State.setB_keeps h))
  clear_value v2
  have k8 : Keeps m i p a v3 := (keeps_ite k7 (State.raise_keeps k7))
  clear_value v3
  have k9 : Keeps m i p a v4 := (keeps_ite (State.setChg_keeps k8) k8)
  clear_value v4
  have k10 : Keeps m i p a v5 := (State.disarm_keeps (State.updPath_keeps k9))
  clear_value v5
  have k11 : Keeps m i p a v6 := (keeps_ite (keeps_ite k10 (State.arm_keeps k10)) k10)
  clear_value v6
  exact (State.showPath_keeps (keeps_ite k11 (State.endPeerOut_keeps (State.dropPack_keeps k11))))

theorem State.countStable_keeps (h : Keeps m i p a s) : Keeps m i p a (State.countStable s) := by
  unfold State.countStable
  exact (keeps_ite h (keeps_ite (State.disarm_keeps (State.setB_keeps h)) (State.arm_keeps (State.setB_keeps h))))

theorem State.freshStable_keeps (h : Keeps m i p a s) : Keeps m i p a (State.freshStable s) := by
  unfold State.freshStable
  exact (State.countStable_keeps (State.updPath_keeps h))

theorem State.pathStart_keeps (h : Keeps m i p a s) : Keeps m i p a (State.pathStart s) := by
  unfold State.pathStart
  extract_lets v1 v2 v3 v4
  have k5 : Keeps m i p a v1 := (State.updPath_keeps h)
  clear_value v1
  have k6 : Keeps m i p a v2 := (State.showPath_keeps (State.setB_keeps k5))
  clear_value v2
  have k7 : Keeps m i p a v3 := (State.countStable_keeps k6)
  clear_value v3
  have k8 : Keeps m i p a v4 := (keeps_ite (State.enterSoft_keeps k7) (keeps_ite (State.enterSoft_keeps k7)
      (State.enterNosrc_keeps k7)))
  clear_value v4
  exact (State.showCaps_keeps (State.chgFollow_keeps k8))

theorem State.pathIdle_keeps (h : Keeps m i p a s) : Keeps m i p a (State.pathIdle s) := by
  unfold State.pathIdle
  extract_lets v1 v2 v3 v4 v5 v6
  have k7 : Keeps m i p a v1 := (State.updPath_keeps h)
  clear_value v1
  have k8 : Keeps m i p a v4 := (State.setF_keeps (State.setF_keeps (State.setReg_keeps k7)))
  clear_value v4
  have k9 : Keeps m i p a v5 := (State.setReg_keeps (State.setReg_keeps k8))
  clear_value v5
  have k10 : Keeps m i p a v6 := (State.setReg_keeps (State.setReg_keeps k9))
  clear_value v6
  exact (keeps_foldl (fun _ _ g11 => (State.disarm_keeps g11)) k10)

theorem State.pathSafe_keeps (h : Keeps m i p a s) : Keeps m i p a (State.pathSafe s) := by
  unfold State.pathSafe
  extract_lets v1 v2 v3 v4 v5
  have k6 : Keeps m i p a v2 := (State.updPath_keeps h)
  clear_value v2
  have k7 : Keeps m i p a v3 := (State.endPeerOut_keeps (State.setF_keeps k6))
  clear_value v3
  have k8 : Keeps m i p a v4 := (State.chgFollow_keeps k7)
  clear_value v4
  have k9 : Keeps m i p a v5 := (State.pathCause_keeps k8)
  clear_value v5
  exact (keeps_ite (keeps_ite (State.handoverStart_keeps k9) (State.enterNosrc_keeps k9)) k8)

theorem State.longPressOver_keeps {x1} (h : Keeps m i p a s) : Keeps m i p a (State.longPressOver s x1) := by
  unfold State.longPressOver
  extract_lets v1 v2 v3
  have k4 : Keeps m i p a v1 := (State.setB_keeps h)
  clear_value v1
  have k5 : Keeps m i p a v2 := (keeps_ite k4 (State.setB_keeps k4))
  clear_value v2
  have k6 : Keeps m i p a v3 := (State.pathRefresh_keeps k5)
  clear_value v3
  exact (keeps_ite (State.arm_keeps k6) k6)

theorem execSoftStartEnd_keeps (h : Keeps m i p a s) (ht : (execSoftStartEnd s) = .next t) : Keeps m i p a t := by
  obtain rfl := Host.Outcome.next.inj ht
  exact (keeps_ite (State.enterOnVin_keeps h) (keeps_ite (State.vinStableActs_keeps (State.updPath_keeps
      (State.setPath_keeps h))) h))

theorem execSoftStartTimeout_keeps (h : Keeps m i p a s) (ht : (execSoftStartTimeout s) = .next t)
    : Keeps m i p a t := by
  obtain rfl := Host.Outcome.next.inj ht
  exact (keeps_ite (State.setB_keeps (State.enterNosrc_keeps h)) h)

theorem execVinStable_keeps (h : Keeps m i p a s) (ht : (execVinStable s) = .next t) : Keeps m i p a t := by
  obtain rfl := Host.Outcome.next.inj ht
  split
  · rename_i u1 u2 u3
    have k4 := State.expire_keeps h u3
    exact (State.vinStableActs_keeps (State.setB_keeps k4))
  · rename_i u5 u6
    split
    · rename_i u7 u8 u9
      have k10 := State.expire_keeps h u9
      exact (State.vinStableActs_keeps k10)
    · rename_i u11 u12
      exact h

theorem execReverseDetect_keeps {x1} (h : Keeps m i p a s) (ht : (execReverseDetect s x1) = .next t)
    : Keeps m i p a t := by
  obtain rfl := Host.Outcome.next.inj ht
  extract_lets v1
  have k2 : Keeps m i p a v1 := (State.updPath_keeps h)
  clear_value v1
  exact (keeps_ite (State.pathTrigger_keeps k2) h)

theorem execVsysLowDetect_keeps {x1} (h : Keeps m i p a s) (ht : (execVsysLowDetect s x1) = .next t)
    : Keeps m i p a t := by
  obtain rfl := Host.Outcome.next.inj ht
  exact (keeps_ite (State.pathTrigger_keeps (State.updPath_keeps h)) h)

theorem execHandoverComplete_keeps {x0} (h : Keeps m i p a s) (ht : (execHandoverComplete x0 s) = .next t)
    : Keeps m i p a t := by
  obtain rfl := Host.Outcome.next.inj ht
  exact (keeps_ite (State.handoverDone_keeps h) h)

theorem execBswReverseOff_keeps {x1} (h : Keeps m i p a s) (ht : (execBswReverseOff s x1) = .next t)
    : Keeps m i p a t := by
  obtain rfl := Host.Outcome.next.inj ht
  exact (keeps_ite (State.updPath_keeps h) h)

theorem execPackWarning_keeps {x1 x2} (h : Keeps m i p a s) (ht : (execPackWarning s x1 x2) = .next t)
    : Keeps m i p a t := by
  obtain rfl := Host.Outcome.next.inj ht
  exact (keeps_ite (State.event_keeps (State.setB_keeps (State.updPath_keeps h))) h)

theorem execPackWarningEnd_keeps {x1 x2} (h : Keeps m i p a s) (ht : (execPackWarningEnd s x1 x2) = .next t)
    : Keeps m i p a t := by
  obtain rfl := Host.Outcome.next.inj ht
  exact (keeps_ite (State.setB_keeps (State.updPath_keeps h)) h)

theorem execPackCut_keeps {x1 x2} (h : Keeps m i p a s) (ht : (execPackCut s x1 x2) = .next t) : Keeps m i p a t := by
  obtain rfl := Host.Outcome.next.inj ht
  extract_lets v1 v2
  have k3 : Keeps m i p a v1 := (State.updPath_keeps h)
  clear_value v1
  have k4 : Keeps m i p a v2 := (State.setB_keeps (State.updPath_keeps k3))
  clear_value v2
  exact (keeps_ite (keeps_ite (State.showPath_keeps (State.dropPack_keeps (State.pathCause_keeps k4)))
      (State.showPath_keeps k3)) h)

theorem execPackCutEnd_keeps {x1 x2} (h : Keeps m i p a s) (ht : (execPackCutEnd s x1 x2) = .next t)
    : Keeps m i p a t := by
  obtain rfl := Host.Outcome.next.inj ht
  exact (keeps_ite (State.pathRefresh_keeps (State.updPath_keeps h)) h)

theorem execReturnTransfer_keeps (h : Keeps m i p a s) (ht : (execReturnTransfer s) = .next t) : Keeps m i p a t := by
  obtain rfl := Host.Outcome.next.inj ht
  exact (keeps_ite (State.completeReturn_keeps h) (keeps_ite (State.completeReturn_keeps (State.endPeerOut_keeps
      h)) h))

theorem execReturnNoTransfer_keeps (h : Keeps m i p a s) (ht : (execReturnNoTransfer s) = .next t)
    : Keeps m i p a t := by
  obtain rfl := Host.Outcome.next.inj ht
  split
  · rename_i u1 u2 u3
    have k4 := State.expire_keeps h u3
    exact (keeps_ite (State.arm_keeps (State.count_keeps (State.abandonReturn_keeps k4))) k4)
  · rename_i u5 u6
    exact h

theorem execVinExcursion_keeps {x0} (h : Keeps m i p a s) (ht : (execVinExcursion x0 s) = .next t)
    : Keeps m i p a t := by
  obtain rfl := Host.Outcome.next.inj ht
  exact (keeps_ite (State.excursionChange_keeps (State.updPath_keeps h)) h)

theorem execVsysOkChange_keeps {x0} (h : Keeps m i p a s) (ht : (execVsysOkChange x0 s) = .next t)
    : Keeps m i p a t := by
  obtain rfl := Host.Outcome.next.inj ht
  exact (keeps_ite (State.setB_keeps h) h)

theorem execChargerSourceReturn_keeps (h : Keeps m i p a s) (ht : (execChargerSourceReturn s) = .next t)
    : Keeps m i p a t := by
  obtain rfl := Host.Outcome.next.inj ht
  split
  · rename_i u1 u2 u3
    have k4 := State.expire_keeps h u3
    exact (keeps_ite (State.chgDetect_keeps k4) k4)
  · rename_i u5 u6
    exact h

theorem execPrechargeExit_keeps {x0} (h : Keeps m i p a s) (ht : (execPrechargeExit x0 s) = .next t)
    : Keeps m i p a t := by
  obtain rfl := Host.Outcome.next.inj ht
  exact (keeps_ite (State.updPath_keeps (State.enterCc_keeps (State.showCell_keeps h))) h)

theorem execPrechargeTimeout_keeps (h : Keeps m i p a s) (ht : (execPrechargeTimeout s) = .next t)
    : Keeps m i p a t := by
  obtain rfl := Host.Outcome.next.inj ht
  split
  · rename_i u1 u2 u3
    have k4 := State.expire_keeps h u3
    exact (State.chgFault_keeps k4)
  · rename_i u5 u6
    exact h

theorem execChargerStepEnd_keeps {x0} (h : Keeps m i p a s) (ht : (execChargerStepEnd x0 s) = .next t)
    : Keeps m i p a t := by
  obtain rfl := Host.Outcome.next.inj ht
  exact (State.chgStepEnd_keeps (State.showCell_keeps h))

theorem execChargerTermination_keeps (h : Keeps m i p a s) (ht : (execChargerTermination s) = .next t)
    : Keeps m i p a t := by
  obtain rfl := Host.Outcome.next.inj ht
  exact (keeps_ite (State.setF_keeps (State.updPath_keeps (State.setChg_keeps h))) h)

theorem execChargerRecharge_keeps {x0} (h : Keeps m i p a s) (ht : (execChargerRecharge x0 s) = .next t)
    : Keeps m i p a t := by
  obtain rfl := Host.Outcome.next.inj ht
  exact (keeps_ite (State.enterCc_keeps (State.showCell_keeps h)) h)

theorem execFastChargeTimeout_keeps (h : Keeps m i p a s) (ht : (execFastChargeTimeout s) = .next t)
    : Keeps m i p a t := by
  obtain rfl := Host.Outcome.next.inj ht
  split
  · rename_i u1 u2 u3
    have k4 := State.expire_keeps h u3
    exact (State.chgFault_keeps (State.updPath_keeps k4))
  · rename_i u5 u6
    exact h

theorem execPackZoneChange_keeps {x0} (h : Keeps m i p a s) (ht : (execPackZoneChange x0 s) = .next t)
    : Keeps m i p a t := by
  obtain rfl := Host.Outcome.next.inj ht
  exact (keeps_ite (State.enterZone_keeps h) h)

theorem execChargerFault_keeps {x0} (h : Keeps m i p a s) (ht : (execChargerFault x0 s) = .next t)
    : Keeps m i p a t := by
  obtain rfl := Host.Outcome.next.inj ht
  exact (keeps_ite (keeps_ite (State.pathCause_keeps h) (State.chgFault_keeps h)) h)

theorem State.chgCommand_keeps {x1} (h : Keeps m i p a s) : Keeps m i p a (State.chgCommand s x1) := by
  unfold State.chgCommand
  exact (keeps_ite (keeps_ite (keeps_ite (State.chgDetect_keeps h) (State.setChg_keeps h)) h) (keeps_ite (keeps_ite
      h (State.chgDetect_keeps (State.updPath_keeps (State.setChg_keeps h)))) h))

theorem execChargerClear_keeps {x0} (h : Keeps m i p a s) (ht : (execChargerClear x0 s) = .next t)
    : Keeps m i p a t := by
  obtain rfl := Host.Outcome.next.inj ht
  exact (keeps_ite (State.hostWrite_keeps (State.chgCommand_keeps h)) (State.denied_keeps h))

theorem execChargerRestart_keeps {x0} (h : Keeps m i p a s) (ht : (execChargerRestart x0 s) = .next t)
    : Keeps m i p a t := by
  obtain rfl := Host.Outcome.next.inj ht
  exact (keeps_ite (State.hostWrite_keeps (State.chgCommand_keeps h)) (State.denied_keeps h))

theorem State.softLimit_keeps {x1} (h : Keeps m i p a s) : Keeps m i p a (State.softLimit s x1) := by
  unfold State.softLimit
  exact (State.showCaps_keeps (State.setReg_keeps h))

theorem execChargerSoftLimit_keeps {x0 x1} (h : Keeps m i p a s) (ht : (execChargerSoftLimit x0 x1 s) = .next t)
    : Keeps m i p a t := by
  obtain rfl := Host.Outcome.next.inj ht
  exact (keeps_ite (State.hostWrite_keeps (State.softLimit_keeps h)) (State.denied_keeps h))

theorem execPackPresent_keeps {x0 x1} (h : Keeps m i p a s) (ht : (execPackPresent x0 x1 s) = .next t)
    : Keeps m i p a t := by
  obtain rfl := Host.Outcome.next.inj ht
  extract_lets v1
  have k2 : Keeps m i p a v1 := (State.showPresence_keeps (State.updPath_keeps h))
  clear_value v1
  exact (keeps_ite (keeps_ite (State.chgDetect_keeps k2) k2) h)

theorem execPackAbsent_keeps {x0} (h : Keeps m i p a s) (ht : (execPackAbsent x0 s) = .next t) : Keeps m i p a t := by
  obtain rfl := Host.Outcome.next.inj ht
  extract_lets v1
  have k2 : Keeps m i p a v1 := by
    unfold v1
    split
    · rename_i u3
      exact (State.updPath_keeps h)
    · rename_i u4
      exact (State.updPath_keeps h)
    · rename_i u5
      exact h
  clear_value v1
  exact (keeps_ite (State.markAbsent_keeps (State.showPresence_keeps k2)) h)

theorem execPresenceProbe_keeps {x0} (h : Keeps m i p a s) (ht : (execPresenceProbe x0 s) = .next t)
    : Keeps m i p a t := by
  obtain rfl := Host.Outcome.next.inj ht
  extract_lets v1 v2 v3
  have k4 : Keeps m i p a v1 := by
    unfold v1
    split
    · rename_i u5 u6 u7
      have k8 := State.expire_keeps h u7
      exact k8
    · rename_i u9 u10
      exact h
  have k11 : Keeps m i p a v3 := (State.setF_keeps k4)
  clear_value v3
  exact (keeps_ite (keeps_ite (State.pathRefresh_keeps (State.setChg_keeps (State.setB_keeps k11)))
      (State.arm_keeps k11)) h)

theorem State.peerOutOff_keeps (h : Keeps m i p a s) : Keeps m i p a (State.peerOutOff s) := by
  unfold State.peerOutOff
  exact (keeps_ite (keeps_ite (State.vinStableActs_keeps (State.endPeerOut_keeps (State.updPath_keeps
      (State.setPath_keeps h)))) (State.enterNosrc_keeps (State.endPeerOut_keeps h))) (State.endPeerOut_keeps h))

theorem State.peerOff_keeps (h : Keeps m i p a s) : Keeps m i p a (State.peerOff s) := by
  unfold State.peerOff
  extract_lets v1
  have k2 : Keeps m i p a v1 := (State.peerOutOff_keeps (State.setF_keeps h))
  clear_value v1
  exact (keeps_ite (State.chgFollow_keeps (State.setF_keeps (State.updPath_keeps k2))) h)

theorem execPeerModeOff_keeps {x0} (h : Keeps m i p a s) (ht : (execPeerModeOff x0 s) = .next t)
    : Keeps m i p a t := by
  obtain rfl := Host.Outcome.next.inj ht
  exact (keeps_ite (State.hostWrite_keeps (State.peerOff_keeps h)) (State.denied_keeps h))

theorem State.peerIn_keeps (h : Keeps m i p a s) : Keeps m i p a (State.peerIn s) := by
  unfold State.peerIn
  extract_lets v1
  have k2 : Keeps m i p a v1 := (State.peerOutOff_keeps (State.setF_keeps h))
  clear_value v1
  exact (keeps_ite (State.chgFollow_keeps (State.setF_keeps (State.updPath_keeps k2))) h)

theorem execPeerModeIn_keeps {x0} (h : Keeps m i p a s) (ht : (execPeerModeIn x0 s) = .next t) : Keeps m i p a t := by
  obtain rfl := Host.Outcome.next.inj ht
  exact (keeps_ite (State.hostWrite_keeps (State.peerIn_keeps h)) (State.denied_keeps h))

theorem State.peerOut_keeps {x1} (h : Keeps m i p a s) : Keeps m i p a (State.peerOut s x1) := by
  unfold State.peerOut
  extract_lets v1
  have k2 : Keeps m i p a v1 := (State.setF_keeps (State.setF_keeps h))
  clear_value v1
  exact (keeps_ite (State.chgFollow_keeps (State.updPath_keeps k2)) h)

theorem execPeerModeOut_keeps {x0 x1} (h : Keeps m i p a s) (ht : (execPeerModeOut x0 x1 s) = .next t)
    : Keeps m i p a t := by
  obtain rfl := Host.Outcome.next.inj ht
  exact (keeps_ite (State.hostWrite_keeps (State.peerOut_keeps h)) (State.denied_keeps h))

theorem execPeerOutEstablished_keeps (h : Keeps m i p a s) (ht : (execPeerOutEstablished s) = .next t)
    : Keeps m i p a t := by
  obtain rfl := Host.Outcome.next.inj ht
  exact (keeps_ite (State.disarm_keeps (State.updPath_keeps (State.setPath_keeps h))) h)

theorem execPeerOutUndervoltage_keeps (h : Keeps m i p a s) (ht : (execPeerOutUndervoltage s) = .next t)
    : Keeps m i p a t := by
  obtain rfl := Host.Outcome.next.inj ht
  extract_lets v1
  have k2 : Keeps m i p a v1 := (State.chgSuspend_keeps (State.pathCause_keeps (State.endPeerOut_keeps h)))
  clear_value v1
  exact (keeps_ite (keeps_ite (State.handoverStart_keeps k2) (State.enterNosrc_keeps k2)) h)

theorem execLongPress_keeps {x0} (h : Keeps m i p a s) (ht : (execLongPress x0 s) = .next t) : Keeps m i p a t := by
  obtain rfl := Host.Outcome.next.inj ht
  split
  · rename_i u1 u2 u3
    have k4 := State.expire_keeps h u3
    extract_lets v5 v6 v7 v8 v9
    refine keeps_ite ?_ ?_
    · refine State.enterSoft_keeps ?_
      unfold v9
      refine State.showPath_keeps ?_
      refine keeps_ite ?_ ?_
      · refine State.setF_keeps ?_
        unfold v8
        refine State.endPeerOut_keeps ?_
        refine State.dropPack_keeps ?_
        refine State.updPath_keeps ?_
        unfold v7
        refine State.chgSuspend_keeps ?_
        refine State.arm_keeps ?_
        refine State.setB_keeps ?_
        unfold v6
        exact (keeps_mk k4 (eH := SysState.phase_mk) (eG := SysState.stage_mk))
      · unfold v8
        refine State.endPeerOut_keeps ?_
        refine State.dropPack_keeps ?_
        refine State.updPath_keeps ?_
        unfold v7
        refine State.chgSuspend_keeps ?_
        refine State.arm_keeps ?_
        refine State.setB_keeps ?_
        unfold v6
        exact (keeps_mk k4 (eH := SysState.phase_mk) (eG := SysState.stage_mk))
    · unfold v9
      refine State.showPath_keeps ?_
      refine keeps_ite ?_ ?_
      · refine State.setF_keeps ?_
        unfold v8
        refine State.endPeerOut_keeps ?_
        refine State.dropPack_keeps ?_
        refine State.updPath_keeps ?_
        unfold v7
        refine State.chgSuspend_keeps ?_
        refine State.arm_keeps ?_
        refine State.setB_keeps ?_
        unfold v6
        exact (keeps_mk k4 (eH := SysState.phase_mk) (eG := SysState.stage_mk))
      · unfold v8
        refine State.endPeerOut_keeps ?_
        refine State.dropPack_keeps ?_
        refine State.updPath_keeps ?_
        unfold v7
        refine State.chgSuspend_keeps ?_
        refine State.arm_keeps ?_
        refine State.setB_keeps ?_
        unfold v6
        exact (keeps_mk k4 (eH := SysState.phase_mk) (eG := SysState.stage_mk))
  · rename_i u14 u15
    exact h

theorem execSvcNChange_keeps {x0} (h : Keeps m i p a s) (ht : (execSvcNChange x0 s) = .next t) : Keeps m i p a t := by
  obtain rfl := Host.Outcome.next.inj ht
  extract_lets v1 v2 v3
  have k4 : Keeps m i p a v3 := (keeps_mk h (eH := SysState.phase_mk) (eG := SysState.stage_mk))
  clear_value v3
  exact (keeps_ite h (keeps_ite (keeps_mk h (eH := SysState.phase_mk) (eG := SysState.stage_mk)) (keeps_ite
      (keeps_ite (State.arm_keeps k4) k4) (State.disarm_keeps (State.updPath_keeps (keeps_mk h (eH :=
          SysState.phase_mk) (eG := SysState.stage_mk)))))))

end Sys2Proof.Machine
end

