-- ==== Sys2Proof/Laws/KeepsLoop.lean ====
section
/-! SUPPORT.  What each operation and each command keeps, in the sense of `Keeps`: the loops and the survey. -/

set_option Elab.async false

namespace Sys2Proof.Machine

variable {m i p : Bool} {a s t : State}

/-! ## Loop -/

theorem State.updLoop_keeps {x1 x2} (h : Keeps m i p a s) : Keeps m i p a (State.updLoop s x1 x2) := by
  unfold State.updLoop
  exact (keeps_mk h)

theorem State.updPhase_keeps {x1 x2} (h : Keeps m i p a s) : Keeps m i p a (State.updPhase s x1 x2) := by
  unfold State.updPhase
  exact (keeps_mk h)

theorem State.showPhases_keeps {x1} (h : Keeps m i p a s) : Keeps m i p a (State.showPhases s x1) := by
  unfold State.showPhases
  extract_lets v1 v2 v3
  have k4 : Keeps m i p a v1 := (State.setB_keeps h)
  clear_value v1
  have k5 : Keeps m i p a v2 := (State.setF_keeps (State.setF_keeps k4))
  clear_value v2
  have k6 : Keeps m i p a v3 := (State.setF_keeps k5)
  clear_value v3
  exact (State.setF_keeps k6)

theorem State.idlePhases_keeps {x1} (h : Keeps m i p a s) : Keeps m i p a (State.idlePhases s x1) := by
  unfold State.idlePhases
  extract_lets v1
  exact (State.showPhases_keeps (keeps_foldl (fun _ _ g2 => (State.updPhase_keeps (State.setF_keeps
      (State.setF_keeps g2)))) h))

theorem State.readyPhases_keeps (h : Keeps m i p a s) : Keeps m i p a (State.readyPhases s) := by
  unfold State.readyPhases
  extract_lets v1
  have k2 : Keeps m i p a v1 := by
    unfold v1
    refine keeps_foldl (fun w5 x6 k7 => ?_) ?_
    · extract_lets v8 v9 v10 v11
      have k12 : Keeps m i p a v11 := (State.setF_keeps (State.setF_keeps (State.setReg_keeps k7)))
      clear_value v11
      exact (State.setB_keeps (State.setB_keeps k12))
    · exact h
  clear_value v1
  exact (keeps_foldl (fun _ _ g13 => (State.showPhases_keeps g13)) k2)

theorem State.setBase_keeps {x1 x2} (h : Keeps m i p a s) : Keeps m i p a (State.setBase s x1 x2) := by
  unfold State.setBase
  exact (keeps_ite (State.updLoop_keeps h) (State.setF_keeps h))

theorem State.setTarget_keeps {x1 x2} (h : Keeps m i p a s) : Keeps m i p a (State.setTarget s x1 x2) := by
  unfold State.setTarget
  exact (State.setF_keeps (State.setF_keeps h))

theorem State.setRef_keeps {x1 x2} (h : Keeps m i p a s) : Keeps m i p a (State.setRef s x1 x2) := by
  unfold State.setRef
  exact (State.setF_keeps (State.updLoop_keeps h))

theorem State.pauseSurvey_keeps {x1} (h : Keeps m i p a s) : Keeps m i p a (State.pauseSurvey s x1) := by
  unfold State.pauseSurvey
  extract_lets v1 v2
  have k3 : Keeps m i p a v2 := (State.updLoop_keeps h)
  clear_value v2
  exact (State.disarm_keeps (State.disarm_keeps (State.setF_keeps k3)))

theorem State.watchBurst_keeps {x1} (h : Keeps m i p a s) : Keeps m i p a (State.watchBurst s x1) := by
  unfold State.watchBurst
  extract_lets v1
  exact (keeps_ite (State.pauseSurvey_keeps h) (keeps_ite (keeps_ite (State.disarm_keeps h) (keeps_ite h
      (State.arm_keeps h))) h))

theorem State.surveyAbandon_keeps {x1} (h : Keeps m i p a s) : Keeps m i p a (State.surveyAbandon s x1) := by
  unfold State.surveyAbandon
  extract_lets v1 v2 v3 v4 v5 v6
  have k7 : Keeps m i p a v2 := (State.count_keeps (State.setF_keeps h))
  clear_value v2
  have k8 : Keeps m i p a v5 := (State.updLoop_keeps k7)
  clear_value v5
  have k9 : Keeps m i p a v6 := (State.disarm_keeps (State.disarm_keeps (State.disarm_keeps k8)))
  clear_value v6
  exact (keeps_ite (State.arm_keeps k9) h)

theorem State.ilAlert_keeps {x1} (h : Keeps m i p a s) : Keeps m i p a (State.ilAlert s x1) := by
  unfold State.ilAlert
  extract_lets v1
  exact (keeps_ite (State.event_keeps (State.arm_keeps h)) h)

theorem State.ilLoopFault_keeps {x1} (h : Keeps m i p a s) : Keeps m i p a (State.ilLoopFault s x1) := by
  unfold State.ilLoopFault
  exact (keeps_foldl (fun _ _ g1 => (keeps_ite (State.ilAlert_keeps g1) g1)) h)

theorem State.ilRecord_keeps {x1 x2 x3} (h : Keeps m i p a s) : Keeps m i p a (State.ilRecord s x1 x2 x3) := by
  unfold State.ilRecord
  exact (State.traceRec_keeps h)

theorem State.endForecast_keeps {x1} (h : Keeps m i p a s) : Keeps m i p a (State.endForecast s x1) := by
  unfold State.endForecast
  extract_lets v1 v2
  have k3 : Keeps m i p a v1 := (State.updLoop_keeps h)
  clear_value v1
  have k4 : Keeps m i p a v2 := (State.disarm_keeps (State.disarm_keeps (State.disarm_keeps k3)))
  clear_value v2
  exact (State.setB_keeps k4)

theorem State.dropForecast_keeps {x1} (h : Keeps m i p a s) : Keeps m i p a (State.dropForecast s x1) := by
  unfold State.dropForecast
  split
  · rename_i u1 u2
    exact h
  · rename_i u3 u4 u5
    exact (State.ilRecord_keeps (State.count_keeps h))

theorem State.fulfil_keeps {x1 x2} (h : Keeps m i p a s) : Keeps m i p a (State.fulfil s x1 x2) := by
  unfold State.fulfil
  extract_lets v1 v2 v3 v4
  have k5 : Keeps m i p a v1 := (State.updLoop_keeps h)
  clear_value v1
  have k6 : Keeps m i p a v2 := (keeps_foldl (fun _ _ g7 => (State.updPhase_keeps g7)) k5)
  clear_value v2
  have k8 : Keeps m i p a v3 := (State.disarm_keeps (State.disarm_keeps k6))
  clear_value v3
  have k9 : Keeps m i p a v4 := (State.count_keeps k8)
  clear_value v4
  exact (State.arm_keeps k9)

theorem State.dueForecast_keeps {x1} (h : Keeps m i p a s) : Keeps m i p a (State.dueForecast s x1) := by
  unfold State.dueForecast
  split
  · rename_i u1 u2
    exact h
  · rename_i u3 u4 u5
    exact (keeps_ite (State.fulfil_keeps h) h)

theorem State.cancelForecast_keeps {x1} (h : Keeps m i p a s) : Keeps m i p a (State.cancelForecast s x1) := by
  unfold State.cancelForecast
  exact (keeps_ite (State.endForecast_keeps (State.dropForecast_keeps h)) h)

theorem State.refuseCommand_keeps {x1 x2 x3} (h : Keeps m i p a s)
    : Keeps m i p a (State.refuseCommand s x1 x2 x3) := by
  unfold State.refuseCommand
  extract_lets v1
  have k2 : Keeps m i p a v1 := (State.setF_keeps (State.setF_keeps h))
  clear_value v1
  exact (State.count_keeps k2)

theorem State.freeLock_keeps {x1} (h : Keeps m i p a s) : Keeps m i p a (State.freeLock s x1) := by
  unfold State.freeLock
  exact (State.disarm_keeps (State.setF_keeps h))

theorem State.restartLock_keeps {x1} (h : Keeps m i p a s) : Keeps m i p a (State.restartLock s x1) := by
  unfold State.restartLock
  extract_lets v1
  exact (keeps_ite (State.disarm_keeps h) (State.arm_keeps h))

theorem State.takeLock_keeps {x1 x2} (h : Keeps m i p a s) : Keeps m i p a (State.takeLock s x1 x2) := by
  unfold State.takeLock
  extract_lets v1 v2
  exact (keeps_ite (State.restartLock_keeps (State.setF_keeps h)) (State.refuseCommand_keeps h))

theorem State.releaseLock_keeps {x1 x2} (h : Keeps m i p a s) : Keeps m i p a (State.releaseLock s x1 x2) := by
  unfold State.releaseLock
  exact (keeps_ite (State.freeLock_keeps h) h)

theorem State.acceptSetpoint_keeps {x1 x2 x3 x4} (h : Keeps m i p a s)
    : Keeps m i p a (State.acceptSetpoint s x1 x2 x3 x4) := by
  unfold State.acceptSetpoint
  extract_lets v1 v2
  have k3 : Keeps m i p a v1 := (keeps_ite (State.restartLock_keeps h) h)
  clear_value v1
  exact (keeps_ite (keeps_ite k3 (State.setTarget_keeps (State.updLoop_keeps k3))) (State.updLoop_keeps k3))

theorem State.setpoint_keeps {x1 x2 x3 x4} (h : Keeps m i p a s) : Keeps m i p a (State.setpoint s x1 x2 x3 x4) := by
  unfold State.setpoint
  split
  · rename_i u1 u2 u3
    exact (State.refuseCommand_keeps h)
  · rename_i u4 u5
    exact (State.acceptSetpoint_keeps h)

theorem State.activateShed_keeps {x1} (h : Keeps m i p a s) : Keeps m i p a (State.activateShed s x1) := by
  unfold State.activateShed
  exact (State.updLoop_keeps (keeps_foldl (fun _ _ g1 => (State.setF_keeps g1)) h))

theorem State.restoreShed_keeps {x1} (h : Keeps m i p a s) : Keeps m i p a (State.restoreShed s x1) := by
  unfold State.restoreShed
  exact (keeps_ite h (State.disarm_keeps (State.surveyAbandon_keeps (State.updLoop_keeps h))))

theorem State.countTargets_keeps {x1 x2} (h : Keeps m i p a s) : Keeps m i p a (State.countTargets s x1 x2) := by
  unfold State.countTargets
  extract_lets v1
  exact (State.updLoop_keeps h)

theorem State.beginTransition_keeps {x1 x2 x3 x4} (h : Keeps m i p a s)
    : Keeps m i p a (State.beginTransition s x1 x2 x3 x4) := by
  unfold State.beginTransition
  extract_lets v1 v2 v3 v4 v5
  have k6 : Keeps m i p a v3 := (keeps_ite h (State.updLoop_keeps h))
  clear_value v3
  have k7 : Keeps m i p a v4 := (State.updLoop_keeps (State.countTargets_keeps k6))
  clear_value v4
  have k8 : Keeps m i p a v5 := (State.disarm_keeps (State.setB_keeps k7))
  clear_value v5
  exact (State.restoreShed_keeps (State.setBase_keeps (State.setTarget_keeps k8)))

theorem State.applyQueued_keeps {x1} (h : Keeps m i p a s) : Keeps m i p a (State.applyQueued s x1) := by
  unfold State.applyQueued
  extract_lets v1 v2
  have k3 : Keeps m i p a v2 := (State.updLoop_keeps h)
  clear_value v2
  split
  · rename_i u4 u5
    exact h
  · rename_i u6 u7 u8
    exact (keeps_ite (State.setTarget_keeps (State.countTargets_keeps k3)) (keeps_ite (State.setTarget_keeps k3)
        (State.beginTransition_keeps k3)))

theorem State.updateDe_keeps {x1} (h : Keeps m i p a s) : Keeps m i p a (State.updateDe s x1) := by
  unfold State.updateDe
  extract_lets v1 v2
  exact (keeps_ite (State.setB_keeps h) (keeps_ite (State.setB_keeps h) (keeps_ite (State.setB_keeps h) (keeps_ite
      (State.setB_keeps h) (keeps_ite (State.setB_keeps h) h)))))

theorem State.enterReg_keeps {x1} (h : Keeps m i p a s) : Keeps m i p a (State.enterReg s x1) := by
  unfold State.enterReg
  extract_lets v1
  have k2 : Keeps m i p a v1 := (State.updateDe_keeps (State.updLoop_keeps (State.setBase_keeps h)))
  clear_value v1
  exact (keeps_ite (State.arm_keeps (State.updLoop_keeps k2)) k2)

theorem State.rampDone_keeps {x1} (h : Keeps m i p a s) : Keeps m i p a (State.rampDone s x1) := by
  unfold State.rampDone
  extract_lets v1 v2
  have k3 : Keeps m i p a v1 := (State.updLoop_keeps h)
  clear_value v1
  exact (keeps_ite (keeps_ite (State.arm_keeps (State.setBase_keeps k3)) (State.enterReg_keeps k3))
      (State.arm_keeps (State.setBase_keeps k3)))

theorem State.enterOff_keeps {x1} (h : Keeps m i p a s) : Keeps m i p a (State.enterOff s x1) := by
  unfold State.enterOff
  extract_lets v1 v2 v3 v4
  have k5 : Keeps m i p a v1 := (State.cancelForecast_keeps (State.surveyAbandon_keeps h))
  clear_value v1
  have k6 : Keeps m i p a v2 := (State.updLoop_keeps (State.setF_keeps k5))
  clear_value v2
  have k7 : Keeps m i p a v3 := (State.setB_keeps (State.setB_keeps (State.setB_keeps k6)))
  clear_value v3
  have k8 : Keeps m i p a v4 := (State.disarm_keeps (State.disarm_keeps (State.disarm_keeps (State.disarm_keeps k7))))
  clear_value v4
  exact (State.idlePhases_keeps (State.freeLock_keeps k8))

theorem State.moveRef_keeps {x1} (h : Keeps m i p a s) : Keeps m i p a (State.moveRef s x1) := by
  unfold State.moveRef
  extract_lets v1 v2 v3 v4 v5 v6 v7
  have k8 : Keeps m i p a v3 := (State.setRef_keeps h)
  clear_value v3
  have k9 : Keeps m i p a v5 := (State.setRef_keeps h)
  clear_value v5
  have k10 : Keeps m i p a v7 := (State.setRef_keeps h)
  clear_value v7
  exact (keeps_ite (keeps_ite (State.rampDone_keeps k8) k8) (keeps_ite (keeps_ite (State.enterOff_keeps k9) k9)
      (keeps_ite (keeps_ite (State.rampDone_keeps k10) k10) h)))

theorem State.movePert_keeps {x1} (h : Keeps m i p a s) : Keeps m i p a (State.movePert s x1) := by
  unfold State.movePert
  extract_lets v1 v2 v3
  exact (keeps_ite (State.updLoop_keeps h) (keeps_ite h (State.updLoop_keeps h)))

theorem State.movePreraise_keeps {x1} (h : Keeps m i p a s) : Keeps m i p a (State.movePreraise s x1) := by
  unfold State.movePreraise
  extract_lets v1 v2 v3
  split
  · rename_i u4 u5
    exact h
  · rename_i u6 u7 u8
    extract_lets v9
    exact (keeps_ite (State.endForecast_keeps h) (State.updLoop_keeps h))

theorem State.slewTick_keeps {x1} (h : Keeps m i p a s) : Keeps m i p a (State.slewTick s x1) := by
  unfold State.slewTick
  extract_lets v1 v2 v3 v4 v5
  have k6 : Keeps m i p a v1 := by
    unfold v1
    split
    · rename_i u7 u8 u9
      exact (State.notBefore_keeps h)
    · rename_i u10 u11
      exact h
  clear_value v1
  have k12 : Keeps m i p a v2 := (State.arm_keeps k6)
  clear_value v2
  have k13 : Keeps m i p a v3 := (State.dueForecast_keeps (State.watchBurst_keeps k12))
  clear_value v3
  have k14 : Keeps m i p a v4 := (keeps_ite k13 (keeps_ite (State.movePert_keeps k13) (State.movePreraise_keeps
      (State.movePert_keeps (State.moveRef_keeps (State.applyQueued_keeps k13))))))
  clear_value v4
  exact (State.updLoop_keeps k14)

theorem State.endMask_keeps {x1} (h : Keeps m i p a s) : Keeps m i p a (State.endMask s x1) := by
  unfold State.endMask
  extract_lets v1 v2
  have k3 : Keeps m i p a v1 := (State.setB_keeps h)
  clear_value v1
  have k4 : Keeps m i p a v2 := (keeps_ite (State.enterReg_keeps k3) k3)
  clear_value v2
  exact (State.updLoop_keeps k4)

theorem State.reposition_keeps {x1} (h : Keeps m i p a s) : Keeps m i p a (State.reposition s x1) := by
  unfold State.reposition
  exact (keeps_foldl (fun _ _ g1 => (State.updPhase_keeps g1)) h)

theorem State.takePending_keeps {x1} (h : Keeps m i p a s) : Keeps m i p a (State.takePending s x1) := by
  unfold State.takePending
  exact (keeps_ite h (State.reposition_keeps (keeps_foldl (fun _ _ g1 => (State.setReg_keeps g1))
      (State.updLoop_keeps h))))

theorem State.startPhase_keeps {x1} (h : Keeps m i p a s) : Keeps m i p a (State.startPhase s x1) := by
  unfold State.startPhase
  extract_lets v1 v2 v3 v4 v5 v6 v7 v8 v9
  have k10 : Keeps m i p a v3 := (State.setF_keeps (State.setF_keeps (State.setReg_keeps h)))
  clear_value v3
  have k11 : Keeps m i p a v4 := (State.setB_keeps (State.setB_keeps k10))
  clear_value v4
  have k12 : Keeps m i p a v5 := (State.setReg_keeps (State.setReg_keeps (State.setReg_keeps k11)))
  clear_value v5
  have k13 : Keeps m i p a v6 := (State.setF_keeps k12)
  clear_value v6
  have k14 : Keeps m i p a v8 := (State.updPhase_keeps k13)
  clear_value v8
  exact (keeps_ite k14 (State.arm_keeps (State.setB_keeps k14)))

theorem State.placePhases_keeps {x1} (h : Keeps m i p a s) : Keeps m i p a (State.placePhases s x1) := by
  unfold State.placePhases
  extract_lets v1 v2
  exact (keeps_foldl (fun _ _ g3 => (State.updPhase_keeps (State.setF_keeps g3))) (State.updLoop_keeps h))

theorem State.loopStart_keeps {x1} (h : Keeps m i p a s) : Keeps m i p a (State.loopStart s x1) := by
  unfold State.loopStart
  extract_lets v1 v2 v3 v4 v5 v6 v7 v8 v9 v10 v11 v12 v13 v14 v15
  have k16 : Keeps m i p a v1 := (State.takePending_keeps h)
  clear_value v1
  have k17 : Keeps m i p a v3 := (State.abandonSlices_keeps k16)
  clear_value v3
  have k18 : Keeps m i p a v4 := (keeps_foldl (fun _ _ g19 => (State.startPhase_keeps g19)) k17)
  clear_value v4
  have k20 : Keeps m i p a v5.2 := (State.takeFree_keeps k18)
  clear_value v5
  have k21 : Keeps m i p a v6 := k20
  clear_value v6
  have k22 : Keeps m i p a v10 := (State.updLoop_keeps k21)
  clear_value v10
  have k23 : Keeps m i p a v11 := (State.setRef_keeps k22)
  clear_value v11
  have k24 : Keeps m i p a v12 := (State.setF_keeps (State.setF_keeps k23))
  clear_value v12
  have k25 : Keeps m i p a v13 := (State.setB_keeps (State.setB_keeps (State.setB_keeps k24)))
  clear_value v13
  have k26 : Keeps m i p a v14 := (State.setF_keeps k25)
  clear_value v14
  have k27 : Keeps m i p a v15 := (State.setB_keeps (State.setF_keeps k26))
  clear_value v15
  exact (keeps_ite h (State.showPhases_keeps (State.placePhases_keeps k27)))

theorem State.loopStop_keeps {x1} (h : Keeps m i p a s) : Keeps m i p a (State.loopStop s x1) := by
  unfold State.loopStop
  extract_lets v1 v2 v3
  have k4 : Keeps m i p a v2 := (State.cancelForecast_keeps (State.surveyAbandon_keeps h))
  clear_value v2
  have k5 : Keeps m i p a v3 := (State.disarm_keeps (State.updLoop_keeps k4))
  clear_value v3
  exact (keeps_ite h (keeps_ite (State.enterOff_keeps h) (State.updateDe_keeps (State.setF_keeps (State.setB_keeps
      k5)))))

theorem State.pmCause_keeps {x1 x2 x3} (h : Keeps m i p a s) : Keeps m i p a (State.pmCause s x1 x2 x3) := by
  unfold State.pmCause
  extract_lets v1
  have k2 : Keeps m i p a v1 := (keeps_ite (State.pmStat_keeps h) (keeps_ite (State.pmStat_keeps h) (keeps_ite
      (State.pmStat_keeps h) h)))
  clear_value v1
  exact (keeps_ite (State.pmLatch_keeps k2) k2)

theorem State.loopFault_keeps {x1 x2} (h : Keeps m i p a s) : Keeps m i p a (State.loopFault s x1 x2) := by
  unfold State.loopFault
  extract_lets v1 v2 v3 v4 v5 v6 v7 v8
  have k9 : Keeps m i p a v3 := (State.pmCause_keeps (State.setF_keeps h))
  clear_value v3
  have k10 : Keeps m i p a v4 := (State.setF_keeps (State.cancelForecast_keeps (State.surveyAbandon_keeps k9)))
  clear_value v4
  have k11 : Keeps m i p a v5 := (State.updLoop_keeps (State.setF_keeps k10))
  clear_value v5
  have k12 : Keeps m i p a v6 := (State.setB_keeps (State.setB_keeps k11))
  clear_value v6
  have k13 : Keeps m i p a v7 := (State.disarm_keeps (State.disarm_keeps (State.disarm_keeps (State.disarm_keeps
      k12))))
  clear_value v7
  have k14 : Keeps m i p a v8 := (State.freeLock_keeps (State.idlePhases_keeps k13))
  clear_value v8
  exact (keeps_ite k9 (State.ilLoopFault_keeps (State.raiseWith_keeps (State.event_keeps k14))))

theorem State.loopOv_keeps {x1 x2} (h : Keeps m i p a s) : Keeps m i p a (State.loopOv s x1 x2) := by
  unfold State.loopOv
  extract_lets v1 v2 v3 v4
  have k5 : Keeps m i p a v3 := (State.loopFault_keeps h)
  clear_value v3
  have k6 : Keeps m i p a v4 := (keeps_ite (State.raiseWith_keeps k5) k5)
  clear_value v4
  exact (State.updLoop_keeps k6)

theorem State.losePhase_keeps {x1 x2} (h : Keeps m i p a s) : Keeps m i p a (State.losePhase s x1 x2) := by
  unfold State.losePhase
  extract_lets v1 v2 v3 v4 v5 v6 v7 v8 v9 v10
  have k11 : Keeps m i p a v3 := (State.setF_keeps (State.setF_keeps h))
  clear_value v3
  have k12 : Keeps m i p a v4 := (State.setB_keeps (State.setF_keeps (State.setF_keeps k11)))
  clear_value v4
  have k13 : Keeps m i p a v5 := (State.disarm_keeps (State.setB_keeps k12))
  clear_value v5
  have k14 : Keeps m i p a v6 := (State.updPhase_keeps k13)
  clear_value v6
  have k15 : Keeps m i p a v7 := (keeps_ite (State.updLoop_keeps k14) k14)
  clear_value v7
  have k16 : Keeps m i p a v8 := (State.traceRec_keeps k15)
  clear_value v8
  have k17 : Keeps m i p a v9 := (State.pmStat_keeps k16)
  clear_value v9
  have k18 : Keeps m i p a v10 := (keeps_ite (State.pmStat_keeps k17) k17)
  clear_value v10
  exact (State.showPhases_keeps (State.raise_keeps (State.surveyAbandon_keeps k18)))

theorem State.showShare_keeps {x1} (h : Keeps m i p a s) : Keeps m i p a (State.showShare s x1) := by
  unfold State.showShare
  exact (keeps_foldl (fun _ _ g1 => (State.setI_keeps g1)) h)

theorem State.suspectPhase_keeps {x1 x2} (h : Keeps m i p a s) : Keeps m i p a (State.suspectPhase s x1 x2) := by
  unfold State.suspectPhase
  extract_lets v1 v2 v3
  have k4 : Keeps m i p a v2 := (State.setB_keeps (State.setF_keeps (State.setB_keeps h)))
  clear_value v2
  have k5 : Keeps m i p a v3 := (State.traceRec_keeps (State.showShare_keeps k4))
  clear_value v3
  exact (State.showPhases_keeps (State.pmStat_keeps (State.surveyAbandon_keeps k5)))

theorem State.updateLimit_keeps {x1} (h : Keeps m i p a s) : Keeps m i p a (State.updateLimit s x1) := by
  unfold State.updateLimit
  extract_lets v1 v2 v3
  exact (State.setF_keeps h)

theorem State.compensate_keeps {x1 x2 x3} (h : Keeps m i p a s) : Keeps m i p a (State.compensate s x1 x2 x3) := by
  unfold State.compensate
  extract_lets v1 v2 v3 v4 v5 v6 v7 v8 v9
  exact (State.updLoop_keeps h)

theorem State.loadCoefs_keeps {x1} (h : Keeps m i p a s) : Keeps m i p a (State.loadCoefs s x1) := by
  unfold State.loadCoefs
  exact (State.setF_keeps (State.setF_keeps (State.setF_keeps h)))

theorem State.reloadCoefs_keeps {x1} (h : Keeps m i p a s) : Keeps m i p a (State.reloadCoefs s x1) := by
  unfold State.reloadCoefs
  extract_lets v1 v2 v3 v4
  have k5 : Keeps m i p a v2 := (keeps_ite (State.setF_keeps h) h)
  clear_value v2
  have k6 : Keeps m i p a v3 := (keeps_ite (State.setF_keeps k5) k5)
  clear_value v3
  have k7 : Keeps m i p a v4 := (keeps_ite (State.setF_keeps k6) k6)
  clear_value v4
  exact (keeps_ite h (State.updLoop_keeps k7))

theorem State.setTrim_keeps {x1 x2} (h : Keeps m i p a s) : Keeps m i p a (State.setTrim s x1 x2) := by
  unfold State.setTrim
  extract_lets v1 v2
  have k3 : Keeps m i p a v2 := (State.updPhase_keeps h)
  clear_value v2
  exact (State.setB_keeps (State.setI_keeps k3))

theorem State.balance_keeps {x1} (h : Keeps m i p a s) : Keeps m i p a (State.balance s x1) := by
  unfold State.balance
  extract_lets v1 v2 v3 v4
  have k5 : Keeps m i p a v3 := (keeps_foldl (fun _ _ g6 => (State.updPhase_keeps g6)) h)
  clear_value v3
  exact (keeps_ite (keeps_foldl (fun _ _ g7 => (State.setTrim_keeps g7)) k5) h)

theorem State.takeSuspects_keeps {x1} (h : Keeps m i p a s) : Keeps m i p a (State.takeSuspects s x1) := by
  unfold State.takeSuspects
  extract_lets v1
  exact (keeps_foldl (fun _ _ g2 => (keeps_ite g2 (State.updPhase_keeps (State.setTrim_keeps g2)))) h)

theorem State.setDuties_keeps {x1} (h : Keeps m i p a s) : Keeps m i p a (State.setDuties s x1) := by
  unfold State.setDuties
  extract_lets v1
  refine keeps_foldl (fun w3 x4 k5 => ?_) ?_
  · extract_lets v6 v7
    exact (State.updPhase_keeps k5)
  · exact h

theorem State.updateIlim_keeps {x1} (h : Keeps m i p a s) : Keeps m i p a (State.updateIlim s x1) := by
  unfold State.updateIlim
  extract_lets v1 v2 v3 v4
  have k5 : Keeps m i p a v3 := (State.setB_keeps h)
  clear_value v3
  have k6 : Keeps m i p a v4 := (keeps_ite (State.pmStat_keeps k5) k5)
  clear_value v4
  exact (keeps_ite (State.arm_keeps (State.event_keeps k6)) (keeps_ite k6 (State.disarm_keeps k6)))

theorem State.updateShed_keeps {x1} (h : Keeps m i p a s) : Keeps m i p a (State.updateShed s x1) := by
  unfold State.updateShed
  extract_lets v1 v2 v3 v4
  have k5 : Keeps m i p a v3 := (keeps_ite (State.restoreShed_keeps h) h)
  clear_value v3
  exact (keeps_ite (State.disarm_keeps h) (keeps_ite (keeps_ite k5 (State.arm_keeps k5)) (State.disarm_keeps k5)))

theorem State.endNl_keeps {x1} (h : Keeps m i p a s) : Keeps m i p a (State.endNl s x1) := by
  unfold State.endNl
  split
  · rename_i u1 u2 u3
    extract_lets v4 v5
    have k6 : Keeps m i p a v4 := (State.updLoop_keeps (State.setF_keeps h))
    clear_value v4
    have k7 : Keeps m i p a v5 := (keeps_foldl (fun _ _ g8 => (State.disarm_keeps (State.updPhase_keeps g8))) k6)
    clear_value v5
    exact (State.arm_keeps (State.disarm_keeps k7))
  · rename_i u9 u10
    exact h

theorem State.evalCurrent_keeps {x1} (h : Keeps m i p a s) : Keeps m i p a (State.evalCurrent s x1) := by
  unfold State.evalCurrent
  extract_lets v1
  exact (State.updLoop_keeps h)

theorem State.compUpdate_keeps {x1 x2} (h : Keeps m i p a s) : Keeps m i p a (State.compUpdate s x1 x2) := by
  unfold State.compUpdate
  extract_lets v1 v2 v3 v4 v5 v6 v7
  have k8 : Keeps m i p a v1 := (State.evalCurrent_keeps (State.updateLimit_keeps (State.reloadCoefs_keeps
      (State.takePending_keeps h))))
  clear_value v1
  have k9 : Keeps m i p a v2 := (State.takeSuspects_keeps (State.updateDe_keeps (State.updateIlim_keeps k8)))
  clear_value v2
  have k10 : Keeps m i p a v4 := (keeps_ite (State.endNl_keeps k9) k9)
  clear_value v4
  have k11 : Keeps m i p a v5 := (State.compensate_keeps k10)
  clear_value v5
  have k12 : Keeps m i p a v6.2 := (State.takeFree_keeps k11)
  clear_value v6
  have k13 : Keeps m i p a v7 := (keeps_ite (State.updLoop_keeps k12) k11)
  clear_value v7
  exact (keeps_ite k8 (State.updateShed_keeps (State.setDuties_keeps (State.balance_keeps k13))))

theorem State.respace_keeps {x1} (h : Keeps m i p a s) : Keeps m i p a (State.respace s x1) := by
  unfold State.respace
  extract_lets v1 v2 v3 v4 v5
  have k6 : Keeps m i p a v2 := (keeps_ite (State.activateShed_keeps h) h)
  clear_value v2
  have k7 : Keeps m i p a v4 := by
    unfold v4
    refine keeps_foldl (fun w10 x11 k12 => ?_) ?_
    · extract_lets v13 v14 v15 v16
      have k17 : Keeps m i p a v16 := (State.updPhase_keeps k12)
      clear_value v16
      exact (State.setF_keeps k17)
    · exact k6
  clear_value v4
  have k18 : Keeps m i p a v5 := (State.updLoop_keeps k7)
  clear_value v5
  exact (State.showPhases_keeps (State.count_keeps k18))

theorem State.usePrepos_keeps {x1 x2} (h : Keeps m i p a s) : Keeps m i p a (State.usePrepos s x1 x2) := by
  unfold State.usePrepos
  extract_lets v1 v2 v3 v4 v5
  exact (keeps_ite h (keeps_ite (State.updPhase_keeps h) (State.updPhase_keeps h)))

theorem State.openCycle_keeps {x1 x2} (h : Keeps m i p a s) : Keeps m i p a (State.openCycle s x1 x2) := by
  unfold State.openCycle
  extract_lets v1 v2 v3
  exact (keeps_ite h (keeps_ite (State.setF_keeps h) (keeps_ite h (keeps_ite (State.setF_keeps h) (State.setF_keeps
      h)))))

theorem State.fluxCycle_keeps {x1 x2 x3} (h : Keeps m i p a s) : Keeps m i p a (State.fluxCycle s x1 x2 x3) := by
  unfold State.fluxCycle
  extract_lets v1 v2 v3 v4 v5 v6 v7 v8
  have k9 : Keeps m i p a v7 := (State.setI_keeps h)
  clear_value v7
  exact (keeps_ite h (keeps_ite h (keeps_ite (State.setF_keeps k9) (State.setF_keeps k9))))

theorem State.cycleEnd_keeps {x1 x2} (h : Keeps m i p a s) : Keeps m i p a (State.cycleEnd s x1 x2) := by
  unfold State.cycleEnd
  extract_lets v1 v2 v3 v4 v5 v6 v7 v8 v9 v10 v11 v12 v13
  have k14 : Keeps m i p a v4 := (State.updPhase_keeps h)
  clear_value v4
  have k15 : Keeps m i p a v6 := (State.showShare_keeps (State.setI_keeps k14))
  clear_value v6
  have k16 : Keeps m i p a v7 := (State.setI_keeps (State.setI_keeps k15))
  clear_value v7
  have k17 : Keeps m i p a v8 := (State.usePrepos_keeps (State.fluxCycle_keeps (State.openCycle_keeps k16)))
  clear_value v8
  have k18 : Keeps m i p a v9 := (State.setB_keeps (State.setB_keeps k17))
  clear_value v9
  have k19 : Keeps m i p a v11 := (State.updPhase_keeps k18)
  clear_value v11
  have k20 : Keeps m i p a v13 := (State.updLoop_keeps k19)
  clear_value v13
  exact (keeps_ite h (keeps_ite (State.setB_keeps k20) k19))

theorem State.telemetry_keeps {x1 x2} (h : Keeps m i p a s) : Keeps m i p a (State.telemetry s x1 x2) := by
  unfold State.telemetry
  extract_lets v1 v2 v3 v4 v5 v6 v7 v8 v9 v10 v11
  have k12 : Keeps m i p a v5 := (keeps_ite h (State.setF_keeps h))
  clear_value v5
  have k13 : Keeps m i p a v7 := (State.updLoop_keeps (State.setI_keeps k12))
  clear_value v7
  have k14 : Keeps m i p a v8 := (State.setB_keeps k13)
  clear_value v8
  exact (State.setB_keeps k14)

/-! ## Survey -/

theorem State.runBurst_keeps {x1 x2} (h : Keeps m i p a s) : Keeps m i p a (State.runBurst s x1 x2) := by
  unfold State.runBurst
  extract_lets v1
  have k2 : Keeps m i p a v1 := (State.updLoop_keeps h)
  clear_value v1
  exact (State.arm_keeps (State.setF_keeps k2))

theorem State.startBurst_keeps {x1} (h : Keeps m i p a s) : Keeps m i p a (State.startBurst s x1) := by
  unfold State.startBurst
  extract_lets v1 v2
  have k3 : Keeps m i p a v1 := (State.updLoop_keeps h)
  clear_value v1
  have k4 : Keeps m i p a v2 := (State.arm_keeps (State.arm_keeps k3))
  clear_value v2
  exact (State.runBurst_keeps k4)

theorem execSurveyBurstStart_keeps {x0} (h : Keeps m i p a s) (ht : (execSurveyBurstStart x0 s) = .next t)
    : Keeps m i p a t := by
  obtain rfl := Host.Outcome.next.inj ht
  refine keeps_ite ?_ ?_
  · split
    · rename_i u1 u2 u3
      have k4 := State.expire_keeps h u3
      exact (State.startBurst_keeps k4)
    · rename_i u5 u6
      exact h
  · exact h

theorem State.surveyForce_keeps {x1} (h : Keeps m i p a s) : Keeps m i p a (State.surveyForce s x1) := by
  unfold State.surveyForce
  exact (keeps_ite (State.startBurst_keeps h) h)

theorem execSurveyForce_keeps {x0} (h : Keeps m i p a s) (ht : (execSurveyForce x0 s) = .next t)
    : Keeps m i p a t := by
  obtain rfl := Host.Outcome.next.inj ht
  exact (State.surveyForce_keeps h)

theorem execSurveyPause_keeps {x0} (h : Keeps m i p a s) (ht : (execSurveyPause x0 s) = .next t)
    : Keeps m i p a t := by
  obtain rfl := Host.Outcome.next.inj ht
  exact (keeps_ite (State.pauseSurvey_keeps h) h)

theorem execSurveyResume_keeps {x0} (h : Keeps m i p a s) (ht : (execSurveyResume x0 s) = .next t)
    : Keeps m i p a t := by
  obtain rfl := Host.Outcome.next.inj ht
  refine keeps_ite ?_ ?_
  · split
    · rename_i u1 u2 u3
      have k4 := State.expire_keeps h u3
      exact (State.runBurst_keeps k4)
    · rename_i u5 u6
      exact h
  · exact h

theorem execSurveyTimeout_keeps {x0} (h : Keeps m i p a s) (ht : (execSurveyTimeout x0 s) = .next t)
    : Keeps m i p a t := by
  obtain rfl := Host.Outcome.next.inj ht
  split
  · rename_i u1 u2 u3
    have k4 := State.expire_keeps h u3
    exact (State.surveyAbandon_keeps k4)
  · rename_i u5 u6
    exact h

theorem execSurveyBurstEnd_keeps {x0} (h : Keeps m i p a s) (ht : (execSurveyBurstEnd x0 s) = .next t)
    : Keeps m i p a t := by
  obtain rfl := Host.Outcome.next.inj ht
  refine keeps_ite ?_ ?_
  · split
    · rename_i u1 u2 u3
      have k4 := State.expire_keeps h u3
      exact (State.arm_keeps (State.disarm_keeps (State.setF_keeps k4)))
    · rename_i u5 u6
      exact h
  · exact h

theorem State.retune_keeps {x1 x2 x3} (h : Keeps m i p a s) : Keeps m i p a (State.retune s x1 x2 x3) := by
  unfold State.retune
  extract_lets v1 v2 v3 v4 v5 v6 v7 v8 v9 v10
  have k11 : Keeps m i p a v9 := (State.setF_keeps (State.setF_keeps (State.setF_keeps h)))
  clear_value v9
  have k12 : Keeps m i p a v10 := (State.setB_keeps k11)
  clear_value v10
  exact (keeps_ite h (keeps_ite (State.count_keeps k12) k12))

theorem State.healthFlag_keeps {x1 x2 x3} (h : Keeps m i p a s) : Keeps m i p a (State.healthFlag s x1 x2 x3) := by
  unfold State.healthFlag
  extract_lets v1 v2
  have k3 : Keeps m i p a v2 := (State.setB_keeps h)
  clear_value v2
  exact (keeps_ite (State.pmStat_keeps (State.event_keeps k3)) k3)

theorem State.judgeHealth_keeps {x1} (h : Keeps m i p a s) : Keeps m i p a (State.judgeHealth s x1) := by
  unfold State.judgeHealth
  extract_lets v1 v2 v3 v4
  have k5 : Keeps m i p a v2 := (State.setF_keeps h)
  clear_value v2
  have k6 : Keeps m i p a v3 := (State.healthFlag_keeps k5)
  clear_value v3
  have k7 : Keeps m i p a v4 := (State.healthFlag_keeps k6)
  clear_value v4
  exact (State.healthFlag_keeps k7)

theorem State.takeEstimate_keeps {x1 x2} (h : Keeps m i p a s) : Keeps m i p a (State.takeEstimate s x1 x2) := by
  unfold State.takeEstimate
  extract_lets v1 v2
  have k3 : Keeps m i p a v1 := (State.setF_keeps h)
  clear_value v1
  have k4 : Keeps m i p a v2 := (State.setF_keeps (State.setF_keeps k3))
  clear_value v2
  exact (State.setF_keeps (State.setF_keeps k4))

theorem State.surveyResult_keeps {x1 x2} (h : Keeps m i p a s) : Keeps m i p a (State.surveyResult s x1 x2) := by
  unfold State.surveyResult
  extract_lets v1 v2 v3 v4
  have k5 : Keeps m i p a v2 := (State.disarm_keeps (State.setF_keeps (State.setF_keeps h)))
  clear_value v2
  have k6 : Keeps m i p a v3 := (State.judgeHealth_keeps (State.takeEstimate_keeps k5))
  clear_value v3
  have k7 : Keeps m i p a v4 := (keeps_ite (keeps_ite (State.retune_keeps k6) k6) k5)
  clear_value v4
  exact (State.traceRec_keeps k7)

theorem execSurveyResult_keeps {x0 x1} (h : Keeps m i p a s) (ht : (execSurveyResult x0 x1 s) = .next t)
    : Keeps m i p a t := by
  obtain rfl := Host.Outcome.next.inj ht
  exact (keeps_ite (State.surveyResult_keeps h) h)

theorem State.watchSurvey_keeps {x1} (h : Keeps m i p a s) : Keeps m i p a (State.watchSurvey s x1) := by
  unfold State.watchSurvey
  extract_lets v1
  exact (keeps_ite (State.updLoop_keeps h) h)

theorem State.watchForecast_keeps {x1} (h : Keeps m i p a s) : Keeps m i p a (State.watchForecast s x1) := by
  unfold State.watchForecast
  split
  · rename_i u1 u2
    exact h
  · rename_i u3 u4 u5
    exact (keeps_ite (State.fulfil_keeps h) h)

theorem State.preposition_keeps {x1 x2} (h : Keeps m i p a s) : Keeps m i p a (State.preposition s x1 x2) := by
  unfold State.preposition
  extract_lets v1 v2 v3 v4
  refine keeps_foldl (fun w6 x7 k8 => ?_) ?_
  · extract_lets v9 v10
    exact (State.updPhase_keeps k8)
  · exact h

theorem State.acceptForecast_keeps {x1 x2 x3 x4 x5} (h : Keeps m i p a s)
    : Keeps m i p a (State.acceptForecast s x1 x2 x3 x4 x5) := by
  unfold State.acceptForecast
  extract_lets v1 v2 v3 v4 v5 v6 v7 v8 v9
  have k10 : Keeps m i p a v1 := (State.dropForecast_keeps h)
  clear_value v1
  have k11 : Keeps m i p a v2 := (State.count_keeps k10)
  clear_value v2
  have k12 : Keeps m i p a v7 := (State.updateDe_keeps (State.updLoop_keeps k11))
  clear_value v7
  have k13 : Keeps m i p a v8 := (State.restoreShed_keeps (State.setB_keeps k12))
  clear_value v8
  have k14 : Keeps m i p a v9 := (State.arm_keeps (State.disarm_keeps k13))
  clear_value v9
  exact (keeps_ite (State.preposition_keeps (State.disarm_keeps k14)) (State.arm_keeps k14))

theorem execForecastPreposition_keeps {x0} (h : Keeps m i p a s) (ht : (execForecastPreposition x0 s) = .next t)
    : Keeps m i p a t := by
  obtain rfl := Host.Outcome.next.inj ht
  split
  · rename_i u1 u2 u3 u4 u5 u6
    have k7 := State.expire_keeps h u5
    exact (keeps_ite k7 (State.preposition_keeps (State.updLoop_keeps k7)))
  · rename_i u8 u9 u10
    exact h

theorem State.unwind_keeps {x1 x2} (h : Keeps m i p a s) : Keeps m i p a (State.unwind s x1 x2) := by
  unfold State.unwind
  exact (keeps_ite (State.endForecast_keeps h) (State.updLoop_keeps h))

theorem execForecastUnfulfilled_keeps {x0} (h : Keeps m i p a s) (ht : (execForecastUnfulfilled x0 s) = .next t)
    : Keeps m i p a t := by
  obtain rfl := Host.Outcome.next.inj ht
  split
  · rename_i u1 u2 u3 u4 u5 u6
    have k7 := State.expire_keeps h u5
    extract_lets v8 v9
    refine keeps_ite ?_ ?_
    · exact (State.fulfil_keeps k7)
    · refine State.unwind_keeps ?_
      refine State.ilRecord_keeps ?_
      refine State.ilAlert_keeps ?_
      unfold v9
      refine State.pmStat_keeps ?_
      unfold v8
      exact (State.count_keeps (State.disarm_keeps k7))
  · rename_i u12 u13 u14
    exact h

theorem execPreraiseHoldEnd_keeps {x0} (h : Keeps m i p a s) (ht : (execPreraiseHoldEnd x0 s) = .next t)
    : Keeps m i p a t := by
  obtain rfl := Host.Outcome.next.inj ht
  split
  · rename_i u1 u2 u3 u4 u5 u6
    have k7 := State.expire_keeps h u5
    exact (State.unwind_keeps k7)
  · rename_i u8 u9 u10
    exact h

theorem State.nack_keeps {x1 x2 x3} (h : Keeps m i p a s) : Keeps m i p a (State.nack s x1 x2 x3) := by
  unfold State.nack
  extract_lets v1 v2
  have k3 : Keeps m i p a v1 := (State.count_keeps h)
  clear_value v1
  have k4 : Keeps m i p a v2 := by
    unfold v2
    split
    · rename_i u5 u6 u7
      exact (State.refuseCommand_keeps k3)
    · rename_i u8 u9
      exact k3
  clear_value v2
  exact (State.ilRecord_keeps (keeps_mk k4))

theorem State.ack_keeps {x1 x2} (h : Keeps m i p a s) : Keeps m i p a (State.ack s x1 x2) := by
  unfold State.ack
  extract_lets v1 v2
  have k3 : Keeps m i p a v1 := (State.setF_keeps h)
  clear_value v1
  have k4 : Keeps m i p a v2 := (State.setPair_keeps k3)
  clear_value v2
  exact (keeps_mk k4)

theorem State.applyIntent_keeps {x1 x2} (h : Keeps m i p a s) : Keeps m i p a (State.applyIntent s x1 x2) := by
  unfold State.applyIntent
  extract_lets v1 v2 v3
  have k4 : Keeps m i p a v3 := (State.acceptSetpoint_keeps h)
  clear_value v3
  exact (keeps_ite (keeps_ite (State.ilRecord_keeps k4) k4) (State.acceptForecast_keeps h))

theorem State.intent_keeps {x1 x2} (h : Keeps m i p a s) : Keeps m i p a (State.intent s x1 x2) := by
  unfold State.intent
  refine keeps_ite ?_ ?_
  · split
    · rename_i u1 u2 u3
      exact (State.nack_keeps h)
    · rename_i u4 u5
      exact (State.ack_keeps (State.applyIntent_keeps h))
  · exact h

theorem execIntentSetpoint_keeps {x0 x1} (h : Keeps m i p a s) (ht : (execIntentSetpoint x0 x1 s) = .next t)
    : Keeps m i p a t := by
  obtain rfl := Host.Outcome.next.inj ht
  exact (State.intent_keeps h)

theorem execIntentForecast_keeps {x0 x1} (h : Keeps m i p a s) (ht : (execIntentForecast x0 x1 s) = .next t)
    : Keeps m i p a t := by
  obtain rfl := Host.Outcome.next.inj ht
  exact (State.intent_keeps h)

theorem execIntentBadFrame_keeps {x0 x1} (h : Keeps m i p a s) (ht : (execIntentBadFrame x0 x1 s) = .next t)
    : Keeps m i p a t := by
  obtain rfl := Host.Outcome.next.inj ht
  exact (State.intent_keeps h)

theorem execIntentShortTransaction_keeps {x0} (h : Keeps m i p a s)
    (ht : (execIntentShortTransaction x0 s) = .next t) : Keeps m i p a t := by
  obtain rfl := Host.Outcome.next.inj ht
  exact (keeps_ite (State.count_keeps h) h)

end Sys2Proof.Machine
end

