-- ==== Sys2Proof/Laws/KeepsAccord.lean ====
section
/-! SUPPORT.  What each operation and each command keeps, in the sense of `Keeps`: the sequencer, the supervisors, the loader and the tiles. -/

set_option Elab.async false

namespace Sys2Proof.Machine

variable {m i p : Bool} {a s t : State}

/-! ## Seq -/

theorem State.updRail_keeps {x1 x2} (h : Keeps m i p a s) : Keeps m i p a (State.updRail s x1 x2) := by
  unfold State.updRail
  exact (keeps_mk h)

theorem State.updGroup_keeps {x1 x2} (h : Keeps m i p a s) : Keeps m i p a (State.updGroup s x1 x2) := by
  unfold State.updGroup
  exact (keeps_mk h)

theorem State.updSeq_keeps {x1} (h : Keeps m i p a s) : Keeps m i p a (State.updSeq s x1) := by
  unfold State.updSeq
  exact (keeps_mk h)

theorem State.setRail_keeps {x1 x2} (h : Keeps m i p a s) : Keeps m i p a (State.setRail s x1 x2) := by
  unfold State.setRail
  extract_lets v1 v2 v3
  have k4 : Keeps m i p a v1 := (keeps_ite h (State.railNews_keeps h))
  clear_value v1
  have k5 : Keeps m i p a v2 := (State.setF_keeps k4)
  clear_value v2
  have k6 : Keeps m i p a v3 := (State.setB_keeps (State.setB_keeps (State.setB_keeps k5)))
  clear_value v3
  exact (State.setB_keeps (State.setB_keeps k6))

theorem State.showRanks_keeps (h : Keeps m i p a s) : Keeps m i p a (State.showRanks s) := by
  unfold State.showRanks
  exact (keeps_foldl (fun _ _ g1 => (State.setF_keeps g1)) h)

theorem State.showSnaps_keeps (h : Keeps m i p a s) : Keeps m i p a (State.showSnaps s) := by
  unfold State.showSnaps
  exact (State.setF_keeps (State.setF_keeps h))

theorem State.snapRequest_keeps {x1 x2 x3} (h : Keeps m i p a s) : Keeps m i p a (State.snapRequest s x1 x2 x3) := by
  unfold State.snapRequest
  extract_lets v1
  exact (keeps_ite (State.showSnaps_keeps (State.updSeq_keeps h)) (keeps_ite (State.count_keeps (State.updSeq_keeps
      h)) (State.showSnaps_keeps (State.updSeq_keeps h))))

theorem placePages_keeps {x0 x1 x2} (h : Keeps m i p a s) (ht : (placePages x0 x1 x2 s) = some t)
    : Keeps m i p a t := by
  induction x1 generalizing s x0 x2 with
  | zero => cases ht; exact h
  | succ k ih =>
    unfold placePages at ht
    obtain ⟨u, hu, e⟩ := Option.bind_eq_some_iff.1 ht
    exact ih (State.placeBytes_keeps h hu) e

theorem State.snapPlace_keeps (h : Keeps m i p a s) : Keeps m i p a (State.snapPlace s) := by
  unfold State.snapPlace
  split
  · exact h
  · extract_lets v1
    split
    · exact h
    · rename_i e
      obtain ⟨u, hu, e⟩ := Option.bind_eq_some_iff.1 e
      obtain ⟨w, hw, rfl⟩ := Option.map_eq_some_iff.1 e
      have k := State.slotLast_keeps (x1 := recPage 4) (State.placeRecord_keeps (placePages_keeps h hu) hw)
      extract_lets v2 v3
      have k2 : Keeps m i p a v2 := State.updSeq_keeps k
      have k3 : Keeps m i p a v3 := by
        unfold v3
        clear_value v2
        split
        · exact k2
        · exact State.updSeq_keeps k2
      clear_value v3
      exact State.pay_keeps (State.commitIfFull_keeps (State.event_keeps (State.showSnaps_keeps k3)))

theorem State.placeSnaps_keeps {x0} (h : Keeps m i p a s) : Keeps m i p a (State.placeSnaps x0 s) := by
  induction x0 generalizing s with
  | zero => exact h
  | succ n ih =>
    unfold State.placeSnaps
    exact keeps_ite h (ih (State.snapPlace_keeps h))

theorem State.driveGp_keeps {x1 x2} (h : Keeps m i p a s) : Keeps m i p a (State.driveGp s x1 x2) := by
  unfold State.driveGp
  extract_lets v1 v2 v3
  exact (State.updSeq_keeps h)

theorem State.issueStart_keeps {x1} (h : Keeps m i p a s) : Keeps m i p a (State.issueStart s x1) := by
  unfold State.issueStart
  extract_lets v1 v2 v3 v4 v5
  have k6 : Keeps m i p a v1 := (State.setB_keeps (State.setRail_keeps h))
  clear_value v1
  have k7 : Keeps m i p a v2 := (State.setF_keeps (State.setF_keeps k6))
  clear_value v2
  have k8 : Keeps m i p a v4 := (State.updRail_keeps k7)
  clear_value v4
  have k9 : Keeps m i p a v5 := (State.updSeq_keeps k8)
  clear_value v5
  exact (keeps_ite (State.driveGp_keeps k9) (State.loopStart_keeps k9))

theorem State.issueStop_keeps {x1 x2} (h : Keeps m i p a s) : Keeps m i p a (State.issueStop s x1 x2) := by
  unfold State.issueStop
  extract_lets v1 v2
  have k3 : Keeps m i p a v1 := (State.setRail_keeps h)
  clear_value v1
  have k4 : Keeps m i p a v2 := (State.updRail_keeps k3)
  clear_value v2
  exact (keeps_ite (State.driveGp_keeps k4) (State.loopStop_keeps k4))

theorem State.takeRail_keeps {x1 x2} (h : Keeps m i p a s) : Keeps m i p a (State.takeRail s x1 x2) := by
  unfold State.takeRail
  extract_lets v1
  exact (keeps_ite (State.updRail_keeps (State.setRail_keeps h)) (keeps_ite (State.updRail_keeps h) (keeps_ite
      (State.updRail_keeps h) (keeps_ite (State.updRail_keeps h) h))))

theorem State.takeRails_keeps {x1 x2} (h : Keeps m i p a s) : Keeps m i p a (State.takeRails s x1 x2) := by
  unfold State.takeRails
  exact (keeps_foldl (fun _ _ g1 => (State.takeRail_keeps g1)) h)

theorem State.clearRetry_keeps {x1} (h : Keeps m i p a s) : Keeps m i p a (State.clearRetry s x1) := by
  unfold State.clearRetry
  exact (State.setB_keeps (State.setF_keeps h))

theorem State.railOff_keeps {x1} (h : Keeps m i p a s) : Keeps m i p a (State.railOff s x1) := by
  unfold State.railOff
  extract_lets v1
  have k2 : Keeps m i p a v1 := (State.updRail_keeps h)
  clear_value v1
  split
  · rename_i u3 u4
    exact (State.updRail_keeps (State.setRail_keeps k2))
  · rename_i u5 u6
    exact (State.updRail_keeps (State.setRail_keeps k2))
  · rename_i u7 u8 u9
    exact (State.setRail_keeps k2)

theorem State.showReact_keeps (h : Keeps m i p a s) : Keeps m i p a (State.showReact s) := by
  unfold State.showReact
  extract_lets v1
  exact (State.setF_keeps h)

theorem State.freeRail_keeps {x1} (h : Keeps m i p a s) : Keeps m i p a (State.freeRail s x1) := by
  unfold State.freeRail
  extract_lets v1 v2
  have k3 : Keeps m i p a v2 := (State.updRail_keeps h)
  clear_value v2
  exact (keeps_ite (State.setRail_keeps k3) k3)

theorem State.groupShutdown_keeps {x1 x2} (h : Keeps m i p a s) : Keeps m i p a (State.groupShutdown s x1 x2) := by
  unfold State.groupShutdown
  extract_lets v1 v2 v3 v4 v5 v6
  have k7 : Keeps m i p a v4 := (keeps_foldl (fun _ _ g8 => (State.updRail_keeps g8)) h)
  clear_value v4
  have k9 : Keeps m i p a v5 := (State.takeRails_keeps k7)
  clear_value v5
  have k10 : Keeps m i p a v6 := (State.disarm_keeps (State.updGroup_keeps k9))
  clear_value v6
  exact (keeps_ite h (keeps_ite h (keeps_ite (State.disarm_keeps (State.updGroup_keeps h)) (keeps_ite h
      (State.showReact_keeps (State.setB_keeps (State.setF_keeps k10)))))))

theorem State.idleGroups_keeps (h : Keeps m i p a s) : Keeps m i p a (State.idleGroups s) := by
  unfold State.idleGroups
  extract_lets v1
  have k2 : Keeps m i p a v1 := (keeps_foldl (fun _ _ g3 => (State.disarm_keeps (State.setF_keeps g3))) h)
  clear_value v1
  exact (keeps_mk k2)

theorem State.systemReset_keeps (h : Keeps m i p a s) : Keeps m i p a (State.systemReset s) := by
  unfold State.systemReset
  extract_lets v1 v2 v3 v4 v5 v6
  have k7 : Keeps m i p a v3 := (keeps_ite h (keeps_ite (State.setF_keeps h) (keeps_ite (State.saturated_keeps
      (State.setB_keeps (State.setF_keeps h))) h)))
  clear_value v3
  have k8 : Keeps m i p a v5 := (keeps_mk k7)
  clear_value v5
  have k9 : Keeps m i p a v6 := (State.takeRails_keeps (State.idleGroups_keeps k8))
  clear_value v6
  exact (keeps_ite h (State.showReact_keeps (State.updSeq_keeps k9)))

theorem State.retryRail_keeps {x1} (h : Keeps m i p a s) : Keeps m i p a (State.retryRail s x1) := by
  unfold State.retryRail
  extract_lets v1 v2 v3 v4
  have k5 : Keeps m i p a v4 := (keeps_ite (State.setF_keeps h) (keeps_ite (State.saturated_keeps (State.setB_keeps
      (State.setF_keeps h))) h))
  clear_value v4
  exact (keeps_ite (keeps_ite (State.issueStop_keeps h) (keeps_ite (State.groupShutdown_keeps h)
      (State.systemReset_keeps h))) (State.issueStop_keeps k5))

theorem State.react_keeps {x1} (h : Keeps m i p a s) : Keeps m i p a (State.react s x1) := by
  unfold State.react
  split
  · rename_i u1 u2
    exact (keeps_ite (State.updRail_keeps (State.setRail_keeps h)) h)
  · rename_i u3 u4
    exact (State.retryRail_keeps h)
  · rename_i u5 u6
    exact (keeps_ite (State.groupShutdown_keeps h) (State.systemReset_keeps h))
  · rename_i u7 u8 u9 u10
    exact (State.systemReset_keeps h)

theorem State.forceOff_keeps {x1} (h : Keeps m i p a s) : Keeps m i p a (State.forceOff s x1) := by
  unfold State.forceOff
  extract_lets v1 v2 v3
  have k4 : Keeps m i p a v3 := (keeps_foldl (fun _ _ g5 => (State.issueStop_keeps g5)) h)
  clear_value v3
  exact (keeps_ite k4 (State.updSeq_keeps k4))

theorem State.railFault_keeps {x1 x2 x3 x4} (h : Keeps m i p a s) : Keeps m i p a (State.railFault s x1 x2 x3 x4)
    := by
  unfold State.railFault
  extract_lets v1 v2 v3 v4 v5
  have k6 : Keeps m i p a v2 := (State.setB_keeps (State.setF_keeps (State.setB_keeps h)))
  clear_value v2
  have k7 : Keeps m i p a v3 := (State.count_keeps k6)
  clear_value v3
  have k8 : Keeps m i p a v4 := (State.traceRec_keeps k7)
  clear_value v4
  have k9 : Keeps m i p a v5 := (State.snapRequest_keeps (State.event_keeps k8))
  clear_value v5
  exact (keeps_ite k9 (keeps_ite (keeps_ite (State.forceOff_keeps k9) k9) (State.react_keeps k9)))

theorem State.loopRailFault_keeps {x1 x2} (h : Keeps m i p a s) : Keeps m i p a (State.loopRailFault s x1 x2) := by
  unfold State.loopRailFault
  split
  · rename_i u1 u2 u3
    exact (State.railFault_keeps h)
  · rename_i u4 u5
    exact h

theorem State.judgeRail_keeps {x1} (h : Keeps m i p a s) : Keeps m i p a (State.judgeRail s x1) := by
  unfold State.judgeRail
  extract_lets v1 v2 v3 v4
  exact (keeps_ite (keeps_ite (keeps_ite h (State.setRail_keeps h)) (State.setB_keeps (State.setB_keeps
      (State.setB_keeps (State.setRail_keeps h))))) h)

theorem State.chatFresh_keeps {x1} (h : Keeps m i p a s) : Keeps m i p a (State.chatFresh s x1) := by
  unfold State.chatFresh
  exact (State.updRail_keeps h)

theorem State.watchPg_keeps {x1} (h : Keeps m i p a s) : Keeps m i p a (State.watchPg s x1) := by
  unfold State.watchPg
  extract_lets v1 v2 v3
  have k4 : Keeps m i p a v2 := (State.updRail_keeps h)
  clear_value v2
  refine keeps_ite ?_ ?_
  · split
    · rename_i u5 u6
      exact (keeps_ite (State.updRail_keeps h) h)
    · rename_i u7 u8 u9
      exact (keeps_ite h (keeps_ite (State.setF_keeps k4) (keeps_ite (State.saturated_keeps (State.setF_keeps k4))
          k4)))
  · exact h

theorem State.chatterFault_keeps {x1} (h : Keeps m i p a s) : Keeps m i p a (State.chatterFault s x1) := by
  unfold State.chatterFault
  exact (State.railFault_keeps (State.raiseWith_keeps (State.updRail_keeps h)))

theorem State.qualify_keeps {x1} (h : Keeps m i p a s) : Keeps m i p a (State.qualify s x1) := by
  unfold State.qualify
  extract_lets v1 v2 v3
  have k4 : Keeps m i p a v1 := (State.setB_keeps (State.setRail_keeps h))
  clear_value v1
  have k5 : Keeps m i p a v2 := (State.setF_keeps k4)
  clear_value v2
  have k6 : Keeps m i p a v3 := (State.updRail_keeps k5)
  clear_value v3
  exact (keeps_ite k6 (State.updLoop_keeps k6))

theorem State.admission_keeps (h : Keeps m i p a s) : Keeps m i p a (State.admission s) := by
  unfold State.admission
  split
  · rename_i u1 u2
    exact h
  · rename_i u3 u4 u5
    extract_lets v6 v7 v8 v9 v10 v11
    have k12 : Keeps m i p a v6 := (keeps_foldl (fun _ _ g13 => (keeps_ite (State.setB_keeps (State.setB_keeps
        g13)) g13)) h)
    clear_value v6
    exact (keeps_ite (State.issueStart_keeps (keeps_ite (State.setB_keeps k12) k12)) (State.setB_keeps
        (State.setB_keeps k12)))

theorem State.orderedStop_keeps (h : Keeps m i p a s) : Keeps m i p a (State.orderedStop s) := by
  unfold State.orderedStop
  split
  · rename_i u1 u2 u3
    exact (keeps_ite (State.issueStop_keeps (State.updSeq_keeps h)) h)
  · rename_i u4 u5
    exact h

theorem State.settleOffs_keeps (h : Keeps m i p a s) : Keeps m i p a (State.settleOffs s) := by
  unfold State.settleOffs
  extract_lets v1 v2 v3
  have k4 : Keeps m i p a v3 := (State.updSeq_keeps h)
  clear_value v3
  exact (keeps_foldl (fun _ _ g5 => (keeps_ite (State.freeRail_keeps g5) g5)) k4)

theorem State.sysProgress_keeps (h : Keeps m i p a s) : Keeps m i p a (State.sysProgress s) := by
  unfold State.sysProgress
  extract_lets v1 v2
  have k3 : Keeps m i p a v1 := (State.updSeq_keeps h)
  clear_value v1
  split
  · rename_i u4 u5
    exact (keeps_ite (State.arm_keeps (State.updSeq_keeps h)) h)
  · rename_i u6 u7
    exact (keeps_ite (keeps_mk k3) h)
  · rename_i u8 u9 u10
    exact h

theorem State.groupsIdle_keeps (h : Keeps m i p a s) : Keeps m i p a (State.groupsIdle s) := by
  unfold State.groupsIdle
  exact (keeps_foldl (fun _ _ g1 => (keeps_ite (State.setF_keeps g1) g1)) h)

theorem State.armRsdly_keeps {x1} (h : Keeps m i p a s) : Keeps m i p a (State.armRsdly s x1) := by
  unfold State.armRsdly
  exact (State.arm_keeps h)

theorem State.returned_keeps (h : Keeps m i p a s) : Keeps m i p a (State.returned s) := by
  unfold State.returned
  refine keeps_foldl (fun w2 x3 k4 => ?_) ?_
  · extract_lets v5
    have k6 : Keeps m i p a v5 := (State.updGroup_keeps k4)
    clear_value v5
    exact (keeps_ite (keeps_ite (State.armRsdly_keeps k6) k6) k4)
  · exact h

theorem State.pathTick_keeps (h : Keeps m i p a s) : Keeps m i p a (State.pathTick s) := by
  unfold State.pathTick
  extract_lets v1 v2 v3 v4 v5 v6
  have k7 : Keeps m i p a v3 := (State.setB_keeps (State.updSeq_keeps h))
  clear_value v3
  have k8 : Keeps m i p a v5 := (keeps_mk k7)
  clear_value v5
  have k9 : Keeps m i p a v6 := (keeps_ite (State.groupShutdown_keeps k8) k8)
  clear_value v6
  exact (keeps_ite (State.returned_keeps k9) k9)

theorem State.downProgress_keeps (h : Keeps m i p a s) : Keeps m i p a (State.downProgress s) := by
  unfold State.downProgress
  exact (keeps_ite (State.updSeq_keeps h) h)

theorem State.tickRails_keeps (h : Keeps m i p a s) : Keeps m i p a (State.tickRails s) := by
  unfold State.tickRails
  extract_lets v1 v2 v3
  have k4 : Keeps m i p a v1 := (keeps_foldl (fun _ _ g5 => (keeps_ite (State.railOff_keeps g5) g5)) h)
  clear_value v1
  have k6 : Keeps m i p a v2 := (keeps_foldl (fun _ _ g7 => (State.watchPg_keeps g7)) k4)
  clear_value v2
  have k8 : Keeps m i p a v3 := (State.settleOffs_keeps k6)
  clear_value v3
  exact (keeps_ite k8 (State.admission_keeps (keeps_foldl (fun _ _ g9 => (State.judgeRail_keeps g9)) k8)))

theorem State.resequence_keeps {x1} (h : Keeps m i p a s) : Keeps m i p a (State.resequence s x1) := by
  unfold State.resequence
  extract_lets v1 v2 v3 v4 v5
  have k6 : Keeps m i p a v2 := (State.setF_keeps h)
  clear_value v2
  have k7 : Keeps m i p a v3 := (keeps_foldl (fun _ _ g8 => (keeps_ite (State.freeRail_keeps g8) g8)) k6)
  clear_value v3
  have k9 : Keeps m i p a v5 := (keeps_ite k7 (keeps_ite (State.setF_keeps k7) (keeps_ite (State.saturated_keeps
      (State.setB_keeps (State.setF_keeps k7))) k7)))
  clear_value v5
  exact (State.updGroup_keeps k9)

theorem State.lateResequence_keeps (h : Keeps m i p a s) : Keeps m i p a (State.lateResequence s) := by
  unfold State.lateResequence
  refine keeps_foldl (fun w2 x3 k4 => ?_) ?_
  · split
    · rename_i u5 u6 u7
      exact (keeps_ite (State.resequence_keeps (State.disarm_keeps k4)) k4)
    · rename_i u8 u9
      exact k4
  · exact h

theorem State.tickBody_keeps (h : Keeps m i p a s) : Keeps m i p a (State.tickBody s) := by
  unfold State.tickBody
  extract_lets v1
  have k2 : Keeps m i p a v1 := (State.downProgress_keeps (State.groupsIdle_keeps (State.sysProgress_keeps
      (State.orderedStop_keeps (State.tickRails_keeps (State.lateResequence_keeps (State.pathTick_keeps h)))))))
  clear_value v1
  exact (State.showReact_keeps (State.setF_keeps k2))

theorem State.seqTick_keeps (h : Keeps m i p a s) : Keeps m i p a (State.seqTick s) := by
  unfold State.seqTick
  split
  · rename_i u1 u2
    exact h
  · rename_i u3 u4 u5
    exact (State.tickBody_keeps (State.arm_keeps (State.notBefore_keeps h)))

theorem State.firstTick_keeps (h : Keeps m i p a s) : Keeps m i p a (State.firstTick s) := by
  unfold State.firstTick
  exact (keeps_ite (State.tickBody_keeps h) h)

theorem State.seqBegin_keeps (h : Keeps m i p a s) : Keeps m i p a (State.seqBegin s) := by
  unfold State.seqBegin
  refine keeps_foldl (fun w2 x3 k4 => ?_) ?_
  · extract_lets v5 v6
    have k7 : Keeps m i p a v6 := (State.updRail_keeps (State.setB_keeps k4))
    clear_value v6
    exact (State.clearRetry_keeps (State.setRail_keeps k7))
  · exact h

theorem State.gpsInactive_keeps (h : Keeps m i p a s) : Keeps m i p a (State.gpsInactive s) := by
  unfold State.gpsInactive
  exact (keeps_foldl (fun _ _ g1 => (keeps_ite (State.driveGp_keeps g1) g1)) h)

theorem State.switchRelease_keeps (h : Keeps m i p a s) : Keeps m i p a (State.switchRelease s) := by
  unfold State.switchRelease
  exact (keeps_foldl (fun _ _ g1 => (keeps_ite (State.setRail_keeps g1) g1)) h)

theorem State.seqRelease_keeps (h : Keeps m i p a s) : Keeps m i p a (State.seqRelease s) := by
  unfold State.seqRelease
  extract_lets v1 v2
  have k3 : Keeps m i p a v2 := (keeps_mk h)
  clear_value v2
  exact (State.arm_keeps (State.seqBegin_keeps (State.showRanks_keeps (State.gpsInactive_keeps k3))))

theorem State.seqPowerDown_keeps (h : Keeps m i p a s) : Keeps m i p a (State.seqPowerDown s) := by
  unfold State.seqPowerDown
  extract_lets v1 v2
  have k3 : Keeps m i p a v1 := (State.takeRails_keeps (State.idleGroups_keeps h))
  clear_value v1
  have k4 : Keeps m i p a v2 := (State.disarm_keeps (State.setB_keeps k3))
  clear_value v2
  exact (State.showReact_keeps (State.updSeq_keeps k4))

theorem State.seqSafe_keeps (h : Keeps m i p a s) : Keeps m i p a (State.seqSafe s) := by
  unfold State.seqSafe
  extract_lets v1 v2
  have k3 : Keeps m i p a v1 := (State.disarm_keeps (State.idleGroups_keeps h))
  clear_value v1
  have k4 : Keeps m i p a v2 := by
    unfold v2
    refine keeps_foldl (fun w7 x8 k9 => ?_) ?_
    · extract_lets v10
      exact (keeps_ite (State.updRail_keeps (State.setRail_keeps k9)) (keeps_ite (State.updRail_keeps k9)
          (State.updRail_keeps k9)))
    · exact k3
  clear_value v2
  exact (State.showReact_keeps (State.updSeq_keeps k4))

theorem State.sysStep4_keeps (h : Keeps m i p a s) : Keeps m i p a (State.sysStep4 s) := by
  unfold State.sysStep4
  extract_lets v1
  have k2 : Keeps m i p a v1 := (keeps_foldl (fun _ _ g3 => (State.setB_keeps (State.setB_keeps (State.setF_keeps
      g3)))) h)
  clear_value v1
  exact (State.showReact_keeps (State.updSeq_keeps (State.seqBegin_keeps k2)))

theorem State.railOn_keeps {x1} (h : Keeps m i p a s) : Keeps m i p a (State.railOn s x1) := by
  unfold State.railOn
  extract_lets v1
  have k2 : Keeps m i p a v1 := (State.setB_keeps h)
  clear_value v1
  exact (keeps_ite (keeps_ite (State.setRail_keeps k2) k2) h)

theorem State.railOffRequest_keeps {x1} (h : Keeps m i p a s) : Keeps m i p a (State.railOffRequest s x1) := by
  unfold State.railOffRequest
  extract_lets v1 v2 v3
  have k4 : Keeps m i p a v1 := (State.setB_keeps (State.setB_keeps h))
  clear_value v1
  have k5 : Keeps m i p a v3 := (State.takeRails_keeps k4)
  clear_value v3
  exact (keeps_ite (State.updSeq_keeps k5) h)

theorem State.unlatchGroups_keeps (h : Keeps m i p a s) : Keeps m i p a (State.unlatchGroups s) := by
  unfold State.unlatchGroups
  exact (keeps_foldl (fun _ _ g1 => (keeps_ite (State.updGroup_keeps g1) g1)) h)

theorem State.railClear_keeps {x1} (h : Keeps m i p a s) : Keeps m i p a (State.railClear s x1) := by
  unfold State.railClear
  exact (keeps_ite (State.unlatchGroups_keeps (State.freeRail_keeps (State.setRail_keeps h))) h)

theorem State.busRail_keeps {x1} (h : Keeps m i p a s) : Keeps m i p a (State.busRail s x1) := by
  unfold State.busRail
  refine State.busSend_keeps ?_ ?_
  · exact h
  · intro w1 w2 w3 k4 w5
    extract_lets v6 at w5
    cases w5
    split
    · rename_i u7 u8
      exact (State.railOn_keeps k4)
    · rename_i u9 u10
      exact (State.railOffRequest_keeps k4)
    · rename_i u11 u12
      exact (State.railClear_keeps k4)
    · rename_i u13 u14 u15 u16
      exact k4

theorem execRailOnRequest_keeps {x0 x1 x3} (h : Keeps m i p a s) (ht : (execRailOnRequest x0 x1 s x3) = .next t)
    : Keeps m i p a t := by
  obtain rfl := Host.Outcome.next.inj ht
  refine sentAs_keeps ?_ ?_
  · exact (keeps_ite (State.hostWrite_keeps (State.railOn_keeps h)) (State.denied_keeps h))
  · intro w1
    exact (State.busRail_keeps h)

theorem execRailOffRequest_keeps {x0 x1 x3} (h : Keeps m i p a s) (ht : (execRailOffRequest x0 x1 s x3) = .next t)
    : Keeps m i p a t := by
  obtain rfl := Host.Outcome.next.inj ht
  refine sentAs_keeps ?_ ?_
  · exact (keeps_ite (State.hostWrite_keeps (State.railOffRequest_keeps h)) (State.denied_keeps h))
  · intro w1
    exact (State.busRail_keeps h)

theorem execRailClearLatch_keeps {x0 x1 x3} (h : Keeps m i p a s) (ht : (execRailClearLatch x0 x1 s x3) = .next t)
    : Keeps m i p a t := by
  obtain rfl := Host.Outcome.next.inj ht
  refine sentAs_keeps ?_ ?_
  · exact (keeps_ite (State.hostWrite_keeps (State.railClear_keeps h)) (State.denied_keeps h))
  · intro w1
    exact (State.busRail_keeps h)

theorem execRailQualified_keeps {x0} (h : Keeps m i p a s) (ht : (execRailQualified x0 s) = .next t)
    : Keeps m i p a t := by
  obtain rfl := Host.Outcome.next.inj ht
  split
  · rename_i u1 u2 u3
    exact (keeps_ite (State.qualify_keeps (State.notBefore_keeps h)) h)
  · rename_i u4 u5
    exact h

theorem execRailStartTimeout_keeps {x0} (h : Keeps m i p a s) (ht : (execRailStartTimeout x0 s) = .next t)
    : Keeps m i p a t := by
  obtain rfl := Host.Outcome.next.inj ht
  split
  · rename_i u1 u2 u3
    extract_lets v4
    have k5 : Keeps m i p a v4 := (State.updRail_keeps (State.notBefore_keeps h))
    clear_value v4
    exact (keeps_ite (State.railFault_keeps (State.raiseWith_keeps k5)) h)
  · rename_i u6 u7
    exact h

theorem execRailChatterLimit_keeps {x0} (h : Keeps m i p a s) (ht : (execRailChatterLimit x0 s) = .next t)
    : Keeps m i p a t := by
  obtain rfl := Host.Outcome.next.inj ht
  exact (keeps_ite (State.chatterFault_keeps h) h)

theorem execRailDischargeTimeout_keeps {x0} (h : Keeps m i p a s) (ht : (execRailDischargeTimeout x0 s) = .next t)
    : Keeps m i p a t := by
  obtain rfl := Host.Outcome.next.inj ht
  split
  · rename_i u1 u2 u3
    extract_lets v4
    have k5 : Keeps m i p a v4 := (State.notBefore_keeps h)
    clear_value v4
    exact (keeps_ite (State.railOff_keeps (State.railFault_keeps (State.raiseWith_keeps k5))) h)
  · rename_i u6 u7
    exact h

theorem execRetryDelayEnd_keeps {x0} (h : Keeps m i p a s) (ht : (execRetryDelayEnd x0 s) = .next t)
    : Keeps m i p a t := by
  obtain rfl := Host.Outcome.next.inj ht
  split
  · rename_i u1 u2 u3
    exact (keeps_ite (State.setRail_keeps (State.updRail_keeps (State.notBefore_keeps h))) h)
  · rename_i u4 u5
    exact h

theorem execRetryCountClear_keeps {x0} (h : Keeps m i p a s) (ht : (execRetryCountClear x0 s) = .next t)
    : Keeps m i p a t := by
  obtain rfl := Host.Outcome.next.inj ht
  split
  · rename_i u1 u2 u3
    exact (keeps_ite (State.clearRetry_keeps (State.notBefore_keeps h)) h)
  · rename_i u4 u5
    exact h

theorem execGroupShutdownRequest_keeps {x0 x1} (h : Keeps m i p a s)
    (ht : (execGroupShutdownRequest x0 x1 s) = .next t) : Keeps m i p a t := by
  obtain rfl := Host.Outcome.next.inj ht
  exact (keeps_ite (State.hostWrite_keeps (State.groupShutdown_keeps h)) (State.denied_keeps h))

theorem State.closeGroup_keeps {x1} (h : Keeps m i p a s) : Keeps m i p a (State.closeGroup s x1) := by
  unfold State.closeGroup
  extract_lets v1 v2 v3
  have k4 : Keeps m i p a v2 := (State.setB_keeps h)
  clear_value v2
  have k5 : Keeps m i p a v3 := (State.setF_keeps h)
  clear_value v3
  exact (keeps_ite (State.updGroup_keeps (State.setF_keeps k4)) (keeps_ite k5 (State.armRsdly_keeps k5)))

theorem State.closeGroups_keeps (h : Keeps m i p a s) : Keeps m i p a (State.closeGroups s) := by
  unfold State.closeGroups
  extract_lets v1 v2 v3 v4
  have k5 : Keeps m i p a v3 := by
    unfold v3
    refine keeps_foldl (fun w8 x9 k10 => ?_) ?_
    · extract_lets v11
      have k12 : Keeps m i p a v11 := (State.clearRetry_keeps k10)
      clear_value v11
      exact (keeps_ite (State.updRail_keeps (State.setRail_keeps k12)) k12)
    · exact h
  clear_value v3
  have k13 : Keeps m i p a v4 := (keeps_foldl (fun _ _ g14 => (State.closeGroup_keeps g14)) k5)
  clear_value v4
  exact (State.showReact_keeps (keeps_foldl (fun _ _ g15 => (keeps_ite (State.freeRail_keeps g15) g15)) k13))

theorem execGroupClosureOff_keeps {x0} (h : Keeps m i p a s) (ht : (execGroupClosureOff x0 s) = .next t)
    : Keeps m i p a t := by
  obtain rfl := Host.Outcome.next.inj ht
  extract_lets v1
  exact (keeps_ite (State.closeGroups_keeps h) h)

theorem execGroupResequence_keeps {x0} (h : Keeps m i p a s) (ht : (execGroupResequence x0 s) = .next t)
    : Keeps m i p a t := by
  obtain rfl := Host.Outcome.next.inj ht
  refine keeps_ite ?_ ?_
  · exact h
  · split
    · rename_i u1 u2 u3
      have k4 := State.expire_keeps h u3
      exact (State.resequence_keeps k4)
    · rename_i u5 u6
      exact h

theorem execGroupStable_keeps {x0} (h : Keeps m i p a s) (ht : (execGroupStable x0 s) = .next t)
    : Keeps m i p a t := by
  obtain rfl := Host.Outcome.next.inj ht
  split
  · rename_i u1 u2 u3
    exact (State.setB_keeps (State.setF_keeps (State.notBefore_keeps h)))
  · rename_i u4 u5
    exact h

theorem execSystemStable_keeps (h : Keeps m i p a s) (ht : (execSystemStable s) = .next t) : Keeps m i p a t := by
  obtain rfl := Host.Outcome.next.inj ht
  split
  · rename_i u1 u2 u3
    exact (State.setB_keeps (State.setF_keeps (State.notBefore_keeps h)))
  · rename_i u4 u5
    exact h

theorem execSystemResetHoldEnd_keeps (h : Keeps m i p a s) (ht : (execSystemResetHoldEnd s) = .next t)
    : Keeps m i p a t := by
  obtain rfl := Host.Outcome.next.inj ht
  split
  · rename_i u1 u2 u3
    have k4 := State.expire_keeps h u3
    exact (keeps_ite (State.event_keeps (State.showReact_keeps (State.updSeq_keeps (State.setB_keeps k4))))
        (State.sysStep4_keeps k4))
  · rename_i u5 u6
    exact h

theorem State.seqResume_keeps (h : Keeps m i p a s) : Keeps m i p a (State.seqResume s) := by
  unfold State.seqResume
  extract_lets v1
  have k2 : Keeps m i p a v1 := (State.setB_keeps (State.setF_keeps (State.setB_keeps h)))
  clear_value v1
  exact (keeps_ite (State.sysStep4_keeps (State.updSeq_keeps k2)) h)

theorem execSeqResume_keeps {x0} (h : Keeps m i p a s) (ht : (execSeqResume x0 s) = .next t) : Keeps m i p a t := by
  obtain rfl := Host.Outcome.next.inj ht
  exact (keeps_ite (State.hostWrite_keeps (State.seqResume_keeps h)) (State.denied_keeps h))

theorem execSnapshotPlaced_keeps (h : Keeps m i p a s) (ht : (execSnapshotPlaced s) = .next t) : Keeps m i p a t := by
  obtain rfl := Host.Outcome.next.inj ht
  exact (State.snapPlace_keeps h)

theorem State.watchInrush_keeps {x1} (h : Keeps m i p a s) : Keeps m i p a (State.watchInrush s x1) := by
  unfold State.watchInrush
  refine keeps_ite ?_ ?_
  · split
    · rename_i u1 u2
      exact h
    · rename_i u3 u4 u5 u6
      extract_lets v7 v8
      have k9 : Keeps m i p a v7 := (State.setF_keeps h)
      clear_value v7
      have k10 : Keeps m i p a v8 := (State.updRail_keeps k9)
      clear_value v8
      exact (keeps_ite (State.railFault_keeps (State.raiseWith_keeps k10)) k9)
  · exact h

theorem State.inrushUpdate_keeps {x1} (h : Keeps m i p a s) : Keeps m i p a (State.inrushUpdate s x1) := by
  unfold State.inrushUpdate
  exact (keeps_foldl (fun _ _ g1 => (keeps_ite (State.watchInrush_keeps g1) g1)) h)

/-! ## Sup -/

theorem State.wdSeed_keeps (h : Keeps m i p a s) : Keeps m i p a (State.wdSeed s) := by
  unfold State.wdSeed
  exact keeps_mk (State.takeFree_keeps h)

theorem State.wdChallenge_keeps (h : Keeps m i p a s) : Keeps m i p a (State.wdChallenge s) := by
  unfold State.wdChallenge
  exact (State.setF_keeps h)

theorem State.wdArm_keeps (h : Keeps m i p a s) : Keeps m i p a (State.wdArm s) := by
  unfold State.wdArm
  extract_lets v1 v2 v3 v4
  have k5 : Keeps m i p a v3 := (keeps_mk h)
  clear_value v3
  have k6 : Keeps m i p a v4 := (State.wdChallenge_keeps (State.setF_keeps k5))
  clear_value v4
  exact (keeps_ite (State.disarm_keeps (State.setF_keeps k5)) (keeps_ite (State.disarm_keeps (State.setF_keeps k6))
      (State.arm_keeps (State.setF_keeps k6))))

theorem State.wdStop_keeps (h : Keeps m i p a s) : Keeps m i p a (State.wdStop s) := by
  unfold State.wdStop
  exact (keeps_ite h (State.disarm_keeps (State.setF_keeps h)))

theorem State.rstoDelay_keeps {x1} (h : Keeps m i p a s) : Keeps m i p a (State.rstoDelay s x1) := by
  unfold State.rstoDelay
  exact (State.arm_keeps (State.setB_keeps h))

theorem State.wdIdle_keeps {x1} (h : Keeps m i p a s) : Keeps m i p a (State.wdIdle s x1) := by
  unfold State.wdIdle
  extract_lets v1
  exact (keeps_ite (State.disarm_keeps (State.setF_keeps h)) h)

theorem State.rstoFollow_keeps {x1} (h : Keeps m i p a s) : Keeps m i p a (State.rstoFollow s x1) := by
  unfold State.rstoFollow
  extract_lets v1 v2 v3
  have k4 : Keeps m i p a v2 := (State.setF_keeps h)
  clear_value v2
  have k5 : Keeps m i p a v3 := (State.count_keeps (State.setB_keeps k4))
  clear_value v3
  exact (keeps_ite (keeps_ite (State.disarm_keeps (State.setB_keeps k4)) (State.wdIdle_keeps (State.arm_keeps k5)))
      (keeps_ite (State.rstoDelay_keeps k4) k4))

theorem State.rstoRelease_keeps {x1} (h : Keeps m i p a s) : Keeps m i p a (State.rstoRelease s x1) := by
  unfold State.rstoRelease
  extract_lets v1
  have k2 : Keeps m i p a v1 := (State.setB_keeps (State.setB_keeps h))
  clear_value v1
  exact (keeps_ite (State.wdArm_keeps k2) k2)

theorem State.rstoFree_keeps {x1} (h : Keeps m i p a s) : Keeps m i p a (State.rstoFree s x1) := by
  unfold State.rstoFree
  extract_lets v1
  have k2 : Keeps m i p a v1 := (State.disarm_keeps (State.disarm_keeps (State.setF_keeps h)))
  clear_value v1
  exact (keeps_ite (State.rstoRelease_keeps k2) (State.setB_keeps k2))

theorem State.rstoRefresh_keeps (h : Keeps m i p a s) : Keeps m i p a (State.rstoRefresh s) := by
  unfold State.rstoRefresh
  exact (keeps_ite (keeps_foldl (fun _ _ g1 => (keeps_ite (State.rstoFollow_keeps g1) (State.rstoFree_keeps g1)))
      h) h)

theorem State.supFollow_keeps (h : Keeps m i p a s) : Keeps m i p a (State.supFollow s) := by
  unfold State.supFollow
  exact (State.rstoRefresh_keeps (keeps_foldl (fun _ _ g1 => (keeps_ite g1 (State.disarm_keeps (State.setB_keeps
      g1)))) h))

theorem State.wdOpen_keeps (h : Keeps m i p a s) : Keeps m i p a (State.wdOpen s) := by
  unfold State.wdOpen
  exact (State.arm_keeps (State.setF_keeps h))

theorem State.wdClosed_keeps (h : Keeps m i p a s) : Keeps m i p a (State.wdClosed s) := by
  unfold State.wdClosed
  extract_lets v1
  exact (keeps_ite (State.wdOpen_keeps h) (State.arm_keeps (State.setF_keeps h)))

theorem State.wdExpire_keeps (h : Keeps m i p a s) : Keeps m i p a (State.wdExpire s) := by
  unfold State.wdExpire
  extract_lets v1 v2 v3 v4
  have k5 : Keeps m i p a v2 := (State.setB_keeps (State.raise_keeps h))
  clear_value v2
  have k6 : Keeps m i p a v3 := (State.event_keeps (State.count_keeps k5))
  clear_value v3
  have k7 : Keeps m i p a v4 := (keeps_ite (State.rstoRefresh_keeps (State.arm_keeps k6)) k6)
  clear_value v4
  exact (State.wdArm_keeps (State.wdChallenge_keeps (State.setF_keeps (State.setF_keeps k7))))

theorem State.wdError_keeps (h : Keeps m i p a s) : Keeps m i p a (State.wdError s) := by
  unfold State.wdError
  extract_lets v1 v2
  have k3 : Keeps m i p a v2 := (State.setF_keeps h)
  clear_value v2
  exact (keeps_ite (State.wdExpire_keeps k3) k3)

theorem State.wdJudge_keeps {x1} (h : Keeps m i p a s) : Keeps m i p a (State.wdJudge s x1) := by
  unfold State.wdJudge
  extract_lets v1 v2
  have k3 : Keeps m i p a v2 := (State.setF_keeps h)
  clear_value v2
  exact (keeps_ite (keeps_ite (State.wdClosed_keeps (State.wdChallenge_keeps (State.setF_keeps k3)))
      (State.wdError_keeps (State.count_keeps h))) h)

theorem State.busAnswer_keeps {x1} (h : Keeps m i p a s) : Keeps m i p a (State.busAnswer s x1) := by
  unfold State.busAnswer
  refine State.busSend_keeps ?_ ?_
  · exact h
  · intro w1 w2 w3 k4 w5
    cases w5
    exact (State.wdJudge_keeps k4)

theorem execWdAnswer_keeps {x0 x1 x3} (h : Keeps m i p a s) (ht : (execWdAnswer x0 x1 s x3) = .next t)
    : Keeps m i p a t := by
  obtain rfl := Host.Outcome.next.inj ht
  refine sentAs_keeps ?_ ?_
  · split
    · rename_i u1 u2
      exact h
    · rename_i u3
      exact h
    · rename_i u4 u5 u6
      exact (keeps_ite (State.hostWrite_keeps (State.wdJudge_keeps h)) (State.denied_keeps h))
  · intro w7
    exact (State.busAnswer_keeps h)

theorem execWdClosedEnd_keeps (h : Keeps m i p a s) (ht : (execWdClosedEnd s) = .next t) : Keeps m i p a t := by
  obtain rfl := Host.Outcome.next.inj ht
  refine keeps_ite ?_ ?_
  · split
    · rename_i u1 u2 u3
      have k4 := State.expire_keeps h u3
      exact (State.wdOpen_keeps k4)
    · rename_i u5 u6
      exact h
  · exact h

theorem execWdTimeout_keeps (h : Keeps m i p a s) (ht : (execWdTimeout s) = .next t) : Keeps m i p a t := by
  obtain rfl := Host.Outcome.next.inj ht
  extract_lets v1
  refine keeps_ite ?_ ?_
  · split
    · rename_i u2 u3 u4
      have k5 := State.expire_keeps h u4
      exact (State.wdError_keeps (State.wdClosed_keeps (State.count_keeps k5)))
    · rename_i u6 u7
      exact h
  · exact h

theorem execRstoMinwEnd_keeps {x0} (h : Keeps m i p a s) (ht : (execRstoMinwEnd x0 s) = .next t)
    : Keeps m i p a t := by
  obtain rfl := Host.Outcome.next.inj ht
  split
  · rename_i u1 u2 u3
    have k4 := State.expire_keeps h u3
    exact (keeps_ite (State.rstoFollow_keeps k4) k4)
  · rename_i u5 u6
    exact h

theorem execRstoRelease_keeps {x0} (h : Keeps m i p a s) (ht : (execRstoRelease x0 s) = .next t)
    : Keeps m i p a t := by
  obtain rfl := Host.Outcome.next.inj ht
  split
  · rename_i u1 u2 u3
    have k4 := State.expire_keeps h u3
    exact (keeps_ite (State.rstoRelease_keeps k4) k4)
  · rename_i u5 u6
    exact h

theorem State.monCompare_keeps {x1 x2} (h : Keeps m i p a s) : Keeps m i p a (State.monCompare s x1 x2) := by
  unfold State.monCompare
  extract_lets v1 v2 v3 v4 v5
  exact (State.setB_keeps (State.setB_keeps h))

theorem execMonCrossing_keeps {x0 x1 x2} (h : Keeps m i p a s) (ht : (execMonCrossing x0 x1 x2 s) = .next t)
    : Keeps m i p a t := by
  obtain rfl := Host.Outcome.next.inj ht
  extract_lets v1 v2 v3
  have k4 : Keeps m i p a v2 := (State.monCompare_keeps h)
  clear_value v2
  exact (keeps_ite (keeps_ite k4 (keeps_ite (State.disarm_keeps k4) (State.arm_keeps k4))) h)

theorem State.monViolation_keeps {x1} (h : Keeps m i p a s) : Keeps m i p a (State.monViolation s x1) := by
  unfold State.monViolation
  extract_lets v1 v2
  have k3 : Keeps m i p a v1 := (State.count_keeps h)
  clear_value v1
  split
  · rename_i u4 u5 u6
    exact (State.railFault_keeps (State.raiseWith_keeps k3))
  · rename_i u7 u8
    exact (State.raise_keeps k3)

theorem execMonFilterExpiry_keeps {x0} (h : Keeps m i p a s) (ht : (execMonFilterExpiry x0 s) = .next t)
    : Keeps m i p a t := by
  obtain rfl := Host.Outcome.next.inj ht
  split
  · rename_i u1 u2
    exact h
  · rename_i u3 u4 u5
    have k6 := State.expire_keeps h u5
    extract_lets v7 v8 v9 v10
    refine keeps_ite ?_ ?_
    · exact h
    · refine keeps_ite ?_ ?_
      · exact k6
      · refine State.rstoRefresh_keeps ?_
        refine keeps_ite ?_ ?_
        · refine State.monViolation_keeps ?_
          unfold v10
          refine State.event_keeps ?_
          refine State.setB_keeps ?_
          unfold v7
          split
          · rename_i u13 u14 u15
            exact (State.notBefore_keeps k6)
          · rename_i u16 u17
            exact k6
        · unfold v10
          refine State.event_keeps ?_
          refine State.setB_keeps ?_
          unfold v7
          split
          · rename_i u18 u19 u20
            exact (State.notBefore_keeps k6)
          · rename_i u21 u22
            exact k6

theorem State.monStart_keeps (h : Keeps m i p a s) : Keeps m i p a (State.monStart s) := by
  unfold State.monStart
  exact (keeps_foldl (fun _ _ g1 => (State.setB_keeps (State.setB_keeps (State.setB_keeps g1)))) h)

theorem execVinLossSet_keeps {x1 x2} (h : Keeps m i p a s) (ht : (execVinLossSet s x1 x2) = .next t)
    : Keeps m i p a t := by
  obtain rfl := Host.Outcome.next.inj ht
  extract_lets v1
  have k2 : Keeps m i p a v1 := (State.excursionChange_keeps (State.setB_keeps h))
  clear_value v1
  exact (keeps_ite h (keeps_ite (keeps_ite (State.pathTrigger_keeps k2) k2) h))

theorem execVinLossClear_keeps {x1 x2} (h : Keeps m i p a s) (ht : (execVinLossClear s x1 x2) = .next t)
    : Keeps m i p a t := by
  obtain rfl := Host.Outcome.next.inj ht
  exact (keeps_ite (State.excursionChange_keeps (State.setB_keeps h)) h)

theorem State.pmVin_keeps {x1} (h : Keeps m i p a s) : Keeps m i p a (State.pmVin s x1) := by
  unfold State.pmVin
  exact (keeps_foldl (fun _ _ g1 => (State.pmLatch_keeps g1)) h)

theorem State.pmVinHeld_keeps (h : Keeps m i p a s) : Keeps m i p a (State.pmVinHeld s) := by
  unfold State.pmVinHeld
  extract_lets v1
  have k2 : Keeps m i p a v1 := (keeps_ite (State.pmVin_keeps h) h)
  clear_value v1
  exact (keeps_ite (State.pmVin_keeps k2) k2)

theorem execVinWindowExit_keeps {x0 x2 x3} (h : Keeps m i p a s) (ht : (execVinWindowExit x0 s x2 x3) = .next t)
    : Keeps m i p a t := by
  obtain rfl := Host.Outcome.next.inj ht
  extract_lets v1 v2 v3 v4
  have k5 : Keeps m i p a v3 := (State.setB_keeps h)
  clear_value v3
  have k6 : Keeps m i p a v4 := (State.event_keeps (State.pmVin_keeps k5))
  clear_value v4
  exact (keeps_ite h (keeps_ite (keeps_ite (State.raise_keeps (State.count_keeps k6)) k6) k5))

theorem execVinWindowReturn_keeps {x0 x2 x3} (h : Keeps m i p a s)
    (ht : (execVinWindowReturn x0 s x2 x3) = .next t) : Keeps m i p a t := by
  obtain rfl := Host.Outcome.next.inj ht
  extract_lets v1 v2
  have k3 : Keeps m i p a v2 := (State.setB_keeps h)
  clear_value v2
  exact (keeps_ite (keeps_ite (State.event_keeps k3) k3) h)

theorem State.supStart_keeps (h : Keeps m i p a s) : Keeps m i p a (State.supStart s) := by
  unfold State.supStart
  extract_lets v1 v2
  have k3 : Keeps m i p a v1 := (State.monStart_keeps h)
  clear_value v1
  have k4 : Keeps m i p a v2 := (keeps_foldl (fun _ _ g5 => (keeps_ite (State.rstoFollow_keeps (State.setB_keeps
      g5)) (State.rstoFree_keeps g5))) k3)
  clear_value v2
  exact (State.wdArm_keeps k4)

theorem State.supSafe_keeps (h : Keeps m i p a s) : Keeps m i p a (State.supSafe s) := by
  unfold State.supSafe
  extract_lets v1 v2
  have k3 : Keeps m i p a v2 := (keeps_foldl (fun _ _ g4 => (State.disarm_keeps (State.disarm_keeps
      (State.setF_keeps (State.setB_keeps (State.setB_keeps g4)))))) h)
  clear_value v2
  exact (State.wdStop_keeps k3)

/-! ## Loader -/

theorem State.loadRegs_keeps {x1 x2} (h : Keeps m i p a s) : Keeps m i p a (State.loadRegs s x1 x2) := by
  unfold State.loadRegs
  exact (keeps_foldl (fun _ _ g1 => (State.setReg_keeps g1)) h)

theorem State.touchPage_keeps {x1} (h : Keeps m i p a s) : Keeps m i p a (State.touchPage s x1) := by
  unfold State.touchPage
  exact (keeps_foldl (fun _ _ g1 => (State.ledgReadWord_keeps g1)) h)

theorem State.judgeBank_keeps {x1} (h : Keeps m i p a s) : Keeps m i p a (State.judgeBank s x1).2 := by
  unfold State.judgeBank
  extract_lets v1 v2
  clear_value v2 v1
  dsimp only
  split
  · exact State.touchPage_keeps (State.touchPage_keeps h)
  · exact h

/-! ## EngBase -/

theorem State.updEng_keeps {x1 x2} (h : Keeps m i p a s) : Keeps m i p a (State.updEng s x1 x2) := by
  unfold State.updEng
  extract_lets v1
  exact (keeps_mk h (eS := EvtState.sram_mk) (eX := EvtState.sramBad_mk))

theorem State.loadTcms_keeps {x1 x2 x3} (h : Keeps m i p a s) : Keeps m i p a (State.loadTcms s x1 x2 x3) := by
  unfold State.loadTcms
  exact (State.updEng_keeps h)

theorem State.loadEngine_keeps {x1 x2} (h : Keeps m i p a s) : Keeps m i p a (State.loadEngine s x1 x2) := by
  unfold State.loadEngine
  extract_lets v1 v2 v3 v4
  have k5 : Keeps m i p a v2 := (State.setF_keeps h)
  clear_value v2
  have k6 : Keeps m i p a v3 := (keeps_foldl (fun _ _ g7 => (State.setReg_keeps (State.setReg_keeps g7))) k5)
  clear_value v3
  have k8 : Keeps m i p a v4 := (keeps_foldl (fun _ _ g9 => (State.setReg_keeps g9)) k6)
  clear_value v4
  split
  · rename_i u10 u11 u12
    exact (State.loadTcms_keeps (State.setB_keeps k8))
  · rename_i u13 u14
    exact k8

theorem State.loadEngines_keeps {x1} (h : Keeps m i p a s) : Keeps m i p a (State.loadEngines s x1) := by
  unfold State.loadEngines
  extract_lets v1 v2
  have k3 : Keeps m i p a v1 := (keeps_foldl (fun _ _ g4 => (State.loadEngine_keeps g4)) h)
  clear_value v1
  have k5 : Keeps m i p a v2 := (keeps_foldl (fun _ _ g6 => (State.setReg_keeps g6)) k3)
  clear_value v2
  exact (keeps_ite h (keeps_foldl (fun _ _ g7 => (State.setF_keeps g7)) k5))

theorem State.releaseEngine_keeps {x1 x2 x3 x4} (h : Keeps m i p a s)
    : Keeps m i p a (State.releaseEngine s x1 x2 x3 x4) := by
  unfold State.releaseEngine
  extract_lets v1 v2 v3
  have k4 : Keeps m i p a v3 := (State.updEng_keeps h)
  clear_value v3
  exact (State.setF_keeps (State.setF_keeps k4))

theorem State.engStart_keeps {x1} (h : Keeps m i p a s) : Keeps m i p a (State.engStart s x1) := by
  unfold State.engStart
  refine keeps_foldl (fun w2 x3 k4 => ?_) ?_
  · split
    · rename_i u5 u6 u7
      exact (State.setF_keeps (State.releaseEngine_keeps k4))
    · rename_i u8 u9
      exact k4
  · exact h

theorem State.endForward_keeps (h : Keeps m i p a s) : Keeps m i p a (State.endForward s) := by
  unfold State.endForward
  extract_lets v1 v2 v3 v4 v5
  have k6 : Keeps m i p a v2 := (State.setBitAt_keeps h)
  clear_value v2
  have k7 : Keeps m i p a v5 := (keeps_mk k6 (eS := EvtState.sram_mk) (eX := EvtState.sramBad_mk))
  clear_value v5
  exact (State.disarm_keeps (State.setB_keeps (State.setB_keeps k7)))

theorem State.checkForward_keeps (h : Keeps m i p a s) : Keeps m i p a (State.checkForward s) := by
  unfold State.checkForward
  exact (keeps_ite (State.endForward_keeps h) h)

theorem State.ackForward_keeps {x1 x2} (h : Keeps m i p a s) : Keeps m i p a (State.ackForward s x1 x2) := by
  unfold State.ackForward
  exact (keeps_ite (State.checkForward_keeps (State.setF_keeps h)) h)

theorem State.linkAckForward_keeps (h : Keeps m i p a s) : Keeps m i p a (State.linkAckForward s) := by
  unfold State.linkAckForward
  exact (keeps_ite (State.checkForward_keeps (State.setB_keeps h)) h)

theorem State.deliver_keeps {x1 x2} (h : Keeps m i p a s) : Keeps m i p a (State.deliver s x1 x2) := by
  unfold State.deliver
  extract_lets v1 v2 v3 v4 v5
  have k6 : Keeps m i p a v2 := (keeps_foldl (fun _ _ g7 => (State.localSource_keeps g7)) h)
  clear_value v2
  have k8 : Keeps m i p a v4 := (keeps_mk k6 (eS := EvtState.sram_mk) (eX := EvtState.sramBad_mk))
  clear_value v4
  have k9 : Keeps m i p a v5 := (State.setB_keeps (State.setF_keeps (State.setF_keeps (State.setB_keeps k8))))
  clear_value v5
  exact (State.checkForward_keeps (State.arm_keeps k9))

theorem execForwardTimeout_keeps (h : Keeps m i p a s) (ht : (execForwardTimeout s) = .next t) : Keeps m i p a t := by
  obtain rfl := Host.Outcome.next.inj ht
  refine keeps_ite ?_ ?_
  · exact h
  · split
    · rename_i u1 u2
      exact h
    · rename_i u3 u4 u5
      have k6 := State.expire_keeps h u5
      extract_lets v7 v8 v9 v10 v11
      refine State.endForward_keeps ?_
      refine State.setF_keeps ?_
      unfold v11
      refine State.traceRec_keeps ?_
      unfold v10
      refine State.count_keeps ?_
      unfold v9
      exact (keeps_foldl (fun _ _ g16 => (keeps_ite (State.setBitAt_keeps g16) g16)) k6)

theorem State.showClaims_keeps {x1} (h : Keeps m i p a s) : Keeps m i p a (State.showClaims s x1) := by
  unfold State.showClaims
  exact (State.setF_keeps (State.setF_keeps h))

theorem State.claim_keeps {x1} (h : Keeps m i p a s) : Keeps m i p a (State.claim s x1).2 := by
  unfold State.claim
  split
  · rename_i u1 u2
    exact h
  · rename_i u3 u4 u5
    extract_lets v6 v7
    have k8 : Keeps m i p a v7 := (State.updEng_keeps (State.setBitAt_keeps h))
    clear_value v7
    exact (State.showClaims_keeps k8)

theorem State.complete_keeps {x1 x2} (h : Keeps m i p a s) : Keeps m i p a (State.complete s x1 x2) := by
  unfold State.complete
  split
  · rename_i u1 u2 u3 u4
    extract_lets v5
    have k6 : Keeps m i p a v5 := (State.showClaims_keeps (State.updEng_keeps h))
    clear_value v5
    exact (keeps_ite (keeps_ite (State.ackForward_keeps k6) k6) (State.setB_keeps h))
  · rename_i u7 u8
    exact (State.setB_keeps h)

theorem execEicClaim_keeps {x0} (h : Keeps m i p a s) (ht : (execEicClaim x0 s) = .next t) : Keeps m i p a t := by
  obtain rfl := Host.Outcome.next.inj ht
  exact (keeps_ite (State.claim_keeps h) h)

theorem execEicComplete_keeps {x0 x1} (h : Keeps m i p a s) (ht : (execEicComplete x0 x1 s) = .next t)
    : Keeps m i p a t := by
  obtain rfl := Host.Outcome.next.inj ht
  exact (keeps_ite (State.complete_keeps h) h)

theorem State.ring_keeps {x1 x2} (h : Keeps m i p a s) : Keeps m i p a (State.ring s x1 x2) := by
  unfold State.ring
  exact (keeps_foldl (fun _ _ g1 => (keeps_ite (State.localSource_keeps g1) g1)) h)

theorem execDoorbell_keeps {x0 x1} (h : Keeps m i p a s) (ht : (execDoorbell x0 x1 s) = .next t)
    : Keeps m i p a t := by
  obtain rfl := Host.Outcome.next.inj ht
  exact (keeps_ite (State.ring_keeps h) h)

theorem execTimerCompareMatch_keeps {x0} (h : Keeps m i p a s) (ht : (execTimerCompareMatch x0 s) = .next t)
    : Keeps m i p a t := by
  obtain rfl := Host.Outcome.next.inj ht
  extract_lets v1
  have k2 : Keeps m i p a v1 := (State.notBefore_keeps h)
  clear_value v1
  exact (keeps_ite (State.localSource_keeps (State.updEng_keeps k2)) h)

theorem State.semRead_keeps {x1 x2} (h : Keeps m i p a s) : Keeps m i p a (State.semRead s x1 x2).2 := by
  unfold State.semRead
  extract_lets v1
  have k2 : Keeps m i p a v1 := (State.setF_keeps (State.setB_keeps h))
  clear_value v1
  split
  · rename_i u3
    exact h
  · rename_i u4
    exact k2

theorem State.semWrite_keeps {x1 x2 x3} (h : Keeps m i p a s) : Keeps m i p a (State.semWrite s x1 x2 x3) := by
  unfold State.semWrite
  exact (keeps_ite (State.setB_keeps (State.setF_keeps (State.setB_keeps h))) h)

theorem execSemAcquire_keeps {x0 x1} (h : Keeps m i p a s) (ht : (execSemAcquire x0 x1 s) = .next t)
    : Keeps m i p a t := by
  obtain rfl := Host.Outcome.next.inj ht
  exact (keeps_ite (State.semRead_keeps h) (State.denied_keeps h))

theorem execSemRelease_keeps {x0 x1 x2} (h : Keeps m i p a s) (ht : (execSemRelease x0 x1 x2 s) = .next t)
    : Keeps m i p a t := by
  obtain rfl := Host.Outcome.next.inj ht
  exact (keeps_ite (State.hostWrite_keeps (State.semWrite_keeps h)) (State.denied_keeps h))

theorem State.updDma_keeps {x1 x2} (h : Keeps m i p a s) : Keeps m i p a (State.updDma s x1 x2) := by
  unfold State.updDma
  extract_lets v1
  exact (keeps_mk h (eS := EvtState.sram_mk) (eX := EvtState.sramBad_mk))

theorem State.eccMark_keeps {x1 x2} (h : Keeps false i p a s) : Keeps false i p a (State.eccMark s x1 x2) := by
  unfold State.eccMark
  split
  · exact ⟨h.pending, h.clock, h.free, h.wf, nofun, h.img, h.pha⟩
  · exact State.updEng_keeps h
  · exact State.updEng_keeps h

theorem State.eccRead_keeps {x1 x2 x3} (h : Keeps false i p a s)
    : Keeps false i p a (State.eccRead s x1 x2 x3).2 := by
  unfold State.eccRead
  split
  · rename_i u1
    exact (State.raise_keeps h)
  · rename_i u2
    split
    · rename_i u3
      exact h
    · rename_i u4
      exact (State.raise_keeps h)
    · rename_i u5
      exact (State.raise_keeps (State.eccMark_keeps h))

theorem State.eccTake_keeps {x1 x2} (h : Keeps false i p a s) : Keeps false i p a (State.eccTake s x1 x2).2 := by
  unfold State.eccTake
  extract_lets v1
  exact (State.eccRead_keeps (keeps_mk h (eS := EvtState.sram_mk) (eX := EvtState.sramBad_mk)))

theorem State.partRead_keeps {x1 x2 x3} (h : Keeps false i p a s)
    : Keeps false i p a (State.partRead s x1 x2 x3).2 := by
  unfold State.partRead
  split
  · rename_i u1
    exact h
  · rename_i u2
    split
    · rename_i u3
      exact h
    · rename_i u4
      exact (State.eccTake_keeps h)

theorem State.withErrs_keeps {x1 x2} (h : Keeps m i p a s) (hf2 : ∀ w0, Keeps m i p a w0 → Keeps m i p a (x2 w0))
    : Keeps m i p a (State.withErrs s x1 x2) := by
  unfold State.withErrs
  extract_lets v1 v2 v3
  have k4 : Keeps m i p a v2 := by
    unfold v2
    refine hf2 _ ?_
    exact (keeps_mk h (eS := EvtState.sram_mk) (eX := EvtState.sramBad_mk))
  clear_value v2
  exact (keeps_mk k4 (eS := EvtState.sram_mk) (eX := EvtState.sramBad_mk))

theorem State.meeting_keeps {x1 x2} (h : Keeps m i p a s) (hf2 : ∀ w0, Keeps m i p a w0 → Keeps m i p a (x2 w0))
    : Keeps m i p a (State.meeting s x1 x2) := by
  unfold State.meeting
  refine keeps_ite ?_ ?_
  · refine hf2 _ ?_
    exact h
  · refine State.withErrs_keeps ?_ ?_
    · exact h
    · intro w2 k3
      refine hf2 _ ?_
      exact k3

theorem State.readDesc_keeps {x1 x2 x3} (h : Keeps false i p a s)
    : Keeps false i p a (State.readDesc s x1 x2 x3).2 := by
  induction x2 generalizing s x3 with
  | zero => exact h
  | succ n ih =>
    unfold State.readDesc
    split
    · exact h
    · extract_lets v1 v2
      split
      · exact ih (State.eccTake_keeps h)
      · exact State.eccTake_keeps h

theorem State.setOwnWord_keeps {x1 x2 x3} (h : Keeps false i p a s)
    : Keeps false i p a (State.setOwnWord s x1 x2 x3) := by
  unfold State.setOwnWord
  refine keeps_ite (State.updEng_keeps h) (keeps_ite ?_ h)
  extract_lets v1 v2 v3
  refine keeps_ite h ⟨h.pending, h.clock, h.free, fun hw => ?_, nofun, h.img, h.pha⟩
  obtain ⟨h1, h2, h3, h4, h5, h6⟩ := State.memWf_iff.1 (h.wf hw)
  exact State.memWf_iff.2 ⟨h1, h2, Cells.wf_put_const v1 v3 h3, h4, h5, h6⟩

theorem State.dmaStop_keeps {x1 x2 x3} (h : Keeps false i p a s) : Keeps false i p a (State.dmaStop s x1 x2 x3) := by
  unfold State.dmaStop
  extract_lets v1 v2 v3 v4 v5
  have k6 : Keeps false i p a v3 := (State.updDma_keeps (State.setF_keeps (State.setF_keeps h)))
  clear_value v3
  have k7 : Keeps false i p a v4 := (State.setOwnWord_keeps k6)
  clear_value v4
  have k8 : Keeps false i p a v5 := (keeps_ite (State.localSource_keeps k7) k7)
  clear_value v5
  exact (keeps_ite (State.raise_keeps k8) k8)

theorem State.dmaAsk_keeps {x1 x2} (h : Keeps m i p a s) : Keeps m i p a (State.dmaAsk s x1 x2) := by
  unfold State.dmaAsk
  exact (keeps_ite (State.updDma_keeps h) h)

theorem execDmaSuspend_keeps {x0 x1} (h : Keeps m i p a s) (ht : (execDmaSuspend x0 x1 s) = .next t)
    : Keeps m i p a t := by
  obtain rfl := Host.Outcome.next.inj ht
  exact (keeps_ite (State.dmaAsk_keeps h) h)

theorem execDmaAbort_keeps {x0 x1} (h : Keeps m i p a s) (ht : (execDmaAbort x0 x1 s) = .next t)
    : Keeps m i p a t := by
  obtain rfl := Host.Outcome.next.inj ht
  exact (keeps_ite (State.dmaAsk_keeps h) h)

theorem State.mpuRefuse_keeps {x1 x2 x3 x4} (h : Keeps m i p a s) : Keeps m i p a (State.mpuRefuse s x1 x2 x3 x4)
    := by
  unfold State.mpuRefuse
  extract_lets v1
  have k2 : Keeps m i p a v1 := (State.raise_keeps h)
  clear_value v1
  exact (keeps_ite k2 (State.setF_keeps (State.setF_keeps (State.setB_keeps (State.setReg_keeps k2)))))

theorem State.dmaLoad_keeps {x1 x2 x3 x4} (h : Keeps false i p a s)
    : Keeps false i p a (State.dmaLoad s x1 x2 x3 x4) := by
  unfold State.dmaLoad
  extract_lets v1 v2 v3 v4 v5
  have k6 : Keeps false i p a v1.2 := (State.readDesc_keeps h)
  clear_value v1
  have k7 : Keeps false i p a v2 := k6
  clear_value v2
  have k8 : Keeps false i p a v4 := (State.updDma_keeps k7)
  clear_value v4
  have k9 : Keeps false i p a v5 := (State.setF_keeps (State.setF_keeps k8))
  clear_value v5
  split
  · rename_i u10 u11 u12 u13 u14 u15 u16 u17
    extract_lets v18 v19 v20 v21 v22
    have k23 : Keeps false i p a v21 := (State.updDma_keeps k7)
    clear_value v21
    have k24 : Keeps false i p a v22 := (State.setF_keeps (State.setF_keeps (State.setF_keeps k23)))
    clear_value v22
    exact (keeps_ite (State.dmaStop_keeps (State.mpuRefuse_keeps k24)) (keeps_ite k24 (State.dmaStop_keeps k24)))
  · rename_i u25 u26
    exact (State.dmaStop_keeps k9)

theorem execDmaStart_keeps {x0 x1 x3} (h : Keeps false i p a s) (ht : (execDmaStart x0 x1 s x3) = .next t)
    : Keeps false i p a t := by
  obtain rfl := Host.Outcome.next.inj ht
  exact (keeps_ite (State.meeting_keeps h (fun _ g1 => (State.dmaLoad_keeps g1))) h)

theorem State.haltEngine_keeps {x1 x2} (h : Keeps false i p a s) : Keeps false i p a (State.haltEngine s x1 x2) := by
  unfold State.haltEngine
  extract_lets v1 v2 v3 v4 v5
  have k6 : Keeps false i p a v1 := (State.setF_keeps (State.setReg_keeps (State.disarm_keeps h)))
  clear_value v1
  have k7 : Keeps false i p a v2 := (keeps_foldl (fun _ _ g8 => (keeps_ite (State.dmaStop_keeps g8) g8)) k6)
  clear_value v2
  have k9 : Keeps false i p a v3 := (keeps_foldl (fun _ _ g10 => (keeps_ite (State.setB_keeps (State.setF_keeps
      (State.setB_keeps g10))) g10)) k7)
  clear_value v3
  have k11 : Keeps false i p a v4 := (keeps_foldl (fun _ _ g12 => (State.setReg_keeps g12)) k9)
  clear_value v4
  have k13 : Keeps false i p a v5 := (State.showClaims_keeps (State.updEng_keeps k11))
  clear_value v5
  exact (State.event_keeps (State.ackForward_keeps k13))

theorem execLockstepMismatch_keeps {x0} (h : Keeps false i p a s) (ht : (execLockstepMismatch x0 s) = .next t)
    : Keeps false i p a t := by
  obtain rfl := Host.Outcome.next.inj ht
  exact (keeps_ite (State.traceRec_keeps (State.raise_keeps (State.haltEngine_keeps h))) h)

theorem State.haltAll_keeps (h : Keeps false i p a s) : Keeps false i p a (State.haltAll s) := by
  unfold State.haltAll
  exact (keeps_foldl (fun _ _ g1 => (keeps_ite (State.haltEngine_keeps g1) g1)) h)

theorem State.takeover_keeps {x1 x2} (h : Keeps m i p a s) : Keeps m i p a (State.takeover s x1 x2) := by
  unfold State.takeover
  extract_lets v1 v2 v3 v4 v5 v6 v7 v8 v9 v10
  have k11 : Keeps m i p a v2 := (State.updEng_keeps (State.setF_keeps h))
  clear_value v2
  have k12 : Keeps m i p a v3 := (State.showClaims_keeps (keeps_foldl (fun _ _ g13 => (State.setReg_keeps g13)) k11))
  clear_value v3
  have k14 : Keeps m i p a v4 := (State.ackForward_keeps k12)
  clear_value v4
  have k15 : Keeps m i p a v5 := by
    unfold v5
    split
    · rename_i u16 u17 u18
      exact (State.loadTcms_keeps k14)
    · rename_i u19 u20
      exact (State.updEng_keeps k14)
  clear_value v5
  have k21 : Keeps m i p a v6 := (keeps_foldl (fun _ _ g22 => (State.setReg_keeps (State.setReg_keeps g22))) k15)
  clear_value v6
  have k23 : Keeps m i p a v7 := (keeps_foldl (fun _ _ g24 => (State.setReg_keeps g24)) k21)
  clear_value v7
  have k25 : Keeps m i p a v8 := (keeps_foldl (fun _ _ g26 => (keeps_ite (State.setF_keeps g26) g26)) k23)
  clear_value v8
  have k27 : Keeps m i p a v9 := by
    unfold v9
    refine keeps_foldl (fun w30 x31 k32 => ?_) ?_
    · extract_lets v33
      exact (keeps_ite (State.setF_keeps k32) k32)
    · exact k25
  clear_value v9
  have k34 : Keeps m i p a v10 := (State.setB_keeps (State.setF_keeps k27))
  clear_value v10
  exact (keeps_ite (State.arm_keeps k34) h)

theorem execTakeover_keeps {x0 x1} (h : Keeps m i p a s) (ht : (execTakeover x0 x1 s) = .next t)
    : Keeps m i p a t := by
  obtain rfl := Host.Outcome.next.inj ht
  exact (State.takeover_keeps h)

theorem execTakeoverRelease_keeps {x0} (h : Keeps m i p a s) (ht : (execTakeoverRelease x0 s) = .next t)
    : Keeps m i p a t := by
  obtain rfl := Host.Outcome.next.inj ht
  extract_lets v1 v2
  exact (keeps_ite (State.releaseEngine_keeps (State.disarm_keeps h)) h)

theorem State.raiseSoft_keeps {x1} (h : Keeps m i p a s) : Keeps m i p a (State.raiseSoft s x1) := by
  unfold State.raiseSoft
  exact (keeps_ite (State.event_keeps h) h)

theorem execSoftwareEventRaise_keeps {x0 x1} (h : Keeps m i p a s)
    (ht : (execSoftwareEventRaise x0 x1 s) = .next t) : Keeps m i p a t := by
  obtain rfl := Host.Outcome.next.inj ht
  exact (keeps_ite (State.hostWrite_keeps (State.raiseSoft_keeps h)) (State.denied_keeps h))

theorem State.clearEvents_keeps {x1} (h : Keeps m i p a s) : Keeps m i p a (State.clearEvents s x1) := by
  unfold State.clearEvents
  exact (keeps_foldl (fun _ _ g1 => (State.setReg_keeps g1)) h)

theorem State.busClear_keeps {x1} (h : Keeps m i p a s) : Keeps m i p a (State.busClear s x1) := by
  unfold State.busClear
  refine State.busSend_keeps ?_ ?_
  · exact h
  · intro w1 w2 w3 k4 w5
    cases w5
    exact (State.clearEvents_keeps k4)

theorem execHostEventClear_keeps {x0 x2 x3} (h : Keeps m i p a s) (ht : (execHostEventClear x0 s x2 x3) = .next t)
    : Keeps m i p a t := by
  obtain rfl := Host.Outcome.next.inj ht
  refine sentAs_keeps ?_ ?_
  · exact (keeps_ite h (keeps_ite (State.hostWrite_keeps (State.clearEvents_keeps h)) (State.denied_keeps h)))
  · intro w1
    exact (State.busClear_keeps h)

theorem State.engOff_keeps (h : Keeps false i p a s) : Keeps false i p a (State.engOff s) := by
  refine ⟨h.pending, h.clock, h.free, fun hw => ?_, nofun, h.img, h.pha⟩
  obtain ⟨h1, h2, h3, h4, h5, h6⟩ := State.memWf_iff.1 (h.wf hw)
  exact State.memWf_iff.2 ⟨h1, h2, rfl, h4, h5, h6⟩

/-! ## Accord -/

theorem State.putParam_keeps {x1 x2} (h : Keeps m i p a s) : Keeps m i p a (State.putParam s x1 x2) := by
  unfold State.putParam
  extract_lets v1
  exact (keeps_ite (State.updAcrd_keeps h) (State.setReg_keeps h))

theorem State.showDigest_keeps (h : Keeps m i p a s) : Keeps m i p a (State.showDigest s) := by
  unfold State.showDigest
  exact (State.setPair_keeps h)

theorem State.applyParams_keeps {x1 x2} (h : Keeps m i p a s) : Keeps m i p a (State.applyParams s x1 x2) := by
  unfold State.applyParams
  extract_lets v1
  have k2 : Keeps m i p a v1 := (keeps_foldl (fun _ _ g3 => (State.putParam_keeps g3)) h)
  clear_value v1
  refine keeps_foldl (fun w5 x6 k7 => ?_) ?_
  · split
    · rename_i u8 u9 u10
      exact (State.putParam_keeps k7)
    · rename_i u11 u12
      exact k7
  · exact k2

theorem State.showJournal_keeps {x1} (h : Keeps m i p a s) : Keeps m i p a (State.showJournal s x1) := by
  unfold State.showJournal
  exact (State.setF_keeps (State.setReg_keeps h))

theorem State.loopEffect_keeps {x1 x2} (h : Keeps m i p a s) : Keeps m i p a (State.loopEffect s x1 x2) := by
  unfold State.loopEffect
  extract_lets v1 v2 v3
  have k4 : Keeps m i p a v3 := (keeps_ite (State.surveyAbandon_keeps h) h)
  clear_value v3
  exact (keeps_ite (State.updLoop_keeps k4) k4)

theorem State.liveEffect_keeps {x1 x2} (h : Keeps m i p a s) : Keeps m i p a (State.liveEffect s x1 x2) := by
  unfold State.liveEffect
  extract_lets v1 v2 v3 v4
  have k5 : Keeps m i p a v3 := (keeps_ite (State.scaleChange_keeps h) h)
  clear_value v3
  have k6 : Keeps m i p a v4 := (keeps_ite (State.emptyQueue_keeps k5) k5)
  clear_value v4
  exact (keeps_ite h (keeps_ite (State.loopEffect_keeps h) (keeps_ite (State.showRanks_keeps (keeps_ite
      (State.chatFresh_keeps h) h)) (keeps_ite (State.wakeConvs_keeps k6) (keeps_ite (State.supFollow_keeps h)
          (keeps_ite (State.pathRefresh_keeps (State.showCaps_keeps (State.chgFollow_keeps h))) h))))))

theorem State.putLive_keeps {x1 x2} (h : Keeps m i p a s) : Keeps m i p a (State.putLive s x1 x2) := by
  unfold State.putLive
  extract_lets v1 v2 v3 v4
  have k5 : Keeps m i p a v3 := (State.updLoop_keeps h)
  clear_value v3
  exact (keeps_ite (State.putParam_keeps h) (keeps_ite (State.loopEffect_keeps k5) (State.liveEffect_keeps
      (State.putParam_keeps h))))

theorem State.paramAccept_keeps {x1 x2 x3 x4} (h : Keeps m i p a s)
    : Keeps m i p a (State.paramAccept s x1 x2 x3 x4) := by
  unfold State.paramAccept
  extract_lets v1 v2 v3 v4 v5
  have k6 : Keeps m i p a v1 := (State.showDigest_keeps (State.updAcrd_keeps h))
  clear_value v1
  have k7 : Keeps m i p a v2 := (State.count_keeps k6)
  clear_value v2
  have k8 : Keeps m i p a v3 := (keeps_ite k7 (State.putLive_keeps k7))
  clear_value v3
  have k9 : Keeps m i p a v5 := (keeps_ite (State.setPair_keeps k8) k8)
  clear_value v5
  exact (keeps_ite (State.ledgSubmit_keeps k9) k9)

theorem State.paramWrite_keeps {x1 x2 x3 x4} (h : Keeps m i p a s)
    : Keeps m i p a (State.paramWrite s x1 x2 x3 x4).2 := by
  unfold State.paramWrite
  extract_lets v1
  split
  · rename_i u2 u3 u4
    exact (keeps_ite (State.paramAccept_keeps h) h)
  · rename_i u5 u6
    exact h

theorem State.paramDone_keeps {x1 x2} (h : Keeps m i p a s) : Keeps m i p a (State.paramDone s x1 x2) := by
  unfold State.paramDone
  extract_lets v1 v2
  have k3 : Keeps m i p a v2 := (State.setF_keeps (State.setB_keeps h))
  clear_value v2
  split
  · rename_i u4 u5
    exact (State.localSource_keeps k3)
  · rename_i u6 u7
    exact k3

theorem State.paramCommand_keeps {x1 x2 x3 x4} (h : Keeps m i p a s)
    : Keeps m i p a (State.paramCommand s x1 x2 x3 x4) := by
  unfold State.paramCommand
  extract_lets v1 v2
  have k3 : Keeps m i p a v1 := (State.setReg_keeps h)
  clear_value v1
  have k4 : Keeps m i p a v2.2 := (State.paramWrite_keeps k3)
  clear_value v2
  exact (State.paramDone_keeps k4)

theorem State.busParam_keeps {x1} (h : Keeps m i p a s) : Keeps m i p a (State.busParam s x1) := by
  unfold State.busParam
  refine State.busSend_keeps ?_ ?_
  · exact h
  · intro w1 w2 w3 k4 w5
    cases w5
    exact (State.paramCommand_keeps k4)

theorem execParamWrite_keeps {x0 x1 x2 x3 x5} (h : Keeps m i p a s)
    (ht : (execParamWrite x0 x1 x2 x3 s x5) = .next t) : Keeps m i p a t := by
  obtain rfl := Host.Outcome.next.inj ht
  refine sentAs_keeps ?_ ?_
  · exact (keeps_ite (State.hostWrite_keeps (State.paramCommand_keeps h)) (State.denied_keeps h))
  · intro w1
    exact (State.busParam_keeps h)

theorem State.paramFetch_keeps {x1 x2 x3} (h : Keeps m i p a s) : Keeps m i p a (State.paramFetch s x1 x2 x3) := by
  unfold State.paramFetch
  refine keeps_ite ?_ ?_
  · exact (State.paramDone_keeps h)
  · split
    · rename_i u1 u2
      exact (State.paramDone_keeps h)
    · rename_i u3 u4 u5
      exact (State.paramDone_keeps (State.setReg_keeps h))

theorem execParamRead_keeps {x0 x1} (h : Keeps m i p a s) (ht : (execParamRead x0 x1 s) = .next t)
    : Keeps m i p a t := by
  obtain rfl := Host.Outcome.next.inj ht
  exact (keeps_ite (State.hostWrite_keeps (State.paramFetch_keeps h)) (State.denied_keeps h))

theorem execParamReadDefault_keeps {x0 x1} (h : Keeps m i p a s) (ht : (execParamReadDefault x0 x1 s) = .next t)
    : Keeps m i p a t := by
  obtain rfl := Host.Outcome.next.inj ht
  exact (keeps_ite (State.hostWrite_keeps (State.paramFetch_keeps h)) (State.denied_keeps h))

theorem execAccordLoadStart_keeps (h : Keeps m i false a s) (ht : (execAccordLoadStart s) = .next t)
    : Keeps m i false a t := by
  obtain rfl := Host.Outcome.next.inj ht
  extract_lets v1 v2
  exact (keeps_ite (State.arm_keeps (keeps_mkP h)) h)

theorem State.takeJudgement_keeps {x1 x2 x3 x4} (h : Keeps m false false a s)
    : Keeps m false false a (State.takeJudgement s x1 x2 x3 x4) := by
  unfold State.takeJudgement
  extract_lets v1 v2 v3 v4 v5 v6
  have k7 : Keeps m false false a v2 := (keeps_ite (State.raise_keeps h) h)
  clear_value v2
  have k8 : Keeps m false false a v4 := (State.updAcrd_keepsI k7)
  clear_value v4
  have k9 : Keeps m false false a v6 := (keeps_mkP k8)
  clear_value v6
  exact (State.arm_keeps k9)

theorem execBanksJudged_keeps (h : Keeps m false false a s) (ht : (execBanksJudged s) = .next t)
    : Keeps m false false a t := by
  obtain rfl := Host.Outcome.next.inj ht
  refine keeps_ite ?_ ?_
  · exact h
  · split
    · rename_i u1 u2
      exact h
    · rename_i u3 u4 u5
      have k6 := State.expire_keeps h u5
      extract_lets v7 v8
      refine State.takeJudgement_keeps ?_
      unfold v8
      refine State.judgeBank_keeps ?_
      unfold v7
      exact (State.judgeBank_keeps k6)

theorem State.readParamPages_keeps (h : Keeps m i p a s) : Keeps m i p a (State.readParamPages s) := by
  unfold State.readParamPages
  exact (keeps_foldl (fun _ _ g1 => (State.touchPage_keeps g1)) h)

theorem execFabricConfigured_keeps (h : Keeps m i false a s) (ht : (execFabricConfigured s) = .next t)
    : Keeps m i false a t := by
  obtain rfl := Host.Outcome.next.inj ht
  refine keeps_ite ?_ ?_
  · exact h
  · split
    · rename_i u1 u2
      exact h
    · rename_i u3 u4 u5
      have k6 := State.expire_keeps h u5
      extract_lets v7 v8 v9 v10
      refine State.arm_keeps ?_
      refine keeps_mkP ?_
      unfold v9
      refine State.updAcrd_keeps ?_
      unfold v8
      split
      · rename_i u16 u17 u18
        extract_lets v19
        refine State.loadEngines_keeps ?_
        refine State.updAcrd_keeps ?_
        unfold v7
        exact (State.readParamPages_keeps k6)
      · rename_i u22 u23
        exact k6

theorem State.showPfail_keeps (h : Keeps m i p a s) : Keeps m i p a (State.showPfail s) := by
  unfold State.showPfail
  exact (keeps_foldl (fun _ _ g1 => (keeps_ite g1 (State.setBitAt_keeps g1))) h)

theorem State.showImage_keeps (h : Keeps m i p a s) : Keeps m i p a (State.showImage s) := by
  unfold State.showImage
  extract_lets v1
  have k2 : Keeps m i p a v1 := (State.setF_keeps h)
  clear_value v1
  split
  · rename_i u3 u4 u5
    exact (State.setPair_keeps (State.setF_keeps (State.setF_keeps (State.setReg_keeps k2))))
  · rename_i u6 u7
    exact (State.setReg_keeps (State.setReg_keeps (State.setF_keeps (State.setF_keeps (State.setReg_keeps k2)))))

theorem State.loadPeriod_keeps {x1} (h : Keeps m i p a s) : Keeps m i p a (State.loadPeriod s x1) := by
  unfold State.loadPeriod
  exact (keeps_ite (State.setF_keeps h) h)

theorem State.loadHierarchy_keeps {x1} (h : Keeps m i p a s) : Keeps m i p a (State.loadHierarchy s x1) := by
  unfold State.loadHierarchy
  extract_lets v1 v2 v3 v4
  have k5 : Keeps m i p a v1 := (State.setB_keeps h)
  clear_value v1
  have k6 : Keeps m i p a v2 := (State.loadPeriod_keeps k5)
  clear_value v2
  have k7 : Keeps m i p a v3 := (State.setF_keeps (State.setF_keeps k6))
  clear_value v3
  have k8 : Keeps m i p a v4 := (State.arm_keeps (State.setB_keeps (State.setB_keeps k7)))
  clear_value v4
  exact (keeps_ite (keeps_foldl (fun _ _ g9 => (State.setPair_keeps g9)) (State.setReg_keeps k8)) k5)

theorem State.loadLoops_keeps (h : Keeps m i p a s) : Keeps m i p a (State.loadLoops s) := by
  unfold State.loadLoops
  exact (State.readyPhases_keeps (keeps_foldl (fun _ _ g1 => (State.setF_keeps (State.loadCoefs_keeps g1))) h))

theorem State.loadImage_keeps (h : Keeps m i p a s) : Keeps m i p a (State.loadImage s) := by
  unfold State.loadImage
  extract_lets v1 v2 v3 v4 v5
  have k6 : Keeps m i p a v2 := (State.setB_keeps (State.setF_keeps (State.setF_keeps h)))
  clear_value v2
  have k7 : Keeps m i p a v3 := (State.setB_keeps (State.setB_keeps k6))
  clear_value v3
  have k8 : Keeps m i p a v4 := (State.setB_keeps (State.setB_keeps k7))
  clear_value v4
  have k9 : Keeps m i p a v5 := (State.setB_keeps (State.setF_keeps k8))
  clear_value v5
  split
  · rename_i u10 u11
    exact (State.showDigest_keeps (State.showImage_keeps k9))
  · rename_i u12 u13 u14
    extract_lets v15
    have k16 : Keeps m i p a v15 := (State.loadHierarchy_keeps (State.applyParams_keeps (State.loadRegs_keeps k9)))
    clear_value v15
    exact (State.showDigest_keeps (State.showJournal_keeps (State.showImage_keeps (State.showPfail_keeps
        (State.loadLoops_keeps k16)))))

theorem State.raiseFloor_keeps (h : Keeps m i p a s) : Keeps m i p a (State.raiseFloor s) := by
  unfold State.raiseFloor
  extract_lets v1
  split
  · rename_i u2 u3 u4
    exact (keeps_ite (State.requestCommit_keeps (State.deviceRecord_keeps h)) h)
  · rename_i u5 u6
    exact h

theorem State.verifyStaged_keeps {x1} (h : Keeps m i p a s) : Keeps m i p a (State.verifyStaged s x1) := by
  unfold State.verifyStaged
  split
  · rename_i u1 u2
    exact h
  · rename_i u3 u4 u5
    exact (State.arm_keeps (State.updAcrd_keeps h))

theorem execVerifyStaged_keeps {x0 x1} (h : Keeps m i p a s) (ht : (execVerifyStaged x0 x1 s) = .next t)
    : Keeps m i p a t := by
  obtain rfl := Host.Outcome.next.inj ht
  exact (keeps_ite (State.hostWrite_keeps (State.verifyStaged_keeps h)) (State.denied_keeps h))

theorem State.verifyDone_keeps {x1} (h : Keeps m i p a s) : Keeps m i p a (State.verifyDone s x1) := by
  unfold State.verifyDone
  extract_lets v1 v2 v3 v4
  have k5 : Keeps m i p a v1.2 := (State.judgeBank_keeps h)
  clear_value v1
  have k6 : Keeps m i p a v2 := (State.setB_keeps (State.setF_keeps k5))
  clear_value v2
  have k7 : Keeps m i p a v3 := (State.setB_keeps k6)
  clear_value v3
  have k8 : Keeps m i p a v4 := (State.updAcrd_keeps k7)
  clear_value v4
  exact (State.event_keeps k8)

theorem State.writeSelector_keeps {x1} (h : Keeps m i p a s) : Keeps m i p a (State.writeSelector s x1) := by
  unfold State.writeSelector
  exact (State.deviceRecord_keeps h)

theorem State.selectStaged_keeps {x1} (h : Keeps m i p a s) : Keeps m i p a (State.selectStaged s x1) := by
  unfold State.selectStaged
  refine keeps_ite ?_ ?_
  · split
    · rename_i u1 u2 u3
      exact (State.writeSelector_keeps h)
    · rename_i u4 u5
      exact h
  · exact h

theorem execSelectStaged_keeps {x0 x1} (h : Keeps m i p a s) (ht : (execSelectStaged x0 x1 s) = .next t)
    : Keeps m i p a t := by
  obtain rfl := Host.Outcome.next.inj ht
  exact (keeps_ite (State.hostWrite_keeps (State.selectStaged_keeps h)) (State.denied_keeps h))

end Sys2Proof.Machine
end

