-- ==== Sys2Proof/Laws/KeepsEvents.lean ====
section
/-! SUPPORT.  What each operation and each command keeps, in the sense of `Keeps`: loop events, faults and the fabric. -/

set_option Elab.async false

namespace Sys2Proof.Machine

variable {m i p : Bool} {a s t : State}

/-! ## LoopEvents -/

theorem State.writeVset_keeps {x1 x2 x3} (h : Keeps m i p a s) : Keeps m i p a (State.writeVset s x1 x2 x3) := by
  unfold State.writeVset
  extract_lets v1
  split
  · rename_i u2 u3 u4
    exact (State.setpoint_keeps (State.setF_keeps h))
  · rename_i u5 u6
    exact h

theorem execSetpointCommand_keeps {x0 x1 x2} (h : Keeps m i p a s)
    (ht : (execSetpointCommand x0 x1 x2 s) = .next t) : Keeps m i p a t := by
  obtain rfl := Host.Outcome.next.inj ht
  exact (keeps_ite (State.hostWrite_keeps (State.writeVset_keeps h)) (State.denied_keeps h))

theorem execSlewTick_keeps {x0} (h : Keeps m i p a s) (ht : (execSlewTick x0 s) = .next t) : Keeps m i p a t := by
  obtain rfl := Host.Outcome.next.inj ht
  exact (State.slewTick_keeps h)

theorem execCompensatorUpdate_keeps {x0 x1} (h : Keeps m i p a s) (ht : (execCompensatorUpdate x0 x1 s) = .next t)
    : Keeps m i p a t := by
  obtain rfl := Host.Outcome.next.inj ht
  exact (State.compUpdate_keeps h)

theorem execTelemetryUpdate_keeps {x0 x1} (h : Keeps m i p a s) (ht : (execTelemetryUpdate x0 x1 s) = .next t)
    : Keeps m i p a t := by
  obtain rfl := Host.Outcome.next.inj ht
  exact (State.inrushUpdate_keeps (State.watchForecast_keeps (State.watchSurvey_keeps (State.telemetry_keeps h))))

theorem execPgMaskEnd_keeps {x0} (h : Keeps m i p a s) (ht : (execPgMaskEnd x0 s) = .next t) : Keeps m i p a t := by
  obtain rfl := Host.Outcome.next.inj ht
  split
  · rename_i u1 u2 u3
    have k4 := State.expire_keeps h u3
    exact (State.endMask_keeps k4)
  · rename_i u5 u6
    exact h

theorem State.enterFault_keeps {x1 x2} (h : Keeps m i p a s) : Keeps m i p a (State.enterFault s x1 x2) := by
  unfold State.enterFault
  extract_lets v1 v2
  have k3 : Keeps m i p a v2 := (State.loopFault_keeps h)
  clear_value v2
  exact (keeps_ite k3 (State.loopRailFault_keeps k3))

theorem execLoopOvervoltage_keeps {x0 x1 x3 x4} (h : Keeps m i p a s)
    (ht : (execLoopOvervoltage x0 x1 s x3 x4) = .next t) : Keeps m i p a t := by
  obtain rfl := Host.Outcome.next.inj ht
  exact (keeps_ite (State.loopRailFault_keeps (State.loopOv_keeps h)) h)

theorem execLoopOvClear_keeps {x0 x2} (h : Keeps m i p a s) (ht : (execLoopOvClear x0 s x2) = .next t)
    : Keeps m i p a t := by
  obtain rfl := Host.Outcome.next.inj ht
  exact (keeps_ite (State.updLoop_keeps h) h)

theorem execLoopUndervoltage_keeps {x0 x2 x3} (h : Keeps m i p a s)
    (ht : (execLoopUndervoltage x0 s x2 x3) = .next t) : Keeps m i p a t := by
  obtain rfl := Host.Outcome.next.inj ht
  exact (keeps_ite (State.enterFault_keeps h) h)

theorem execLoopOcFault_keeps {x0} (h : Keeps m i p a s) (ht : (execLoopOcFault x0 s) = .next t)
    : Keeps m i p a t := by
  obtain rfl := Host.Outcome.next.inj ht
  split
  · rename_i u1 u2 u3
    have k4 := State.expire_keeps h u3
    exact (keeps_ite (State.enterFault_keeps k4) k4)
  · rename_i u5 u6
    exact h

theorem State.enterNl_keeps {x1 x2} (h : Keeps m i p a s) : Keeps m i p a (State.enterNl s x1 x2) := by
  unfold State.enterNl
  extract_lets v1 v2 v3 v4 v5 v6
  have k7 : Keeps m i p a v2 := (State.showPhases_keeps (State.activateShed_keeps (State.restoreShed_keeps h)))
  clear_value v2
  have k8 : Keeps m i p a v3 := (State.updLoop_keeps k7)
  clear_value v3
  have k9 : Keeps m i p a v4 := (keeps_foldl (fun _ _ g10 => (State.updPhase_keeps g10)) k8)
  clear_value v4
  have k11 : Keeps m i p a v5 := (State.setF_keeps k9)
  clear_value v5
  have k12 : Keeps m i p a v6 := (keeps_ite (State.count_keeps k11) (State.count_keeps k11))
  clear_value v6
  exact (State.arm_keeps k12)

theorem execNlEntry_keeps {x0 x1} (h : Keeps m i p a s) (ht : (execNlEntry x0 x1 s) = .next t) : Keeps m i p a t := by
  obtain rfl := Host.Outcome.next.inj ht
  extract_lets v1
  exact (keeps_ite (keeps_ite (State.enterNl_keeps h) (keeps_ite (State.enterNl_keeps h) h)) h)

theorem execNlExit_keeps {x0 x2} (h : Keeps m i p a s) (ht : (execNlExit x0 s x2) = .next t) : Keeps m i p a t := by
  obtain rfl := Host.Outcome.next.inj ht
  extract_lets v1 v2
  refine keeps_ite ?_ ?_
  · exact (State.endNl_keeps h)
  · split
    · rename_i u3 u4 u5
      have k6 := State.expire_keeps h u5
      exact (State.endNl_keeps k6)
    · rename_i u7 u8
      exact h

theorem execPhaseShed_keeps {x0} (h : Keeps m i p a s) (ht : (execPhaseShed x0 s) = .next t) : Keeps m i p a t := by
  obtain rfl := Host.Outcome.next.inj ht
  refine keeps_ite ?_ ?_
  · split
    · rename_i u1 u2 u3 u4 u5 u6
      have k7 := State.expire_keeps h u5
      extract_lets v8 v9 v10
      refine State.showPhases_keeps ?_
      refine State.surveyAbandon_keeps ?_
      unfold v10
      refine State.updLoop_keeps ?_
      unfold v9
      refine State.updPhase_keeps ?_
      unfold v8
      exact (State.setF_keeps (State.setF_keeps k7))
    · rename_i u14 u15 u16
      exact h
  · exact h

theorem execRespacing_keeps {x0} (h : Keeps m i p a s) (ht : (execRespacing x0 s) = .next t) : Keeps m i p a t := by
  obtain rfl := Host.Outcome.next.inj ht
  exact (keeps_ite (State.respace_keeps h) h)

theorem execLockTake_keeps {x0 x1} (h : Keeps m i p a s) (ht : (execLockTake x0 x1 s) = .next t)
    : Keeps m i p a t := by
  obtain rfl := Host.Outcome.next.inj ht
  exact (State.takeLock_keeps h)

theorem execLockRelease_keeps {x0 x1} (h : Keeps m i p a s) (ht : (execLockRelease x0 x1 s) = .next t)
    : Keeps m i p a t := by
  obtain rfl := Host.Outcome.next.inj ht
  exact (State.releaseLock_keeps h)

theorem execLockTimeout_keeps {x0} (h : Keeps m i p a s) (ht : (execLockTimeout x0 s) = .next t)
    : Keeps m i p a t := by
  obtain rfl := Host.Outcome.next.inj ht
  split
  · rename_i u1 u2 u3
    have k4 := State.expire_keeps h u3
    exact (State.freeLock_keeps k4)
  · rename_i u5 u6
    exact h

theorem execSyncInLost_keeps (h : Keeps m i p a s) (ht : (execSyncInLost s) = .next t) : Keeps m i p a t := by
  obtain rfl := Host.Outcome.next.inj ht
  exact (keeps_ite (State.event_keeps (State.setB_keeps (State.setB_keeps h))) h)

theorem execSyncInEdge_keeps {x0} (h : Keeps m i p a s) (ht : (execSyncInEdge x0 s) = .next t) : Keeps m i p a t := by
  obtain rfl := Host.Outcome.next.inj ht
  extract_lets v1 v2 v3
  have k4 : Keeps m i p a v3 := (State.setB_keeps (State.setF_keeps h))
  clear_value v3
  exact (keeps_ite (keeps_foldl (fun _ _ g5 => (State.reposition_keeps g5)) k4) h)

theorem execPhasePosLimit_keeps {x0 x2} (h : Keeps m i p a s) (ht : (execPhasePosLimit x0 s x2) = .next t)
    : Keeps m i p a t := by
  obtain rfl := Host.Outcome.next.inj ht
  extract_lets v1
  have k2 : Keeps m i p a v1 := (keeps_ite (State.arm_keeps h) (State.updPhase_keeps h))
  clear_value v1
  exact (keeps_ite (State.count_keeps (State.updPhase_keeps k2)) h)

theorem execPhaseNegLimit_keeps {x0 x2} (h : Keeps m i p a s) (ht : (execPhaseNegLimit x0 s x2) = .next t)
    : Keeps m i p a t := by
  obtain rfl := Host.Outcome.next.inj ht
  extract_lets v1
  exact (keeps_ite h (keeps_ite (State.count_keeps (State.updPhase_keeps h)) (keeps_ite (State.updPhase_keeps h) h)))

theorem State.phaseLoss_keeps {x1 x2} (h : Keeps m i p a s) : Keeps m i p a (State.phaseLoss s x1 x2) := by
  unfold State.phaseLoss
  extract_lets v1 v2
  have k3 : Keeps m i p a v2 := (State.losePhase_keeps h)
  clear_value v2
  exact (keeps_ite (keeps_ite (State.enterFault_keeps k3) k3) h)

theorem execPhaseOpen_keeps {x0} (h : Keeps m i p a s) (ht : (execPhaseOpen x0 s) = .next t) : Keeps m i p a t := by
  obtain rfl := Host.Outcome.next.inj ht
  exact (keeps_ite (State.phaseLoss_keeps h) h)

theorem execPhaseStageFault_keeps {x0 x2 x3} (h : Keeps m i p a s)
    (ht : (execPhaseStageFault x0 s x2 x3) = .next t) : Keeps m i p a t := by
  obtain rfl := Host.Outcome.next.inj ht
  extract_lets v1
  have k2 : Keeps m i p a v1 := (State.setB_keeps h)
  clear_value v1
  exact (keeps_ite (keeps_ite (State.phaseLoss_keeps k2) k2) h)

theorem execStageBlankEnd_keeps {x0 x1} (h : Keeps m i p a s) (ht : (execStageBlankEnd x0 x1 s) = .next t)
    : Keeps m i p a t := by
  obtain rfl := Host.Outcome.next.inj ht
  split
  · rename_i u1 u2 u3
    have k4 := State.expire_keeps h u3
    extract_lets v5 v6
    refine keeps_ite ?_ ?_
    · refine State.phaseLoss_keeps ?_
      unfold v6
      exact (State.setB_keeps (State.setB_keeps k4))
    · unfold v6
      exact (State.setB_keeps (State.setB_keeps k4))
  · rename_i u8 u9
    exact h

theorem execPhaseHot_keeps {x0} (h : Keeps m i p a s) (ht : (execPhaseHot x0 s) = .next t) : Keeps m i p a t := by
  obtain rfl := Host.Outcome.next.inj ht
  exact (keeps_ite (State.phaseLoss_keeps h) h)

theorem execPhaseTempWarning_keeps {x0} (h : Keeps m i p a s) (ht : (execPhaseTempWarning x0 s) = .next t)
    : Keeps m i p a t := by
  obtain rfl := Host.Outcome.next.inj ht
  extract_lets v1
  have k2 : Keeps m i p a v1 := (State.pmStat_keeps h)
  clear_value v1
  exact (keeps_ite (State.traceRec_keeps (State.raise_keeps (State.setB_keeps k2))) h)

theorem execPhaseTempWarningEnd_keeps {x0} (h : Keeps m i p a s) (ht : (execPhaseTempWarningEnd x0 s) = .next t)
    : Keeps m i p a t := by
  obtain rfl := Host.Outcome.next.inj ht
  exact (keeps_ite (State.setB_keeps h) h)

theorem execTmfReading_keeps {x0 x1} (h : Keeps m i p a s) (ht : (execTmfReading x0 x1 s) = .next t)
    : Keeps m i p a t := by
  obtain rfl := Host.Outcome.next.inj ht
  extract_lets v1 v2 v3 v4 v5 v6
  have k7 : Keeps m i p a v2 := (State.setI_keeps h)
  clear_value v2
  have k8 : Keeps m i p a v3 := (keeps_ite (State.setI_keeps k7) k7)
  clear_value v3
  exact (keeps_ite (State.updPhase_keeps k8) h)

theorem execSenseSuspectRange_keeps {x0} (h : Keeps m i p a s) (ht : (execSenseSuspectRange x0 s) = .next t)
    : Keeps m i p a t := by
  obtain rfl := Host.Outcome.next.inj ht
  exact (keeps_ite (State.raise_keeps (State.suspectPhase_keeps h)) h)

theorem execSenseSuspectFlux_keeps {x0} (h : Keeps m i p a s) (ht : (execSenseSuspectFlux x0 s) = .next t)
    : Keeps m i p a t := by
  obtain rfl := Host.Outcome.next.inj ht
  exact (keeps_ite (State.raise_keeps (State.suspectPhase_keeps h)) h)

theorem execIsnsRefFail_keeps {x0} (h : Keeps m i p a s) (ht : (execIsnsRefFail x0 s) = .next t)
    : Keeps m i p a t := by
  obtain rfl := Host.Outcome.next.inj ht
  extract_lets v1 v2 v3
  have k4 : Keeps m i p a v1 := (State.setF_keeps h)
  clear_value v1
  have k5 : Keeps m i p a v3 := (keeps_foldl (fun _ _ g6 => (State.suspectPhase_keeps g6)) k4)
  clear_value v3
  exact (keeps_ite k4 (State.raise_keeps (State.setB_keeps k5)))

theorem execSwitchingCycleEnd_keeps {x0 x1} (h : Keeps m i p a s) (ht : (execSwitchingCycleEnd x0 x1 s) = .next t)
    : Keeps m i p a t := by
  obtain rfl := Host.Outcome.next.inj ht
  exact (State.cycleEnd_keeps h)

theorem execPllpUnlock_keeps (h : Keeps m i p a s) (ht : (execPllpUnlock s) = .next t) : Keeps m i p a t := by
  obtain rfl := Host.Outcome.next.inj ht
  extract_lets v1 v2 v3 v4
  have k5 : Keeps m i p a v2 := (keeps_mk h (eH := SysState.phase_mk) (eG := SysState.stage_mk))
  clear_value v2
  have k6 : Keeps m i p a v3 := (State.setB_keeps (State.showLocked_keeps k5))
  clear_value v3
  have k7 : Keeps m i p a v4 := (keeps_foldl (fun _ _ g8 => (State.updLoop_keeps g8)) k6)
  clear_value v4
  exact (keeps_ite (State.raise_keeps (State.arm_keeps k7)) h)

theorem State.restartLoop_keeps {x1} (h : Keeps m i p a s) : Keeps m i p a (State.restartLoop s x1) := by
  unfold State.restartLoop
  extract_lets v1 v2 v3 v4 v5 v6
  have k7 : Keeps m i p a v4 := (State.updLoop_keeps h)
  clear_value v4
  have k8 : Keeps m i p a v5 := (State.setRef_keeps k7)
  clear_value v5
  have k9 : Keeps m i p a v6 := (keeps_ite k8 (State.updLoop_keeps k8))
  clear_value v6
  exact (keeps_ite (State.updateDe_keeps (State.setF_keeps k8)) (State.updateDe_keeps (State.disarm_keeps
      (State.setB_keeps (State.setF_keeps k9)))))

theorem execPllpRelock_keeps (h : Keeps m i p a s) (ht : (execPllpRelock s) = .next t) : Keeps m i p a t := by
  obtain rfl := Host.Outcome.next.inj ht
  extract_lets v1 v2 v3 v4 v5
  have k6 : Keeps m i p a v2 := (State.showLocked_keeps (keeps_mk h (eH := SysState.phase_mk) (eG :=
      SysState.stage_mk)))
  clear_value v2
  have k7 : Keeps m i p a v4 := (State.disarm_keeps k6)
  clear_value v4
  exact (keeps_ite (keeps_ite (keeps_foldl (fun _ _ g8 => (State.enterFault_keeps g8)) k7) (keeps_foldl (fun _ _ g9
      => (State.restartLoop_keeps g9)) k7)) h)

theorem execPllpUnlockTimeout_keeps (h : Keeps m i p a s) (ht : (execPllpUnlockTimeout s) = .next t)
    : Keeps m i p a t := by
  obtain rfl := Host.Outcome.next.inj ht
  split
  · rename_i u1 u2 u3
    have k4 := State.expire_keeps h u3
    exact (keeps_foldl (fun _ _ g5 => (State.enterFault_keeps g5)) k4)
  · rename_i u6 u7
    exact h

/-! ## Fault -/

theorem State.fltRecord_keeps {x1 x2 x3} (h : Keeps m i p a s) : Keeps m i p a (State.fltRecord s x1 x2 x3) := by
  unfold State.fltRecord
  exact (State.traceRec_keeps h)

theorem State.stopGrace_keeps {x1} (h : Keeps m i p a s) : Keeps m i p a (State.stopGrace s x1) := by
  unfold State.stopGrace
  exact (State.setBitAt_keeps (State.disarm_keeps h))

theorem State.ackFault_keeps {x1} (h : Keeps m i p a s) : Keeps m i p a (State.ackFault s x1) := by
  unfold State.ackFault
  exact (keeps_ite (State.fltRecord_keeps (State.stopGrace_keeps h)) (keeps_ite (State.fltRecord_keeps
      (State.setB_keeps h)) h))

theorem State.busAck_keeps {x1} (h : Keeps m i p a s) : Keeps m i p a (State.busAck s x1) := by
  unfold State.busAck
  refine State.busSend_keeps ?_ ?_
  · exact h
  · intro w1 w2 w3 k4 w5
    cases w5
    exact (keeps_foldl (fun _ _ g6 => (State.ackFault_keeps g6)) k4)

theorem execFaultAck_keeps {x0 x1 x3} (h : Keeps m i p a s) (ht : (execFaultAck x0 x1 s x3) = .next t)
    : Keeps m i p a t := by
  obtain rfl := Host.Outcome.next.inj ht
  refine sentAs_keeps ?_ ?_
  · exact (keeps_ite (State.hostWrite_keeps (State.ackFault_keeps h)) (State.denied_keeps h))
  · intro w1
    exact (State.busAck_keeps h)

theorem State.clearFault_keeps {x1} (h : Keeps m i p a s) : Keeps m i p a (State.clearFault s x1) := by
  unfold State.clearFault
  extract_lets v1 v2
  have k3 : Keeps m i p a v1 := (State.fltRecord_keeps (State.setBitAt_keeps h))
  clear_value v1
  exact (keeps_ite (keeps_ite (keeps_mk k3) k3) h)

theorem execFaultClear_keeps {x0 x1} (h : Keeps m i p a s) (ht : (execFaultClear x0 x1 s) = .next t)
    : Keeps m i p a t := by
  obtain rfl := Host.Outcome.next.inj ht
  exact (keeps_ite (State.hostWrite_keeps (State.clearFault_keeps h)) (State.denied_keeps h))

theorem State.injectFault_keeps {x1} (h : Keeps m i p a s) : Keeps m i p a (State.injectFault s x1) := by
  unfold State.injectFault
  exact (keeps_ite (State.raiseWith_keeps h) (State.setB_keeps h))

theorem execFaultInject_keeps {x0 x1} (h : Keeps m i p a s) (ht : (execFaultInject x0 x1 s) = .next t)
    : Keeps m i p a t := by
  obtain rfl := Host.Outcome.next.inj ht
  exact (keeps_ite (State.hostWrite_keeps (State.injectFault_keeps h)) (State.denied_keeps h))

theorem State.traceTrigger_keeps (h : Keeps m i p a s) : Keeps m i p a (State.traceTrigger s) := by
  unfold State.traceTrigger
  extract_lets v1
  exact (keeps_ite (keeps_ite (State.setB_keeps h) (keeps_mk h)) h)

theorem State.latchSafe_keeps {x1} (h : Keeps m i p a s) : Keeps m i p a (State.latchSafe s x1) := by
  unfold State.latchSafe
  extract_lets v1 v2
  have k3 : Keeps m i p a v2 := (keeps_mk h (eH := SysState.phase_mk) (eG := SysState.stage_mk))
  clear_value v2
  exact (State.setF_keeps (State.setB_keeps k3))

theorem State.dryAbandon_keeps (h : Keeps m i p a s) : Keeps m i p a (State.dryAbandon s) := by
  unfold State.dryAbandon
  split
  · exact h
  · extract_lets v1 v2
    have k1 : Keeps m i p a v1 := keeps_ite (State.dropRecord_keeps h) h
    clear_value v1
    have k2 : Keeps m i p a v2 := keeps_ite (keeps_foldl (fun _ _ k => State.returnConv_keeps k) k1) k1
    clear_value v2
    exact State.showBist_keeps (keeps_mk (State.updBist_keeps k2))

theorem State.safeEntry_keeps {x1} (h : Keeps m i false a s) : Keeps m i false a (State.safeEntry s x1) := by
  unfold State.safeEntry
  extract_lets v1 v2 v3 v4 v5 v6
  have k7 : Keeps m i false a v1 := (State.latchSafe_keeps (State.endDrain_keeps (State.dryAbandon_keeps h)))
  clear_value v1
  have k8 : Keeps m i false a v3 := (keeps_mkP k7)
  clear_value v3
  have k9 : Keeps m i false a v4 := (State.setF_keeps (State.setB_keeps (State.setF_keeps k8)))
  clear_value v4
  have k10 : Keeps m i false a v5 := (State.pathSafe_keeps (State.supSafe_keeps (State.seqSafe_keeps k9)))
  clear_value v5
  have k11 : Keeps m i false a v6 := (keeps_foldl (fun _ _ g12 => (State.freeLock_keeps g12)) k10)
  clear_value v6
  exact (State.requestCommit_keeps (State.placeSnaps_keeps (State.traceTrigger_keeps (State.snapRequest_keeps k11))))

theorem State.escRecord_keeps {x1} (h : Keeps m i p a s) : Keeps m i p a (State.escRecord s x1) := by
  unfold State.escRecord
  extract_lets v1 v2 v3
  have k4 : Keeps m i p a v2 := (State.setF_keeps (State.setB_keeps (State.fltRecord_keeps h)))
  clear_value v2
  exact (State.queueLog_keeps (State.event_keeps k4))

theorem State.escalate_keeps {x1} (h : Keeps m i false a s) : Keeps m i false a (State.escalate s x1) := by
  unfold State.escalate
  extract_lets v1 v2 v3 v4 v5 v6
  have k7 : Keeps m i false a v2 := by
    unfold v2
    refine keeps_foldl (fun w10 x11 k12 => ?_) ?_
    · extract_lets v13 v14
      have k15 : Keeps m i false a v13 := (State.stopGrace_keeps k12)
      clear_value v13
      exact (keeps_mk k15)
    · exact h
  clear_value v2
  have k16 : Keeps m i false a v4 := (keeps_mk k7)
  clear_value v4
  have k17 : Keeps m i false a v5 := (keeps_foldl (fun _ _ g18 => (State.escRecord_keeps g18)) k16)
  clear_value v5
  generalize v6 = v6z
  split
  · rename_i u19 u20 u21
    exact (keeps_ite k17 (State.safeEntry_keeps (State.setF_keeps k17)))
  · rename_i u22
    exact (keeps_ite (State.systemReset_keeps k17) (keeps_foldl (fun _ _ g23 => (State.groupShutdown_keeps g23)) k17))

theorem execGraceExpiry_keeps {x0} (h : Keeps m i false a s) (ht : (execGraceExpiry x0 s) = .next t)
    : Keeps m i false a t := by
  obtain rfl := Host.Outcome.next.inj ht
  split
  · rename_i u1 u2
    exact h
  · rename_i u3 u4 u5
    exact (State.rstoRefresh_keeps (State.escalate_keeps (State.notBefore_keeps h)))

theorem execImmediateEscalation_keeps {x0} (h : Keeps m i false a s)
    (ht : (execImmediateEscalation x0 s) = .next t) : Keeps m i false a t := by
  obtain rfl := Host.Outcome.next.inj ht
  exact (keeps_ite (State.rstoRefresh_keeps (State.escalate_keeps h)) h)

theorem State.fltStart_keeps (h : Keeps m i p a s) : Keeps m i p a (State.fltStart s) := by
  unfold State.fltStart
  exact (keeps_foldl (fun _ _ g1 => (keeps_ite (State.startGrace_keeps g1) g1)) h)

theorem State.restart_keeps (h : Keeps m i p a s) : Keeps m i p a (State.restart s) := by
  unfold State.restart
  exact (keeps_ite (State.requestCommit_keeps (State.beginDrain_keeps (State.queueLog_keeps h))) h)

theorem State.busRestart_keeps {x1} (h : Keeps m i p a s) : Keeps m i p a (State.busRestart s x1) := by
  unfold State.busRestart
  refine State.busSend_keeps ?_ ?_
  · exact h
  · intro w1 w2 w3 k4 w5
    split at w5
    · cases w5
      exact (State.restart_keeps k4)
    · cases w5

theorem execRestartCommand_keeps {x0 x2} (h : Keeps m i p a s) (ht : (execRestartCommand x0 s x2) = .next t)
    : Keeps m i p a t := by
  obtain rfl := Host.Outcome.next.inj ht
  refine sentAs_keeps ?_ ?_
  · split
    · rename_i u1 u2
      exact h
    · rename_i u3 u4
      exact (keeps_ite (State.hostWrite_keeps (State.restart_keeps h)) (State.denied_keeps h))
  · intro w5
    exact (State.busRestart_keeps h)

theorem execDieTempWarning_keeps (h : Keeps m i p a s) (ht : (execDieTempWarning s) = .next t) : Keeps m i p a t := by
  obtain rfl := Host.Outcome.next.inj ht
  extract_lets v1
  exact (keeps_ite (State.raise_keeps (keeps_mk h)) h)

theorem execDieTempCool_keeps (h : Keeps m i p a s) (ht : (execDieTempCool s) = .next t) : Keeps m i p a t := by
  obtain rfl := Host.Outcome.next.inj ht
  extract_lets v1
  exact (keeps_mk h)

theorem execDieTempShutdown_keeps (h : Keeps m i p a s) (ht : (execDieTempShutdown s) = .next t)
    : Keeps m i p a t := by
  obtain rfl := Host.Outcome.next.inj ht
  exact (keeps_ite (State.raise_keeps h) h)

/-! ## Fabric -/

theorem State.updTile_keeps {x1 x2} (h : Keeps m i p a s) : Keeps m i p a (State.updTile s x1 x2) := by
  unfold State.updTile
  exact (State.updAcrd_keeps h)

theorem State.showFrozen_keeps (h : Keeps m i p a s) : Keeps m i p a (State.showFrozen s) := by
  unfold State.showFrozen
  extract_lets v1 v2 v3
  have k4 : Keeps m i p a v2 := (State.setB_keeps (State.setF_keeps h))
  clear_value v2
  exact (State.setPair_keeps k4)

theorem State.lineEdge_keeps {x1} (h : Keeps m i p a s) : Keeps m i p a (State.lineEdge s x1) := by
  unfold State.lineEdge
  extract_lets v1
  exact (keeps_ite h (keeps_ite (keeps_ite h (State.groupShutdown_keeps h)) (keeps_ite (State.fabricUrgent_keeps h)
      (keeps_ite (State.traceRec_keeps (State.raise_keeps h)) (keeps_ite h (keeps_ite (keeps_ite h
          (State.setpoint_keeps h)) (keeps_ite (State.event_keeps h) (keeps_ite (State.snapRequest_keeps h) h))))))))

theorem State.stirTile_keeps {x1} (h : Keeps m i p a s) : Keeps m i p a (State.stirTile s x1) := by
  unfold State.stirTile
  extract_lets v1
  have k2 : Keeps m i p a v1.2 := (State.takeFree_keeps h)
  clear_value v1
  exact (State.updTile_keeps k2)

theorem State.driveLine_keeps {x1 x2} (h : Keeps m i p a s) : Keeps m i p a (State.driveLine s x1 x2) := by
  unfold State.driveLine
  extract_lets v1 v2
  have k3 : Keeps m i p a v2 := (State.updAcrd_keeps h)
  clear_value v2
  exact (keeps_ite (State.updAcrd_keeps h) (keeps_ite (State.lineEdge_keeps k3) k3))

theorem State.safeLines_keeps {x1} (h : Keeps m i p a s) : Keeps m i p a (State.safeLines s x1) := by
  unfold State.safeLines
  exact (State.rstoRefresh_keeps (keeps_foldl (fun _ _ g1 => (State.driveLine_keeps g1)) h))

theorem State.releaseLines_keeps (h : Keeps m i p a s) : Keeps m i p a (State.releaseLines s) := by
  unfold State.releaseLines
  extract_lets v1 v2 v3
  have k4 : Keeps m i p a v3 := (State.updAcrd_keeps h)
  clear_value v3
  exact (keeps_foldl (fun _ _ g5 => (keeps_ite (State.lineEdge_keeps g5) g5)) k4)

theorem execCellUpset_keeps {x0 x1} (h : Keeps m i p a s) (ht : (execCellUpset x0 x1 s) = .next t)
    : Keeps m i p a t := by
  obtain rfl := Host.Outcome.next.inj ht
  exact (keeps_ite (State.updTile_keeps h) h)

theorem State.scrubLast_keeps {x1 x2 x3} (h : Keeps m i p a s) : Keeps m i p a (State.scrubLast s x1 x2 x3) := by
  unfold State.scrubLast
  exact (State.setF_keeps (State.setF_keeps (State.setB_keeps h)))

theorem State.freezeTile_keeps {x1 x2} (h : Keeps m i p a s) : Keeps m i p a (State.freezeTile s x1 x2) := by
  unfold State.freezeTile
  extract_lets v1
  have k2 : Keeps m i p a v1 := (State.safeLines_keeps (State.showFrozen_keeps (State.updTile_keeps h)))
  clear_value v1
  exact (State.raise_keeps (State.event_keeps (State.traceRec_keeps (State.scrubLast_keeps k2))))

theorem execScrubFrameRead_keeps {x0 x1} (h : Keeps m i p a s) (ht : (execScrubFrameRead x0 x1 s) = .next t)
    : Keeps m i p a t := by
  obtain rfl := Host.Outcome.next.inj ht
  extract_lets v1 v2 v3 v4
  have k5 : Keeps m i p a v3 := (State.updTile_keeps h)
  clear_value v3
  have k6 : Keeps m i p a v4 := (State.count_keeps k5)
  clear_value v4
  refine keeps_ite ?_ ?_
  · generalize v2 = v2z
    split
    · rename_i u7
      exact h
    · rename_i u8 u9
      exact (State.event_keeps (State.traceRec_keeps (State.scrubLast_keeps k6)))
    · rename_i u10 u11 u12
      exact (State.freezeTile_keeps h)
  · exact h

theorem State.tileReload_keeps {x1} (h : Keeps m i p a s) : Keeps m i p a (State.tileReload s x1) := by
  unfold State.tileReload
  extract_lets v1 v2
  have k3 : Keeps m i p a v2 := (State.setB_keeps (State.setF_keeps h))
  clear_value v2
  exact (keeps_ite (State.arm_keeps (State.updAcrd_keeps k3)) h)

theorem execTileReloadRequest_keeps {x0 x1} (h : Keeps m i p a s) (ht : (execTileReloadRequest x0 x1 s) = .next t)
    : Keeps m i p a t := by
  obtain rfl := Host.Outcome.next.inj ht
  exact (keeps_ite (State.hostWrite_keeps (State.tileReload_keeps h)) (State.denied_keeps h))

theorem execTileReloadDone_keeps (h : Keeps m i p a s) (ht : (execTileReloadDone s) = .next t) : Keeps m i p a t := by
  obtain rfl := Host.Outcome.next.inj ht
  split
  · rename_i u1 u2
    exact h
  · rename_i u3 u4 u5
    split
    · rename_i u6 u7
      exact h
    · rename_i u8 u9 u10
      have k11 := State.expire_keeps h u10
      extract_lets v12
      refine keeps_ite ?_ ?_
      · refine State.showFrozen_keeps ?_
        refine State.updTile_keeps ?_
        unfold v12
        exact (State.setB_keeps (State.updAcrd_keeps k11))
      · refine State.raise_keeps ?_
        refine State.setB_keeps ?_
        unfold v12
        exact (State.setB_keeps (State.updAcrd_keeps k11))

theorem execTileTimerExpiry_keeps {x0 x1} (h : Keeps m i p a s) (ht : (execTileTimerExpiry x0 x1 s) = .next t)
    : Keeps m i p a t := by
  obtain rfl := Host.Outcome.next.inj ht
  exact (keeps_ite (State.stirTile_keeps (State.updTile_keeps h)) h)

theorem State.freshTiles_keeps (h : Keeps m i p a s) : Keeps m i p a (State.freshTiles s) := by
  unfold State.freshTiles
  extract_lets v1
  have k2 : Keeps m i p a v1 := (State.updAcrd_keeps h)
  clear_value v1
  exact (State.showFrozen_keeps (State.disarm_keeps (State.setB_keeps k2)))

theorem State.line_keeps {x1 x2} (h : Keeps m i p a s) : Keeps m i p a (State.line s x1 x2) := by
  unfold State.line
  split
  · rename_i u1 u2
    exact h
  · rename_i u3 u4 u5
    exact (keeps_ite (State.driveLine_keeps (State.stirTile_keeps h)) h)

theorem execFabricTermChange_keeps {x0 x1} (h : Keeps m i p a s) (ht : (execFabricTermChange x0 x1 s) = .next t)
    : Keeps m i p a t := by
  obtain rfl := Host.Outcome.next.inj ht
  exact (State.line_keeps h)

theorem execFabricGroupShutdown_keeps {x0 x1} (h : Keeps m i p a s)
    (ht : (execFabricGroupShutdown x0 x1 s) = .next t) : Keeps m i p a t := by
  obtain rfl := Host.Outcome.next.inj ht
  exact (State.rstoRefresh_keeps (State.line_keeps h))

theorem execFabricUrgentRequest_keeps {x0 x1} (h : Keeps m i p a s)
    (ht : (execFabricUrgentRequest x0 x1 s) = .next t) : Keeps m i p a t := by
  obtain rfl := Host.Outcome.next.inj ht
  exact (State.line_keeps h)

theorem execFabricFs63Raise_keeps {x0 x1} (h : Keeps m i p a s) (ht : (execFabricFs63Raise x0 x1 s) = .next t)
    : Keeps m i p a t := by
  obtain rfl := Host.Outcome.next.inj ht
  exact (State.line_keeps h)

theorem execFabricGpLevel_keeps {x0 x1} (h : Keeps m i p a s) (ht : (execFabricGpLevel x0 x1 s) = .next t)
    : Keeps m i p a t := by
  obtain rfl := Host.Outcome.next.inj ht
  exact (State.line_keeps h)

theorem execFabricRstoAssert_keeps {x0 x1} (h : Keeps m i p a s) (ht : (execFabricRstoAssert x0 x1 s) = .next t)
    : Keeps m i p a t := by
  obtain rfl := Host.Outcome.next.inj ht
  exact (State.rstoRefresh_keeps (State.line_keeps h))

theorem execFabricSetpointCommand_keeps {x0 x1} (h : Keeps m i p a s)
    (ht : (execFabricSetpointCommand x0 x1 s) = .next t) : Keeps m i p a t := by
  obtain rfl := Host.Outcome.next.inj ht
  exact (State.line_keeps h)

theorem execFabricEventRaise_keeps {x0 x1} (h : Keeps m i p a s) (ht : (execFabricEventRaise x0 x1 s) = .next t)
    : Keeps m i p a t := by
  obtain rfl := Host.Outcome.next.inj ht
  exact (State.line_keeps h)

theorem execFabricSnapshotRequest_keeps {x0} (h : Keeps m i p a s)
    (ht : (execFabricSnapshotRequest x0 s) = .next t) : Keeps m i p a t := by
  obtain rfl := Host.Outcome.next.inj ht
  exact (State.line_keeps h)

theorem State.clearConfig_keeps (h : Keeps m i p a s) : Keeps m i p a (State.clearConfig s) := by
  unfold State.clearConfig
  refine keeps_foldl (fun w2 x3 k4 => ?_) ?_
  · extract_lets v5
    exact (State.setReg_keeps k4)
  · exact h

theorem State.newConfig_keeps {x1} (h : Keeps m false p a s) : Keeps m false p a (State.newConfig s x1) := by
  unfold State.newConfig
  extract_lets v1 v2
  have k3 : Keeps m false p a v1 := (State.loadRegs_keeps (State.clearConfig_keeps h))
  clear_value v1
  have k4 : Keeps m false p a v2 := (State.updAcrd_keepsI k3)
  clear_value v2
  exact (State.setB_keeps (State.applyParams_keeps (State.loadPeriod_keeps k4)))

theorem State.deferLoops_keeps {x0} (h : Keeps m i p a s) : Keeps m i p a (State.deferLoops x0 s) := by
  unfold State.deferLoops
  extract_lets v1
  have k2 : Keeps m i p a v1 := (keeps_foldl (fun _ _ g3 => (State.updLoop_keeps g3)) h)
  clear_value v1
  refine keeps_foldl (fun w5 x6 k7 => ?_) ?_
  · extract_lets v8
    exact (keeps_ite k7 (State.updLoop_keeps (State.setReg_keeps k7)))
  · exact k2

theorem State.measChanged_keeps {x0} (h : Keeps m i p a s) : Keeps m i p a (State.measChanged x0 s) := by
  unfold State.measChanged
  extract_lets v1
  have k2 : Keeps m i p a v1 := (keeps_foldl (fun _ _ g3 => (keeps_ite g3 (State.scaleChange_keeps g3))) h)
  clear_value v1
  exact (State.measSwitch_keeps (keeps_ite k2 (State.emptyQueue_keeps k2)))

theorem State.switchKeep_keeps {x1} (h : Keeps m false p a s) : Keeps m false p a (State.switchKeep s x1) := by
  unfold State.switchKeep
  extract_lets v1 v2 v3 v4
  have k5 : Keeps m false p a v1 := (State.newConfig_keeps h)
  clear_value v1
  have k6 : Keeps m false p a v2 := (keeps_foldl (fun _ _ g7 => (keeps_ite g7 (State.updLoop_keeps g7))) k5)
  clear_value v2
  have k8 : Keeps m false p a v3 := (State.deferLoops_keeps k6)
  clear_value v3
  have k9 : Keeps m false p a v4 := (keeps_foldl (fun _ _ g10 => (keeps_ite g10 (State.chatFresh_keeps g10))) k8)
  clear_value v4
  exact (State.supFollow_keeps (State.showCaps_keeps (State.chgFollow_keeps (State.showRanks_keeps
      (State.measChanged_keeps k9)))))

theorem State.switchFresh_keeps {x1} (h : Keeps m false p a s) : Keeps m false p a (State.switchFresh s x1) := by
  unfold State.switchFresh
  extract_lets v1 v2 v3 v4 v5 v6 v7 v8 v9 v10 v11 v12 v13 v14 v15 v16
  have k17 : Keeps m false p a v1 := h
  clear_value v1
  have k18 : Keeps m false p a v2 := (keeps_foldl (fun _ _ g19 => (State.freeLock_keeps g19)) h)
  clear_value v2
  have k20 : Keeps m false p a v3 := (keeps_foldl (fun _ _ g21 => (keeps_foldl (fun _ _ g22 => (State.disarm_keeps
      g22)) g21)) k18)
  clear_value v3
  have k23 : Keeps m false p a v5 := (keeps_foldl (fun _ _ g24 => (State.updPhase_keeps (State.disarm_keeps
      (State.disarm_keeps g24)))) k20)
  clear_value v5
  have k25 : Keeps m false p a v6 := (keeps_mk k23)
  clear_value v6
  have k26 : Keeps m false p a v7 := (State.disarm_keeps (State.idleGroups_keeps k25))
  clear_value v7
  have k27 : Keeps m false p a v8 := (State.resetRegs_keeps k26)
  clear_value v8
  have k28 : Keeps m false p a v9 := (keeps_foldl (fun _ _ g29 => (State.setReg_keeps (State.setReg_keeps g29))) k27)
  clear_value v9
  have k30 : Keeps m false p a v10 := (State.setReg_keeps (keeps_foldl (fun _ _ g31 => (State.setReg_keeps g31)) k28))
  clear_value v10
  have k32 : Keeps m false p a v11 := (State.newConfig_keeps k30)
  clear_value v11
  have k33 : Keeps m false p a v12 := (State.loadRegs_keeps k32)
  clear_value v12
  have k34 : Keeps m false p a v13 := (State.loadLoops_keeps (State.applyParams_keeps k33))
  clear_value v13
  have k35 : Keeps m false p a v14 := (keeps_foldl (fun _ _ g36 => (State.setB_keeps g36)) k34)
  clear_value v14
  have k37 : Keeps m false p a v15 := (State.updSeq_keeps (State.showRanks_keeps (State.gpsInactive_keeps k35)))
  clear_value v15
  exact (State.supFollow_keeps (State.showCaps_keeps (State.chgFollow_keeps (State.measChanged_keeps (keeps_mk
      k37)))))

theorem State.switchRecord_keeps {x1 x2 x3} (h : Keeps m i p a s) : Keeps m i p a (State.switchRecord s x1 x2 x3)
    := by
  unfold State.switchRecord
  exact (State.event_keeps (State.traceRec_keeps h))

theorem State.dropVerify_keeps (h : Keeps m i p a s) : Keeps m i p a (State.dropVerify s) := by
  unfold State.dropVerify
  exact (State.disarm_keeps (State.updAcrd_keeps h))

theorem State.switchBegin_keeps {x1} (h : Keeps m false p a s) : Keeps m false p a (State.switchBegin s x1) := by
  unfold State.switchBegin
  extract_lets v1 v2 v3 v4 v5
  have k6 : Keeps m false p a v2 := (State.updAcrd_keeps (State.dropVerify_keeps h))
  clear_value v2
  have k7 : Keeps m false p a v3 := (State.setF_keeps (State.setB_keeps k6))
  clear_value v3
  have k8 : Keeps m false p a v4 := (keeps_ite (State.switchKeep_keeps k7) (State.switchFresh_keeps k7))
  clear_value v4
  have k9 : Keeps m false p a v5 := (State.updAcrd_keeps (State.freshTiles_keeps k8))
  clear_value v5
  exact (State.showBist_keeps (State.arm_keeps (State.switchRecord_keeps k9)))

theorem execScheduledSwitch_keeps (h : Keeps m false p a s) (ht : (execScheduledSwitch s) = .next t)
    : Keeps m false p a t := by
  obtain rfl := Host.Outcome.next.inj ht
  refine keeps_ite ?_ ?_
  · split
    · rename_i u1 u2
      exact h
    · rename_i u3 u4 u5
      exact (State.switchBegin_keeps (State.notBefore_keeps h))
  · exact h

theorem State.takeEpoch_keeps (h : Keeps m i p a s) : Keeps m i p a (State.takeEpoch s) := by
  unfold State.takeEpoch
  extract_lets v1 v2 v3
  have k4 : Keeps m i p a v1 := (State.setReg_keeps h)
  clear_value v1
  have k5 : Keeps m i p a v2 := by
    unfold v2
    refine keeps_foldl (fun w8 x9 k10 => ?_) ?_
    · split
      · rename_i u11 u12 u13
        exact (State.setPair_keeps k10)
      · rename_i u14 u15
        exact k10
    · exact k4
  clear_value v2
  exact (keeps_mk k5)

theorem State.switchEnd_keeps {x1} (h : Keeps m false p a s) : Keeps m false p a (State.switchEnd s x1) := by
  unfold State.switchEnd
  extract_lets v1 v2 v3 v4 v5 v6 v7 v8 v9 v10 v11 v12 v13
  have k14 : Keeps m false p a v2 := (State.readParamPages_keeps h)
  clear_value v2
  have k15 : Keeps m false p a v3 := by
    unfold v3
    refine keeps_foldl (fun w18 x19 k20 => ?_) ?_
    · split
      · rename_i u21 u22 u23
        exact (State.putLive_keeps k20)
      · rename_i u24 u25
        exact k20
    · exact k14
  clear_value v3
  have k26 : Keeps m false p a v4 := (State.updAcrd_keepsI k15)
  clear_value v4
  have k27 : Keeps m false p a v5 := (State.setB_keeps (State.setB_keeps (State.setB_keeps k26)))
  clear_value v5
  have k28 : Keeps m false p a v6 := (State.setF_keeps (State.setF_keeps k27))
  clear_value v6
  have k29 : Keeps m false p a v7 := (State.showDigest_keeps (State.showJournal_keeps (State.showImage_keeps k28)))
  clear_value v7
  have k30 : Keeps m false p a v8 := by
    unfold v8
    split
    · rename_i u31 u32 u33
      exact (State.writeSelector_keeps k29)
    · rename_i u34 u35
      exact k29
  clear_value v8
  have k36 : Keeps m false p a v9 := (State.raiseFloor_keeps (State.takeEpoch_keeps k30))
  clear_value v9
  have k37 : Keeps m false p a v11 := (State.updSeq_keeps k36)
  clear_value v11
  have k38 : Keeps m false p a v12 := (keeps_ite (State.switchRelease_keeps k37) k37)
  clear_value v12
  have k39 : Keeps m false p a v13 := (keeps_ite k38 (State.releaseLines_keeps k38))
  clear_value v13
  exact (State.showBist_keeps (State.rstoRefresh_keeps (keeps_ite (State.firstTick_keeps k39) k39)))

theorem execSwitchRelease_keeps (h : Keeps m false p a s) (ht : (execSwitchRelease s) = .next t)
    : Keeps m false p a t := by
  obtain rfl := Host.Outcome.next.inj ht
  refine keeps_ite ?_ ?_
  · exact h
  · split
    · rename_i u1 u2
      exact h
    · rename_i u3 u4 u5
      have k6 := State.expire_keeps h u5
      split
      · rename_i u7 u8 u9
        exact (State.switchEnd_keeps k6)
      · rename_i u10 u11
        exact k6

end Sys2Proof.Machine
end

