-- ==== Sys2Proof/Laws/KeepsSys.lean ====
section
/-! SUPPORT.  What each operation and each command keeps, in the sense of `Keeps`: the life phases and the stored records. -/

set_option Elab.async false

namespace Sys2Proof.Machine

variable {m i p : Bool} {a s t : State}

/-! ## Sys -/

theorem State.topOff_keeps (h : Keeps false false false a s) : Keeps false false false a (State.topOff s) := by
  unfold State.topOff
  extract_lets v1 v2
  have k1 : Keeps false false false a v1 := State.pathIdle_keeps (State.rebase_keeps h)
  clear_value v1
  have k2 : Keeps false false false a v2 := State.setB_keeps (State.setF_keeps k1)
  clear_value v2
  refine ⟨k2.pending, k2.clock, k2.free, fun hw => ?_, nofun, nofun, nofun⟩
  obtain ⟨h1, h2, h3, h4, h5, h6⟩ := State.memWf_iff.1 (k2.wf hw)
  exact State.memWf_iff.2 ⟨Cells.wf_filter _ h1, h2, Cells.wf_nil _, h4, h5, Cells.wf_filter _ h6⟩

theorem State.topBrown_keeps (h : Keeps false false false a s) : Keeps false false false a (State.topBrown s) := by
  unfold State.topBrown
  extract_lets v1
  have k2 : Keeps false false false a v1 := (State.topOff_keeps h)
  clear_value v1
  exact (keeps_foldl (fun _ _ g3 => (State.setReg_keeps g3)) (keeps_mk k2))

theorem State.baseOff_keeps {x1} (h : Keeps false false false a s)
    : Keeps false false false a (State.baseOff s x1) := by
  unfold State.baseOff
  refine ⟨h.pending, h.clock, h.free, fun hw => ?_, nofun, nofun, nofun⟩
  obtain ⟨h1, h2, h3, h4, h5, h6⟩ := State.memWf_iff.1 (h.wf hw)
  exact State.memWf_iff.2 ⟨Cells.wf_nil _, h2, Cells.wf_nil _, h4, h5, Cells.wf_filter _ h6⟩

theorem State.toStart_keeps {x1} (h : Keeps m i false a s) : Keeps m i false a (State.toStart s x1) := by
  unfold State.toStart
  exact (State.updSys_keepsP h)

theorem State.zeroTime_keeps (h : Keeps m i p a s) : Keeps m i p a (State.zeroTime s) := by
  unfold State.zeroTime
  extract_lets v1
  have k2 : Keeps m i p a v1 := (State.rebase_keeps h)
  clear_value v1
  exact (keeps_mk k2)

theorem execVinRiseStart_keeps (h : Keeps m i false a s) (ht : (execVinRiseStart s) = .next t)
    : Keeps m i false a t := by
  obtain rfl := Host.Outcome.next.inj ht
  exact (keeps_ite (keeps_ite (State.toStart_keeps (State.zeroTime_keeps (State.freshStable_keeps h)))
      (State.toStart_keeps h)) h)

theorem execFlaconExit_keeps {x0} (h : Keeps m i false a s) (ht : (execFlaconExit x0 s) = .next t)
    : Keeps m i false a t := by
  obtain rfl := Host.Outcome.next.inj ht
  exact (keeps_ite (State.toStart_keeps (State.zeroTime_keeps (State.freshStable_keeps h))) h)

theorem execBrownOutRestart_keeps (h : Keeps m i false a s) (ht : (execBrownOutRestart s) = .next t)
    : Keeps m i false a t := by
  obtain rfl := Host.Outcome.next.inj ht
  refine keeps_ite ?_ ?_
  · split
    · rename_i u1 u2 u3
      have k4 := State.expire_keeps h u3
      exact (State.toStart_keeps k4)
    · rename_i u5 u6
      exact h
  · exact h

theorem State.showCause_keeps (h : Keeps m i p a s) : Keeps m i p a (State.showCause s) := by
  unfold State.showCause
  exact (State.updSys_keeps (State.setReg_keeps h))

theorem State.freshNonce_keeps (h : Keeps m i p a s) : Keeps m i p a (State.freshNonce s) := by
  unfold State.freshNonce
  extract_lets v1
  have k2 : Keeps m i p a v1.2 := (State.takeFree_keeps h)
  clear_value v1
  exact (State.setPair_keeps k2)

theorem State.houseUp_keeps (h : Keeps m i false a s) : Keeps m i false a (State.houseUp s) := by
  unfold State.houseUp
  exact (State.showCause_keeps (State.setB_keeps (State.updSys_keepsP h)))

theorem State.startBegin_keeps (h : Keeps m i false a s) : Keeps m i false a (State.startBegin s) := by
  unfold State.startBegin
  extract_lets v1 v2 v3
  have k4 : Keeps m i false a v1 := (State.resetRegs_keeps h)
  clear_value v1
  have k5 : Keeps m i false a v2 := (keeps_mk k4)
  clear_value v2
  have k6 : Keeps m i false a v3 := (State.updSys_keeps (State.setF_keeps (State.freshNonce_keeps k5)))
  clear_value v3
  exact (keeps_ite (State.arm_keeps (State.updSys_keepsP k6)) (State.houseUp_keeps k6))

theorem execStartBegin_keeps (h : Keeps m i false a s) (ht : (execStartBegin s) = .next t) : Keeps m i false a t := by
  obtain rfl := Host.Outcome.next.inj ht
  refine keeps_ite ?_ ?_
  · split
    · rename_i u1 u2
      exact (State.startBegin_keeps h)
    · rename_i u3 u4
      split
      · rename_i u5 u6 u7
        have k8 := State.expire_keeps h u7
        exact (State.startBegin_keeps k8)
      · rename_i u9 u10
        exact h
    · rename_i u11 u12 u13
      exact h
  · exact h

theorem execStrapReadingDone_keeps {x0 x1 x2} (h : Keeps m i false a s)
    (ht : (execStrapReadingDone x0 x1 x2 s) = .next t) : Keeps m i false a t := by
  obtain rfl := Host.Outcome.next.inj ht
  refine keeps_ite ?_ ?_
  · split
    · rename_i u1 u2
      exact h
    · rename_i u3 u4 u5
      have k6 := State.expire_keeps h u5
      refine State.houseUp_keeps ?_
      exact (State.updSys_keeps k6)
  · exact h

theorem execTopNoteDomainUp_keeps (h : Keeps m i false a s) (ht : (execTopNoteDomainUp s) = .next t)
    : Keeps m i false a t := by
  obtain rfl := Host.Outcome.next.inj ht
  extract_lets v1 v2 v3 v4 v5
  have k6 : Keeps m i false a v1 := (State.updSys_keepsP h)
  clear_value v1
  have k7 : Keeps m i false a v2 := (State.setB_keeps (State.setB_keeps k6))
  clear_value v2
  have k8 : Keeps m i false a v3 := (State.showLocked_keeps (State.setB_keeps (State.setB_keeps k7)))
  clear_value v3
  exact (keeps_ite (State.pmVinHeld_keeps (State.wdSeed_keeps (keeps_mk k8))) h)

theorem State.readPages_keeps (h : Keeps m i p a s) : Keeps m i p a (State.readPages s) := by
  unfold State.readPages
  extract_lets v1 v2 v3 v4 v5
  have k6 : Keeps m i p a v1 := (keeps_foldl (fun _ _ g7 => (State.touchPage_keeps g7)) h)
  clear_value v1
  have k8 : Keeps m i p a v2 := (keeps_foldl (fun _ _ g9 => (State.touchPage_keeps g9)) k6)
  clear_value v2
  have k10 : Keeps m i p a v4 := (State.setF_keeps (State.setF_keeps k8))
  clear_value v4
  have k11 : Keeps m i p a v5 := (State.setB_keeps (State.setB_keeps k10))
  clear_value v5
  exact (State.setB_keeps k11)

theorem State.readCut_keeps (h : Keeps m i p a s) : Keeps m i p a (State.readCut s) := by
  unfold State.readCut
  extract_lets v1 v2
  have k3 : Keeps m i p a v2 := (State.raise_keeps (State.setB_keeps (keeps_mk h (eL := LedgState.array_mk) (eP :=
      LedgState.poison_mk))))
  clear_value v2
  split
  · rename_i u4 u5
    exact h
  · rename_i u6 u7 u8 u9
    exact (State.traceRec_keeps k3)

theorem State.readDrydown_keeps (h : Keeps m i p a s) : Keeps m i p a (State.readDrydown s) := by
  unfold State.readDrydown
  extract_lets v1 v2 v3 v4 v5
  have k6 : Keeps m i p a v2 := (State.setPair_keeps h)
  clear_value v2
  have k7 : Keeps m i p a v4 := (State.setF_keeps k6)
  clear_value v4
  have k8 : Keeps m i p a v5 := (keeps_ite (State.raise_keeps k7) k7)
  clear_value v5
  exact (keeps_ite (State.requestCommit_keeps (State.deviceRecord_keeps k6)) (State.updBist_keeps (State.setF_keeps
      (State.updSys_keeps k8))))

theorem State.readClock_keeps (h : Keeps m i p a s) : Keeps m i p a (State.readClock s) := by
  unfold State.readClock
  exact (keeps_ite (State.arm_keeps (State.updSys_keeps (State.setB_keeps h))) h)

theorem execStartLedgerRead_keeps (h : Keeps m i false a s) (ht : (execStartLedgerRead s) = .next t)
    : Keeps m i false a t := by
  obtain rfl := Host.Outcome.next.inj ht
  extract_lets v1 v2
  have k3 : Keeps m i false a v1 := (State.updSys_keepsP h)
  clear_value v1
  have k4 : Keeps m i false a v2 := (State.readCut_keeps (State.readPages_keeps k3))
  clear_value v2
  exact (keeps_ite (State.readClock_keeps (State.readDrydown_keeps (State.updAcrd_keeps k4))) h)

theorem execStartupSelfTestEnd_keeps {x0 x2} (h : Keeps m i p a s)
    (ht : (execStartupSelfTestEnd x0 s x2) = .next t) : Keeps m i p a t := by
  obtain rfl := Host.Outcome.next.inj ht
  extract_lets v1 v2 v3 v4 v5 v6
  have k7 : Keeps m i p a v2 := (State.notBefore_keeps h)
  clear_value v2
  have k8 : Keeps m i p a v3 := (State.setF_keeps (State.updSys_keeps k7))
  clear_value v3
  have k9 : Keeps m i p a v4 := (State.setB_keeps (State.setB_keeps k8))
  clear_value v4
  have k10 : Keeps m i p a v5 := (State.setF_keeps (State.setB_keeps k9))
  clear_value v5
  have k11 : Keeps m i p a v6 := by
    unfold v6
    generalize v1 = v1z
    split
    · rename_i u12 u13 u14
      exact (State.setF_keeps (State.setF_keeps k10))
    · rename_i u15
      exact k10
  clear_value v6
  exact (keeps_ite (keeps_foldl (fun _ _ g16 => (State.traceRec_keeps (State.raise_keeps g16))) k11) h)

theorem State.startBlocks_keeps (h : Keeps false i p a s) : Keeps false i p a (State.startBlocks s) := by
  unfold State.startBlocks
  extract_lets v1 v2
  have k3 : Keeps false i p a v1 := by
    unfold v1
    split
    · rename_i u4 u5 u6
      exact (State.engStart_keeps h)
    · rename_i u7 u8
      exact h
  clear_value v1
  have k9 : Keeps false i p a v2 := (keeps_ite (State.haltAll_keeps k3) k3)
  clear_value v2
  exact (keeps_ite (State.fltStart_keeps h) (State.fltStart_keeps (State.pathStart_keeps (State.measStart_keeps
      (State.supStart_keeps (State.seqRelease_keeps k9))))))

theorem State.safeReentry_keeps (h : Keeps m i false a s) : Keeps m i false a (State.safeReentry s) := by
  unfold State.safeReentry
  split
  · rename_i u1 u2
    exact h
  · rename_i u3 u4 u5
    exact (State.queueLog_keeps (State.safeEntry_keeps h))

theorem State.release_keeps (h : Keeps false i false a s) : Keeps false i false a (State.release s) := by
  unfold State.release
  extract_lets v1 v2 v3 v4 v5
  have k6 : Keeps false i false a v1 := (State.updSys_keepsP h)
  clear_value v1
  have k7 : Keeps false i false a v2 := (State.setF_keeps (State.loadImage_keeps k6))
  clear_value v2
  have k8 : Keeps false i false a v3 := (State.queueLog_keeps k7)
  clear_value v3
  have k9 : Keeps false i false a v4 := (State.setF_keeps k8)
  clear_value v4
  have k10 : Keeps false i false a v5 := (State.setB_keeps (State.arm_keeps k9))
  clear_value v5
  exact (State.rstoRefresh_keeps (State.firstTick_keeps (State.safeReentry_keeps (State.startBlocks_keeps
      (State.raiseFloor_keeps k10)))))

theorem execSequencerRelease_keeps (h : Keeps false i false a s) (ht : (execSequencerRelease s) = .next t)
    : Keeps false i false a t := by
  obtain rfl := Host.Outcome.next.inj ht
  refine keeps_ite ?_ ?_
  · split
    · rename_i u1 u2 u3
      have k4 := State.expire_keeps h u3
      exact (State.release_keeps k4)
    · rename_i u5 u6
      exact h
  · exact h

theorem execLogScanEnd_keeps (h : Keeps m i p a s) (ht : (execLogScanEnd s) = .next t) : Keeps m i p a t := by
  obtain rfl := Host.Outcome.next.inj ht
  extract_lets v1 v2 v3 v4 v5 v6
  have k7 : Keeps m i p a v1 := (State.setB_keeps (State.disarm_keeps h))
  clear_value v1
  have k8 : Keeps m i p a v2 := (State.setB_keeps (State.setF_keeps k7))
  clear_value v2
  have k9 : Keeps m i p a v4 := (keeps_mk k8 (eL := LedgState.array_mk) (eP := LedgState.poison_mk))
  clear_value v4
  have k10 : Keeps m i p a v5 := (keeps_foldl (fun _ _ g11 => (State.readErr_keeps g11)) k9)
  clear_value v5
  have k12 : Keeps m i p a v6 := (keeps_foldl (fun _ _ g13 => (State.readErr_keeps g13)) k10)
  clear_value v6
  exact (keeps_ite (State.wearUpdate_keeps (State.pay_keeps (State.drainLog_keeps k12))) h)

theorem State.clearLatch_keeps (h : Keeps m i p a s) : Keeps m i p a (State.clearLatch s) := by
  unfold State.clearLatch
  exact (State.setF_keeps (State.setB_keeps (State.updSys_keeps h)))

theorem execUvlo_keeps {x0} (h : Keeps false false false a s) (ht : (execUvlo x0 s) = .next t)
    : Keeps false false false a t := by
  obtain rfl := Host.Outcome.next.inj ht
  extract_lets v1
  have k2 : Keeps false false false a v1 := (State.clearLatch_keeps (State.topBrown_keeps (State.cutLedger_keeps h)))
  clear_value v1
  exact (keeps_ite (State.updSys_keepsP (State.disarm_keeps k2)) h)

theorem State.lockout_keeps (h : Keeps m i false a s) : Keeps m i false a (State.lockout s) := by
  unfold State.lockout
  exact (State.updSys_keepsP (State.setB_keeps h))

theorem State.brownOut_keeps {x1} (h : Keeps false false false a s)
    : Keeps false false false a (State.brownOut s x1) := by
  unfold State.brownOut
  extract_lets v1 v2 v3 v4
  have k5 : Keeps false false false a v1 := (State.topBrown_keeps (State.cutLedger_keeps h))
  clear_value v1
  have k6 : Keeps false false false a v2 := (State.updSys_keepsP k5)
  clear_value v2
  have k7 : Keeps false false false a v4 := (State.setF_keeps k6)
  clear_value v4
  exact (keeps_ite (State.lockout_keeps k7) (State.updSys_keeps (State.arm_keeps k7)))

theorem State.basePor_keeps {x1} (h : Keeps false false false a s)
    : Keeps false false false a (State.basePor s x1) := by
  unfold State.basePor
  exact (State.baseOff_keeps (State.cutLedger_keeps h))

theorem execBrownOut_keeps {x0 x1} (h : Keeps false false false a s) (ht : (execBrownOut x0 x1 s) = .next t)
    : Keeps false false false a t := by
  obtain rfl := Host.Outcome.next.inj ht
  exact (keeps_ite (keeps_ite h (State.basePor_keeps h)) (keeps_ite (State.brownOut_keeps h) h))

theorem execBnPor_keeps {x0} (h : Keeps false false false a s) (ht : (execBnPor x0 s) = .next t)
    : Keeps false false false a t := by
  obtain rfl := Host.Outcome.next.inj ht
  exact (keeps_ite h (State.basePor_keeps h))

theorem execHsupOvervoltage_keeps (h : Keeps m i p a s) (ht : (execHsupOvervoltage s) = .next t)
    : Keeps m i p a t := by
  obtain rfl := Host.Outcome.next.inj ht
  exact (keeps_ite (State.raise_keeps (State.updSys_keeps h)) h)

theorem execHsupOvRecover_keeps (h : Keeps m i p a s) (ht : (execHsupOvRecover s) = .next t) : Keeps m i p a t := by
  obtain rfl := Host.Outcome.next.inj ht
  exact (State.updSys_keeps h)

theorem execHouseRailExcursion_keeps {x0 x1} (h : Keeps m i p a s)
    (ht : (execHouseRailExcursion x0 x1 s) = .next t) : Keeps m i p a t := by
  obtain rfl := Host.Outcome.next.inj ht
  refine keeps_ite ?_ ?_
  · split
    · rename_i u1 u2
      exact (State.raise_keeps (State.updSys_keeps h))
    · rename_i u3 u4
      exact (State.setB_keeps h)
    · rename_i u5 u6
      exact (State.raise_keeps (State.setB_keeps h))
    · rename_i u7 u8
      exact (State.raise_keeps (State.setB_keeps h))
    · rename_i u9 u10
      exact (State.raise_keeps (State.setB_keeps h))
    · rename_i u11 u12
      exact (State.raise_keeps (State.setB_keeps h))
  · exact h

theorem execVcc5OvRecover_keeps (h : Keeps m i p a s) (ht : (execVcc5OvRecover s) = .next t) : Keeps m i p a t := by
  obtain rfl := Host.Outcome.next.inj ht
  exact (State.updSys_keeps h)

theorem execRestartDrained_keeps (h : Keeps false false false a s) (ht : (execRestartDrained s) = .next t)
    : Keeps false false false a t := by
  obtain rfl := Host.Outcome.next.inj ht
  extract_lets v1
  have k2 : Keeps false false false a v1 := (State.topBrown_keeps (State.clearLatch_keeps h))
  clear_value v1
  exact (keeps_ite (State.updSys_keepsP (State.arm_keeps k2)) h)

theorem execXinQualified_keeps (h : Keeps m i p a s) (ht : (execXinQualified s) = .next t) : Keeps m i p a t := by
  obtain rfl := Host.Outcome.next.inj ht
  exact (keeps_ite (State.setB_keeps (State.disarm_keeps (State.updSys_keeps h))) h)

theorem execXinQualifyTimeout_keeps (h : Keeps m i p a s) (ht : (execXinQualifyTimeout s) = .next t)
    : Keeps m i p a t := by
  obtain rfl := Host.Outcome.next.inj ht
  refine keeps_ite ?_ ?_
  · split
    · rename_i u1 u2 u3
      have k4 := State.expire_keeps h u3
      refine State.raise_keeps ?_
      exact (State.setB_keeps (State.updSys_keeps k4))
    · rename_i u5 u6
      exact h
  · exact h

theorem execXinMonitorFail_keeps (h : Keeps m i p a s) (ht : (execXinMonitorFail s) = .next t) : Keeps m i p a t := by
  obtain rfl := Host.Outcome.next.inj ht
  exact (keeps_ite (State.raise_keeps (State.setB_keeps (State.setB_keeps h))) h)

theorem execRef100MonitorFail_keeps (h : Keeps m i p a s) (ht : (execRef100MonitorFail s) = .next t)
    : Keeps m i p a t := by
  obtain rfl := Host.Outcome.next.inj ht
  exact (keeps_ite (State.raise_keeps (State.setB_keeps h)) h)

theorem execBnoMonitorFail_keeps (h : Keeps m i p a s) (ht : (execBnoMonitorFail s) = .next t) : Keeps m i p a t := by
  obtain rfl := Host.Outcome.next.inj ht
  exact (keeps_ite (State.raise_keeps (State.setB_keeps h)) h)

theorem execPlleUnlock_keeps (h : Keeps false i p a s) (ht : (execPlleUnlock s) = .next t) : Keeps false i p a t := by
  obtain rfl := Host.Outcome.next.inj ht
  extract_lets v1 v2 v3
  have k4 : Keeps false i p a v1 := (State.safeLines_keeps h)
  clear_value v1
  have k5 : Keeps false i p a v2 := (State.showLocked_keeps (State.disarm_keeps (State.updSys_keeps k4)))
  clear_value v2
  have k6 : Keeps false i p a v3 := (keeps_ite k5 (State.updAcrd_keeps k5))
  clear_value v3
  exact (keeps_ite (State.raise_keeps (State.haltAll_keeps (State.setB_keeps k6))) h)

theorem execPlleRelock_keeps (h : Keeps m i p a s) (ht : (execPlleRelock s) = .next t) : Keeps m i p a t := by
  obtain rfl := Host.Outcome.next.inj ht
  exact (keeps_ite (keeps_ite (State.showLocked_keeps (State.arm_keeps (State.updSys_keeps h)))
      (State.showLocked_keeps (State.updSys_keeps h))) h)

theorem execPlleReconfigDone_keeps (h : Keeps m i p a s) (ht : (execPlleReconfigDone s) = .next t)
    : Keeps m i p a t := by
  obtain rfl := Host.Outcome.next.inj ht
  refine keeps_ite ?_ ?_
  · split
    · rename_i u1 u2 u3
      have k4 := State.expire_keeps h u3
      extract_lets v5
      refine keeps_ite ?_ ?_
      · unfold v5
        exact (State.freshTiles_keeps (State.updSys_keeps k4))
      · refine State.rstoRefresh_keeps ?_
        refine State.releaseLines_keeps ?_
        unfold v5
        exact (State.freshTiles_keeps (State.updSys_keeps k4))
    · rename_i u7 u8
      exact h
  · exact h

theorem execPllmUnlock_keeps (h : Keeps m i p a s) (ht : (execPllmUnlock s) = .next t) : Keeps m i p a t := by
  obtain rfl := Host.Outcome.next.inj ht
  extract_lets v1
  have k2 : Keeps m i p a v1 := (State.showLocked_keeps (State.updSys_keeps h))
  clear_value v1
  exact (keeps_ite (State.raise_keeps (State.setB_keeps k2)) h)

theorem execPllmRelock_keeps (h : Keeps m i p a s) (ht : (execPllmRelock s) = .next t) : Keeps m i p a t := by
  obtain rfl := Host.Outcome.next.inj ht
  exact (keeps_ite (State.showLocked_keeps (State.updSys_keeps h)) h)

theorem State.powerEnter_keeps {x1} (h : Keeps m i false a s) : Keeps m i false a (State.powerEnter s x1) := by
  unfold State.powerEnter
  extract_lets v1 v2 v3
  have k4 : Keeps m i false a v2 := (State.event_keeps (State.setB_keeps h))
  clear_value v2
  have k5 : Keeps m i false a v3 := (keeps_ite (State.wdStop_keeps (State.setF_keeps (State.updSys_keepsP k4))) k4)
  clear_value v3
  exact (State.requestCommit_keeps k5)

theorem State.powerCommand_keeps {x1 x2} (h : Keeps m i false a s)
    : Keeps m i false a (State.powerCommand s x1 x2) := by
  unfold State.powerCommand
  extract_lets v1 v2
  have k3 : Keeps m i false a v2 := (State.powerEnter_keeps h)
  clear_value v2
  exact (keeps_ite (keeps_ite (State.seqPowerDown_keeps k3) k3) (State.setB_keeps h))

theorem State.wake_keeps {x1} (h : Keeps m i false a s) : Keeps m i false a (State.wake s x1) := by
  unfold State.wake
  split
  · rename_i u1 u2
    exact (State.toStart_keeps (State.setReg_keeps h))
  · rename_i u3 u4
    exact (keeps_ite (State.setReg_keeps h) h)
  · rename_i u5 u6
    exact (keeps_ite (State.updSys_keeps h) h)
  · rename_i u7 u8 u9 u10
    exact h

theorem execParkEntry_keeps {x0} (h : Keeps false false false a s) (ht : (execParkEntry x0 s) = .next t)
    : Keeps false false false a t := by
  obtain rfl := Host.Outcome.next.inj ht
  extract_lets v1 v2
  have k3 : Keeps false false false a v1 := (State.updSys_keepsP (State.topOff_keeps h))
  clear_value v1
  exact (keeps_ite (keeps_ite k3 (State.wake_keeps k3)) h)

theorem execFlaconEntry_keeps (h : Keeps false false false a s) (ht : (execFlaconEntry s) = .next t)
    : Keeps false false false a t := by
  obtain rfl := Host.Outcome.next.inj ht
  exact (keeps_ite (State.baseOff_keeps h) h)

theorem execWakeInputWake_keeps {x0} (h : Keeps m i false a s) (ht : (execWakeInputWake x0 s) = .next t)
    : Keeps m i false a t := by
  obtain rfl := Host.Outcome.next.inj ht
  exact (keeps_ite (State.wake_keeps h) h)

theorem execBusAddressWake_keeps (h : Keeps m i false a s) (ht : (execBusAddressWake s) = .next t)
    : Keeps m i false a t := by
  obtain rfl := Host.Outcome.next.inj ht
  extract_lets v1 v2
  have k3 : Keeps m i false a v1 := (keeps_ite (State.setReg_keeps h) (State.wake_keeps h))
  clear_value v1
  exact (keeps_ite (keeps_ite (keeps_mk k3) k3) h)

theorem execLinkActivityWake_keeps {x0} (h : Keeps m i false a s) (ht : (execLinkActivityWake x0 s) = .next t)
    : Keeps m i false a t := by
  obtain rfl := Host.Outcome.next.inj ht
  exact (keeps_ite (State.wake_keeps h) h)

theorem execSvcNWake_keeps (h : Keeps m i false a s) (ht : (execSvcNWake s) = .next t) : Keeps m i false a t := by
  obtain rfl := Host.Outcome.next.inj ht
  exact (keeps_ite (State.wake_keeps h) h)

theorem execParkAlarmWake_keeps (h : Keeps m i false a s) (ht : (execParkAlarmWake s) = .next t)
    : Keeps m i false a t := by
  obtain rfl := Host.Outcome.next.inj ht
  exact (keeps_ite (State.wake_keeps (State.notBefore_keeps h)) (keeps_ite (State.wake_keeps h) h))

theorem execParkVinUvloChange_keeps {x0 x1} (h : Keeps false false false a s)
    (ht : (execParkVinUvloChange x0 x1 s) = .next t) : Keeps false false false a t := by
  obtain rfl := Host.Outcome.next.inj ht
  exact (keeps_ite (keeps_ite (State.baseOff_keeps h) (State.updSys_keeps h)) h)

theorem execLongPressEnd_keeps {x0} (h : Keeps false false false a s) (ht : (execLongPressEnd x0 s) = .next t)
    : Keeps false false false a t := by
  obtain rfl := Host.Outcome.next.inj ht
  split
  · rename_i u1 u2
    exact h
  · rename_i u3 u4 u5
    have k6 := State.expire_keeps h u5
    refine keeps_ite ?_ ?_
    · exact (State.toStart_keeps (State.zeroTime_keeps (State.freshStable_keeps (State.baseOff_keeps k6))))
    · exact (keeps_ite k6 (State.updSys_keeps (State.longPressOver_keeps k6)))

theorem State.lcReads_keeps {x1} (h : Keeps m i p a s) : Keeps m i p a (State.lcReads s x1) := by
  unfold State.lcReads
  refine keeps_ite ?_ ?_
  · exact (keeps_foldl (fun _ _ g2 => (State.touchPage_keeps g2)) h)
  · split
    · rename_i u3 u4
      exact h
    · rename_i u5 u6 u7
      exact (State.judgeBank_keeps h)

theorem State.lcAccept_keeps {x1} (h : Keeps m i p a s) : Keeps m i p a (State.lcAccept s x1) := by
  unfold State.lcAccept
  extract_lets v1
  have k2 : Keeps m i p a v1 := (State.setF_keeps (State.setB_keeps (State.setF_keeps h)))
  clear_value v1
  exact (State.pay_keeps (State.commitLifeCycle_keeps k2))

theorem State.lcRequest_keeps {x1} (h : Keeps m i p a s) : Keeps m i p a (State.lcRequest s x1) := by
  unfold State.lcRequest
  extract_lets v1 v2 v3 v4
  have k5 : Keeps m i p a v4 := (State.lcReads_keeps h)
  clear_value v4
  exact (keeps_ite h (keeps_ite (State.setF_keeps h) (keeps_ite (State.arm_keeps (State.updSys_keeps h)) (keeps_ite
      (State.lcAccept_keeps k5) (State.setF_keeps k5)))))

theorem execLcTransitionRequest_keeps {x0 x1} (h : Keeps m i p a s)
    (ht : (execLcTransitionRequest x0 x1 s) = .next t) : Keeps m i p a t := by
  obtain rfl := Host.Outcome.next.inj ht
  split
  · rename_i u1 u2
    exact h
  · rename_i u3
    exact h
  · rename_i u4 u5 u6
    exact (keeps_ite (keeps_ite (State.hostWrite_keeps (State.lcRequest_keeps h)) h) (State.denied_keeps h))

theorem execReturnRequestJudged_keeps (h : Keeps m i p a s) (ht : (execReturnRequestJudged s) = .next t)
    : Keeps m i p a t := by
  obtain rfl := Host.Outcome.next.inj ht
  extract_lets v1 v2 v3 v4 v5 v6
  have k7 : Keeps m i p a v3 := (keeps_ite h (State.touchPage_keeps h))
  clear_value v3
  have k8 : Keeps m i p a v4 := (keeps_ite (State.touchPage_keeps (State.touchPage_keeps k7)) k7)
  clear_value v4
  have k9 : Keeps m i p a v5 := (State.disarm_keeps (State.updSys_keeps k8))
  clear_value v5
  have k10 : Keeps m i p a v6 := (keeps_ite (State.lcAccept_keeps k9) (State.setF_keeps k9))
  clear_value v6
  exact (keeps_ite (keeps_foldl (fun _ _ g11 => (State.setReg_keeps g11)) (State.freshNonce_keeps k10)) h)

theorem execTapOperation_keeps {x0} (h : Keeps m i p a s) (ht : (execTapOperation x0 s) = .next t)
    : Keeps m i p a t := by
  obtain rfl := Host.Outcome.next.inj ht
  cases x0
  all_goals exact keeps_ite (State.updSys_keeps (State.takeFree_keeps h)) h

theorem execHierarchyTimeBitEdge_keeps {x0} (h : Keeps m i p a s) (ht : (execHierarchyTimeBitEdge x0 s) = .next t)
    : Keeps m i p a t := by
  obtain rfl := Host.Outcome.next.inj ht
  extract_lets v1
  exact (keeps_ite (State.notBefore_keeps h) h)

/-! ## Records -/

theorem State.placeFirst_keeps {x1 x2} (h : Keeps m i p a s) (ht : (State.placeFirst s x1 x2) = some t)
    : Keeps m i p a t := by
  induction x2 generalizing x1 with
  | nil => cases ht
  | cons w r ih =>
    unfold State.placeFirst at ht
    split at ht
    · rename_i u e
      cases ht
      split at e
      · cases e
      · exact State.placeWait_keeps (keeps_mk h) e
    · exact ih ht

theorem execWaitingWritePlaced_keeps (h : Keeps m i p a s) (ht : (execWaitingWritePlaced s) = .next t)
    : Keeps m i p a t := by
  obtain rfl := Host.Outcome.next.inj ht
  split
  · rename_i u1 u2 u3
    have k4 := State.placeFirst_keeps h u3
    exact (State.pay_keeps (State.commitIfFull_keeps k4))
  · rename_i u5 u6
    exact h

theorem execCommitCommand_keeps {x0} (h : Keeps m i p a s) (ht : (execCommitCommand x0 s) = .next t)
    : Keeps m i p a t := by
  obtain rfl := Host.Outcome.next.inj ht
  exact (keeps_ite (State.hostWrite_keeps (State.requestCommit_keeps h)) (State.denied_keeps h))

theorem execCommitAgeExpiry_keeps (h : Keeps m i p a s) (ht : (execCommitAgeExpiry s) = .next t)
    : Keeps m i p a t := by
  obtain rfl := Host.Outcome.next.inj ht
  split
  · rename_i u1 u2 u3
    have k4 := State.expire_keeps h u3
    exact (State.requestCommit_keeps k4)
  · rename_i u5 u6
    exact h

theorem State.nextCommit_keeps (h : Keeps m i p a s) : Keeps m i p a (State.nextCommit s) := by
  unfold State.nextCommit
  split
  · rename_i u1 u2 u3
    exact (State.pay_keeps (State.commitLifeCycle_keeps h))
  · rename_i u4 u5
    exact (State.requestCommit_keeps h)

theorem execCommitGuardRelease_keeps (h : Keeps m i p a s) (ht : (execCommitGuardRelease s) = .next t)
    : Keeps m i p a t := by
  obtain rfl := Host.Outcome.next.inj ht
  extract_lets v1 v2
  have k3 : Keeps m i p a v2 := (State.setB_keeps (State.setB_keeps h))
  clear_value v2
  exact (keeps_ite (keeps_ite (State.nextCommit_keeps k3) k3) h)

theorem State.dryStored_keeps (h : Keeps m i p a s) : Keeps m i p a (State.dryStored s) := by
  unfold State.dryStored
  extract_lets v1 v2 v3
  have k4 : Keeps m i p a v3 := (State.updBist_keeps h)
  clear_value v3
  exact (keeps_ite (keeps_ite (State.showBist_keeps (keeps_mk h (eH := SysState.phase_mk) (eG :=
      SysState.stage_mk))) (State.requestCommit_keeps (State.deviceRecord_keeps k4))) h)

theorem execCommitEnd_keeps (h : Keeps false i p a s) (ht : (execCommitEnd s) = .next t) : Keeps false i p a t := by
  obtain rfl := Host.Outcome.next.inj ht
  split
  · rename_i u1 u2
    exact h
  · rename_i u3 u4 u5
    have k6 := State.expire_keeps h u5
    extract_lets v7 v8
    refine State.dryStored_keeps ?_
    refine keeps_ite ?_ ?_
    · refine State.nextCommit_keeps ?_
      unfold v8
      exact (State.pay_keeps (State.drainLog_keeps (State.endCommit_keeps k6)))
    · unfold v8
      exact (State.pay_keeps (State.drainLog_keeps (State.endCommit_keeps k6)))

theorem State.touchRecord_keeps {x1} (h : Keeps m i p a s) : Keeps m i p a (State.touchRecord s x1) := by
  unfold State.touchRecord
  exact (keeps_ite h (keeps_foldl (fun _ _ g1 => (State.ledgReadWord_keeps g1)) h))

theorem State.recDone_keeps {x1 x2 x3 x4} (h : Keeps m i p a s) : Keeps m i p a (State.recDone s x1 x2 x3 x4) := by
  unfold State.recDone
  exact (State.setB_keeps (State.setB_keeps (State.setF_keeps (State.setB_keeps (State.setReg_keeps h)))))

theorem State.recFetch_keeps {x1 x2} (h : Keeps m i p a s) : Keeps m i p a (State.recFetch s x1 x2) := by
  unfold State.recFetch
  extract_lets v1 v2
  have k3 : Keeps m i p a v1 := (State.touchRecord_keeps h)
  clear_value v1
  exact (State.recDone_keeps (State.setPair_keeps k3))

theorem State.recUpdate_keeps {x1 x2 x3 x4} (h : Keeps m i p a s) : Keeps m i p a (State.recUpdate s x1 x2 x3 x4)
    := by
  unfold State.recUpdate
  exact (keeps_ite (State.recDone_keeps h) (keeps_ite (State.recDone_keeps (State.touchRecord_keeps h))
      (State.recDone_keeps (State.recordOf_keeps h))))

theorem State.recAdd_keeps {x1 x2 x3} (h : Keeps m i p a s) : Keeps m i p a (State.recAdd s x1 x2 x3) := by
  unfold State.recAdd
  extract_lets v1
  exact (State.recUpdate_keeps h)

theorem execRecordRead_keeps {x0 x1} (h : Keeps m i p a s) (ht : (execRecordRead x0 x1 s) = .next t)
    : Keeps m i p a t := by
  obtain rfl := Host.Outcome.next.inj ht
  exact (keeps_ite (State.hostWrite_keeps (State.recFetch_keeps h)) (State.denied_keeps h))

theorem execRecordSet_keeps {x0 x1 x2} (h : Keeps m i p a s) (ht : (execRecordSet x0 x1 x2 s) = .next t)
    : Keeps m i p a t := by
  obtain rfl := Host.Outcome.next.inj ht
  exact (keeps_ite (State.hostWrite_keeps (State.recUpdate_keeps (State.setPair_keeps h))) (State.denied_keeps h))

theorem execRecordAdd_keeps {x0 x1 x2} (h : Keeps m i p a s) (ht : (execRecordAdd x0 x1 x2 s) = .next t)
    : Keeps m i p a t := by
  obtain rfl := Host.Outcome.next.inj ht
  exact (keeps_ite (State.hostWrite_keeps (State.recAdd_keeps (State.setReg_keeps h))) (State.denied_keeps h))

theorem State.engineLog_keeps {x1 x2 x3} (h : Keeps m i p a s) : Keeps m i p a (State.engineLog s x1 x2 x3) := by
  unfold State.engineLog
  exact (keeps_ite (State.queueLog_keeps h) h)

theorem execLogRecordAdd_keeps {x0 x1 x2} (h : Keeps m i p a s) (ht : (execLogRecordAdd x0 x1 x2 s) = .next t)
    : Keeps m i p a t := by
  obtain rfl := Host.Outcome.next.inj ht
  exact (keeps_ite (State.hostWrite_keeps (State.engineLog_keeps h)) (State.denied_keeps h))

end Sys2Proof.Machine
end

