-- ==== Sys2Proof/Laws/KeepsLink.lean ====
section
/-! SUPPORT.  What each operation and each command keeps, in the sense of `Keeps`: the links and the self-tests. -/

set_option Elab.async false

namespace Sys2Proof.Machine

variable {m i p : Bool} {a s t : State}

/-! ## Link -/

theorem State.updLink_keeps {x1} (h : Keeps m i p a s) : Keeps m i p a (State.updLink s x1) := by
  unfold State.updLink
  exact (keeps_mk h)

theorem State.updPort_keeps {x1 x2} (h : Keeps m i p a s) : Keeps m i p a (State.updPort s x1 x2) := by
  unfold State.updPort
  exact (State.updLink_keeps h)

theorem State.frameGood_keeps {x1} (h : Keeps m i p a s) : Keeps m i p a (State.frameGood s x1) := by
  unfold State.frameGood
  exact (keeps_ite h (State.updPort_keeps h))

theorem State.hopDst_keeps {x1} (h : Keeps m i p a s) : Keeps m i p a (State.hopDst s x1).2 := by
  unfold State.hopDst
  extract_lets v1 v2
  have k3 : Keeps m i p a v2.2 := (State.takeFree_keeps h)
  clear_value v2
  split
  · rename_i u4
    exact h
  · rename_i u5
    exact k3

theorem State.clearSent_keeps (h : Keeps m i p a s) : Keeps m i p a (State.clearSent s) := by
  unfold State.clearSent
  exact (State.updLink_keeps h)

theorem State.emitAs_keeps {x1 x2 x3 x4 x5 x6} (h : Keeps m i p a s)
    : Keeps m i p a (State.emitAs s x1 x2 x3 x4 x5 x6) := by
  unfold State.emitAs
  exact (keeps_ite h (State.updLink_keeps h))

theorem State.emit_keeps {x1 x2 x3 x4 x5} (h : Keeps m i p a s) : Keeps m i p a (State.emit s x1 x2 x3 x4 x5) := by
  unfold State.emit
  exact (State.emitAs_keeps h)

theorem State.nextSeq_keeps (h : Keeps m i p a s) : Keeps m i p a (State.nextSeq s).2 := by
  unfold State.nextSeq
  dsimp only
  exact State.updLink_keeps h

theorem State.sendPlain_keeps {x1 x2 x3} (h : Keeps m i p a s) : Keeps m i p a (State.sendPlain s x1 x2 x3) := by
  unfold State.sendPlain
  extract_lets v1
  have k2 : Keeps m i p a v1.2 := (State.nextSeq_keeps h)
  clear_value v1
  split
  · rename_i u3 u4
    exact h
  · rename_i u5 u6 u7
    exact (State.emit_keeps k2)

theorem State.transmit_keeps {x1} (h : Keeps m i p a s) : Keeps m i p a (State.transmit s x1) := by
  unfold State.transmit
  extract_lets v1
  have k2 : Keeps m i p a v1 := (keeps_foldl (fun _ _ g3 => (State.emit_keeps g3)) h)
  clear_value v1
  exact (State.arm_keeps k2)

theorem State.pump_keeps (h : Keeps m i p a s) : Keeps m i p a (State.pump s) := by
  unfold State.pump
  exact (keeps_foldl (fun _ _ g1 => (keeps_ite (State.transmit_keeps (State.updLink_keeps g1)) g1)) h)

theorem State.sendAcked_keeps {x1 x2 x3 x4 x5} (h : Keeps m i p a s)
    : Keeps m i p a (State.sendAcked s x1 x2 x3 x4 x5).2 := by
  unfold State.sendAcked
  extract_lets v1
  have k2 : Keeps m i p a v1.2 := (State.nextSeq_keeps h)
  clear_value v1
  exact (State.pump_keeps (State.updLink_keeps k2))

theorem State.showRemote_keeps (h : Keeps m i p a s) : Keeps m i p a (State.showRemote s) := by
  unfold State.showRemote
  extract_lets v1 v2
  exact (keeps_mk h)

theorem State.holdVector_keeps {x1 x2} (h : Keeps m i p a s) : Keeps m i p a (State.holdVector s x1 x2) := by
  unfold State.holdVector
  extract_lets v1
  have k2 : Keeps m i p a v1 := (State.updLink_keeps h)
  clear_value v1
  exact (State.showRemote_keeps (State.arm_keeps (State.setBitAt_keeps k2)))

theorem State.dropVector_keeps {x1} (h : Keeps m i p a s) : Keeps m i p a (State.dropVector s x1) := by
  unfold State.dropVector
  extract_lets v1
  have k2 : Keeps m i p a v1 := (State.updLink_keeps h)
  clear_value v1
  exact (State.showRemote_keeps (State.disarm_keeps (State.setBitAt_keeps k2)))

theorem State.sendGood_keeps (h : Keeps m i p a s) : Keeps m i p a (State.sendGood s) := by
  unfold State.sendGood
  extract_lets v1 v2 v3 v4
  have k5 : Keeps m i p a v4 := (keeps_foldl (fun _ _ g6 => (keeps_ite (keeps_foldl (fun _ _ g7 =>
      (State.emit_keeps g7)) g6) g6)) h)
  clear_value v4
  exact (keeps_ite h (State.updLink_keeps k5))

theorem State.sendHello_keeps {x1} (h : Keeps m i p a s) : Keeps m i p a (State.sendHello s x1) := by
  unfold State.sendHello
  extract_lets v1 v2
  have k3 : Keeps m i p a v1.2 := (State.hopDst_keeps h)
  clear_value v1
  have k4 : Keeps m i p a v2.2 := (State.nextSeq_keeps k3)
  clear_value v2
  exact (State.emit_keeps k4)

theorem State.portNews_keeps {x1 x2} (h : Keeps m i p a s) : Keeps m i p a (State.portNews s x1 x2) := by
  unfold State.portNews
  exact (State.event_keeps (State.traceRec_keeps h))

theorem State.setPort_keeps {x1 x2} (h : Keeps m i p a s) : Keeps m i p a (State.setPort s x1 x2) := by
  unfold State.setPort
  extract_lets v1
  have k2 : Keeps m i p a v1 := (State.setF_keeps h)
  clear_value v1
  exact (keeps_ite h (keeps_ite (State.portNews_keeps k2) (State.event_keeps k2)))

theorem State.acquire_keeps (h : Keeps m i p a s) : Keeps m i p a (State.acquire s) := by
  unfold State.acquire
  exact (State.arm_keeps (State.updLink_keeps (State.setF_keeps h)))

theorem State.rejoined_keeps (h : Keeps m i p a s) : Keeps m i p a (State.rejoined s) := by
  unfold State.rejoined
  exact (State.disarm_keeps (State.setB_keeps h))

theorem State.chooseUp_keeps (h : Keeps m i p a s) : Keeps m i p a (State.chooseUp s) := by
  unfold State.chooseUp
  extract_lets v1 v2 v3
  have k4 : Keeps m i p a v3 := (keeps_foldl (fun _ _ g5 => (keeps_ite g5 (keeps_ite (State.setPort_keeps g5)
      (keeps_ite (State.setPort_keeps g5) (State.setPort_keeps g5))))) h)
  clear_value v3
  generalize v1 = v1z
  split
  · rename_i u6
    exact k4
  · rename_i u7 u8
    extract_lets v9 v10
    have k11 : Keeps m i p a v9 := (State.rejoined_keeps (State.disarm_keeps (State.setF_keeps k4)))
    clear_value v9
    have k12 : Keeps m i p a v10 := (keeps_ite (State.setF_keeps k11) k11)
    clear_value v10
    exact (keeps_ite (State.arm_keeps (State.arm_keeps (State.acquire_keeps k12))) k12)

theorem State.giveNumber_keeps {x1 x2 x3 x4} (h : Keeps m i p a s)
    : Keeps m i p a (State.giveNumber s x1 x2 x3 x4) := by
  unfold State.giveNumber
  refine keeps_ite ?_ ?_
  · exact h
  · split
    · rename_i u1 u2
      exact (keeps_ite h (State.traceRec_keeps (State.raise_keeps h)))
    · rename_i u3 u4 u5
      extract_lets v6
      have k7 : Keeps m i p a v6 := (State.updLink_keeps h)
      clear_value v6
      exact (State.sendAcked_keeps k7)

theorem State.noSlew_keeps (h : Keeps m i p a s) : Keeps m i p a (State.noSlew s) := by
  unfold State.noSlew
  exact (State.updLink_keeps h)

theorem State.slewTime_keeps {x1} (h : Keeps m i p a s) : Keeps m i p a (State.slewTime s x1) := by
  unfold State.slewTime
  exact (State.updLink_keeps (State.rebase_keeps h))

theorem State.stepTime_keeps {x1} (h : Keeps m i p a s) : Keeps m i p a (State.stepTime s x1) := by
  unfold State.stepTime
  extract_lets v1 v2 v3 v4
  have k5 : Keeps m i p a v1 := (State.noSlew_keeps (State.rebase_keeps h))
  clear_value v1
  have k6 : Keeps m i p a v2 := (keeps_mk k5)
  clear_value v2
  have k7 : Keeps m i p a v3 := (State.setPair_keeps k6)
  clear_value v3
  have k8 : Keeps m i p a v4 := (State.count_keeps k7)
  clear_value v4
  exact (State.traceRec_keeps k8)

theorem State.loseAlign_keeps (h : Keeps m i p a s) : Keeps m i p a (State.loseAlign s) := by
  unfold State.loseAlign
  extract_lets v1
  have k2 : Keeps m i p a v1 := (State.traceRec_keeps (State.raise_keeps h))
  clear_value v1
  exact (State.arm_keeps (State.updLink_keeps (State.setF_keeps k2)))

theorem State.alignedStep_keeps {x1} (h : Keeps m i p a s) : Keeps m i p a (State.alignedStep s x1) := by
  unfold State.alignedStep
  extract_lets v1 v2
  have k3 : Keeps m i p a v2 := (State.updLink_keeps h)
  clear_value v2
  exact (keeps_ite (State.loseAlign_keeps k3) (State.slewTime_keeps k3))

theorem State.setRate_keeps {x1} (h : Keeps m i p a s) : Keeps m i p a (State.setRate s x1) := by
  unfold State.setRate
  exact (State.updLink_keeps (State.setF_keeps (State.rebase_keeps h)))

theorem State.acquireStep_keeps {x1} (h : Keeps m i p a s) : Keeps m i p a (State.acquireStep s x1) := by
  unfold State.acquireStep
  extract_lets v1 v2 v3 v4 v5 v6
  have k7 : Keeps m i p a v2.2 := (State.takeFree_keeps h)
  clear_value v2
  have k8 : Keeps m i p a v3 := (State.setRate_keeps k7)
  clear_value v3
  have k9 : Keeps m i p a v5 := (State.updLink_keeps k8)
  clear_value v5
  have k10 : Keeps m i p a v6 := (keeps_ite (State.stepTime_keeps k9) (State.slewTime_keeps k9))
  clear_value v6
  exact (keeps_ite (State.stepTime_keeps (State.updLink_keeps h)) (keeps_ite (State.updLink_keeps
      (State.traceRec_keeps (State.setF_keeps k10))) k10))

theorem State.loseRoutes_keeps {x1} (h : Keeps m i p a s) : Keeps m i p a (State.loseRoutes s x1) := by
  unfold State.loseRoutes
  extract_lets v1 v2 v3
  have k4 : Keeps m i p a v3 := (State.updLink_keeps h)
  clear_value v3
  exact (keeps_foldl (fun _ _ g5 => (State.dropVector_keeps g5)) k4)

theorem State.loseUp_keeps (h : Keeps m i p a s) : Keeps m i p a (State.loseUp s) := by
  unfold State.loseUp
  extract_lets v1
  have k2 : Keeps m i p a v1 := (State.disarm_keeps (State.disarm_keeps (State.disarm_keeps h)))
  clear_value v1
  exact (keeps_ite (State.arm_keeps (State.setF_keeps k2)) k2)

theorem State.fwdLinkDown_keeps (h : Keeps m i p a s) : Keeps m i p a (State.fwdLinkDown s) := by
  unfold State.fwdLinkDown
  split
  · rename_i u1 u2 u3 u4 u5 u6
    extract_lets v7
    exact (keeps_ite (State.linkAckForward_keeps (State.disarm_keeps (State.updLink_keeps h))) (State.updLink_keeps
        h))
  · rename_i u8 u9 u10
    exact h

theorem State.portDown_keeps {x1} (h : Keeps m i p a s) : Keeps m i p a (State.portDown s x1) := by
  unfold State.portDown
  extract_lets v1 v2 v3 v4 v5 v6
  have k7 : Keeps m i p a v2 := (State.loseRoutes_keeps h)
  clear_value v2
  have k8 : Keeps m i p a v3 := (State.count_keeps (State.portNews_keeps (State.raise_keeps k7)))
  clear_value v3
  have k9 : Keeps m i p a v4 := (State.setF_keeps (State.setF_keeps k8))
  clear_value v4
  have k10 : Keeps m i p a v5 := (State.disarm_keeps (State.updPort_keeps k9))
  clear_value v5
  have k11 : Keeps m i p a v6 := (keeps_ite k10 (keeps_ite (State.chooseUp_keeps (State.loseUp_keeps k10))
      (State.chooseUp_keeps k10)))
  clear_value v6
  exact (State.fwdLinkDown_keeps k11)

theorem State.frameBad_keeps {x1} (h : Keeps m i p a s) : Keeps m i p a (State.frameBad s x1) := by
  unfold State.frameBad
  extract_lets v1 v2
  have k3 : Keeps m i p a v1 := (State.count_keeps h)
  clear_value v1
  have k4 : Keeps m i p a v2 := (State.updPort_keeps k3)
  clear_value v2
  exact (keeps_ite (State.portDown_keeps k4) k4)

theorem State.acknowledge_keeps {x1 x2 x3} (h : Keeps m i p a s) : Keeps m i p a (State.acknowledge s x1 x2 x3) := by
  unfold State.acknowledge
  extract_lets v1 v2 v3 v4
  have k5 : Keeps m i p a v2 := (State.updLink_keeps h)
  clear_value v2
  have k6 : Keeps m i p a v4.2 := (State.nextSeq_keeps k5)
  clear_value v4
  exact (State.emit_keeps k6)

theorem State.relay_keeps {x1 x2 x3} (h : Keeps m i p a s) : Keeps m i p a (State.relay s x1 x2 x3) := by
  unfold State.relay
  extract_lets v1
  exact (keeps_foldl (fun _ _ g2 => (State.emitAs_keeps g2)) h)

theorem State.take_keeps {x1 x2 x3 x4} (h : Keeps m i p a s)
    (hf4 : ∀ w0, Keeps m i p a w0 → Keeps m i p a (x4 w0)) : Keeps m i p a (State.take s x1 x2 x3 x4) := by
  unfold State.take
  extract_lets v1 v2 v3
  have k4 : Keeps m i p a v1 := (State.clearSent_keeps h)
  clear_value v1
  have k5 : Keeps m i p a v2 := (State.frameGood_keeps k4)
  clear_value v2
  have k6 : Keeps m i p a v3 := (State.relay_keeps k5)
  clear_value v3
  refine keeps_ite ?_ ?_
  · exact k4
  · refine keeps_ite ?_ ?_
    · exact (State.frameBad_keeps k4)
    · refine keeps_ite ?_ ?_
      · refine keeps_ite ?_ ?_
        · refine hf4 _ ?_
          exact k6
        · exact k6
      · refine keeps_ite ?_ ?_
        · exact (State.relay_keeps k5)
        · refine hf4 _ ?_
          exact k5

theorem State.reack_keeps {x1 x2} (h : Keeps m i p a s) : Keeps m i p a (State.reack s x1 x2) := by
  unfold State.reack
  extract_lets v1
  have k2 : Keeps m i p a v1.2 := (State.nextSeq_keeps h)
  clear_value v1
  exact (State.emit_keeps k2)

theorem State.receive_keeps {x1 x2 x3 x4} (h : Keeps m i p a s)
    (hf4 : ∀ w0, Keeps m i p a w0 → Keeps m i p a (x4 w0)) : Keeps m i p a (State.receive s x1 x2 x3 x4) := by
  unfold State.receive
  refine State.take_keeps ?_ ?_
  · exact h
  · intro w2 k3
    split
    · rename_i u4 u5 u6
      exact (State.reack_keeps k3)
    · rename_i u7 u8
      refine hf4 _ ?_
      exact k3

theorem State.fromManager_keeps {x1 x2 x3 x4} (h : Keeps m i p a s)
    (hf4 : ∀ w0, Keeps m i p a w0 → Keeps m i p a (x4 w0)) : Keeps m i p a (State.fromManager s x1 x2 x3 x4) := by
  unfold State.fromManager
  refine State.receive_keeps ?_ ?_
  · exact h
  · intro w2 k3
    refine keeps_ite ?_ ?_
    · refine hf4 _ ?_
      exact k3
    · exact k3

theorem State.retime_keeps (h : Keeps m i p a s) : Keeps m i p a (State.retime s) := by
  unfold State.retime
  exact (keeps_ite (State.arm_keeps h) h)

theorem State.switchAccept_keeps {x1 x2} (h : Keeps m i p a s) : Keeps m i p a (State.switchAccept s x1 x2) := by
  unfold State.switchAccept
  extract_lets v1 v2 v3
  have k4 : Keeps m i p a v1 := (keeps_foldl (fun _ _ g5 => (State.surveyAbandon_keeps g5)) h)
  clear_value v1
  have k6 : Keeps m i p a v2 := (State.updLink_keeps (State.setB_keeps k4))
  clear_value v2
  have k7 : Keeps m i p a v3 := (State.setF_keeps (State.setF_keeps (State.setF_keeps k6)))
  clear_value v3
  exact (State.switchRecord_keeps (State.arm_keeps k7))

theorem State.takeGo_keeps (h : Keeps m i p a s) : Keeps m i p a (State.takeGo s) := by
  unfold State.takeGo
  exact (State.disarm_keeps (State.setF_keeps (State.updLink_keeps h)))

theorem State.switchDrop_keeps {x1 x2} (h : Keeps m i p a s) : Keeps m i p a (State.switchDrop s x1 x2) := by
  unfold State.switchDrop
  extract_lets v1 v2
  have k3 : Keeps m i p a v1 := (State.updLink_keeps (State.setB_keeps h))
  clear_value v1
  have k4 : Keeps m i p a v2 := (State.setF_keeps (State.setF_keeps (State.setF_keeps k3)))
  clear_value v2
  exact (State.switchRecord_keeps (State.disarm_keeps (State.disarm_keeps k4)))

theorem State.toTargets_keeps {x1 x2} (h : Keeps m i p a s) : Keeps m i p a (State.toTargets s x1 x2) := by
  unfold State.toTargets
  exact (keeps_foldl (fun _ _ g1 => (State.sendAcked_keeps g1)) h)

theorem State.cancelAll_keeps {x1 x2} (h : Keeps m i p a s) : Keeps m i p a (State.cancelAll s x1 x2) := by
  unfold State.cancelAll
  exact (State.switchDrop_keeps (State.toTargets_keeps h))

theorem State.tryGo_keeps (h : Keeps m i p a s) : Keeps m i p a (State.tryGo s) := by
  unfold State.tryGo
  exact (keeps_ite (State.disarm_keeps (State.takeGo_keeps (State.toTargets_keeps h))) h)

theorem State.switchArmAll_keeps (h : Keeps m i p a s) : Keeps m i p a (State.switchArmAll s) := by
  unfold State.switchArmAll
  extract_lets v1 v2 v3 v4 v5 v6 v7 v8
  have k9 : Keeps m i p a v5 := (State.switchAccept_keeps h)
  clear_value v5
  have k10 : Keeps m i p a v7 := (State.updLink_keeps k9)
  clear_value v7
  have k11 : Keeps m i p a v8 := (State.toTargets_keeps k10)
  clear_value v8
  exact (keeps_ite (keeps_ite (State.setF_keeps h) (State.switchDrop_keeps h)) (State.tryGo_keeps (State.arm_keeps
      k11)))

theorem State.switchCancelAll_keeps (h : Keeps m i p a s) : Keeps m i p a (State.switchCancelAll s) := by
  unfold State.switchCancelAll
  exact (keeps_ite (State.cancelAll_keeps h) h)

theorem State.switchCommand_keeps {x1} (h : Keeps m i p a s) : Keeps m i p a (State.switchCommand s x1) := by
  unfold State.switchCommand
  extract_lets v1
  have k2 : Keeps m i p a v1 := (State.clearSent_keeps h)
  clear_value v1
  exact (keeps_ite k2 (keeps_ite (State.switchArmAll_keeps k2) (keeps_ite (State.switchCancelAll_keeps k2) k2)))

theorem State.sendCommand_keeps {x1 x2} (h : Keeps m i p a s) : Keeps m i p a (State.sendCommand s x1 x2) := by
  unfold State.sendCommand
  exact (State.sendAcked_keeps h)

theorem State.cascNext_keeps (h : Keeps m i p a s) : Keeps m i p a (State.cascNext s) := by
  unfold State.cascNext
  extract_lets v1 v2 v3 v4 v5
  have k6 : Keeps m i p a v2 := (State.disarm_keeps h)
  clear_value v2
  have k7 : Keeps m i p a v3 := (State.updLink_keeps k6)
  clear_value v3
  have k8 : Keeps m i p a v5 := (State.updLink_keeps k6)
  clear_value v5
  split
  · rename_i u9 u10 u11 u12
    extract_lets v13
    have k14 : Keeps m i p a v13 := (State.updLink_keeps h)
    clear_value v13
    exact (State.arm_keeps (State.sendCommand_keeps k14))
  · rename_i u15 u16
    exact (keeps_ite (keeps_ite (State.seqPowerDown_keeps k7) k7) (keeps_foldl (fun _ _ g17 =>
        (State.sendCommand_keeps g17)) k8))

theorem State.cascAck_keeps {x1} (h : Keeps m i p a s) : Keeps m i p a (State.cascAck s x1) := by
  unfold State.cascAck
  extract_lets v1
  have k2 : Keeps m i p a v1 := (State.updLink_keeps h)
  clear_value v1
  exact (keeps_ite (keeps_ite (State.cascNext_keeps k2) k2) h)

theorem State.cascStart_keeps {x1} (h : Keeps m i p a s) : Keeps m i p a (State.cascStart s x1) := by
  unfold State.cascStart
  extract_lets v1 v2 v3
  exact (State.cascNext_keeps (State.updLink_keeps h))

theorem State.powerRequest_keeps {x1 x2} (h : Keeps m i false a s)
    : Keeps m i false a (State.powerRequest s x1 x2) := by
  unfold State.powerRequest
  extract_lets v1
  have k2 : Keeps m i false a v1 := (State.clearSent_keeps h)
  clear_value v1
  exact (keeps_ite (State.cascStart_keeps (State.powerEnter_keeps k2)) (State.powerCommand_keeps k2))

theorem State.txDone_keeps {x1 x2 x3} (h : Keeps m i p a s) : Keeps m i p a (State.txDone s x1 x2 x3) := by
  unfold State.txDone
  extract_lets v1
  have k2 : Keeps m i p a v1 := (State.setF_keeps (State.setB_keeps (State.setB_keeps h)))
  clear_value v1
  exact (keeps_foldl (fun _ _ g3 => (State.setReg_keeps g3)) k2)

theorem State.acked_keeps {x1 x2 x3 x4} (h : Keeps m i p a s) : Keeps m i p a (State.acked s x1 x2 x3 x4) := by
  unfold State.acked
  exact (keeps_ite (State.setPair_keeps h) (keeps_ite (State.updLink_keeps h) (keeps_ite (keeps_ite
      (State.tryGo_keeps (State.updLink_keeps h)) (State.cancelAll_keeps h)) (keeps_ite (State.cascAck_keeps h) h))))

theorem State.finishOut_keeps {x1 x2 x3} (h : Keeps m i p a s) : Keeps m i p a (State.finishOut s x1 x2 x3) := by
  unfold State.finishOut
  extract_lets v1 v2
  have k3 : Keeps m i p a v1 := (State.disarm_keeps (State.updLink_keeps h))
  clear_value v1
  have k4 : Keeps m i p a v2 := by
    unfold v2
    split
    · rename_i u5 u6 u7
      exact (State.txDone_keeps k3)
    · rename_i u8 u9
      exact k3
  clear_value v2
  exact (State.pump_keeps (keeps_ite (State.linkAckForward_keeps k4) k4))

theorem State.dropOut_keeps {x1} (h : Keeps m i p a s) : Keeps m i p a (State.dropOut s x1) := by
  unfold State.dropOut
  extract_lets v1 v2
  have k3 : Keeps m i p a v1 := (State.disarm_keeps (State.updLink_keeps h))
  clear_value v1
  have k4 : Keeps m i p a v2 := by
    unfold v2
    split
    · rename_i u5 u6 u7
      exact (State.setF_keeps (State.setB_keeps (State.setB_keeps k3)))
    · rename_i u8 u9
      exact k3
  clear_value v2
  exact (State.pump_keeps (keeps_ite (keeps_foldl (fun _ _ g10 => (State.cascAck_keeps g10)) k4) k4))

theorem State.txFrame_keeps {x1 x2 x3 x4} (h : Keeps m i p a s) : Keeps m i p a (State.txFrame s x1 x2 x3 x4) := by
  unfold State.txFrame
  extract_lets v1 v2 v3 v4 v5 v6
  have k7 : Keeps m i p a v1 := (State.clearSent_keeps h)
  clear_value v1
  have k8 : Keeps m i p a v2 := (State.setReg_keeps k7)
  clear_value v2
  have k9 : Keeps m i p a v5 := (keeps_ite (keeps_foldl (fun _ _ g10 => (State.updLink_keeps g10)) k8) k8)
  clear_value v5
  have k11 : Keeps m i p a v6.2 := (State.sendAcked_keeps k9)
  clear_value v6
  refine keeps_ite ?_ ?_
  · unfold v3
    exact (State.setF_keeps (State.setB_keeps k8))
  · refine keeps_ite ?_ ?_
    · unfold v3
      exact (State.setF_keeps (State.setB_keeps k8))
    · exact (State.setF_keeps (State.setB_keeps k11))

theorem State.rxevTake_keeps (h : Keeps m i p a s) : Keeps m i p a (State.rxevTake s).2 := by
  unfold State.rxevTake
  extract_lets v1
  split
  · dsimp only; exact State.updLink_keeps h
  · dsimp only; exact State.updLink_keeps h

theorem State.traceAdd_keeps {x1 x2 x3} (h : Keeps m i p a s) : Keeps m i p a (State.traceAdd s x1 x2 x3) := by
  unfold State.traceAdd
  exact (keeps_ite (State.traceRec_keeps h) h)

theorem State.unfreeze_keeps (h : Keeps m i p a s) : Keeps m i p a (State.unfreeze s) := by
  unfold State.unfreeze
  extract_lets v1 v2
  have k3 : Keeps m i p a v1 := (keeps_ite (State.setB_keeps h) h)
  clear_value v1
  have k4 : Keeps m i p a v2 := (State.setB_keeps k3)
  clear_value v2
  exact (keeps_mk k4)

/-! ## LinkCmds -/

theorem execLinkBringupBurst_keeps {x0} (h : Keeps m i p a s) (ht : (execLinkBringupBurst x0 s) = .next t)
    : Keeps m i p a t := by
  obtain rfl := Host.Outcome.next.inj ht
  exact (keeps_ite (State.updPort_keeps (State.emit_keeps (State.clearSent_keeps h))) h)

theorem execLinkUp_keeps {x0 x1} (h : Keeps m i p a s) (ht : (execLinkUp x0 x1 s) = .next t) : Keeps m i p a t := by
  obtain rfl := Host.Outcome.next.inj ht
  extract_lets v1 v2 v3 v4 v5
  have k6 : Keeps m i p a v1 := (State.clearSent_keeps h)
  clear_value v1
  have k7 : Keeps m i p a v2 := (keeps_ite k6 (State.emit_keeps k6))
  clear_value v2
  have k8 : Keeps m i p a v4 := (State.setF_keeps (State.updPort_keeps k7))
  clear_value v4
  have k9 : Keeps m i p a v5 := (State.arm_keeps (State.sendHello_keeps (State.portNews_keeps k8)))
  clear_value v5
  exact (keeps_ite (keeps_ite k9 (State.arm_keeps k9)) h)

theorem execLinkDown_keeps {x0} (h : Keeps m i p a s) (ht : (execLinkDown x0 s) = .next t) : Keeps m i p a t := by
  obtain rfl := Host.Outcome.next.inj ht
  exact (keeps_ite (State.portDown_keeps (State.clearSent_keeps h)) h)

theorem execHelloTimer_keeps {x0} (h : Keeps m i p a s) (ht : (execHelloTimer x0 s) = .next t) : Keeps m i p a t := by
  obtain rfl := Host.Outcome.next.inj ht
  split
  · rename_i u1 u2
    exact h
  · rename_i u3 u4 u5
    have k6 := State.expire_keeps h u5
    exact (keeps_ite (State.arm_keeps (State.sendHello_keeps (State.clearSent_keeps k6))) k6)

theorem State.helloManager_keeps {x1 x2 x3 x4 x5 x6 x7} (h : Keeps m i p a s)
    : Keeps m i p a (State.helloManager s x1 x2 x3 x4 x5 x6 x7) := by
  unfold State.helloManager
  exact (keeps_ite (keeps_ite h (State.raise_keeps (State.setPort_keeps h))) (keeps_ite (State.giveNumber_keeps h) h))

theorem State.helloWorker_keeps {x1 x2 x3 x4 x5} (h : Keeps m i p a s)
    : Keeps m i p a (State.helloWorker s x1 x2 x3 x4 x5) := by
  unfold State.helloWorker
  extract_lets v1 v2
  have k3 : Keeps m i p a v1 := (State.chooseUp_keeps h)
  clear_value v1
  have k4 : Keeps m i p a v2 := (State.updLink_keeps k3)
  clear_value v2
  split
  · rename_i u5 u6
    exact k3
  · rename_i u7 u8 u9
    exact (keeps_ite (State.emitAs_keeps k4) k3)

theorem execHello_keeps {x0 x1 x2 x3 x4 x5 x6 x8 x9} (h : Keeps m i p a s)
    (ht : (execHello x0 x1 x2 x3 x4 x5 x6 s x8 x9) = .next t) : Keeps m i p a t := by
  obtain rfl := Host.Outcome.next.inj ht
  extract_lets v1 v2 v3 v4
  have k5 : Keeps m i p a v2 := (State.frameGood_keeps (State.clearSent_keeps h))
  clear_value v2
  have k6 : Keeps m i p a v4 := (keeps_ite k5 (State.setF_keeps (State.updPort_keeps k5)))
  clear_value v4
  exact (keeps_ite h (keeps_ite (State.frameBad_keeps (State.clearSent_keeps h)) (keeps_ite
      (State.helloManager_keeps k6) (State.helloWorker_keeps k6))))

theorem State.joinAs_keeps {x1 x2 x3} (h : Keeps m i p a s) : Keeps m i p a (State.joinAs s x1 x2 x3) := by
  unfold State.joinAs
  extract_lets v1 v2 v3
  have k4 : Keeps m i p a v1 := (State.setF_keeps (State.setF_keeps h))
  clear_value v1
  have k5 : Keeps m i p a v2 := (State.setB_keeps (State.setB_keeps (State.setB_keeps k4)))
  clear_value v2
  have k6 : Keeps m i p a v3 := (State.arm_keeps (State.acquire_keeps (State.updLink_keeps k5)))
  clear_value v3
  exact (State.acknowledge_keeps (State.disarm_keeps (State.disarm_keeps (State.arm_keeps k6))))

theorem State.takeAssign_keeps {x1 x2 x3} (h : Keeps m i p a s) : Keeps m i p a (State.takeAssign s x1 x2 x3) := by
  unfold State.takeAssign
  split
  · rename_i u1 u2 u3
    exact (State.reack_keeps h)
  · rename_i u4 u5
    exact (keeps_ite (State.joinAs_keeps h) h)

theorem execAssign_keeps {x0 x1 x2 x3} (h : Keeps m i p a s) (ht : (execAssign x0 x1 x2 x3 s) = .next t)
    : Keeps m i p a t := by
  obtain rfl := Host.Outcome.next.inj ht
  extract_lets v1 v2
  have k3 : Keeps m i p a v1 := (State.clearSent_keeps h)
  clear_value v1
  have k4 : Keeps m i p a v2 := (State.frameGood_keeps k3)
  clear_value v2
  refine keeps_ite ?_ ?_
  · exact k3
  · refine keeps_ite ?_ ?_
    · exact (State.frameBad_keeps k3)
    · refine keeps_ite ?_ ?_
      · exact (State.takeAssign_keeps k4)
      · split
        · rename_i u5 u6 u7
          extract_lets v8
          have k9 : Keeps m i p a v8 := (State.updLink_keeps k4)
          clear_value v8
          exact (State.emitAs_keeps k9)
        · rename_i u10 u11
          exact k4

theorem execTsyncTimer_keeps (h : Keeps m i p a s) (ht : (execTsyncTimer s) = .next t) : Keeps m i p a t := by
  obtain rfl := Host.Outcome.next.inj ht
  split
  · rename_i u1 u2
    exact h
  · rename_i u3 u4 u5
    have k6 := State.expire_keeps h u5
    extract_lets v7
    split
    · rename_i u9 u10 u11
      refine keeps_ite ?_ ?_
      · refine State.arm_keeps ?_
        refine State.emit_keeps ?_
        unfold v7
        exact (State.nextSeq_keeps (State.clearSent_keeps k6))
      · exact k6
    · rename_i u12 u13
      exact k6

theorem State.nextComma_keeps {x1} (h : Keeps m i p a s) : Keeps m i p a (State.nextComma s x1).2 := by
  unfold State.nextComma
  extract_lets v1
  have k2 : Keeps m i p a v1.2 := (State.takeFree_keeps h)
  clear_value v1
  split
  · rename_i u3 u4
    exact h
  · rename_i u5
    exact k2

theorem execTsyncReq_keeps {x0 x2 x3} (h : Keeps m i p a s) (ht : (execTsyncReq x0 s x2 x3) = .next t)
    : Keeps m i p a t := by
  obtain rfl := Host.Outcome.next.inj ht
  refine State.take_keeps ?_ ?_
  · exact h
  · intro w2 k3
    extract_lets v4 v5
    have k6 : Keeps m i p a v4.2 := (State.nextComma_keeps k3)
    clear_value v4
    have k7 : Keeps m i p a v5.2 := (State.nextSeq_keeps k6)
    clear_value v5
    exact (keeps_ite (State.emit_keeps k7) k3)

theorem State.exchange_keeps {x1 x2 x3 x4} (h : Keeps m i p a s) : Keeps m i p a (State.exchange s x1 x2 x3 x4) := by
  unfold State.exchange
  extract_lets v1 v2 v3 v4
  have k5 : Keeps m i p a v3 := (State.setF_keeps (State.setF_keeps h))
  clear_value v3
  have k6 : Keeps m i p a v4 := (State.arm_keeps k5)
  clear_value v4
  exact (keeps_ite (keeps_ite (State.retime_keeps (State.alignedStep_keeps k6)) (keeps_ite (State.retime_keeps
      (State.acquireStep_keeps k6)) k6)) h)

theorem execTsyncRsp_keeps {x0 x1 x2 x3 x5} (h : Keeps m i p a s) (ht : (execTsyncRsp x0 x1 x2 x3 s x5) = .next t)
    : Keeps m i p a t := by
  obtain rfl := Host.Outcome.next.inj ht
  extract_lets v1
  exact (State.take_keeps h (fun _ g2 => (State.exchange_keeps g2)))

theorem execAlignmentTimeout_keeps (h : Keeps m i p a s) (ht : (execAlignmentTimeout s) = .next t)
    : Keeps m i p a t := by
  obtain rfl := Host.Outcome.next.inj ht
  split
  · rename_i u1 u2
    exact h
  · rename_i u3 u4 u5
    have k6 := State.expire_keeps h u5
    exact (keeps_ite (State.loseAlign_keeps k6) k6)

theorem State.emitOthers_keeps {x1 x2 x3} (h : Keeps m i p a s) : Keeps m i p a (State.emitOthers s x1 x2 x3) := by
  unfold State.emitOthers
  exact (keeps_foldl (fun _ _ g1 => (State.emit_keeps g1)) h)

theorem State.emitHop_keeps {x1 x2 x3 x4 x5} (h : Keeps m i p a s)
    : Keeps m i p a (State.emitHop s x1 x2 x3 x4 x5) := by
  unfold State.emitHop
  extract_lets v1
  have k2 : Keeps m i p a v1.2 := (State.hopDst_keeps h)
  clear_value v1
  exact (State.emitAs_keeps k2)

theorem State.relayRvec_keeps {x1 x2} (h : Keeps m i p a s) : Keeps m i p a (State.relayRvec s x1 x2) := by
  unfold State.relayRvec
  exact (keeps_foldl (fun _ _ g1 => (State.emitHop_keeps g1)) h)

theorem execStatusFrame_keeps {x0 x1 x2 x3} (h : Keeps m i p a s) (ht : (execStatusFrame x0 x1 x2 x3 s) = .next t)
    : Keeps m i p a t := by
  obtain rfl := Host.Outcome.next.inj ht
  extract_lets v1 v2 v3 v4
  have k5 : Keeps m i p a v1 := (State.clearSent_keeps h)
  clear_value v1
  have k6 : Keeps m i p a v2 := (State.frameGood_keeps k5)
  clear_value v2
  exact (keeps_ite (State.frameBad_keeps k5) (keeps_ite (State.emitOthers_keeps (State.holdVector_keeps k6)) k5))

theorem execRvecTimer_keeps (h : Keeps m i p a s) (ht : (execRvecTimer s) = .next t) : Keeps m i p a t := by
  obtain rfl := Host.Outcome.next.inj ht
  split
  · rename_i u1 u2
    exact h
  · rename_i u3 u4 u5
    have k6 := State.expire_keeps h u5
    extract_lets v7 v8 v9
    refine keeps_foldl (fun w11 x12 k13 => ?_) ?_
    · refine keeps_foldl (fun w15 x16 k17 => ?_) ?_
      · extract_lets v18
        have k19 : Keeps m i p a v18.2 := (State.nextSeq_keeps k17)
        clear_value v18
        exact (State.emitHop_keeps k19)
      · exact k13
    · unfold v7
      exact (State.arm_keeps (State.clearSent_keeps k6))

theorem execRvec_keeps {x0 x1 x2 x3 x5} (h : Keeps m i p a s) (ht : (execRvec x0 x1 x2 x3 s x5) = .next t)
    : Keeps m i p a t := by
  obtain rfl := Host.Outcome.next.inj ht
  extract_lets v1 v2 v3 v4 v5
  have k6 : Keeps m i p a v3 := (State.clearSent_keeps h)
  clear_value v3
  have k7 : Keeps m i p a v4 := (State.frameGood_keeps k6)
  clear_value v4
  exact (keeps_ite k6 (keeps_ite (State.frameBad_keeps k6) (keeps_ite (State.relayRvec_keeps
      (State.holdVector_keeps k7)) (State.frameGood_keeps k6))))

theorem execRemoteStatusStale_keeps {x0} (h : Keeps m i p a s) (ht : (execRemoteStatusStale x0 s) = .next t)
    : Keeps m i p a t := by
  obtain rfl := Host.Outcome.next.inj ht
  split
  · rename_i u1 u2 u3
    have k4 := State.expire_keeps h u3
    exact (State.dropVector_keeps k4)
  · rename_i u5 u6
    exact h

theorem execEventForward_keeps (h : Keeps m i p a s) (ht : (execEventForward s) = .next t) : Keeps m i p a t := by
  obtain rfl := Host.Outcome.next.inj ht
  extract_lets v1
  have k2 : Keeps m i p a v1 := (State.clearSent_keeps h)
  clear_value v1
  split
  · rename_i u3 u4
    exact h
  · rename_i u5 u6 u7
    extract_lets v8 v9 v10
    have k11 : Keeps m i p a v9 := (State.deliver_keeps k2)
    clear_value v9
    have k12 : Keeps m i p a v10.2 := (State.sendAcked_keeps k11)
    clear_value v10
    exact (keeps_ite h (keeps_ite k11 (State.updLink_keeps k12)))

theorem execEventFrame_keeps {x0 x1 x2} (h : Keeps m i p a s) (ht : (execEventFrame x0 x1 x2 s) = .next t)
    : Keeps m i p a t := by
  obtain rfl := Host.Outcome.next.inj ht
  refine State.receive_keeps ?_ ?_
  · exact h
  · intro w2 k3
    extract_lets v4
    have k5 : Keeps m i p a v4 := (keeps_ite (State.updLink_keeps k3) (State.updLink_keeps k3))
    clear_value v4
    exact (State.acknowledge_keeps (State.event_keeps (State.traceRec_keeps k5)))

theorem State.takeAck_keeps {x1 x2 x3 x4} (h : Keeps m i p a s) : Keeps m i p a (State.takeAck s x1 x2 x3 x4) := by
  unfold State.takeAck
  split
  · rename_i u1 u2
    exact h
  · rename_i u3 u4 u5
    extract_lets v6 v7 v8
    have k9 : Keeps m i p a v7 := (State.updLink_keeps h)
    clear_value v7
    have k10 : Keeps m i p a v8 := (State.acked_keeps k9)
    clear_value v8
    exact (keeps_ite (State.finishOut_keeps k10) k10)

theorem execAckFrame_keeps {x0 x1 x2 x3 x5} (h : Keeps m i p a s) (ht : (execAckFrame x0 x1 x2 x3 s x5) = .next t)
    : Keeps m i p a t := by
  obtain rfl := Host.Outcome.next.inj ht
  exact (State.take_keeps h (fun _ g1 => (State.takeAck_keeps g1)))

theorem execFrameResend_keeps {x0} (h : Keeps m i p a s) (ht : (execFrameResend x0 s) = .next t)
    : Keeps m i p a t := by
  obtain rfl := Host.Outcome.next.inj ht
  split
  · rename_i u1 u2
    exact h
  · rename_i u3 u4 u5
    have k6 := State.expire_keeps h u5
    extract_lets v7
    split
    · rename_i u9 u10
      unfold v7
      exact (State.clearSent_keeps k6)
    · rename_i u11 u12 u13
      extract_lets v14 v15
      refine keeps_ite ?_ ?_
      · refine State.dropOut_keeps ?_
        unfold v7
        exact (State.clearSent_keeps k6)
      · refine State.transmit_keeps ?_
        unfold v15
        refine keeps_foldl (fun w18 x19 k20 => ?_) ?_
        · exact (State.count_keeps k20)
        · unfold v14
          refine State.updLink_keeps ?_
          unfold v7
          exact (State.clearSent_keeps k6)

theorem State.mismatched_keeps {x1 x2 x3} (h : Keeps m i p a s) : Keeps m i p a (State.mismatched s x1 x2 x3) := by
  unfold State.mismatched
  extract_lets v1 v2
  have k3 : Keeps m i p a v1 := (State.raise_keeps (State.setBitAt_keeps h))
  clear_value v1
  have k4 : Keeps m i p a v2 := (State.traceRec_keeps (State.event_keeps k3))
  clear_value v2
  exact (keeps_ite h (keeps_ite (State.sendAcked_keeps k4) k4))

theorem State.missedProbe_keeps {x1} (h : Keeps m i p a s) : Keeps m i p a (State.missedProbe s x1) := by
  unfold State.missedProbe
  extract_lets v1 v2
  have k3 : Keeps m i p a v2 := (State.updLink_keeps h)
  clear_value v2
  exact (keeps_ite (State.mismatched_keeps k3) k3)

theorem execProbeTimer_keeps (h : Keeps m i p a s) (ht : (execProbeTimer s) = .next t) : Keeps m i p a t := by
  obtain rfl := Host.Outcome.next.inj ht
  split
  · rename_i u1 u2
    exact h
  · rename_i u3 u4 u5
    have k6 := State.expire_keeps h u5
    extract_lets v7 v8 v9 v10
    refine keeps_foldl (fun w15 x16 k17 => ?_) ?_
    · exact (State.emit_keeps k17)
    · unfold v10
      refine State.nextSeq_keeps ?_
      unfold v9
      refine State.updLink_keeps ?_
      unfold v8
      refine keeps_foldl (fun w18 x19 k20 => ?_) ?_
      · exact (State.missedProbe_keeps k20)
      · unfold v7
        exact (State.arm_keeps (State.clearSent_keeps k6))

theorem execProbe_keeps {x0 x1 x2 x4} (h : Keeps m i p a s) (ht : (execProbe x0 x1 x2 s x4) = .next t)
    : Keeps m i p a t := by
  obtain rfl := Host.Outcome.next.inj ht
  refine State.take_keeps ?_ ?_
  · exact h
  · intro w2 k3
    extract_lets v4
    have k5 : Keeps m i p a v4 := (State.arm_keeps k3)
    clear_value v4
    exact (keeps_ite (State.sendPlain_keeps k5) k3)

theorem State.judgeAnswer_keeps {x1 x2 x3} (h : Keeps m i p a s) : Keeps m i p a (State.judgeAnswer s x1 x2 x3) := by
  unfold State.judgeAnswer
  extract_lets v1
  have k2 : Keeps m i p a v1 := (State.updLink_keeps h)
  clear_value v1
  exact (keeps_ite (keeps_ite (State.setBitAt_keeps k2) (State.mismatched_keeps k2)) h)

theorem execAnswer_keeps {x0 x1 x2 x4} (h : Keeps m i p a s) (ht : (execAnswer x0 x1 x2 s x4) = .next t)
    : Keeps m i p a t := by
  obtain rfl := Host.Outcome.next.inj ht
  exact (State.take_keeps h (fun _ g1 => (State.judgeAnswer_keeps g1)))

theorem execProbeMissing_keeps (h : Keeps m i p a s) (ht : (execProbeMissing s) = .next t) : Keeps m i p a t := by
  obtain rfl := Host.Outcome.next.inj ht
  split
  · rename_i u1 u2
    exact h
  · rename_i u3 u4 u5
    have k6 := State.expire_keeps h u5
    exact (keeps_ite (State.raise_keeps k6) k6)

theorem execMismatch_keeps {x0 x1 x2} (h : Keeps m i p a s) (ht : (execMismatch x0 x1 x2 s) = .next t)
    : Keeps m i p a t := by
  obtain rfl := Host.Outcome.next.inj ht
  exact (State.fromManager_keeps h (fun _ g1 => (State.acknowledge_keeps (State.event_keeps (State.raise_keeps g1)))))

theorem execParamFrame_keeps {x0 x1 x2 x3} (h : Keeps m i p a s) (ht : (execParamFrame x0 x1 x2 x3 s) = .next t)
    : Keeps m i p a t := by
  obtain rfl := Host.Outcome.next.inj ht
  refine State.fromManager_keeps ?_ ?_
  · exact h
  · intro w2 k3
    extract_lets v4 v5
    have k6 : Keeps m i p a v4 := (State.paramCommand_keeps k3)
    clear_value v4
    exact (State.acknowledge_keeps k6)

theorem execBankWr_keeps {x0 x1 x2} (h : Keeps false i p a s) (ht : (execBankWr x0 x1 x2 s) = .next t)
    : Keeps false i p a t := by
  obtain rfl := Host.Outcome.next.inj ht
  refine State.fromManager_keeps ?_ ?_
  · exact h
  · intro w2 k3
    split
    · rename_i u4 u5 u6
      exact (keeps_ite (State.acknowledge_keeps (State.bankWrite_keeps k3)) (State.acknowledge_keeps k3))
    · rename_i u7 u8
      exact (State.acknowledge_keeps k3)

theorem execVerifyFrame_keeps {x0} (h : Keeps m i p a s) (ht : (execVerifyFrame x0 s) = .next t)
    : Keeps m i p a t := by
  obtain rfl := Host.Outcome.next.inj ht
  exact (State.fromManager_keeps h (fun _ g1 => (keeps_ite (State.acknowledge_keeps g1) (keeps_ite g1
      (State.updLink_keeps (State.verifyStaged_keeps g1))))))

theorem State.verifyReply_keeps (h : Keeps m i p a s) : Keeps m i p a (State.verifyReply s) := by
  unfold State.verifyReply
  split
  · rename_i u1 u2
    exact h
  · rename_i u3 u4 u5 u6 u7
    exact (State.updLink_keeps (State.acknowledge_keeps h))

theorem State.stagedDone_keeps {x1} (h : Keeps m i p a s) : Keeps m i p a (State.stagedDone s x1) := by
  unfold State.stagedDone
  extract_lets v1 v2
  have k3 : Keeps m i p a v1 := (State.verifyDone_keeps (State.clearSent_keeps h))
  clear_value v1
  have k4 : Keeps m i p a v2 := (keeps_ite (State.updLink_keeps k3) k3)
  clear_value v2
  exact (State.verifyReply_keeps k4)

theorem execVerifyStagedDone_keeps (h : Keeps m i p a s) (ht : (execVerifyStagedDone s) = .next t)
    : Keeps m i p a t := by
  obtain rfl := Host.Outcome.next.inj ht
  split
  · rename_i u1 u2
    exact h
  · rename_i u3 u4 u5
    split
    · rename_i u6 u7
      exact h
    · rename_i u8 u9 u10
      have k11 := State.expire_keeps h u10
      exact (State.stagedDone_keeps k11)

theorem execSwitchAt_keeps {x0 x1 x2} (h : Keeps m i p a s) (ht : (execSwitchAt x0 x1 x2 s) = .next t)
    : Keeps m i p a t := by
  obtain rfl := Host.Outcome.next.inj ht
  refine State.fromManager_keeps ?_ ?_
  · exact h
  · intro w2 k3
    extract_lets v4
    exact (keeps_ite (State.acknowledge_keeps (State.switchAccept_keeps k3)) (State.acknowledge_keeps k3))

theorem execGo_keeps {x0 x1} (h : Keeps m i p a s) (ht : (execGo x0 x1 s) = .next t) : Keeps m i p a t := by
  obtain rfl := Host.Outcome.next.inj ht
  exact (State.fromManager_keeps h (fun _ g1 => (State.acknowledge_keeps (keeps_ite (State.takeGo_keeps g1) g1))))

theorem execCancel_keeps {x0 x1} (h : Keeps m i p a s) (ht : (execCancel x0 x1 s) = .next t) : Keeps m i p a t := by
  obtain rfl := Host.Outcome.next.inj ht
  exact (State.fromManager_keeps h (fun _ g1 => (State.acknowledge_keeps (keeps_ite (State.switchDrop_keeps g1) g1))))

theorem execSwitchSelfCancel_keeps (h : Keeps m i p a s) (ht : (execSwitchSelfCancel s) = .next t)
    : Keeps m i p a t := by
  obtain rfl := Host.Outcome.next.inj ht
  split
  · rename_i u1 u2
    exact h
  · rename_i u3 u4 u5
    have k6 := State.expire_keeps h u5
    exact (keeps_ite (State.switchDrop_keeps k6) k6)

theorem execGoLeadReached_keeps (h : Keeps m i p a s) (ht : (execGoLeadReached s) = .next t) : Keeps m i p a t := by
  obtain rfl := Host.Outcome.next.inj ht
  split
  · rename_i u1 u2
    exact h
  · rename_i u3 u4 u5
    have k6 := State.expire_keeps h u5
    extract_lets v7
    refine keeps_ite ?_ ?_
    · refine keeps_ite ?_ ?_
      · refine State.tryGo_keeps ?_
        unfold v7
        exact (State.clearSent_keeps k6)
      · refine State.cancelAll_keeps ?_
        unfold v7
        exact (State.clearSent_keeps k6)
    · unfold v7
      exact (State.clearSent_keeps k6)

theorem State.linkCommand_keeps {x1 x2 x3 x4} (h : Keeps m i p a s)
    (hf4 : ∀ w0, Keeps m i p a w0 → Keeps m i p a (x4 w0)) : Keeps m i p a (State.linkCommand s x1 x2 x3 x4) := by
  unfold State.linkCommand
  refine State.acknowledge_keeps ?_
  refine keeps_ite ?_ ?_
  · refine hf4 _ ?_
    exact h
  · exact h

theorem State.linkPower_keeps {x1 x2 x3} (h : Keeps m i false a s)
    : Keeps m i false a (State.linkPower s x1 x2 x3) := by
  unfold State.linkPower
  extract_lets v1 v2 v3
  have k4 : Keeps m i false a v2 := (State.powerCommand_keeps h)
  clear_value v2
  have k5 : Keeps m i false a v3 := (keeps_ite (State.updLink_keeps k4) k4)
  clear_value v3
  exact (State.linkCommand_keeps k5 (fun _ g6 => g6))

theorem execLinkCmdPark_keeps {x0} (h : Keeps m i false a s) (ht : (execLinkCmdPark x0 s) = .next t)
    : Keeps m i false a t := by
  obtain rfl := Host.Outcome.next.inj ht
  exact (State.fromManager_keeps h (fun _ g1 => (State.linkPower_keeps g1)))

theorem execLinkCmdFlacon_keeps {x0 x1} (h : Keeps m i false a s) (ht : (execLinkCmdFlacon x0 x1 s) = .next t)
    : Keeps m i false a t := by
  obtain rfl := Host.Outcome.next.inj ht
  exact (State.fromManager_keeps h (fun _ g1 => (State.linkPower_keeps g1)))

theorem execLinkCmdRestart_keeps {x0} (h : Keeps m i p a s) (ht : (execLinkCmdRestart x0 s) = .next t)
    : Keeps m i p a t := by
  obtain rfl := Host.Outcome.next.inj ht
  exact (State.fromManager_keeps h (fun _ g1 => (State.linkCommand_keeps g1 (fun _ g2 => (State.restart_keeps g2)))))

theorem execLinkCmdSelectStaged_keeps {x0} (h : Keeps m i p a s) (ht : (execLinkCmdSelectStaged x0 s) = .next t)
    : Keeps m i p a t := by
  obtain rfl := Host.Outcome.next.inj ht
  exact (State.fromManager_keeps h (fun _ g1 => (State.linkCommand_keeps g1 (fun _ g2 => (State.selectStaged_keeps
      g2)))))

theorem State.takeRdata_keeps {x1 x2} (h : Keeps m i p a s) : Keeps m i p a (State.takeRdata s x1 x2) := by
  unfold State.takeRdata
  split
  · rename_i u1 u2
    exact h
  · rename_i u3 u4 u5
    extract_lets v6
    have k7 : Keeps m i p a v6 := (keeps_foldl (fun _ _ g8 => (keeps_ite (State.setReg_keeps g8) g8)) h)
    clear_value v6
    exact (State.updLink_keeps k7)

theorem execRdata_keeps {x0 x1 x2 x4} (h : Keeps m i p a s) (ht : (execRdata x0 x1 x2 s x4) = .next t)
    : Keeps m i p a t := by
  obtain rfl := Host.Outcome.next.inj ht
  exact (State.take_keeps h (fun _ g1 => (State.takeRdata_keeps g1)))

theorem execPdone_keeps {x0 x1} (h : Keeps m i p a s) (ht : (execPdone x0 x1 s) = .next t) : Keeps m i p a t := by
  obtain rfl := Host.Outcome.next.inj ht
  refine State.receive_keeps ?_ ?_
  · exact h
  · intro w2 k3
    extract_lets v4
    have k5 : Keeps m i p a v4 := (State.acknowledge_keeps k3)
    clear_value v4
    exact (keeps_ite (State.cascNext_keeps k5) k5)

theorem execCascadeWaitExpiry_keeps (h : Keeps m i p a s) (ht : (execCascadeWaitExpiry s) = .next t)
    : Keeps m i p a t := by
  obtain rfl := Host.Outcome.next.inj ht
  split
  · rename_i u1 u2 u3
    have k4 := State.expire_keeps h u3
    exact (keeps_ite (State.cascNext_keeps (State.clearSent_keeps k4)) k4)
  · rename_i u5 u6
    exact h

theorem State.busPower_keeps {x1 x2} (h : Keeps m i false a s) : Keeps m i false a (State.busPower s x1 x2) := by
  unfold State.busPower
  refine State.busSend_keeps ?_ ?_
  · exact h
  · intro w1 w2 w3 k4 w5
    split at w5
    · cases w5
      exact (State.powerRequest_keeps k4)
    · split at w5
      · cases w5
        exact (State.powerRequest_keeps k4)
      · cases w5

theorem execPowerDownToPark_keeps {x0 x2} (h : Keeps m i false a s) (ht : (execPowerDownToPark x0 s x2) = .next t)
    : Keeps m i false a t := by
  obtain rfl := Host.Outcome.next.inj ht
  refine sentAs_keeps ?_ ?_
  · exact (keeps_ite (State.hostWrite_keeps (State.powerRequest_keeps h)) (State.denied_keeps h))
  · intro w1
    exact (State.busPower_keeps h)

theorem execPowerDownToFlacon_keeps {x0 x1 x3} (h : Keeps m i false a s)
    (ht : (execPowerDownToFlacon x0 x1 s x3) = .next t) : Keeps m i false a t := by
  obtain rfl := Host.Outcome.next.inj ht
  refine sentAs_keeps ?_ ?_
  · exact (keeps_ite (State.hostWrite_keeps (State.powerRequest_keeps h)) (State.denied_keeps h))
  · intro w1
    exact (State.busPower_keeps h)

theorem State.sendPdone_keeps (h : Keeps m i p a s) : Keeps m i p a (State.sendPdone s) := by
  unfold State.sendPdone
  split
  · rename_i u1 u2 u3
    exact (keeps_ite (State.updLink_keeps (State.sendAcked_keeps h)) h)
  · rename_i u4 u5
    exact h

theorem State.tickRemote_keeps (h : Keeps m i p a s) : Keeps m i p a (State.tickRemote s) := by
  unfold State.tickRemote
  exact (keeps_ite (State.showRemote_keeps h) h)

theorem execSequencerTick_keeps (h : Keeps m i p a s) (ht : (execSequencerTick s) = .next t) : Keeps m i p a t := by
  obtain rfl := Host.Outcome.next.inj ht
  exact (State.sendPdone_keeps (State.sendGood_keeps (State.rstoRefresh_keeps (State.seqTick_keeps
      (State.tickRemote_keeps (State.clearSent_keeps h))))))

theorem execOrphanDetect_keeps (h : Keeps m i p a s) (ht : (execOrphanDetect s) = .next t) : Keeps m i p a t := by
  obtain rfl := Host.Outcome.next.inj ht
  split
  · rename_i u1 u2
    exact h
  · rename_i u3 u4 u5
    have k6 := State.expire_keeps h u5
    extract_lets v7 v8
    refine keeps_ite ?_ ?_
    · refine keeps_ite ?_ ?_
      · refine State.groupShutdown_keeps ?_
        unfold v7
        exact (State.linkAckForward_keeps (State.setB_keeps k6))
      · refine keeps_ite ?_ ?_
        · refine State.arm_keeps ?_
          unfold v7
          exact (State.linkAckForward_keeps (State.setB_keeps k6))
        · unfold v7
          exact (State.linkAckForward_keeps (State.setB_keeps k6))
    · exact k6

theorem execOrphanPark_keeps (h : Keeps m i false a s) (ht : (execOrphanPark s) = .next t) : Keeps m i false a t := by
  obtain rfl := Host.Outcome.next.inj ht
  split
  · rename_i u1 u2
    exact h
  · rename_i u3 u4 u5
    have k6 := State.expire_keeps h u5
    exact (keeps_ite (State.powerRequest_keeps k6) k6)

theorem State.engineTx_keeps {x1 x2 x3 x4} (h : Keeps m i p a s) : Keeps m i p a (State.engineTx s x1 x2 x3 x4) := by
  unfold State.engineTx
  exact (keeps_ite (State.txFrame_keeps h) h)

theorem execLinkTxParam_keeps {x0 x1 x2} (h : Keeps m i p a s) (ht : (execLinkTxParam x0 x1 x2 s) = .next t)
    : Keeps m i p a t := by
  obtain rfl := Host.Outcome.next.inj ht
  exact (State.engineTx_keeps h)

theorem execLinkTxBankWr_keeps {x0 x1 x2} (h : Keeps m i p a s) (ht : (execLinkTxBankWr x0 x1 x2 s) = .next t)
    : Keeps m i p a t := by
  obtain rfl := Host.Outcome.next.inj ht
  exact (State.engineTx_keeps h)

theorem execLinkTxVerify_keeps {x0 x1 x2} (h : Keeps m i p a s) (ht : (execLinkTxVerify x0 x1 x2 s) = .next t)
    : Keeps m i p a t := by
  obtain rfl := Host.Outcome.next.inj ht
  exact (State.engineTx_keeps h)

theorem execLinkTxCommand_keeps {x0 x1 x2} (h : Keeps m i p a s) (ht : (execLinkTxCommand x0 x1 x2 s) = .next t)
    : Keeps m i p a t := by
  obtain rfl := Host.Outcome.next.inj ht
  exact (State.engineTx_keeps h)

theorem execLinkTxRd_keeps {x0 x1 x2} (h : Keeps m i p a s) (ht : (execLinkTxRd x0 x1 x2 s) = .next t)
    : Keeps m i p a t := by
  obtain rfl := Host.Outcome.next.inj ht
  exact (State.engineTx_keeps h)

theorem execLinkTxWr_keeps {x0 x1 x2} (h : Keeps m i p a s) (ht : (execLinkTxWr x0 x1 x2 s) = .next t)
    : Keeps m i p a t := by
  obtain rfl := Host.Outcome.next.inj ht
  exact (State.engineTx_keeps h)

theorem execSwitchArm_keeps {x0} (h : Keeps m i p a s) (ht : (execSwitchArm x0 s) = .next t) : Keeps m i p a t := by
  obtain rfl := Host.Outcome.next.inj ht
  exact (keeps_ite (State.hostWrite_keeps (State.switchCommand_keeps h)) (State.denied_keeps h))

theorem execSwitchCancel_keeps {x0} (h : Keeps m i p a s) (ht : (execSwitchCancel x0 s) = .next t)
    : Keeps m i p a t := by
  obtain rfl := Host.Outcome.next.inj ht
  exact (keeps_ite (State.hostWrite_keeps (State.switchCommand_keeps h)) (State.denied_keeps h))

theorem execRxevRead_keeps {x0} (h : Keeps m i p a s) (ht : (execRxevRead x0 s) = .next t) : Keeps m i p a t := by
  obtain rfl := Host.Outcome.next.inj ht
  exact (keeps_ite (State.rxevTake_keeps h) (State.denied_keeps h))

theorem execTraceWrite_keeps {x0 x1 x2} (h : Keeps m i p a s) (ht : (execTraceWrite x0 x1 x2 s) = .next t)
    : Keeps m i p a t := by
  obtain rfl := Host.Outcome.next.inj ht
  exact (keeps_ite (State.hostWrite_keeps (State.traceAdd_keeps h)) (State.denied_keeps h))

theorem execTraceUnfreeze_keeps {x0} (h : Keeps m i p a s) (ht : (execTraceUnfreeze x0 s) = .next t)
    : Keeps m i p a t := by
  obtain rfl := Host.Outcome.next.inj ht
  exact (keeps_ite (State.hostWrite_keeps (State.unfreeze_keeps h)) (State.denied_keeps h))

/-! ## Bist -/

theorem State.beginSlice_keeps {x1 x2} (h : Keeps m i p a s) : Keeps m i p a (State.beginSlice s x1 x2) := by
  unfold State.beginSlice
  extract_lets v1
  have k2 : Keeps m i p a v1 := (keeps_ite (State.lendConv_keeps h) h)
  clear_value v1
  exact (State.setSlice_keeps k2)

theorem State.roundDone_keeps {x1} (h : Keeps m i p a s) : Keeps m i p a (State.roundDone s x1) := by
  unfold State.roundDone
  extract_lets v1
  have k2 : Keeps m i p a v1 := (State.updBist_keeps h)
  clear_value v1
  exact (keeps_ite (State.event_keeps (State.updBist_keeps k2)) k2)

theorem State.domainInstant_keeps {x1} (h : Keeps m i p a s) : Keeps m i p a (State.domainInstant s x1) := by
  unfold State.domainInstant
  extract_lets v1 v2 v3
  split
  · rename_i u4 u5 u6
    exact (keeps_ite (State.beginSlice_keeps h) (State.countDefer_keeps h))
  · rename_i u7 u8
    split
    · rename_i u9 u10 u11 u12
      exact (State.beginSlice_keeps (State.updBist_keeps h))
    · rename_i u13 u14 u15 u16 u17
      exact (State.beginSlice_keeps (State.roundDone_keeps (State.updBist_keeps h)))
    · rename_i u18 u19 u20 u21
      exact (State.countDefer_keeps h)

theorem execSliceInstant_keeps (h : Keeps m i p a s) (ht : (execSliceInstant s) = .next t) : Keeps m i p a t := by
  obtain rfl := Host.Outcome.next.inj ht
  extract_lets v1 v2
  have k3 : Keeps m i p a v1 := (State.notBefore_keeps h)
  clear_value v1
  have k4 : Keeps m i p a v2 := (State.updBist_keeps k3)
  clear_value v2
  exact (keeps_ite (keeps_ite k4 (keeps_foldl (fun _ _ g5 => (keeps_ite g5 (State.domainInstant_keeps g5))) k4)) h)

theorem State.sliceRec_keeps {x1 x2} (h : Keeps m i p a s) : Keeps m i p a (State.sliceRec s x1 x2) := by
  unfold State.sliceRec
  exact (State.traceRec_keeps h)

theorem State.sliceConfirmed_keeps {x1} (h : Keeps m i p a s) : Keeps m i p a (State.sliceConfirmed s x1) := by
  unfold State.sliceConfirmed
  extract_lets v1 v2
  have k3 : Keeps m i p a v1 := (State.count_keeps (State.raise_keeps h))
  clear_value v1
  have k4 : Keeps m i p a v2 := (State.setF_keeps (State.setF_keeps (State.setB_keeps k3)))
  clear_value v2
  exact (State.event_keeps (State.sliceRec_keeps k4))

theorem execSliceEnd_keeps {x0 x1} (h : Keeps m i p a s) (ht : (execSliceEnd x0 x1 s) = .next t)
    : Keeps m i p a t := by
  obtain rfl := Host.Outcome.next.inj ht
  extract_lets v1
  have k2 : Keeps m i p a v1 := (State.setSlice_keeps h)
  clear_value v1
  split
  · rename_i u3 u4
    exact h
  · rename_i u5 u6 u7
    extract_lets v8 v9 v10
    have k11 : Keeps m i p a v9 := (keeps_ite (State.returnConv_keeps k2) k2)
    clear_value v9
    have k12 : Keeps m i p a v10 := (State.updBist_keeps k11)
    clear_value v10
    exact (keeps_ite (keeps_ite (State.sliceRec_keeps k12) k12) (keeps_ite (State.sliceConfirmed_keeps k12)
        (State.sliceRec_keeps k12)))

theorem State.dryBegin_keeps {x1 x2} (h : Keeps m i p a s) : Keeps m i p a (State.dryBegin s x1 x2) := by
  unfold State.dryBegin
  extract_lets v1 v2 v3
  have k4 : Keeps m i p a v1 := (State.abandonSlices_keeps h)
  clear_value v1
  have k5 : Keeps m i p a v2 := (State.updBist_keeps k4)
  clear_value v2
  exact (State.showBist_keeps (keeps_mk k5 (eH := SysState.phase_mk) (eG := SysState.stage_mk)))

theorem execDrydownStart_keeps {x0} (h : Keeps m i p a s) (ht : (execDrydownStart x0 s) = .next t)
    : Keeps m i p a t := by
  obtain rfl := Host.Outcome.next.inj ht
  exact (keeps_ite (State.dryBegin_keeps h) h)

theorem State.dryReport_keeps {x1 x2} (h : Keeps m i p a s) : Keeps m i p a (State.dryReport s x1 x2) := by
  unfold State.dryReport
  extract_lets v1 v2 v3 v4 v5 v6
  have k7 : Keeps m i p a v3 := (State.updBist_keeps h)
  clear_value v3
  have k8 : Keeps m i p a v5 := (State.beginDrain_keeps (keeps_mk k7 (eH := SysState.phase_mk) (eG :=
      SysState.stage_mk)))
  clear_value v5
  have k9 : Keeps m i p a v6 := (keeps_foldl (fun _ _ g10 => (State.returnConv_keeps g10)) k8)
  clear_value v6
  exact (State.requestCommit_keeps (State.showBist_keeps (State.deviceRecord_keeps k9)))

theorem State.cmdResult_keeps {x1} (h : Keeps m i p a s) : Keeps m i p a (State.cmdResult s x1) := by
  unfold State.cmdResult
  extract_lets v1 v2
  have k3 : Keeps m i p a v1 := (State.setB_keeps (State.setReg_keeps h))
  clear_value v1
  have k4 : Keeps m i p a v2 := (State.setF_keeps (State.setB_keeps k3))
  clear_value v2
  split
  · rename_i u5 u6 u7
    exact (State.setF_keeps (State.setF_keeps k4))
  · rename_i u8
    exact k4

theorem State.cmdRefused_keeps (h : Keeps m i p a s) : Keeps m i p a (State.cmdRefused s) := by
  unfold State.cmdRefused
  exact (State.setB_keeps (State.setB_keeps (State.setReg_keeps h)))

theorem State.directEnd_keeps {x1} (h : Keeps m i p a s) : Keeps m i p a (State.directEnd s x1) := by
  refine State.cmdResult_keeps (keeps_foldl (fun _ _ k => State.returnConv_keeps k) (State.showBist_keeps ?_))
  exact keeps_mk (State.updBist_keeps h)

theorem execDrydownChecksDone_keeps {x0 x1} (h : Keeps m i p a s) (ht : (execDrydownChecksDone x0 x1 s) = .next t)
    : Keeps m i p a t := by
  obtain rfl := Host.Outcome.next.inj ht
  extract_lets v1 v2
  have k3 : Keeps m i p a v2 := (State.notBefore_keeps h)
  clear_value v2
  exact (keeps_ite (keeps_ite (State.directEnd_keeps k3) (State.dryReport_keeps k3)) h)

theorem State.bistCommand_keeps {x1 x2} (h : Keeps m i p a s) : Keeps m i p a (State.bistCommand s x1 x2) := by
  unfold State.bistCommand
  extract_lets v1 v2
  have k3 : Keeps m i p a v1 := (State.setB_keeps h)
  clear_value v1
  refine keeps_ite ?_ ?_
  · exact (State.setB_keeps h)
  · refine keeps_ite ?_ ?_
    · exact h
    · split
      · rename_i u4 u5
        exact (keeps_ite (State.cmdResult_keeps k3) (State.cmdRefused_keeps k3))
      · rename_i u6 u7
        exact (keeps_ite (State.dryBegin_keeps k3) (State.cmdRefused_keeps k3))
      · rename_i u8 u9 u10
        exact k3

theorem execBistRunSlice_keeps {x0 x1 x2 x3} (h : Keeps m i p a s)
    (ht : (execBistRunSlice x0 x1 x2 x3 s) = .next t) : Keeps m i p a t := by
  obtain rfl := Host.Outcome.next.inj ht
  exact (keeps_ite (State.hostWrite_keeps (State.bistCommand_keeps h)) (State.denied_keeps h))

theorem State.dryFatals_keeps {x1} (h : Keeps m i p a s) : Keeps m i p a (State.dryFatals s x1) := by
  unfold State.dryFatals
  exact (keeps_foldl (fun _ _ g1 => (State.raise_keeps g1)) h)

theorem execBistRunDrydown_keeps {x0 x1} (h : Keeps m i p a s) (ht : (execBistRunDrydown x0 x1 s) = .next t)
    : Keeps m i p a t := by
  obtain rfl := Host.Outcome.next.inj ht
  extract_lets v1 v2 v3 v4
  have k5 : Keeps m i p a v2 := (State.hostWrite_keeps (State.bistCommand_keeps h))
  clear_value v2
  have k6 : Keeps m i p a v3 := (State.dryFatals_keeps k5)
  clear_value v3
  exact (keeps_ite (keeps_ite (State.directEnd_keeps (State.notBefore_keeps k6)) k5) (State.denied_keeps h))

end Sys2Proof.Machine
end

