-- ==== Sys2Proof/Laws/KeepsEngine.lean ====
section
/-! SUPPORT.  What each operation and each command keeps, in the sense of `Keeps`: register access and the engines. -/

set_option Elab.async false

namespace Sys2Proof.Machine

variable {m i p : Bool} {a s t : State}

/-! ## HostBase -/

theorem State.pmClear_keeps {x1 x2} (h : Keeps m i p a s) : Keeps m i p a (State.pmClear s x1 x2) := by
  unfold State.pmClear
  exact (State.setReg_keeps h)

theorem State.pmClearWord_keeps {x1 x2} (h : Keeps m i p a s) : Keeps m i p a (State.pmClearWord s x1 x2) := by
  unfold State.pmClearWord
  extract_lets v1
  exact (keeps_mk h)

theorem State.mboxRelease_keeps (h : Keeps m i p a s) : Keeps m i p a (State.mboxRelease s) := by
  unfold State.mboxRelease
  exact (State.setF_keeps (State.setB_keeps h))

theorem State.mboxPost_keeps {x1} (h : Keeps m i p a s) : Keeps m i p a (State.mboxPost s x1) := by
  unfold State.mboxPost
  exact (State.setF_keeps h)

theorem execMboxInboundRelease_keeps {x0} (h : Keeps m i p a s) (ht : (execMboxInboundRelease x0 s) = .next t)
    : Keeps m i p a t := by
  obtain rfl := Host.Outcome.next.inj ht
  exact (keeps_ite (State.mboxRelease_keeps h) h)

theorem execMboxOutboundPost_keeps {x0 x1} (h : Keeps m i p a s) (ht : (execMboxOutboundPost x0 x1 s) = .next t)
    : Keeps m i p a t := by
  obtain rfl := Host.Outcome.next.inj ht
  exact (keeps_ite (State.mboxPost_keeps h) h)

/-! ## RegAccess -/

theorem State.plainWrite_keeps {x1 x2} (h : Keeps m i p a s) : Keeps m i p a (State.plainWrite s x1 x2) := by
  unfold State.plainWrite
  extract_lets v1
  split
  · rename_i u2 u3
    exact h
  · rename_i u4 u5 u6
    extract_lets v7 v8 v9
    have k10 : Keeps m i p a v9 := (State.setReg_keeps h)
    clear_value v9
    exact (keeps_ite k10 (State.liveEffect_keeps k10))

theorem State.writeSys_keeps {x1 x2 x3} (h : Keeps m i false a s) : Keeps m i false a (State.writeSys s x1 x2 x3)
    := by
  unfold State.writeSys
  extract_lets v1
  have k2 : Keeps m i false a v1.2 := (State.takeFree_keeps h)
  clear_value v1
  exact (keeps_ite (keeps_ite h (keeps_ite (State.powerRequest_keeps h) (keeps_ite (State.powerRequest_keeps k2)
      h))) (keeps_ite (keeps_ite (State.lcRequest_keeps h) h) (State.plainWrite_keeps h)))

theorem State.writeLoop_keeps {x1 x2 x3} (h : Keeps m i p a s) : Keeps m i p a (State.writeLoop s x1 x2 x3) := by
  unfold State.writeLoop
  extract_lets v1 v2
  have k3 : Keeps m i p a v2 := (State.plainWrite_keeps h)
  clear_value v2
  refine keeps_ite ?_ ?_
  · refine keeps_ite ?_ ?_
    · exact (State.writeVset_keeps h)
    · refine keeps_ite ?_ ?_
      · split
        · rename_i u4 u5
          exact k3
        · rename_i u6 u7 u8
          extract_lets v9
          have k10 : Keeps m i p a v9 := (keeps_ite (State.takeLock_keeps k3) k3)
          clear_value v9
          exact (keeps_ite (State.releaseLock_keeps k10) k10)
      · exact (keeps_ite (keeps_ite (State.surveyForce_keeps k3) k3) (State.plainWrite_keeps h))
  · exact (State.plainWrite_keeps h)

theorem State.writeSeq_keeps {x1 x2} (h : Keeps m i p a s) : Keeps m i p a (State.writeSeq s x1 x2) := by
  unfold State.writeSeq
  extract_lets v1 v2
  refine keeps_ite ?_ ?_
  · refine keeps_ite ?_ ?_
    · exact h
    · split
      · rename_i u3 u4
        exact (State.railOn_keeps h)
      · rename_i u5 u6
        exact (State.railOffRequest_keeps h)
      · rename_i u7 u8
        exact (State.railClear_keeps h)
      · rename_i u9 u10 u11 u12
        exact h
  · exact (keeps_ite (keeps_ite (State.groupShutdown_keeps h) h) (keeps_ite (keeps_ite (State.seqResume_keeps h) h)
      (State.plainWrite_keeps h)))

theorem State.writeMeas_keeps {x1 x2 x3} (h : Keeps m i p a s) : Keeps m i p a (State.writeMeas s x1 x2 x3) := by
  unfold State.writeMeas
  extract_lets v1
  refine keeps_ite ?_ ?_
  · exact (keeps_ite (State.snapCommand_keeps h) h)
  · refine keeps_ite ?_ ?_
    · exact (State.showSnap_keeps (State.plainWrite_keeps h))
    · refine keeps_ite ?_ ?_
      · exact (keeps_ite (State.releaseTo_keeps h) h)
      · split
        · rename_i u2 u3 u4
          exact (keeps_ite (keeps_ite (State.urgentRequest_keeps h) (State.plainWrite_keeps h))
              (State.plainWrite_keeps h))
        · rename_i u5 u6
          exact (State.plainWrite_keeps h)

theorem State.writePath_keeps {x1 x2} (h : Keeps m i p a s) : Keeps m i p a (State.writePath s x1 x2) := by
  unfold State.writePath
  extract_lets v1 v2
  have k3 : Keeps m i p a v1 := (State.plainWrite_keeps h)
  clear_value v1
  have k4 : Keeps m i p a v2.2 := (State.takeFree_keeps k3)
  clear_value v2
  refine keeps_ite ?_ ?_
  · exact (keeps_ite (State.chgCommand_keeps h) h)
  · refine keeps_ite ?_ ?_
    · exact (State.softLimit_keeps h)
    · refine keeps_ite ?_ ?_
      · split
        · rename_i u5 u6
          exact (State.peerIn_keeps k3)
        · rename_i u7 u8
          exact (State.peerOut_keeps k4)
        · rename_i u9 u10 u11
          exact (State.peerOff_keeps k3)
      · exact (State.plainWrite_keeps h)

theorem State.writeFlt_keeps {x1 x2 x3} (h : Keeps m i p a s) : Keeps m i p a (State.writeFlt s x1 x2 x3) := by
  unfold State.writeFlt
  exact (keeps_ite (keeps_foldl (fun _ _ g1 => (State.ackFault_keeps g1)) h) (keeps_ite (keeps_foldl (fun _ _ g2 =>
      (State.ackFault_keeps g2)) h) (keeps_ite (keeps_foldl (fun _ _ g3 => (State.clearFault_keeps g3)) h)
          (keeps_ite (keeps_foldl (fun _ _ g4 => (State.clearFault_keeps g4)) h) (keeps_ite (keeps_ite
              (State.injectFault_keeps h) h) (keeps_ite (keeps_ite (State.restart_keeps h) h)
                  (State.plainWrite_keeps h)))))))

theorem State.writeDma_keeps {x1 x2 x3 x4} (h : Keeps false i p a s)
    : Keeps false i p a (State.writeDma s x1 x2 x3 x4) := by
  unfold State.writeDma
  exact (keeps_ite h (keeps_ite (keeps_ite (keeps_ite (State.dmaAsk_keeps h) (keeps_ite (State.dmaAsk_keeps h) h))
      (keeps_ite (State.dmaLoad_keeps h) h)) (State.plainWrite_keeps h)))

theorem State.writeEng_keeps {x1 x2 x3} (h : Keeps m i p a s) : Keeps m i p a (State.writeEng s x1 x2 x3) := by
  unfold State.writeEng
  exact (keeps_ite (keeps_ite (State.takeover_keeps h) h) (keeps_ite (State.ring_keeps h) (keeps_ite
      (State.complete_keeps h) (State.plainWrite_keeps h))))

theorem State.writeEvt_keeps {x1 x2 x3} (h : Keeps false i p a s) : Keeps false i p a (State.writeEvt s x1 x2 x3)
    := by
  unfold State.writeEvt
  refine keeps_ite ?_ ?_
  · exact (keeps_ite (State.plainWrite_keeps h) h)
  · refine keeps_ite ?_ ?_
    · exact (State.raiseSoft_keeps h)
    · refine keeps_ite ?_ ?_
      · exact (State.semWrite_keeps h)
      · refine keeps_ite ?_ ?_
        · split
          · rename_i u1 u2 u3
            exact (State.writeDma_keeps h)
          · rename_i u4 u5
            exact h
        · refine keeps_ite ?_ ?_
          · split
            · rename_i u6 u7 u8
              exact (keeps_ite (State.writeEng_keeps h) h)
            · rename_i u9 u10
              exact h
          · exact (State.plainWrite_keeps h)

theorem State.writeLedg_keeps {x1 x2 x3} (h : Keeps m i p a s) : Keeps m i p a (State.writeLedg s x1 x2 x3) := by
  unfold State.writeLedg
  extract_lets v1
  refine keeps_ite ?_ ?_
  · exact (keeps_ite (State.requestCommit_keeps h) h)
  · refine keeps_ite ?_ ?_
    · split
      · rename_i u2 u3
        exact (State.recFetch_keeps h)
      · rename_i u4 u5
        exact (State.recUpdate_keeps h)
      · rename_i u6 u7
        exact (State.recAdd_keeps h)
      · rename_i u8 u9 u10 u11
        exact h
    · exact (keeps_ite (State.engineLog_keeps h) (State.plainWrite_keeps h))

theorem State.writeHost_keeps {x1 x2 x3} (h : Keeps m i p a s) : Keeps m i p a (State.writeHost s x1 x2 x3) := by
  unfold State.writeHost
  extract_lets v1
  have k2 : Keeps m i p a v1 := (keeps_ite (State.mboxRelease_keeps h) h)
  clear_value v1
  exact (keeps_ite (State.mboxPost_keeps k2) (keeps_ite (State.pmClear_keeps h) (State.plainWrite_keeps h)))

theorem State.writeLink_keeps {x1 x2 x3} (h : Keeps m i p a s) : Keeps m i p a (State.writeLink s x1 x2 x3) := by
  unfold State.writeLink
  refine keeps_ite ?_ ?_
  · exact (State.switchCommand_keeps h)
  · refine keeps_ite ?_ ?_
    · exact (keeps_ite (State.unfreeze_keeps h) h)
    · refine keeps_ite ?_ ?_
      · exact (State.traceAdd_keeps h)
      · split
        · rename_i u1 u2 u3
          exact (keeps_ite (State.txFrame_keeps h) (State.plainWrite_keeps h))
        · rename_i u4 u5
          exact (State.plainWrite_keeps h)

theorem State.writeBist_keeps {x1 x2} (h : Keeps m i p a s) : Keeps m i p a (State.writeBist s x1 x2) := by
  unfold State.writeBist
  extract_lets v1 v2
  have k3 : Keeps m i p a v1.2 := (State.takeFree_keeps h)
  clear_value v1
  exact (keeps_ite (State.bistCommand_keeps k3) (State.plainWrite_keeps h))

theorem State.writeAcrd_keeps {x1 x2 x3} (h : Keeps m i p a s) : Keeps m i p a (State.writeAcrd s x1 x2 x3) := by
  unfold State.writeAcrd
  extract_lets v1 v2
  have k3 : Keeps m i p a v2 := (State.setB_keeps h)
  clear_value v2
  refine keeps_ite ?_ ?_
  · exact (keeps_ite h (keeps_ite (State.verifyStaged_keeps h) (keeps_ite (State.selectStaged_keeps h) h)))
  · refine keeps_ite ?_ ?_
    · split
      · rename_i u4 u5
        exact (State.paramCommand_keeps k3)
      · rename_i u6 u7
        exact (State.paramFetch_keeps k3)
      · rename_i u8 u9
        exact (State.paramFetch_keeps k3)
      · rename_i u10 u11 u12 u13
        exact k3
    · exact (keeps_ite (State.tileReload_keeps h) (State.plainWrite_keeps h))

theorem State.writeHi_keeps {x1 x2} (h : Keeps m i p a s) : Keeps m i p a (State.writeHi s x1 x2) := by
  unfold State.writeHi
  extract_lets v1 v2 v3
  have k4 : Keeps m i p a v2 := (State.setReg_keeps (State.setReg_keeps h))
  clear_value v2
  have k5 : Keeps m i p a v3 := (keeps_mk k4)
  clear_value v3
  exact (keeps_ite (State.updEng_keeps k5) k5)

theorem State.writeReg_keeps {x1 x2 x3} (h : Keeps false i false a s)
    : Keeps false i false a (State.writeReg s x1 x2 x3) := by
  unfold State.writeReg
  split
  · rename_i u1 u2
    exact h
  · rename_i u3 u4 u5
    refine keeps_ite ?_ ?_
    · exact (keeps_ite (keeps_mk h) h)
    · refine keeps_ite ?_ ?_
      · exact (keeps_ite (State.writeHi_keeps h) h)
      · split
        · rename_i u6 u7
          exact (State.writeSys_keeps h)
        · rename_i u8 u9
          exact (State.writeLoop_keeps h)
        · rename_i u10 u11
          exact (State.writeSeq_keeps h)
        · rename_i u12 u13
          exact (keeps_ite (keeps_ite (State.wdJudge_keeps h) h) (State.plainWrite_keeps h))
        · rename_i u14 u15
          exact (State.writeMeas_keeps h)
        · rename_i u16 u17
          exact (State.writePath_keeps h)
        · rename_i u18 u19
          exact (State.writeFlt_keeps h)
        · rename_i u20 u21
          exact (State.writeEvt_keeps h)
        · rename_i u22 u23
          exact (State.writeLedg_keeps h)
        · rename_i u24 u25
          exact (State.writeHost_keeps h)
        · rename_i u26 u27
          exact (State.writeLink_keeps h)
        · rename_i u28 u29
          exact (State.writeBist_keeps h)
        · rename_i u30 u31
          exact (State.writeAcrd_keeps h)
        · rename_i u32 u33 u34 u35 u36 u37 u38 u39 u40 u41 u42 u43 u44 u45
          exact (State.plainWrite_keeps h)

theorem State.writePart_keeps {x1 x2 x3 x4} (h : Keeps false i false a s)
    : Keeps false i false a (State.writePart s x1 x2 x3 x4) := by
  unfold State.writePart
  extract_lets v1 v2
  split
  · rename_i u3 u4
    exact h
  · rename_i u5 u6 u7
    extract_lets v8 v9
    exact (State.writeReg_keeps h)

theorem State.shown_keeps {x1} (h : Keeps m i p a s) : Keeps m i p a (State.shown s x1).2 := by
  unfold State.shown
  extract_lets v1 v2 v3 v4 v5 v6
  have k7 : Keeps m i p a v2.2 := (State.takeFree_keeps h)
  clear_value v2
  split
  · rename_i u8 u9
    split
    · rename_i u10
      exact k7
    · rename_i u11
      exact h
  · rename_i u12 u13
    split
    · rename_i u14
      exact h
    · rename_i u15
      exact h
  · rename_i u16 u17
    split
    · rename_i u18
      exact h
    · rename_i u19
      split
      · rename_i u20
        exact h
      · rename_i u21
        exact h
  · rename_i u22 u23
    split
    · rename_i u24
      exact h
    · rename_i u25
      split
      · rename_i u26
        unfold v3
        exact k7
      · rename_i u27
        exact h
  · rename_i u28 u29
    split
    · rename_i u30
      exact h
    · rename_i u31
      split
      · rename_i u32
        exact h
      · rename_i u33
        exact h
  · rename_i u34 u35
    split
    · rename_i u36
      exact h
    · rename_i u37
      split
      · rename_i u38
        exact h
      · rename_i u39
        split
        · rename_i u40
          exact h
        · rename_i u41
          exact h
  · rename_i u42 u43
    exact h
  · rename_i u44 u45
    exact h
  · rename_i u46 u47 u48 u49 u50 u51 u52 u53 u54
    exact h

theorem State.readReg_keeps {x1 x2} (h : Keeps m i p a s) : Keeps m i p a (State.readReg s x1 x2).2 := by
  unfold State.readReg
  split
  · rename_i u1 u2
    exact h
  · rename_i u3 u4 u5
    extract_lets v6 v7 v8 v9 v10
    have k11 : Keeps m i p a v6.2 := (State.shown_keeps h)
    clear_value v6
    have k12 : Keeps m i p a v9 := k11
    clear_value v9
    have k13 : Keeps m i p a v10 := (keeps_ite (keeps_mk k12) k11)
    clear_value v10
    split
    · rename_i u14
      exact (State.semRead_keeps h)
    · rename_i u15
      split
      · rename_i u16
        exact (State.claim_keeps h)
      · rename_i u17
        split
        · rename_i u18
          exact (State.rxevTake_keeps h)
        · rename_i u19
          split
          · rename_i u20
            exact h
          · rename_i u21
            exact k13

theorem State.sramWrite_keeps {x1 x2} (h : Keeps false i p a s) (ht : (State.sramWrite s x1 x2) = some t)
    : Keeps false i p a t := by
  unfold State.sramWrite at ht
  extract_lets ws at ht
  clear_value ws
  split at ht
  · cases ht
  · rw [← Option.some.inj ht]
    clear ht
    refine keeps_foldl ?_ h
    intro s k h
    exact keeps_sram h (Cells.wf_put_const _ _)

theorem State.readRegs_keeps {x1 x2 x3} (h : Keeps m i p a s) : Keeps m i p a (State.readRegs s x1 x2 x3).2 := by
  induction x2 generalizing s x3 with
  | zero => exact h
  | succ n ih =>
    unfold State.readRegs
    extract_lets v1 v2
    exact ih (State.readReg_keeps h)

theorem State.writeRegs_keeps {x1 x2 x3} (h : Keeps false i false a s)
    : Keeps false i false a (State.writeRegs s x1 x2 x3) := by
  fun_induction State.writeRegs s x1 x2 x3 with
  | case1 s a b0 b1 b2 b3 l ih => exact ih (State.writeReg_keeps h)
  | case2 s => exact h

theorem State.freeBytes_keeps {x1} (h : Keeps m i p a s) : Keeps m i p a (State.freeBytes s x1).2 := by
  unfold State.freeBytes
  extract_lets v1
  have k2 : Keeps m i p a v1.2 := (State.takeFree_keeps h)
  clear_value v1
  exact k2

theorem State.sramTake_keeps {x1} (h : Keeps false i p a s) : Keeps false i p a (State.sramTake s x1).2 := by
  induction x1 generalizing s with
  | nil => exact h
  | cons k ws ih => exact ih (State.eccTake_keeps h)

theorem State.sramPortRead_keeps {x1 x2} (h : Keeps false i p a s)
    : Keeps false i p a (State.sramPortRead s x1 x2).2 := by
  unfold State.sramPortRead
  extract_lets v1 v2
  have k3 : Keeps false i p a v1.2 := (State.sramTake_keeps h)
  clear_value v1
  have k4 : Keeps false i p a v2.2 := (State.freeBytes_keeps k3)
  clear_value v2
  split
  · rename_i u5
    exact k3
  · rename_i u6
    exact k4

theorem State.partReads_keeps {x1} (h : Keeps false i p a s) : Keeps false i p a (State.partReads s x1).2 := by
  induction x1 generalizing s with
  | nil => exact h
  | cons k ws ih =>
    unfold State.partReads
    extract_lets v1
    have k1 : Keeps false i p a v1.2 := State.partRead_keeps h
    split
    · exact ih k1
    · exact k1

theorem State.sramPortWrite_keeps {x1 x2} (h : Keeps false i p a s)
    : Keeps false i p a (State.sramPortWrite s x1 x2).2 := by
  unfold State.sramPortWrite
  extract_lets v1
  have k1 : Keeps false i p a v1.2 := State.partReads_keeps h
  split
  · split
    · rename_i t e
      exact State.sramWrite_keeps k1 e
    · exact k1
  · exact k1

theorem State.winRead_keeps {x1 x2 x3} (h : Keeps false i p a s)
    : Keeps false i p a (State.winRead s x1 x2 x3).2 := by
  unfold State.winRead
  split
  · rename_i u1 u2 u3
    exact (State.sramPortRead_keeps h)
  · rename_i u4 u5 u6
    exact h
  · rename_i u7 u8 u9
    exact h
  · rename_i u10 u11 u12
    exact (State.readRegs_keeps h)
  · rename_i u13 u14 u15
    exact (State.ledgRead_keeps h)
  · rename_i u16 u17 u18 u19
    exact h
  · rename_i u20 u21
    exact h

theorem State.noteRefused_keeps {x1} (h : Keeps m i p a s) : Keeps m i p a (State.noteRefused s x1) := by
  unfold State.noteRefused
  exact (State.setB_keeps h)

theorem State.ledgWindow_keeps {x1 x2 x3 x4} (h : Keeps m i p a s)
    : Keeps m i p a (State.ledgWindow s x1 x2 x3 x4).2 := by
  unfold State.ledgWindow
  extract_lets v1
  have k2 : Keeps m i p a v1.2 := (State.windowWrite_keeps h)
  clear_value v1
  split
  · rename_i u3 u4
    exact k2
  · rename_i u5 u6
    split
    · rename_i u7
      exact h
    · rename_i u8
      exact k2
  · rename_i u9 u10
    exact (State.noteRefused_keeps k2)
  · rename_i u11 u12
    exact (State.noteRefused_keeps k2)

theorem State.winWrite_keeps {x1 x2 x3} (h : Keeps false i false a s)
    : Keeps false i false a (State.winWrite s x1 x2 x3).2 := by
  unfold State.winWrite
  split
  · exact State.sramPortWrite_keeps h
  · exact State.writeRegs_keeps h
  · exact State.ledgWindow_keeps h
  · split
    · exact State.bankWrite_keeps h
    · exact h
  · exact h

theorem State.misplaced_keeps {x1} (h : Keeps m i p a s) : Keeps m i p a (State.misplaced s x1) := by
  unfold State.misplaced
  split
  · rename_i u1
    exact (keeps_ite (State.refuse_keeps h) h)
  · rename_i u2
    exact (keeps_ite (State.quadAnswer_keeps h) h)
  · rename_i u3 u4 u5
    exact h

theorem execRegisterWrite_keeps {x0 x1 x2} (h : Keeps false i false a s)
    (ht : (execRegisterWrite x0 x1 x2 s) = .next t) : Keeps false i false a t := by
  obtain rfl := Host.Outcome.next.inj ht
  extract_lets v1
  exact (keeps_ite h (keeps_ite (State.misplaced_keeps h) (keeps_ite (State.hostWrite_keeps (State.writeReg_keeps
      h)) (State.denied_keeps h))))

theorem execRdFrame_keeps {x0 x1 x2} (h : Keeps false i p a s) (ht : (execRdFrame x0 x1 x2 s) = .next t)
    : Keeps false i p a t := by
  obtain rfl := Host.Outcome.next.inj ht
  refine State.fromManager_keeps ?_ ?_
  · exact h
  · intro w2 k3
    extract_lets v4 v5
    have k6 : Keeps false i p a v4.2 := (State.winRead_keeps k3)
    clear_value v4
    have k7 : Keeps false i p a v5 := (State.acknowledge_keeps k6)
    clear_value v5
    exact (keeps_ite (State.sendPlain_keeps k7) (State.acknowledge_keeps k3))

theorem execWrFrame_keeps {x0 x1 x2} (h : Keeps false i false a s) (ht : (execWrFrame x0 x1 x2 s) = .next t)
    : Keeps false i false a t := by
  obtain rfl := Host.Outcome.next.inj ht
  refine State.fromManager_keeps ?_ ?_
  · exact h
  · intro w2 k3
    extract_lets v4
    have k5 : Keeps false i false a v4.2 := (State.winWrite_keeps (State.clearSent_keeps k3))
    clear_value v4
    exact (keeps_ite (State.acknowledge_keeps (State.updLink_keeps k5)) (State.acknowledge_keeps k3))

/-! ## Engine -/

theorem State.tcmRead_keeps {x1 x2 x3 x4} (h : Keeps false i p a s)
    : Keeps false i p a (State.tcmRead s x1 x2 x3 x4).2.2 := by
  unfold State.tcmRead
  extract_lets v1 v2
  have k3 : Keeps false i p a v2.2 := (State.eccTake_keeps h)
  clear_value v2
  split
  · rename_i u4
    exact k3
  · rename_i u5
    exact k3

theorem State.sramRead_keeps {x1 x2} (h : Keeps false i p a s) : Keeps false i p a (State.sramRead s x1 x2).2.2 := by
  unfold State.sramRead
  extract_lets v1
  have k2 : Keeps false i p a v1.2 := (State.eccTake_keeps h)
  clear_value v1
  split
  · rename_i u3
    exact k2
  · rename_i u4
    exact k2

theorem State.memRead_keeps {x1 x2 x3} (h : Keeps false i p a s)
    : Keeps false i p a (State.memRead s x1 x2 x3).2.2 := by
  unfold State.memRead
  extract_lets v1
  have k2 : Keeps false i p a v1.2 := (State.winRead_keeps h)
  clear_value v1
  split
  · rename_i u3
    exact (State.tcmRead_keeps h)
  · rename_i u4
    split
    · rename_i u5
      exact (State.tcmRead_keeps h)
    · rename_i u6
      split
      · rename_i u7 u8 u9
        extract_lets v10
        have k11 : Keeps false i p a v10.2 := (State.readReg_keeps h)
        clear_value v10
        exact k11
      · rename_i u12 u13 u14
        exact (State.sramRead_keeps h)
      · rename_i u15 u16 u17 u18 u19
        exact k2
      · rename_i u20 u21
        exact (State.raise_keeps h)

theorem State.sramStore_keeps {x1 x2 x3} (h : Keeps false i p a s)
    : Keeps false i p a (State.sramStore s x1 x2 x3).2 := by
  unfold State.sramStore
  extract_lets v1
  have k2 : Keeps false i p a v1.2 := (State.partRead_keeps h)
  clear_value v1
  split
  · rename_i u3
    exact k2
  · rename_i u4
    split
    · rename_i u5 u6 u7
      have k8 := State.sramWrite_keeps k2 u7
      exact k8
    · rename_i u9 u10
      exact k2

theorem State.tcmWrite_keeps {x1 x2 x3 x4 x5} (h : Keeps false i p a s)
    : Keeps false i p a (State.tcmWrite s x1 x2 x3 x4 x5).2 := by
  unfold State.tcmWrite
  extract_lets v1 v2 v3 v4 v5
  have k6 : Keeps false i p a v2.2 := (State.partRead_keeps h)
  clear_value v2
  have k7 : Keeps false i p a v3 := k6
  clear_value v3
  split
  · rename_i u8
    exact k6
  · rename_i u9
    exact (State.updEng_keeps k7)

theorem State.placeWrite_keeps {x1 x2 x3 x4 x5} (h : Keeps false i false a s)
    : Keeps false i false a (State.placeWrite s x1 x2 x3 x4 x5).2 := by
  unfold State.placeWrite
  split
  · exact State.sramStore_keeps h
  · exact keeps_ite (State.writeReg_keeps h) (State.writePart_keeps h)
  · extract_lets v1
    have k : Keeps false i false a v1.2 := State.ledgWindow_keeps h
    clear_value v1
    split
    · exact k
    · exact State.raise_keeps k
    · exact k
  · exact State.raise_keeps h

theorem State.memWrite_keeps {x1 x2 x3 x4 x5} (h : Keeps false i false a s)
    : Keeps false i false a (State.memWrite s x1 x2 x3 x4 x5).2 := by
  unfold State.memWrite
  split
  · rename_i u1
    exact (State.tcmWrite_keeps h)
  · rename_i u2
    split
    · rename_i u3
      exact (State.tcmWrite_keeps h)
    · rename_i u4
      exact (State.placeWrite_keeps h)

theorem State.setX_keeps {x1 x2 x3} (h : Keeps m i p a s) : Keeps m i p a (State.setX s x1 x2 x3) := by
  unfold State.setX
  exact (keeps_ite h (State.updEng_keeps h))

theorem State.setPc_keeps {x1 x2} (h : Keeps m i p a s) : Keeps m i p a (State.setPc s x1 x2) := by
  unfold State.setPc
  exact (State.updEng_keeps h)

theorem State.trap_keeps {x1 x2 x3} (h : Keeps m i p a s) : Keeps m i p a (State.trap s x1 x2 x3) := by
  unfold State.trap
  exact (State.updEng_keeps h)

theorem State.trapFree_keeps {x1 x2} (h : Keeps m i p a s) : Keeps m i p a (State.trapFree s x1 x2) := by
  unfold State.trapFree
  extract_lets v1
  have k2 : Keeps m i p a v1.2 := (State.takeFree_keeps h)
  clear_value v1
  exact (State.trap_keeps k2)

theorem State.retire_keeps {x1} (h : Keeps m i p a s) : Keeps m i p a (State.retire s x1) := by
  unfold State.retire
  exact (State.updEng_keeps h)

theorem State.nextPc_keeps {x1 x2} (h : Keeps m i p a s) : Keeps m i p a (State.nextPc s x1 x2) := by
  unfold State.nextPc
  exact (State.retire_keeps (State.setPc_keeps h))

theorem State.engLoad_keeps {x1 x2 x3} (h : Keeps false i p a s)
    : Keeps false i p a (State.engLoad s x1 x2 x3).2 := by
  unfold State.engLoad
  extract_lets v1
  have k2 : Keeps false i p a v1.2.2 := (State.memRead_keeps h)
  clear_value v1
  split
  · rename_i u3
    exact (State.trap_keeps h)
  · rename_i u4
    split
    · rename_i u5
      exact (State.trap_keeps (State.mpuRefuse_keeps h))
    · rename_i u6
      split
      · rename_i u7
        exact k2
      · rename_i u8
        exact (State.trap_keeps k2)

theorem State.engStore_keeps {x1 x2 x3 x4} (h : Keeps false i false a s)
    : Keeps false i false a (State.engStore s x1 x2 x3 x4).2 := by
  unfold State.engStore
  extract_lets v1
  have k2 : Keeps false i false a v1.2 := (State.memWrite_keeps h)
  clear_value v1
  split
  · rename_i u3
    exact (State.trap_keeps h)
  · rename_i u4
    split
    · rename_i u5
      exact (State.trap_keeps (State.mpuRefuse_keeps h))
    · rename_i u6
      split
      · rename_i u7
        exact k2
      · rename_i u8
        exact (State.trap_keeps k2)

theorem State.fetchParcel_keeps {x1 x2} (h : Keeps false i p a s)
    : Keeps false i p a (State.fetchParcel s x1 x2).2 := by
  unfold State.fetchParcel
  extract_lets v1 v2
  have k3 : Keeps false i p a v2.2.2 := (State.memRead_keeps h)
  clear_value v2
  split
  · rename_i u4
    exact (State.trap_keeps (State.mpuRefuse_keeps h))
  · rename_i u5
    split
    · rename_i u6
      split
      · rename_i u7
        exact k3
      · rename_i u8
        exact (State.trap_keeps k3)
    · rename_i u9
      exact (State.trap_keeps (State.raise_keeps h))

theorem State.fetch_keeps {x1} (h : Keeps false i p a s) : Keeps false i p a (State.fetch s x1).2 := by
  unfold State.fetch
  extract_lets v1 v2 v3
  have k4 : Keeps false i p a v2.2 := (State.fetchParcel_keeps h)
  clear_value v2
  have k5 : Keeps false i p a v3.2 := (State.fetchParcel_keeps k4)
  clear_value v3
  split
  · rename_i u6 u7
    exact k4
  · rename_i u8 u9 u10
    split
    · rename_i u11
      exact k4
    · rename_i u12
      split
      · rename_i u13 u14
        exact k5
      · rename_i u15 u16 u17
        exact k5

theorem State.csrRead_keeps {x1 x2} (h : Keeps m i p a s) : Keeps m i p a (State.csrRead s x1 x2).2 := by
  unfold State.csrRead
  extract_lets v1 v2
  have k3 : Keeps m i p a v2.2 := (State.takeFree_keeps h)
  clear_value v2
  split
  · rename_i u4
    exact h
  · rename_i u5
    exact h
  · rename_i u6
    exact h
  · rename_i u7
    exact h
  · rename_i u8
    exact h
  · rename_i u9
    exact h
  · rename_i u10
    exact h
  · rename_i u11
    exact h
  · rename_i u12
    exact h
  · rename_i u13
    exact k3
  · rename_i u14
    exact k3
  · rename_i u15
    exact h
  · rename_i u16
    exact h
  · rename_i u17
    exact h
  · rename_i u18
    exact h
  · rename_i u19
    exact h
  · rename_i u20
    exact h
  · rename_i u21 u22 u23 u24 u25 u26 u27 u28 u29 u30 u31 u32 u33 u34 u35 u36 u37 u38
    exact h

theorem State.csrWrite_keeps {x1 x2 x3} (h : Keeps m i p a s) : Keeps m i p a (State.csrWrite s x1 x2 x3) := by
  unfold State.csrWrite
  exact (State.updEng_keeps h)

theorem State.execCsr_keeps {x1 x2 x3 x4 x5 x6} (h : Keeps m i p a s)
    : Keeps m i p a (State.execCsr s x1 x2 x3 x4 x5 x6) := by
  unfold State.execCsr
  extract_lets v1 v2 v3
  have k4 : Keeps m i p a v3.2 := (State.csrRead_keeps h)
  clear_value v3
  refine keeps_ite ?_ ?_
  · exact (State.trapFree_keeps h)
  · split
    · rename_i u5 u6
      exact (State.trapFree_keeps h)
    · rename_i u7 u8 u9
      extract_lets v10 v11
      have k12 : Keeps m i p a v11 := (State.nextPc_keeps (State.setX_keeps k4))
      clear_value v11
      exact (keeps_ite (State.csrWrite_keeps k12) k12)

theorem State.runRv_keeps {x1 x2 x3} (h : Keeps false i false a s)
    : Keeps false i false a (State.runRv s x1 x2 x3) := by
  unfold State.runRv
  extract_lets v1 v2 v3
  split
  · rename_i u4 u5 u6
    unfold v3
    exact (State.nextPc_keeps (State.setX_keeps h))
  · rename_i u7 u8 u9
    unfold v3
    exact (State.nextPc_keeps (State.setX_keeps h))
  · rename_i u10 u11 u12
    exact (State.nextPc_keeps (State.setX_keeps h))
  · rename_i u13 u14 u15 u16
    exact (State.nextPc_keeps (State.setX_keeps h))
  · rename_i u17 u18 u19 u20 u21
    exact (State.nextPc_keeps h)
  · rename_i u22 u23 u24 u25 u26
    extract_lets v27
    have k28 : Keeps false i false a v27.2 := (State.engLoad_keeps h)
    clear_value v27
    split
    · rename_i u29 u30 u31
      exact (State.nextPc_keeps (State.setX_keeps k28))
    · rename_i u32 u33
      exact k28
  · rename_i u34 u35 u36 u37 u38
    extract_lets v39
    have k40 : Keeps false i false a v39.2 := (State.engStore_keeps h)
    clear_value v39
    exact (keeps_ite (State.nextPc_keeps k40) k40)
  · rename_i u41 u42 u43 u44 u45 u46
    unfold v3
    exact (State.nextPc_keeps (State.setX_keeps h))
  · rename_i u47 u48 u49 u50 u51 u52
    unfold v3
    exact (State.nextPc_keeps (State.setX_keeps h))
  · rename_i u53 u54 u55 u56 u57
    unfold v3
    exact (State.nextPc_keeps (State.setX_keeps h))
  · rename_i u58 u59 u60 u61 u62
    exact (State.execCsr_keeps h)
  · rename_i u63
    exact (State.nextPc_keeps h)
  · rename_i u64
    exact (State.trap_keeps h)
  · rename_i u65
    exact (State.trapFree_keeps h)
  · rename_i u66
    exact (State.nextPc_keeps (State.updEng_keeps h))
  · rename_i u67
    exact (State.setF_keeps (State.nextPc_keeps h))

theorem State.runOne_keeps {x1} (h : Keeps false i false a s) : Keeps false i false a (State.runOne s x1) := by
  unfold State.runOne
  extract_lets v1
  have k2 : Keeps false i false a v1.2 := (State.fetch_keeps h)
  clear_value v1
  split
  · rename_i u3 u4
    exact k2
  · rename_i u5 u6 u7 u8
    exact (State.runRv_keeps k2)
  · rename_i u9 u10 u11
    exact (State.trapFree_keeps k2)

theorem execEngineInstruction_keeps {x0 x2} (h : Keeps false i false a s)
    (ht : (execEngineInstruction x0 s x2) = .next t) : Keeps false i false a t := by
  obtain rfl := Host.Outcome.next.inj ht
  exact (keeps_ite (State.withErrs_keeps h (fun _ g1 => (State.runOne_keeps g1))) (keeps_ite (State.withErrs_keeps
      h (fun _ g2 => (State.runOne_keeps (State.setF_keeps g2)))) h))

theorem execInterruptTaken_keeps {x0} (h : Keeps m i p a s) (ht : (execInterruptTaken x0 s) = .next t)
    : Keeps m i p a t := by
  obtain rfl := Host.Outcome.next.inj ht
  extract_lets v1 v2
  have k3 : Keeps m i p a v2 := (State.trap_keeps (State.setF_keeps h))
  clear_value v2
  exact (keeps_ite (keeps_ite (State.setPc_keeps k3) k3) h)

theorem execSramScrub_keeps {x0 x1 x2} (h : Keeps false i p a s) (ht : (execSramScrub x0 x1 x2 s) = .next t)
    : Keeps false i p a t := by
  obtain rfl := Host.Outcome.next.inj ht
  exact (keeps_ite h (State.eccRead_keeps h))

theorem State.beatRead_keeps {x1 x2 x3} (h : Keeps false i p a s)
    : Keeps false i p a (State.beatRead s x1 x2 x3).2.2 := by
  unfold State.beatRead
  extract_lets v1 v2 v3
  have k4 : Keeps false i p a v1.2 := (State.winRead_keeps h)
  clear_value v1
  have k5 : Keeps false i p a v2.2.2 := (State.memRead_keeps h)
  clear_value v2
  have k6 : Keeps false i p a v3.2.2 := (State.memRead_keeps k5)
  clear_value v3
  split
  · rename_i u7
    exact h
  · rename_i u8
    split
    · rename_i u9
      split
      · rename_i u10 u11 u12
        exact (State.sramRead_keeps h)
      · rename_i u13 u14 u15
        exact k4
      · rename_i u16 u17 u18
        split
        · rename_i u19
          exact k5
        · rename_i u20
          exact k6
    · rename_i u21
      exact (State.memRead_keeps h)

theorem State.beatWrite_keeps {x1 x2 x3 x4 x5} (h : Keeps false i false a s)
    : Keeps false i false a (State.beatWrite s x1 x2 x3 x4 x5).2 := by
  unfold State.beatWrite
  split
  · exact State.memWrite_keeps h
  · split
    · exact State.sramStore_keeps h
    · extract_lets v1
      have k : Keeps false i false a v1.2 := State.ledgWindow_keeps h
      clear_value v1
      split
      · exact k
      · exact State.raise_keeps k
      · exact k
    · extract_lets v1
      have k : Keeps false i false a v1.2 := State.memWrite_keeps h
      clear_value v1
      split
      · exact State.memWrite_keeps k
      · exact k

theorem State.beatDone_keeps {x1 x2 x3} (h : Keeps false i p a s) : Keeps false i p a (State.beatDone s x1 x2 x3)
    := by
  unfold State.beatDone
  extract_lets v1 v2 v3
  have k4 : Keeps false i p a v2 := (State.setF_keeps h)
  clear_value v2
  have k5 : Keeps false i p a v3 := (State.dmaStop_keeps k4)
  clear_value v3
  exact (keeps_ite k4 (keeps_ite (State.dmaLoad_keeps k5) k5))

theorem State.moveBeat_keeps {x1 x2} (h : Keeps false i false a s)
    : Keeps false i false a (State.moveBeat s x1 x2) := by
  unfold State.moveBeat
  extract_lets v1 v2 v3 v4 v5 v6 v7
  have k8 : Keeps false i false a v6.2.2 := (State.beatRead_keeps h)
  clear_value v6
  have k9 : Keeps false i false a v7.2 := (State.beatWrite_keeps k8)
  clear_value v7
  exact (keeps_ite (State.dmaStop_keeps (State.mpuRefuse_keeps h)) (keeps_ite (State.dmaStop_keeps
      (State.mpuRefuse_keeps h)) (keeps_ite (State.dmaStop_keeps k8) (keeps_ite (State.dmaStop_keeps k9)
          (State.beatDone_keeps k9)))))

theorem execDmaBeat_keeps {x0 x2} (h : Keeps false i false a s) (ht : (execDmaBeat x0 s x2) = .next t)
    : Keeps false i false a t := by
  obtain rfl := Host.Outcome.next.inj ht
  extract_lets v1 v2
  have k3 : Keeps false i false a v2 := (keeps_mk h (eS := EvtState.sram_mk) (eX := EvtState.sramBad_mk))
  clear_value v2
  refine keeps_ite ?_ ?_
  · exact h
  · refine keeps_ite ?_ ?_
    · exact (State.dmaStop_keeps h)
    · refine keeps_ite ?_ ?_
      · exact h
      · split
        · rename_i u4 u5 u6
          exact (State.withErrs_keeps k3 (fun _ g7 => (State.moveBeat_keeps g7)))
        · rename_i u8 u9
          exact h

end Sys2Proof.Machine
end

