-- ==== Sys2Proof/Laws/KeepsHost.lean ====
section
/-! SUPPORT.  What each operation and each command keeps, in the sense of `Keeps`: the host ports and the step. -/

set_option Elab.async false

namespace Sys2Proof.Machine

variable {m i p : Bool} {a s t : State}

/-! ## HostBus -/

theorem State.busRead_keeps {x1 x2 x3 x4 x5 x6} (h : Keeps m i p a s)
    (hf5 : ∀ w0, Keeps m i p a w0 → Keeps m i p a (x5 w0).2)
    (hf6 : ∀ w0, Keeps m i p a w0 → Keeps m i p a (x6 w0)) : Keeps m i p a (State.busRead s x1 x2 x3 x4 x5 x6)
    := by
  unfold State.busRead
  extract_lets v1 v2 v3 v4
  have k5 : Keeps m i p a v1.2 := by
    unfold v1
    refine hf5 _ ?_
    exact h
  clear_value v1
  have k6 : Keeps m i p a v3 := k5
  clear_value v3
  refine keeps_ite ?_ ?_
  · exact (State.protoFail_keeps h)
  · refine keeps_ite ?_ ?_
    · exact (State.refuse_keeps h)
    · split
      · rename_i u7 u8
        exact (State.refuse_keeps k5)
      · rename_i u9 u10
        exact (State.refuse_keeps k5)
      · rename_i u11 u12 u13
        extract_lets v14
        have k15 : Keeps m i p a v14 := (keeps_mk k6)
        clear_value v14
        refine keeps_ite ?_ ?_
        · exact (State.protoFail_keeps k15)
        · refine keeps_ite ?_ ?_
          · refine hf6 _ ?_
            exact k15
          · exact k15

theorem pureAns_keeps {x0} (h : Keeps m i p a s) : Keeps m i p a (pureAns x0 s).2 := by
  unfold pureAns
  exact h

theorem State.readOnly_keeps {x1 x2 x3 x4} (h : Keeps m i p a s)
    (hf4 : ∀ w0, Keeps m i p a w0 → Keeps m i p a (x4 w0).2) : Keeps m i p a (State.readOnly s x1 x2 x3 x4) := by
  unfold State.readOnly
  refine State.busCmd_keeps ?_ ?_
  · exact h
  · intro w3 k4
    refine State.busRead_keeps ?_ ?_ ?_
    · exact k4
    · intro w6 k7
      refine hf4 _ ?_
      exact k7
    · intro w8 k9
      exact k9

theorem State.readWrite_keeps {x1 x2 x3 x4 x5 x6} (h : Keeps m i p a s)
    (hf5 : ∀ w0, Keeps m i p a w0 → Keeps m i p a (x5 w0).2)
    (hf6 : ∀ w0 w1 t, Keeps m i p a w0 → x6 w0 w1 = some t → Keeps m i p a t)
    : Keeps m i p a (State.readWrite s x1 x2 x3 x4 x5 x6) := by
  unfold State.readWrite
  refine State.busCmd_keeps h fun w k => ?_
  exact keeps_ite (State.busRead_keeps k hf5 fun _ k => k) (State.busWrite_keeps k hf6)

theorem State.winDataRead_keeps {x1} (h : Keeps false i p a s) : Keeps false i p a (State.winDataRead s x1) := by
  unfold State.winDataRead
  extract_lets v1 v2
  refine keeps_ite ?_ ?_
  · exact (State.refuse_keeps h)
  · refine keeps_ite ?_ ?_
    · exact (State.refuse_keeps h)
    · refine keeps_ite ?_ ?_
      · exact (State.refuse_keeps h)
      · refine State.busRead_keeps ?_ ?_ ?_
        · exact h
        · intro w7 k8
          extract_lets v9
          have k10 : Keeps false i p a v9.2 := (State.winRead_keeps k8)
          clear_value v9
          exact k10
        · intro w11 k12
          extract_lets v13
          exact (keeps_mk k12)

theorem State.winDataWrite_keeps {x1} (h : Keeps false i false a s)
    : Keeps false i false a (State.winDataWrite s x1) := by
  unfold State.winDataWrite
  extract_lets v1 v2 v3 v4 v5 v6
  have k7 : Keeps false i false a v4.2 := (State.winWrite_keeps h)
  clear_value v4
  have k8 : Keeps false i false a v5 := k7
  clear_value v5
  refine keeps_ite ?_ ?_
  · exact (State.refuse_keeps h)
  · refine keeps_ite ?_ ?_
    · exact (State.refuse_keeps h)
    · refine keeps_ite ?_ ?_
      · exact (State.protoFail_keeps h)
      · split
        · rename_i u9 u10
          exact (State.refuse_keeps k7)
        · rename_i u11 u12
          exact (State.refuse_keeps k7)
        · rename_i u13 u14
          refine State.busWrite_keeps ?_ ?_
          · exact h
          · intro w15 w16 w17 k18 w19
            cases w19
            exact (keeps_mk k8)

theorem execBusTransactionAbandon_keeps (h : Keeps m i p a s) (ht : (execBusTransactionAbandon s) = .next t)
    : Keeps m i p a t := by
  obtain rfl := Host.Outcome.next.inj ht
  exact (keeps_ite (State.protoFail_keeps h) h)

theorem execBusTimeout_keeps (h : Keeps m i p a s) (ht : (execBusTimeout s) = .next t) : Keeps m i p a t := by
  obtain rfl := Host.Outcome.next.inj ht
  exact (keeps_ite (State.arm_keeps (State.protoFail_keeps h)) h)

theorem execUnknownCommand_keeps {x0} (h : Keeps m i p a s) (ht : (execUnknownCommand x0 s) = .next t)
    : Keeps m i p a t := by
  obtain rfl := Host.Outcome.next.inj ht
  exact (keeps_ite (State.refuse_keeps h) h)

theorem State.notifyMessage_keeps (h : Keeps m i p a s) : Keeps m i p a (State.notifyMessage s).2 := by
  unfold State.notifyMessage
  extract_lets v1 v2 v3 v4
  have k5 : Keeps m i p a v4.2 := (State.takeFree_keeps h)
  clear_value v4
  generalize v2 = v2z
  split
  · rename_i u6 u7 u8
    exact h
  · rename_i u9
    exact k5

theorem State.sendNotify_keeps {x1} (h : Keeps m i p a s) : Keeps m i p a (State.sendNotify s x1) := by
  unfold State.sendNotify
  extract_lets v1 v2 v3 v4 v5 v6 v7 v8
  have k9 : Keeps m i p a v1.2 := (State.notifyMessage_keeps h)
  clear_value v1
  have k10 : Keeps m i p a v2 := k9
  clear_value v2
  have k11 : Keeps m i p a v4 := (keeps_mk k10)
  clear_value v4
  have k12 : Keeps m i p a v5 := (State.count_keeps k11)
  clear_value v5
  have k13 : Keeps m i p a v7 := (keeps_mk k12)
  clear_value v7
  exact (keeps_ite (keeps_ite (State.disarm_keeps (State.count_keeps k13)) (State.arm_keeps (keeps_mk k12)))
      (State.disarm_keeps (keeps_mk k11)))

theorem execHostNotify_keeps {x0} (h : Keeps m i p a s) (ht : (execHostNotify x0 s) = .next t) : Keeps m i p a t := by
  obtain rfl := Host.Outcome.next.inj ht
  exact (keeps_ite (State.sendNotify_keeps h) h)

theorem execControllerRetry_keeps {x0} (h : Keeps m i p a s) (ht : (execControllerRetry x0 s) = .next t)
    : Keeps m i p a t := by
  obtain rfl := Host.Outcome.next.inj ht
  refine keeps_ite ?_ ?_
  · split
    · rename_i u1 u2 u3
      have k4 := State.expire_keeps h u3
      exact (State.sendNotify_keeps k4)
    · rename_i u5 u6
      exact h
  · exact h

theorem execAlertResponse_keeps {x0 x2} (h : Keeps m i p a s) (ht : (execAlertResponse x0 s x2) = .next t)
    : Keeps m i p a t := by
  obtain rfl := Host.Outcome.next.inj ht
  extract_lets v1 v2
  exact (keeps_ite (keeps_ite (State.count_keeps h) (keeps_mk h)) h)

/-! ## HostCmds -/

theorem execPage_keeps {x0} (h : Keeps m i p a s) (ht : (execPage x0 s) = .next t) : Keeps m i p a t := by
  obtain rfl := Host.Outcome.next.inj ht
  refine State.readWrite_keeps ?_ ?_ ?_
  · exact h
  · intro w2 k3
    exact (pureAns_keeps k3)
  · intro w4 w5 w6 k7 w8
    extract_lets v9 at w8
    split at w8
    · cases w8
      exact (State.setF_keeps k7)
    · cases w8

theorem State.operation_keeps {x1} (h : Keeps m i p a s) (ht : (State.operation s x1) = some t)
    : Keeps m i p a t := by
  unfold State.operation at ht
  extract_lets ls v at ht
  have k : Keeps m i p a v := by
    refine keeps_foldl (fun u n k => ?_) h
    split
    · exact keeps_ite (State.railOn_keeps k) (State.railOffRequest_keeps k)
    · exact k
  clear_value v
  split at ht
  · cases ht
  · rw [← Option.some.inj ht]
    exact keeps_ite (State.cml_keeps k) k

theorem execOperation_keeps {x0} (h : Keeps m i p a s) (ht : (execOperation x0 s) = .next t) : Keeps m i p a t := by
  obtain rfl := Host.Outcome.next.inj ht
  refine State.readWrite_keeps ?_ ?_ ?_
  · exact h
  · intro w2 k3
    exact (pureAns_keeps k3)
  · intro w4 w5 w6 k7 w8
    split at w8
    · exact State.operation_keeps k7 w8
    · split at w8
      · exact State.operation_keeps k7 w8
      · cases w8

theorem execClearFaults_keeps {x0} (h : Keeps m i p a s) (ht : (execClearFaults x0 s) = .next t)
    : Keeps m i p a t := by
  obtain rfl := Host.Outcome.next.inj ht
  refine State.busCmd_keeps ?_ ?_
  · exact h
  · intro w2 k3
    refine State.busWrite_keeps ?_ ?_
    · exact k3
    · intro w4 w5 w6 k7 w8
      cases w8
      exact (State.setF_keeps (keeps_foldl (fun _ _ g9 => (State.pmClearWord_keeps (State.pmClear_keeps g9))) k7))

theorem execCapability_keeps {x0} (h : Keeps m i p a s) (ht : (execCapability x0 s) = .next t) : Keeps m i p a t := by
  obtain rfl := Host.Outcome.next.inj ht
  exact (State.readOnly_keeps h (fun _ g1 => (pureAns_keeps g1)))

theorem execVoutMode_keeps {x0} (h : Keeps m i p a s) (ht : (execVoutMode x0 s) = .next t) : Keeps m i p a t := by
  obtain rfl := Host.Outcome.next.inj ht
  exact (State.readOnly_keeps h (fun _ g1 => (pureAns_keeps g1)))

theorem execVoutCommand_keeps {x0} (h : Keeps m i p a s) (ht : (execVoutCommand x0 s) = .next t)
    : Keeps m i p a t := by
  obtain rfl := Host.Outcome.next.inj ht
  refine State.readWrite_keeps ?_ ?_ ?_
  · exact h
  · intro w2 k3
    exact (pureAns_keeps k3)
  · intro w4 w5 w6 k7 w8
    cases w8
    exact (keeps_foldl (fun _ _ g9 => (State.writeVset_keeps g9)) k7)

theorem execVoutMax_keeps {x0} (h : Keeps m i p a s) (ht : (execVoutMax x0 s) = .next t) : Keeps m i p a t := by
  obtain rfl := Host.Outcome.next.inj ht
  exact (State.readOnly_keeps h (fun _ g1 => (pureAns_keeps g1)))

theorem execVoutTransitionRate_keeps {x0} (h : Keeps m i p a s) (ht : (execVoutTransitionRate x0 s) = .next t)
    : Keeps m i p a t := by
  obtain rfl := Host.Outcome.next.inj ht
  refine State.readWrite_keeps ?_ ?_ ?_
  · exact h
  · intro w2 k3
    exact (pureAns_keeps k3)
  · intro w4 w5 w6 k7 w8
    extract_lets v9 at w8
    split at w8
    · cases w8
      exact (keeps_foldl (fun _ _ g10 => (State.setF_keeps g10)) k7)
    · cases w8

theorem execVoutMin_keeps {x0} (h : Keeps m i p a s) (ht : (execVoutMin x0 s) = .next t) : Keeps m i p a t := by
  obtain rfl := Host.Outcome.next.inj ht
  exact (State.readOnly_keeps h (fun _ g1 => (pureAns_keeps g1)))

theorem execVoutOvFaultLimit_keeps {x0} (h : Keeps m i p a s) (ht : (execVoutOvFaultLimit x0 s) = .next t)
    : Keeps m i p a t := by
  obtain rfl := Host.Outcome.next.inj ht
  refine State.readOnly_keeps ?_ ?_
  · exact h
  · intro w2 k3
    extract_lets v4 v5
    have k6 : Keeps m i p a v5.2 := (State.takeFree_keeps k3)
    clear_value v5
    split
    · rename_i u7
      exact k3
    · rename_i u8
      exact k6

theorem execVoutUvFaultLimit_keeps {x0} (h : Keeps m i p a s) (ht : (execVoutUvFaultLimit x0 s) = .next t)
    : Keeps m i p a t := by
  obtain rfl := Host.Outcome.next.inj ht
  exact (State.readOnly_keeps h (fun _ g1 => (pureAns_keeps g1)))

theorem execIoutOcFaultLimit_keeps {x0} (h : Keeps m i p a s) (ht : (execIoutOcFaultLimit x0 s) = .next t)
    : Keeps m i p a t := by
  obtain rfl := Host.Outcome.next.inj ht
  exact (State.readOnly_keeps h (fun _ g1 => (pureAns_keeps g1)))

theorem State.statusClear_keeps {x1} (h : Keeps m i p a s) : Keeps m i p a (State.statusClear s x1) := by
  unfold State.statusClear
  exact (keeps_foldl (fun _ _ g1 => (State.pmClearWord_keeps g1)) h)

theorem execStatusByte_keeps {x0} (h : Keeps m i p a s) (ht : (execStatusByte x0 s) = .next t) : Keeps m i p a t := by
  obtain rfl := Host.Outcome.next.inj ht
  refine State.readWrite_keeps ?_ ?_ ?_
  · exact h
  · intro w2 k3
    exact (pureAns_keeps k3)
  · intro w4 w5 w6 k7 w8
    cases w8
    exact (State.statusClear_keeps k7)

theorem execStatusWord_keeps {x0} (h : Keeps m i p a s) (ht : (execStatusWord x0 s) = .next t) : Keeps m i p a t := by
  obtain rfl := Host.Outcome.next.inj ht
  refine State.readWrite_keeps ?_ ?_ ?_
  · exact h
  · intro w2 k3
    extract_lets v4
    exact (keeps_mk k3)
  · intro w5 w6 w7 k8 w9
    cases w9
    exact (State.statusClear_keeps k8)

theorem State.pmByte_keeps {x1 x2 x3} (h : Keeps m i p a s) : Keeps m i p a (State.pmByte s x1 x2 x3) := by
  unfold State.pmByte
  refine State.readWrite_keeps ?_ ?_ ?_
  · exact h
  · intro w2 k3
    exact (pureAns_keeps k3)
  · intro w4 w5 w6 k7 w8
    cases w8
    exact (keeps_foldl (fun _ _ g9 => (State.pmClear_keeps g9)) k7)

theorem execStatusVout_keeps {x0} (h : Keeps m i p a s) (ht : (execStatusVout x0 s) = .next t) : Keeps m i p a t := by
  obtain rfl := Host.Outcome.next.inj ht
  exact (State.pmByte_keeps h)

theorem execStatusIout_keeps {x0} (h : Keeps m i p a s) (ht : (execStatusIout x0 s) = .next t) : Keeps m i p a t := by
  obtain rfl := Host.Outcome.next.inj ht
  exact (State.pmByte_keeps h)

theorem execStatusTemperature_keeps {x0} (h : Keeps m i p a s) (ht : (execStatusTemperature x0 s) = .next t)
    : Keeps m i p a t := by
  obtain rfl := Host.Outcome.next.inj ht
  exact (State.pmByte_keeps h)

theorem execStatusCml_keeps {x0} (h : Keeps m i p a s) (ht : (execStatusCml x0 s) = .next t) : Keeps m i p a t := by
  obtain rfl := Host.Outcome.next.inj ht
  refine State.readWrite_keeps ?_ ?_ ?_
  · exact h
  · intro w2 k3
    exact (pureAns_keeps k3)
  · intro w4 w5 w6 k7 w8
    cases w8
    exact (State.setF_keeps k7)

theorem execStatusMfrSpecific_keeps {x0} (h : Keeps m i p a s) (ht : (execStatusMfrSpecific x0 s) = .next t)
    : Keeps m i p a t := by
  obtain rfl := Host.Outcome.next.inj ht
  exact (State.pmByte_keeps h)

theorem execReadVin_keeps {x0} (h : Keeps m i p a s) (ht : (execReadVin x0 s) = .next t) : Keeps m i p a t := by
  obtain rfl := Host.Outcome.next.inj ht
  refine State.readOnly_keeps ?_ ?_
  · exact h
  · intro w2 k3
    split
    · rename_i u4
      exact k3
    · rename_i u5
      exact k3

theorem execReadVout_keeps {x0} (h : Keeps m i p a s) (ht : (execReadVout x0 s) = .next t) : Keeps m i p a t := by
  obtain rfl := Host.Outcome.next.inj ht
  exact (State.readOnly_keeps h (fun _ g1 => (pureAns_keeps g1)))

theorem execReadIout_keeps {x0} (h : Keeps m i p a s) (ht : (execReadIout x0 s) = .next t) : Keeps m i p a t := by
  obtain rfl := Host.Outcome.next.inj ht
  exact (State.readOnly_keeps h (fun _ g1 => (pureAns_keeps g1)))

theorem execReadTemperature1_keeps {x0} (h : Keeps m i p a s) (ht : (execReadTemperature1 x0 s) = .next t)
    : Keeps m i p a t := by
  obtain rfl := Host.Outcome.next.inj ht
  refine State.readOnly_keeps ?_ ?_
  · exact h
  · intro w2 k3
    extract_lets v4
    have k5 : Keeps m i p a v4.2 := (State.takeFree_keeps k3)
    clear_value v4
    split
    · rename_i u6 u7 u8
      exact k3
    · rename_i u9 u10
      exact k5

theorem execReadTemperature2_keeps {x0} (h : Keeps m i p a s) (ht : (execReadTemperature2 x0 s) = .next t)
    : Keeps m i p a t := by
  obtain rfl := Host.Outcome.next.inj ht
  refine State.readOnly_keeps ?_ ?_
  · exact h
  · intro w2 k3
    split
    · rename_i u4 u5 u6
      exact k3
    · rename_i u7 u8
      exact k3

theorem execPmbusRevision_keeps {x0} (h : Keeps m i p a s) (ht : (execPmbusRevision x0 s) = .next t)
    : Keeps m i p a t := by
  obtain rfl := Host.Outcome.next.inj ht
  exact (State.readOnly_keeps h (fun _ g1 => (pureAns_keeps g1)))

theorem execMfrId_keeps {x0} (h : Keeps m i p a s) (ht : (execMfrId x0 s) = .next t) : Keeps m i p a t := by
  obtain rfl := Host.Outcome.next.inj ht
  exact (State.readOnly_keeps h (fun _ g1 => (pureAns_keeps g1)))

theorem execMfrModel_keeps {x0} (h : Keeps m i p a s) (ht : (execMfrModel x0 s) = .next t) : Keeps m i p a t := by
  obtain rfl := Host.Outcome.next.inj ht
  exact (State.readOnly_keeps h (fun _ g1 => (pureAns_keeps g1)))

theorem execMfrRevision_keeps {x0} (h : Keeps m i p a s) (ht : (execMfrRevision x0 s) = .next t)
    : Keeps m i p a t := by
  obtain rfl := Host.Outcome.next.inj ht
  refine State.readOnly_keeps ?_ ?_
  · exact h
  · intro w2 k3
    extract_lets v4
    have k5 : Keeps m i p a v4.2 := (State.ledgRead_keeps k3)
    clear_value v4
    exact k5

theorem execMfrSerial_keeps {x0} (h : Keeps m i p a s) (ht : (execMfrSerial x0 s) = .next t) : Keeps m i p a t := by
  obtain rfl := Host.Outcome.next.inj ht
  refine State.readOnly_keeps ?_ ?_
  · exact h
  · intro w2 k3
    extract_lets v4
    have k5 : Keeps m i p a v4.2 := (State.ledgRead_keeps k3)
    clear_value v4
    exact k5

theorem execWinAddr_keeps {x0} (h : Keeps m i p a s) (ht : (execWinAddr x0 s) = .next t) : Keeps m i p a t := by
  obtain rfl := Host.Outcome.next.inj ht
  refine State.busCmd_keeps ?_ ?_
  · exact h
  · intro w4 k5
    refine keeps_ite ?_ ?_
    · exact (State.busRead_keeps k5 (fun _ g8 => (pureAns_keeps g8)) (fun _ g9 => g9))
    · refine State.busWrite_keeps ?_ ?_
      · exact k5
      · intro w10 w11 w12 k13 w14
        extract_lets v15 v16 at w14
        split at w14
        · cases w14
        · cases w14
          exact (keeps_mk k13)

theorem execWinData_keeps {x0} (h : Keeps false i false a s) (ht : (execWinData x0 s) = .next t)
    : Keeps false i false a t := by
  obtain rfl := Host.Outcome.next.inj ht
  exact (State.meeting_keeps h (fun _ g1 => (State.busCmd_keeps g1 (fun _ g2 => (keeps_ite (State.winDataRead_keeps
      g2) (State.winDataWrite_keeps g2))))))

theorem execQRead_keeps {x0} (h : Keeps m i p a s) (ht : (execQRead x0 s) = .next t) : Keeps m i p a t := by
  obtain rfl := Host.Outcome.next.inj ht
  refine State.busCmd_keeps ?_ ?_
  · exact h
  · intro w2 k3
    extract_lets v4
    exact (State.busRead_keeps k3 (fun _ g5 => (pureAns_keeps g5)) (fun _ g6 => (keeps_ite g6 (State.dequeue_keeps
        g6))))

theorem execQStatus_keeps {x0} (h : Keeps m i p a s) (ht : (execQStatus x0 s) = .next t) : Keeps m i p a t := by
  obtain rfl := Host.Outcome.next.inj ht
  exact (State.readOnly_keeps h (fun _ g1 => (pureAns_keeps g1)))

theorem execSnapRead_keeps {x0 x1} (h : Keeps m i p a s) (ht : (execSnapRead x0 x1 s) = .next t)
    : Keeps m i p a t := by
  obtain rfl := Host.Outcome.next.inj ht
  refine State.busCmd_keeps ?_ ?_
  · exact h
  · intro w3 k4
    refine State.busRead_keeps ?_ ?_ ?_
    · exact k4
    · intro w6 k7
      extract_lets v8 v9
      split
      · rename_i u10
        exact k7
      · rename_i u11
        exact k7
    · intro w12 k13
      exact k13

theorem execLatest_keeps {x0} (h : Keeps m i p a s) (ht : (execLatest x0 s) = .next t) : Keeps m i p a t := by
  obtain rfl := Host.Outcome.next.inj ht
  extract_lets v1
  refine State.busCmd_keeps ?_ ?_
  · exact h
  · intro w4 k5
    refine State.busRead_keeps ?_ ?_ ?_
    · exact k5
    · intro w7 k8
      split
      · rename_i u9
        exact k8
      · rename_i u10
        exact k8
    · intro w11 k12
      exact k12

theorem execEvtPend_keeps {x0} (h : Keeps m i p a s) (ht : (execEvtPend x0 s) = .next t) : Keeps m i p a t := by
  obtain rfl := Host.Outcome.next.inj ht
  exact (State.readOnly_keeps h (fun _ g1 => (pureAns_keeps g1)))

theorem execFstat_keeps {x0} (h : Keeps m i p a s) (ht : (execFstat x0 s) = .next t) : Keeps m i p a t := by
  obtain rfl := Host.Outcome.next.inj ht
  exact (State.readOnly_keeps h (fun _ g1 => (pureAns_keeps g1)))

theorem execWdChal_keeps {x0} (h : Keeps m i p a s) (ht : (execWdChal x0 s) = .next t) : Keeps m i p a t := by
  obtain rfl := Host.Outcome.next.inj ht
  refine State.readOnly_keeps ?_ ?_
  · exact h
  · intro w2 k3
    extract_lets v4
    have k5 : Keeps m i p a v4.2 := (State.readReg_keeps k3)
    clear_value v4
    exact k5

theorem execParamStat_keeps {x0} (h : Keeps m i p a s) (ht : (execParamStat x0 s) = .next t) : Keeps m i p a t := by
  obtain rfl := Host.Outcome.next.inj ht
  exact (State.readOnly_keeps h (fun _ g1 => (pureAns_keeps g1)))

theorem execDigest_keeps {x0} (h : Keeps m i p a s) (ht : (execDigest x0 s) = .next t) : Keeps m i p a t := by
  obtain rfl := Host.Outcome.next.inj ht
  exact (State.readOnly_keeps h (fun _ g1 => (pureAns_keeps g1)))

theorem execSysInfo_keeps {x0} (h : Keeps m i p a s) (ht : (execSysInfo x0 s) = .next t) : Keeps m i p a t := by
  obtain rfl := Host.Outcome.next.inj ht
  refine State.readOnly_keeps ?_ ?_
  · exact h
  · intro w2 k3
    extract_lets v4
    have k5 : Keeps m i p a v4.2 := (State.shown_keeps k3)
    clear_value v4
    exact k5

theorem execRailStatus_keeps {x0} (h : Keeps m i p a s) (ht : (execRailStatus x0 s) = .next t) : Keeps m i p a t := by
  obtain rfl := Host.Outcome.next.inj ht
  extract_lets v1
  refine State.busCmd_keeps ?_ ?_
  · exact h
  · intro w4 k5
    refine State.busRead_keeps ?_ ?_ ?_
    · exact k5
    · intro w7 k8
      extract_lets v9
      have k10 : Keeps m i p a v9.2 := (State.freeBytes_keeps (State.cml_keeps k8))
      clear_value v9
      split
      · rename_i u11
        exact k8
      · rename_i u12
        exact k10
    · intro w13 k14
      exact k14

theorem State.setInbox_keeps {x1} (h : Keeps m i p a s) : Keeps m i p a (State.setInbox s x1) := by
  unfold State.setInbox
  exact (keeps_foldl (fun _ _ g1 => (State.setReg_keeps g1)) h)

theorem execMboxWrite_keeps {x0} (h : Keeps m i p a s) (ht : (execMboxWrite x0 s) = .next t) : Keeps m i p a t := by
  obtain rfl := Host.Outcome.next.inj ht
  refine State.busCmd_keeps ?_ ?_
  · exact h
  · intro w2 k3
    refine keeps_ite ?_ ?_
    · exact (State.refuse_keeps k3)
    · refine State.busWrite_keeps ?_ ?_
      · exact k3
      · intro w4 w5 w6 k7 w8
        cases w8
        exact (State.event_keeps (State.setF_keeps (State.setB_keeps (State.setInbox_keeps k7))))

theorem execMboxRead_keeps {x0} (h : Keeps m i p a s) (ht : (execMboxRead x0 s) = .next t) : Keeps m i p a t := by
  obtain rfl := Host.Outcome.next.inj ht
  refine State.busCmd_keeps ?_ ?_
  · exact h
  · intro w3 k4
    refine State.busRead_keeps ?_ ?_ ?_
    · exact k4
    · intro w6 k7
      split
      · rename_i u8
        exact k7
      · rename_i u9
        exact k7
    · intro w10 k11
      exact (State.setF_keeps k11)

/-! ## Quad -/

theorem State.quadFrame_keeps {x1 x2 x3 x4 x5 x6} (h : Keeps m i p a s)
    (hf6 : ∀ w0, Keeps m i p a w0 → Keeps m i p a (x6 w0)) : Keeps m i p a (State.quadFrame s x1 x2 x3 x4 x5 x6)
    := by
  unfold State.quadFrame
  refine keeps_ite ?_ ?_
  · exact h
  · refine keeps_ite ?_ ?_
    · exact (keeps_ite (State.quadAnswer_keeps h) h)
    · refine keeps_ite ?_ ?_
      · exact (keeps_ite (State.quadAnswer_keeps h) h)
      · refine State.meeting_keeps ?_ ?_
        · exact h
        · intro w5 k6
          refine hf6 _ ?_
          exact k6

theorem execQuadWinRead_keeps {x0 x1 x2} (h : Keeps false i p a s) (ht : (execQuadWinRead x0 x1 x2 s) = .next t)
    : Keeps false i p a t := by
  obtain rfl := Host.Outcome.next.inj ht
  refine State.quadFrame_keeps ?_ ?_
  · exact h
  · intro w2 k3
    extract_lets v4 v5
    have k6 : Keeps false i p a v5.2 := (State.winRead_keeps k3)
    clear_value v5
    exact (keeps_ite (State.quadAnswer_keeps k3) (State.quadAnswer_keeps k6))

theorem State.quadWrite_keeps {x1 x2} (h : Keeps false i false a s)
    : Keeps false i false a (State.quadWrite s x1 x2) := by
  unfold State.quadWrite
  extract_lets v1 v2
  have k3 : Keeps false i false a v2.2 := (State.winWrite_keeps h)
  clear_value v2
  split
  · rename_i u4 u5 u6 u7
    extract_lets v8
    have k9 : Keeps false i false a v8 := (keeps_mk h)
    clear_value v8
    exact (keeps_ite (State.quadAnswer_keeps h) (keeps_ite (State.quadAnswer_keeps h) (State.quadAnswer_keeps
        (State.arm_keeps (State.setB_keeps k9)))))
  · rename_i u10 u11
    split
    · rename_i u12 u13
      exact (State.quadAnswer_keeps k3)
    · rename_i u14 u15
      exact (State.quadAnswer_keeps k3)
    · rename_i u16 u17
      exact (State.quadAnswer_keeps k3)

theorem execQuadWinWrite_keeps {x0 x1 x2} (h : Keeps false i false a s)
    (ht : (execQuadWinWrite x0 x1 x2 s) = .next t) : Keeps false i false a t := by
  obtain rfl := Host.Outcome.next.inj ht
  refine State.quadFrame_keeps ?_ ?_
  · exact h
  · intro w2 k3
    extract_lets v4
    exact (keeps_ite k3 (keeps_ite (State.quadAnswer_keeps k3) (State.quadWrite_keeps k3)))

theorem execQuadQRead_keeps {x0 x1} (h : Keeps m i p a s) (ht : (execQuadQRead x0 x1 s) = .next t)
    : Keeps m i p a t := by
  obtain rfl := Host.Outcome.next.inj ht
  refine State.quadFrame_keeps ?_ ?_
  · exact h
  · intro w2 k3
    extract_lets v4 v5
    have k6 : Keeps m i p a v5 := (keeps_ite (State.dequeue_keeps k3) k3)
    clear_value v5
    exact (keeps_ite (State.quadAnswer_keeps k3) (keeps_ite (State.quadAnswer_keeps k3) (State.quadAnswer_keeps k6)))

theorem execQuadStatus_keeps {x0} (h : Keeps m i p a s) (ht : (execQuadStatus x0 s) = .next t) : Keeps m i p a t := by
  obtain rfl := Host.Outcome.next.inj ht
  exact (State.quadFrame_keeps h (fun _ g1 => (keeps_ite (State.quadAnswer_keeps g1) (keeps_ite
      (State.quadAnswer_keeps g1) (State.quadAnswer_keeps g1)))))

theorem execQuadBankStoreDone_keeps (h : Keeps false i p a s) (ht : (execQuadBankStoreDone s) = .next t)
    : Keeps false i p a t := by
  obtain rfl := Host.Outcome.next.inj ht
  extract_lets v1 v2 v3
  have k4 : Keeps false i p a v1 := (State.disarm_keeps h)
  clear_value v1
  have k5 : Keeps false i p a v3 := (keeps_mk k4)
  clear_value v3
  split
  · rename_i u6 u7 u8 u9 u10
    exact (State.setB_keeps (State.bankWrite_keeps k5))
  · rename_i u11 u12
    exact h

/-! ## Flags -/

theorem execPinStateLineChange_keeps {x0 x1} (h : Keeps m i p a s)
    (ht : (execPinStateLineChange x0 x1 s) = .next t) : Keeps m i p a t := by
  obtain rfl := Host.Outcome.next.inj ht
  exact (State.updSys_keeps h)

end Sys2Proof.Machine
end

