-- ==== Sys2Proof/Laws/State.lean ====
section
/-! SUPPORT.  What an update of one part of the state leaves as it was: one lemma for each field under each update. -/

set_option Elab.async false

namespace Sys2Proof.Machine

/-! ## setReg -/

@[simp] theorem State.setReg_pending (s : State) (k : Nat) (v : Word) : (s.setReg k v).pending = s.pending := rfl
@[simp] theorem State.setReg_clock (s : State) (k : Nat) (v : Word) : (s.setReg k v).clock = s.clock := rfl
@[simp] theorem State.setReg_htOfs (s : State) (k : Nat) (v : Word) : (s.setReg k v).htOfs = s.htOfs := rfl
@[simp] theorem State.setReg_freeCount (s : State) (k : Nat) (v : Word) : (s.setReg k v).freeCount = s.freeCount := rfl
@[simp] theorem State.setReg_timers (s : State) (k : Nat) (v : Word) : (s.setReg k v).timers = s.timers := rfl
@[simp] theorem State.setReg_trace (s : State) (k : Nat) (v : Word) : (s.setReg k v).trace = s.trace := rfl
@[simp] theorem State.setReg_tracePost (s : State) (k : Nat) (v : Word) : (s.setReg k v).tracePost = s.tracePost := rfl
@[simp] theorem State.setReg_sys (s : State) (k : Nat) (v : Word) : (s.setReg k v).sys = s.sys := rfl
@[simp] theorem State.setReg_acrd (s : State) (k : Nat) (v : Word) : (s.setReg k v).acrd = s.acrd := rfl
@[simp] theorem State.setReg_loops (s : State) (k : Nat) (v : Word) : (s.setReg k v).loops = s.loops := rfl
@[simp] theorem State.setReg_phases (s : State) (k : Nat) (v : Word) : (s.setReg k v).phases = s.phases := rfl
@[simp] theorem State.setReg_ilReply (s : State) (k : Nat) (v : Word) : (s.setReg k v).ilReply = s.ilReply := rfl
@[simp] theorem State.setReg_rails (s : State) (k : Nat) (v : Word) : (s.setReg k v).rails = s.rails := rfl
@[simp] theorem State.setReg_groups (s : State) (k : Nat) (v : Word) : (s.setReg k v).groups = s.groups := rfl
@[simp] theorem State.setReg_seq (s : State) (k : Nat) (v : Word) : (s.setReg k v).seq = s.seq := rfl
@[simp] theorem State.setReg_sup (s : State) (k : Nat) (v : Word) : (s.setReg k v).sup = s.sup := rfl
@[simp] theorem State.setReg_path (s : State) (k : Nat) (v : Word) : (s.setReg k v).path = s.path := rfl
@[simp] theorem State.setReg_meas (s : State) (k : Nat) (v : Word) : (s.setReg k v).meas = s.meas := rfl
@[simp] theorem State.setReg_flt (s : State) (k : Nat) (v : Word) : (s.setReg k v).flt = s.flt := rfl
@[simp] theorem State.setReg_ledg (s : State) (k : Nat) (v : Word) : (s.setReg k v).ledg = s.ledg := rfl
@[simp] theorem State.setReg_evt (s : State) (k : Nat) (v : Word) : (s.setReg k v).evt = s.evt := rfl
@[simp] theorem State.setReg_host (s : State) (k : Nat) (v : Word) : (s.setReg k v).host = s.host := rfl
@[simp] theorem State.setReg_link (s : State) (k : Nat) (v : Word) : (s.setReg k v).link = s.link := rfl
@[simp] theorem State.setReg_bist (s : State) (k : Nat) (v : Word) : (s.setReg k v).bist = s.bist := rfl
@[simp] theorem State.setReg_hiLatch (s : State) (k : Nat) (v : Word) : (s.setReg k v).hiLatch = s.hiLatch := rfl
@[simp] theorem State.setReg_loLatch (s : State) (k : Nat) (v : Word) : (s.setReg k v).loLatch = s.loLatch := rfl

/-! ## setF -/

@[simp] theorem State.setF_pending (s : State) (f : Field) (v : Nat) : (s.setF f v).pending = s.pending := rfl
@[simp] theorem State.setF_clock (s : State) (f : Field) (v : Nat) : (s.setF f v).clock = s.clock := rfl
@[simp] theorem State.setF_htOfs (s : State) (f : Field) (v : Nat) : (s.setF f v).htOfs = s.htOfs := rfl
@[simp] theorem State.setF_freeCount (s : State) (f : Field) (v : Nat) : (s.setF f v).freeCount = s.freeCount := rfl
@[simp] theorem State.setF_timers (s : State) (f : Field) (v : Nat) : (s.setF f v).timers = s.timers := rfl
@[simp] theorem State.setF_trace (s : State) (f : Field) (v : Nat) : (s.setF f v).trace = s.trace := rfl
@[simp] theorem State.setF_tracePost (s : State) (f : Field) (v : Nat) : (s.setF f v).tracePost = s.tracePost := rfl
@[simp] theorem State.setF_sys (s : State) (f : Field) (v : Nat) : (s.setF f v).sys = s.sys := rfl
@[simp] theorem State.setF_acrd (s : State) (f : Field) (v : Nat) : (s.setF f v).acrd = s.acrd := rfl
@[simp] theorem State.setF_loops (s : State) (f : Field) (v : Nat) : (s.setF f v).loops = s.loops := rfl
@[simp] theorem State.setF_phases (s : State) (f : Field) (v : Nat) : (s.setF f v).phases = s.phases := rfl
@[simp] theorem State.setF_ilReply (s : State) (f : Field) (v : Nat) : (s.setF f v).ilReply = s.ilReply := rfl
@[simp] theorem State.setF_rails (s : State) (f : Field) (v : Nat) : (s.setF f v).rails = s.rails := rfl
@[simp] theorem State.setF_groups (s : State) (f : Field) (v : Nat) : (s.setF f v).groups = s.groups := rfl
@[simp] theorem State.setF_seq (s : State) (f : Field) (v : Nat) : (s.setF f v).seq = s.seq := rfl
@[simp] theorem State.setF_sup (s : State) (f : Field) (v : Nat) : (s.setF f v).sup = s.sup := rfl
@[simp] theorem State.setF_path (s : State) (f : Field) (v : Nat) : (s.setF f v).path = s.path := rfl
@[simp] theorem State.setF_meas (s : State) (f : Field) (v : Nat) : (s.setF f v).meas = s.meas := rfl
@[simp] theorem State.setF_flt (s : State) (f : Field) (v : Nat) : (s.setF f v).flt = s.flt := rfl
@[simp] theorem State.setF_ledg (s : State) (f : Field) (v : Nat) : (s.setF f v).ledg = s.ledg := rfl
@[simp] theorem State.setF_evt (s : State) (f : Field) (v : Nat) : (s.setF f v).evt = s.evt := rfl
@[simp] theorem State.setF_host (s : State) (f : Field) (v : Nat) : (s.setF f v).host = s.host := rfl
@[simp] theorem State.setF_link (s : State) (f : Field) (v : Nat) : (s.setF f v).link = s.link := rfl
@[simp] theorem State.setF_bist (s : State) (f : Field) (v : Nat) : (s.setF f v).bist = s.bist := rfl
@[simp] theorem State.setF_hiLatch (s : State) (f : Field) (v : Nat) : (s.setF f v).hiLatch = s.hiLatch := rfl
@[simp] theorem State.setF_loLatch (s : State) (f : Field) (v : Nat) : (s.setF f v).loLatch = s.loLatch := rfl

/-! ## setB -/

@[simp] theorem State.setB_pending (s : State) (f : Field) (b : Bool) : (s.setB f b).pending = s.pending := rfl
@[simp] theorem State.setB_clock (s : State) (f : Field) (b : Bool) : (s.setB f b).clock = s.clock := rfl
@[simp] theorem State.setB_htOfs (s : State) (f : Field) (b : Bool) : (s.setB f b).htOfs = s.htOfs := rfl
@[simp] theorem State.setB_freeCount (s : State) (f : Field) (b : Bool) : (s.setB f b).freeCount = s.freeCount := rfl
@[simp] theorem State.setB_timers (s : State) (f : Field) (b : Bool) : (s.setB f b).timers = s.timers := rfl
@[simp] theorem State.setB_trace (s : State) (f : Field) (b : Bool) : (s.setB f b).trace = s.trace := rfl
@[simp] theorem State.setB_tracePost (s : State) (f : Field) (b : Bool) : (s.setB f b).tracePost = s.tracePost := rfl
@[simp] theorem State.setB_sys (s : State) (f : Field) (b : Bool) : (s.setB f b).sys = s.sys := rfl
@[simp] theorem State.setB_acrd (s : State) (f : Field) (b : Bool) : (s.setB f b).acrd = s.acrd := rfl
@[simp] theorem State.setB_loops (s : State) (f : Field) (b : Bool) : (s.setB f b).loops = s.loops := rfl
@[simp] theorem State.setB_phases (s : State) (f : Field) (b : Bool) : (s.setB f b).phases = s.phases := rfl
@[simp] theorem State.setB_ilReply (s : State) (f : Field) (b : Bool) : (s.setB f b).ilReply = s.ilReply := rfl
@[simp] theorem State.setB_rails (s : State) (f : Field) (b : Bool) : (s.setB f b).rails = s.rails := rfl
@[simp] theorem State.setB_groups (s : State) (f : Field) (b : Bool) : (s.setB f b).groups = s.groups := rfl
@[simp] theorem State.setB_seq (s : State) (f : Field) (b : Bool) : (s.setB f b).seq = s.seq := rfl
@[simp] theorem State.setB_sup (s : State) (f : Field) (b : Bool) : (s.setB f b).sup = s.sup := rfl
@[simp] theorem State.setB_path (s : State) (f : Field) (b : Bool) : (s.setB f b).path = s.path := rfl
@[simp] theorem State.setB_meas (s : State) (f : Field) (b : Bool) : (s.setB f b).meas = s.meas := rfl
@[simp] theorem State.setB_flt (s : State) (f : Field) (b : Bool) : (s.setB f b).flt = s.flt := rfl
@[simp] theorem State.setB_ledg (s : State) (f : Field) (b : Bool) : (s.setB f b).ledg = s.ledg := rfl
@[simp] theorem State.setB_evt (s : State) (f : Field) (b : Bool) : (s.setB f b).evt = s.evt := rfl
@[simp] theorem State.setB_host (s : State) (f : Field) (b : Bool) : (s.setB f b).host = s.host := rfl
@[simp] theorem State.setB_link (s : State) (f : Field) (b : Bool) : (s.setB f b).link = s.link := rfl
@[simp] theorem State.setB_bist (s : State) (f : Field) (b : Bool) : (s.setB f b).bist = s.bist := rfl
@[simp] theorem State.setB_hiLatch (s : State) (f : Field) (b : Bool) : (s.setB f b).hiLatch = s.hiLatch := rfl
@[simp] theorem State.setB_loLatch (s : State) (f : Field) (b : Bool) : (s.setB f b).loLatch = s.loLatch := rfl

/-! ## setI -/

@[simp] theorem State.setI_pending (s : State) (f : Field) (i : Int) : (s.setI f i).pending = s.pending := rfl
@[simp] theorem State.setI_clock (s : State) (f : Field) (i : Int) : (s.setI f i).clock = s.clock := rfl
@[simp] theorem State.setI_htOfs (s : State) (f : Field) (i : Int) : (s.setI f i).htOfs = s.htOfs := rfl
@[simp] theorem State.setI_freeCount (s : State) (f : Field) (i : Int) : (s.setI f i).freeCount = s.freeCount := rfl
@[simp] theorem State.setI_timers (s : State) (f : Field) (i : Int) : (s.setI f i).timers = s.timers := rfl
@[simp] theorem State.setI_trace (s : State) (f : Field) (i : Int) : (s.setI f i).trace = s.trace := rfl
@[simp] theorem State.setI_tracePost (s : State) (f : Field) (i : Int) : (s.setI f i).tracePost = s.tracePost := rfl
@[simp] theorem State.setI_sys (s : State) (f : Field) (i : Int) : (s.setI f i).sys = s.sys := rfl
@[simp] theorem State.setI_acrd (s : State) (f : Field) (i : Int) : (s.setI f i).acrd = s.acrd := rfl
@[simp] theorem State.setI_loops (s : State) (f : Field) (i : Int) : (s.setI f i).loops = s.loops := rfl
@[simp] theorem State.setI_phases (s : State) (f : Field) (i : Int) : (s.setI f i).phases = s.phases := rfl
@[simp] theorem State.setI_ilReply (s : State) (f : Field) (i : Int) : (s.setI f i).ilReply = s.ilReply := rfl
@[simp] theorem State.setI_rails (s : State) (f : Field) (i : Int) : (s.setI f i).rails = s.rails := rfl
@[simp] theorem State.setI_groups (s : State) (f : Field) (i : Int) : (s.setI f i).groups = s.groups := rfl
@[simp] theorem State.setI_seq (s : State) (f : Field) (i : Int) : (s.setI f i).seq = s.seq := rfl
@[simp] theorem State.setI_sup (s : State) (f : Field) (i : Int) : (s.setI f i).sup = s.sup := rfl
@[simp] theorem State.setI_path (s : State) (f : Field) (i : Int) : (s.setI f i).path = s.path := rfl
@[simp] theorem State.setI_meas (s : State) (f : Field) (i : Int) : (s.setI f i).meas = s.meas := rfl
@[simp] theorem State.setI_flt (s : State) (f : Field) (i : Int) : (s.setI f i).flt = s.flt := rfl
@[simp] theorem State.setI_ledg (s : State) (f : Field) (i : Int) : (s.setI f i).ledg = s.ledg := rfl
@[simp] theorem State.setI_evt (s : State) (f : Field) (i : Int) : (s.setI f i).evt = s.evt := rfl
@[simp] theorem State.setI_host (s : State) (f : Field) (i : Int) : (s.setI f i).host = s.host := rfl
@[simp] theorem State.setI_link (s : State) (f : Field) (i : Int) : (s.setI f i).link = s.link := rfl
@[simp] theorem State.setI_bist (s : State) (f : Field) (i : Int) : (s.setI f i).bist = s.bist := rfl
@[simp] theorem State.setI_hiLatch (s : State) (f : Field) (i : Int) : (s.setI f i).hiLatch = s.hiLatch := rfl
@[simp] theorem State.setI_loLatch (s : State) (f : Field) (i : Int) : (s.setI f i).loLatch = s.loLatch := rfl

/-! ## setPair -/

@[simp] theorem State.setPair_pending (s : State) (l h : Nat) (v : BitVec 64) : (s.setPair l h v).pending = s.pending := rfl
@[simp] theorem State.setPair_clock (s : State) (l h : Nat) (v : BitVec 64) : (s.setPair l h v).clock = s.clock := rfl
@[simp] theorem State.setPair_htOfs (s : State) (l h : Nat) (v : BitVec 64) : (s.setPair l h v).htOfs = s.htOfs := rfl
@[simp] theorem State.setPair_freeCount (s : State) (l h : Nat) (v : BitVec 64) : (s.setPair l h v).freeCount = s.freeCount := rfl
@[simp] theorem State.setPair_timers (s : State) (l h : Nat) (v : BitVec 64) : (s.setPair l h v).timers = s.timers := rfl
@[simp] theorem State.setPair_trace (s : State) (l h : Nat) (v : BitVec 64) : (s.setPair l h v).trace = s.trace := rfl
@[simp] theorem State.setPair_tracePost (s : State) (l h : Nat) (v : BitVec 64) : (s.setPair l h v).tracePost = s.tracePost := rfl
@[simp] theorem State.setPair_sys (s : State) (l h : Nat) (v : BitVec 64) : (s.setPair l h v).sys = s.sys := rfl
@[simp] theorem State.setPair_acrd (s : State) (l h : Nat) (v : BitVec 64) : (s.setPair l h v).acrd = s.acrd := rfl
@[simp] theorem State.setPair_loops (s : State) (l h : Nat) (v : BitVec 64) : (s.setPair l h v).loops = s.loops := rfl
@[simp] theorem State.setPair_phases (s : State) (l h : Nat) (v : BitVec 64) : (s.setPair l h v).phases = s.phases := rfl
@[simp] theorem State.setPair_ilReply (s : State) (l h : Nat) (v : BitVec 64) : (s.setPair l h v).ilReply = s.ilReply := rfl
@[simp] theorem State.setPair_rails (s : State) (l h : Nat) (v : BitVec 64) : (s.setPair l h v).rails = s.rails := rfl
@[simp] theorem State.setPair_groups (s : State) (l h : Nat) (v : BitVec 64) : (s.setPair l h v).groups = s.groups := rfl
@[simp] theorem State.setPair_seq (s : State) (l h : Nat) (v : BitVec 64) : (s.setPair l h v).seq = s.seq := rfl
@[simp] theorem State.setPair_sup (s : State) (l h : Nat) (v : BitVec 64) : (s.setPair l h v).sup = s.sup := rfl
@[simp] theorem State.setPair_path (s : State) (l h : Nat) (v : BitVec 64) : (s.setPair l h v).path = s.path := rfl
@[simp] theorem State.setPair_meas (s : State) (l h : Nat) (v : BitVec 64) : (s.setPair l h v).meas = s.meas := rfl
@[simp] theorem State.setPair_flt (s : State) (l h : Nat) (v : BitVec 64) : (s.setPair l h v).flt = s.flt := rfl
@[simp] theorem State.setPair_ledg (s : State) (l h : Nat) (v : BitVec 64) : (s.setPair l h v).ledg = s.ledg := rfl
@[simp] theorem State.setPair_evt (s : State) (l h : Nat) (v : BitVec 64) : (s.setPair l h v).evt = s.evt := rfl
@[simp] theorem State.setPair_host (s : State) (l h : Nat) (v : BitVec 64) : (s.setPair l h v).host = s.host := rfl
@[simp] theorem State.setPair_link (s : State) (l h : Nat) (v : BitVec 64) : (s.setPair l h v).link = s.link := rfl
@[simp] theorem State.setPair_bist (s : State) (l h : Nat) (v : BitVec 64) : (s.setPair l h v).bist = s.bist := rfl
@[simp] theorem State.setPair_hiLatch (s : State) (l h : Nat) (v : BitVec 64) : (s.setPair l h v).hiLatch = s.hiLatch := rfl
@[simp] theorem State.setPair_loLatch (s : State) (l h : Nat) (v : BitVec 64) : (s.setPair l h v).loLatch = s.loLatch := rfl

/-! ## setBitAt -/

@[simp] theorem State.setBitAt_pending (s : State) (r : Nat → Nat) (i : Nat) (b : Bool) : (s.setBitAt r i b).pending = s.pending := rfl
@[simp] theorem State.setBitAt_clock (s : State) (r : Nat → Nat) (i : Nat) (b : Bool) : (s.setBitAt r i b).clock = s.clock := rfl
@[simp] theorem State.setBitAt_htOfs (s : State) (r : Nat → Nat) (i : Nat) (b : Bool) : (s.setBitAt r i b).htOfs = s.htOfs := rfl
@[simp] theorem State.setBitAt_freeCount (s : State) (r : Nat → Nat) (i : Nat) (b : Bool) : (s.setBitAt r i b).freeCount = s.freeCount := rfl
@[simp] theorem State.setBitAt_timers (s : State) (r : Nat → Nat) (i : Nat) (b : Bool) : (s.setBitAt r i b).timers = s.timers := rfl
@[simp] theorem State.setBitAt_trace (s : State) (r : Nat → Nat) (i : Nat) (b : Bool) : (s.setBitAt r i b).trace = s.trace := rfl
@[simp] theorem State.setBitAt_tracePost (s : State) (r : Nat → Nat) (i : Nat) (b : Bool) : (s.setBitAt r i b).tracePost = s.tracePost := rfl
@[simp] theorem State.setBitAt_sys (s : State) (r : Nat → Nat) (i : Nat) (b : Bool) : (s.setBitAt r i b).sys = s.sys := rfl
@[simp] theorem State.setBitAt_acrd (s : State) (r : Nat → Nat) (i : Nat) (b : Bool) : (s.setBitAt r i b).acrd = s.acrd := rfl
@[simp] theorem State.setBitAt_loops (s : State) (r : Nat → Nat) (i : Nat) (b : Bool) : (s.setBitAt r i b).loops = s.loops := rfl
@[simp] theorem State.setBitAt_phases (s : State) (r : Nat → Nat) (i : Nat) (b : Bool) : (s.setBitAt r i b).phases = s.phases := rfl
@[simp] theorem State.setBitAt_ilReply (s : State) (r : Nat → Nat) (i : Nat) (b : Bool) : (s.setBitAt r i b).ilReply = s.ilReply := rfl
@[simp] theorem State.setBitAt_rails (s : State) (r : Nat → Nat) (i : Nat) (b : Bool) : (s.setBitAt r i b).rails = s.rails := rfl
@[simp] theorem State.setBitAt_groups (s : State) (r : Nat → Nat) (i : Nat) (b : Bool) : (s.setBitAt r i b).groups = s.groups := rfl
@[simp] theorem State.setBitAt_seq (s : State) (r : Nat → Nat) (i : Nat) (b : Bool) : (s.setBitAt r i b).seq = s.seq := rfl
@[simp] theorem State.setBitAt_sup (s : State) (r : Nat → Nat) (i : Nat) (b : Bool) : (s.setBitAt r i b).sup = s.sup := rfl
@[simp] theorem State.setBitAt_path (s : State) (r : Nat → Nat) (i : Nat) (b : Bool) : (s.setBitAt r i b).path = s.path := rfl
@[simp] theorem State.setBitAt_meas (s : State) (r : Nat → Nat) (i : Nat) (b : Bool) : (s.setBitAt r i b).meas = s.meas := rfl
@[simp] theorem State.setBitAt_flt (s : State) (r : Nat → Nat) (i : Nat) (b : Bool) : (s.setBitAt r i b).flt = s.flt := rfl
@[simp] theorem State.setBitAt_ledg (s : State) (r : Nat → Nat) (i : Nat) (b : Bool) : (s.setBitAt r i b).ledg = s.ledg := rfl
@[simp] theorem State.setBitAt_evt (s : State) (r : Nat → Nat) (i : Nat) (b : Bool) : (s.setBitAt r i b).evt = s.evt := rfl
@[simp] theorem State.setBitAt_host (s : State) (r : Nat → Nat) (i : Nat) (b : Bool) : (s.setBitAt r i b).host = s.host := rfl
@[simp] theorem State.setBitAt_link (s : State) (r : Nat → Nat) (i : Nat) (b : Bool) : (s.setBitAt r i b).link = s.link := rfl
@[simp] theorem State.setBitAt_bist (s : State) (r : Nat → Nat) (i : Nat) (b : Bool) : (s.setBitAt r i b).bist = s.bist := rfl
@[simp] theorem State.setBitAt_hiLatch (s : State) (r : Nat → Nat) (i : Nat) (b : Bool) : (s.setBitAt r i b).hiLatch = s.hiLatch := rfl
@[simp] theorem State.setBitAt_loLatch (s : State) (r : Nat → Nat) (i : Nat) (b : Bool) : (s.setBitAt r i b).loLatch = s.loLatch := rfl

/-! ## resetRegs -/

@[simp] theorem State.resetRegs_pending (s : State) (p : Nat → Bool) : (s.resetRegs p).pending = s.pending := rfl
@[simp] theorem State.resetRegs_clock (s : State) (p : Nat → Bool) : (s.resetRegs p).clock = s.clock := rfl
@[simp] theorem State.resetRegs_htOfs (s : State) (p : Nat → Bool) : (s.resetRegs p).htOfs = s.htOfs := rfl
@[simp] theorem State.resetRegs_freeCount (s : State) (p : Nat → Bool) : (s.resetRegs p).freeCount = s.freeCount := rfl
@[simp] theorem State.resetRegs_timers (s : State) (p : Nat → Bool) : (s.resetRegs p).timers = s.timers := rfl
@[simp] theorem State.resetRegs_trace (s : State) (p : Nat → Bool) : (s.resetRegs p).trace = s.trace := rfl
@[simp] theorem State.resetRegs_tracePost (s : State) (p : Nat → Bool) : (s.resetRegs p).tracePost = s.tracePost := rfl
@[simp] theorem State.resetRegs_sys (s : State) (p : Nat → Bool) : (s.resetRegs p).sys = s.sys := rfl
@[simp] theorem State.resetRegs_acrd (s : State) (p : Nat → Bool) : (s.resetRegs p).acrd = s.acrd := rfl
@[simp] theorem State.resetRegs_loops (s : State) (p : Nat → Bool) : (s.resetRegs p).loops = s.loops := rfl
@[simp] theorem State.resetRegs_phases (s : State) (p : Nat → Bool) : (s.resetRegs p).phases = s.phases := rfl
@[simp] theorem State.resetRegs_ilReply (s : State) (p : Nat → Bool) : (s.resetRegs p).ilReply = s.ilReply := rfl
@[simp] theorem State.resetRegs_rails (s : State) (p : Nat → Bool) : (s.resetRegs p).rails = s.rails := rfl
@[simp] theorem State.resetRegs_groups (s : State) (p : Nat → Bool) : (s.resetRegs p).groups = s.groups := rfl
@[simp] theorem State.resetRegs_seq (s : State) (p : Nat → Bool) : (s.resetRegs p).seq = s.seq := rfl
@[simp] theorem State.resetRegs_sup (s : State) (p : Nat → Bool) : (s.resetRegs p).sup = s.sup := rfl
@[simp] theorem State.resetRegs_path (s : State) (p : Nat → Bool) : (s.resetRegs p).path = s.path := rfl
@[simp] theorem State.resetRegs_meas (s : State) (p : Nat → Bool) : (s.resetRegs p).meas = s.meas := rfl
@[simp] theorem State.resetRegs_flt (s : State) (p : Nat → Bool) : (s.resetRegs p).flt = s.flt := rfl
@[simp] theorem State.resetRegs_ledg (s : State) (p : Nat → Bool) : (s.resetRegs p).ledg = s.ledg := rfl
@[simp] theorem State.resetRegs_evt (s : State) (p : Nat → Bool) : (s.resetRegs p).evt = s.evt := rfl
@[simp] theorem State.resetRegs_host (s : State) (p : Nat → Bool) : (s.resetRegs p).host = s.host := rfl
@[simp] theorem State.resetRegs_link (s : State) (p : Nat → Bool) : (s.resetRegs p).link = s.link := rfl
@[simp] theorem State.resetRegs_bist (s : State) (p : Nat → Bool) : (s.resetRegs p).bist = s.bist := rfl
@[simp] theorem State.resetRegs_hiLatch (s : State) (p : Nat → Bool) : (s.resetRegs p).hiLatch = s.hiLatch := rfl
@[simp] theorem State.resetRegs_loLatch (s : State) (p : Nat → Bool) : (s.resetRegs p).loLatch = s.loLatch := rfl

/-! ## arm -/

@[simp] theorem State.arm_pending (s : State) (k d : Nat) : (s.arm k d).pending = s.pending := rfl
@[simp] theorem State.arm_clock (s : State) (k d : Nat) : (s.arm k d).clock = s.clock := rfl
@[simp] theorem State.arm_htOfs (s : State) (k d : Nat) : (s.arm k d).htOfs = s.htOfs := rfl
@[simp] theorem State.arm_freeCount (s : State) (k d : Nat) : (s.arm k d).freeCount = s.freeCount := rfl
@[simp] theorem State.arm_regs (s : State) (k d : Nat) : (s.arm k d).regs = s.regs := rfl
@[simp] theorem State.arm_trace (s : State) (k d : Nat) : (s.arm k d).trace = s.trace := rfl
@[simp] theorem State.arm_tracePost (s : State) (k d : Nat) : (s.arm k d).tracePost = s.tracePost := rfl
@[simp] theorem State.arm_sys (s : State) (k d : Nat) : (s.arm k d).sys = s.sys := rfl
@[simp] theorem State.arm_acrd (s : State) (k d : Nat) : (s.arm k d).acrd = s.acrd := rfl
@[simp] theorem State.arm_loops (s : State) (k d : Nat) : (s.arm k d).loops = s.loops := rfl
@[simp] theorem State.arm_phases (s : State) (k d : Nat) : (s.arm k d).phases = s.phases := rfl
@[simp] theorem State.arm_ilReply (s : State) (k d : Nat) : (s.arm k d).ilReply = s.ilReply := rfl
@[simp] theorem State.arm_rails (s : State) (k d : Nat) : (s.arm k d).rails = s.rails := rfl
@[simp] theorem State.arm_groups (s : State) (k d : Nat) : (s.arm k d).groups = s.groups := rfl
@[simp] theorem State.arm_seq (s : State) (k d : Nat) : (s.arm k d).seq = s.seq := rfl
@[simp] theorem State.arm_sup (s : State) (k d : Nat) : (s.arm k d).sup = s.sup := rfl
@[simp] theorem State.arm_path (s : State) (k d : Nat) : (s.arm k d).path = s.path := rfl
@[simp] theorem State.arm_meas (s : State) (k d : Nat) : (s.arm k d).meas = s.meas := rfl
@[simp] theorem State.arm_flt (s : State) (k d : Nat) : (s.arm k d).flt = s.flt := rfl
@[simp] theorem State.arm_ledg (s : State) (k d : Nat) : (s.arm k d).ledg = s.ledg := rfl
@[simp] theorem State.arm_evt (s : State) (k d : Nat) : (s.arm k d).evt = s.evt := rfl
@[simp] theorem State.arm_host (s : State) (k d : Nat) : (s.arm k d).host = s.host := rfl
@[simp] theorem State.arm_link (s : State) (k d : Nat) : (s.arm k d).link = s.link := rfl
@[simp] theorem State.arm_bist (s : State) (k d : Nat) : (s.arm k d).bist = s.bist := rfl
@[simp] theorem State.arm_hiLatch (s : State) (k d : Nat) : (s.arm k d).hiLatch = s.hiLatch := rfl
@[simp] theorem State.arm_loLatch (s : State) (k d : Nat) : (s.arm k d).loLatch = s.loLatch := rfl

/-! ## disarm -/

@[simp] theorem State.disarm_pending (s : State) (k : Nat) : (s.disarm k).pending = s.pending := rfl
@[simp] theorem State.disarm_clock (s : State) (k : Nat) : (s.disarm k).clock = s.clock := rfl
@[simp] theorem State.disarm_htOfs (s : State) (k : Nat) : (s.disarm k).htOfs = s.htOfs := rfl
@[simp] theorem State.disarm_freeCount (s : State) (k : Nat) : (s.disarm k).freeCount = s.freeCount := rfl
@[simp] theorem State.disarm_regs (s : State) (k : Nat) : (s.disarm k).regs = s.regs := rfl
@[simp] theorem State.disarm_trace (s : State) (k : Nat) : (s.disarm k).trace = s.trace := rfl
@[simp] theorem State.disarm_tracePost (s : State) (k : Nat) : (s.disarm k).tracePost = s.tracePost := rfl
@[simp] theorem State.disarm_sys (s : State) (k : Nat) : (s.disarm k).sys = s.sys := rfl
@[simp] theorem State.disarm_acrd (s : State) (k : Nat) : (s.disarm k).acrd = s.acrd := rfl
@[simp] theorem State.disarm_loops (s : State) (k : Nat) : (s.disarm k).loops = s.loops := rfl
@[simp] theorem State.disarm_phases (s : State) (k : Nat) : (s.disarm k).phases = s.phases := rfl
@[simp] theorem State.disarm_ilReply (s : State) (k : Nat) : (s.disarm k).ilReply = s.ilReply := rfl
@[simp] theorem State.disarm_rails (s : State) (k : Nat) : (s.disarm k).rails = s.rails := rfl
@[simp] theorem State.disarm_groups (s : State) (k : Nat) : (s.disarm k).groups = s.groups := rfl
@[simp] theorem State.disarm_seq (s : State) (k : Nat) : (s.disarm k).seq = s.seq := rfl
@[simp] theorem State.disarm_sup (s : State) (k : Nat) : (s.disarm k).sup = s.sup := rfl
@[simp] theorem State.disarm_path (s : State) (k : Nat) : (s.disarm k).path = s.path := rfl
@[simp] theorem State.disarm_meas (s : State) (k : Nat) : (s.disarm k).meas = s.meas := rfl
@[simp] theorem State.disarm_flt (s : State) (k : Nat) : (s.disarm k).flt = s.flt := rfl
@[simp] theorem State.disarm_ledg (s : State) (k : Nat) : (s.disarm k).ledg = s.ledg := rfl
@[simp] theorem State.disarm_evt (s : State) (k : Nat) : (s.disarm k).evt = s.evt := rfl
@[simp] theorem State.disarm_host (s : State) (k : Nat) : (s.disarm k).host = s.host := rfl
@[simp] theorem State.disarm_link (s : State) (k : Nat) : (s.disarm k).link = s.link := rfl
@[simp] theorem State.disarm_bist (s : State) (k : Nat) : (s.disarm k).bist = s.bist := rfl
@[simp] theorem State.disarm_hiLatch (s : State) (k : Nat) : (s.disarm k).hiLatch = s.hiLatch := rfl
@[simp] theorem State.disarm_loLatch (s : State) (k : Nat) : (s.disarm k).loLatch = s.loLatch := rfl

/-! ## notBefore -/

@[simp] theorem State.notBefore_pending (s : State) (n : Nat) : (s.notBefore n).pending = s.pending := rfl
@[simp] theorem State.notBefore_htOfs (s : State) (n : Nat) : (s.notBefore n).htOfs = s.htOfs := rfl
@[simp] theorem State.notBefore_freeCount (s : State) (n : Nat) : (s.notBefore n).freeCount = s.freeCount := rfl
@[simp] theorem State.notBefore_regs (s : State) (n : Nat) : (s.notBefore n).regs = s.regs := rfl
@[simp] theorem State.notBefore_timers (s : State) (n : Nat) : (s.notBefore n).timers = s.timers := rfl
@[simp] theorem State.notBefore_trace (s : State) (n : Nat) : (s.notBefore n).trace = s.trace := rfl
@[simp] theorem State.notBefore_tracePost (s : State) (n : Nat) : (s.notBefore n).tracePost = s.tracePost := rfl
@[simp] theorem State.notBefore_sys (s : State) (n : Nat) : (s.notBefore n).sys = s.sys := rfl
@[simp] theorem State.notBefore_acrd (s : State) (n : Nat) : (s.notBefore n).acrd = s.acrd := rfl
@[simp] theorem State.notBefore_loops (s : State) (n : Nat) : (s.notBefore n).loops = s.loops := rfl
@[simp] theorem State.notBefore_phases (s : State) (n : Nat) : (s.notBefore n).phases = s.phases := rfl
@[simp] theorem State.notBefore_ilReply (s : State) (n : Nat) : (s.notBefore n).ilReply = s.ilReply := rfl
@[simp] theorem State.notBefore_rails (s : State) (n : Nat) : (s.notBefore n).rails = s.rails := rfl
@[simp] theorem State.notBefore_groups (s : State) (n : Nat) : (s.notBefore n).groups = s.groups := rfl
@[simp] theorem State.notBefore_seq (s : State) (n : Nat) : (s.notBefore n).seq = s.seq := rfl
@[simp] theorem State.notBefore_sup (s : State) (n : Nat) : (s.notBefore n).sup = s.sup := rfl
@[simp] theorem State.notBefore_path (s : State) (n : Nat) : (s.notBefore n).path = s.path := rfl
@[simp] theorem State.notBefore_meas (s : State) (n : Nat) : (s.notBefore n).meas = s.meas := rfl
@[simp] theorem State.notBefore_flt (s : State) (n : Nat) : (s.notBefore n).flt = s.flt := rfl
@[simp] theorem State.notBefore_ledg (s : State) (n : Nat) : (s.notBefore n).ledg = s.ledg := rfl
@[simp] theorem State.notBefore_evt (s : State) (n : Nat) : (s.notBefore n).evt = s.evt := rfl
@[simp] theorem State.notBefore_host (s : State) (n : Nat) : (s.notBefore n).host = s.host := rfl
@[simp] theorem State.notBefore_link (s : State) (n : Nat) : (s.notBefore n).link = s.link := rfl
@[simp] theorem State.notBefore_bist (s : State) (n : Nat) : (s.notBefore n).bist = s.bist := rfl
@[simp] theorem State.notBefore_hiLatch (s : State) (n : Nat) : (s.notBefore n).hiLatch = s.hiLatch := rfl
@[simp] theorem State.notBefore_loLatch (s : State) (n : Nat) : (s.notBefore n).loLatch = s.loLatch := rfl

/-! ## takeFree -/

@[simp] theorem State.takeFree_pending (s : State) : s.takeFree.2.pending = s.pending := rfl
@[simp] theorem State.takeFree_clock (s : State) : s.takeFree.2.clock = s.clock := rfl
@[simp] theorem State.takeFree_htOfs (s : State) : s.takeFree.2.htOfs = s.htOfs := rfl
@[simp] theorem State.takeFree_regs (s : State) : s.takeFree.2.regs = s.regs := rfl
@[simp] theorem State.takeFree_timers (s : State) : s.takeFree.2.timers = s.timers := rfl
@[simp] theorem State.takeFree_trace (s : State) : s.takeFree.2.trace = s.trace := rfl
@[simp] theorem State.takeFree_tracePost (s : State) : s.takeFree.2.tracePost = s.tracePost := rfl
@[simp] theorem State.takeFree_sys (s : State) : s.takeFree.2.sys = s.sys := rfl
@[simp] theorem State.takeFree_acrd (s : State) : s.takeFree.2.acrd = s.acrd := rfl
@[simp] theorem State.takeFree_loops (s : State) : s.takeFree.2.loops = s.loops := rfl
@[simp] theorem State.takeFree_phases (s : State) : s.takeFree.2.phases = s.phases := rfl
@[simp] theorem State.takeFree_ilReply (s : State) : s.takeFree.2.ilReply = s.ilReply := rfl
@[simp] theorem State.takeFree_rails (s : State) : s.takeFree.2.rails = s.rails := rfl
@[simp] theorem State.takeFree_groups (s : State) : s.takeFree.2.groups = s.groups := rfl
@[simp] theorem State.takeFree_seq (s : State) : s.takeFree.2.seq = s.seq := rfl
@[simp] theorem State.takeFree_sup (s : State) : s.takeFree.2.sup = s.sup := rfl
@[simp] theorem State.takeFree_path (s : State) : s.takeFree.2.path = s.path := rfl
@[simp] theorem State.takeFree_meas (s : State) : s.takeFree.2.meas = s.meas := rfl
@[simp] theorem State.takeFree_flt (s : State) : s.takeFree.2.flt = s.flt := rfl
@[simp] theorem State.takeFree_ledg (s : State) : s.takeFree.2.ledg = s.ledg := rfl
@[simp] theorem State.takeFree_evt (s : State) : s.takeFree.2.evt = s.evt := rfl
@[simp] theorem State.takeFree_host (s : State) : s.takeFree.2.host = s.host := rfl
@[simp] theorem State.takeFree_link (s : State) : s.takeFree.2.link = s.link := rfl
@[simp] theorem State.takeFree_bist (s : State) : s.takeFree.2.bist = s.bist := rfl
@[simp] theorem State.takeFree_hiLatch (s : State) : s.takeFree.2.hiLatch = s.hiLatch := rfl
@[simp] theorem State.takeFree_loLatch (s : State) : s.takeFree.2.loLatch = s.loLatch := rfl
@[simp] theorem State.takeFree_freeCount (s : State) : s.takeFree.2.freeCount = s.freeCount + 1 := rfl

/-! ## updAcrd -/

@[simp] theorem State.updAcrd_pending (s : State) (f : AcrdState → AcrdState) : (s.updAcrd f).pending = s.pending := rfl
@[simp] theorem State.updAcrd_clock (s : State) (f : AcrdState → AcrdState) : (s.updAcrd f).clock = s.clock := rfl
@[simp] theorem State.updAcrd_htOfs (s : State) (f : AcrdState → AcrdState) : (s.updAcrd f).htOfs = s.htOfs := rfl
@[simp] theorem State.updAcrd_freeCount (s : State) (f : AcrdState → AcrdState) : (s.updAcrd f).freeCount = s.freeCount := rfl
@[simp] theorem State.updAcrd_regs (s : State) (f : AcrdState → AcrdState) : (s.updAcrd f).regs = s.regs := rfl
@[simp] theorem State.updAcrd_timers (s : State) (f : AcrdState → AcrdState) : (s.updAcrd f).timers = s.timers := rfl
@[simp] theorem State.updAcrd_trace (s : State) (f : AcrdState → AcrdState) : (s.updAcrd f).trace = s.trace := rfl
@[simp] theorem State.updAcrd_tracePost (s : State) (f : AcrdState → AcrdState) : (s.updAcrd f).tracePost = s.tracePost := rfl
@[simp] theorem State.updAcrd_sys (s : State) (f : AcrdState → AcrdState) : (s.updAcrd f).sys = s.sys := rfl
@[simp] theorem State.updAcrd_loops (s : State) (f : AcrdState → AcrdState) : (s.updAcrd f).loops = s.loops := rfl
@[simp] theorem State.updAcrd_phases (s : State) (f : AcrdState → AcrdState) : (s.updAcrd f).phases = s.phases := rfl
@[simp] theorem State.updAcrd_ilReply (s : State) (f : AcrdState → AcrdState) : (s.updAcrd f).ilReply = s.ilReply := rfl
@[simp] theorem State.updAcrd_rails (s : State) (f : AcrdState → AcrdState) : (s.updAcrd f).rails = s.rails := rfl
@[simp] theorem State.updAcrd_groups (s : State) (f : AcrdState → AcrdState) : (s.updAcrd f).groups = s.groups := rfl
@[simp] theorem State.updAcrd_seq (s : State) (f : AcrdState → AcrdState) : (s.updAcrd f).seq = s.seq := rfl
@[simp] theorem State.updAcrd_sup (s : State) (f : AcrdState → AcrdState) : (s.updAcrd f).sup = s.sup := rfl
@[simp] theorem State.updAcrd_path (s : State) (f : AcrdState → AcrdState) : (s.updAcrd f).path = s.path := rfl
@[simp] theorem State.updAcrd_meas (s : State) (f : AcrdState → AcrdState) : (s.updAcrd f).meas = s.meas := rfl
@[simp] theorem State.updAcrd_flt (s : State) (f : AcrdState → AcrdState) : (s.updAcrd f).flt = s.flt := rfl
@[simp] theorem State.updAcrd_ledg (s : State) (f : AcrdState → AcrdState) : (s.updAcrd f).ledg = s.ledg := rfl
@[simp] theorem State.updAcrd_evt (s : State) (f : AcrdState → AcrdState) : (s.updAcrd f).evt = s.evt := rfl
@[simp] theorem State.updAcrd_host (s : State) (f : AcrdState → AcrdState) : (s.updAcrd f).host = s.host := rfl
@[simp] theorem State.updAcrd_link (s : State) (f : AcrdState → AcrdState) : (s.updAcrd f).link = s.link := rfl
@[simp] theorem State.updAcrd_bist (s : State) (f : AcrdState → AcrdState) : (s.updAcrd f).bist = s.bist := rfl
@[simp] theorem State.updAcrd_hiLatch (s : State) (f : AcrdState → AcrdState) : (s.updAcrd f).hiLatch = s.hiLatch := rfl
@[simp] theorem State.updAcrd_loLatch (s : State) (f : AcrdState → AcrdState) : (s.updAcrd f).loLatch = s.loLatch := rfl
@[simp] theorem State.updAcrd_acrd (s : State) (f : AcrdState → AcrdState) : (s.updAcrd f).acrd = f s.acrd := rfl

/-! ## updSys -/

@[simp] theorem State.updSys_pending (s : State) (f : SysState → SysState) : (s.updSys f).pending = s.pending := rfl
@[simp] theorem State.updSys_clock (s : State) (f : SysState → SysState) : (s.updSys f).clock = s.clock := rfl
@[simp] theorem State.updSys_htOfs (s : State) (f : SysState → SysState) : (s.updSys f).htOfs = s.htOfs := rfl
@[simp] theorem State.updSys_freeCount (s : State) (f : SysState → SysState) : (s.updSys f).freeCount = s.freeCount := rfl
@[simp] theorem State.updSys_regs (s : State) (f : SysState → SysState) : (s.updSys f).regs = s.regs := rfl
@[simp] theorem State.updSys_timers (s : State) (f : SysState → SysState) : (s.updSys f).timers = s.timers := rfl
@[simp] theorem State.updSys_trace (s : State) (f : SysState → SysState) : (s.updSys f).trace = s.trace := rfl
@[simp] theorem State.updSys_tracePost (s : State) (f : SysState → SysState) : (s.updSys f).tracePost = s.tracePost := rfl
@[simp] theorem State.updSys_acrd (s : State) (f : SysState → SysState) : (s.updSys f).acrd = s.acrd := rfl
@[simp] theorem State.updSys_loops (s : State) (f : SysState → SysState) : (s.updSys f).loops = s.loops := rfl
@[simp] theorem State.updSys_phases (s : State) (f : SysState → SysState) : (s.updSys f).phases = s.phases := rfl
@[simp] theorem State.updSys_ilReply (s : State) (f : SysState → SysState) : (s.updSys f).ilReply = s.ilReply := rfl
@[simp] theorem State.updSys_rails (s : State) (f : SysState → SysState) : (s.updSys f).rails = s.rails := rfl
@[simp] theorem State.updSys_groups (s : State) (f : SysState → SysState) : (s.updSys f).groups = s.groups := rfl
@[simp] theorem State.updSys_seq (s : State) (f : SysState → SysState) : (s.updSys f).seq = s.seq := rfl
@[simp] theorem State.updSys_sup (s : State) (f : SysState → SysState) : (s.updSys f).sup = s.sup := rfl
@[simp] theorem State.updSys_path (s : State) (f : SysState → SysState) : (s.updSys f).path = s.path := rfl
@[simp] theorem State.updSys_meas (s : State) (f : SysState → SysState) : (s.updSys f).meas = s.meas := rfl
@[simp] theorem State.updSys_flt (s : State) (f : SysState → SysState) : (s.updSys f).flt = s.flt := rfl
@[simp] theorem State.updSys_ledg (s : State) (f : SysState → SysState) : (s.updSys f).ledg = s.ledg := rfl
@[simp] theorem State.updSys_evt (s : State) (f : SysState → SysState) : (s.updSys f).evt = s.evt := rfl
@[simp] theorem State.updSys_host (s : State) (f : SysState → SysState) : (s.updSys f).host = s.host := rfl
@[simp] theorem State.updSys_link (s : State) (f : SysState → SysState) : (s.updSys f).link = s.link := rfl
@[simp] theorem State.updSys_bist (s : State) (f : SysState → SysState) : (s.updSys f).bist = s.bist := rfl
@[simp] theorem State.updSys_hiLatch (s : State) (f : SysState → SysState) : (s.updSys f).hiLatch = s.hiLatch := rfl
@[simp] theorem State.updSys_loLatch (s : State) (f : SysState → SysState) : (s.updSys f).loLatch = s.loLatch := rfl
@[simp] theorem State.updSys_sys (s : State) (f : SysState → SysState) : (s.updSys f).sys = f s.sys := rfl

/-! ## updLink -/

@[simp] theorem State.updLink_pending (s : State) (f : LinkState → LinkState) : (s.updLink f).pending = s.pending := rfl
@[simp] theorem State.updLink_clock (s : State) (f : LinkState → LinkState) : (s.updLink f).clock = s.clock := rfl
@[simp] theorem State.updLink_htOfs (s : State) (f : LinkState → LinkState) : (s.updLink f).htOfs = s.htOfs := rfl
@[simp] theorem State.updLink_freeCount (s : State) (f : LinkState → LinkState) : (s.updLink f).freeCount = s.freeCount := rfl
@[simp] theorem State.updLink_regs (s : State) (f : LinkState → LinkState) : (s.updLink f).regs = s.regs := rfl
@[simp] theorem State.updLink_timers (s : State) (f : LinkState → LinkState) : (s.updLink f).timers = s.timers := rfl
@[simp] theorem State.updLink_trace (s : State) (f : LinkState → LinkState) : (s.updLink f).trace = s.trace := rfl
@[simp] theorem State.updLink_tracePost (s : State) (f : LinkState → LinkState) : (s.updLink f).tracePost = s.tracePost := rfl
@[simp] theorem State.updLink_sys (s : State) (f : LinkState → LinkState) : (s.updLink f).sys = s.sys := rfl
@[simp] theorem State.updLink_acrd (s : State) (f : LinkState → LinkState) : (s.updLink f).acrd = s.acrd := rfl
@[simp] theorem State.updLink_loops (s : State) (f : LinkState → LinkState) : (s.updLink f).loops = s.loops := rfl
@[simp] theorem State.updLink_phases (s : State) (f : LinkState → LinkState) : (s.updLink f).phases = s.phases := rfl
@[simp] theorem State.updLink_ilReply (s : State) (f : LinkState → LinkState) : (s.updLink f).ilReply = s.ilReply := rfl
@[simp] theorem State.updLink_rails (s : State) (f : LinkState → LinkState) : (s.updLink f).rails = s.rails := rfl
@[simp] theorem State.updLink_groups (s : State) (f : LinkState → LinkState) : (s.updLink f).groups = s.groups := rfl
@[simp] theorem State.updLink_seq (s : State) (f : LinkState → LinkState) : (s.updLink f).seq = s.seq := rfl
@[simp] theorem State.updLink_sup (s : State) (f : LinkState → LinkState) : (s.updLink f).sup = s.sup := rfl
@[simp] theorem State.updLink_path (s : State) (f : LinkState → LinkState) : (s.updLink f).path = s.path := rfl
@[simp] theorem State.updLink_meas (s : State) (f : LinkState → LinkState) : (s.updLink f).meas = s.meas := rfl
@[simp] theorem State.updLink_flt (s : State) (f : LinkState → LinkState) : (s.updLink f).flt = s.flt := rfl
@[simp] theorem State.updLink_ledg (s : State) (f : LinkState → LinkState) : (s.updLink f).ledg = s.ledg := rfl
@[simp] theorem State.updLink_evt (s : State) (f : LinkState → LinkState) : (s.updLink f).evt = s.evt := rfl
@[simp] theorem State.updLink_host (s : State) (f : LinkState → LinkState) : (s.updLink f).host = s.host := rfl
@[simp] theorem State.updLink_bist (s : State) (f : LinkState → LinkState) : (s.updLink f).bist = s.bist := rfl
@[simp] theorem State.updLink_hiLatch (s : State) (f : LinkState → LinkState) : (s.updLink f).hiLatch = s.hiLatch := rfl
@[simp] theorem State.updLink_loLatch (s : State) (f : LinkState → LinkState) : (s.updLink f).loLatch = s.loLatch := rfl
@[simp] theorem State.updLink_link (s : State) (f : LinkState → LinkState) : (s.updLink f).link = f s.link := rfl

/-! ## updPath -/

@[simp] theorem State.updPath_pending (s : State) (f : PathState → PathState) : (s.updPath f).pending = s.pending := rfl
@[simp] theorem State.updPath_clock (s : State) (f : PathState → PathState) : (s.updPath f).clock = s.clock := rfl
@[simp] theorem State.updPath_htOfs (s : State) (f : PathState → PathState) : (s.updPath f).htOfs = s.htOfs := rfl
@[simp] theorem State.updPath_freeCount (s : State) (f : PathState → PathState) : (s.updPath f).freeCount = s.freeCount := rfl
@[simp] theorem State.updPath_regs (s : State) (f : PathState → PathState) : (s.updPath f).regs = s.regs := rfl
@[simp] theorem State.updPath_timers (s : State) (f : PathState → PathState) : (s.updPath f).timers = s.timers := rfl
@[simp] theorem State.updPath_trace (s : State) (f : PathState → PathState) : (s.updPath f).trace = s.trace := rfl
@[simp] theorem State.updPath_tracePost (s : State) (f : PathState → PathState) : (s.updPath f).tracePost = s.tracePost := rfl
@[simp] theorem State.updPath_sys (s : State) (f : PathState → PathState) : (s.updPath f).sys = s.sys := rfl
@[simp] theorem State.updPath_acrd (s : State) (f : PathState → PathState) : (s.updPath f).acrd = s.acrd := rfl
@[simp] theorem State.updPath_loops (s : State) (f : PathState → PathState) : (s.updPath f).loops = s.loops := rfl
@[simp] theorem State.updPath_phases (s : State) (f : PathState → PathState) : (s.updPath f).phases = s.phases := rfl
@[simp] theorem State.updPath_ilReply (s : State) (f : PathState → PathState) : (s.updPath f).ilReply = s.ilReply := rfl
@[simp] theorem State.updPath_rails (s : State) (f : PathState → PathState) : (s.updPath f).rails = s.rails := rfl
@[simp] theorem State.updPath_groups (s : State) (f : PathState → PathState) : (s.updPath f).groups = s.groups := rfl
@[simp] theorem State.updPath_seq (s : State) (f : PathState → PathState) : (s.updPath f).seq = s.seq := rfl
@[simp] theorem State.updPath_sup (s : State) (f : PathState → PathState) : (s.updPath f).sup = s.sup := rfl
@[simp] theorem State.updPath_meas (s : State) (f : PathState → PathState) : (s.updPath f).meas = s.meas := rfl
@[simp] theorem State.updPath_flt (s : State) (f : PathState → PathState) : (s.updPath f).flt = s.flt := rfl
@[simp] theorem State.updPath_ledg (s : State) (f : PathState → PathState) : (s.updPath f).ledg = s.ledg := rfl
@[simp] theorem State.updPath_evt (s : State) (f : PathState → PathState) : (s.updPath f).evt = s.evt := rfl
@[simp] theorem State.updPath_host (s : State) (f : PathState → PathState) : (s.updPath f).host = s.host := rfl
@[simp] theorem State.updPath_link (s : State) (f : PathState → PathState) : (s.updPath f).link = s.link := rfl
@[simp] theorem State.updPath_bist (s : State) (f : PathState → PathState) : (s.updPath f).bist = s.bist := rfl
@[simp] theorem State.updPath_hiLatch (s : State) (f : PathState → PathState) : (s.updPath f).hiLatch = s.hiLatch := rfl
@[simp] theorem State.updPath_loLatch (s : State) (f : PathState → PathState) : (s.updPath f).loLatch = s.loLatch := rfl
@[simp] theorem State.updPath_path (s : State) (f : PathState → PathState) : (s.updPath f).path = f s.path := rfl

/-! ## updBist -/

@[simp] theorem State.updBist_pending (s : State) (f : BistState → BistState) : (s.updBist f).pending = s.pending := rfl
@[simp] theorem State.updBist_clock (s : State) (f : BistState → BistState) : (s.updBist f).clock = s.clock := rfl
@[simp] theorem State.updBist_htOfs (s : State) (f : BistState → BistState) : (s.updBist f).htOfs = s.htOfs := rfl
@[simp] theorem State.updBist_freeCount (s : State) (f : BistState → BistState) : (s.updBist f).freeCount = s.freeCount := rfl
@[simp] theorem State.updBist_regs (s : State) (f : BistState → BistState) : (s.updBist f).regs = s.regs := rfl
@[simp] theorem State.updBist_timers (s : State) (f : BistState → BistState) : (s.updBist f).timers = s.timers := rfl
@[simp] theorem State.updBist_trace (s : State) (f : BistState → BistState) : (s.updBist f).trace = s.trace := rfl
@[simp] theorem State.updBist_tracePost (s : State) (f : BistState → BistState) : (s.updBist f).tracePost = s.tracePost := rfl
@[simp] theorem State.updBist_sys (s : State) (f : BistState → BistState) : (s.updBist f).sys = s.sys := rfl
@[simp] theorem State.updBist_acrd (s : State) (f : BistState → BistState) : (s.updBist f).acrd = s.acrd := rfl
@[simp] theorem State.updBist_loops (s : State) (f : BistState → BistState) : (s.updBist f).loops = s.loops := rfl
@[simp] theorem State.updBist_phases (s : State) (f : BistState → BistState) : (s.updBist f).phases = s.phases := rfl
@[simp] theorem State.updBist_ilReply (s : State) (f : BistState → BistState) : (s.updBist f).ilReply = s.ilReply := rfl
@[simp] theorem State.updBist_rails (s : State) (f : BistState → BistState) : (s.updBist f).rails = s.rails := rfl
@[simp] theorem State.updBist_groups (s : State) (f : BistState → BistState) : (s.updBist f).groups = s.groups := rfl
@[simp] theorem State.updBist_seq (s : State) (f : BistState → BistState) : (s.updBist f).seq = s.seq := rfl
@[simp] theorem State.updBist_sup (s : State) (f : BistState → BistState) : (s.updBist f).sup = s.sup := rfl
@[simp] theorem State.updBist_path (s : State) (f : BistState → BistState) : (s.updBist f).path = s.path := rfl
@[simp] theorem State.updBist_meas (s : State) (f : BistState → BistState) : (s.updBist f).meas = s.meas := rfl
@[simp] theorem State.updBist_flt (s : State) (f : BistState → BistState) : (s.updBist f).flt = s.flt := rfl
@[simp] theorem State.updBist_ledg (s : State) (f : BistState → BistState) : (s.updBist f).ledg = s.ledg := rfl
@[simp] theorem State.updBist_evt (s : State) (f : BistState → BistState) : (s.updBist f).evt = s.evt := rfl
@[simp] theorem State.updBist_host (s : State) (f : BistState → BistState) : (s.updBist f).host = s.host := rfl
@[simp] theorem State.updBist_link (s : State) (f : BistState → BistState) : (s.updBist f).link = s.link := rfl
@[simp] theorem State.updBist_hiLatch (s : State) (f : BistState → BistState) : (s.updBist f).hiLatch = s.hiLatch := rfl
@[simp] theorem State.updBist_loLatch (s : State) (f : BistState → BistState) : (s.updBist f).loLatch = s.loLatch := rfl
@[simp] theorem State.updBist_bist (s : State) (f : BistState → BistState) : (s.updBist f).bist = f s.bist := rfl

/-! ## updSeq -/

@[simp] theorem State.updSeq_pending (s : State) (f : SeqState → SeqState) : (s.updSeq f).pending = s.pending := rfl
@[simp] theorem State.updSeq_clock (s : State) (f : SeqState → SeqState) : (s.updSeq f).clock = s.clock := rfl
@[simp] theorem State.updSeq_htOfs (s : State) (f : SeqState → SeqState) : (s.updSeq f).htOfs = s.htOfs := rfl
@[simp] theorem State.updSeq_freeCount (s : State) (f : SeqState → SeqState) : (s.updSeq f).freeCount = s.freeCount := rfl
@[simp] theorem State.updSeq_regs (s : State) (f : SeqState → SeqState) : (s.updSeq f).regs = s.regs := rfl
@[simp] theorem State.updSeq_timers (s : State) (f : SeqState → SeqState) : (s.updSeq f).timers = s.timers := rfl
@[simp] theorem State.updSeq_trace (s : State) (f : SeqState → SeqState) : (s.updSeq f).trace = s.trace := rfl
@[simp] theorem State.updSeq_tracePost (s : State) (f : SeqState → SeqState) : (s.updSeq f).tracePost = s.tracePost := rfl
@[simp] theorem State.updSeq_sys (s : State) (f : SeqState → SeqState) : (s.updSeq f).sys = s.sys := rfl
@[simp] theorem State.updSeq_acrd (s : State) (f : SeqState → SeqState) : (s.updSeq f).acrd = s.acrd := rfl
@[simp] theorem State.updSeq_loops (s : State) (f : SeqState → SeqState) : (s.updSeq f).loops = s.loops := rfl
@[simp] theorem State.updSeq_phases (s : State) (f : SeqState → SeqState) : (s.updSeq f).phases = s.phases := rfl
@[simp] theorem State.updSeq_ilReply (s : State) (f : SeqState → SeqState) : (s.updSeq f).ilReply = s.ilReply := rfl
@[simp] theorem State.updSeq_rails (s : State) (f : SeqState → SeqState) : (s.updSeq f).rails = s.rails := rfl
@[simp] theorem State.updSeq_groups (s : State) (f : SeqState → SeqState) : (s.updSeq f).groups = s.groups := rfl
@[simp] theorem State.updSeq_sup (s : State) (f : SeqState → SeqState) : (s.updSeq f).sup = s.sup := rfl
@[simp] theorem State.updSeq_path (s : State) (f : SeqState → SeqState) : (s.updSeq f).path = s.path := rfl
@[simp] theorem State.updSeq_meas (s : State) (f : SeqState → SeqState) : (s.updSeq f).meas = s.meas := rfl
@[simp] theorem State.updSeq_flt (s : State) (f : SeqState → SeqState) : (s.updSeq f).flt = s.flt := rfl
@[simp] theorem State.updSeq_ledg (s : State) (f : SeqState → SeqState) : (s.updSeq f).ledg = s.ledg := rfl
@[simp] theorem State.updSeq_evt (s : State) (f : SeqState → SeqState) : (s.updSeq f).evt = s.evt := rfl
@[simp] theorem State.updSeq_host (s : State) (f : SeqState → SeqState) : (s.updSeq f).host = s.host := rfl
@[simp] theorem State.updSeq_link (s : State) (f : SeqState → SeqState) : (s.updSeq f).link = s.link := rfl
@[simp] theorem State.updSeq_bist (s : State) (f : SeqState → SeqState) : (s.updSeq f).bist = s.bist := rfl
@[simp] theorem State.updSeq_hiLatch (s : State) (f : SeqState → SeqState) : (s.updSeq f).hiLatch = s.hiLatch := rfl
@[simp] theorem State.updSeq_loLatch (s : State) (f : SeqState → SeqState) : (s.updSeq f).loLatch = s.loLatch := rfl
@[simp] theorem State.updSeq_seq (s : State) (f : SeqState → SeqState) : (s.updSeq f).seq = f s.seq := rfl

/-! ## updTile -/

@[simp] theorem State.updTile_pending (s : State) (k : Nat) (f : Tile → Tile) : (s.updTile k f).pending = s.pending := rfl
@[simp] theorem State.updTile_clock (s : State) (k : Nat) (f : Tile → Tile) : (s.updTile k f).clock = s.clock := rfl
@[simp] theorem State.updTile_htOfs (s : State) (k : Nat) (f : Tile → Tile) : (s.updTile k f).htOfs = s.htOfs := rfl
@[simp] theorem State.updTile_freeCount (s : State) (k : Nat) (f : Tile → Tile) : (s.updTile k f).freeCount = s.freeCount := rfl
@[simp] theorem State.updTile_regs (s : State) (k : Nat) (f : Tile → Tile) : (s.updTile k f).regs = s.regs := rfl
@[simp] theorem State.updTile_timers (s : State) (k : Nat) (f : Tile → Tile) : (s.updTile k f).timers = s.timers := rfl
@[simp] theorem State.updTile_trace (s : State) (k : Nat) (f : Tile → Tile) : (s.updTile k f).trace = s.trace := rfl
@[simp] theorem State.updTile_tracePost (s : State) (k : Nat) (f : Tile → Tile) : (s.updTile k f).tracePost = s.tracePost := rfl
@[simp] theorem State.updTile_sys (s : State) (k : Nat) (f : Tile → Tile) : (s.updTile k f).sys = s.sys := rfl
@[simp] theorem State.updTile_loops (s : State) (k : Nat) (f : Tile → Tile) : (s.updTile k f).loops = s.loops := rfl
@[simp] theorem State.updTile_phases (s : State) (k : Nat) (f : Tile → Tile) : (s.updTile k f).phases = s.phases := rfl
@[simp] theorem State.updTile_ilReply (s : State) (k : Nat) (f : Tile → Tile) : (s.updTile k f).ilReply = s.ilReply := rfl
@[simp] theorem State.updTile_rails (s : State) (k : Nat) (f : Tile → Tile) : (s.updTile k f).rails = s.rails := rfl
@[simp] theorem State.updTile_groups (s : State) (k : Nat) (f : Tile → Tile) : (s.updTile k f).groups = s.groups := rfl
@[simp] theorem State.updTile_seq (s : State) (k : Nat) (f : Tile → Tile) : (s.updTile k f).seq = s.seq := rfl
@[simp] theorem State.updTile_sup (s : State) (k : Nat) (f : Tile → Tile) : (s.updTile k f).sup = s.sup := rfl
@[simp] theorem State.updTile_path (s : State) (k : Nat) (f : Tile → Tile) : (s.updTile k f).path = s.path := rfl
@[simp] theorem State.updTile_meas (s : State) (k : Nat) (f : Tile → Tile) : (s.updTile k f).meas = s.meas := rfl
@[simp] theorem State.updTile_flt (s : State) (k : Nat) (f : Tile → Tile) : (s.updTile k f).flt = s.flt := rfl
@[simp] theorem State.updTile_ledg (s : State) (k : Nat) (f : Tile → Tile) : (s.updTile k f).ledg = s.ledg := rfl
@[simp] theorem State.updTile_evt (s : State) (k : Nat) (f : Tile → Tile) : (s.updTile k f).evt = s.evt := rfl
@[simp] theorem State.updTile_host (s : State) (k : Nat) (f : Tile → Tile) : (s.updTile k f).host = s.host := rfl
@[simp] theorem State.updTile_link (s : State) (k : Nat) (f : Tile → Tile) : (s.updTile k f).link = s.link := rfl
@[simp] theorem State.updTile_bist (s : State) (k : Nat) (f : Tile → Tile) : (s.updTile k f).bist = s.bist := rfl
@[simp] theorem State.updTile_hiLatch (s : State) (k : Nat) (f : Tile → Tile) : (s.updTile k f).hiLatch = s.hiLatch := rfl
@[simp] theorem State.updTile_loLatch (s : State) (k : Nat) (f : Tile → Tile) : (s.updTile k f).loLatch = s.loLatch := rfl

/-! ## updEng -/

@[simp] theorem State.updEng_pending (s : State) (k : Nat) (f : EngState → EngState) : (s.updEng k f).pending = s.pending := rfl
@[simp] theorem State.updEng_clock (s : State) (k : Nat) (f : EngState → EngState) : (s.updEng k f).clock = s.clock := rfl
@[simp] theorem State.updEng_htOfs (s : State) (k : Nat) (f : EngState → EngState) : (s.updEng k f).htOfs = s.htOfs := rfl
@[simp] theorem State.updEng_freeCount (s : State) (k : Nat) (f : EngState → EngState) : (s.updEng k f).freeCount = s.freeCount := rfl
@[simp] theorem State.updEng_regs (s : State) (k : Nat) (f : EngState → EngState) : (s.updEng k f).regs = s.regs := rfl
@[simp] theorem State.updEng_timers (s : State) (k : Nat) (f : EngState → EngState) : (s.updEng k f).timers = s.timers := rfl
@[simp] theorem State.updEng_trace (s : State) (k : Nat) (f : EngState → EngState) : (s.updEng k f).trace = s.trace := rfl
@[simp] theorem State.updEng_tracePost (s : State) (k : Nat) (f : EngState → EngState) : (s.updEng k f).tracePost = s.tracePost := rfl
@[simp] theorem State.updEng_sys (s : State) (k : Nat) (f : EngState → EngState) : (s.updEng k f).sys = s.sys := rfl
@[simp] theorem State.updEng_acrd (s : State) (k : Nat) (f : EngState → EngState) : (s.updEng k f).acrd = s.acrd := rfl
@[simp] theorem State.updEng_loops (s : State) (k : Nat) (f : EngState → EngState) : (s.updEng k f).loops = s.loops := rfl
@[simp] theorem State.updEng_phases (s : State) (k : Nat) (f : EngState → EngState) : (s.updEng k f).phases = s.phases := rfl
@[simp] theorem State.updEng_ilReply (s : State) (k : Nat) (f : EngState → EngState) : (s.updEng k f).ilReply = s.ilReply := rfl
@[simp] theorem State.updEng_rails (s : State) (k : Nat) (f : EngState → EngState) : (s.updEng k f).rails = s.rails := rfl
@[simp] theorem State.updEng_groups (s : State) (k : Nat) (f : EngState → EngState) : (s.updEng k f).groups = s.groups := rfl
@[simp] theorem State.updEng_seq (s : State) (k : Nat) (f : EngState → EngState) : (s.updEng k f).seq = s.seq := rfl
@[simp] theorem State.updEng_sup (s : State) (k : Nat) (f : EngState → EngState) : (s.updEng k f).sup = s.sup := rfl
@[simp] theorem State.updEng_path (s : State) (k : Nat) (f : EngState → EngState) : (s.updEng k f).path = s.path := rfl
@[simp] theorem State.updEng_meas (s : State) (k : Nat) (f : EngState → EngState) : (s.updEng k f).meas = s.meas := rfl
@[simp] theorem State.updEng_flt (s : State) (k : Nat) (f : EngState → EngState) : (s.updEng k f).flt = s.flt := rfl
@[simp] theorem State.updEng_ledg (s : State) (k : Nat) (f : EngState → EngState) : (s.updEng k f).ledg = s.ledg := rfl
@[simp] theorem State.updEng_host (s : State) (k : Nat) (f : EngState → EngState) : (s.updEng k f).host = s.host := rfl
@[simp] theorem State.updEng_link (s : State) (k : Nat) (f : EngState → EngState) : (s.updEng k f).link = s.link := rfl
@[simp] theorem State.updEng_bist (s : State) (k : Nat) (f : EngState → EngState) : (s.updEng k f).bist = s.bist := rfl
@[simp] theorem State.updEng_hiLatch (s : State) (k : Nat) (f : EngState → EngState) : (s.updEng k f).hiLatch = s.hiLatch := rfl
@[simp] theorem State.updEng_loLatch (s : State) (k : Nat) (f : EngState → EngState) : (s.updEng k f).loLatch = s.loLatch := rfl

/-! ## updDma -/

@[simp] theorem State.updDma_pending (s : State) (k : Nat) (f : DmaState → DmaState) : (s.updDma k f).pending = s.pending := rfl
@[simp] theorem State.updDma_clock (s : State) (k : Nat) (f : DmaState → DmaState) : (s.updDma k f).clock = s.clock := rfl
@[simp] theorem State.updDma_htOfs (s : State) (k : Nat) (f : DmaState → DmaState) : (s.updDma k f).htOfs = s.htOfs := rfl
@[simp] theorem State.updDma_freeCount (s : State) (k : Nat) (f : DmaState → DmaState) : (s.updDma k f).freeCount = s.freeCount := rfl
@[simp] theorem State.updDma_regs (s : State) (k : Nat) (f : DmaState → DmaState) : (s.updDma k f).regs = s.regs := rfl
@[simp] theorem State.updDma_timers (s : State) (k : Nat) (f : DmaState → DmaState) : (s.updDma k f).timers = s.timers := rfl
@[simp] theorem State.updDma_trace (s : State) (k : Nat) (f : DmaState → DmaState) : (s.updDma k f).trace = s.trace := rfl
@[simp] theorem State.updDma_tracePost (s : State) (k : Nat) (f : DmaState → DmaState) : (s.updDma k f).tracePost = s.tracePost := rfl
@[simp] theorem State.updDma_sys (s : State) (k : Nat) (f : DmaState → DmaState) : (s.updDma k f).sys = s.sys := rfl
@[simp] theorem State.updDma_acrd (s : State) (k : Nat) (f : DmaState → DmaState) : (s.updDma k f).acrd = s.acrd := rfl
@[simp] theorem State.updDma_loops (s : State) (k : Nat) (f : DmaState → DmaState) : (s.updDma k f).loops = s.loops := rfl
@[simp] theorem State.updDma_phases (s : State) (k : Nat) (f : DmaState → DmaState) : (s.updDma k f).phases = s.phases := rfl
@[simp] theorem State.updDma_ilReply (s : State) (k : Nat) (f : DmaState → DmaState) : (s.updDma k f).ilReply = s.ilReply := rfl
@[simp] theorem State.updDma_rails (s : State) (k : Nat) (f : DmaState → DmaState) : (s.updDma k f).rails = s.rails := rfl
@[simp] theorem State.updDma_groups (s : State) (k : Nat) (f : DmaState → DmaState) : (s.updDma k f).groups = s.groups := rfl
@[simp] theorem State.updDma_seq (s : State) (k : Nat) (f : DmaState → DmaState) : (s.updDma k f).seq = s.seq := rfl
@[simp] theorem State.updDma_sup (s : State) (k : Nat) (f : DmaState → DmaState) : (s.updDma k f).sup = s.sup := rfl
@[simp] theorem State.updDma_path (s : State) (k : Nat) (f : DmaState → DmaState) : (s.updDma k f).path = s.path := rfl
@[simp] theorem State.updDma_meas (s : State) (k : Nat) (f : DmaState → DmaState) : (s.updDma k f).meas = s.meas := rfl
@[simp] theorem State.updDma_flt (s : State) (k : Nat) (f : DmaState → DmaState) : (s.updDma k f).flt = s.flt := rfl
@[simp] theorem State.updDma_ledg (s : State) (k : Nat) (f : DmaState → DmaState) : (s.updDma k f).ledg = s.ledg := rfl
@[simp] theorem State.updDma_host (s : State) (k : Nat) (f : DmaState → DmaState) : (s.updDma k f).host = s.host := rfl
@[simp] theorem State.updDma_link (s : State) (k : Nat) (f : DmaState → DmaState) : (s.updDma k f).link = s.link := rfl
@[simp] theorem State.updDma_bist (s : State) (k : Nat) (f : DmaState → DmaState) : (s.updDma k f).bist = s.bist := rfl
@[simp] theorem State.updDma_hiLatch (s : State) (k : Nat) (f : DmaState → DmaState) : (s.updDma k f).hiLatch = s.hiLatch := rfl
@[simp] theorem State.updDma_loLatch (s : State) (k : Nat) (f : DmaState → DmaState) : (s.updDma k f).loLatch = s.loLatch := rfl

/-! ## updPort -/

@[simp] theorem State.updPort_pending (s : State) (k : Nat) (f : PortState → PortState) : (s.updPort k f).pending = s.pending := rfl
@[simp] theorem State.updPort_clock (s : State) (k : Nat) (f : PortState → PortState) : (s.updPort k f).clock = s.clock := rfl
@[simp] theorem State.updPort_htOfs (s : State) (k : Nat) (f : PortState → PortState) : (s.updPort k f).htOfs = s.htOfs := rfl
@[simp] theorem State.updPort_freeCount (s : State) (k : Nat) (f : PortState → PortState) : (s.updPort k f).freeCount = s.freeCount := rfl
@[simp] theorem State.updPort_regs (s : State) (k : Nat) (f : PortState → PortState) : (s.updPort k f).regs = s.regs := rfl
@[simp] theorem State.updPort_timers (s : State) (k : Nat) (f : PortState → PortState) : (s.updPort k f).timers = s.timers := rfl
@[simp] theorem State.updPort_trace (s : State) (k : Nat) (f : PortState → PortState) : (s.updPort k f).trace = s.trace := rfl
@[simp] theorem State.updPort_tracePost (s : State) (k : Nat) (f : PortState → PortState) : (s.updPort k f).tracePost = s.tracePost := rfl
@[simp] theorem State.updPort_sys (s : State) (k : Nat) (f : PortState → PortState) : (s.updPort k f).sys = s.sys := rfl
@[simp] theorem State.updPort_acrd (s : State) (k : Nat) (f : PortState → PortState) : (s.updPort k f).acrd = s.acrd := rfl
@[simp] theorem State.updPort_loops (s : State) (k : Nat) (f : PortState → PortState) : (s.updPort k f).loops = s.loops := rfl
@[simp] theorem State.updPort_phases (s : State) (k : Nat) (f : PortState → PortState) : (s.updPort k f).phases = s.phases := rfl
@[simp] theorem State.updPort_ilReply (s : State) (k : Nat) (f : PortState → PortState) : (s.updPort k f).ilReply = s.ilReply := rfl
@[simp] theorem State.updPort_rails (s : State) (k : Nat) (f : PortState → PortState) : (s.updPort k f).rails = s.rails := rfl
@[simp] theorem State.updPort_groups (s : State) (k : Nat) (f : PortState → PortState) : (s.updPort k f).groups = s.groups := rfl
@[simp] theorem State.updPort_seq (s : State) (k : Nat) (f : PortState → PortState) : (s.updPort k f).seq = s.seq := rfl
@[simp] theorem State.updPort_sup (s : State) (k : Nat) (f : PortState → PortState) : (s.updPort k f).sup = s.sup := rfl
@[simp] theorem State.updPort_path (s : State) (k : Nat) (f : PortState → PortState) : (s.updPort k f).path = s.path := rfl
@[simp] theorem State.updPort_meas (s : State) (k : Nat) (f : PortState → PortState) : (s.updPort k f).meas = s.meas := rfl
@[simp] theorem State.updPort_flt (s : State) (k : Nat) (f : PortState → PortState) : (s.updPort k f).flt = s.flt := rfl
@[simp] theorem State.updPort_ledg (s : State) (k : Nat) (f : PortState → PortState) : (s.updPort k f).ledg = s.ledg := rfl
@[simp] theorem State.updPort_evt (s : State) (k : Nat) (f : PortState → PortState) : (s.updPort k f).evt = s.evt := rfl
@[simp] theorem State.updPort_host (s : State) (k : Nat) (f : PortState → PortState) : (s.updPort k f).host = s.host := rfl
@[simp] theorem State.updPort_bist (s : State) (k : Nat) (f : PortState → PortState) : (s.updPort k f).bist = s.bist := rfl
@[simp] theorem State.updPort_hiLatch (s : State) (k : Nat) (f : PortState → PortState) : (s.updPort k f).hiLatch = s.hiLatch := rfl
@[simp] theorem State.updPort_loLatch (s : State) (k : Nat) (f : PortState → PortState) : (s.updPort k f).loLatch = s.loLatch := rfl

/-! ## updLoop -/

@[simp] theorem State.updLoop_pending (s : State) (k : Nat) (f : LoopState → LoopState) : (s.updLoop k f).pending = s.pending := rfl
@[simp] theorem State.updLoop_clock (s : State) (k : Nat) (f : LoopState → LoopState) : (s.updLoop k f).clock = s.clock := rfl
@[simp] theorem State.updLoop_htOfs (s : State) (k : Nat) (f : LoopState → LoopState) : (s.updLoop k f).htOfs = s.htOfs := rfl
@[simp] theorem State.updLoop_freeCount (s : State) (k : Nat) (f : LoopState → LoopState) : (s.updLoop k f).freeCount = s.freeCount := rfl
@[simp] theorem State.updLoop_regs (s : State) (k : Nat) (f : LoopState → LoopState) : (s.updLoop k f).regs = s.regs := rfl
@[simp] theorem State.updLoop_timers (s : State) (k : Nat) (f : LoopState → LoopState) : (s.updLoop k f).timers = s.timers := rfl
@[simp] theorem State.updLoop_trace (s : State) (k : Nat) (f : LoopState → LoopState) : (s.updLoop k f).trace = s.trace := rfl
@[simp] theorem State.updLoop_tracePost (s : State) (k : Nat) (f : LoopState → LoopState) : (s.updLoop k f).tracePost = s.tracePost := rfl
@[simp] theorem State.updLoop_sys (s : State) (k : Nat) (f : LoopState → LoopState) : (s.updLoop k f).sys = s.sys := rfl
@[simp] theorem State.updLoop_acrd (s : State) (k : Nat) (f : LoopState → LoopState) : (s.updLoop k f).acrd = s.acrd := rfl
@[simp] theorem State.updLoop_phases (s : State) (k : Nat) (f : LoopState → LoopState) : (s.updLoop k f).phases = s.phases := rfl
@[simp] theorem State.updLoop_ilReply (s : State) (k : Nat) (f : LoopState → LoopState) : (s.updLoop k f).ilReply = s.ilReply := rfl
@[simp] theorem State.updLoop_rails (s : State) (k : Nat) (f : LoopState → LoopState) : (s.updLoop k f).rails = s.rails := rfl
@[simp] theorem State.updLoop_groups (s : State) (k : Nat) (f : LoopState → LoopState) : (s.updLoop k f).groups = s.groups := rfl
@[simp] theorem State.updLoop_seq (s : State) (k : Nat) (f : LoopState → LoopState) : (s.updLoop k f).seq = s.seq := rfl
@[simp] theorem State.updLoop_sup (s : State) (k : Nat) (f : LoopState → LoopState) : (s.updLoop k f).sup = s.sup := rfl
@[simp] theorem State.updLoop_path (s : State) (k : Nat) (f : LoopState → LoopState) : (s.updLoop k f).path = s.path := rfl
@[simp] theorem State.updLoop_meas (s : State) (k : Nat) (f : LoopState → LoopState) : (s.updLoop k f).meas = s.meas := rfl
@[simp] theorem State.updLoop_flt (s : State) (k : Nat) (f : LoopState → LoopState) : (s.updLoop k f).flt = s.flt := rfl
@[simp] theorem State.updLoop_ledg (s : State) (k : Nat) (f : LoopState → LoopState) : (s.updLoop k f).ledg = s.ledg := rfl
@[simp] theorem State.updLoop_evt (s : State) (k : Nat) (f : LoopState → LoopState) : (s.updLoop k f).evt = s.evt := rfl
@[simp] theorem State.updLoop_host (s : State) (k : Nat) (f : LoopState → LoopState) : (s.updLoop k f).host = s.host := rfl
@[simp] theorem State.updLoop_link (s : State) (k : Nat) (f : LoopState → LoopState) : (s.updLoop k f).link = s.link := rfl
@[simp] theorem State.updLoop_bist (s : State) (k : Nat) (f : LoopState → LoopState) : (s.updLoop k f).bist = s.bist := rfl
@[simp] theorem State.updLoop_hiLatch (s : State) (k : Nat) (f : LoopState → LoopState) : (s.updLoop k f).hiLatch = s.hiLatch := rfl
@[simp] theorem State.updLoop_loLatch (s : State) (k : Nat) (f : LoopState → LoopState) : (s.updLoop k f).loLatch = s.loLatch := rfl

/-! ## updPhase -/

@[simp] theorem State.updPhase_pending (s : State) (k : Nat) (f : PhaseState → PhaseState) : (s.updPhase k f).pending = s.pending := rfl
@[simp] theorem State.updPhase_clock (s : State) (k : Nat) (f : PhaseState → PhaseState) : (s.updPhase k f).clock = s.clock := rfl
@[simp] theorem State.updPhase_htOfs (s : State) (k : Nat) (f : PhaseState → PhaseState) : (s.updPhase k f).htOfs = s.htOfs := rfl
@[simp] theorem State.updPhase_freeCount (s : State) (k : Nat) (f : PhaseState → PhaseState) : (s.updPhase k f).freeCount = s.freeCount := rfl
@[simp] theorem State.updPhase_regs (s : State) (k : Nat) (f : PhaseState → PhaseState) : (s.updPhase k f).regs = s.regs := rfl
@[simp] theorem State.updPhase_timers (s : State) (k : Nat) (f : PhaseState → PhaseState) : (s.updPhase k f).timers = s.timers := rfl
@[simp] theorem State.updPhase_trace (s : State) (k : Nat) (f : PhaseState → PhaseState) : (s.updPhase k f).trace = s.trace := rfl
@[simp] theorem State.updPhase_tracePost (s : State) (k : Nat) (f : PhaseState → PhaseState) : (s.updPhase k f).tracePost = s.tracePost := rfl
@[simp] theorem State.updPhase_sys (s : State) (k : Nat) (f : PhaseState → PhaseState) : (s.updPhase k f).sys = s.sys := rfl
@[simp] theorem State.updPhase_acrd (s : State) (k : Nat) (f : PhaseState → PhaseState) : (s.updPhase k f).acrd = s.acrd := rfl
@[simp] theorem State.updPhase_loops (s : State) (k : Nat) (f : PhaseState → PhaseState) : (s.updPhase k f).loops = s.loops := rfl
@[simp] theorem State.updPhase_ilReply (s : State) (k : Nat) (f : PhaseState → PhaseState) : (s.updPhase k f).ilReply = s.ilReply := rfl
@[simp] theorem State.updPhase_rails (s : State) (k : Nat) (f : PhaseState → PhaseState) : (s.updPhase k f).rails = s.rails := rfl
@[simp] theorem State.updPhase_groups (s : State) (k : Nat) (f : PhaseState → PhaseState) : (s.updPhase k f).groups = s.groups := rfl
@[simp] theorem State.updPhase_seq (s : State) (k : Nat) (f : PhaseState → PhaseState) : (s.updPhase k f).seq = s.seq := rfl
@[simp] theorem State.updPhase_sup (s : State) (k : Nat) (f : PhaseState → PhaseState) : (s.updPhase k f).sup = s.sup := rfl
@[simp] theorem State.updPhase_path (s : State) (k : Nat) (f : PhaseState → PhaseState) : (s.updPhase k f).path = s.path := rfl
@[simp] theorem State.updPhase_meas (s : State) (k : Nat) (f : PhaseState → PhaseState) : (s.updPhase k f).meas = s.meas := rfl
@[simp] theorem State.updPhase_flt (s : State) (k : Nat) (f : PhaseState → PhaseState) : (s.updPhase k f).flt = s.flt := rfl
@[simp] theorem State.updPhase_ledg (s : State) (k : Nat) (f : PhaseState → PhaseState) : (s.updPhase k f).ledg = s.ledg := rfl
@[simp] theorem State.updPhase_evt (s : State) (k : Nat) (f : PhaseState → PhaseState) : (s.updPhase k f).evt = s.evt := rfl
@[simp] theorem State.updPhase_host (s : State) (k : Nat) (f : PhaseState → PhaseState) : (s.updPhase k f).host = s.host := rfl
@[simp] theorem State.updPhase_link (s : State) (k : Nat) (f : PhaseState → PhaseState) : (s.updPhase k f).link = s.link := rfl
@[simp] theorem State.updPhase_bist (s : State) (k : Nat) (f : PhaseState → PhaseState) : (s.updPhase k f).bist = s.bist := rfl
@[simp] theorem State.updPhase_hiLatch (s : State) (k : Nat) (f : PhaseState → PhaseState) : (s.updPhase k f).hiLatch = s.hiLatch := rfl
@[simp] theorem State.updPhase_loLatch (s : State) (k : Nat) (f : PhaseState → PhaseState) : (s.updPhase k f).loLatch = s.loLatch := rfl

/-! ## updConv -/

@[simp] theorem State.updConv_pending (s : State) (k : Nat) (f : ConvState → ConvState) : (s.updConv k f).pending = s.pending := rfl
@[simp] theorem State.updConv_clock (s : State) (k : Nat) (f : ConvState → ConvState) : (s.updConv k f).clock = s.clock := rfl
@[simp] theorem State.updConv_htOfs (s : State) (k : Nat) (f : ConvState → ConvState) : (s.updConv k f).htOfs = s.htOfs := rfl
@[simp] theorem State.updConv_freeCount (s : State) (k : Nat) (f : ConvState → ConvState) : (s.updConv k f).freeCount = s.freeCount := rfl
@[simp] theorem State.updConv_regs (s : State) (k : Nat) (f : ConvState → ConvState) : (s.updConv k f).regs = s.regs := rfl
@[simp] theorem State.updConv_timers (s : State) (k : Nat) (f : ConvState → ConvState) : (s.updConv k f).timers = s.timers := rfl
@[simp] theorem State.updConv_trace (s : State) (k : Nat) (f : ConvState → ConvState) : (s.updConv k f).trace = s.trace := rfl
@[simp] theorem State.updConv_tracePost (s : State) (k : Nat) (f : ConvState → ConvState) : (s.updConv k f).tracePost = s.tracePost := rfl
@[simp] theorem State.updConv_sys (s : State) (k : Nat) (f : ConvState → ConvState) : (s.updConv k f).sys = s.sys := rfl
@[simp] theorem State.updConv_acrd (s : State) (k : Nat) (f : ConvState → ConvState) : (s.updConv k f).acrd = s.acrd := rfl
@[simp] theorem State.updConv_loops (s : State) (k : Nat) (f : ConvState → ConvState) : (s.updConv k f).loops = s.loops := rfl
@[simp] theorem State.updConv_phases (s : State) (k : Nat) (f : ConvState → ConvState) : (s.updConv k f).phases = s.phases := rfl
@[simp] theorem State.updConv_ilReply (s : State) (k : Nat) (f : ConvState → ConvState) : (s.updConv k f).ilReply = s.ilReply := rfl
@[simp] theorem State.updConv_rails (s : State) (k : Nat) (f : ConvState → ConvState) : (s.updConv k f).rails = s.rails := rfl
@[simp] theorem State.updConv_groups (s : State) (k : Nat) (f : ConvState → ConvState) : (s.updConv k f).groups = s.groups := rfl
@[simp] theorem State.updConv_seq (s : State) (k : Nat) (f : ConvState → ConvState) : (s.updConv k f).seq = s.seq := rfl
@[simp] theorem State.updConv_sup (s : State) (k : Nat) (f : ConvState → ConvState) : (s.updConv k f).sup = s.sup := rfl
@[simp] theorem State.updConv_path (s : State) (k : Nat) (f : ConvState → ConvState) : (s.updConv k f).path = s.path := rfl
@[simp] theorem State.updConv_flt (s : State) (k : Nat) (f : ConvState → ConvState) : (s.updConv k f).flt = s.flt := rfl
@[simp] theorem State.updConv_ledg (s : State) (k : Nat) (f : ConvState → ConvState) : (s.updConv k f).ledg = s.ledg := rfl
@[simp] theorem State.updConv_evt (s : State) (k : Nat) (f : ConvState → ConvState) : (s.updConv k f).evt = s.evt := rfl
@[simp] theorem State.updConv_host (s : State) (k : Nat) (f : ConvState → ConvState) : (s.updConv k f).host = s.host := rfl
@[simp] theorem State.updConv_link (s : State) (k : Nat) (f : ConvState → ConvState) : (s.updConv k f).link = s.link := rfl
@[simp] theorem State.updConv_bist (s : State) (k : Nat) (f : ConvState → ConvState) : (s.updConv k f).bist = s.bist := rfl
@[simp] theorem State.updConv_hiLatch (s : State) (k : Nat) (f : ConvState → ConvState) : (s.updConv k f).hiLatch = s.hiLatch := rfl
@[simp] theorem State.updConv_loLatch (s : State) (k : Nat) (f : ConvState → ConvState) : (s.updConv k f).loLatch = s.loLatch := rfl

/-! ## updChan -/

@[simp] theorem State.updChan_pending (s : State) (k : Nat) (f : ChanState → ChanState) : (s.updChan k f).pending = s.pending := rfl
@[simp] theorem State.updChan_clock (s : State) (k : Nat) (f : ChanState → ChanState) : (s.updChan k f).clock = s.clock := rfl
@[simp] theorem State.updChan_htOfs (s : State) (k : Nat) (f : ChanState → ChanState) : (s.updChan k f).htOfs = s.htOfs := rfl
@[simp] theorem State.updChan_freeCount (s : State) (k : Nat) (f : ChanState → ChanState) : (s.updChan k f).freeCount = s.freeCount := rfl
@[simp] theorem State.updChan_regs (s : State) (k : Nat) (f : ChanState → ChanState) : (s.updChan k f).regs = s.regs := rfl
@[simp] theorem State.updChan_timers (s : State) (k : Nat) (f : ChanState → ChanState) : (s.updChan k f).timers = s.timers := rfl
@[simp] theorem State.updChan_trace (s : State) (k : Nat) (f : ChanState → ChanState) : (s.updChan k f).trace = s.trace := rfl
@[simp] theorem State.updChan_tracePost (s : State) (k : Nat) (f : ChanState → ChanState) : (s.updChan k f).tracePost = s.tracePost := rfl
@[simp] theorem State.updChan_sys (s : State) (k : Nat) (f : ChanState → ChanState) : (s.updChan k f).sys = s.sys := rfl
@[simp] theorem State.updChan_acrd (s : State) (k : Nat) (f : ChanState → ChanState) : (s.updChan k f).acrd = s.acrd := rfl
@[simp] theorem State.updChan_loops (s : State) (k : Nat) (f : ChanState → ChanState) : (s.updChan k f).loops = s.loops := rfl
@[simp] theorem State.updChan_phases (s : State) (k : Nat) (f : ChanState → ChanState) : (s.updChan k f).phases = s.phases := rfl
@[simp] theorem State.updChan_ilReply (s : State) (k : Nat) (f : ChanState → ChanState) : (s.updChan k f).ilReply = s.ilReply := rfl
@[simp] theorem State.updChan_rails (s : State) (k : Nat) (f : ChanState → ChanState) : (s.updChan k f).rails = s.rails := rfl
@[simp] theorem State.updChan_groups (s : State) (k : Nat) (f : ChanState → ChanState) : (s.updChan k f).groups = s.groups := rfl
@[simp] theorem State.updChan_seq (s : State) (k : Nat) (f : ChanState → ChanState) : (s.updChan k f).seq = s.seq := rfl
@[simp] theorem State.updChan_sup (s : State) (k : Nat) (f : ChanState → ChanState) : (s.updChan k f).sup = s.sup := rfl
@[simp] theorem State.updChan_path (s : State) (k : Nat) (f : ChanState → ChanState) : (s.updChan k f).path = s.path := rfl
@[simp] theorem State.updChan_flt (s : State) (k : Nat) (f : ChanState → ChanState) : (s.updChan k f).flt = s.flt := rfl
@[simp] theorem State.updChan_ledg (s : State) (k : Nat) (f : ChanState → ChanState) : (s.updChan k f).ledg = s.ledg := rfl
@[simp] theorem State.updChan_evt (s : State) (k : Nat) (f : ChanState → ChanState) : (s.updChan k f).evt = s.evt := rfl
@[simp] theorem State.updChan_host (s : State) (k : Nat) (f : ChanState → ChanState) : (s.updChan k f).host = s.host := rfl
@[simp] theorem State.updChan_link (s : State) (k : Nat) (f : ChanState → ChanState) : (s.updChan k f).link = s.link := rfl
@[simp] theorem State.updChan_bist (s : State) (k : Nat) (f : ChanState → ChanState) : (s.updChan k f).bist = s.bist := rfl
@[simp] theorem State.updChan_hiLatch (s : State) (k : Nat) (f : ChanState → ChanState) : (s.updChan k f).hiLatch = s.hiLatch := rfl
@[simp] theorem State.updChan_loLatch (s : State) (k : Nat) (f : ChanState → ChanState) : (s.updChan k f).loLatch = s.loLatch := rfl

/-! ## updRail -/

@[simp] theorem State.updRail_pending (s : State) (k : Nat) (f : RailState → RailState) : (s.updRail k f).pending = s.pending := rfl
@[simp] theorem State.updRail_clock (s : State) (k : Nat) (f : RailState → RailState) : (s.updRail k f).clock = s.clock := rfl
@[simp] theorem State.updRail_htOfs (s : State) (k : Nat) (f : RailState → RailState) : (s.updRail k f).htOfs = s.htOfs := rfl
@[simp] theorem State.updRail_freeCount (s : State) (k : Nat) (f : RailState → RailState) : (s.updRail k f).freeCount = s.freeCount := rfl
@[simp] theorem State.updRail_regs (s : State) (k : Nat) (f : RailState → RailState) : (s.updRail k f).regs = s.regs := rfl
@[simp] theorem State.updRail_timers (s : State) (k : Nat) (f : RailState → RailState) : (s.updRail k f).timers = s.timers := rfl
@[simp] theorem State.updRail_trace (s : State) (k : Nat) (f : RailState → RailState) : (s.updRail k f).trace = s.trace := rfl
@[simp] theorem State.updRail_tracePost (s : State) (k : Nat) (f : RailState → RailState) : (s.updRail k f).tracePost = s.tracePost := rfl
@[simp] theorem State.updRail_sys (s : State) (k : Nat) (f : RailState → RailState) : (s.updRail k f).sys = s.sys := rfl
@[simp] theorem State.updRail_acrd (s : State) (k : Nat) (f : RailState → RailState) : (s.updRail k f).acrd = s.acrd := rfl
@[simp] theorem State.updRail_loops (s : State) (k : Nat) (f : RailState → RailState) : (s.updRail k f).loops = s.loops := rfl
@[simp] theorem State.updRail_phases (s : State) (k : Nat) (f : RailState → RailState) : (s.updRail k f).phases = s.phases := rfl
@[simp] theorem State.updRail_ilReply (s : State) (k : Nat) (f : RailState → RailState) : (s.updRail k f).ilReply = s.ilReply := rfl
@[simp] theorem State.updRail_groups (s : State) (k : Nat) (f : RailState → RailState) : (s.updRail k f).groups = s.groups := rfl
@[simp] theorem State.updRail_seq (s : State) (k : Nat) (f : RailState → RailState) : (s.updRail k f).seq = s.seq := rfl
@[simp] theorem State.updRail_sup (s : State) (k : Nat) (f : RailState → RailState) : (s.updRail k f).sup = s.sup := rfl
@[simp] theorem State.updRail_path (s : State) (k : Nat) (f : RailState → RailState) : (s.updRail k f).path = s.path := rfl
@[simp] theorem State.updRail_meas (s : State) (k : Nat) (f : RailState → RailState) : (s.updRail k f).meas = s.meas := rfl
@[simp] theorem State.updRail_flt (s : State) (k : Nat) (f : RailState → RailState) : (s.updRail k f).flt = s.flt := rfl
@[simp] theorem State.updRail_ledg (s : State) (k : Nat) (f : RailState → RailState) : (s.updRail k f).ledg = s.ledg := rfl
@[simp] theorem State.updRail_evt (s : State) (k : Nat) (f : RailState → RailState) : (s.updRail k f).evt = s.evt := rfl
@[simp] theorem State.updRail_host (s : State) (k : Nat) (f : RailState → RailState) : (s.updRail k f).host = s.host := rfl
@[simp] theorem State.updRail_link (s : State) (k : Nat) (f : RailState → RailState) : (s.updRail k f).link = s.link := rfl
@[simp] theorem State.updRail_bist (s : State) (k : Nat) (f : RailState → RailState) : (s.updRail k f).bist = s.bist := rfl
@[simp] theorem State.updRail_hiLatch (s : State) (k : Nat) (f : RailState → RailState) : (s.updRail k f).hiLatch = s.hiLatch := rfl
@[simp] theorem State.updRail_loLatch (s : State) (k : Nat) (f : RailState → RailState) : (s.updRail k f).loLatch = s.loLatch := rfl

/-! ## updGroup -/

@[simp] theorem State.updGroup_pending (s : State) (k : Nat) (f : GroupState → GroupState) : (s.updGroup k f).pending = s.pending := rfl
@[simp] theorem State.updGroup_clock (s : State) (k : Nat) (f : GroupState → GroupState) : (s.updGroup k f).clock = s.clock := rfl
@[simp] theorem State.updGroup_htOfs (s : State) (k : Nat) (f : GroupState → GroupState) : (s.updGroup k f).htOfs = s.htOfs := rfl
@[simp] theorem State.updGroup_freeCount (s : State) (k : Nat) (f : GroupState → GroupState) : (s.updGroup k f).freeCount = s.freeCount := rfl
@[simp] theorem State.updGroup_regs (s : State) (k : Nat) (f : GroupState → GroupState) : (s.updGroup k f).regs = s.regs := rfl
@[simp] theorem State.updGroup_timers (s : State) (k : Nat) (f : GroupState → GroupState) : (s.updGroup k f).timers = s.timers := rfl
@[simp] theorem State.updGroup_trace (s : State) (k : Nat) (f : GroupState → GroupState) : (s.updGroup k f).trace = s.trace := rfl
@[simp] theorem State.updGroup_tracePost (s : State) (k : Nat) (f : GroupState → GroupState) : (s.updGroup k f).tracePost = s.tracePost := rfl
@[simp] theorem State.updGroup_sys (s : State) (k : Nat) (f : GroupState → GroupState) : (s.updGroup k f).sys = s.sys := rfl
@[simp] theorem State.updGroup_acrd (s : State) (k : Nat) (f : GroupState → GroupState) : (s.updGroup k f).acrd = s.acrd := rfl
@[simp] theorem State.updGroup_loops (s : State) (k : Nat) (f : GroupState → GroupState) : (s.updGroup k f).loops = s.loops := rfl
@[simp] theorem State.updGroup_phases (s : State) (k : Nat) (f : GroupState → GroupState) : (s.updGroup k f).phases = s.phases := rfl
@[simp] theorem State.updGroup_ilReply (s : State) (k : Nat) (f : GroupState → GroupState) : (s.updGroup k f).ilReply = s.ilReply := rfl
@[simp] theorem State.updGroup_rails (s : State) (k : Nat) (f : GroupState → GroupState) : (s.updGroup k f).rails = s.rails := rfl
@[simp] theorem State.updGroup_seq (s : State) (k : Nat) (f : GroupState → GroupState) : (s.updGroup k f).seq = s.seq := rfl
@[simp] theorem State.updGroup_sup (s : State) (k : Nat) (f : GroupState → GroupState) : (s.updGroup k f).sup = s.sup := rfl
@[simp] theorem State.updGroup_path (s : State) (k : Nat) (f : GroupState → GroupState) : (s.updGroup k f).path = s.path := rfl
@[simp] theorem State.updGroup_meas (s : State) (k : Nat) (f : GroupState → GroupState) : (s.updGroup k f).meas = s.meas := rfl
@[simp] theorem State.updGroup_flt (s : State) (k : Nat) (f : GroupState → GroupState) : (s.updGroup k f).flt = s.flt := rfl
@[simp] theorem State.updGroup_ledg (s : State) (k : Nat) (f : GroupState → GroupState) : (s.updGroup k f).ledg = s.ledg := rfl
@[simp] theorem State.updGroup_evt (s : State) (k : Nat) (f : GroupState → GroupState) : (s.updGroup k f).evt = s.evt := rfl
@[simp] theorem State.updGroup_host (s : State) (k : Nat) (f : GroupState → GroupState) : (s.updGroup k f).host = s.host := rfl
@[simp] theorem State.updGroup_link (s : State) (k : Nat) (f : GroupState → GroupState) : (s.updGroup k f).link = s.link := rfl
@[simp] theorem State.updGroup_bist (s : State) (k : Nat) (f : GroupState → GroupState) : (s.updGroup k f).bist = s.bist := rfl
@[simp] theorem State.updGroup_hiLatch (s : State) (k : Nat) (f : GroupState → GroupState) : (s.updGroup k f).hiLatch = s.hiLatch := rfl
@[simp] theorem State.updGroup_loLatch (s : State) (k : Nat) (f : GroupState → GroupState) : (s.updGroup k f).loLatch = s.loLatch := rfl

end Sys2Proof.Machine
end

