-- ==== Sys2Proof/Laws/Regs.lean ====
section
/-! SUPPORT.  Reading a register, a field, a pair or a timer after a write of one. -/

set_option Elab.async false

namespace Sys2Proof

/-- The bits of a word after a field of it was written. -/
theorem Word.testBit_setField (x : Word) {lo w : Nat} (v i : Nat) (h : lo + w ≤ 32) :
    (x.setField lo w v).toNat.testBit i =
      if lo ≤ i ∧ i < lo + w then v.testBit (i - lo) else x.toNat.testBit i := by
  have hx := x.isLt
  have hp : (0:Nat) < 2 ^ lo := Nat.two_pow_pos lo
  have e1 : x.toNat = x.toNat % 2 ^ lo + 2 ^ lo * (x.toNat / 2 ^ lo % 2 ^ w + 2 ^ w * (x.toNat / 2 ^ lo / 2 ^ w)) := by
    rw [Nat.mod_add_div (x.toNat / 2 ^ lo), Nat.mod_add_div]
  have e2 : x.toNat - x.field lo w * 2 ^ lo + v % 2 ^ w * 2 ^ lo
      = 2 ^ lo * (2 ^ w * (x.toNat / 2 ^ lo / 2 ^ w) + v % 2 ^ w) + x.toNat % 2 ^ lo := by
    unfold Word.field
    generalize x.toNat / 2 ^ lo % 2 ^ w = a at *
    generalize x.toNat % 2 ^ lo = b at *
    generalize x.toNat / 2 ^ lo / 2 ^ w = c at *
    rw [e1]
    have : b + 2 ^ lo * (a + 2 ^ w * c) - a * 2 ^ lo = b + 2 ^ lo * (2 ^ w * c) := by
      rw [Nat.mul_add, Nat.mul_comm a]; omega
    rw [this]; ring
  have hv : v % 2 ^ w < 2 ^ w := Nat.mod_lt _ (Nat.two_pow_pos w)
  have hb : x.toNat % 2 ^ lo < 2 ^ lo := Nat.mod_lt _ hp
  have lt : 2 ^ lo * (2 ^ w * (x.toNat / 2 ^ lo / 2 ^ w) + v % 2 ^ w) + x.toNat % 2 ^ lo < 2 ^ 32 := by
    have h32 : (2:Nat) ^ 32 = 2 ^ lo * (2 ^ w * 2 ^ (32 - lo - w)) := by
      rw [← Nat.pow_add, ← Nat.pow_add]; congr 1; omega
    have hc : x.toNat / 2 ^ lo / 2 ^ w < 2 ^ (32 - lo - w) := by
      rw [Nat.div_div_eq_div_mul, Nat.div_lt_iff_lt_mul (by positivity), ← Nat.pow_add, ← Nat.pow_add]
      calc x.toNat < 2 ^ 32 := hx
        _ = _ := by congr 1; omega
    have h3 : 2 ^ w * (x.toNat / 2 ^ lo / 2 ^ w) + v % 2 ^ w + 1 ≤ 2 ^ w * 2 ^ (32 - lo - w) := by
      calc _ ≤ 2 ^ w * (x.toNat / 2 ^ lo / 2 ^ w + 1) := by rw [Nat.mul_add]; omega
        _ ≤ _ := Nat.mul_le_mul_left _ hc
    calc _ < 2 ^ lo * (2 ^ w * (x.toNat / 2 ^ lo / 2 ^ w) + v % 2 ^ w + 1) := by rw [Nat.mul_add _ _ 1]; omega
      _ ≤ _ := by rw [h32]; exact Nat.mul_le_mul_left _ h3
  unfold Word.setField
  rw [BitVec.toNat_ofNat, e2, Nat.mod_eq_of_lt lt, Nat.testBit_two_pow_mul_add _ hb]
  by_cases hi : i < lo
  · simp only [hi, if_true, Nat.testBit_mod_two_pow, decide_true, Bool.true_and]
    rw [if_neg (by omega)]
  · simp only [hi, if_false, Nat.testBit_two_pow_mul_add _ hv]
    by_cases h2 : i - lo < w
    · rw [if_pos h2, if_pos (by omega), Nat.testBit_mod_two_pow]
      simp [h2]
    · rw [if_neg h2, if_neg (by omega), Nat.testBit_div_two_pow, Nat.testBit_div_two_pow]
      congr 1; omega

/-- The bits of a field. -/
theorem Word.testBit_field (x : Word) (lo w i : Nat) :
    (x.field lo w).testBit i = (decide (i < w) && x.toNat.testBit (i + lo)) := by
  unfold Word.field
  rw [Nat.testBit_mod_two_pow, Nat.testBit_div_two_pow]

theorem Word.field_setField_self (x : Word) {lo w : Nat} (v : Nat) (h : lo + w ≤ 32) :
    (x.setField lo w v).field lo w = v % 2 ^ w := by
  apply Nat.eq_of_testBit_eq
  intro i
  rw [Word.testBit_field, Word.testBit_setField x v _ h, Nat.testBit_mod_two_pow]
  by_cases hi : i < w
  · rw [if_pos (by omega)]; simp
  · simp [hi]

theorem Word.field_setField_ne (x : Word) {lo w lo' w' : Nat} (v : Nat) (h : lo + w ≤ 32)
    (hd : lo + w ≤ lo' ∨ lo' + w' ≤ lo) : (x.setField lo w v).field lo' w' = x.field lo' w' := by
  apply Nat.eq_of_testBit_eq
  intro i
  rw [Word.testBit_field, Word.testBit_field, Word.testBit_setField x v _ h]
  by_cases hi : i < w'
  · rw [if_neg (by omega)]
  · simp [hi]

namespace Machine

/-! ## Registers -/

@[simp] theorem State.reg_setReg_self (s : State) (k : Nat) (v : Word) : (s.setReg k v).reg k = v :=
  Cells.find_put_self (resetWord k) s.regs k v

theorem State.reg_setReg_ne (s : State) {j k : Nat} (v : Word) (h : k ≠ j) : (s.setReg j v).reg k = s.reg k := by
  unfold State.reg State.setReg
  rw [Cells.find_put_ne _ _ _ h]

theorem State.reg_setReg (s : State) (j k : Nat) (v : Word) : (s.setReg j v).reg k = if k = j then v else s.reg k := by
  split
  · subst k; simp
  · exact State.reg_setReg_ne s v ‹_›

theorem State.reg_setF_ne (s : State) {f : Field} {k : Nat} (v : Nat) (h : k ≠ f.key) : (s.setF f v).reg k = s.reg k :=
  State.reg_setReg_ne s _ h

theorem State.reg_setB_ne (s : State) {f : Field} {k : Nat} (b : Bool) (h : k ≠ f.key) : (s.setB f b).reg k = s.reg k :=
  State.reg_setReg_ne s _ h

theorem State.reg_setI_ne (s : State) {f : Field} {k : Nat} (i : Int) (h : k ≠ f.key) : (s.setI f i).reg k = s.reg k :=
  State.reg_setReg_ne s _ h

theorem State.reg_setBitAt_ne (s : State) {r : Nat → Nat} {i k : Nat} (b : Bool) (h : k ≠ r (i / 32)) :
    (s.setBitAt r i b).reg k = s.reg k := State.reg_setReg_ne s _ h

theorem State.reg_setPair_ne (s : State) {l h k : Nat} (v : BitVec 64) (hl : k ≠ l) (hh : k ≠ h) :
    (s.setPair l h v).reg k = s.reg k := by
  unfold State.setPair
  rw [State.reg_setReg_ne _ _ hh, State.reg_setReg_ne _ _ hl]

/-! ## Fields -/

theorem State.fld_setF_self (s : State) {f : Field} (v : Nat) (h : f.lo + f.width ≤ 32) :
    (s.setF f v).fld f = v % 2 ^ f.width := by
  unfold State.fld State.setF
  rw [State.reg_setReg_self]
  exact Word.field_setField_self _ _ h

/-- A field of another register, or other bits of the same register, read as before. -/
theorem State.fld_setF_ne (s : State) {f g : Field} (v : Nat) (h : f.lo + f.width ≤ 32)
    (hd : g.key ≠ f.key ∨ f.lo + f.width ≤ g.lo ∨ g.lo + g.width ≤ f.lo) : (s.setF f v).fld g = s.fld g := by
  unfold State.fld State.setF
  by_cases hk : g.key = f.key
  · rw [hk, State.reg_setReg_self]
    exact Word.field_setField_ne _ _ h (hd.resolve_left (fun c => c hk))
  · rw [State.reg_setReg_ne _ _ hk]

theorem State.fld_setReg_ne (s : State) {g : Field} {k : Nat} (v : Word) (h : g.key ≠ k) :
    (s.setReg k v).fld g = s.fld g := by
  unfold State.fld
  rw [State.reg_setReg_ne _ _ h]

theorem State.fld_setReg_self (s : State) (g : Field) (v : Word) : (s.setReg g.key v).fld g = v.field g.lo g.width := by
  unfold State.fld
  rw [State.reg_setReg_self]

theorem State.bit_setB_self (s : State) {f : Field} (b : Bool) (h : f.lo + f.width ≤ 32) (hw : f.width = 1) :
    (s.setB f b).bit f = b := by
  unfold State.bit State.setB
  rw [State.fld_setF_self s _ h, hw]
  cases b <;> rfl

theorem State.bit_setF_ne (s : State) {f g : Field} (v : Nat) (h : f.lo + f.width ≤ 32)
    (hd : g.key ≠ f.key ∨ f.lo + f.width ≤ g.lo ∨ g.lo + g.width ≤ f.lo) : (s.setF f v).bit g = s.bit g := by
  unfold State.bit
  rw [State.fld_setF_ne s v h hd]

theorem State.fld_setB_ne (s : State) {f g : Field} (b : Bool) (h : f.lo + f.width ≤ 32)
    (hd : g.key ≠ f.key ∨ f.lo + f.width ≤ g.lo ∨ g.lo + g.width ≤ f.lo) : (s.setB f b).fld g = s.fld g :=
  State.fld_setF_ne s _ h hd

theorem State.bit_setB_ne (s : State) {f g : Field} (b : Bool) (h : f.lo + f.width ≤ 32)
    (hd : g.key ≠ f.key ∨ f.lo + f.width ≤ g.lo ∨ g.lo + g.width ≤ f.lo) : (s.setB f b).bit g = s.bit g :=
  State.bit_setF_ne s _ h hd

/-! ## Banks of bits and pairs -/

/-- One bit of a word after another was set or cleared. -/
theorem bit_of_set (w : Word) {i j : Nat} (b : Bool) (hi : i < 32) (hj : j < 32) :
    (if b then w ||| (1#32 <<< i) else w &&& ~~~(1#32 <<< i)).getLsbD j = if j = i then b else w.getLsbD j := by
  cases b
  · simp only [Bool.false_eq_true, if_false, BitVec.getLsbD_and, BitVec.getLsbD_not, BitVec.getLsbD_shiftLeft,
      BitVec.getLsbD_one]
    by_cases h : j = i
    · subst h; simp [hj]
    · rw [if_neg h]
      have h2 : (!decide (j < i) && decide (j - i = 0)) = false := by
        by_cases h3 : j < i
        · simp [h3]
        · simp [h3]; omega
      by_cases h3 : j < i
      · simp [hj, h3]
      · have h4 : j - i ≠ 0 := by omega
        simp [hj, h3, h4]
  · simp only [if_true, BitVec.getLsbD_or, BitVec.getLsbD_shiftLeft, BitVec.getLsbD_one]
    by_cases h : j = i
    · subst h; simp [hj]
    · rw [if_neg h]
      by_cases h3 : j < i
      · simp [h3]
      · have h4 : j - i ≠ 0 := by omega
        simp [h3, h4]

theorem State.bitAt_setBitAt_self (s : State) (r : Nat → Nat) (i : Nat) (b : Bool) : (s.setBitAt r i b).bitAt r i = b := by
  unfold State.bitAt State.setBitAt
  simp only [State.reg_setReg_self]
  rw [bit_of_set _ _ (Nat.mod_lt _ (by decide)) (Nat.mod_lt _ (by decide)), if_pos rfl]

/-- Another bit of the bank reads as before, where different words of the bank have different keys. -/
theorem State.bitAt_setBitAt_ne (s : State) (r : Nat → Nat) {i j : Nat} (b : Bool) (hr : ∀ x y, r x = r y → x = y)
    (h : j ≠ i) : (s.setBitAt r i b).bitAt r j = s.bitAt r j := by
  unfold State.bitAt State.setBitAt
  dsimp only
  by_cases hw : j / 32 = i / 32
  · rw [hw, State.reg_setReg_self, bit_of_set _ _ (Nat.mod_lt _ (by decide)) (Nat.mod_lt _ (by decide)),
      if_neg (by omega)]
  · rw [State.reg_setReg_ne _ _ (fun e => hw (hr _ _ e))]

/-- A pair of registers reads the 64-bit value written to it. -/
theorem State.pair_setPair (s : State) {l h : Nat} (v : BitVec 64) (hd : l ≠ h) : (s.setPair l h v).pair l h = v := by
  unfold State.pair State.setPair
  rw [State.reg_setReg_self, State.reg_setReg_ne _ _ hd, State.reg_setReg_self]
  apply BitVec.eq_of_getLsbD_eq
  intro i hi
  simp only [BitVec.getLsbD_or, BitVec.getLsbD_shiftLeft, BitVec.getLsbD_setWidth, BitVec.getLsbD_ushiftRight]
  by_cases h1 : i < 32
  · simp [h1, hi]
  · simp [h1, hi, show i - 32 < 64 by omega, show i - 32 < 32 by omega, show 32 + (i - 32) = i by omega]

/-! ## Timers -/

@[simp] theorem State.deadline_arm_self (s : State) (k d : Nat) : (s.arm k d).deadline k = some (s.ns + d) :=
  Cells.find_put_self none s.timers k (some (s.ns + d))

@[simp] theorem State.deadline_disarm_self (s : State) (k : Nat) : (s.disarm k).deadline k = none :=
  Cells.find_put_self none s.timers k none

theorem State.deadline_arm_ne (s : State) {j k : Nat} (d : Nat) (h : k ≠ j) : (s.arm j d).deadline k = s.deadline k := by
  unfold State.deadline State.arm
  rw [Cells.find_put_ne _ _ _ h]

theorem State.deadline_disarm_ne (s : State) {j k : Nat} (h : k ≠ j) : (s.disarm j).deadline k = s.deadline k := by
  unfold State.deadline State.disarm
  rw [Cells.find_put_ne _ _ _ h]

/-- The expiry of a timer that runs carries time to its deadline and stops it. -/
theorem State.expire_of_deadline (s : State) {k d : Nat} (h : s.deadline k = some d) :
    s.expire k = some ((s.notBefore d).disarm k) := by
  unfold State.expire
  rw [h]

theorem State.runs_iff (s : State) (k : Nat) : s.runs k = true ↔ ∃ d, s.deadline k = some d := Option.isSome_iff_exists

end Machine

end Sys2Proof
end

