-- ==== Sys2Proof/Laws/Marks.lean ====
section
/-! SUPPORT.  What raising an event, counting, a sillage record, an event-log record, a local source and the raise of a
fault source can change: the registers of `noteKey`, timers, and
the parts of the state that `Marks` does not name. -/

set_option Elab.async false

namespace Sys2Proof.Machine

/-- What such an operation leaves as it was. -/
structure Marks (s t : State) : Prop where
  pending : t.pending = s.pending
  clock : t.clock = s.clock
  htOfs : t.htOfs = s.htOfs
  freeCount : t.freeCount = s.freeCount
  sys : t.sys = s.sys
  acrd : t.acrd = s.acrd
  loops : t.loops = s.loops
  phases : t.phases = s.phases
  ilReply : t.ilReply = s.ilReply
  rails : t.rails = s.rails
  groups : t.groups = s.groups
  seq : t.seq = s.seq
  sup : t.sup = s.sup
  path : t.path = s.path
  meas : t.meas = s.meas
  link : t.link = s.link
  hiLatch : t.hiLatch = s.hiLatch
  loLatch : t.loLatch = s.loLatch
  regs : ∀ k, noteKey k = false → t.reg k = s.reg k

variable {s t u : State}

theorem Marks.refl (s : State) : Marks s s :=
  ⟨rfl, rfl, rfl, rfl, rfl, rfl, rfl, rfl, rfl, rfl, rfl, rfl, rfl, rfl, rfl, rfl, rfl, rfl, fun _ _ => rfl⟩

theorem Marks.trans (h : Marks s t) (g : Marks t u) : Marks s u :=
  ⟨g.pending.trans h.pending,
  g.clock.trans h.clock,
  g.htOfs.trans h.htOfs,
  g.freeCount.trans h.freeCount,
  g.sys.trans h.sys,
  g.acrd.trans h.acrd,
  g.loops.trans h.loops,
  g.phases.trans h.phases,
  g.ilReply.trans h.ilReply,
  g.rails.trans h.rails,
  g.groups.trans h.groups,
  g.seq.trans h.seq,
  g.sup.trans h.sup,
  g.path.trans h.path,
  g.meas.trans h.meas,
  g.link.trans h.link,
  g.hiLatch.trans h.hiLatch,
  g.loLatch.trans h.loLatch,
  fun k hk => (g.regs k hk).trans (h.regs k hk)⟩

/-- A change of the parts that `Marks` does not name. -/
theorem Marks.rest (h : Marks s t) {xTimers : Cells (Option Nat)} {xTrace : Cells TraceRec} {xTracePost : Option Nat}
    {xFlt : FltState} {xLedg : LedgState} {xEvt : EvtState} {xHost : HostState} {xBist : BistState} :
    Marks s { t with timers := xTimers, trace := xTrace, tracePost := xTracePost, flt := xFlt, ledg := xLedg,
                     evt := xEvt, host := xHost, bist := xBist } :=
  ⟨h.pending, h.clock, h.htOfs, h.freeCount, h.sys, h.acrd, h.loops, h.phases, h.ilReply, h.rails, h.groups, h.seq, h.sup, h.path, h.meas, h.link, h.hiLatch, h.loLatch, h.regs⟩

theorem Marks.setReg (h : Marks s t) {k : Nat} (v : Word) (hk : noteKey k = true) : Marks s (t.setReg k v) :=
  ⟨h.pending, h.clock, h.htOfs, h.freeCount, h.sys, h.acrd, h.loops, h.phases, h.ilReply, h.rails, h.groups, h.seq, h.sup, h.path, h.meas, h.link, h.hiLatch, h.loLatch,
  fun j hj => (State.reg_setReg_ne t v (fun e => by rw [e, hk] at hj; exact Bool.noConfusion hj)).trans (h.regs j hj)⟩

theorem Marks.setF (h : Marks s t) {f : Field} (v : Nat) (hk : noteKey f.key = true) : Marks s (t.setF f v) := h.setReg _ hk
theorem Marks.setB (h : Marks s t) {f : Field} (b : Bool) (hk : noteKey f.key = true) : Marks s (t.setB f b) := h.setReg _ hk

theorem Marks.setBitAt (h : Marks s t) {r : Nat → Nat} {i : Nat} (b : Bool) (hk : noteKey (r (i / 32)) = true) :
    Marks s (t.setBitAt r i b) := h.setReg _ hk

theorem Marks.setPair (h : Marks s t) {j k : Nat} (v : BitVec 64) (hj : noteKey j = true) (hk : noteKey k = true) :
    Marks s (t.setPair j k v) := (h.setReg _ hj).setReg _ hk

theorem Marks.arm (h : Marks s t) (k d : Nat) : Marks s (t.arm k d) := h.rest

theorem Marks.ite {c : Prop} [Decidable c] (h : Marks s t) (g : Marks s u) : Marks s (if c then t else u) := by
  split <;> assumption

/-! ## The registers -/

theorem noteKey_collector {k : Nat} (h : 0x40070000 ≤ k) (g : k < 0x40080800) : noteKey k = true := by
  simp [noteKey, h, g]

theorem noteKey_pend {e i : Nat} (he : e < 16) (hi : i < 8) : noteKey (R.EIC_PEND.reg e i) = true := by
  unfold noteKey R.EIC_PEND.reg
  have h3 : (0x40084280 + 0x800 * e + 0x4 * i) % 0x800 = 0x280 + 4 * i := by omega
  rw [h3]
  simp only [Bool.or_eq_true, Bool.and_eq_true, decide_eq_true_eq]
  omega

/-! ## The operations -/

theorem State.eventCount_marks (s : State) {e : Nat} (h : e < 128) : Marks s (s.eventCount e) := by
  have hk : noteKey (R.EVT_CNT.reg e) = true := noteKey_collector (by unfold R.EVT_CNT.reg; omega) (by unfold R.EVT_CNT.reg; omega)
  unfold State.eventCount
  exact Marks.ite ((Marks.refl s).setF _ (by exact hk)) (((Marks.refl s).setF _ (by exact hk)).setB _ (by exact hk))

theorem State.eventMarks_marks (s : State) {e : Nat} (h : e < 128) : Marks s (s.eventMarks e) := by
  have h1 : noteKey (R.EVT_PEND.reg (e / 32)) = true :=
    noteKey_collector (by unfold R.EVT_PEND.reg; omega) (by unfold R.EVT_PEND.reg; omega)
  have h2 : noteKey (R.EVT_FWD_PEND.reg (e / 32)) = true :=
    noteKey_collector (by unfold R.EVT_FWD_PEND.reg; omega) (by unfold R.EVT_FWD_PEND.reg; omega)
  unfold State.eventMarks
  extract_lets v1 new r1 v2 r2 v3 v4 r3 v5
  have k1 : Marks s v1 := (Marks.refl s).arm _ _
  have k2 : Marks s v2 := k1.rest.ite k1
  have k3 : Marks s v3 := k2.rest.ite k2
  have k4 : Marks s v4 := (k3.setBitAt _ h2).ite k3
  have k5 : Marks s v5 := k4.rest.ite k4
  exact (k5.setBitAt _ h1).ite k4

theorem State.saturated_marks (s : State) (b : Nat) : Marks s (s.saturated b) := by
  unfold State.saturated
  extract_lets own v1
  have k1 : Marks s v1 := (Marks.refl s).setReg _ rfl
  clear_value v1
  exact (k1.trans (v1.eventCount_marks (by decide))).trans (State.eventMarks_marks _ (by decide))

theorem State.event_marks (s : State) {e : Nat} (h : e < 128) : Marks s (s.event e) := by
  unfold State.event
  extract_lets sat v1
  have k1 : Marks s v1 := (s.eventCount_marks h).trans (State.eventMarks_marks _ h)
  exact (k1.trans (v1.saturated_marks 8)).ite k1

theorem State.traceAt_marks (s : State) (w : BitVec 64) (a b c : Nat) : Marks s (s.traceAt w a b c) := by
  unfold State.traceAt
  extract_lets full n n2 wr r v1 v2 v3 n3 v4
  refine Marks.ite (Marks.refl s) (Marks.ite (Marks.ite ((Marks.refl s).setF _ rfl) (Marks.ite (Marks.refl s)
    ((((Marks.refl s).setF _ rfl).setB _ rfl).trans (State.saturated_marks _ _)))) ?_)
  have k1 : Marks s v1 := (Marks.refl s).rest
  have k2 : Marks s v2 := k1.setF _ rfl
  have k3 : Marks s v3 := (k2.setB _ rfl).ite k2
  have k4 : Marks s v4 := (k3.setF _ rfl).ite
    (k3.ite (((k3.setF _ rfl).setB _ rfl).trans (State.saturated_marks _ _)))
  clear_value v4
  split
  · exact k4
  · exact Marks.ite ((k4.rest).setB _ rfl) k4.rest

theorem State.traceRec_marks (s : State) (a b c : Nat) : Marks s (s.traceRec a b c) := s.traceAt_marks _ a b c

/-- Counting in a register that such an operation may change. -/
theorem State.count_marks (s : State) (b : Nat) {f sat : Field} (hf : noteKey f.key = true) (hs : noteKey sat.key = true) :
    Marks s (s.count b f sat) := by
  unfold State.count
  extract_lets n m
  exact Marks.ite ((Marks.refl s).setF _ hf) (Marks.ite
    ((((Marks.refl s).setF _ hf).setB _ hs).trans (State.saturated_marks _ b)) (Marks.refl s))

theorem State.localSource_marks (s : State) {e l : Nat} (he : e < 16) (hl : l < 256) : Marks s (s.localSource e l) := by
  unfold State.localSource
  exact (Marks.refl s).setBitAt _ (noteKey_pend he (by omega))

theorem State.foldl_marks {β : Type} {l : List β} {f : State → β → State} (hf : ∀ u, ∀ x ∈ l, Marks u (f u x)) :
    Marks s (l.foldl f s) := by
  induction l generalizing s with
  | nil => exact Marks.refl s
  | cons x r ih =>
    exact (hf s x (List.mem_cons_self ..)).trans (ih (fun u y hy => hf u y (List.mem_cons_of_mem _ hy)))

/-! ## The Ledger's buffer -/

theorem State.showPages_marks (s : State) : Marks s s.showPages := (Marks.refl s).setF _ rfl

theorem State.noteErr_marks (s : State) (w : Nat) : Marks s (s.noteErr w) := by
  unfold State.noteErr
  extract_lets v1
  have k1 : Marks s v1 := ((Marks.refl s).setF _ rfl).trans (State.count_marks _ _ rfl rfl)
  exact Marks.ite k1.rest (Marks.ite (s.count_marks _ rfl rfl) (Marks.refl s))

theorem State.fillErrs_marks (s : State) (page full : Nat) : Marks s (s.fillErrs page full) :=
  State.foldl_marks (fun u _ _ => Marks.ite (Marks.refl u) (u.noteErr_marks _))

theorem State.placeBytes_marks {s t : State} {b c : Bool} {p o : Nat} {l : List Byte}
    (h : s.placeBytes b c p o l = some t) : Marks s t := by
  unfold State.placeBytes at h
  extract_lets v1 v2 v3 v4 v5 v6 v7 v8 v9 v10 at h
  split at h
  · cases h; exact Marks.refl s
  · split at h
    · cases h
    · split at h
      · cases h; exact (Marks.refl s).rest
      · split at h
        · cases h
        · cases h
          have k1 : Marks s v9 := (s.fillErrs_marks _ _).rest
          exact ((k1.arm _ _).ite k1).trans (State.showPages_marks _)

theorem State.placeRecord_marks {s t : State} {r : Nat} {v : BitVec 64} (h : s.placeRecord r v = some t) :
    Marks s t := by
  unfold State.placeRecord at h
  split at h
  · cases h; exact Marks.refl s
  · extract_lets v1 at h
    split at h
    · cases h
    · rename_i e
      cases h
      have k1 := State.placeBytes_marks e
      exact (Marks.ite (k1.trans ((State.noteErr_marks _ _).trans (State.noteErr_marks _ _))) k1).rest

theorem State.bumpRecord_marks (s : State) (r : Nat) : Marks s (s.bumpRecord r) := by
  unfold State.bumpRecord
  extract_lets v
  split
  · rename_i e
    exact State.placeRecord_marks e
  · exact (Marks.refl s).rest

theorem State.placeLog_marks {s t : State} (h : s.placeLog = some t) : Marks s t := by
  unfold State.placeLog at h
  split at h
  · cases h
  · split at h
    · cases h
    · extract_lets v1 v2 at h
      split at h
      · cases h
      · rename_i u e
        have k1 := State.placeBytes_marks e
        obtain ⟨w, hw, rfl⟩ := Option.map_eq_some_iff.1 h
        have k2 : Marks s w := by
          split at hw
          · obtain ⟨x, hx, rfl⟩ := Option.map_eq_some_iff.1 hw
            exact (k1.trans (State.placeRecord_marks hx)).rest
          · cases hw; exact k1
        exact (((k2.setB _ rfl).ite k2).rest.setF _ rfl).setF _ rfl

theorem State.placeLogs_marks (n : Nat) (s : State) : Marks s (State.placeLogs n s) := by
  induction n generalizing s with
  | zero => exact Marks.refl s
  | succ n ih =>
    unfold State.placeLogs
    split
    · rename_i e
      exact (State.placeLog_marks e).trans (ih _)
    · exact Marks.refl s

theorem State.fillLife_marks (s : State) : Marks s s.fillLife := Marks.ite (Marks.refl s) (s.fillErrs_marks 0 0)

theorem State.commitParts_marks (s : State) : Marks s s.commitParts := by
  unfold State.commitParts
  extract_lets has window v1 v2 v3 move own keep r1 v4
  have k1 : Marks s v1 := Marks.ite (s.bumpRecord_marks 5) (Marks.refl s)
  have k2 : Marks s v2 := Marks.ite (k1.trans (State.bumpRecord_marks _ _)) k1
  have k3 : Marks s v3 := Marks.ite (k2.trans (State.fillLife_marks _)) k2
  have k4 : Marks s v4 := k3.rest
  exact k4.rest.ite k4

theorem State.runCommit_marks (s : State) (run rest : List Slot) : Marks s (s.runCommit run rest) := by
  unfold State.runCommit
  extract_lets r1 v1 v2 v3
  have k1 : Marks s v1 := (Marks.refl s).rest
  have k2 : Marks s v2 := (k1.setB _ rfl).setB _ rfl
  have k3 : Marks s v3 := k2.arm _ _
  exact (k3.rest.ite k3).trans (State.showPages_marks _)

theorem State.holdCommit_marks (s : State) : Marks s s.holdCommit := by
  unfold State.holdCommit
  exact (Marks.refl s).ite (((Marks.refl s).setB _ rfl).trans (State.event_marks _ (by decide)))

theorem State.beginCommit_marks (s : State) : Marks s s.beginCommit := by
  unfold State.beginCommit
  extract_lets r1 v1
  have k1 : Marks s v1 := (Marks.refl s).rest.trans (State.commitParts_marks _)
  exact Marks.ite (Marks.refl s).rest (Marks.ite (Marks.refl s).rest
    (Marks.ite ((Marks.refl s).rest.trans (State.holdCommit_marks _)) (k1.trans (State.runCommit_marks _ _ _))))

theorem State.drainLog_marks (s : State) : Marks s s.drainLog := by
  have k1 := State.placeLogs_marks 32 s
  exact Marks.ite (k1.trans (State.beginCommit_marks _)) k1

/-! ## Entries of the event log and raises -/

theorem State.waitLog_marks (s : State) (a b c d : Nat) : Marks s (s.waitLog a b c d) := by
  unfold State.waitLog
  extract_lets fl r r1 v1 v2 r2
  have k1 : Marks s v1 := (Marks.refl s).rest
  have k2 : Marks s v2 := s.count_marks _ rfl rfl
  exact Marks.ite (k1.setF _ rfl) k2.rest

theorem State.enterLog_marks (s : State) (a b c d : Nat) : Marks s (s.enterLog a b c d) :=
  (s.waitLog_marks a b c d).trans (State.drainLog_marks _)

theorem State.logRaise_marks (s : State) (n lc : Nat) (pd : Bool) : Marks s (s.logRaise n lc pd) := by
  unfold State.logRaise
  extract_lets fl c free r1 v1 v2
  have k1 : Marks s v1 := (Marks.refl s).rest
  have k2 : Marks s v2 := k1.arm _ _
  exact Marks.ite (s.enterLog_marks _ _ _ _) (Marks.ite (k2.trans (v2.enterLog_marks _ _ _ _)) (Marks.refl s).rest)

theorem State.noteFirst_marks (s : State) (n : Nat) : Marks s (s.noteFirst n) := by
  unfold State.noteFirst
  extract_lets r1 v1 v2
  have k1 : Marks s v1 := (Marks.refl s).rest
  have k2 : Marks s v2 := (k1.setB _ rfl).setF _ rfl
  exact (k2.setPair _ rfl rfl).ite (Marks.refl s)

theorem noteKey_pair {a b : Nat} (ha : noteKey a = true) (hb : noteKey b = true) (i : Nat) : noteKey (pairKey a b i) = true := by
  unfold pairKey
  split <;> assumption

theorem State.startGrace_marks (s : State) (n lc : Nat) : Marks s (s.startGrace n lc) := by
  unfold State.startGrace
  extract_lets r1 v1 v2
  have k1 : Marks s v1 := (Marks.refl s).rest
  have k2 : Marks s v2 := k1.arm _ _
  exact Marks.ite (Marks.ite (Marks.refl s).rest (Marks.refl s))
    (Marks.ite (k2.setBitAt _ (by exact noteKey_pair rfl rfl _)) (Marks.refl s))

theorem State.collect_marks (s : State) {n : Nat} (h : n < 64) (lc code : Nat) (pd : Bool) :
    Marks s (s.collect n lc code pd) := by
  have hk : noteKey (R.FLT_CNT.reg n) = true :=
    noteKey_collector (by unfold R.FLT_CNT.reg; omega) (by unfold R.FLT_CNT.reg; omega)
  unfold State.collect
  extract_lets v1 v2 c v3 v4 v5 r6 v6
  have k1 : Marks s v1 := s.noteFirst_marks n
  clear_value v1
  have k2 : Marks s v2 := k1.setBitAt _ (by exact noteKey_pair rfl rfl _)
  have k3 : Marks s v3 := Marks.ite (k2.setF _ (by exact hk))
    (Marks.ite (((k2.setF _ (by exact hk)).setB _ (by exact hk)).trans (State.saturated_marks _ _)) k2)
  have k4 : Marks s v4 := k3.trans (v3.traceRec_marks _ _ _)
  have k5 : Marks s v5 := k4.trans (v4.logRaise_marks _ _ _)
  have k6 : Marks s v6 := k5.rest.ite k5
  have k7 := k6.trans (v6.startGrace_marks n lc)
  exact Marks.ite (Marks.refl s) (Marks.ite (Marks.ite k7 k6) (k7.trans (State.event_marks _ (by decide))))

theorem State.payReads_marks (n : Nat) (s : State) : Marks s (State.payReads n s) := by
  induction n generalizing s with
  | zero => exact Marks.refl s
  | succ n ih =>
    unfold State.payReads
    exact (Marks.refl s).ite (((Marks.refl s).rest.trans (State.collect_marks _ (by decide) _ _ _)).trans (ih _))

theorem State.pay_marks (s : State) : Marks s s.pay := State.payReads_marks 64 s

theorem State.requestCommit_marks (s : State) : Marks s s.requestCommit :=
  s.beginCommit_marks.trans (State.pay_marks _)

theorem State.raiseWith_marks (s : State) {n : Nat} (h : n < 64) (lc code : Nat) (pd : Bool) :
    Marks s (s.raiseWith n lc code pd) := (s.collect_marks h lc code pd).trans (State.pay_marks _)

theorem State.queueLog_marks (s : State) (a b c d : Nat) : Marks s (s.queueLog a b c d) :=
  (s.enterLog_marks a b c d).trans (State.pay_marks _)

theorem State.raise_marks (s : State) {n : Nat} (h : n < 64) : Marks s (s.raise n) := s.raiseWith_marks h _ _ _

theorem State.railNews_marks (s : State) {r : Nat} (h : r < 64) : Marks s (s.railNews r) :=
  State.foldl_marks (fun u _ hx => u.localSource_marks (List.mem_range.1 hx) (by omega))

/-! ## The parts each leaves as they were -/

@[simp] theorem State.traceRec_pending (s : State) (a b c : Nat) : (s.traceRec a b c).pending = s.pending := (s.traceRec_marks a b c).pending
@[simp] theorem State.traceRec_clock (s : State) (a b c : Nat) : (s.traceRec a b c).clock = s.clock := (s.traceRec_marks a b c).clock
@[simp] theorem State.traceRec_htOfs (s : State) (a b c : Nat) : (s.traceRec a b c).htOfs = s.htOfs := (s.traceRec_marks a b c).htOfs
@[simp] theorem State.traceRec_freeCount (s : State) (a b c : Nat) : (s.traceRec a b c).freeCount = s.freeCount := (s.traceRec_marks a b c).freeCount
@[simp] theorem State.traceRec_sys (s : State) (a b c : Nat) : (s.traceRec a b c).sys = s.sys := (s.traceRec_marks a b c).sys
@[simp] theorem State.traceRec_acrd (s : State) (a b c : Nat) : (s.traceRec a b c).acrd = s.acrd := (s.traceRec_marks a b c).acrd
@[simp] theorem State.traceRec_loops (s : State) (a b c : Nat) : (s.traceRec a b c).loops = s.loops := (s.traceRec_marks a b c).loops
@[simp] theorem State.traceRec_phases (s : State) (a b c : Nat) : (s.traceRec a b c).phases = s.phases := (s.traceRec_marks a b c).phases
@[simp] theorem State.traceRec_ilReply (s : State) (a b c : Nat) : (s.traceRec a b c).ilReply = s.ilReply := (s.traceRec_marks a b c).ilReply
@[simp] theorem State.traceRec_rails (s : State) (a b c : Nat) : (s.traceRec a b c).rails = s.rails := (s.traceRec_marks a b c).rails
@[simp] theorem State.traceRec_groups (s : State) (a b c : Nat) : (s.traceRec a b c).groups = s.groups := (s.traceRec_marks a b c).groups
@[simp] theorem State.traceRec_seq (s : State) (a b c : Nat) : (s.traceRec a b c).seq = s.seq := (s.traceRec_marks a b c).seq
@[simp] theorem State.traceRec_sup (s : State) (a b c : Nat) : (s.traceRec a b c).sup = s.sup := (s.traceRec_marks a b c).sup
@[simp] theorem State.traceRec_path (s : State) (a b c : Nat) : (s.traceRec a b c).path = s.path := (s.traceRec_marks a b c).path
@[simp] theorem State.traceRec_meas (s : State) (a b c : Nat) : (s.traceRec a b c).meas = s.meas := (s.traceRec_marks a b c).meas
@[simp] theorem State.traceRec_link (s : State) (a b c : Nat) : (s.traceRec a b c).link = s.link := (s.traceRec_marks a b c).link
@[simp] theorem State.traceRec_hiLatch (s : State) (a b c : Nat) : (s.traceRec a b c).hiLatch = s.hiLatch := (s.traceRec_marks a b c).hiLatch
@[simp] theorem State.traceRec_loLatch (s : State) (a b c : Nat) : (s.traceRec a b c).loLatch = s.loLatch := (s.traceRec_marks a b c).loLatch
theorem State.traceRec_reg (s : State) (a b c : Nat) {k : Nat} (hk : noteKey k = false) : (s.traceRec a b c).reg k = s.reg k :=
  (s.traceRec_marks a b c).regs k hk

@[simp] theorem State.event_pending (s : State) {e : Nat} (h : e < 128) : (s.event e).pending = s.pending := (s.event_marks h).pending
@[simp] theorem State.event_clock (s : State) {e : Nat} (h : e < 128) : (s.event e).clock = s.clock := (s.event_marks h).clock
@[simp] theorem State.event_htOfs (s : State) {e : Nat} (h : e < 128) : (s.event e).htOfs = s.htOfs := (s.event_marks h).htOfs
@[simp] theorem State.event_freeCount (s : State) {e : Nat} (h : e < 128) : (s.event e).freeCount = s.freeCount := (s.event_marks h).freeCount
@[simp] theorem State.event_sys (s : State) {e : Nat} (h : e < 128) : (s.event e).sys = s.sys := (s.event_marks h).sys
@[simp] theorem State.event_acrd (s : State) {e : Nat} (h : e < 128) : (s.event e).acrd = s.acrd := (s.event_marks h).acrd
@[simp] theorem State.event_loops (s : State) {e : Nat} (h : e < 128) : (s.event e).loops = s.loops := (s.event_marks h).loops
@[simp] theorem State.event_phases (s : State) {e : Nat} (h : e < 128) : (s.event e).phases = s.phases := (s.event_marks h).phases
@[simp] theorem State.event_ilReply (s : State) {e : Nat} (h : e < 128) : (s.event e).ilReply = s.ilReply := (s.event_marks h).ilReply
@[simp] theorem State.event_rails (s : State) {e : Nat} (h : e < 128) : (s.event e).rails = s.rails := (s.event_marks h).rails
@[simp] theorem State.event_groups (s : State) {e : Nat} (h : e < 128) : (s.event e).groups = s.groups := (s.event_marks h).groups
@[simp] theorem State.event_seq (s : State) {e : Nat} (h : e < 128) : (s.event e).seq = s.seq := (s.event_marks h).seq
@[simp] theorem State.event_sup (s : State) {e : Nat} (h : e < 128) : (s.event e).sup = s.sup := (s.event_marks h).sup
@[simp] theorem State.event_path (s : State) {e : Nat} (h : e < 128) : (s.event e).path = s.path := (s.event_marks h).path
@[simp] theorem State.event_meas (s : State) {e : Nat} (h : e < 128) : (s.event e).meas = s.meas := (s.event_marks h).meas
@[simp] theorem State.event_link (s : State) {e : Nat} (h : e < 128) : (s.event e).link = s.link := (s.event_marks h).link
@[simp] theorem State.event_hiLatch (s : State) {e : Nat} (h : e < 128) : (s.event e).hiLatch = s.hiLatch := (s.event_marks h).hiLatch
@[simp] theorem State.event_loLatch (s : State) {e : Nat} (h : e < 128) : (s.event e).loLatch = s.loLatch := (s.event_marks h).loLatch
theorem State.event_reg (s : State) {e : Nat} (h : e < 128) {k : Nat} (hk : noteKey k = false) : (s.event e).reg k = s.reg k :=
  (s.event_marks h).regs k hk

@[simp] theorem State.saturated_pending (s : State) (b : Nat) : (s.saturated b).pending = s.pending := (s.saturated_marks b).pending
@[simp] theorem State.saturated_clock (s : State) (b : Nat) : (s.saturated b).clock = s.clock := (s.saturated_marks b).clock
@[simp] theorem State.saturated_htOfs (s : State) (b : Nat) : (s.saturated b).htOfs = s.htOfs := (s.saturated_marks b).htOfs
@[simp] theorem State.saturated_freeCount (s : State) (b : Nat) : (s.saturated b).freeCount = s.freeCount := (s.saturated_marks b).freeCount
@[simp] theorem State.saturated_sys (s : State) (b : Nat) : (s.saturated b).sys = s.sys := (s.saturated_marks b).sys
@[simp] theorem State.saturated_acrd (s : State) (b : Nat) : (s.saturated b).acrd = s.acrd := (s.saturated_marks b).acrd
@[simp] theorem State.saturated_loops (s : State) (b : Nat) : (s.saturated b).loops = s.loops := (s.saturated_marks b).loops
@[simp] theorem State.saturated_phases (s : State) (b : Nat) : (s.saturated b).phases = s.phases := (s.saturated_marks b).phases
@[simp] theorem State.saturated_ilReply (s : State) (b : Nat) : (s.saturated b).ilReply = s.ilReply := (s.saturated_marks b).ilReply
@[simp] theorem State.saturated_rails (s : State) (b : Nat) : (s.saturated b).rails = s.rails := (s.saturated_marks b).rails
@[simp] theorem State.saturated_groups (s : State) (b : Nat) : (s.saturated b).groups = s.groups := (s.saturated_marks b).groups
@[simp] theorem State.saturated_seq (s : State) (b : Nat) : (s.saturated b).seq = s.seq := (s.saturated_marks b).seq
@[simp] theorem State.saturated_sup (s : State) (b : Nat) : (s.saturated b).sup = s.sup := (s.saturated_marks b).sup
@[simp] theorem State.saturated_path (s : State) (b : Nat) : (s.saturated b).path = s.path := (s.saturated_marks b).path
@[simp] theorem State.saturated_meas (s : State) (b : Nat) : (s.saturated b).meas = s.meas := (s.saturated_marks b).meas
@[simp] theorem State.saturated_link (s : State) (b : Nat) : (s.saturated b).link = s.link := (s.saturated_marks b).link
@[simp] theorem State.saturated_hiLatch (s : State) (b : Nat) : (s.saturated b).hiLatch = s.hiLatch := (s.saturated_marks b).hiLatch
@[simp] theorem State.saturated_loLatch (s : State) (b : Nat) : (s.saturated b).loLatch = s.loLatch := (s.saturated_marks b).loLatch
theorem State.saturated_reg (s : State) (b : Nat) {k : Nat} (hk : noteKey k = false) : (s.saturated b).reg k = s.reg k :=
  (s.saturated_marks b).regs k hk

@[simp] theorem State.raise_pending (s : State) {n : Nat} (h : n < 64) : (s.raise n).pending = s.pending := (s.raise_marks h).pending
@[simp] theorem State.raise_clock (s : State) {n : Nat} (h : n < 64) : (s.raise n).clock = s.clock := (s.raise_marks h).clock
@[simp] theorem State.raise_htOfs (s : State) {n : Nat} (h : n < 64) : (s.raise n).htOfs = s.htOfs := (s.raise_marks h).htOfs
@[simp] theorem State.raise_freeCount (s : State) {n : Nat} (h : n < 64) : (s.raise n).freeCount = s.freeCount := (s.raise_marks h).freeCount
@[simp] theorem State.raise_sys (s : State) {n : Nat} (h : n < 64) : (s.raise n).sys = s.sys := (s.raise_marks h).sys
@[simp] theorem State.raise_acrd (s : State) {n : Nat} (h : n < 64) : (s.raise n).acrd = s.acrd := (s.raise_marks h).acrd
@[simp] theorem State.raise_loops (s : State) {n : Nat} (h : n < 64) : (s.raise n).loops = s.loops := (s.raise_marks h).loops
@[simp] theorem State.raise_phases (s : State) {n : Nat} (h : n < 64) : (s.raise n).phases = s.phases := (s.raise_marks h).phases
@[simp] theorem State.raise_ilReply (s : State) {n : Nat} (h : n < 64) : (s.raise n).ilReply = s.ilReply := (s.raise_marks h).ilReply
@[simp] theorem State.raise_rails (s : State) {n : Nat} (h : n < 64) : (s.raise n).rails = s.rails := (s.raise_marks h).rails
@[simp] theorem State.raise_groups (s : State) {n : Nat} (h : n < 64) : (s.raise n).groups = s.groups := (s.raise_marks h).groups
@[simp] theorem State.raise_seq (s : State) {n : Nat} (h : n < 64) : (s.raise n).seq = s.seq := (s.raise_marks h).seq
@[simp] theorem State.raise_sup (s : State) {n : Nat} (h : n < 64) : (s.raise n).sup = s.sup := (s.raise_marks h).sup
@[simp] theorem State.raise_path (s : State) {n : Nat} (h : n < 64) : (s.raise n).path = s.path := (s.raise_marks h).path
@[simp] theorem State.raise_meas (s : State) {n : Nat} (h : n < 64) : (s.raise n).meas = s.meas := (s.raise_marks h).meas
@[simp] theorem State.raise_link (s : State) {n : Nat} (h : n < 64) : (s.raise n).link = s.link := (s.raise_marks h).link
@[simp] theorem State.raise_hiLatch (s : State) {n : Nat} (h : n < 64) : (s.raise n).hiLatch = s.hiLatch := (s.raise_marks h).hiLatch
@[simp] theorem State.raise_loLatch (s : State) {n : Nat} (h : n < 64) : (s.raise n).loLatch = s.loLatch := (s.raise_marks h).loLatch
theorem State.raise_reg (s : State) {n : Nat} (h : n < 64) {k : Nat} (hk : noteKey k = false) : (s.raise n).reg k = s.reg k :=
  (s.raise_marks h).regs k hk

@[simp] theorem State.raiseWith_pending (s : State) {n : Nat} (h : n < 64) (a b : Nat) (d : Bool) : (s.raiseWith n a b d).pending = s.pending := (s.raiseWith_marks h a b d).pending
@[simp] theorem State.raiseWith_clock (s : State) {n : Nat} (h : n < 64) (a b : Nat) (d : Bool) : (s.raiseWith n a b d).clock = s.clock := (s.raiseWith_marks h a b d).clock
@[simp] theorem State.raiseWith_htOfs (s : State) {n : Nat} (h : n < 64) (a b : Nat) (d : Bool) : (s.raiseWith n a b d).htOfs = s.htOfs := (s.raiseWith_marks h a b d).htOfs
@[simp] theorem State.raiseWith_freeCount (s : State) {n : Nat} (h : n < 64) (a b : Nat) (d : Bool) : (s.raiseWith n a b d).freeCount = s.freeCount := (s.raiseWith_marks h a b d).freeCount
@[simp] theorem State.raiseWith_sys (s : State) {n : Nat} (h : n < 64) (a b : Nat) (d : Bool) : (s.raiseWith n a b d).sys = s.sys := (s.raiseWith_marks h a b d).sys
@[simp] theorem State.raiseWith_acrd (s : State) {n : Nat} (h : n < 64) (a b : Nat) (d : Bool) : (s.raiseWith n a b d).acrd = s.acrd := (s.raiseWith_marks h a b d).acrd
@[simp] theorem State.raiseWith_loops (s : State) {n : Nat} (h : n < 64) (a b : Nat) (d : Bool) : (s.raiseWith n a b d).loops = s.loops := (s.raiseWith_marks h a b d).loops
@[simp] theorem State.raiseWith_phases (s : State) {n : Nat} (h : n < 64) (a b : Nat) (d : Bool) : (s.raiseWith n a b d).phases = s.phases := (s.raiseWith_marks h a b d).phases
@[simp] theorem State.raiseWith_ilReply (s : State) {n : Nat} (h : n < 64) (a b : Nat) (d : Bool) : (s.raiseWith n a b d).ilReply = s.ilReply := (s.raiseWith_marks h a b d).ilReply
@[simp] theorem State.raiseWith_rails (s : State) {n : Nat} (h : n < 64) (a b : Nat) (d : Bool) : (s.raiseWith n a b d).rails = s.rails := (s.raiseWith_marks h a b d).rails
@[simp] theorem State.raiseWith_groups (s : State) {n : Nat} (h : n < 64) (a b : Nat) (d : Bool) : (s.raiseWith n a b d).groups = s.groups := (s.raiseWith_marks h a b d).groups
@[simp] theorem State.raiseWith_seq (s : State) {n : Nat} (h : n < 64) (a b : Nat) (d : Bool) : (s.raiseWith n a b d).seq = s.seq := (s.raiseWith_marks h a b d).seq
@[simp] theorem State.raiseWith_sup (s : State) {n : Nat} (h : n < 64) (a b : Nat) (d : Bool) : (s.raiseWith n a b d).sup = s.sup := (s.raiseWith_marks h a b d).sup
@[simp] theorem State.raiseWith_path (s : State) {n : Nat} (h : n < 64) (a b : Nat) (d : Bool) : (s.raiseWith n a b d).path = s.path := (s.raiseWith_marks h a b d).path
@[simp] theorem State.raiseWith_meas (s : State) {n : Nat} (h : n < 64) (a b : Nat) (d : Bool) : (s.raiseWith n a b d).meas = s.meas := (s.raiseWith_marks h a b d).meas
@[simp] theorem State.raiseWith_link (s : State) {n : Nat} (h : n < 64) (a b : Nat) (d : Bool) : (s.raiseWith n a b d).link = s.link := (s.raiseWith_marks h a b d).link
@[simp] theorem State.raiseWith_hiLatch (s : State) {n : Nat} (h : n < 64) (a b : Nat) (d : Bool) : (s.raiseWith n a b d).hiLatch = s.hiLatch := (s.raiseWith_marks h a b d).hiLatch
@[simp] theorem State.raiseWith_loLatch (s : State) {n : Nat} (h : n < 64) (a b : Nat) (d : Bool) : (s.raiseWith n a b d).loLatch = s.loLatch := (s.raiseWith_marks h a b d).loLatch
theorem State.raiseWith_reg (s : State) {n : Nat} (h : n < 64) (a b : Nat) (d : Bool) {k : Nat} (hk : noteKey k = false) : (s.raiseWith n a b d).reg k = s.reg k :=
  (s.raiseWith_marks h a b d).regs k hk

@[simp] theorem State.queueLog_pending (s : State) (a b c d : Nat) : (s.queueLog a b c d).pending = s.pending := (s.queueLog_marks a b c d).pending
@[simp] theorem State.queueLog_clock (s : State) (a b c d : Nat) : (s.queueLog a b c d).clock = s.clock := (s.queueLog_marks a b c d).clock
@[simp] theorem State.queueLog_htOfs (s : State) (a b c d : Nat) : (s.queueLog a b c d).htOfs = s.htOfs := (s.queueLog_marks a b c d).htOfs
@[simp] theorem State.queueLog_freeCount (s : State) (a b c d : Nat) : (s.queueLog a b c d).freeCount = s.freeCount := (s.queueLog_marks a b c d).freeCount
@[simp] theorem State.queueLog_sys (s : State) (a b c d : Nat) : (s.queueLog a b c d).sys = s.sys := (s.queueLog_marks a b c d).sys
@[simp] theorem State.queueLog_acrd (s : State) (a b c d : Nat) : (s.queueLog a b c d).acrd = s.acrd := (s.queueLog_marks a b c d).acrd
@[simp] theorem State.queueLog_loops (s : State) (a b c d : Nat) : (s.queueLog a b c d).loops = s.loops := (s.queueLog_marks a b c d).loops
@[simp] theorem State.queueLog_phases (s : State) (a b c d : Nat) : (s.queueLog a b c d).phases = s.phases := (s.queueLog_marks a b c d).phases
@[simp] theorem State.queueLog_ilReply (s : State) (a b c d : Nat) : (s.queueLog a b c d).ilReply = s.ilReply := (s.queueLog_marks a b c d).ilReply
@[simp] theorem State.queueLog_rails (s : State) (a b c d : Nat) : (s.queueLog a b c d).rails = s.rails := (s.queueLog_marks a b c d).rails
@[simp] theorem State.queueLog_groups (s : State) (a b c d : Nat) : (s.queueLog a b c d).groups = s.groups := (s.queueLog_marks a b c d).groups
@[simp] theorem State.queueLog_seq (s : State) (a b c d : Nat) : (s.queueLog a b c d).seq = s.seq := (s.queueLog_marks a b c d).seq
@[simp] theorem State.queueLog_sup (s : State) (a b c d : Nat) : (s.queueLog a b c d).sup = s.sup := (s.queueLog_marks a b c d).sup
@[simp] theorem State.queueLog_path (s : State) (a b c d : Nat) : (s.queueLog a b c d).path = s.path := (s.queueLog_marks a b c d).path
@[simp] theorem State.queueLog_meas (s : State) (a b c d : Nat) : (s.queueLog a b c d).meas = s.meas := (s.queueLog_marks a b c d).meas
@[simp] theorem State.queueLog_link (s : State) (a b c d : Nat) : (s.queueLog a b c d).link = s.link := (s.queueLog_marks a b c d).link
@[simp] theorem State.queueLog_hiLatch (s : State) (a b c d : Nat) : (s.queueLog a b c d).hiLatch = s.hiLatch := (s.queueLog_marks a b c d).hiLatch
@[simp] theorem State.queueLog_loLatch (s : State) (a b c d : Nat) : (s.queueLog a b c d).loLatch = s.loLatch := (s.queueLog_marks a b c d).loLatch
theorem State.queueLog_reg (s : State) (a b c d : Nat) {k : Nat} (hk : noteKey k = false) : (s.queueLog a b c d).reg k = s.reg k :=
  (s.queueLog_marks a b c d).regs k hk

@[simp] theorem State.localSource_pending (s : State) {e l : Nat} (h : e < 16) (g : l < 256) : (s.localSource e l).pending = s.pending := (s.localSource_marks h g).pending
@[simp] theorem State.localSource_clock (s : State) {e l : Nat} (h : e < 16) (g : l < 256) : (s.localSource e l).clock = s.clock := (s.localSource_marks h g).clock
@[simp] theorem State.localSource_htOfs (s : State) {e l : Nat} (h : e < 16) (g : l < 256) : (s.localSource e l).htOfs = s.htOfs := (s.localSource_marks h g).htOfs
@[simp] theorem State.localSource_freeCount (s : State) {e l : Nat} (h : e < 16) (g : l < 256) : (s.localSource e l).freeCount = s.freeCount := (s.localSource_marks h g).freeCount
@[simp] theorem State.localSource_sys (s : State) {e l : Nat} (h : e < 16) (g : l < 256) : (s.localSource e l).sys = s.sys := (s.localSource_marks h g).sys
@[simp] theorem State.localSource_acrd (s : State) {e l : Nat} (h : e < 16) (g : l < 256) : (s.localSource e l).acrd = s.acrd := (s.localSource_marks h g).acrd
@[simp] theorem State.localSource_loops (s : State) {e l : Nat} (h : e < 16) (g : l < 256) : (s.localSource e l).loops = s.loops := (s.localSource_marks h g).loops
@[simp] theorem State.localSource_phases (s : State) {e l : Nat} (h : e < 16) (g : l < 256) : (s.localSource e l).phases = s.phases := (s.localSource_marks h g).phases
@[simp] theorem State.localSource_ilReply (s : State) {e l : Nat} (h : e < 16) (g : l < 256) : (s.localSource e l).ilReply = s.ilReply := (s.localSource_marks h g).ilReply
@[simp] theorem State.localSource_rails (s : State) {e l : Nat} (h : e < 16) (g : l < 256) : (s.localSource e l).rails = s.rails := (s.localSource_marks h g).rails
@[simp] theorem State.localSource_groups (s : State) {e l : Nat} (h : e < 16) (g : l < 256) : (s.localSource e l).groups = s.groups := (s.localSource_marks h g).groups
@[simp] theorem State.localSource_seq (s : State) {e l : Nat} (h : e < 16) (g : l < 256) : (s.localSource e l).seq = s.seq := (s.localSource_marks h g).seq
@[simp] theorem State.localSource_sup (s : State) {e l : Nat} (h : e < 16) (g : l < 256) : (s.localSource e l).sup = s.sup := (s.localSource_marks h g).sup
@[simp] theorem State.localSource_path (s : State) {e l : Nat} (h : e < 16) (g : l < 256) : (s.localSource e l).path = s.path := (s.localSource_marks h g).path
@[simp] theorem State.localSource_meas (s : State) {e l : Nat} (h : e < 16) (g : l < 256) : (s.localSource e l).meas = s.meas := (s.localSource_marks h g).meas
@[simp] theorem State.localSource_link (s : State) {e l : Nat} (h : e < 16) (g : l < 256) : (s.localSource e l).link = s.link := (s.localSource_marks h g).link
@[simp] theorem State.localSource_hiLatch (s : State) {e l : Nat} (h : e < 16) (g : l < 256) : (s.localSource e l).hiLatch = s.hiLatch := (s.localSource_marks h g).hiLatch
@[simp] theorem State.localSource_loLatch (s : State) {e l : Nat} (h : e < 16) (g : l < 256) : (s.localSource e l).loLatch = s.loLatch := (s.localSource_marks h g).loLatch
theorem State.localSource_reg (s : State) {e l : Nat} (h : e < 16) (g : l < 256) {k : Nat} (hk : noteKey k = false) : (s.localSource e l).reg k = s.reg k :=
  (s.localSource_marks h g).regs k hk

@[simp] theorem State.railNews_pending (s : State) {r : Nat} (h : r < 64) : (s.railNews r).pending = s.pending := (s.railNews_marks h).pending
@[simp] theorem State.railNews_clock (s : State) {r : Nat} (h : r < 64) : (s.railNews r).clock = s.clock := (s.railNews_marks h).clock
@[simp] theorem State.railNews_htOfs (s : State) {r : Nat} (h : r < 64) : (s.railNews r).htOfs = s.htOfs := (s.railNews_marks h).htOfs
@[simp] theorem State.railNews_freeCount (s : State) {r : Nat} (h : r < 64) : (s.railNews r).freeCount = s.freeCount := (s.railNews_marks h).freeCount
@[simp] theorem State.railNews_sys (s : State) {r : Nat} (h : r < 64) : (s.railNews r).sys = s.sys := (s.railNews_marks h).sys
@[simp] theorem State.railNews_acrd (s : State) {r : Nat} (h : r < 64) : (s.railNews r).acrd = s.acrd := (s.railNews_marks h).acrd
@[simp] theorem State.railNews_loops (s : State) {r : Nat} (h : r < 64) : (s.railNews r).loops = s.loops := (s.railNews_marks h).loops
@[simp] theorem State.railNews_phases (s : State) {r : Nat} (h : r < 64) : (s.railNews r).phases = s.phases := (s.railNews_marks h).phases
@[simp] theorem State.railNews_ilReply (s : State) {r : Nat} (h : r < 64) : (s.railNews r).ilReply = s.ilReply := (s.railNews_marks h).ilReply
@[simp] theorem State.railNews_rails (s : State) {r : Nat} (h : r < 64) : (s.railNews r).rails = s.rails := (s.railNews_marks h).rails
@[simp] theorem State.railNews_groups (s : State) {r : Nat} (h : r < 64) : (s.railNews r).groups = s.groups := (s.railNews_marks h).groups
@[simp] theorem State.railNews_seq (s : State) {r : Nat} (h : r < 64) : (s.railNews r).seq = s.seq := (s.railNews_marks h).seq
@[simp] theorem State.railNews_sup (s : State) {r : Nat} (h : r < 64) : (s.railNews r).sup = s.sup := (s.railNews_marks h).sup
@[simp] theorem State.railNews_path (s : State) {r : Nat} (h : r < 64) : (s.railNews r).path = s.path := (s.railNews_marks h).path
@[simp] theorem State.railNews_meas (s : State) {r : Nat} (h : r < 64) : (s.railNews r).meas = s.meas := (s.railNews_marks h).meas
@[simp] theorem State.railNews_link (s : State) {r : Nat} (h : r < 64) : (s.railNews r).link = s.link := (s.railNews_marks h).link
@[simp] theorem State.railNews_hiLatch (s : State) {r : Nat} (h : r < 64) : (s.railNews r).hiLatch = s.hiLatch := (s.railNews_marks h).hiLatch
@[simp] theorem State.railNews_loLatch (s : State) {r : Nat} (h : r < 64) : (s.railNews r).loLatch = s.loLatch := (s.railNews_marks h).loLatch
theorem State.railNews_reg (s : State) {r : Nat} (h : r < 64) {k : Nat} (hk : noteKey k = false) : (s.railNews r).reg k = s.reg k :=
  (s.railNews_marks h).regs k hk

@[simp] theorem State.count_pending (s : State) (b : Nat) (g sat : Field) : (s.count b g sat).pending = s.pending := by
  simp [State.count, apply_ite State.pending]
@[simp] theorem State.count_clock (s : State) (b : Nat) (g sat : Field) : (s.count b g sat).clock = s.clock := by
  simp [State.count, apply_ite State.clock]
@[simp] theorem State.count_htOfs (s : State) (b : Nat) (g sat : Field) : (s.count b g sat).htOfs = s.htOfs := by
  simp [State.count, apply_ite State.htOfs]
@[simp] theorem State.count_freeCount (s : State) (b : Nat) (g sat : Field) : (s.count b g sat).freeCount = s.freeCount := by
  simp [State.count, apply_ite State.freeCount]
@[simp] theorem State.count_sys (s : State) (b : Nat) (g sat : Field) : (s.count b g sat).sys = s.sys := by
  simp [State.count, apply_ite State.sys]
@[simp] theorem State.count_acrd (s : State) (b : Nat) (g sat : Field) : (s.count b g sat).acrd = s.acrd := by
  simp [State.count, apply_ite State.acrd]
@[simp] theorem State.count_loops (s : State) (b : Nat) (g sat : Field) : (s.count b g sat).loops = s.loops := by
  simp [State.count, apply_ite State.loops]
@[simp] theorem State.count_phases (s : State) (b : Nat) (g sat : Field) : (s.count b g sat).phases = s.phases := by
  simp [State.count, apply_ite State.phases]
@[simp] theorem State.count_ilReply (s : State) (b : Nat) (g sat : Field) : (s.count b g sat).ilReply = s.ilReply := by
  simp [State.count, apply_ite State.ilReply]
@[simp] theorem State.count_rails (s : State) (b : Nat) (g sat : Field) : (s.count b g sat).rails = s.rails := by
  simp [State.count, apply_ite State.rails]
@[simp] theorem State.count_groups (s : State) (b : Nat) (g sat : Field) : (s.count b g sat).groups = s.groups := by
  simp [State.count, apply_ite State.groups]
@[simp] theorem State.count_seq (s : State) (b : Nat) (g sat : Field) : (s.count b g sat).seq = s.seq := by
  simp [State.count, apply_ite State.seq]
@[simp] theorem State.count_sup (s : State) (b : Nat) (g sat : Field) : (s.count b g sat).sup = s.sup := by
  simp [State.count, apply_ite State.sup]
@[simp] theorem State.count_path (s : State) (b : Nat) (g sat : Field) : (s.count b g sat).path = s.path := by
  simp [State.count, apply_ite State.path]
@[simp] theorem State.count_meas (s : State) (b : Nat) (g sat : Field) : (s.count b g sat).meas = s.meas := by
  simp [State.count, apply_ite State.meas]
@[simp] theorem State.count_link (s : State) (b : Nat) (g sat : Field) : (s.count b g sat).link = s.link := by
  simp [State.count, apply_ite State.link]
@[simp] theorem State.count_hiLatch (s : State) (b : Nat) (g sat : Field) : (s.count b g sat).hiLatch = s.hiLatch := by
  simp [State.count, apply_ite State.hiLatch]
@[simp] theorem State.count_loLatch (s : State) (b : Nat) (g sat : Field) : (s.count b g sat).loLatch = s.loLatch := by
  simp [State.count, apply_ite State.loLatch]

theorem State.count_reg (s : State) (b : Nat) (g sat : Field) {k : Nat} (hk : noteKey k = false) (h1 : k ≠ g.key)
    (h2 : k ≠ sat.key) : (s.count b g sat).reg k = s.reg k := by
  unfold State.count
  extract_lets n m
  split
  · exact State.reg_setF_ne _ _ h1
  · split
    · rw [State.saturated_reg _ _ hk, State.reg_setB_ne _ _ h2, State.reg_setF_ne _ _ h1]
    · rfl

end Sys2Proof.Machine
end

