-- ==== Sys2Proof/WellFormed.lean ====
section
/-! DEFINITION.  What a well-formed command is: operands within the ranges that the spec gives the quantities they
carry, where their types do not say so already. -/

namespace Sys2Proof

/-- A 24-bit signed code of a converter (R194). -/
def codeOk (c : Int) : Bool := decide (-8388608 ≤ c) && decide (c ≤ 8388607)

/-- A cut commit: at most the 512 words of a full commit buffer are written before the cut (R251, R252). -/
def cutOk : Cut → Bool
  | .completes => true
  | .cut words _ => decide (words ≤ 512)

/-- A message on the two-wire bus: at most 255 data bytes, and as many bytes clocked out with their count and PEC
(Table 14.1). -/
def busOk (m : BusMsg) : Bool := decide (m.data.length ≤ 255) && decide (m.clocked ≤ 257)

/-- A word of an ECC memory of the engines (R228): 262,144 words of shared SRAM, 16,384 of a TCM. -/
def eccOk (m : EccMem) (addr : Nat) : Bool :=
  match m with
  | .sram => decide (addr < 262144)
  | .itcm _ => decide (addr < 16384)
  | .dtcm _ => decide (addr < 16384)

/-- A two-byte length field (R286, R300). -/
def lenOk (n : Nat) : Bool := decide (n < 65536)

/-- The voltage at a ball of the 3.3 V domains, in millivolts, below the absolute limit of 3.6 V (R37, R102). -/
def mvOk (n : Nat) : Bool := decide (n ≤ 3600)

/-- The voltage at VIN_SNS or BAT_SNS in millivolts, below the absolute limit of 70 V (Table 17.1). -/
def vinOk (n : Nat) : Bool := decide (n ≤ 70000)

/-- The message of a command of the two-wire bus. -/
def busMsgOf : Instr → Option BusMsg
  | .page m | .operation m | .clearFaults m | .capability m | .voutMode m | .voutCommand m | .voutMax m
  | .voutTransitionRate m | .voutMin m | .voutOvFaultLimit m | .voutUvFaultLimit m | .ioutOcFaultLimit m
  | .statusByte m | .statusWord m | .statusVout m | .statusIout m | .statusTemperature m | .statusCml m
  | .statusMfrSpecific m | .readVin m | .readVout m | .readIout m | .readTemperature1 m | .readTemperature2 m
  | .pmbusRevision m | .mfrId m | .mfrModel m | .mfrRevision m | .mfrSerial m | .winAddr m | .winData m | .qRead m
  | .qStatus m | .snapRead _ m | .latest m | .evtPend m | .fstat m | .wdChal m | .paramStat m | .digest m
  | .sysInfo m | .railStatus m | .mboxWrite m | .mboxRead m => some m
  | .powerDownToPark _ m | .powerDownToFlacon _ _ m | .paramWrite _ _ _ _ m | .railOnRequest _ _ m | .railOffRequest _ _ m
  | .railClearLatch _ _ m | .wdAnswer _ _ m | .snapshotTake _ _ m | .snapshotClear _ _ m | .snapshotTakeClear _ _ m
  | .faultAck _ _ m | .restartCommand _ m | .hostEventClear _ _ m => m
  | _ => none

/-- A command whose operands are in range. -/
def Instr.wf (i : Instr) : Bool :=
  match i with
  | .strapReadingDone mv0 mv1 _ => mvOk mv0 && mvOk mv1
  | .uvlo cut => cutOk cut
  | .brownOut _ cut => cutOk cut
  | .bnPor cut => cutOk cut
  | .parkEntry p => decide (0 < p)
  | .converterWord _ code => codeOk code
  | .sramScrub mem addr _ => eccOk mem addr
  | .quadWinRead _ len _ => lenOk len
  | .quadWinWrite _ data _ => lenOk data.length
  | .quadQRead n _ => lenOk n
  | .rdFrame _ _ len => lenOk len
  | .wrFrame _ _ data => decide (data.length ≤ 256)
  | .rdata _ _ data _ => decide (data.length ≤ 256)
  | .bankWr _ _ data => decide (data.length ≤ 256)
  | .tmfReading _ mv => mvOk mv
  | .monCrossing _ mv uv => mvOk mv && decide (uv < 1000)
  | .vinLossSet mv _ => vinOk mv
  | .vinLossClear mv _ => vinOk mv
  | .vinWindowExit _ mv _ => vinOk mv
  | .vinWindowReturn _ mv _ => vinOk mv
  | .packWarning mv _ => vinOk mv
  | .packWarningEnd mv _ => vinOk mv
  | .packCut mv _ => vinOk mv
  | .packCutEnd mv _ => vinOk mv
  | c => match busMsgOf c with | some m => busOk m | none => true

end Sys2Proof
end

