-- ==== Sys2Proof/Tests/Slice0.lean ====
section
/-! SUPPORT.  Checks of the model: ill-formed commands that WellFormed refuses, small runs of one command against
the tables and worked examples of the spec, and for every statement states that meet its hypotheses. -/

set_option Elab.async false

namespace Sys2Proof.Machine

set_option maxRecDepth 8000

/-! ## States for the witnesses -/

/-- A device in run with its PLLs in lock. -/
def W.up : State :=
  ({ State.reset with
    sys := { State.reset.sys with
      phase := .run, stage := .released, address := some 0x40, pllP := .locked, pllE := .locked, pllM := .locked },
    flt := { State.reset.flt with collecting := true } } : State).setB R.SYS_STATUS.VCC5_OK true

/-- The same device in another life phase. -/
def W.phase (p : Phase) : State :=
  W.up.updSys (fun y => { y with phase := p, stage := match p with
    | .start => .off | .unpowered => .off | .flacon => .off | .park => .off | _ => .released })

/-- The same device at a stage of a start. -/
def W.stage (st : Stage) : State := W.up.updSys (fun y => { y with phase := .start, stage := st })

/-- A start that loads an image. -/
def W.startAt (st : Stage) : State := (W.stage st).setF R.SYS_STATUS.LC 3

/-- Permissions that open every command and every address. -/
def W.permAll : List Byte :=
  List.replicate 256 3#8 ++ [1#8] ++ List.replicate 15 0#8 ++
    [0#8, 0#8, 0#8, 0#8, 0xFF#8, 0xFF#8, 0xFF#8, 0xFF#8, 0xF#8, 0#8, 0#8, 0#8, 0#8, 0#8, 0#8, 0#8]

def W.param : Param := ⟨5, 7, 1#32, 0#32, 100#32, 0x40010000, 0, 16⟩

/-- A small image. -/
def W.image : Image :=
  { version := 0, svn := 0, role := 0, devPin := 0xFF, flags := 0, bound := 0, topo := 0, hash := [], params := [],
    hostPerm := W.permAll, regs := [], hier := [], engines := [], safe := [], outputs := [], checkAt := 0 }

/-- The same device running an image. -/
def W.loaded (im : Image) (s : State) : State := s.updAcrd (fun a => { a with active := some false, image := some im })

def W.fabric : State := W.loaded W.image W.up
/-- Outputs of tile 9 that drive line 3 of each kind of action line. -/
def W.lines : State :=
  W.loaded { W.image with outputs := [(9, 0, 3), (9, 1, 67), (9, 2, 83), (9, 3, 99), (9, 4, 163), (9, 5, 187),
    (9, 6, 195), (9, 7, 219), (9, 8, 248)] } W.up

/-- Tile 3 with a cell of its second timer set. -/
def W.timerTile : State := W.fabric.updTile 3 (fun x => { x with upsets := [2152] })

def W.image0 : State := W.fabric
def W.withParam : State := W.loaded { W.image with params := [W.param] } W.up
def W.defaults : State := W.up.updAcrd (fun a => { a with defaults := true })
def W.host : State := W.fabric
def W.quadOpen (s : State) : State := W.loaded W.image s
def W.sup : State := W.fabric

/-- A host window at the start of the shared SRAM. -/
def W.hostWin : State := { W.host with host := { W.host.host with winAddr := 0x20000000#32, winLen := 4 } }

/-- How a quad frame with a right, or a wrong, request CRC ends. -/
def W.quadEnd : QuadEnd := { crcOk := true, complete := true }
def W.quadBad : QuadEnd := { crcOk := false, complete := true }

/-- Loop 0 in a state, with phases 0 and 1. -/
def W.loopOf (base : State) (st : Nat) : State :=
  let s := (base.setF (R.LOOP_STATUS.STATE 0) st).setF (R.LOOP_VLIM.VMAX 0) 22528
  let s := (((s.setB (R.PH_CFG.EN 0) true).setB (R.PH_CFG.EN 1) true).setF (R.PH_CFG.SLOT 0) 0).setF (R.PH_CFG.SLOT 1) 1
  (((s.setF (R.PH_STATUS.STATE 0) 2).setF (R.PH_STATUS.STATE 1) 2).setF (R.PH_STATUS.POS 0) 0).setF (R.PH_STATUS.POS 1) 1

def W.loop (st : Nat) : State := W.loopOf W.up st
def W.hostLoop : State := W.loopOf W.host 2
def W.hostLoop0 : State := W.loopOf W.host 0

def W.survey (st : Nat) : State := ((W.loop 2).setB (R.SV_CFG.EN 0) true).setF (R.SV_STATUS.STATE 0) st

def W.forecast : Forecast := ⟨0, 0#32, 1000, 10, 5, 0, false, false, false⟩
def W.foreseen : State := (W.loop 2).updLoop 0 (fun x => { x with forecast := some W.forecast })

def W.intent : State :=
  (((W.loop 2).setB (R.IL_CFG.EN 0) true).setReg (R.IL_LMASK.reg 0) 1#32).setB (R.IL_FC.EN 0) true |>.setF (R.LOOP_ILIM_EFF.LIM 0) 1000

/-- Rail 3, regulated outside and monitored by MON_2, in a state. -/
def W.rail (st : Nat) : State :=
  (((((W.up.setB (R.SEQ_RAIL_CFG.EN 3) true).setB (R.SEQ_RAIL_CFG.KIND 3) true).setF (R.SEQ_RAIL_CFG.MON 3) 2).setF
    (R.SEQ_RAIL_STATUS.STATE 3) st).setB (R.SUP_MON_STATUS.INSIDE 2) true).setB (R.SUP_MON_CFG.EN 2) true

/-- Rail 3 of loop 0, at a host with every permission. -/
def W.hostRail : State := W.host.setB (R.SEQ_RAIL_CFG.EN 3) true

def W.snap : Snapshot := ⟨0#64, 0#64, 3, 1, false, 0, 0#64, 0#64, [], List.replicate 24 (0, 0, 0)⟩

/-- The watchdog in its window, with a challenge and key whose answer is 0. -/
def W.watch : State :=
  { W.fabric.setF R.SUP_WD_STATUS.STATE 2 with sup := { W.fabric.sup with wdCfg := 0x03000000#32 } }

def W.wait : WaitWrite := ⟨.window .quad, 300, 0, [1#8], 0, false⟩
def W.slotOf : Slot := ⟨300, List.replicate 64 0#8, 1, 0, true⟩
def W.slot : State := { W.up with ledg := { W.up.ledg with slots := [W.slotOf] } }
def W.slotRun : State := { W.up with ledg := { W.up.ledg with running := [W.slotOf] } }

/-- Engine 2 running, with source 5 pending at level 3. -/
def W.pend : State :=
  ((W.up.setF (R.ENG_STATUS.STATE 2) 1).setBitAt (R.EIC_PEND.reg 2) 5 true).setReg (R.EIC_LVL.reg 2 0) 0x00300000#32

/-- Channel 4 of engine 2, running. -/
def W.dma : State := ((W.up.setF (R.ENG_STATUS.STATE 2) 1).setF (R.DMA_CH_CFG.OWNER 4) 2).setF (R.DMA_CH_STATUS.STATE 4) 1

/-- Channel 4 moves words within the shared SRAM, or within the data TCM of engine 2. -/
def W.beatOf (a b : Word) : State :=
  let s := W.dma.updDma 4 (fun x => { x with src := a, dst := b, len := 64, ctrl := 0xE#32 })
  let s := ((s.setB (R.ENG_MPU_BASE.EN 2 0) true).setB (R.ENG_MPU_BASE.R 2 0) true).setB (R.ENG_MPU_BASE.W 2 0) true
  (s.setF (R.ENG_MPU_LIM.LIMIT 2 0) 0x7FFFFFF).updEng 2 (fun x => { x with dtcm := [(0, 9#32)] })
def W.beatSram : State := W.beatOf 0x20000000#32 0x20000100#32
def W.beatDtcm : State := W.beatOf 0x10000#32 0x10100#32
def W.beatLast : State := W.beatSram.setF (R.DMA_CH_STATUS.DONE 4) 60

/-- Engine 2 about to execute one instruction, with its memories open to it and x6 at its data memory. -/
def W.engine (w : Word) : State :=
  let s := (W.up.setF (R.ENG_STATUS.STATE 2) 1).updEng 2 (fun x => { x with itcm := [(0, w)], xs := [(6, 0x10000#32), (7, 9#32)] })
  let s := (((s.setB (R.ENG_MPU_BASE.EN 2 0) true).setB (R.ENG_MPU_BASE.X 2 0) true).setB (R.ENG_MPU_BASE.R 2 0) true)
  (s.setB (R.ENG_MPU_BASE.W 2 0) true).setF (R.ENG_MPU_LIM.LIMIT 2 0) 0x7FFFFFF

/-- A port that waits for its peer. -/
def W.link0 : State := W.up.setF R.LINK_CFG.PEN 2

/-- A WORKER, device 5, whose port 1 leads to the MANAGER. -/
def W.joined (s : State) : State :=
  ((({ s with link := { s.link with mgr := 0 } } : State).setB R.LINK_ID.JOINED true).setF R.LINK_ID.DEV 5).setF (R.LINK_PORT_STATUS.STATE 1) 3

def W.worker : State := W.joined W.up
def W.workerImage : State := (W.joined W.fabric).setF R.SYS_STATUS.LC 3

/-- A WORKER with a verified image staged. -/
def W.staged (s : State) : State :=
  (s.updAcrd (fun a => { a with staged := some W.image, stagedBank := some true })).setB R.ACRD_STATUS.STAGED_OK true

def W.workerStaged : State := (W.staged W.workerImage).setF R.LINK_TIME_STATUS.STATE 2

def W.sentOf (n : Nat) : State := { W.worker with link := { W.worker.link with out := [⟨7, 6, 5, [], n, [5], none⟩] } }
def W.sent : State := W.sentOf 1
def W.sent8 : State := (W.sentOf 8).arm (T.resend 7) 5

/-- A MANAGER, device 0, with a route to device 5 and engine 2 running. -/
def W.managed (s : State) : State :=
  ({ s with link := { s.link with routes := [(5, some 1)] } } : State).setB R.LINK_CFG.MGR true |>.setF (R.ENG_STATUS.STATE 2) 1
    |>.setF (R.LINK_PORT_STATUS.STATE 1) 2 |>.setF R.LINK_ID.DEV 0 |>.setB R.LINK_ID.JOINED true

def W.manager : State := W.managed W.up
def W.managerStaged : State :=
  (W.managed (W.staged W.fabric)).setReg R.LINK_SW_T_LO.reg 20000000#32
def W.expects : State :=
  W.managed (W.loaded { W.image with hier := (List.replicate 96 0#8) ++ [1#8] ++ List.replicate 15 0#8 } W.up)

/-- The analogue domain in slice 2 of resource 3. -/
def W.slice : State := { W.up with bist := { W.up.bist with running := [(1, some (2, 3))] } }

/-- A path state that charges. -/
def W.charge : State :=
  ((((W.up.setF R.PATH_STATUS.STATE 2).setF R.PATH_CHG_STATUS.STATE 6).setB R.PATH_STATUS.PRESENT true).setB
    (R.PATH_ZONE.CHG 0) true).setF R.PATH_CHG_STATUS.ZONE 0

def W.steps : State :=
  (((W.up.setF R.PATH_CHG_STATUS.STATE 3).setB (R.PATH_CHG_STEP.EN 1) true).setF (R.PATH_CHG_STEP.VEND 1) 100).setF
    R.PATH_CHG_CFG.VCHG 100 |>.setF (R.PATH_CHG_STEP.VEND 0) 0

def W.peer : State :=
  ((((W.up.setF R.PATH_STATUS.STATE 4).setB R.PATH_CFG.PEEREN true).setB R.PATH_STATUS.PRESENT true).setB
    (R.PATH_ZONE.DSG 0) true).setF R.PATH_CHG_STATUS.ZONE 0

def W.visit : Visit := ⟨3, 0, 0, 1, 1, 0, none, 0, 0, 0, none⟩
def W.conv (v : Visit) : State :=
  { W.up with meas := { W.up.meas with convs := [(0, { ConvState.zero with visit := some v })], running := true } }

/-- A parked device that SVC_N wakes. -/
def W.wakes : State := (W.phase .park).setB R.SYS_WAKE_CFG.EN_SVC true

/-- The state that a command leaves. -/
def W.after (c : Instr) (s : State) : State := match exec c s with | .next t => t | _ => s

/-! ## Ill-formed commands are refused (WellFormed) -/

theorem test_wf_strap : Instr.wf (.strapReadingDone 3601 0 0#4) = false ∧ Instr.wf (.strapReadingDone 602 400 0#4) = true := by decide
theorem test_wf_uvlo : Instr.wf (.uvlo (.cut 513 .old)) = false ∧ Instr.wf (.uvlo .completes) = true := by decide
theorem test_wf_brown_out : Instr.wf (.brownOut .vdd08 (.cut 513 .old)) = false := by decide
theorem test_wf_bn_por : Instr.wf (.bnPor (.cut 513 .old)) = false := by decide
theorem test_wf_park_entry : Instr.wf (.parkEntry 0) = false ∧ Instr.wf (.parkEntry 3815) = true := by decide
theorem test_wf_converter_word : Instr.wf (.converterWord 0 8388608) = false ∧ Instr.wf (.converterWord 0 (-8388608)) = true := by decide
theorem test_wf_ecc_sram : Instr.wf (.sramScrub .sram 262144 .single) = false ∧ Instr.wf (.sramScrub .sram 262143 .single) = true := by decide
theorem test_wf_ecc_itcm : Instr.wf (.sramScrub (.itcm 2) 16384 .double) = false := by decide
theorem test_wf_ecc_dtcm : Instr.wf (.sramScrub (.dtcm 2) 16384 .double) = false := by decide
theorem test_wf_quad_read : Instr.wf (.quadWinRead 0#32 65536 { crcOk := true, complete := true }) = false := by decide
theorem test_wf_quad_write : Instr.wf (.quadWinWrite 0#32 (List.replicate 65536 0#8) { crcOk := true, complete := true }) = false := by
  show lenOk (List.replicate 65536 0#8).length = false
  rw [List.length_replicate]; rfl
theorem test_wf_quad_queue : Instr.wf (.quadQRead 65536 { crcOk := true, complete := true }) = false := by decide
theorem test_wf_rd_frame : Instr.wf (.rdFrame ⟨1, 0#8, 5#8, 7#16, true⟩ 0#32 65536) = false := by decide
theorem test_wf_wr_frame : Instr.wf (.wrFrame ⟨1, 0#8, 5#8, 7#16, true⟩ 0#32 (List.replicate 257 0#8)) = false := by
  simp [Instr.wf]
theorem test_wf_rdata : Instr.wf (.rdata 5#8 0#32 (List.replicate 257 0#8)) = false := by simp [Instr.wf]
theorem test_wf_bank_wr : Instr.wf (.bankWr ⟨1, 0#8, 5#8, 7#16, true⟩ 0#32 (List.replicate 257 0#8)) = false := by
  simp [Instr.wf]
theorem test_wf_tmf : Instr.wf (.tmfReading 0 3601) = false ∧ Instr.wf (.tmfReading 0 900) = true := by decide
theorem test_wf_monitor : Instr.wf (.monCrossing 0 3601 0) = false ∧ Instr.wf (.monCrossing 0 900 999) = true := by decide
theorem test_wf_vin : Instr.wf (.vinLossSet 70001 0) = false ∧ Instr.wf (.vinLossSet 12000 0) = true := by decide
theorem test_wf_pack : Instr.wf (.packCut 70001 0) = false ∧ Instr.wf (.packWarning 9000 0) = true := by decide
theorem test_wf_bus_data : Instr.wf (.winData ⟨false, List.replicate 256 0#8, 0, .good, true, []⟩) = false := by
  simp [Instr.wf, busMsgOf, busOk]
theorem test_wf_bus_clocked : Instr.wf (.page ⟨true, [], 258, .good, true, []⟩) = false := by decide

/-! ## Worked examples and tables of the spec -/

/-- Two straps of 602 mV and 400 mV give the address 0x4B (worked example of spec/02_balls.md). -/
theorem test_strap_address :
    (W.after (.strapReadingDone 602 400 0#4) ((W.stage .t0).arm T.strap 200000)).sys.address = some 0x4B := by decide

/-- The first start of an unpowered device begins with no stage reached (Table 3.3). -/
theorem test_vin_rise : (W.after .vinRiseStart State.reset).sys.phase = .start := by decide

/-- Code 200 is 10 mV/µs, 1 mV each tick: 16,777 units of 2^-24 V (worked example of spec/04_loop_array.md). -/
theorem test_slew_step : slewStep 200 = 16777 := by decide

/-- 0.810 V toward 0.78125 V at 0.5 mV each tick: 0.8095 V after one tick (Table 4.2). -/
theorem test_slew_down : stepToward 13589545 13107200 (slewStep 100) = 13581156 := by decide

/-- A target below 1,024 is refused as out of range (R73, LOOP_REFUSE.REASON 2). -/
theorem test_setpoint_range :
    (W.after (.setpointCommand (.engine 0) 0 1000#32) (W.loop 2)).fld (R.LOOP_REFUSE.REASON 0) = 2 := by decide

/-- The answer to challenge 0x9E37 with key 0x3C5A at SEQ 5 is 0xCDEB (worked example of spec/08_supervisors.md). -/
theorem test_watchdog_answer :
    (((W.watch.setF R.SUP_WD_CHAL.CHAL 0x9E37).setF R.SUP_WD_KEY.KEY 0x3C5A).setF R.SUP_WD_STATUS.SEQ 5).wdExpected = 0xCDEB := by
  decide

/-- The PEC over 0x96, 0x21, 0x66 and 0x0E is 0xAB (worked example of spec/14_host_bus.md). -/
theorem test_pec : crc8 [0x96#8, 0x21#8, 0x66#8, 0x0E#8] = 0xAB#8 := by decide

/-- VOUT_COMMAND 0x0E66 sets the target 3,686 (worked example of spec/14_host_bus.md). -/
theorem test_vout_command :
    (W.after (.voutCommand ⟨false, [0x66#8, 0x0E#8], 0, .good, true, []⟩) W.hostLoop0).target 0 = 3686 := by decide

/-- CAPABILITY answers 0xD0 (Table 14.3). -/
theorem test_capability :
    (W.after (.capability ⟨true, [], 1, .absent, true, []⟩) W.host).host.reply = [0xD0#8] := by decide

/-- 470.0 ns behind with a delay of 120.0 ns (example of spec/15_hierarchy.md, times in half nanoseconds). -/
theorem test_time_offset :
    (W.after (.tsyncRsp 2000000 2001180 2005180 2004480) W.worker).sfld R.LINK_TIME_STATUS.OFS = 470 ∧
    (W.after (.tsyncRsp 2000000 2001180 2005180 2004480) W.worker).fld R.LINK_TIME_DLY.DLY = 120 := by decide

/-- A level 5 doorbell pre-empts a pending source of level 3 (Table 12.5). -/
theorem test_claim_order :
    ((((W.up.setF (R.ENG_STATUS.STATE 2) 1).setBitAt (R.EIC_PEND.reg 2) 24 true).setBitAt (R.EIC_PEND.reg 2) 177 true)
      |>.setReg (R.EIC_LVL.reg 2 3) 0x3#32 |>.setReg (R.EIC_LVL.reg 2 22) 0x50#32).qualified 2 = some 177 := by decide

/-- SUB x5, x6, x7 with x6 = 0x10000 and x7 = 9 (RV32I). -/
theorem test_engine_sub : (W.after (.engineInstruction 2 []) (W.engine 0x407302B3#32)).xreg 2 5 = 0xFFF7#32 := by decide

/-- A fault is not injected in MISSION (R225). -/
theorem test_inject_refused :
    (W.after (.faultInject (.engine 0) 5) (W.up.setF R.SYS_STATUS.LC 3)).bit R.FLT_STATUS.INJ_REF = true := by decide

/-- A stage fault outside blanking loses the phase with cause 2 (R103). -/
theorem test_stage_fault : (W.after (.phaseStageFault 0 true 100000000) (W.loop 2)).fld (R.PH_STATUS.LOSS 0) = 2 := by decide

/-- With 7 phases of 24,000 steps slot 4 begins at 13,714, and slot 6 moves by −857 (Table 5.3). -/
theorem test_positions :
    phasePos 24000 7 4 = 13714 ∧ wrapShift 24000 ((phasePos 24000 7 5 : Int) - phasePos 24000 8 6) = -857 := by decide

/-- A value above a parameter's maximum is refused (R21). -/
theorem test_param_range :
    (W.after (.paramWrite (.engine 0) 5#12 101#32 false) W.withParam).fld (R.ACRD_PARAM_STAT.RESULT 0) = 2 := by decide

/-- A word written to shared SRAM over the quad port reads back (R279). -/
theorem test_quad_sram :
    (W.after (.quadWinRead 0x20000000#32 4 { crcOk := true, complete := true })
      (W.after (.quadWinWrite 0x20000000#32 [1#8, 2#8, 3#8, 4#8] { crcOk := true, complete := true }) W.host)).host.quadData.take 5 =
      [0xA5#8, 1#8, 2#8, 3#8, 4#8] := by decide

/-- A slice that fails the first time is repeated, and no source is raised (R312). -/
theorem test_slice_repeats : (W.after (.sliceEnd 1 false) W.slice).bist.again.at none 1 = some (2, 3) := by decide

/-- An intent command with an intact frame is acknowledged with the next sequence number (R121). -/
theorem test_intent_ack :
    (W.after (.intentSetpoint 0 (intentFrame 1 0 2048)) W.intent).fld (R.IL_STAT.SEQ 0) = 1 := by decide

/-- No word spells a command: the rows of the table have no bits. -/
theorem test_no_words : decodeTableWord 32 0x12345678 = none := by decide

/-! ## The hypotheses of the statements can be met -/

/-- The hypotheses of StepTakesFrontCommand can be met. -/
theorem test_StepTakesFrontCommand_met :
    (∃ s : State, s.pending = .bnoMonitorFail :: []) :=
  ⟨{ State.reset with pending := [.bnoMonitorFail] }, rfl⟩

/-- The hypotheses of EmptyQueueTicks can be met. -/
theorem test_EmptyQueueTicks_met :
    (State.reset.pending = []) :=
  by decide

/-- The hypotheses of MemoryStaysCanonical can be met. -/
theorem test_MemoryStaysCanonical_met :
    (State.reset.memWf = true ∧ ∃ t, step State.reset = .next t) :=
  ⟨by decide, _, rfl⟩

/-- The hypotheses of MemoryChangesOnlyByItsWriters can be met. -/
theorem test_MemoryChangesOnlyByItsWriters_met :
    (changesMemory .bnoMonitorFail = false ∧ ∃ t, exec .bnoMonitorFail State.reset = .next t) :=
  ⟨rfl, _, rfl⟩

/-- The hypotheses of ImageChangesOnlyByItsWriters can be met. -/
theorem test_ImageChangesOnlyByItsWriters_met :
    (changesImage .bnoMonitorFail = false ∧ ∃ t, exec .bnoMonitorFail State.reset = .next t) :=
  ⟨rfl, _, rfl⟩

/-- The hypotheses of PhaseChangesOnlyByItsWriters can be met. -/
theorem test_PhaseChangesOnlyByItsWriters_met :
    (changesPhase .bnoMonitorFail = false ∧ ∃ t, exec .bnoMonitorFail State.reset = .next t) :=
  ⟨rfl, _, rfl⟩

/-- The hypotheses of CommandsLeaveTheQueue can be met. -/
theorem test_CommandsLeaveTheQueue_met :
    (∃ t, exec .bnoMonitorFail State.reset = .next t) :=
  ⟨_, rfl⟩

/-- The hypotheses of TimeNeverGoesBack can be met. -/
theorem test_TimeNeverGoesBack_met :
    (∃ t, step State.reset = .next t) :=
  ⟨_, rfl⟩

/-- The hypotheses of UnpermittedBusCommandRefused can be met. -/
theorem test_UnpermittedBusCommandRefused_met :
    (∃ (c : Instr) (m : BusMsg) (s : State), busCode c = some (0x20, m) ∧ s.busOn = true ∧ s.codeMay 0x20 (!m.read && decide (0x20 ≠ 3)) = false) ∧
    (busCode (.voutMode ⟨true, [], 2, .absent, true, []⟩) = some (0x20, ⟨true, [], 2, .absent, true, []⟩) ∧ State.reset.busOn = false) ∧
    (W.host.busOn = true ∧ State.reset.busOn = false ∧ W.host.quadOn = true ∧ State.reset.quadOn = false) :=
  ⟨⟨.voutMode ⟨false, [], 0, .absent, true, []⟩, ⟨false, [], 0, .absent, true, []⟩, W.up, by decide⟩,
   by decide,
   by decide⟩

/-- The hypotheses of WatchdogErrorsCount can be met. -/
theorem test_WatchdogErrorsCount_met :
    (∃ (r : Req) (ans : BitVec 16) (s : State), (r = .hostBus ∨ r = .quad) ∧ s.may r R.SUP_WD_ANS.reg true (some 0xDF) = true ∧ (s.fld R.SUP_WD_STATUS.STATE = 2 ∨ s.fld R.SUP_WD_STATUS.STATE = 4) ∧ ans.toNat = s.wdExpected) ∧
    (∃ (r : Req) (ans : BitVec 16) (s : State), (r = .hostBus ∨ r = .quad) ∧ s.may r R.SUP_WD_ANS.reg true (some 0xDF) = true ∧ (s.fld R.SUP_WD_STATUS.STATE = 3 ∨ (s.fld R.SUP_WD_STATUS.STATE = 2 ∨ s.fld R.SUP_WD_STATUS.STATE = 4) ∧ ans.toNat ≠ s.wdExpected) ∧ s.fld R.SUP_WD_STATUS.ERRCNT + 1 < max 1 (s.sup.wdCfg.field 24 3)) ∧
    (∃ (r : Req) (ans : BitVec 16) (s : State), (r = .hostBus ∨ r = .quad) ∧ s.may r R.SUP_WD_ANS.reg true (some 0xDF) = true ∧ (s.fld R.SUP_WD_STATUS.STATE = 3 ∨ (s.fld R.SUP_WD_STATUS.STATE = 2 ∨ s.fld R.SUP_WD_STATUS.STATE = 4) ∧ ans.toNat ≠ s.wdExpected) ∧ max 1 (s.sup.wdCfg.field 24 3) ≤ s.fld R.SUP_WD_STATUS.ERRCNT + 1) ∧
    (∃ (s : State), (s.fld R.SUP_WD_STATUS.STATE = 2 ∨ s.fld R.SUP_WD_STATUS.STATE = 4) ∧ s.runs T.wd = true ∧ s.fld R.SUP_WD_STATUS.ERRCNT + 1 < max 1 (s.sup.wdCfg.field 24 3)) ∧
    (∃ (s : State), (s.fld R.SUP_WD_STATUS.STATE = 2 ∨ s.fld R.SUP_WD_STATUS.STATE = 4) ∧ s.runs T.wd = true ∧ max 1 (s.sup.wdCfg.field 24 3) ≤ s.fld R.SUP_WD_STATUS.ERRCNT + 1) :=
  ⟨⟨.quad, 0#16, W.watch, by decide⟩,
   ⟨.quad, 1#16, W.watch, by decide⟩,
   ⟨.quad, 1#16, W.watch.setF R.SUP_WD_STATUS.ERRCNT 6, by decide⟩,
   ⟨W.watch.arm T.wd 5, by decide⟩,
   ⟨(W.watch.setF R.SUP_WD_STATUS.ERRCNT 6).arm T.wd 5, by decide⟩⟩

/-- The hypotheses of FaultInjectionRaisesOnlyTheSource can be met. -/
theorem test_FaultInjectionRaisesOnlyTheSource_met :
    (∃ (r : Req) (s : State), s.may r R.FLT_INJ.reg true none = true ∧ (s.fld R.SYS_STATUS.LC = 1 ∨ s.fld R.SYS_STATUS.LC = 4)) ∧
    (∃ (r : Req) (s : State), s.may r R.FLT_INJ.reg true none = true ∧ s.fld R.SYS_STATUS.LC ≠ 1 ∧ s.fld R.SYS_STATUS.LC ≠ 4) ∧
    (∃ (r : Req) (w : Word) (s : State), s.topOn = true ∧ s.may r R.FLT_INJ.reg true none = true ∧ (s.fld R.SYS_STATUS.LC = 1 ∨ s.fld R.SYS_STATUS.LC = 4) ∧ w.field 24 8 = 0x4E) ∧
    (∃ (r : Req) (w : Word) (s : State), s.topOn = true ∧ s.may r R.FLT_INJ.reg true none = true ∧ s.fld R.SYS_STATUS.LC ≠ 1 ∧ s.fld R.SYS_STATUS.LC ≠ 4 ∧ w.field 24 8 = 0x4E) ∧
    (∃ (r : Req) (w : Word) (s : State), (s.topOn = false ∨ s.may r R.FLT_INJ.reg true none = true) ∧ w.field 24 8 ≠ 0x4E ∧ r ≠ .hostBus) ∧
    (∃ (r : Req) (w : Word) (s : State), s.topOn = true ∧ s.may r R.FLT_INJ.reg true none = true ∧ w.field 24 8 ≠ 0x4E) :=
  ⟨⟨.engine 0, W.up.setF R.SYS_STATUS.LC 1, by decide⟩,
   ⟨.engine 0, W.up.setF R.SYS_STATUS.LC 3, by decide⟩,
   ⟨.engine 0, 0x4E000005#32, W.up.setF R.SYS_STATUS.LC 1, by decide⟩,
   ⟨.engine 0, 0x4E000005#32, W.up.setF R.SYS_STATUS.LC 3, by decide⟩,
   ⟨.engine 0, 0x4F000005#32, W.up.setF R.SYS_STATUS.LC 1, by decide⟩,
   ⟨.hostBus, 0x4F000005#32, W.host.setF R.SYS_STATUS.LC 1, by decide⟩⟩

/-- The hypotheses of AbandonedTransactionAppliesNothing can be met. -/
theorem test_AbandonedTransactionAppliesNothing_met :
    (∃ (s : State), s.busOn = true) :=
  ⟨W.up, by decide⟩

/-- The hypotheses of LockNeverRefusesTheFabric can be met. -/
theorem test_LockNeverRefusesTheFabric_met :
    (∃ (n : Fin 24) (k : Nat) (s : State), s.driver (192 + n.val) = some k ∧ s.tileRuns k = true ∧ s.linesHeld = false ∧ s.acrd.act.getLsbD (192 + n) = false ∧ s.sys.phase ≠ .safe ∧ s.sys.stage = .released ∧ s.refusal n .fabric (s.fld (R.LOOP_FSET.TARGET n)) = none ∧ (s.lstate n = L.off ∨ s.lbase n = L.stop)) ∧
    (∃ (n : Fin 24) (k : Nat) (s : State), s.driver (192 + n.val) = some k ∧ s.tileRuns k = true ∧ s.linesHeld = false ∧ s.acrd.act.getLsbD (192 + n) = false ∧ s.sys.phase ≠ .safe ∧ s.sys.stage = .released ∧ s.refusal n .fabric (s.fld (R.LOOP_FSET.TARGET n)) = none ∧ s.lstate n ≠ L.off ∧ s.lbase n ≠ L.stop) :=
  ⟨⟨3, 9, (((W.loopOf W.lines 2).setF (R.LOOP_STATUS.STATE 3) 0).setF (R.LOOP_VLIM.VMAX 3) 22528).setF (R.LOOP_FSET.TARGET 3) 4096 |>.setReg (R.LOOP_LOCK.reg 3) 0xFFFFFFFF#32, by decide⟩,
   ⟨3, 9, (((W.loopOf W.lines 2).setF (R.LOOP_STATUS.STATE 3) 2).setF (R.LOOP_VLIM.VMAX 3) 22528).setF (R.LOOP_FSET.TARGET 3) 4096 |>.setReg (R.LOOP_LOCK.reg 3) 0xFFFFFFFF#32, by decide⟩⟩

/-- The hypotheses of OnlyEnabledSourcesWake can be met. -/
theorem test_OnlyEnabledSourcesWake_met :
    (wakeBit .svcNWake = some 9 ∧ (W.wakes.wakeEnabled 9 = true) ∧ W.wakes.sys.phase = .park ∧ W.wakes.sys.address ≠ none) ∧
    (wakeBit .busAddressWake = some 8 ∧ (W.wakes.setB R.SYS_WAKE_CFG.EN_BUS false).wakeEnabled 8 = false) ∧
    (wakeBit .svcNWake = some 9 ∧ (W.wakes.toStart 0x20).wakeEnabled 9 = true ∧ (W.wakes.toStart 0x20).sys.phase = .start ∧ (W.wakes.toStart 0x20).sys.stage = .off ∧ (W.wakes.toStart 0x20).sys.nextCause.testBit 5 = true) :=
  ⟨by decide,
   by decide,
   by decide⟩

/-- The hypotheses of SwitchNeedsEqualTopology can be met. -/
theorem test_SwitchNeedsEqualTopology_met :
    (∃ (f : FrameId) (s : State), s.obeys f = true ∧ s.bit R.ACRD_STATUS.STAGED_OK = true ∧ s.topoEq = false ∧ (s.railsOn.all s.railDown) = false) ∧
    (∃ (r : Req) (s : State), s.may r R.LINK_SW_CMD.reg true none = true ∧ s.manager = true ∧ s.bit R.ACRD_STATUS.STAGED_OK = true ∧ s.topoEq = false ∧ (s.railsOn.all s.railDown) = false) ∧
    (W.workerStaged.switchCause 20000000#64 = 0) ∧
    ((W.up.setB R.ACRD_STATUS.SWITCH_PEND true).bit R.ACRD_STATUS.SWITCH_PEND = true ∧ Instr.bnoMonitorFail ≠ .quadBankStoreDone) ∧
    ((W.up.setB R.ACRD_STATUS.SWITCH_PEND true).bit R.ACRD_STATUS.SWITCH_PEND = true) ∧
    (∃ (r : Req) (s : State), s.may r 0x400D0034 true (some 0xE0) = true ∧ (s.bit R.ACRD_STATUS.SWITCH_PEND = true ∨ s.acrd.switching = true)) :=
  ⟨⟨⟨1, 0#8, 5#8, 7#16, true⟩, W.joined (W.staged ((W.rail 3).updAcrd (fun a => { a with image := some { W.image with topo := 1 } }))), by decide⟩,
   ⟨.engine 2, W.managed (W.staged ((W.rail 3).updAcrd (fun a => { a with image := some { W.image with topo := 1 } }))), by decide⟩,
   by decide,
   by decide,
   by decide,
   ⟨.engine 2, W.fabric.setB R.ACRD_STATUS.SWITCH_PEND true, by decide⟩⟩

/-- The hypotheses of InterruptPriority can be met. -/
theorem test_InterruptPriority_met :
    (W.pend.engRuns 2 = true ∧ W.pend.bitAt (R.EIC_PEND.reg 2) 5 = true) ∧
    (W.up.qualified 2 = none) ∧
    (W.pend.qualified 2 = some 5) ∧
    (∃ (e : Fin 16) (l : Nat) (s : State), s.engRuns e = true ∧ s.qualified e = some l) ∧
    (∃ (e : Fin 16) (src : Byte) (lv : Nat) (rest : List (Nat × Nat)) (s : State), s.engRuns e = true ∧ (s.eng e).claims = (src.toNat, lv) :: rest) ∧
    (∃ (e : Fin 16) (src : Byte) (s : State), s.engRuns e = true ∧ ((s.eng e).claims.head?.map Prod.fst) ≠ some src.toNat) ∧
    (∃ (e : Fin 16) (s : State), s.engRuns e = true ∧ (s.eng e).mie = true ∧ (s.qualified e).isSome = true) ∧
    (∃ (e : Fin 16) (s : State), ((s.eng e).mie = false ∨ s.qualified e = none)) :=
  ⟨by decide,
   by decide,
   by decide,
   ⟨2, 5, W.pend, by decide⟩,
   ⟨2, 5#8, 3, [], W.pend.updEng 2 (fun x => { x with claims := [(5, 3)] }), by decide⟩,
   ⟨2, 5#8, W.pend, by decide⟩,
   ⟨2, W.pend.updEng 2 (fun x => { x with mie := true }), by decide⟩,
   ⟨2, State.reset, by decide⟩⟩

/-- The hypotheses of SlewReachesItsTarget can be met. -/
theorem test_SlewReachesItsTarget_met :
    (0 < slewStep 1) ∧
    (∃ (n : Fin 24) (s : State), s.lstate n ≠ L.fault ∧ s.lstate n ≠ L.off ∧ (s.loop n).clkHeld = false ∧ s.lbase n ≠ L.start ∧ s.lbase n ≠ L.stop ∧ (s.loop n).moving = true ∧ (s.loop n).queued = [] ∧ s.fld (R.SV_STATUS.STATE n) = 0 ∧ (s.loop n).forecast = none) :=
  ⟨by decide,
   ⟨0, (W.loop 3).updLoop 0 (fun x => { x with moving := true, rate := 10 }), by decide⟩⟩

/-- The hypotheses of StartSequenceCompletes can be met. -/
theorem test_StartSequenceCompletes_met :
    (∃ (s : State), s.sys.phase = .unpowered) ∧
    (∃ (s : State), s.sys.phase ≠ .unpowered) ∧
    (∃ (s : State), s.sys.phase = .flacon) ∧
    (∃ (s : State), s.sys.phase ≠ .flacon) ∧
    (∃ (s : State), s.sys.phase = .start ∧ s.sys.stage = .off ∧ (s.sys.brown = .none ∨ s.sys.brown = .restart ∧ s.runs T.brown = true)) ∧
    (∃ (s : State), s.sys.stage = .t0 ∧ s.runs T.strap = true) ∧
    (∃ (s : State), s.sys.stage = .t2) ∧
    (∃ (s : State), s.sys.stage ≠ .t2) ∧
    (∃ (s : State), s.sys.stage = .t5) ∧
    (∃ (s : State), s.sys.stage ≠ .t5) ∧
    (∃ (s : State), s.sys.stage = .t6 ∧ s.sys.selfTest = true) ∧
    (∃ (s : State), (s.sys.stage ≠ .t6 ∨ s.sys.selfTest = false)) ∧
    (∃ (s : State), s.sys.phase = .start ∧ s.sys.stage = .configured ∧ s.runs T.release = true) ∧
    (∃ (s : State), s.sys.stage = .released ∧ s.bit R.LEDG_STATUS.SCAN = true) :=
  ⟨⟨State.reset, by decide⟩,
   ⟨W.up, by decide⟩,
   ⟨W.phase .flacon, by decide⟩,
   ⟨State.reset, by decide⟩,
   ⟨W.phase .start, by decide⟩,
   ⟨(W.stage .t0).arm T.strap 200000, by decide⟩,
   ⟨W.stage .t2, by decide⟩,
   ⟨State.reset, by decide⟩,
   ⟨W.stage .t5, by decide⟩,
   ⟨State.reset, by decide⟩,
   ⟨(W.stage .t6).updSys (fun y => { y with selfTest := true }), by decide⟩,
   ⟨State.reset, by decide⟩,
   ⟨(W.startAt .configured).arm T.release 0, by decide⟩,
   ⟨W.up.setB R.LEDG_STATUS.SCAN true, by decide⟩⟩

/-- The hypotheses of PowerLossCompletes can be met. -/
theorem test_PowerLossCompletes_met :
    (∃ (s : State), s.topPhase = true) ∧
    (∃ (s : State), s.topPhase = false) ∧
    (∃ (rail : HouseRail) (s : State), rail ≠ .vbn ∧ s.topPhase = true ∧ 2 ≤ s.sys.stage.ord) ∧
    (∃ (s : State), s.sys.phase ≠ .flacon) ∧
    (∃ (s : State), s.sys.brown = .tenMs ∧ s.runs T.brown = true) ∧
    (∃ (s : State), s.sys.phase = .flacon) ∧
    (∃ (s : State), s.topPhase = true ∧ 2 ≤ s.sys.stage.ord ∧ s.sys.hsupOv = false) ∧
    (∃ (s : State), s.topPhase = true ∧ 2 ≤ s.sys.stage.ord) ∧
    (∃ (s : State), s.sys.phase = .safe ∧ s.ledg.drain = .restart ∧ s.ledgDrained = true) :=
  ⟨⟨W.up, by decide⟩,
   ⟨State.reset, by decide⟩,
   ⟨.vdd08, W.up, by decide⟩,
   ⟨W.up, by decide⟩,
   ⟨(W.phase .start).updSys (fun y => { y with brown := .tenMs }) |>.arm T.brown 10000000, by decide⟩,
   ⟨W.phase .flacon, by decide⟩,
   ⟨W.up, by decide⟩,
   ⟨W.up, by decide⟩,
   ⟨{ W.phase .safe with ledg := { State.reset.ledg with drain := .restart } }, by decide⟩⟩

/-- The hypotheses of ClockCommandsComplete can be met. -/
theorem test_ClockCommandsComplete_met :
    (∃ (s : State), s.sys.xinWait = true) ∧
    (∃ (s : State), s.sys.xinWait = false) ∧
    (∃ (s : State), s.sys.xinWait = true ∧ s.runs T.xin = true) ∧
    (∃ (s : State), s.bit R.SYS_CLK_STATUS.SRC = true) ∧
    (∃ (s : State), s.bit R.SYS_CLK_STATUS.SRC = false) ∧
    (∃ (s : State), s.topOn = true) ∧
    (∃ (s : State), s.topOn = false) ∧
    (∃ (s : State), (s.sys.pllE = .locked ∨ s.sys.pllE = .reconfiguring)) ∧
    (∃ (s : State), (s.sys.pllE ≠ .locked ∧ s.sys.pllE ≠ .reconfiguring)) ∧
    (∃ (s : State), s.sys.pllE = .out) ∧
    (∃ (s : State), s.sys.pllE ≠ .out) ∧
    (∃ (s : State), s.sys.pllE = .reconfiguring ∧ s.runs T.reconfig = true) ∧
    (∃ (s : State), s.sys.pllM = .locked) ∧
    (∃ (s : State), s.sys.pllM ≠ .locked) ∧
    (∃ (s : State), s.sys.pllM = .out) ∧
    (∃ (s : State), s.sys.pllM ≠ .out) :=
  ⟨⟨W.up.updSys (fun y => { y with xinWait := true }), by decide⟩,
   ⟨State.reset, by decide⟩,
   ⟨(W.up.updSys (fun y => { y with xinWait := true })).arm T.xin 5, by decide⟩,
   ⟨W.up.setB R.SYS_CLK_STATUS.SRC true, by decide⟩,
   ⟨State.reset, by decide⟩,
   ⟨W.up, by decide⟩,
   ⟨State.reset, by decide⟩,
   ⟨W.up, by decide⟩,
   ⟨State.reset, by decide⟩,
   ⟨W.up.updSys (fun y => { y with pllE := .out }), by decide⟩,
   ⟨State.reset, by decide⟩,
   ⟨(W.up.updSys (fun y => { y with pllE := .reconfiguring })).arm T.reconfig 2621440, by decide⟩,
   ⟨W.up, by decide⟩,
   ⟨State.reset, by decide⟩,
   ⟨W.up.updSys (fun y => { y with pllM := .out }), by decide⟩,
   ⟨State.reset, by decide⟩⟩

/-- The hypotheses of PowerDownParkAndWakeComplete can be met. -/
theorem test_PowerDownParkAndWakeComplete_met :
    (∃ (r : Req) (s : State), s.may r R.SYS_PWR_CMD.reg true (some 0xE4) = true ∧ s.powerOk false = true) ∧
    (∃ (r : Req) (s : State), s.may r R.SYS_PWR_CMD.reg true (some 0xE4) = false) ∧
    (∃ (r : Req) (s : State), s.may r R.SYS_PWR_CMD.reg true (some 0xE4) = true ∧ s.powerOk false = false) ∧
    (∃ (m : BusMsg) (s : State), s.takesWrite m 0xE4 1 1 = true ∧ bytesLE m.data = 1 ∧ s.powerOk false = true) ∧
    (∃ (m : BusMsg) (s : State), s.takesWrite m 0xE4 1 1 = true ∧ bytesLE m.data ≠ 1 ∧ bytesLE m.data ≠ 2) ∧
    (∃ (r : Req) (v : Bool) (s : State), s.may r R.SYS_PWR_CMD.reg true (some 0xE4) = true ∧ s.powerOk v = true) ∧
    (∃ (r : Req) (v : Bool) (s : State), s.may r R.SYS_PWR_CMD.reg true (some 0xE4) = true ∧ s.powerOk v = false) ∧
    (∃ (v : Bool) (m : BusMsg) (s : State), s.takesWrite m 0xE4 1 1 = true ∧ bytesLE m.data = 2 ∧ s.powerOk v = true) ∧
    (∃ (s : State), s.sys.phase = .powerDown ∧ s.bit R.SYS_STATUS.DEST_FLACON = false ∧ s.sys.dry = .recorded ∧ s.ledgDrained = true ∧ s.bit R.SYS_CLK_STATUS.BNO_FAIL = false) ∧
    (∃ (s : State), s.sys.phase = .powerDown ∧ s.bit R.SYS_STATUS.DEST_FLACON = true ∧ s.sys.dry = .recorded ∧ s.ledgDrained = true) ∧
    (∃ (n : Fin 4) (s : State), (s.fld R.SYS_WAKE_CFG.EN_WAKE).testBit n = true) ∧
    (∃ (n : Fin 4) (s : State), (s.fld R.SYS_WAKE_CFG.EN_WAKE).testBit n = false) ∧
    (∃ (s : State), s.bit R.SYS_WAKE_CFG.EN_BUS = true) ∧
    (∃ (s : State), s.bit R.SYS_WAKE_CFG.EN_BUS = false) ∧
    (∃ (n : Fin 4) (s : State), (s.fld R.SYS_WAKE_CFG.EN_LINK).testBit n = true) ∧
    (∃ (n : Fin 4) (s : State), (s.fld R.SYS_WAKE_CFG.EN_LINK).testBit n = false) ∧
    (∃ (s : State), s.bit R.SYS_WAKE_CFG.EN_SVC = true) ∧
    (∃ (s : State), s.bit R.SYS_WAKE_CFG.EN_SVC = false) ∧
    (∃ (s : State), s.bit R.SYS_WAKE_CFG.EN_ALARM = true) ∧
    (∃ (s : State), s.bit R.SYS_WAKE_CFG.EN_ALARM = false) ∧
    (∃ (s : State), s.sys.phase = .park) ∧
    (∃ (s : State), s.sys.phase ≠ .park) :=
  ⟨⟨.engine 0, W.up, by decide⟩,
   ⟨.hostBus, W.up, by decide⟩,
   ⟨.engine 0, W.phase .safe, by decide⟩,
   ⟨⟨false, [1#8], 0, .good, true, []⟩, W.host, by decide⟩,
   ⟨⟨false, [3#8], 0, .good, true, []⟩, W.host, by decide⟩,
   ⟨.engine 0, false, W.up, by decide⟩,
   ⟨.engine 0, true, W.up, by decide⟩,
   ⟨false, ⟨false, [2#8], 0, .good, true, []⟩, W.host, by decide⟩,
   ⟨(W.phase .powerDown).updSys (fun y => { y with dry := .recorded }), by decide⟩,
   ⟨((W.phase .powerDown).updSys (fun y => { y with dry := .recorded })).setB R.SYS_STATUS.DEST_FLACON true, by decide⟩,
   ⟨0, (W.phase .park).setF R.SYS_WAKE_CFG.EN_WAKE 1, by decide⟩,
   ⟨0, State.reset, by decide⟩,
   ⟨(W.phase .park).setB R.SYS_WAKE_CFG.EN_BUS true, by decide⟩,
   ⟨W.wakes.setB R.SYS_WAKE_CFG.EN_BUS false, by decide⟩,
   ⟨0, (W.phase .park).setF R.SYS_WAKE_CFG.EN_LINK 1, by decide⟩,
   ⟨0, State.reset, by decide⟩,
   ⟨(W.phase .park).setB R.SYS_WAKE_CFG.EN_SVC true, by decide⟩,
   ⟨W.up.setB R.SYS_WAKE_CFG.EN_SVC false, by decide⟩,
   ⟨(W.phase .park).setB R.SYS_WAKE_CFG.EN_ALARM true, by decide⟩,
   ⟨State.reset, by decide⟩,
   ⟨W.phase .park, by decide⟩,
   ⟨State.reset, by decide⟩⟩

/-- The hypotheses of ServicePinsAndLifeCycleComplete can be met. -/
theorem test_ServicePinsAndLifeCycleComplete_met :
    (∃ (s : State), s.runs T.longEnd = true) ∧
    (∃ (s : State), s.runs T.longEnd = false) ∧
    (∃ (r : Req) (w : Word) (s : State), (r = .hostBus ∨ r = .quad) ∧ s.may r R.SYS_LC_CMD.reg true none = true ∧ 4 ≤ s.sys.stage.ord ∧ w.field 24 8 = 0xA9 ∧ s.sys.lcJudging = false ∧ s.bit R.SYS_LC_STATUS.PEND = false ∧ s.ledg.keyMove = false ∧ 0 < s.fld R.SYS_STATUS.LC ∧ s.fld R.SYS_STATUS.LC ≤ 3 ∧ w.field 0 3 = s.fld R.SYS_STATUS.LC + 1) ∧
    (∃ (s : State), s.sys.lcJudging = true) ∧
    (∃ (s : State), s.sys.lcJudging = false) ∧
    (∃ (s : State), 4 ≤ s.sys.stage.ord ∧ (s.fld R.SYS_STATUS.LC = 1 ∨ s.fld R.SYS_STATUS.LC = 4)) ∧
    (∃ (s : State), s.topOn = true) ∧
    (∃ (s : State), s.topOn = false) ∧
    (∃ (s : State), s.topOn = true ∧ s.link.servo.rate = 0 ∧ s.link.servo.slew = 0 ∧ s.link.servo.base ≤ s.ns ∧ 0 ≤ (s.ns : Int) + s.htOfs ∧ (s.ns : Int) + s.htOfs < 2 ^ 63) :=
  ⟨⟨W.up.arm T.longEnd 300000000, by decide⟩,
   ⟨State.reset, by decide⟩,
   ⟨.quad, 0xA9000004#32, W.quadOpen (W.up.setF R.SYS_STATUS.LC 3), by decide⟩,
   ⟨W.up.updSys (fun y => { y with lcJudging := true }), by decide⟩,
   ⟨State.reset, by decide⟩,
   ⟨W.up.setF R.SYS_STATUS.LC 1, by decide⟩,
   ⟨W.up, by decide⟩,
   ⟨State.reset, by decide⟩,
   ⟨W.up, by decide⟩⟩

/-- The hypotheses of AccordCommandsComplete can be met. -/
theorem test_AccordCommandsComplete_met :
    (∃ (s : State), s.sys.phase = .start ∧ s.sys.stage = .t6 ∧ s.sys.selfTest = false ∧ s.usedStored = true ∧ (s.sys.ft = 0 ∨ s.fld R.SYS_STATUS.LC ≠ 1 ∧ s.fld R.SYS_STATUS.LC ≠ 4)) ∧
    (∃ (s : State), s.sys.stage = .t7 ∧ s.runs T.load = true) ∧
    (∃ (s : State), s.sys.stage = .judged ∧ s.runs T.config = true) ∧
    (∃ (r : Req) (bank b : Bool) (s : State), s.may r R.ACRD_CTRL.reg true none = true ∧ s.commandBank bank = some b) ∧
    (∃ (b : Bool) (s : State), s.acrd.verifying = some b ∧ s.runs T.verify = true) ∧
    (∃ (r : Req) (bank b : Bool) (s : State), s.may r R.ACRD_CTRL.reg true none = true ∧ s.bit R.ACRD_STATUS.STAGED_OK = true ∧ s.acrd.stagedBank = some b ∧ (s.acrd.defaults = true → b = bank)) ∧
    (∃ (r : Req) (s : State), s.may r 0x400D0034 true (some 0xE0) = true) ∧
    (∃ (r : Req) (s : State), s.may r 0x400D0034 true (some 0xE0) = false) ∧
    (∃ (r : Req) (id : BitVec 12) (v : Word) (persist : Bool) (s : State), s.may r 0x400D0034 true (some 0xE0) = true ∧ s.paramJudge r id.toNat v persist ≠ 0) ∧
    (∃ (r : Req) (id : BitVec 12) (v : Word) (persist : Bool) (p : Param) (im : Image) (s : State), s.may r 0x400D0034 true (some 0xE0) = true ∧ s.paramJudge r id.toNat v persist = 0 ∧ s.param id.toNat = some p ∧ s.acrd.image = some im) ∧
    (∃ (m : BusMsg) (s : State), s.takesWrite m 0xE0 7 7 = true) ∧
    (∃ (r : Req) (id : BitVec 12) (p : Param) (s : State), s.may r 0x400D0034 true none = true ∧ s.sys.stage = .released ∧ s.acrd.defaults = false ∧ s.param id.toNat = some p) ∧
    (∃ (tile : Fin 4096) (s : State), s.fabricOn = true ∧ (s.tile tile).frozen = false ∧ s.acrd.reloading ≠ some tile.val ∧ s.acrd.switching = false ∧ s.sys.pllE = .locked) ∧
    (∃ (r : Req) (w : Word) (s : State), s.may r R.ACRD_TILE_RELOAD.reg true none = true ∧ w.field 24 8 = 0x5A ∧ (s.tile (w.field 0 12)).frozen = true ∧ s.bit R.ACRD_STATUS.RELOAD_BUSY = false) ∧
    (∃ (n : Nat) (s : State), s.acrd.reloading = some n ∧ s.runs T.tileReload = true) ∧
    (∃ (tile : Fin 4096) (timer : Fin 2) (s : State), s.tileRuns tile = true ∧ s.timerUsed tile timer = true) ∧
    (∃ (s : State), s.fabricOn = true) ∧
    (∃ (s : State), s.fabricOn = false) :=
  ⟨⟨W.startAt .t6, by decide⟩,
   ⟨(W.startAt .t7).arm T.load 4970000, by decide⟩,
   ⟨(W.startAt .judged).arm T.config 0, by decide⟩,
   ⟨.engine 0, true, true, W.defaults, by decide⟩,
   ⟨true, (W.defaults.updAcrd (fun a => { a with verifying := some true })).arm T.verify 5000000, by decide⟩,
   ⟨.engine 0, true, true, (W.up.updAcrd (fun a => { a with stagedBank := some true })).setB R.ACRD_STATUS.STAGED_OK true, by decide⟩,
   ⟨.engine 0, W.up, by decide⟩,
   ⟨.hostBus, W.up, by decide⟩,
   ⟨.engine 0, 5#12, 7#32, false, W.up, by decide⟩,
   ⟨.engine 0, 5#12, 7#32, false, W.param, { W.image with params := [W.param] }, W.withParam, by decide⟩,
   ⟨⟨false, [5#8, 0#8, 7#8, 0#8, 0#8, 0#8, 0#8], 0, .good, true, []⟩, W.host, by decide⟩,
   ⟨.engine 0, 5#12, W.param, W.withParam, by decide⟩,
   ⟨3, W.fabric, by decide⟩,
   ⟨.engine 0, 0x5A000003#32, W.fabric.updTile 3 (fun x => { x with frozen := true }), by decide⟩,
   ⟨3, (W.fabric.updAcrd (fun a => { a with reloading := some 3 })).arm T.tileReload 12000, by decide⟩,
   ⟨3, 1, W.timerTile, by decide⟩,
   ⟨W.fabric, by decide⟩,
   ⟨State.reset, by decide⟩⟩

/-- The hypotheses of FabricLinesComplete can be met. -/
theorem test_FabricLinesComplete_met :
    (∃ (n : Fin 64) (k : Nat) (s : State), s.driver n.val = some k ∧ s.tileRuns k = true) ∧
    (∃ (n : Fin 64) (s : State), s.driver n.val = none) ∧
    (∃ (n : Fin 16) (k : Nat) (s : State), s.driver (64 + n.val) = some k ∧ s.tileRuns k = true) ∧
    (∃ (n : Fin 16) (s : State), s.driver (64 + n.val) = none) ∧
    (∃ (n : Fin 16) (k : Nat) (s : State), s.driver (80 + n.val) = some k ∧ s.tileRuns k = true) ∧
    (∃ (n : Fin 16) (s : State), s.driver (80 + n.val) = none) ∧
    (∃ (n : Fin 64) (k : Nat) (s : State), s.driver (96 + n.val) = some k ∧ s.tileRuns k = true) ∧
    (∃ (n : Fin 64) (s : State), s.driver (96 + n.val) = none) ∧
    (∃ (n : Fin 24) (k : Nat) (s : State), s.driver (160 + n.val) = some k ∧ s.tileRuns k = true) ∧
    (∃ (n : Fin 24) (s : State), s.driver (160 + n.val) = none) ∧
    (∃ (n : Fin 8) (k : Nat) (s : State), s.driver (184 + n.val) = some k ∧ s.tileRuns k = true) ∧
    (∃ (n : Fin 8) (s : State), s.driver (184 + n.val) = none) ∧
    (∃ (n : Fin 24) (k : Nat) (s : State), s.driver (192 + n.val) = some k ∧ s.tileRuns k = true) ∧
    (∃ (n : Fin 24) (s : State), s.driver (192 + n.val) = none) ∧
    (∃ (n : Fin 32) (k : Nat) (s : State), s.driver (216 + n.val) = some k ∧ s.tileRuns k = true) ∧
    (∃ (n : Fin 32) (s : State), s.driver (216 + n.val) = none) ∧
    (∃ (k : Nat) (s : State), s.driver 248 = some k ∧ s.tileRuns k = true) ∧
    (∃ (s : State), s.driver 248 = none) ∧
    (∃ (n : Fin 16) (k : Nat) (s : State), s.driver (64 + n.val) = some k ∧ s.tileRuns k = true ∧ s.linesHeld = false ∧ s.acrd.act.getLsbD (64 + n.val) = false ∧ s.seqHeld = false ∧ s.sysHolds = false ∧ (s.fld (R.SEQ_GRP_STATUS.STATE n) ≠ 1 ∨ (s.group n).byHandover = true)) ∧
    (∃ (n : Fin 16) (k : Nat) (s : State), s.driver (80 + n.val) = some k ∧ s.tileRuns k = true ∧ s.linesHeld = false ∧ s.acrd.act.getLsbD (80 + n.val) = false ∧ s.meas.running = true ∧ 4 ≤ (s.conv ((s.reg (R.MEAS_URG_MAP.reg (n.val / 4))).field (8 * (n.val % 4)) 8 / 32)).uq.length) ∧
    (∃ (n : Fin 16) (k : Nat) (v : Visit) (s : State), s.driver (80 + n.val) = some k ∧ s.tileRuns k = true ∧ s.linesHeld = false ∧ s.acrd.act.getLsbD (80 + n.val) = false ∧ s.meas.running = true ∧ (s.conv ((s.reg (R.MEAS_URG_MAP.reg (n.val / 4))).field (8 * (n.val % 4)) 8 / 32)).uq.length < 4 ∧ (s.conv ((s.reg (R.MEAS_URG_MAP.reg (n.val / 4))).field (8 * (n.val % 4)) 8 / 32)).visit = some v ∧ v.urgent.isSome = true) ∧
    (∃ (n : Fin 16) (k : Nat) (s : State), s.driver (80 + n.val) = some k ∧ s.tileRuns k = true ∧ s.linesHeld = false ∧ s.acrd.act.getLsbD (80 + n.val) = false ∧ s.meas.running = false) ∧
    (∃ (n : Fin 8) (k : Nat) (s : State), s.driver (184 + n.val) = some k ∧ s.tileRuns k = true ∧ s.linesHeld = false ∧ s.acrd.act.getLsbD (184 + n.val) = false ∧ s.supRuns = true ∧ s.bit (R.SUP_RSTO_CFG.EN n) = true ∧ (s.fld (R.SUP_RSTO_CFG.SRC n)).testBit 1 = true) ∧
    (∃ (k : Nat) (s : State), s.driver 248 = some k ∧ s.tileRuns k = true ∧ s.linesHeld = false ∧ s.acrd.act.getLsbD 248 = false ∧ s.seq.snapEntries.length < 4) ∧
    (∃ (k : Nat) (s : State), s.driver 248 = some k ∧ s.tileRuns k = true ∧ s.linesHeld = false ∧ s.acrd.act.getLsbD 248 = false ∧ 4 ≤ s.seq.snapEntries.length ∧ s.seq.snapPending.any (fun p => p.rail = 0xFF) = false) ∧
    (∃ (n : Fin 24) (k : Nat) (s : State), s.driver (192 + n.val) = some k ∧ s.tileRuns k = true ∧ s.linesHeld = false ∧ s.acrd.act.getLsbD (192 + n.val) = false ∧ s.sys.phase ≠ .safe ∧ s.sys.stage = .released ∧ s.refusal n .fabric (s.fld (R.LOOP_FSET.TARGET n)) = none ∧ s.lstate n = L.off ∧ s.fld (R.LOOP_LOCK.OWNER n) ≠ srcCode .fabric ∧ (s.loop n).lastRank ≤ srcRank .fabric) ∧
    (∃ (im : Image) (s : State), s.bit R.ACRD_STATUS.SWITCH_PEND = true ∧ s.link.swGo = true ∧ s.acrd.switching = false ∧ s.acrd.staged = some im) ∧
    (∃ (im : Image) (s : State), s.acrd.switching = true ∧ s.runs T.switchRel = true ∧ s.acrd.image = some im) :=
  ⟨⟨3, 9, W.lines, by decide⟩,
   ⟨3, W.fabric, by decide⟩,
   ⟨3, 9, W.lines, by decide⟩,
   ⟨3, W.fabric, by decide⟩,
   ⟨3, 9, W.lines, by decide⟩,
   ⟨3, W.fabric, by decide⟩,
   ⟨3, 9, W.lines, by decide⟩,
   ⟨3, W.fabric, by decide⟩,
   ⟨3, 9, W.lines, by decide⟩,
   ⟨3, W.fabric, by decide⟩,
   ⟨3, 9, W.lines, by decide⟩,
   ⟨3, W.fabric, by decide⟩,
   ⟨3, 9, W.lines, by decide⟩,
   ⟨3, W.fabric, by decide⟩,
   ⟨3, 9, W.lines, by decide⟩,
   ⟨3, W.fabric, by decide⟩,
   ⟨9, W.lines, by decide⟩,
   ⟨W.fabric, by decide⟩,
   ⟨3, 9, W.lines, by decide⟩,
   ⟨3, 9, { W.lines with meas := { W.lines.meas with running := true, convs := [(0, { ConvState.zero with uq := [(1, none), (2, none), (3, none), (4, none)] })] } }, by decide⟩,
   ⟨3, 9, { W.visit with urgent := some none }, { W.lines with meas := { W.lines.meas with running := true, convs := [(0, { ConvState.zero with visit := some { W.visit with urgent := some none } })] } }, by decide⟩,
   ⟨3, 9, W.lines, by decide⟩,
   ⟨3, 9, (W.lines.setB (R.SUP_RSTO_CFG.EN 3) true).setF (R.SUP_RSTO_CFG.SRC 3) 2, by decide⟩,
   ⟨9, W.lines, by decide⟩,
   ⟨9, { W.lines with seq := { W.lines.seq with snapEntries := [W.snap, W.snap, W.snap, W.snap] } }, by decide⟩,
   ⟨3, 9, (((W.lines.setF (R.LOOP_VLIM.VMAX 3) 22528).setF (R.LOOP_FSET.TARGET 3) 2048)), by decide⟩,
   ⟨W.image, { (W.fabric.setB R.ACRD_STATUS.SWITCH_PEND true).updAcrd (fun a => { a with staged := some W.image }) with link := { State.reset.link with swGo := true } }, by decide⟩,
   ⟨W.image, (W.fabric.updAcrd (fun a => { a with switching := true })).arm T.switchRel 3000000, by decide⟩⟩

/-- The hypotheses of MeasurementCommandsComplete can be met. -/
theorem test_MeasurementCommandsComplete_met :
    (∃ (k : Fin 8) (v : Visit) (s : State), (s.conv k).visit = some v ∧ v.ch < 32 ∧ v.inv = 0 ∧ v.ow = none ∧ s.sys.pllM = .locked) ∧
    (∃ (k : Fin 8) (v : Visit) (s : State), (s.conv k).visit = some v ∧ (0 < v.inv ∨ s.sys.pllM ≠ .locked) ∧ v.n = 0) ∧
    (∃ (s : State), s.meas.running = true) ∧
    (∃ (r : Req) (s : State), s.may r R.MEAS_SNAP_CMD.reg true (some 0xD4) = true) ∧
    (∃ (m : BusMsg) (s : State), s.takesWrite m 0xD4 1 1 = true ∧ bytesLE m.data % 4 = 1) ∧
    (∃ (s : State), s.busOn = false) ∧
    (∃ (m : BusMsg) (s : State), s.takesWrite m 0xD4 1 1 = true ∧ bytesLE m.data % 4 = 2) ∧
    (∃ (m : BusMsg) (s : State), s.takesWrite m 0xD4 1 1 = true ∧ bytesLE m.data % 4 = 3) ∧
    (∃ (buf : Fin 4) (at_ : BitVec 64) (ch : Cells SnapChan) (s : State), (s.snapBuf buf).taken = some (at_, ch)) ∧
    (∃ (rd : BitVec 12) (s : State), s.bit R.MEAS_Q_CFG.OWNER = true ∧ rd.toNat < s.queueDepth ∧ s.fld R.MEAS_Q_PTR.RD < s.queueDepth ∧ (rd.toNat + s.queueDepth - s.fld R.MEAS_Q_PTR.RD) % s.queueDepth ≤ s.fld R.MEAS_Q_STAT.COUNT) ∧
    (∃ (s : State), s.bit R.MEAS_Q_CFG.OWNER = false) :=
  ⟨⟨0, W.visit, W.conv W.visit, by decide⟩,
   ⟨0, { W.visit with inv := 2 }, W.conv { W.visit with inv := 2 }, by decide⟩,
   ⟨W.conv W.visit, by decide⟩,
   ⟨.engine 0, W.up, by decide⟩,
   ⟨⟨false, [5#8], 0, .good, true, []⟩, W.host, by decide⟩,
   ⟨State.reset, by decide⟩,
   ⟨⟨false, [6#8], 0, .good, true, []⟩, W.host, by decide⟩,
   ⟨⟨false, [7#8], 0, .good, true, []⟩, W.host, by decide⟩,
   ⟨1, 5#64, [], { W.up with meas := { W.up.meas with bufs := [(1, ⟨0, [], some (5#64, [])⟩)] } }, by decide⟩,
   ⟨0#12, W.up.setB R.MEAS_Q_CFG.OWNER true, by decide⟩,
   ⟨State.reset, by decide⟩⟩

/-- The hypotheses of PowerPathCompletes can be met. -/
theorem test_PowerPathCompletes_met :
    (∃ (s : State), (s.pst = P.softVin ∨ s.pst = P.softBat)) ∧
    (∃ (s : State), (s.pst ≠ P.softVin ∧ s.pst ≠ P.softBat)) ∧
    (∃ (s : State), (s.runs T.vinStable = true ∨ s.runs T.pathWait = true)) ∧
    (∃ (s : State), (s.runs T.vinStable = false ∧ s.runs T.pathWait = false)) ∧
    (∃ (s : State), s.pathOn = true) ∧
    (∃ (s : State), s.pathOn = false) ∧
    (∃ (s : State), s.pst = P.handover) ∧
    (∃ (s : State), s.pst ≠ P.handover) ∧
    (∃ (s : State), (s.pst = P.onBat ∨ s.pst = P.ret)) ∧
    (∃ (s : State), (s.pst ≠ P.onBat ∧ s.pst ≠ P.ret)) ∧
    (∃ (mv held : Nat) (s : State), s.pathOn = true ∧ s.path.warnHold = false ∧ mv < s.warnLevel ∧ packFilter ≤ held) ∧
    (∃ (mv held : Nat) (s : State), (s.pathOn = false ∨ s.warnLevel ≤ mv ∨ held < packFilter)) ∧
    (∃ (mv held : Nat) (s : State), s.pathOn = true ∧ s.warnLevel < mv ∧ packFilter ≤ held) ∧
    (∃ (mv held : Nat) (s : State), (s.pathOn = false ∨ mv ≤ s.warnLevel ∨ held < packFilter)) ∧
    (∃ (mv held : Nat) (s : State), s.pathOn = true ∧ s.path.cutHold = false ∧ mv < s.cutLevel ∧ packFilter ≤ held) ∧
    (∃ (mv : Nat) (s : State), (s.pathOn = false ∨ s.cutLevel < mv)) ∧
    (∃ (mv held : Nat) (s : State), s.pathOn = true ∧ mv ≤ s.cutLevel ∧ (held < packFilter ∨ mv = s.cutLevel ∨ s.path.cutHold = true)) ∧
    (∃ (mv : Nat) (s : State), s.pathOn = true ∧ s.cutLevel < mv) ∧
    (∃ (mv : Nat) (s : State), (s.pathOn = false ∨ mv ≤ s.cutLevel)) ∧
    (∃ (s : State), (s.pst = P.ret ∨ s.pst = P.peerOut ∧ s.path.peerReturn = true)) ∧
    (∃ (s : State), (s.pst ≠ P.ret ∧ (s.pst ≠ P.peerOut ∨ s.path.peerReturn = false))) ∧
    (∃ (s : State), s.runs T.retMax = true ∧ s.pst = P.ret) ∧
    (∃ (s : State), s.runs T.retMax = false) ∧
    (∃ (s : State), s.baseOn = true) ∧
    (∃ (s : State), s.baseOn = false) :=
  ⟨⟨W.up.setF R.PATH_STATUS.STATE 1, by decide⟩,
   ⟨State.reset, by decide⟩,
   ⟨W.up.arm T.vinStable 1000000, by decide⟩,
   ⟨State.reset, by decide⟩,
   ⟨W.up.setF R.PATH_STATUS.STATE 2, by decide⟩,
   ⟨State.reset, by decide⟩,
   ⟨W.up.setF R.PATH_STATUS.STATE 3, by decide⟩,
   ⟨State.reset, by decide⟩,
   ⟨W.up.setF R.PATH_STATUS.STATE 4, by decide⟩,
   ⟨State.reset, by decide⟩,
   ⟨0, 1000000, W.up.setF R.PATH_STATUS.STATE 2, by decide⟩,
   ⟨0, 3, W.up.setF R.PATH_STATUS.STATE 2, by decide⟩,
   ⟨60000, 1000000, W.up.setF R.PATH_STATUS.STATE 2, by decide⟩,
   ⟨60000, 3, W.up.setF R.PATH_STATUS.STATE 2, by decide⟩,
   ⟨0, 1000000, W.up.setF R.PATH_STATUS.STATE 4, by decide⟩,
   ⟨0, State.reset, by decide⟩,
   ⟨0, 0, W.up.setF R.PATH_STATUS.STATE 4, by decide⟩,
   ⟨60000, W.up.setF R.PATH_STATUS.STATE 4, by decide⟩,
   ⟨3, W.up.setF R.PATH_STATUS.STATE 4, by decide⟩,
   ⟨W.up.setF R.PATH_STATUS.STATE 5, by decide⟩,
   ⟨State.reset, by decide⟩,
   ⟨(W.up.setF R.PATH_STATUS.STATE 5).arm T.retMax 1000, by decide⟩,
   ⟨State.reset, by decide⟩,
   ⟨W.up, by decide⟩,
   ⟨State.reset, by decide⟩⟩

/-- The hypotheses of ChargerCompletes can be met. -/
theorem test_ChargerCompletes_met :
    (∃ (s : State), s.runs T.chgSource = true ∧ s.cst = C.suspend ∧ s.chgSource = true ∧ s.chgZoneOk = true ∧ s.bit R.PATH_SVC.LPACT = false) ∧
    (∃ (s : State), s.runs T.chgSource = false) ∧
    (∃ (v : Nat) (s : State), s.cst = C.precharge ∧ s.preLevel ≤ v) ∧
    (∃ (v : Nat) (s : State), (s.cst ≠ C.precharge ∨ v < s.preLevel)) ∧
    (∃ (s : State), s.runs T.chPre = true) ∧
    (∃ (s : State), s.runs T.chPre = false) ∧
    (∃ (v : Nat) (s : State), s.cst = C.cc ∧ s.cvLevel ≤ v ∧ s.lastStep (s.fld R.PATH_CHG_STATUS.STEP) = true) ∧
    (∃ (v j : Nat) (s : State), s.cst = C.cc ∧ v < s.cvLevel ∧ 3500 + 5 * s.fld (R.PATH_CHG_STEP.VEND (s.fld R.PATH_CHG_STATUS.STEP)) ≤ v ∧ s.chgStepFrom (s.fld R.PATH_CHG_STATUS.STEP + 1) 0 = some j) ∧
    (∃ (s : State), s.cst = C.cv) ∧
    (∃ (s : State), s.cst ≠ C.cv) ∧
    (∃ (v : Nat) (s : State), s.cst = C.done ∧ v + 5 * min 100 (max 4 (s.fld R.PATH_CHG_TERM.VRCH)) < s.cvLevel) ∧
    (∃ (s : State), s.cst ≠ C.done) ∧
    (∃ (s : State), s.runs T.chFast = true) ∧
    (∃ (s : State), s.runs T.chFast = false) ∧
    (∃ (s : State), s.pathOn = true) ∧
    (∃ (s : State), s.pathOn = false) ∧
    (∃ (cause : Fin 8) (s : State), s.pathOn = true ∧ (cause.val = 3 ∧ s.charging = true ∨ cause.val = 4 ∨ cause.val = 5) ∧ s.cst ≠ C.off ∧ s.cst ≠ C.fault) ∧
    (∃ (cause : Fin 8) (s : State), (s.pathOn = false ∨ cause.val ≠ 3 ∧ cause.val ≠ 4 ∧ cause.val ≠ 5 ∨ cause.val = 3 ∧ s.charging = false)) ∧
    (∃ (cause : Fin 8) (s : State), s.pathOn = true ∧ (cause.val = 4 ∨ cause.val = 5) ∧ (s.cst = C.off ∨ s.cst = C.fault)) ∧
    (∃ (r : Req) (s : State), s.may r R.PATH_CHG_CTRL.reg true none = true ∧ s.cst = C.fault) ∧
    (∃ (r : Req) (s : State), s.may r R.PATH_CHG_CTRL.reg true none = true ∧ s.cst ≠ C.off ∧ s.cst ≠ C.suspend ∧ s.cst ≠ C.fault) ∧
    (∃ (r : Req) (s : State), s.may r R.PATH_CHG_SOFT.reg true none = true) ∧
    (∃ (r : Req) (s : State), s.may r R.PATH_CHG_SOFT.reg true none = false) :=
  ⟨⟨W.charge.arm T.chgSource 1000, by decide⟩,
   ⟨State.reset, by decide⟩,
   ⟨3000, W.up.setF R.PATH_CHG_STATUS.STATE 2, by decide⟩,
   ⟨3, W.up.setF R.PATH_CHG_STATUS.STATE 2, by decide⟩,
   ⟨(W.up.setF R.PATH_CHG_STATUS.STATE 2).arm T.chPre 1000, by decide⟩,
   ⟨State.reset, by decide⟩,
   ⟨4200, W.up.setF R.PATH_CHG_STATUS.STATE 3, by decide⟩,
   ⟨3500, 1, W.steps, by decide⟩,
   ⟨W.up.setF R.PATH_CHG_STATUS.STATE 4, by decide⟩,
   ⟨State.reset, by decide⟩,
   ⟨3000, W.up.setF R.PATH_CHG_STATUS.STATE 5, by decide⟩,
   ⟨State.reset, by decide⟩,
   ⟨(W.up.setF R.PATH_CHG_STATUS.STATE 3).arm T.chFast 1000, by decide⟩,
   ⟨State.reset, by decide⟩,
   ⟨W.up.setF R.PATH_STATUS.STATE 2, by decide⟩,
   ⟨State.reset, by decide⟩,
   ⟨3, (W.up.setF R.PATH_STATUS.STATE 2).setF R.PATH_CHG_STATUS.STATE 3, by decide⟩,
   ⟨3, State.reset, by decide⟩,
   ⟨4, (W.up.setF R.PATH_STATUS.STATE 2).setF R.PATH_CHG_STATUS.STATE 0, by decide⟩,
   ⟨.engine 0, W.up.setF R.PATH_CHG_STATUS.STATE 7, by decide⟩,
   ⟨.engine 0, W.up.setF R.PATH_CHG_STATUS.STATE 3, by decide⟩,
   ⟨.engine 0, W.up, by decide⟩,
   ⟨.hostBus, W.up, by decide⟩⟩

/-- The hypotheses of PackAndPeerComplete can be met. -/
theorem test_PackAndPeerComplete_met :
    (∃ (s : State), s.pathOn = true) ∧
    (∃ (s : State), s.pathOn = false) ∧
    (∃ (why : AbsentWhy) (s : State), s.pathOn = true ∧ (why ≠ .currentCollapse ∨ s.cst = C.cc ∧ s.path.cvAt + 10000000 ≤ s.ns)) ∧
    (∃ (s : State), s.bit R.PATH_STATUS.ABSENT = true ∧ s.chgSource = true ∧ s.cst ≠ C.off) ∧
    (∃ (r : Req) (s : State), s.may r R.PATH_PEER.reg true none = true ∧ s.bit R.PATH_CFG.PEEREN = true ∧ s.pathOn = true) ∧
    (∃ (r : Req) (b : Bool) (s : State), s.may r R.PATH_PEER.reg true none = true ∧ s.bit R.PATH_CFG.PEEREN = true ∧ (s.pst = P.onBat ∨ s.pst = P.nosrc) ∧ s.bit R.PATH_STATUS.VIN_STABLE = false ∧ s.bit R.PATH_STATUS.PRESENT = true ∧ s.bit R.PATH_STATUS.ABSENT = false ∧ b = true ∧ s.zoneBit R.PATH_ZONE.DSG = true) ∧
    (∃ (s : State), s.path.peerWait = true ∧ (s.pst = P.onBat ∨ s.pst = P.nosrc)) ∧
    (∃ (s : State), s.path.peerWait = false) ∧
    (∃ (s : State), s.pst = P.peerOut) ∧
    (∃ (s : State), s.pst ≠ P.peerOut) ∧
    (∃ (s : State), s.runs T.press = true) ∧
    (∃ (s : State), s.runs T.press = false) :=
  ⟨⟨W.up.setF R.PATH_STATUS.STATE 2, by decide⟩,
   ⟨State.reset, by decide⟩,
   ⟨.tsOpen, W.up.setF R.PATH_STATUS.STATE 2, by decide⟩,
   ⟨(W.charge).setB R.PATH_STATUS.ABSENT true, by decide⟩,
   ⟨.engine 0, (W.up.setF R.PATH_STATUS.STATE 2).setB R.PATH_CFG.PEEREN true, by decide⟩,
   ⟨.engine 0, true, W.peer, by decide⟩,
   ⟨(W.up.setF R.PATH_STATUS.STATE 4).updPath (fun p => { p with peerWait := true }), by decide⟩,
   ⟨State.reset, by decide⟩,
   ⟨W.up.setF R.PATH_STATUS.STATE 8, by decide⟩,
   ⟨State.reset, by decide⟩,
   ⟨W.up.arm T.press 1000, by decide⟩,
   ⟨State.reset, by decide⟩⟩

/-- The hypotheses of LoopRegulationCompletes can be met. -/
theorem test_LoopRegulationCompletes_met :
    (∃ (r : Req) (n : Fin 24) (w : Word) (src : Src) (s : State), s.may r (R.LOOP_VSET.reg n) true (some 0x21) = true ∧ srcOf r = some src ∧ s.refusal n src (w.field 0 16) = none ∧ (s.lstate n = L.off ∨ s.lbase n = L.stop) ∧ (s.loop n).lastRank ≤ srcRank src) ∧
    (∃ (r : Req) (n : Fin 24) (s : State), s.may r (R.LOOP_VSET.reg n) true (some 0x21) = false) ∧
    (∃ (r : Req) (n : Fin 24) (s : State), s.may r (R.LOOP_VSET.reg n) true (some 0x21) = true ∧ r = .link) ∧
    (∃ (r : Req) (n : Fin 24) (w : Word) (src : Src) (s : State), s.may r (R.LOOP_VSET.reg n) true (some 0x21) = true ∧ srcOf r = some src ∧ s.refusal n src (w.field 0 16) = none ∧ (s.lstate n = L.off ∨ s.lbase n = L.stop) ∧ srcRank src < (s.loop n).lastRank) ∧
    (∃ (r : Req) (n : Fin 24) (w : Word) (src : Src) (s : State), s.may r (R.LOOP_VSET.reg n) true (some 0x21) = true ∧ srcOf r = some src ∧ s.refusal n src (w.field 0 16) = none ∧ s.lstate n ≠ L.off ∧ s.lbase n ≠ L.stop) ∧
    (∃ (r : Req) (n : Fin 24) (w : Word) (src : Src) (why : Nat) (s : State), s.may r (R.LOOP_VSET.reg n) true (some 0x21) = true ∧ srcOf r = some src ∧ s.refusal n src (w.field 0 16) = some why) ∧
    (∃ (n : Fin 24) (s : State), s.lstate n ≠ L.fault ∧ s.lstate n ≠ L.off ∧ (s.loop n).clkHeld = false ∧ s.lbase n ≠ L.start ∧ s.lbase n ≠ L.stop ∧ (s.loop n).moving = true ∧ (s.loop n).queued = [] ∧ s.fld (R.SV_STATUS.STATE n) = 0 ∧ (s.loop n).forecast = none) ∧
    (∃ (n : Fin 24) (s : State), (s.lstate n = L.fault ∨ s.lstate n = L.off ∨ (s.loop n).clkHeld = true)) ∧
    (∃ (n : Fin 24) (s : State), s.lstate n ≠ L.off ∧ s.lstate n ≠ L.fault ∧ (s.loop n).clkHeld = false ∧ (s.loop n).pend = []) ∧
    (∃ (n : Fin 24) (s : State), (s.lstate n = L.off ∨ s.lstate n = L.fault ∨ (s.loop n).clkHeld = true) ∧ (s.loop n).pend = []) ∧
    (∃ (s : State), (s.railsOn.all fun r => decide (s.qst r ≠ Q.ramp)) = true) ∧
    (∃ (n : Fin 24) (s : State), s.runs (T.pgMask n) = true) ∧
    (∃ (n : Fin 24) (s : State), s.runs (T.pgMask n) = false) ∧
    (∃ (n : Fin 24) (ceiling : Bool) (uv held : Nat) (s : State), s.lstate n ≠ L.off ∧ s.lstate n ≠ L.fault ∧ (if ceiling then s.fld (R.LOOP_OVABS.VABS n) * 1000000 < uv * 4096 else s.ovThreshold n < uv) ∧ s.fld (R.LOOP_PROT.OVF n) * 25 ≤ held) ∧
    (∃ (n : Fin 24) (s : State), s.lstate n = L.off) ∧
    (∃ (n : Fin 24) (uv : Nat) (s : State), (s.loop n).ovLow = true ∧ uv * 4096 < s.target n * 1000000) ∧
    (∃ (n : Fin 24) (uv : Nat) (s : State), s.target n * 1000000 ≤ uv * 4096) ∧
    (∃ (n : Fin 24) (uv held : Nat) (s : State), (s.loop n).uvArmed = true ∧ (s.regulating n = true ∨ s.lstate n = L.nl) ∧ (uv : Int) < s.uvThreshold n ∧ min 1000 (max 1 (s.fld (R.LOOP_TIME.TUV n))) * 1000 ≤ held) ∧
    (∃ (n : Fin 24) (s : State), (s.loop n).uvArmed = false) ∧
    (∃ (n : Fin 24) (s : State), s.runs (T.ilf n) = true ∧ s.bit (R.LOOP_STATUS.ILIM n) = true ∧ s.lstate n ≠ L.fault) ∧
    (∃ (n : Fin 24) (s : State), s.runs (T.ilf n) = false) :=
  ⟨⟨.engine 0, 0, 0x00000800#32, .engine 0, W.loop 0, by decide⟩,
   ⟨.hostBus, 0, W.loop 0, by decide⟩,
   ⟨.link, 0, W.loop 0, by decide⟩,
   ⟨.hostBus, 0, 0x00000800#32, .hostBus, W.hostLoop0.updLoop 0 (fun x => { x with lastRank := srcRank .fabric }), by decide⟩,
   ⟨.engine 0, 0, 0x00000800#32, .engine 0, W.loop 2, by decide⟩,
   ⟨.engine 0, 0, 0x00000001#32, .engine 0, 2, W.loop 2, by decide⟩,
   ⟨0, (W.loop 3).updLoop 0 (fun x => { x with moving := true, rate := 10 }), by decide⟩,
   ⟨0, W.loop 6, by decide⟩,
   ⟨0, W.loop 2, by decide⟩,
   ⟨0, W.loop 6, by decide⟩,
   ⟨W.loop 2, by decide⟩,
   ⟨0, (W.loop 4).arm (T.pgMask 0) 10, by decide⟩,
   ⟨0, State.reset, by decide⟩,
   ⟨0, true, 20000000, 7000, W.loop 2, by decide⟩,
   ⟨0, State.reset, by decide⟩,
   ⟨0, 0, (W.loop 6).setTarget 0 4096 |>.updLoop 0 (fun x => { x with ovLow := true }), by decide⟩,
   ⟨0, 0, State.reset, by decide⟩,
   ⟨0, 0, 1000000, ((W.loop 2).setTarget 0 4096).updLoop 0 (fun x => { x with uvArmed := true }), by decide⟩,
   ⟨0, State.reset, by decide⟩,
   ⟨0, ((W.loop 2).setB (R.LOOP_STATUS.ILIM 0) true).arm (T.ilf 0) 10, by decide⟩,
   ⟨0, State.reset, by decide⟩⟩

/-- The hypotheses of LoopShedLockAndSyncComplete can be met. -/
theorem test_LoopShedLockAndSyncComplete_met :
    (∃ (n : Fin 24) (errs : List Int) (s : State), s.bit (R.LOOP_NL.EN n) = true ∧ (s.regulating n = true ∨ s.lstate n = L.start ∨ s.lstate n = L.stop) ∧ s.runs (T.nlHold n) = false ∧ (s.loop n).clkHeld = false ∧ s.nlCrossed n true errs = true) ∧
    (∃ (n : Fin 24) (s : State), s.bit (R.LOOP_NL.EN n) = false) ∧
    (∃ (n : Fin 24) (errs : List Int) (s : State), s.bit (R.LOOP_NL.EN n) = true ∧ (s.regulating n = true ∨ s.lstate n = L.start ∨ s.lstate n = L.stop) ∧ s.runs (T.nlHold n) = false ∧ (s.loop n).clkHeld = false ∧ s.nlCrossed n true errs = false ∧ s.nlCrossed n false errs = true) ∧
    (∃ (n : Fin 24) (err : Int) (base : Nat) (s : State), (s.loop n).nlFrom = some base ∧ base < 8 ∧ 2 * (if (s.loop n).nlUnder then (errorWord err).1 else -(errorWord err).1) ≤ s.nlThreshold n (s.loop n).nlUnder) ∧
    (∃ (n : Fin 24) (s : State), ((s.loop n).nlFrom = none ∧ s.runs (T.nlMax n) = false)) ∧
    (∃ (n : Fin 24) (p : Nat) (s : State), s.bit (R.LOOP_SHED.EN n) = true ∧ s.lstate n = L.reg ∧ max 1 (s.fld (R.LOOP_SHED.NMIN n)) < (s.active n).length ∧ s.runs (T.shed n) = true ∧ (s.active n).getLast? = some p) ∧
    (∃ (n : Fin 24) (s : State), s.runs (T.shed n) = false) ∧
    (∃ (n : Fin 24) (s : State), (s.loop n).respace = true ∧ s.lstate n ≠ L.nl ∧ s.lstate n ≠ L.off ∧ s.lstate n ≠ L.fault) ∧
    (∃ (n : Fin 24) (s : State), (s.loop n).respace = false) ∧
    (∃ (src : Src) (n : Fin 24) (s : State), s.fld (R.LOOP_LOCK.OWNER n) = 0 ∧ (s.fld (R.LOOP_LOCK.PERM n)).testBit (srcPermBit src) = true) ∧
    (∃ (src : Src) (n : Fin 24) (s : State), (s.fld (R.LOOP_LOCK.OWNER n) ≠ 0 ∨ (s.fld (R.LOOP_LOCK.PERM n)).testBit (srcPermBit src) = false)) ∧
    (∃ (src : Src) (n : Fin 24) (s : State), s.fld (R.LOOP_LOCK.OWNER n) = srcCode src) ∧
    (∃ (src : Src) (n : Fin 24) (s : State), s.fld (R.LOOP_LOCK.OWNER n) ≠ srcCode src) ∧
    (∃ (n : Fin 24) (s : State), s.runs (T.lock n) = true) ∧
    (∃ (n : Fin 24) (s : State), s.runs (T.lock n) = false) ∧
    (∃ (s : State), s.bit R.LOOP_REF_CFG.SRC = true) ∧
    (∃ (s : State), s.bit R.LOOP_REF_CFG.SRC = false) ∧
    (∃ (period : Nat) (s : State), s.bit R.LOOP_REF_CFG.SRC = true ∧ 9 * s.cfgPeriod ≤ 10 * period ∧ 10 * period ≤ 11 * s.cfgPeriod) :=
  ⟨⟨0, List.replicate 8 200000, (W.loop 2).setB (R.LOOP_NL.EN 0) true, by decide⟩,
   ⟨0, State.reset, by decide⟩,
   ⟨0, List.replicate 8 (-200000), (W.loop 2).setB (R.LOOP_NL.EN 0) true, by decide⟩,
   ⟨0, 0, 2, (W.loop 7).updLoop 0 (fun x => { x with nlFrom := some 2 }), by decide⟩,
   ⟨0, State.reset, by decide⟩,
   ⟨0, 1, ((W.loop 2).setB (R.LOOP_SHED.EN 0) true).arm (T.shed 0) 10, by decide⟩,
   ⟨0, State.reset, by decide⟩,
   ⟨0, (W.loop 2).updLoop 0 (fun x => { x with respace := true }), by decide⟩,
   ⟨0, State.reset, by decide⟩,
   ⟨.engine 1, 0, (W.loop 2).setF (R.LOOP_LOCK.PERM 0) 31, by decide⟩,
   ⟨.engine 1, 0, (W.loop 2).setF (R.LOOP_LOCK.OWNER 0) 1, by decide⟩,
   ⟨.hostBus, 0, (W.loop 2).setF (R.LOOP_LOCK.OWNER 0) 1, by decide⟩,
   ⟨.hostBus, 0, State.reset, by decide⟩,
   ⟨0, (W.loop 2).arm (T.lock 0) 5, by decide⟩,
   ⟨0, State.reset, by decide⟩,
   ⟨W.up.setB R.LOOP_REF_CFG.SRC true, by decide⟩,
   ⟨State.reset, by decide⟩,
   ⟨19200, W.up.setB R.LOOP_REF_CFG.SRC true, by decide⟩⟩

/-- The hypotheses of PhaseLimitsAndLossComplete can be met. -/
theorem test_PhaseLimitsAndLossComplete_met :
    (∃ (p : Fin 48) (cur : Int) (s : State), s.phaseActive p = true ∧ (s.phase p).taken = false ∧ s.posLimit p ≤ cur) ∧
    (∃ (p : Fin 48) (s : State), s.fld (R.PH_STATUS.STATE p) ≠ 2) ∧
    (∃ (p : Fin 48) (cur : Int) (s : State), s.phaseActive p = true ∧ s.nlHigh p = false ∧ (s.phase p).taken = false ∧ cur < -s.negLimit p) ∧
    (∃ (p : Fin 48) (s : State), s.fld (R.PH_STATUS.STATE p) = 2 ∧ s.fld (R.PH_STATUS.OPENCNT p) = 64 ∧ s.phaseOn p = true) ∧
    (∃ (p : Fin 48) (low : Bool) (held : Nat) (s : State), s.phaseOn p = true ∧ s.lost p = false ∧ s.sliceOn 7 p = false ∧ s.fld (R.PH_TMF.SFF p) * 50 < held ∧ (low = false ∨ s.bit (R.PH_STATUS.BLANKING p) = true)) ∧
    (∃ (p : Fin 48) (s : State), s.phaseOn p = false) ∧
    (∃ (p : Fin 48) (low : Bool) (held : Nat) (s : State), s.phaseOn p = true ∧ s.lost p = false ∧ s.sliceOn 7 p = false ∧ s.fld (R.PH_TMF.SFF p) * 50 < held ∧ low = true ∧ s.bit (R.PH_STATUS.BLANKING p) = false) ∧
    (∃ (p : Fin 48) (tmfLow : Bool) (s : State), s.runs (T.stageBlank p) = true ∧ tmfLow = false ∧ s.sliceOn 7 p = false) ∧
    (∃ (p : Fin 48) (s : State), s.runs (T.stageBlank p) = false) ∧
    (∃ (p : Fin 48) (tmfLow : Bool) (s : State), s.runs (T.stageBlank p) = true ∧ tmfLow = true ∧ s.sliceOn 7 p = false ∧ s.phaseOn p = true ∧ s.lost p = false) ∧
    (∃ (p : Fin 48) (s : State), 16 ≤ (s.phase p).hot ∧ s.phaseOn p = true ∧ s.lost p = false) ∧
    (∃ (p : Fin 48) (s : State), (s.phase p).hot < 16) ∧
    (∃ (p : Fin 48) (s : State), s.phaseOn p = true ∧ 16 ≤ (s.phase p).warm ∧ s.bit (R.PH_STATUS.WARN p) = false) ∧
    (∃ (p : Fin 48) (s : State), (s.phase p).warm < 16) ∧
    (∃ (p : Fin 48) (s : State), 16 ≤ (s.phase p).cool ∧ s.bit (R.PH_STATUS.WARN p) = true) ∧
    (∃ (p : Fin 48) (s : State), (s.phase p).cool < 16) ∧
    (∃ (p : Fin 48) (s : State), s.phaseOn p = true) :=
  ⟨⟨0, 10000, W.loop 2, by decide⟩,
   ⟨0, State.reset, by decide⟩,
   ⟨0, -20000, W.loop 2, by decide⟩,
   ⟨0, (W.loop 2).setF (R.PH_STATUS.OPENCNT 0) 64, by decide⟩,
   ⟨0, true, 1000, (W.loop 2).setB (R.PH_STATUS.BLANKING 0) true, by decide⟩,
   ⟨0, State.reset, by decide⟩,
   ⟨0, true, 1000, W.loop 2, by decide⟩,
   ⟨0, false, (W.loop 2).arm (T.stageBlank 0) 5, by decide⟩,
   ⟨0, State.reset, by decide⟩,
   ⟨0, true, (W.loop 2).arm (T.stageBlank 0) 5, by decide⟩,
   ⟨0, (W.loop 2).updPhase 0 (fun x => { x with hot := 16 }), by decide⟩,
   ⟨0, State.reset, by decide⟩,
   ⟨0, (W.loop 2).updPhase 0 (fun x => { x with warm := 16 }), by decide⟩,
   ⟨0, State.reset, by decide⟩,
   ⟨0, ((W.loop 2).updPhase 0 (fun x => { x with cool := 16 })).setB (R.PH_STATUS.WARN 0) true, by decide⟩,
   ⟨0, State.reset, by decide⟩,
   ⟨0, W.loop 2, by decide⟩⟩

/-- The hypotheses of SensingAndPllPComplete can be met. -/
theorem test_SensingAndPllPComplete_met :
    (∃ (p : Fin 48) (s : State), s.phaseActive p = true ∧ s.bit (R.PH_STATUS.SUSPECT p) = false ∧ 4 ≤ (s.phase p).range) ∧
    (∃ (p : Fin 48) (s : State), s.fld (R.PH_STATUS.STATE p) ≠ 2) ∧
    (∃ (p : Fin 48) (s : State), s.phaseActive p = true ∧ s.bit (R.PH_STATUS.SUSPECT p) = false ∧ 256 ≤ s.fld (R.PH_FLUX.CNT p)) ∧
    (∃ (mv : BitVec 12), 1100 ≤ mv.toNat ∧ mv.toNat ≤ 1300) ∧
    (∃ (mv : BitVec 12), (mv.toNat < 1100 ∨ 1300 < mv.toNat)) ∧
    (∃ (p : Fin 48) (s : State), s.phaseActive p = true) ∧
    (∃ (s : State), s.sys.pllP = .locked) ∧
    (∃ (s : State), s.sys.pllP ≠ .locked) ∧
    (∃ (s : State), s.sys.pllP = .out) ∧
    (∃ (s : State), s.sys.pllP ≠ .out) ∧
    (∃ (s : State), s.runs T.pllP = true) ∧
    (∃ (s : State), s.runs T.pllP = false) :=
  ⟨⟨0, (W.loop 2).updPhase 0 (fun x => { x with range := 4 }), by decide⟩,
   ⟨0, State.reset, by decide⟩,
   ⟨0, (W.loop 2).setF (R.PH_FLUX.CNT 0) 256, by decide⟩,
   ⟨1200#12, by decide⟩,
   ⟨0#12, by decide⟩,
   ⟨0, W.loop 2, by decide⟩,
   ⟨W.loop 2, by decide⟩,
   ⟨State.reset, by decide⟩,
   ⟨((W.loop 2).updSys (fun y => { y with pllP := .out })).arm T.pllP 10, by decide⟩,
   ⟨State.reset, by decide⟩,
   ⟨(W.loop 2).arm T.pllP 10, by decide⟩,
   ⟨State.reset, by decide⟩⟩

/-- The hypotheses of SurveyForecastAndIntentComplete can be met. -/
theorem test_SurveyForecastAndIntentComplete_met :
    (∃ (n : Fin 24) (s : State), s.surveyAllowed n = true ∧ s.fld (R.SV_STATUS.STATE n) = 0 ∧ s.runs (T.survey n) = true) ∧
    (∃ (n : Fin 24) (s : State), s.surveyAllowed n = false) ∧
    (∃ (n : Fin 24) (s : State), s.surveyAllowed n = true ∧ s.fld (R.SV_STATUS.STATE n) = 0) ∧
    (∃ (n : Fin 24) (s : State), (s.surveyAllowed n = false ∨ s.fld (R.SV_STATUS.STATE n) ≠ 0)) ∧
    (∃ (n : Fin 24) (s : State), s.fld (R.SV_STATUS.STATE n) = 1 ∧ s.surveyAllowed n = false) ∧
    (∃ (n : Fin 24) (s : State), s.fld (R.SV_STATUS.STATE n) ≠ 1) ∧
    (∃ (n : Fin 24) (s : State), s.fld (R.SV_STATUS.STATE n) = 2 ∧ s.surveyAllowed n = true ∧ s.runs (T.resume n) = true) ∧
    (∃ (n : Fin 24) (s : State), (s.fld (R.SV_STATUS.STATE n) ≠ 2 ∨ s.surveyAllowed n = false)) ∧
    (∃ (n : Fin 24) (s : State), s.runs (T.burstLimit n) = true ∧ (s.fld (R.SV_STATUS.STATE n) = 1 ∨ s.fld (R.SV_STATUS.STATE n) = 2)) ∧
    (∃ (n : Fin 24) (s : State), s.runs (T.burstLimit n) = false) ∧
    (∃ (n : Fin 24) (s : State), s.fld (R.SV_STATUS.STATE n) = 1 ∧ s.runs (T.burst n) = true) ∧
    (∃ (n : Fin 24) (s : State), s.fld (R.SV_STATUS.STATE n) = 3) ∧
    (∃ (n : Fin 24) (s : State), s.fld (R.SV_STATUS.STATE n) ≠ 3) ∧
    (∃ (n : Fin 24) (f : Forecast) (s : State), s.runs (T.fcPre n) = true ∧ (s.loop n).forecast = some f ∧ f.fulfilled = false ∧ f.unwinding = false) ∧
    (∃ (n : Fin 24) (s : State), s.runs (T.fcPre n) = false) ∧
    (∃ (n : Fin 24) (f : Forecast) (s : State), s.runs (T.fcWin n) = true ∧ (s.loop n).forecast = some f ∧ f.delta ≠ 0) ∧
    (∃ (n : Fin 24) (s : State), s.runs (T.fcWin n) = false) ∧
    (∃ (n : Fin 24) (f : Forecast) (s : State), s.runs (T.fcWin n) = true ∧ (s.loop n).forecast = some f ∧ f.delta = 0) ∧
    (∃ (n : Fin 24) (f : Forecast) (s : State), s.runs (T.fcHold n) = true ∧ (s.loop n).forecast = some f) ∧
    (∃ (n : Fin 24) (s : State), s.runs (T.fcHold n) = false) ∧
    (∃ (il : Fin 2) (frame : Word) (s : State), s.ilServiced il = true ∧ frame.field 29 3 = 1 ∧ s.intentReason il frame = none) ∧
    (∃ (il : Fin 2) (frame : Word) (why : Nat) (s : State), s.ilServiced il = true ∧ s.intentReason il frame = some why) ∧
    (∃ (il : Fin 2) (s : State), s.ilServiced il = false) ∧
    (∃ (il : Fin 2) (frame : Word) (s : State), s.ilServiced il = true ∧ frame.field 29 3 = 2 ∧ s.intentReason il frame = none) ∧
    (∃ (il : Fin 2) (s : State), s.ilServiced il = true) :=
  ⟨⟨0, (W.survey 0).arm (T.survey 0) 10, by decide⟩,
   ⟨0, State.reset, by decide⟩,
   ⟨0, W.survey 0, by decide⟩,
   ⟨0, State.reset, by decide⟩,
   ⟨0, (W.survey 1).setB (R.SV_CFG.EN 0) false, by decide⟩,
   ⟨0, State.reset, by decide⟩,
   ⟨0, (W.survey 2).arm (T.resume 0) 1000000, by decide⟩,
   ⟨0, State.reset, by decide⟩,
   ⟨0, (W.survey 1).arm (T.burstLimit 0) 5, by decide⟩,
   ⟨0, State.reset, by decide⟩,
   ⟨0, (W.survey 1).arm (T.burst 0) 5, by decide⟩,
   ⟨0, W.survey 3, by decide⟩,
   ⟨0, State.reset, by decide⟩,
   ⟨0, W.forecast, W.foreseen.arm (T.fcPre 0) 5, by decide⟩,
   ⟨0, State.reset, by decide⟩,
   ⟨0, W.forecast, W.foreseen.arm (T.fcWin 0) 5, by decide⟩,
   ⟨0, State.reset, by decide⟩,
   ⟨0, { W.forecast with delta := 0 }, (W.foreseen.updLoop 0 (fun x => { x with forecast := some { W.forecast with delta := 0 } })).arm (T.fcWin 0) 5, by decide⟩,
   ⟨0, W.forecast, W.foreseen.arm (T.fcHold 0) 5, by decide⟩,
   ⟨0, State.reset, by decide⟩,
   ⟨0, intentFrame 1 0 2048, W.intent, by decide⟩,
   ⟨0, 0x20000001#32, 1, W.intent, by decide⟩,
   ⟨0, State.reset, by decide⟩,
   ⟨0, intentFrame 2 0 5, W.intent, by decide⟩,
   ⟨0, W.intent, by decide⟩⟩

/-- The hypotheses of RailCommandsComplete can be met. -/
theorem test_RailCommandsComplete_met :
    (∃ (r : Req) (n : Fin 64) (s : State), s.may r (R.SEQ_RAIL_CTRL.reg n) true (some 0xE5) = true ∧ s.railCtrlOk n = true) ∧
    (∃ (r : Req) (n : Fin 64) (s : State), s.may r (R.SEQ_RAIL_CTRL.reg n) true (some 0xE5) = false) ∧
    (∃ (r : Req) (n : Fin 64) (s : State), s.may r (R.SEQ_RAIL_CTRL.reg n) true (some 0xE5) = true ∧ s.railCtrlOk n = false) ∧
    (∃ (r : Req) (n : Fin 64) (s : State), s.may r (R.SEQ_RAIL_CTRL.reg n) true (some 0xE5) = true ∧ s.railCtrlOk n = true ∧ s.qst n = Q.latched) ∧
    (∃ (r : Req) (n : Fin 64) (s : State), s.may r (R.SEQ_RAIL_CTRL.reg n) true (some 0xE5) = true ∧ (s.railCtrlOk n = false ∨ s.qst n ≠ Q.latched)) ∧
    (∃ (m : BusMsg) (s : State), s.takesWrite m 0xE5 2 2 = true ∧ bytesLE m.data / 256 % 4 = 1 ∧ s.railCtrlOk (bytesLE m.data % 64) = true) ∧
    (∃ (s : State), s.busOn = false) ∧
    (∃ (m : BusMsg) (s : State), s.busOn = true ∧ s.codeMay 0xE5 (!m.read) = false) ∧
    (∃ (m : BusMsg) (s : State), s.takesWrite m 0xE5 2 2 = true ∧ bytesLE m.data / 256 % 4 = 2 ∧ s.railCtrlOk (bytesLE m.data % 64) = true) ∧
    (∃ (m : BusMsg) (s : State), s.takesWrite m 0xE5 2 2 = true ∧ bytesLE m.data / 256 % 4 = 3 ∧ s.railCtrlOk (bytesLE m.data % 64) = true) ∧
    (∃ (n : Fin 64) (t0 : Nat) (s : State), (s.rail n).qualFrom = some t0 ∧ s.qst n = Q.ramp ∧ s.railPg n = true) ∧
    (∃ (n : Fin 64) (s : State), (s.rail n).qualFrom = none) ∧
    (∃ (n : Fin 64) (t0 : Nat) (s : State), (s.rail n).onFrom = some t0 ∧ s.qst n = Q.ramp ∧ s.fld (R.SEQ_RAIL_REACT.REACT n) = 0 ∧ s.railPd n = false ∧ s.sys.phase ≠ .safe) ∧
    (∃ (n : Fin 64) (s : State), (s.rail n).onFrom = none) ∧
    (∃ (n : Fin 64) (s : State), s.chatters n = true ∧ s.fld (R.SEQ_RAIL_REACT.REACT n) = 0 ∧ s.railPd n = false ∧ s.sys.phase ≠ .safe) ∧
    (∃ (n : Fin 64) (s : State), s.chatters n = false) ∧
    (∃ (n : Fin 64) (t0 : Nat) (s : State), (s.rail n).onFrom = some t0 ∧ s.qst n = Q.ramp ∧ s.railPd n = false ∧ s.sys.phase ≠ .safe ∧ s.fld (R.SEQ_RAIL_REACT.REACT n) = 1 ∧ (s.fld (R.SEQ_RAIL_REACT.RETRIES n) = 0 ∨ s.fld (R.SEQ_RAIL_CNT.RETRY n) < s.fld (R.SEQ_RAIL_REACT.RETRIES n))) ∧
    (∃ (n : Fin 64) (t0 : Nat) (s : State), (s.rail n).onFrom = some t0 ∧ s.qst n = Q.ramp ∧ s.railPd n = false ∧ s.sys.phase ≠ .safe ∧ s.fld (R.SEQ_RAIL_REACT.REACT n) = 1 ∧ 0 < s.fld (R.SEQ_RAIL_REACT.RETRIES n) ∧ s.fld (R.SEQ_RAIL_REACT.RETRIES n) ≤ s.fld (R.SEQ_RAIL_CNT.RETRY n) ∧ s.fld (R.SEQ_RAIL_REACT.EXH n) = 0) ∧
    (∃ (n : Fin 64) (t0 : Nat) (s : State), (s.rail n).onFrom = some t0 ∧ s.qst n = Q.ramp ∧ s.railPd n = false ∧ s.sys.phase ≠ .safe ∧ s.fld (R.SEQ_RAIL_REACT.REACT n) = 2 ∧ s.fld (R.SEQ_GRP_STATUS.STATE (s.fld (R.SEQ_RAIL_CFG.GRP n))) ≠ 1 ∧ s.bit (R.SEQ_RAIL_CFG.INGRP n) = true ∧ s.seqHeld = false ∧ s.sysHolds = false) ∧
    (∃ (n : Fin 64) (t0 : Nat) (s : State), (s.rail n).onFrom = some t0 ∧ s.qst n = Q.ramp ∧ s.railPd n = false ∧ s.sys.phase ≠ .safe ∧ s.fld (R.SEQ_RAIL_REACT.REACT n) = 1 ∧ 0 < s.fld (R.SEQ_RAIL_REACT.RETRIES n) ∧ s.fld (R.SEQ_RAIL_REACT.RETRIES n) ≤ s.fld (R.SEQ_RAIL_CNT.RETRY n) ∧ s.fld (R.SEQ_RAIL_REACT.EXH n) = 1 ∧ s.fld (R.SEQ_GRP_STATUS.STATE (s.fld (R.SEQ_RAIL_CFG.GRP n))) ≠ 1 ∧ s.bit (R.SEQ_RAIL_CFG.INGRP n) = true ∧ s.seqHeld = false ∧ s.sysHolds = false) ∧
    (∃ (n : Fin 64) (t0 : Nat) (s : State), (s.rail n).onFrom = some t0 ∧ s.qst n = Q.ramp ∧ s.railPd n = false ∧ s.sys.phase ≠ .safe ∧ (s.fld (R.SEQ_RAIL_REACT.REACT n) = 3 ∨ s.fld (R.SEQ_RAIL_REACT.REACT n) = 2 ∧ s.bit (R.SEQ_RAIL_CFG.INGRP n) = false ∨ s.fld (R.SEQ_RAIL_REACT.REACT n) = 1 ∧ 0 < s.fld (R.SEQ_RAIL_REACT.RETRIES n) ∧ s.fld (R.SEQ_RAIL_REACT.RETRIES n) ≤ s.fld (R.SEQ_RAIL_CNT.RETRY n) ∧ s.fld (R.SEQ_RAIL_REACT.EXH n) ≠ 0 ∧ (s.fld (R.SEQ_RAIL_REACT.EXH n) ≠ 1 ∨ s.bit (R.SEQ_RAIL_CFG.INGRP n) = false)) ∧ s.seqHeld = false ∧ s.sysHolds = false) ∧
    (∃ (n : Fin 64) (s : State), s.chatters n = true ∧ s.running n = true ∧ s.railPd n = false ∧ s.sys.phase ≠ .safe ∧ s.fld (R.SEQ_RAIL_REACT.REACT n) = 1 ∧ (s.fld (R.SEQ_RAIL_REACT.RETRIES n) = 0 ∨ s.fld (R.SEQ_RAIL_CNT.RETRY n) < s.fld (R.SEQ_RAIL_REACT.RETRIES n))) ∧
    (∃ (n : Fin 64) (s : State), s.chatters n = true ∧ s.running n = true ∧ s.railPd n = false ∧ s.sys.phase ≠ .safe ∧ s.fld (R.SEQ_RAIL_REACT.REACT n) = 1 ∧ 0 < s.fld (R.SEQ_RAIL_REACT.RETRIES n) ∧ s.fld (R.SEQ_RAIL_REACT.RETRIES n) ≤ s.fld (R.SEQ_RAIL_CNT.RETRY n) ∧ s.fld (R.SEQ_RAIL_REACT.EXH n) = 0) ∧
    (∃ (n : Fin 64) (s : State), s.chatters n = true ∧ s.running n = true ∧ s.railPd n = false ∧ s.sys.phase ≠ .safe ∧ s.fld (R.SEQ_RAIL_REACT.REACT n) = 2 ∧ s.fld (R.SEQ_GRP_STATUS.STATE (s.fld (R.SEQ_RAIL_CFG.GRP n))) ≠ 1 ∧ s.bit (R.SEQ_RAIL_CFG.INGRP n) = true ∧ s.seqHeld = false ∧ s.sysHolds = false) ∧
    (∃ (n : Fin 64) (s : State), s.chatters n = true ∧ s.running n = true ∧ s.railPd n = false ∧ s.sys.phase ≠ .safe ∧ s.fld (R.SEQ_RAIL_REACT.REACT n) = 1 ∧ 0 < s.fld (R.SEQ_RAIL_REACT.RETRIES n) ∧ s.fld (R.SEQ_RAIL_REACT.RETRIES n) ≤ s.fld (R.SEQ_RAIL_CNT.RETRY n) ∧ s.fld (R.SEQ_RAIL_REACT.EXH n) = 1 ∧ s.fld (R.SEQ_GRP_STATUS.STATE (s.fld (R.SEQ_RAIL_CFG.GRP n))) ≠ 1 ∧ s.bit (R.SEQ_RAIL_CFG.INGRP n) = true ∧ s.seqHeld = false ∧ s.sysHolds = false) ∧
    (∃ (n : Fin 64) (s : State), s.chatters n = true ∧ s.running n = true ∧ s.railPd n = false ∧ s.sys.phase ≠ .safe ∧ (s.fld (R.SEQ_RAIL_REACT.REACT n) = 3 ∨ s.fld (R.SEQ_RAIL_REACT.REACT n) = 2 ∧ s.bit (R.SEQ_RAIL_CFG.INGRP n) = false ∨ s.fld (R.SEQ_RAIL_REACT.REACT n) = 1 ∧ 0 < s.fld (R.SEQ_RAIL_REACT.RETRIES n) ∧ s.fld (R.SEQ_RAIL_REACT.RETRIES n) ≤ s.fld (R.SEQ_RAIL_CNT.RETRY n) ∧ s.fld (R.SEQ_RAIL_REACT.EXH n) ≠ 0 ∧ (s.fld (R.SEQ_RAIL_REACT.EXH n) ≠ 1 ∨ s.bit (R.SEQ_RAIL_CFG.INGRP n) = false)) ∧ s.seqHeld = false ∧ s.sysHolds = false) ∧
    (∃ (n : Fin 64) (t0 : Nat) (s : State), (s.rail n).offFrom = some t0 ∧ s.qst n = Q.stop) ∧
    (∃ (n : Fin 64) (s : State), (s.rail n).offFrom = none) ∧
    (∃ (n : Fin 64) (t0 : Nat) (s : State), (s.rail n).retryFrom = some t0 ∧ s.qst n = Q.retry) ∧
    (∃ (n : Fin 64) (s : State), (s.rail n).retryFrom = none) ∧
    (∃ (n : Fin 64) (t0 : Nat) (s : State), (s.rail n).goodFrom = some t0 ∧ s.qst n = Q.good) ∧
    (∃ (n : Fin 64) (s : State), (s.rail n).goodFrom = none) :=
  ⟨⟨.engine 0, 3, W.rail 0, by decide⟩,
   ⟨.hostBus, 3, W.rail 0, by decide⟩,
   ⟨.engine 0, 3, State.reset, by decide⟩,
   ⟨.engine 0, 3, W.rail 7, by decide⟩,
   ⟨.engine 0, 3, State.reset, by decide⟩,
   ⟨⟨false, [3#8, 1#8], 0, .good, true, []⟩, W.hostRail, by decide⟩,
   ⟨State.reset, by decide⟩,
   ⟨⟨false, [3#8, 1#8], 0, .good, true, []⟩, W.up, by decide⟩,
   ⟨⟨false, [3#8, 2#8], 0, .good, true, []⟩, W.hostRail, by decide⟩,
   ⟨⟨false, [3#8, 3#8], 0, .good, true, []⟩, W.hostRail.setF (R.SEQ_RAIL_STATUS.STATE 3) 7, by decide⟩,
   ⟨3, 5, ((W.rail 3).updRail 3 (fun x => { x with qualFrom := some 5 })).setB (R.SUP_MON_STATUS.INSIDE 2) true, by decide⟩,
   ⟨3, State.reset, by decide⟩,
   ⟨3, 5, ((W.rail 3).updRail 3 (fun x => { x with onFrom := some 5 })).setF (R.SEQ_RAIL_REACT.REACT 3) 0, by decide⟩,
   ⟨3, State.reset, by decide⟩,
   ⟨3, ((W.rail 3).setF (R.SEQ_RAIL_CNT.CHAT 3) 9).setF (R.SEQ_RAIL_REACT.REACT 3) 0, by decide⟩,
   ⟨3, State.reset, by decide⟩,
   ⟨3, 5, ((W.rail 3).updRail 3 (fun x => { x with onFrom := some 5 })).setF (R.SEQ_RAIL_REACT.REACT 3) 1, by decide⟩,
   ⟨3, 5, (((W.rail 3).updRail 3 (fun x => { x with onFrom := some 5 })).setF (R.SEQ_RAIL_REACT.REACT 3) 1).setF (R.SEQ_RAIL_REACT.RETRIES 3) 2 |>.setF (R.SEQ_RAIL_CNT.RETRY 3) 2 |>.setF (R.SEQ_RAIL_REACT.EXH 3) 0, by decide⟩,
   ⟨3, 5, ((((W.rail 3).updRail 3 (fun x => { x with onFrom := some 5 })).setB (R.SEQ_RAIL_CFG.INGRP 3) true).setF (R.SEQ_RAIL_CFG.GRP 3) 2).setF (R.SEQ_RAIL_REACT.REACT 3) 2, by decide⟩,
   ⟨3, 5, (((((W.rail 3).updRail 3 (fun x => { x with onFrom := some 5 })).setB (R.SEQ_RAIL_CFG.INGRP 3) true).setF (R.SEQ_RAIL_CFG.GRP 3) 2).setF (R.SEQ_RAIL_REACT.REACT 3) 1).setF (R.SEQ_RAIL_REACT.RETRIES 3) 2 |>.setF (R.SEQ_RAIL_CNT.RETRY 3) 2 |>.setF (R.SEQ_RAIL_REACT.EXH 3) 1, by decide⟩,
   ⟨3, 5, ((W.rail 3).updRail 3 (fun x => { x with onFrom := some 5 })).setF (R.SEQ_RAIL_REACT.REACT 3) 3, by decide⟩,
   ⟨3, ((W.rail 3).setF (R.SEQ_RAIL_CNT.CHAT 3) 9).setF (R.SEQ_RAIL_REACT.REACT 3) 1, by decide⟩,
   ⟨3, (((W.rail 3).setF (R.SEQ_RAIL_CNT.CHAT 3) 9).setF (R.SEQ_RAIL_REACT.REACT 3) 1).setF (R.SEQ_RAIL_REACT.RETRIES 3) 2 |>.setF (R.SEQ_RAIL_CNT.RETRY 3) 2 |>.setF (R.SEQ_RAIL_REACT.EXH 3) 0, by decide⟩,
   ⟨3, ((((W.rail 3).setF (R.SEQ_RAIL_CNT.CHAT 3) 9).setB (R.SEQ_RAIL_CFG.INGRP 3) true).setF (R.SEQ_RAIL_CFG.GRP 3) 2).setF (R.SEQ_RAIL_REACT.REACT 3) 2, by decide⟩,
   ⟨3, (((((W.rail 3).setF (R.SEQ_RAIL_CNT.CHAT 3) 9).setB (R.SEQ_RAIL_CFG.INGRP 3) true).setF (R.SEQ_RAIL_CFG.GRP 3) 2).setF (R.SEQ_RAIL_REACT.REACT 3) 1).setF (R.SEQ_RAIL_REACT.RETRIES 3) 2 |>.setF (R.SEQ_RAIL_CNT.RETRY 3) 2 |>.setF (R.SEQ_RAIL_REACT.EXH 3) 1, by decide⟩,
   ⟨3, ((W.rail 3).setF (R.SEQ_RAIL_CNT.CHAT 3) 9).setF (R.SEQ_RAIL_REACT.REACT 3) 3, by decide⟩,
   ⟨3, 5, (W.rail 5).updRail 3 (fun x => { x with offFrom := some 5 }), by decide⟩,
   ⟨3, State.reset, by decide⟩,
   ⟨3, 5, (W.rail 6).updRail 3 (fun x => { x with retryFrom := some 5 }), by decide⟩,
   ⟨3, State.reset, by decide⟩,
   ⟨3, 5, (W.rail 4).updRail 3 (fun x => { x with goodFrom := some 5 }), by decide⟩,
   ⟨3, State.reset, by decide⟩⟩

/-- The hypotheses of GroupsResetAndSnapshotsComplete can be met. -/
theorem test_GroupsResetAndSnapshotsComplete_met :
    (∃ (r : Req) (g : Fin 16) (s : State), s.may r (R.SEQ_GRP_CTRL.reg g) true none = true ∧ s.seqHeld = false ∧ s.seq.sysReset = .none ∧ s.fld (R.SEQ_GRP_STATUS.STATE g) = 0) ∧
    (∃ (r : Req) (g : Fin 16) (s : State), s.may r (R.SEQ_GRP_CTRL.reg g) true none = false) ∧
    (∃ (r : Req) (g : Fin 16) (s : State), s.may r (R.SEQ_GRP_CTRL.reg g) true none = true ∧ s.seqHeld = true) ∧
    (∃ (g : Fin 16) (s : State), s.fld (R.SEQ_GRP_STATUS.STATE g) = 1 ∧ (s.stoppingGroups.all fun k => (s.group k).closure.all s.railDown) = true) ∧
    (∃ (g : Fin 16) (s : State), s.fld (R.SEQ_GRP_STATUS.STATE g) ≠ 1) ∧
    (∃ (g : Fin 16) (s : State), s.reseqHeld g = false ∧ s.runs (T.rsdly g) = true) ∧
    (∃ (g : Fin 16) (s : State), (s.reseqHeld g = true ∨ s.runs (T.rsdly g) = false)) ∧
    (∃ (g : Fin 16) (t0 : Nat) (s : State), s.goodSince (s.railsOn.filter (fun r => s.bit (R.SEQ_RAIL_CFG.INGRP r) && decide (s.fld (R.SEQ_RAIL_CFG.GRP r) = g.val))) = some t0) ∧
    (∃ (t0 : Nat) (s : State), s.goodSince s.autoRails = some t0) ∧
    (∃ (s : State), s.goodSince s.autoRails = none) ∧
    (∃ (s : State), s.runs T.sysHold = true ∧ s.seq.halting = true) ∧
    (∃ (s : State), s.runs T.sysHold = false) ∧
    (∃ (s : State), s.runs T.sysHold = true ∧ s.seq.halting = false) ∧
    (∃ (r : Req) (s : State), s.may r R.SEQ_CTRL.reg true none = true ∧ s.bit R.SEQ_STATUS.HALT = true ∧ s.seqHeld = false) ∧
    (∃ (r : Req) (s : State), s.may r R.SEQ_CTRL.reg true none = false) ∧
    (∃ (r : Req) (s : State), s.may r R.SEQ_CTRL.reg true none = true ∧ s.bit R.SEQ_STATUS.HALT = false) ∧
    (∃ (p : Snapshot) (rest : List Snapshot) (s : State), s.seq.snapEntries = p :: rest ∧ p.loops.length = 24 ∧ s.ledg.again = false ∧ s.ledg.drain = .none ∧ s.seq.snapPending = [] ∧ s.ledg.running = [] ∧ s.ledg.slots = []) ∧
    (∃ (s : State), s.seq.snapEntries = []) ∧
    (∃ (s : State), s.runs T.seqTick = false ∧ s.supRuns = false ∧ s.bit R.LINK_ID.JOINED = false ∧ s.link.pdoneOwed = none) ∧
    (∃ (d : Nat) (s : State), s.deadline T.seqTick = some d) ∧
    (∃ (n : Fin 64) (d : Nat) (s : State), s.deadline T.seqTick = some d ∧ s.path.hoBegan = false ∧ s.groups = [] ∧ ((List.range 16).all fun g => decide (s.fld (R.SEQ_GRP_STATUS.STATE g) = 0) && decide (s.deadline (T.rsdly g) = none)) = true ∧ s.seq.offClosures = [] ∧ s.seq.sysReset = .none ∧ s.seqHeld = false ∧ s.seq.switchHold = false ∧ (s.railsOn.all fun r => !(s.rail r).marked && decide (s.qst r ≠ Q.stop)) = true ∧ s.bit (R.SEQ_RAIL_CFG.EN n) = true ∧ (s.qst n = Q.wait ∨ s.qst n = Q.inAdmit)) ∧
    (∃ (n : Fin 64) (d : Nat) (s : State), s.deadline T.seqTick = some d ∧ s.path.hoBegan = false ∧ s.groups = [] ∧ ((List.range 16).all fun g => decide (s.fld (R.SEQ_GRP_STATUS.STATE g) = 0) && decide (s.deadline (T.rsdly g) = none)) = true ∧ s.seq.offClosures = [] ∧ s.seq.sysReset = .none ∧ s.seqHeld = false ∧ s.seq.switchHold = false ∧ (s.railsOn.all fun r => !(s.rail r).marked && decide (s.qst r ≠ Q.stop)) = true ∧ (s.railsOn.all fun r => decide (s.qst r ≠ Q.wait)) = true ∧ (s.railsOn.all fun r => decide (s.qst r ≠ Q.inAdmit) || s.fabricOk r && s.parentsOk r && decide (s.fld (R.SEQ_RAIL_TERM.REMEN r) = 0)) = true ∧ s.admitHead = some n.val) ∧
    (∃ (n : Fin 64) (d : Nat) (s : State), s.deadline T.seqTick = some d ∧ s.path.hoBegan = false ∧ s.groups = [] ∧ ((List.range 16).all fun g => decide (s.fld (R.SEQ_GRP_STATUS.STATE g) = 0) && decide (s.deadline (T.rsdly g) = none)) = true ∧ s.seq.offClosures = [] ∧ s.seq.sysReset = .none ∧ (s.railsOn.all fun r => decide (s.qst r ≠ Q.wait) && decide (s.qst r ≠ Q.inAdmit) && decide (s.qst r ≠ Q.stop)) = true ∧ s.stopHead = some n.val) ∧
    (∃ (n : Fin 64) (d : Nat) (s : State), s.deadline T.seqTick = some d ∧ s.path.hoBegan = false ∧ s.groups = [] ∧ ((List.range 16).all fun g => decide (s.fld (R.SEQ_GRP_STATUS.STATE g) = 0) && decide (s.deadline (T.rsdly g) = none)) = true ∧ s.seq.offClosures = [] ∧ s.seq.sysReset = .none ∧ s.bit (R.SEQ_RAIL_CFG.EN n) = true ∧ s.qst n = Q.stop ∧ s.offTest n = true) ∧
    (∃ (n : Fin 64) (d : Nat) (s : State), s.deadline T.seqTick = some d ∧ s.path.hoBegan = false ∧ s.groups = [] ∧ ((List.range 16).all fun g => decide (s.fld (R.SEQ_GRP_STATUS.STATE g) = 0) && decide (s.deadline (T.rsdly g) = none)) = true ∧ s.seq.offClosures = [] ∧ s.seq.sysReset = .none ∧ s.bit (R.SEQ_RAIL_CFG.EN n) = true ∧ s.qst n = Q.ramp ∧ (s.rail n).marked = false) :=
  ⟨⟨.engine 0, 2, W.rail 4, by decide⟩,
   ⟨.hostBus, 2, W.rail 4, by decide⟩,
   ⟨.engine 0, 2, State.reset, by decide⟩,
   ⟨2, (W.rail 0).setF (R.SEQ_GRP_STATUS.STATE 2) 1, by decide⟩,
   ⟨2, State.reset, by decide⟩,
   ⟨2, (W.rail 0).arm (T.rsdly 2) 5, by decide⟩,
   ⟨2, State.reset, by decide⟩,
   ⟨2, 0, ((W.rail 4).setB (R.SEQ_RAIL_CFG.INGRP 3) true).setF (R.SEQ_RAIL_CFG.GRP 3) 2, by decide⟩,
   ⟨0, (W.rail 4).setB (R.SEQ_RAIL_CFG.AUTO 3) true, by decide⟩,
   ⟨State.reset, by decide⟩,
   ⟨{ (W.rail 0).arm T.sysHold 5 with seq := { State.reset.seq with halting := true } }, by decide⟩,
   ⟨State.reset, by decide⟩,
   ⟨(W.rail 0).arm T.sysHold 5, by decide⟩,
   ⟨.engine 0, (W.rail 0).setB R.SEQ_STATUS.HALT true, by decide⟩,
   ⟨.hostBus, (W.rail 0).setB R.SEQ_STATUS.HALT true, by decide⟩,
   ⟨.engine 0, State.reset, by decide⟩,
   ⟨W.snap, [], { W.up with seq := { State.reset.seq with snapEntries := [W.snap] } }, by decide⟩,
   ⟨State.reset, by decide⟩,
   ⟨W.phase .start, by decide⟩,
   ⟨5, W.up.arm T.seqTick 5, by decide⟩,
   ⟨3, 5, (W.rail 1).arm T.seqTick 5, by decide⟩,
   ⟨3, 5, (W.rail 2).arm T.seqTick 5, by decide⟩,
   ⟨3, 5, ((W.rail 4).updRail 3 (fun x => { x with marked := true, stopFor := .system })).arm T.seqTick 5, by decide⟩,
   ⟨3, 5, ((W.rail 5).setF (R.SEQ_RAIL_OFF.OFFV 3) 5).arm T.seqTick 5, by decide⟩,
   ⟨3, 5, (W.rail 3).arm T.seqTick 5, by decide⟩⟩

/-- The hypotheses of SupervisorsComplete can be met. -/
theorem test_SupervisorsComplete_met :
    (∃ (n : Fin 64) (s : State), s.sys.stage = .released ∧ s.bit (R.SUP_MON_CFG.EN n) = true) ∧
    (∃ (n : Fin 64) (s : State), (s.sys.stage ≠ .released ∨ s.bit (R.SUP_MON_CFG.EN n) = false)) ∧
    (∃ (n : Fin 64) (s : State), s.runs (T.mon n) = true ∧ s.sys.dry ≠ .running ∧ s.bit (R.SUP_MON_CFG.EN n) = true ∧ (s.monArmed n = false ∨ s.monOutside n = false)) ∧
    (∃ (n : Fin 64) (s : State), s.runs (T.mon n) = false) ∧
    (∃ (mv held : Nat) (s : State), s.baseOn = true ∧ s.bit R.SUP_VIN_STATUS.LOSS = false ∧ 2 * mv < 125 * s.fld R.SUP_VIN_CFG.LOSS ∧ min 5 (s.fld R.SUP_VIN_CFG.LFILT) * 100 ≤ held) ∧
    (∃ (mv held : Nat) (s : State), (s.baseOn = false ∨ s.bit R.SUP_VIN_STATUS.LOSS = true ∨ 125 * s.fld R.SUP_VIN_CFG.LOSS ≤ 2 * mv ∨ held < s.lossFilter)) ∧
    (∃ (mv held : Nat) (s : State), s.bit R.SUP_VIN_STATUS.LOSS = true ∧ 125 * s.fld R.SUP_VIN_CFG.LOSS + 500 ≤ 2 * mv ∧ min 5 (s.fld R.SUP_VIN_CFG.LFILT) * 100 ≤ held) ∧
    (∃ (mv held : Nat) (s : State), (s.bit R.SUP_VIN_STATUS.LOSS = false ∨ 2 * mv < 125 * s.fld R.SUP_VIN_CFG.LOSS + 500 ∨ held < s.lossFilter)) ∧
    (∃ (high : Bool) (mv held : Nat) (s : State), s.baseOn = true ∧ s.bit (if high then R.SUP_VIN_STATUS.HIGH else R.SUP_VIN_STATUS.LOW) = false ∧ (if high then 125 * s.fld R.SUP_VIN_THR.OVT < 2 * mv else 2 * mv < 125 * s.fld R.SUP_VIN_THR.UVT) ∧ max 1 (s.fld R.SUP_VIN_CFG.WFILT) * 10000 ≤ held) ∧
    (∃ (high : Bool) (mv held : Nat) (s : State), (s.baseOn = false ∨ s.bit (if high then R.SUP_VIN_STATUS.HIGH else R.SUP_VIN_STATUS.LOW) = true ∨ s.vinOutside high mv 0 = false ∨ held < s.windowFilter)) ∧
    (∃ (high : Bool) (mv held : Nat) (s : State), s.bit (if high then R.SUP_VIN_STATUS.HIGH else R.SUP_VIN_STATUS.LOW) = true ∧ (if high then 2 * (mv + 250) ≤ 125 * s.fld R.SUP_VIN_THR.OVT else 125 * s.fld R.SUP_VIN_THR.UVT + 500 ≤ 2 * mv) ∧ max 1 (s.fld R.SUP_VIN_CFG.WFILT) * 10000 ≤ held) ∧
    (∃ (high : Bool) (mv held : Nat) (s : State), (s.bit (if high then R.SUP_VIN_STATUS.HIGH else R.SUP_VIN_STATUS.LOW) = false ∨ s.vinOutside high mv 250 = true ∨ held < s.windowFilter)) ∧
    (∃ (n : Fin 8) (d : Nat) (s : State), s.deadline (T.rstoMin n) = some d ∧ d ≤ s.ns ∧ s.supRuns = true) ∧
    (∃ (n : Fin 8) (s : State), s.runs (T.rstoMin n) = false) ∧
    (∃ (n : Fin 8) (s : State), s.runs (T.rstoRel n) = true ∧ s.supRuns = true) ∧
    (∃ (n : Fin 8) (s : State), s.runs (T.rstoRel n) = false) ∧
    (∃ (r : Req) (ans : BitVec 16) (s : State), (r = .hostBus ∨ r = .quad) ∧ s.may r R.SUP_WD_ANS.reg true (some 0xDF) = true ∧ (s.fld R.SUP_WD_STATUS.STATE = 2 ∨ s.fld R.SUP_WD_STATUS.STATE = 4) ∧ ans.toNat = s.wdExpected) ∧
    (∃ (r : Req), r = .link) ∧
    (∃ (r : Req) (ans : BitVec 16) (s : State), (r = .hostBus ∨ r = .quad) ∧ s.may r R.SUP_WD_ANS.reg true (some 0xDF) = true ∧ (s.fld R.SUP_WD_STATUS.STATE = 3 ∨ (s.fld R.SUP_WD_STATUS.STATE = 2 ∨ s.fld R.SUP_WD_STATUS.STATE = 4) ∧ ans.toNat ≠ s.wdExpected) ∧ s.fld R.SUP_WD_STATUS.ERRCNT + 1 < max 1 (s.sup.wdCfg.field 24 3)) ∧
    (∃ (m : BusMsg) (s : State), s.takesWrite m 0xDF 2 2 = true ∧ (s.fld R.SUP_WD_STATUS.STATE = 2 ∨ s.fld R.SUP_WD_STATUS.STATE = 4) ∧ bytesLE m.data = s.wdExpected) ∧
    (∃ (s : State), s.busOn = false) ∧
    (∃ (m : BusMsg) (s : State), s.takesWrite m 0xDF 2 2 = true ∧ (s.fld R.SUP_WD_STATUS.STATE = 2 ∨ s.fld R.SUP_WD_STATUS.STATE = 4) ∧ bytesLE m.data ≠ s.wdExpected ∧ s.fld R.SUP_WD_STATUS.ERRCNT + 1 < max 1 (s.sup.wdCfg.field 24 3)) ∧
    (∃ (s : State), s.fld R.SUP_WD_STATUS.STATE = 3 ∧ s.runs T.wd = true) ∧
    (∃ (s : State), s.fld R.SUP_WD_STATUS.STATE ≠ 3) ∧
    (∃ (s : State), (s.fld R.SUP_WD_STATUS.STATE = 2 ∨ s.fld R.SUP_WD_STATUS.STATE = 4) ∧ s.runs T.wd = true ∧ s.fld R.SUP_WD_STATUS.ERRCNT + 1 < max 1 (s.sup.wdCfg.field 24 3)) ∧
    (∃ (s : State), (s.fld R.SUP_WD_STATUS.STATE ≠ 2 ∧ s.fld R.SUP_WD_STATUS.STATE ≠ 4)) :=
  ⟨⟨2, (W.up.setB (R.SUP_MON_CFG.EN 2) true).setF (R.SUP_MON_THR.HI 2) 100, by decide⟩,
   ⟨2, State.reset, by decide⟩,
   ⟨2, ((W.phase .start).setB (R.SUP_MON_CFG.EN 2) true).arm (T.mon 2) 5, by decide⟩,
   ⟨2, State.reset, by decide⟩,
   ⟨0, 500, W.up.setF R.SUP_VIN_CFG.LOSS 64, by decide⟩,
   ⟨0, 3, W.up.setF R.SUP_VIN_CFG.LOSS 64, by decide⟩,
   ⟨60000, 500, W.up.setB R.SUP_VIN_STATUS.LOSS true, by decide⟩,
   ⟨60000, 3, W.up.setB R.SUP_VIN_STATUS.LOSS true, by decide⟩,
   ⟨true, 60000, 4000000, W.up.setF R.SUP_VIN_THR.OVT 100, by decide⟩,
   ⟨true, 60000, 3, W.up.setF R.SUP_VIN_THR.OVT 100, by decide⟩,
   ⟨true, 0, 2000000, (W.up.setB R.SUP_VIN_STATUS.HIGH true).setF R.SUP_VIN_THR.OVT 100, by decide⟩,
   ⟨true, 0, 3, (W.up.setB R.SUP_VIN_STATUS.HIGH true).setF R.SUP_VIN_THR.OVT 100, by decide⟩,
   ⟨2, 0, W.sup.arm (T.rstoMin 2) 0, by decide⟩,
   ⟨2, State.reset, by decide⟩,
   ⟨2, W.sup.arm (T.rstoRel 2) 5, by decide⟩,
   ⟨2, State.reset, by decide⟩,
   ⟨.quad, 0#16, W.watch, by decide⟩,
   ⟨.link, by decide⟩,
   ⟨.quad, 1#16, W.watch, by decide⟩,
   ⟨⟨false, [0#8, 0#8], 0, .good, true, []⟩, W.watch, by decide⟩,
   ⟨State.reset, by decide⟩,
   ⟨⟨false, [1#8, 0#8], 0, .good, true, []⟩, W.watch, by decide⟩,
   ⟨(W.up.setF R.SUP_WD_STATUS.STATE 3).arm T.wd 5, by decide⟩,
   ⟨State.reset, by decide⟩,
   ⟨W.watch.arm T.wd 5, by decide⟩,
   ⟨State.reset, by decide⟩⟩

/-- The hypotheses of FaultCollectorCompletes can be met. -/
theorem test_FaultCollectorCompletes_met :
    (∃ (r : Req) (n : Fin 64) (s : State), s.may r (pairKey R.FLT_ACK_LO.reg R.FLT_ACK_HI.reg (n / 32)) true (some 0xDD) = true ∧ s.runs (T.grace n) = true) ∧
    (∃ (r : Req) (n : Fin 64) (s : State), s.may r (pairKey R.FLT_ACK_LO.reg R.FLT_ACK_HI.reg (n / 32)) true (some 0xDD) = true ∧ s.runs (T.grace n) = false ∧ s.flt.expired.getLsbD n = true) ∧
    (∃ (r : Req) (n : Fin 64) (s : State), s.may r (pairKey R.FLT_ACK_LO.reg R.FLT_ACK_HI.reg (n / 32)) true (some 0xDD) = false) ∧
    (∃ (m : BusMsg) (s : State), s.takesWrite m 0xDD 8 8 = true) ∧
    (∃ (s : State), s.busOn = false) ∧
    (∃ (r : Req) (n : Fin 64) (s : State), s.may r (pairKey R.FLT_STAT_LO.reg R.FLT_STAT_HI.reg (n / 32)) true none = true ∧ s.fstat.getLsbD n = true ∧ s.runs (T.grace n) = false) ∧
    (∃ (r : Req) (n : Fin 64) (s : State), s.may r (pairKey R.FLT_STAT_LO.reg R.FLT_STAT_HI.reg (n / 32)) true none = false) ∧
    (∃ (r : Req) (n : Fin 64) (s : State), s.may r (pairKey R.FLT_STAT_LO.reg R.FLT_STAT_HI.reg (n / 32)) true none = true ∧ (s.fstat.getLsbD n = false ∨ s.runs (T.grace n) = true)) ∧
    (∃ (r : Req) (s : State), s.may r R.FLT_INJ.reg true none = true ∧ (s.fld R.SYS_STATUS.LC = 1 ∨ s.fld R.SYS_STATUS.LC = 4) ∧ s.flt.collecting = true) ∧
    (∃ (r : Req) (s : State), s.may r R.FLT_INJ.reg true none = false) ∧
    (∃ (r : Req) (s : State), s.may r R.FLT_INJ.reg true none = true ∧ s.fld R.SYS_STATUS.LC ≠ 1 ∧ s.fld R.SYS_STATUS.LC ≠ 4) ∧
    (∃ (n : Fin 64) (d : Nat) (s : State), s.deadline (T.grace n) = some d ∧ s.sys.phase = .safe) ∧
    (∃ (n : Fin 64) (s : State), s.deadline (T.grace n) = none) ∧
    (∃ (n : Fin 64) (d : Nat) (s : State), s.deadline (T.grace n) = some d ∧ s.faultClass n = 2) ∧
    (∃ (n : Fin 64) (d : Nat) (s : State), s.deadline (T.grace n) = some d ∧ s.escAction n = 1 ∧ ((s.escalating d).all fun k => decide (s.escAction k = 1)) = true ∧ s.fld (R.SEQ_GRP_STATUS.STATE (s.fld (R.FLT_CFG.GRP n))) ≠ 1 ∧ s.seqHeld = false ∧ s.sysHolds = false) ∧
    (∃ (n : Fin 64) (d : Nat) (s : State), s.deadline (T.grace n) = some d ∧ s.escAction n = 2 ∧ ((s.escalating d).all fun k => decide (s.escAction k ≠ 3)) = true ∧ s.seqHeld = false ∧ s.sysHolds = false) ∧
    (∃ (n : Fin 64) (s : State), n.val ∈ s.flt.immediate ∧ s.escAction n = 1 ∧ ((s.escalating s.ns).all fun k => decide (s.escAction k = 1)) = true ∧ s.fld (R.SEQ_GRP_STATUS.STATE (s.fld (R.FLT_CFG.GRP n))) ≠ 1 ∧ s.seqHeld = false ∧ s.sysHolds = false) ∧
    (∃ (n : Fin 64) (s : State), n.val ∈ s.flt.immediate ∧ s.escAction n = 2 ∧ ((s.escalating s.ns).all fun k => decide (s.escAction k ≠ 3)) = true ∧ s.seqHeld = false ∧ s.sysHolds = false) ∧
    (∃ (n : Fin 64) (s : State), n.val ∈ s.flt.immediate ∧ s.faultClass n = 2) ∧
    (∃ (n : Fin 64) (s : State), n.val ∉ s.flt.immediate) ∧
    (∃ (r : Req) (s : State), (r = .hostBus ∨ r = .quad ∨ r = .link) ∧ s.may r R.FLT_RESTART.reg true (some 0xE9) = true ∧ s.sys.phase = .safe ∧ s.ledg.drain ≠ .restart) ∧
    (∃ (r : Req) (s : State), (s.may r R.FLT_RESTART.reg true (some 0xE9) = true ∧ r ≠ .hostBus ∧ s.sys.phase ≠ .safe)) ∧
    (∃ (r : Req) (s : State), (r = .hostBus ∨ r = .quad ∨ r = .link) ∧ s.may r R.FLT_RESTART.reg true (some 0xE9) = false) ∧
    (∃ (m : BusMsg) (s : State), s.takesWrite m 0xE9 1 1 = true ∧ bytesLE m.data = 0xD7 ∧ s.sys.phase = .safe ∧ s.ledg.drain ≠ .restart) ∧
    (∃ (m : BusMsg) (s : State), s.takesWrite m 0xE9 1 1 = true ∧ bytesLE m.data ≠ 0xD7) ∧
    (∃ (s : State), s.topOn = true ∧ s.flt.dieHot = false) ∧
    (∃ (s : State), (s.topOn = false ∨ s.flt.dieHot = true)) ∧
    (∃ (s : State), s.topOn = true) ∧
    (∃ (s : State), s.topOn = false) :=
  ⟨⟨.engine 0, 5, W.up.arm (T.grace 5) 10, by decide⟩,
   ⟨.engine 0, 5, { W.up with flt := { W.up.flt with expired := 0x20#64 } }, by decide⟩,
   ⟨.hostBus, 5, { W.up with flt := { W.up.flt with expired := 0x20#64 } }, by decide⟩,
   ⟨⟨false, [0x20#8, 0#8, 0#8, 0#8, 0#8, 0#8, 0#8, 0#8], 0, .good, true, []⟩, W.host.arm (T.grace 5) 10, by decide⟩,
   ⟨State.reset, by decide⟩,
   ⟨.engine 0, 5, W.up.setReg R.FLT_STAT_LO.reg 0x20#32, by decide⟩,
   ⟨.hostBus, 5, W.up.setReg R.FLT_STAT_LO.reg 0x20#32, by decide⟩,
   ⟨.engine 0, 5, State.reset, by decide⟩,
   ⟨.engine 0, W.up.setF R.SYS_STATUS.LC 1, by decide⟩,
   ⟨.hostBus, W.up.setF R.SYS_STATUS.LC 1, by decide⟩,
   ⟨.engine 0, W.up.setF R.SYS_STATUS.LC 3, by decide⟩,
   ⟨5, 10, (W.phase .safe).arm (T.grace 5) 10, by decide⟩,
   ⟨5, State.reset, by decide⟩,
   ⟨5, 10, (W.up.setF (R.FLT_CFG.CLASS 5) 2).arm (T.grace 5) 10, by decide⟩,
   ⟨5, 10, ((W.rail 3).setF (R.FLT_CFG.CLASS 5) 1 |>.arm (T.grace 5) 10).setB (R.FLT_CFG.ACT 5) false, by decide⟩,
   ⟨5, 10, ((W.rail 3).setF (R.FLT_CFG.CLASS 5) 1 |>.arm (T.grace 5) 10).setB (R.FLT_CFG.ACT 5) true, by decide⟩,
   ⟨5, ({ W.rail 3 with flt := { W.up.flt with immediate := [5] } }).setB (R.FLT_CFG.ACT 5) false, by decide⟩,
   ⟨5, ({ W.rail 3 with flt := { W.up.flt with immediate := [5] } }).setB (R.FLT_CFG.ACT 5) true, by decide⟩,
   ⟨5, { W.up.setF (R.FLT_CFG.CLASS 5) 2 with flt := { W.up.flt with immediate := [5] } }, by decide⟩,
   ⟨5, State.reset, by decide⟩,
   ⟨.link, W.phase .safe, by decide⟩,
   ⟨.link, State.reset, by decide⟩,
   ⟨.hostBus, W.phase .safe, by decide⟩,
   ⟨⟨false, [0xD7#8], 0, .good, true, []⟩, W.fabric.updSys (fun y => { y with phase := .safe }), by decide⟩,
   ⟨⟨false, [0xD6#8], 0, .good, true, []⟩, W.fabric.updSys (fun y => { y with phase := .safe }), by decide⟩,
   ⟨W.up, by decide⟩,
   ⟨State.reset, by decide⟩,
   ⟨W.up, by decide⟩,
   ⟨State.reset, by decide⟩⟩

/-- The hypotheses of LedgerCommandsComplete can be met. -/
theorem test_LedgerCommandsComplete_met :
    (∃ (w : WaitWrite) (rest : List WaitWrite) (r : Req) (s : State), s.ledg.waiting = w :: rest ∧ w.writer = .window r ∧ s.ledg.running = [] ∧ s.ledg.slots.length < 63 ∧ s.ledg.drain = .none ∧ s.ledg.again = false ∧ s.ledg.owed = 0 ∧ writeDirty (decide (w.page < 128)) w.off w.bytes.length ≠ 0 ∧ (∀ i, i < 8 → s.ledg.poison.at false (8 * w.page + i) = false)) ∧
    (∃ (s : State), s.ledg.waiting = []) ∧
    (∃ (w : WaitWrite) (rest : List WaitWrite) (r : Req) (s : State), s.ledg.waiting = w :: rest ∧ w.writer = .window r ∧ s.ledg.running.any (fun x => decide (x.page = w.page)) = true) ∧
    (∃ (r : Req) (s : State), s.ledgOn = true ∧ s.may r R.LEDG_CTRL.reg true none = true ∧ s.ledg.running = [] ∧ s.bit R.SYS_STATUS.VCC5_OK = false ∧ s.ledg.slots ≠ []) ∧
    (∃ (r : Req) (s : State), s.may r R.LEDG_CTRL.reg true none = false) ∧
    (∃ (r : Req) (s : State), s.may r R.LEDG_CTRL.reg true none = true ∧ s.ledgOn = false) ∧
    (∃ (r : Req) (s : State), s.ledgOn = true ∧ s.may r R.LEDG_CTRL.reg true none = true ∧ s.ledg.running = [] ∧ s.bit R.SYS_STATUS.VCC5_OK = true ∧ s.ledg.slots ≠ []) ∧
    (∃ (s : State), s.runs T.commitAge = true ∧ s.ledg.running = [] ∧ s.bit R.SYS_STATUS.VCC5_OK = true ∧ s.ledg.slots ≠ []) ∧
    (∃ (s : State), s.runs T.commitAge = false) ∧
    (∃ (s : State), s.houseOn = true ∧ s.bit R.LEDG_STATUS.HELD = false) ∧
    (∃ (s : State), s.houseOn = false) ∧
    (∃ (s : State), s.runs T.commitEnd = true) ∧
    (∃ (s : State), s.runs T.commitEnd = false) ∧
    (∃ (r : Req) (s : State), s.ledgOn = true ∧ s.may r 0x40090020 true none = true) ∧
    (∃ (r : Req) (s : State), s.may r 0x40090020 true none = false) ∧
    (∃ (r : Req) (s : State), s.may r 0x40090020 true none = true ∧ s.ledgOn = false) ∧
    (∃ (r : Req) (rec : BitVec 9) (s : State), s.ledgOn = true ∧ s.may r 0x40090020 true none = true ∧ rec.toNat < 16) ∧
    (∃ (r : Req) (rec : BitVec 9) (s : State), s.ledgOn = true ∧ s.may r 0x40090020 true none = true ∧ 16 ≤ rec.toNat) ∧
    (∃ (r : Req) (source : BitVec 16) (s : State), s.ledgOn = true ∧ s.may r 0x40090030 true none = true ∧ source.toNat < 0x8000) ∧
    (∃ (r : Req) (s : State), s.may r 0x40090030 true none = false) ∧
    (∃ (r : Req) (s : State), s.may r 0x40090030 true none = true ∧ s.ledgOn = false) ∧
    (∃ (r : Req) (source : BitVec 16) (s : State), s.ledgOn = true ∧ s.may r 0x40090030 true none = true ∧ 0x8000 ≤ source.toNat ∧ s.ledg.logQueue.length < 32 ∧ s.ledg.owed = 0) :=
  ⟨⟨W.wait, [], .quad, { W.up with ledg := { State.reset.ledg with waiting := [W.wait] } }, by decide⟩,
   ⟨State.reset, by decide⟩,
   ⟨W.wait, [], .quad, { W.slotRun with ledg := { W.slotRun.ledg with waiting := [W.wait] } }, by decide⟩,
   ⟨.engine 0, W.slot.setB R.SYS_STATUS.VCC5_OK false, by decide⟩,
   ⟨.hostBus, W.slot.setB R.SYS_STATUS.VCC5_OK false, by decide⟩,
   ⟨.engine 0, State.reset, by decide⟩,
   ⟨.engine 0, W.slot, by decide⟩,
   ⟨W.slot.arm T.commitAge 5, by decide⟩,
   ⟨State.reset, by decide⟩,
   ⟨W.up, by decide⟩,
   ⟨State.reset, by decide⟩,
   ⟨W.slotRun.arm T.commitEnd 5, by decide⟩,
   ⟨State.reset, by decide⟩,
   ⟨.engine 0, W.up, by decide⟩,
   ⟨.hostBus, W.up, by decide⟩,
   ⟨.engine 0, State.reset, by decide⟩,
   ⟨.engine 0, 2#9, W.up, by decide⟩,
   ⟨.engine 0, 20#9, W.up, by decide⟩,
   ⟨.engine 0, 0x100#16, W.up, by decide⟩,
   ⟨.hostBus, W.up, by decide⟩,
   ⟨.engine 0, State.reset, by decide⟩,
   ⟨.engine 0, 0x8100#16, W.up, by decide⟩⟩

/-- The hypotheses of InterruptsAndSemaphoresComplete can be met. -/
theorem test_InterruptsAndSemaphoresComplete_met :
    (∃ (s : State), s.bit R.EVT_FWD.BUSY = true ∧ s.runs T.forward = true) ∧
    (∃ (s : State), s.bit R.EVT_FWD.BUSY = false) ∧
    (∃ (e : Fin 16) (l : Nat) (s : State), s.engRuns e = true ∧ s.qualified e = some l) ∧
    (∃ (e : Fin 16) (s : State), (s.engRuns e = false ∨ s.qualified e = none)) ∧
    (∃ (e : Fin 16) (src : Byte) (lv : Nat) (rest : List (Nat × Nat)) (s : State), s.engRuns e = true ∧ (s.eng e).claims = (src.toNat, lv) :: rest) ∧
    (∃ (e : Fin 16) (s : State), s.engRuns e = false) ∧
    (∃ (e : Fin 16) (src : Byte) (s : State), s.engRuns e = true ∧ ((s.eng e).claims.head?.map Prod.fst) ≠ some src.toNat) ∧
    (∃ (e : Fin 16) (s : State), s.engRuns e = true) ∧
    (∃ (e : Fin 16) (s : State), s.engRuns e = true ∧ (s.eng e).tcmpArmed = true) ∧
    (∃ (r : Req) (n : Fin 64) (s : State), s.may r (R.SEM.reg n) false none = true ∧ s.bit (R.SEM.HELD n) = false) ∧
    (∃ (r : Req) (n : Fin 64) (s : State), s.may r (R.SEM.reg n) false none = false) ∧
    (∃ (r : Req) (n : Fin 64) (s : State), s.may r (R.SEM.reg n) false none = true ∧ s.bit (R.SEM.HELD n) = true) ∧
    (∃ (r : Req) (n : Fin 64) (w : Word) (s : State), s.may r (R.SEM.reg n) true none = true ∧ s.bit (R.SEM.HELD n) = true ∧ s.fld (R.SEM.HOLDER n) = semCode r ∧ w.field 0 5 = 0) ∧
    (∃ (r : Req) (n : Fin 64) (s : State), s.may r (R.SEM.reg n) true none = false) ∧
    (∃ (r : Req) (n : Fin 64) (w : Word) (s : State), s.may r (R.SEM.reg n) true none = true ∧ (r ≠ .hostBus ∧ (s.bit (R.SEM.HELD n) = false ∨ s.fld (R.SEM.HOLDER n) ≠ semCode r ∨ w.field 0 5 ≠ 0))) :=
  ⟨⟨(W.up.setB R.EVT_FWD.BUSY true).arm T.forward 5, by decide⟩,
   ⟨State.reset, by decide⟩,
   ⟨2, 5, W.pend, by decide⟩,
   ⟨2, State.reset, by decide⟩,
   ⟨2, 5#8, 3, [], W.pend.updEng 2 (fun x => { x with claims := [(5, 3)] }), by decide⟩,
   ⟨2, State.reset, by decide⟩,
   ⟨2, 5#8, W.pend, by decide⟩,
   ⟨2, W.pend, by decide⟩,
   ⟨2, W.pend.updEng 2 (fun x => { x with tcmpArmed := true }), by decide⟩,
   ⟨.engine 3, 2, W.up, by decide⟩,
   ⟨.hostBus, 2, W.up, by decide⟩,
   ⟨.engine 3, 2, W.up.setB (R.SEM.HELD 2) true, by decide⟩,
   ⟨.engine 3, 2, 0#32, (W.up.setB (R.SEM.HELD 2) true).setF (R.SEM.HOLDER 2) 3, by decide⟩,
   ⟨.hostBus, 2, (W.up.setB (R.SEM.HELD 2) true).setF (R.SEM.HOLDER 2) 3, by decide⟩,
   ⟨.link, 2, 0#32, (W.up.setB (R.SEM.HELD 2) true).setF (R.SEM.HOLDER 2) 3, by decide⟩⟩

/-- The hypotheses of DmaTakeoverAndMemoryComplete can be met. -/
theorem test_DmaTakeoverAndMemoryComplete_met :
    (∃ (e : Fin 16) (c : Fin 32) (s : State), s.dmaOwner c = some e.val ∧ s.dmaRuns c = true) ∧
    (∃ (e : Fin 16) (c : Fin 32) (s : State), (s.dmaOwner c ≠ some e.val ∨ s.dmaRuns c = false)) ∧
    (∃ (e : Fin 16) (c : Fin 32) (s : State), s.dmaOwner c = some e.val ∧ s.dmaRuns c = false ∧ s.engRuns e = true) ∧
    (∃ (e : Fin 16) (c : Fin 32) (s : State), (s.dmaOwner c ≠ some e.val ∨ s.dmaRuns c = true)) ∧
    (∃ (c : Fin 32) (s : State), s.dmaRuns c = true ∧ (s.dma c).stop ≠ 0 ∧ (s.dma c).stop < 16) ∧
    (∃ (c : Fin 32) (s : State), s.dmaRuns c = false) ∧
    (∃ (c : Fin 32) (o : Fin 16) (s : State), s.dmaRuns c = true ∧ (s.dma c).stop = 0 ∧ s.dmaWinner = some c.val ∧ s.dmaOwner c = some o.val ∧ s.mpuMay o 1 (s.beatFrom c) (s.dma c).width = false) ∧
    (∃ (c : Fin 32) (o : Fin 16) (s : State), s.movesBeat c o = true ∧ s.inSram (s.beatFrom c) (s.dma c).width = true ∧ s.inSram (s.beatTo c) (s.dma c).width = true ∧ s.fld (R.DMA_CH_STATUS.DONE c) + (s.dma c).width < (s.dma c).len ∧ (s.dma c).len < 2 ^ 24) ∧
    (∃ (c : Fin 32) (o : Fin 16) (s : State), s.movesBeat c o = true ∧ s.inDtcm o (s.beatFrom c) (s.dma c).width = true ∧ s.inDtcm o (s.beatTo c) (s.dma c).width = true ∧ s.fld (R.DMA_CH_STATUS.DONE c) + (s.dma c).width < (s.dma c).len ∧ (s.dma c).len < 2 ^ 24) ∧
    (∃ (c : Fin 32) (o : Fin 16) (s : State), s.movesBeat c o = true ∧ s.inSram (s.beatFrom c) (s.dma c).width = true ∧ s.inSram (s.beatTo c) (s.dma c).width = true ∧ (s.dma c).len ≤ s.fld (R.DMA_CH_STATUS.DONE c) + (s.dma c).width ∧ s.fld (R.DMA_CH_STATUS.DONE c) + (s.dma c).width < 2 ^ 24 ∧ (s.dma c).ctrl.getLsbD 5 = false) ∧
    (∃ (e : Fin 16) (s : State), s.engRuns e = true) ∧
    (∃ (e : Fin 16) (s : State), s.engRuns e = false) ∧
    (∃ (e frm : Fin 16) (s : State), s.engRuns e = true ∧ (s.fld (R.ENG_CFG.SPARE_FOR e)).testBit frm = true ∧ s.est frm = 3 ∧ s.bit (R.ENG_STATUS.TKO e) = false) ∧
    (∃ (e : Fin 16) (s : State), s.est e = 5) ∧
    (∃ (e : Fin 16) (s : State), s.est e ≠ 5) ∧
    (∃ (r : Req) (sw : BitVec 5) (s : State), s.may r R.EVT_RAISE.reg true none = true ∧ sw.toNat < 20) ∧
    (∃ (r : Req) (s : State), s.may r R.EVT_RAISE.reg true none = false) ∧
    (∃ (r : Req) (sw : BitVec 5) (s : State), s.may r R.EVT_RAISE.reg true none = true ∧ 20 ≤ sw.toNat) ∧
    (∃ (r : Req) (s : State), (r = .hostBus ∨ r = .quad) ∧ s.may r (R.EVT_PEND.reg 0) true (some 0xDB) 16 = true) ∧
    (∃ (r : Req), (r ≠ .hostBus ∧ r ≠ .quad)) ∧
    (∃ (r : Req) (s : State), ((r = .hostBus ∨ r = .quad) ∧ s.may r (R.EVT_PEND.reg 0) true (some 0xDB) 16 = false)) ∧
    (∃ (m : BusMsg) (s : State), s.takesWrite m 0xDB 16 16 = true) ∧
    (∃ (s : State), s.busOn = false) ∧
    (∃ (e : Fin 16) (s : State), s.engRuns e = true ∧ (s.eng e).mie = true ∧ (s.qualified e).isSome = true) ∧
    (∃ (e : Fin 16) (s : State), (s.engRuns e = false ∨ (s.eng e).mie = false)) ∧
    (∃ (mem : EccMem) (addr : Nat) (err : EccErr) (s : State), s.topOn = true ∧ eccHolds mem addr = true ∧ s.eccBad mem addr = false ∧ err = .single) ∧
    (∃ (mem : EccMem) (addr : Nat) (err : EccErr) (s : State), (s.topOn = false ∨ eccHolds mem addr = false ∨ s.eccBad mem addr = false ∧ err = .none)) ∧
    (∃ (mem : EccMem) (addr : Nat) (err : EccErr) (s : State), s.topOn = true ∧ eccHolds mem addr = true ∧ (s.eccBad mem addr = true ∨ err = .double)) :=
  ⟨⟨2, 4, W.dma, by decide⟩,
   ⟨2, 4, State.reset, by decide⟩,
   ⟨2, 4, W.dma.setF (R.DMA_CH_STATUS.STATE 4) 0, by decide⟩,
   ⟨2, 4, State.reset, by decide⟩,
   ⟨4, W.dma.updDma 4 (fun x => { x with stop := 3 }), by decide⟩,
   ⟨4, State.reset, by decide⟩,
   ⟨4, 2, W.dma, by decide⟩,
   ⟨4, 2, W.beatSram, by decide⟩,
   ⟨4, 2, W.beatDtcm, by decide⟩,
   ⟨4, 2, W.beatLast, by decide⟩,
   ⟨2, W.pend, by decide⟩,
   ⟨2, State.reset, by decide⟩,
   ⟨2, 3, (W.pend.setF (R.ENG_CFG.SPARE_FOR 2) 8).setF (R.ENG_STATUS.STATE 3) 3, by decide⟩,
   ⟨2, W.up.setF (R.ENG_STATUS.STATE 2) 5, by decide⟩,
   ⟨2, State.reset, by decide⟩,
   ⟨.engine 1, 3#5, W.up, by decide⟩,
   ⟨.hostBus, W.up, by decide⟩,
   ⟨.engine 1, 31#5, W.up, by decide⟩,
   ⟨.hostBus, W.host, by decide⟩,
   ⟨.link, by decide⟩,
   ⟨.hostBus, State.reset, by decide⟩,
   ⟨⟨false, [1#8, 2#8, 0#8, 0#8, 0#8, 0#8, 0#8, 0#8, 0#8, 0#8, 0#8, 0#8, 0#8, 0#8, 0#8, 0#8], 0, .good, true, []⟩, W.host, by decide⟩,
   ⟨State.reset, by decide⟩,
   ⟨2, W.pend.updEng 2 (fun x => { x with mie := true }), by decide⟩,
   ⟨2, State.reset, by decide⟩,
   ⟨.sram, 4, .single, W.up, by decide⟩,
   ⟨.sram, 4, .single, State.reset, by decide⟩,
   ⟨.sram, 4, .double, W.up, by decide⟩⟩

/-- The hypotheses of EngineInstructionsExecute can be met. -/
theorem test_EngineInstructionsExecute_met :
    (∃ (e : Fin 16) (errs : List EccErr) (len rd : Nat) (imm : Word) (s : State), (s.awake e).est e = 1 ∧ s.fetchedOp e errs = some (some (.lui rd imm), len)) ∧
    (∃ (e : Fin 16) (errs : List EccErr) (len rd : Nat) (imm : Word) (s : State), (s.awake e).est e = 1 ∧ s.fetchedOp e errs = some (some (.auipc rd imm), len)) ∧
    (∃ (e : Fin 16) (errs : List EccErr) (len f3 : Nat) (alt : Bool) (rd rs1 : Nat) (imm : Word) (s : State), (s.awake e).est e = 1 ∧ s.fetchedOp e errs = some (some (.opImm f3 alt rd rs1 imm), len)) ∧
    (∃ (e : Fin 16) (errs : List EccErr) (len f3 : Nat) (alt : Bool) (rd rs1 rs2 : Nat) (s : State), (s.awake e).est e = 1 ∧ s.fetchedOp e errs = some (some (.op f3 alt rd rs1 rs2), len)) ∧
    (∃ (e : Fin 16) (errs : List EccErr) (len f3 rd rs1 rs2 : Nat) (s : State), (s.awake e).est e = 1 ∧ s.fetchedOp e errs = some (some (.mul f3 rd rs1 rs2), len)) ∧
    (∃ (e : Fin 16) (errs : List EccErr) (len rd : Nat) (ofs : Word) (s : State), (s.awake e).est e = 1 ∧ s.fetchedOp e errs = some (some (.jal rd ofs), len)) ∧
    (∃ (e : Fin 16) (errs : List EccErr) (len rd rs1 : Nat) (ofs : Word) (s : State), (s.awake e).est e = 1 ∧ s.fetchedOp e errs = some (some (.jalr rd rs1 ofs), len)) ∧
    (∃ (e : Fin 16) (errs : List EccErr) (len f3 a b : Nat) (ofs : Word) (s : State), (s.awake e).est e = 1 ∧ s.fetchedOp e errs = some (some (.branch f3 a b ofs), len)) ∧
    (∃ (e : Fin 16) (errs : List EccErr) (len f3 rd rs1 v : Nat) (ofs : Word) (s : State), (s.awake e).est e = 1 ∧ s.fetchedOp e errs = some (some (.load f3 rd rs1 ofs), len) ∧ ((s.fetched e errs).engLoad e ((s.fetched e errs).xreg e rs1 + ofs) (rvBytes f3)).1 = some v) ∧
    (∃ (e : Fin 16) (errs : List EccErr) (len f3 rd rs1 : Nat) (ofs : Word) (s : State), (s.awake e).est e = 1 ∧ s.fetchedOp e errs = some (some (.load f3 rd rs1 ofs), len) ∧ ((s.fetched e errs).xreg e rs1 + ofs).toNat % rvBytes f3 ≠ 0) ∧
    (∃ (e : Fin 16) (errs : List EccErr) (len f3 rs1 rs2 : Nat) (ofs : Word) (s : State), (s.awake e).est e = 1 ∧ s.fetchedOp e errs = some (some (.store f3 rs1 rs2 ofs), len) ∧ ((s.fetched e errs).xreg e rs1 + ofs).toNat % rvBytes f3 = 0 ∧ (s.fetched e errs).mpuMay e 2 ((s.fetched e errs).xreg e rs1 + ofs).toNat (rvBytes f3) = true ∧ 0x10000 ≤ ((s.fetched e errs).xreg e rs1 + ofs).toNat ∧ ((s.fetched e errs).xreg e rs1 + ofs).toNat < 0x20000 ∧ ((s.fetched e errs).eng e).dtcmBad.at false ((((s.fetched e errs).xreg e rs1 + ofs).toNat - 0x10000) / 4) = false ∧ (s.fetched e errs).evt.eccNext = []) ∧
    (∃ (e : Fin 16) (errs : List EccErr) (len f3 rs1 rs2 : Nat) (ofs : Word) (s : State), (s.awake e).est e = 1 ∧ s.fetchedOp e errs = some (some (.store f3 rs1 rs2 ofs), len) ∧ ((s.fetched e errs).xreg e rs1 + ofs).toNat % rvBytes f3 = 0 ∧ (s.fetched e errs).mpuMay e 2 ((s.fetched e errs).xreg e rs1 + ofs).toNat (rvBytes f3) = true ∧ (s.fetched e errs).inSram ((s.fetched e errs).xreg e rs1 + ofs).toNat (rvBytes f3) = true ∧ (s.fetched e errs).evt.eccNext = []) ∧
    (∃ (e : Fin 16) (errs : List EccErr) (len f3 rs1 rs2 : Nat) (ofs : Word) (s : State), (s.awake e).est e = 1 ∧ s.fetchedOp e errs = some (some (.store f3 rs1 rs2 ofs), len) ∧ ((s.fetched e errs).xreg e rs1 + ofs).toNat % 4 = 0 ∧ rvBytes f3 = 4 ∧ (s.fetched e errs).mpuMay e 2 ((s.fetched e errs).xreg e rs1 + ofs).toNat (rvBytes f3) = true ∧ 0x40000000 ≤ ((s.fetched e errs).xreg e rs1 + ofs).toNat ∧ ((s.fetched e errs).xreg e rs1 + ofs).toNat < 0x400E0000) ∧
    (∃ (e : Fin 16) (errs : List EccErr) (len f3 rs1 rs2 : Nat) (ofs : Word) (s : State), (s.awake e).est e = 1 ∧ s.fetchedOp e errs = some (some (.store f3 rs1 rs2 ofs), len) ∧ ((s.fetched e errs).xreg e rs1 + ofs).toNat % rvBytes f3 ≠ 0) ∧
    (∃ (e : Fin 16) (errs : List EccErr) (len f3 rs1 rs2 : Nat) (ofs : Word) (s : State), (s.awake e).est e = 1 ∧ s.fetchedOp e errs = some (some (.store f3 rs1 rs2 ofs), len) ∧ ((s.fetched e errs).xreg e rs1 + ofs).toNat % rvBytes f3 = 0 ∧ (s.fetched e errs).mpuMay e 2 ((s.fetched e errs).xreg e rs1 + ofs).toNat (rvBytes f3) = false) ∧
    (∃ (e : Fin 16) (errs : List EccErr) (len f3 rd rs1 : Nat) (ofs : Word) (s : State), (s.awake e).est e = 1 ∧ s.fetchedOp e errs = some (some (.load f3 rd rs1 ofs), len) ∧ ((s.fetched e errs).xreg e rs1 + ofs).toNat % rvBytes f3 = 0 ∧ (s.fetched e errs).mpuMay e 1 ((s.fetched e errs).xreg e rs1 + ofs).toNat (rvBytes f3) = false) ∧
    (∃ (e : Fin 16) (errs : List EccErr) (len f3 rd rs1 c : Nat) (old : Word) (s : State), (s.awake e).est e = 1 ∧ s.fetchedOp e errs = some (some (.csr f3 rd rs1 c), len) ∧ rs1 = 0 ∧ f3 % 4 ≠ 1 ∧ ((s.fetched e errs).csrRead e c).1 = some old ∧ c ≠ 0xB00 ∧ c ≠ 0xB80) ∧
    (∃ (e : Fin 16) (errs : List EccErr) (len f3 rd rs1 : Nat) (old : Word) (s : State), (s.awake e).est e = 1 ∧ s.fetchedOp e errs = some (some (.csr f3 rd rs1 0x304), len) ∧ (f3 % 4 = 1 ∨ rs1 ≠ 0) ∧ ((s.fetched e errs).csrRead e 0x304).1 = some old) ∧
    (∃ (e : Fin 16) (errs : List EccErr) (len f3 rd rs1 : Nat) (old : Word) (s : State), (s.awake e).est e = 1 ∧ s.fetchedOp e errs = some (some (.csr f3 rd rs1 0x305), len) ∧ (f3 % 4 = 1 ∨ rs1 ≠ 0) ∧ ((s.fetched e errs).csrRead e 0x305).1 = some old) ∧
    (∃ (e : Fin 16) (errs : List EccErr) (len f3 rd rs1 : Nat) (old : Word) (s : State), (s.awake e).est e = 1 ∧ s.fetchedOp e errs = some (some (.csr f3 rd rs1 0x340), len) ∧ (f3 % 4 = 1 ∨ rs1 ≠ 0) ∧ ((s.fetched e errs).csrRead e 0x340).1 = some old) ∧
    (∃ (e : Fin 16) (errs : List EccErr) (len f3 rd rs1 : Nat) (old : Word) (s : State), (s.awake e).est e = 1 ∧ s.fetchedOp e errs = some (some (.csr f3 rd rs1 0x341), len) ∧ (f3 % 4 = 1 ∨ rs1 ≠ 0) ∧ ((s.fetched e errs).csrRead e 0x341).1 = some old) ∧
    (∃ (e : Fin 16) (errs : List EccErr) (len f3 rd rs1 : Nat) (old : Word) (s : State), (s.awake e).est e = 1 ∧ s.fetchedOp e errs = some (some (.csr f3 rd rs1 0x342), len) ∧ (f3 % 4 = 1 ∨ rs1 ≠ 0) ∧ ((s.fetched e errs).csrRead e 0x342).1 = some old) ∧
    (∃ (e : Fin 16) (errs : List EccErr) (len f3 rd rs1 : Nat) (old : Word) (s : State), (s.awake e).est e = 1 ∧ s.fetchedOp e errs = some (some (.csr f3 rd rs1 0x343), len) ∧ (f3 % 4 = 1 ∨ rs1 ≠ 0) ∧ ((s.fetched e errs).csrRead e 0x343).1 = some old) ∧
    (∃ (e : Fin 16) (errs : List EccErr) (len f3 rd rs1 : Nat) (old : Word) (s : State), (s.awake e).est e = 1 ∧ s.fetchedOp e errs = some (some (.csr f3 rd rs1 0x300), len) ∧ (f3 % 4 = 1 ∨ rs1 ≠ 0) ∧ ((s.fetched e errs).csrRead e 0x300).1 = some old) ∧
    (∃ (e : Fin 16) (errs : List EccErr) (len f3 rd rs1 : Nat) (old : Word) (s : State), (s.awake e).est e = 1 ∧ s.fetchedOp e errs = some (some (.csr f3 rd rs1 0xB02), len) ∧ (f3 % 4 = 1 ∨ rs1 ≠ 0) ∧ ((s.fetched e errs).csrRead e 0xB02).1 = some old) ∧
    (∃ (e : Fin 16) (errs : List EccErr) (len f3 rd rs1 : Nat) (old : Word) (s : State), (s.awake e).est e = 1 ∧ s.fetchedOp e errs = some (some (.csr f3 rd rs1 0xB82), len) ∧ (f3 % 4 = 1 ∨ rs1 ≠ 0) ∧ ((s.fetched e errs).csrRead e 0xB82).1 = some old) ∧
    (∃ (e : Fin 16) (errs : List EccErr) (len f3 rd rs1 c : Nat) (s : State), (s.awake e).est e = 1 ∧ s.fetchedOp e errs = some (some (.csr f3 rd rs1 c), len) ∧ ((f3 % 4 = 1 ∨ rs1 ≠ 0) ∧ c / 1024 = 3 ∨ ((s.fetched e errs).csrRead e c).1 = none)) ∧
    (∃ (e : Fin 16) (errs : List EccErr) (len : Nat) (s : State), (s.awake e).est e = 1 ∧ s.fetchedOp e errs = some (some (.fence), len)) ∧
    (∃ (e : Fin 16) (errs : List EccErr) (len : Nat) (s : State), (s.awake e).est e = 1 ∧ s.fetchedOp e errs = some (some (.ecall), len)) ∧
    (∃ (e : Fin 16) (errs : List EccErr) (len : Nat) (s : State), (s.awake e).est e = 1 ∧ s.fetchedOp e errs = some (some (.ebreak), len)) ∧
    (∃ (e : Fin 16) (errs : List EccErr) (len : Nat) (s : State), (s.awake e).est e = 1 ∧ s.fetchedOp e errs = some (some (.mret), len)) ∧
    (∃ (e : Fin 16) (errs : List EccErr) (len : Nat) (s : State), (s.awake e).est e = 1 ∧ s.fetchedOp e errs = some (some (.wfi), len)) ∧
    (∃ (e : Fin 16) (s : State), (s.awake e).est e = 1 ∧ (s.awake e).mpuMay e 0 ((s.awake e).eng e).pc.toNat 2 = false) ∧
    (∃ (e : Fin 16) (errs : List EccErr) (len : Nat) (s : State), (s.awake e).est e = 1 ∧ s.fetchedOp e errs = some (none, len)) ∧
    (∃ (e : Fin 16) (s : State), (s.est e ≠ 1 ∧ (s.est e ≠ 2 ∨ (s.qualified e).isSome = false))) :=
  ⟨⟨2, [], 4, 5, 0x12345000#32, W.engine 0x123452B7#32, by decide⟩,
   ⟨2, [], 4, 5, 0x12345000#32, W.engine 0x12345297#32, by decide⟩,
   ⟨2, [], 4, 0, false, 5, 6, 7#32, W.engine 0x00730293#32, by decide⟩,
   ⟨2, [], 4, 0, true, 5, 6, 7, W.engine 0x407302B3#32, by decide⟩,
   ⟨2, [], 4, 0, 5, 6, 7, W.engine 0x027302B3#32, by decide⟩,
   ⟨2, [], 4, 5, 8#32, W.engine 0x008002EF#32, by decide +kernel⟩,
   ⟨2, [], 4, 5, 6, 8#32, W.engine 0x008302E7#32, by decide⟩,
   ⟨2, [], 4, 0, 6, 7, 8#32, W.engine 0x00730463#32, by decide +kernel⟩,
   ⟨2, [], 4, 2, 5, 6, 0, 4#32, W.engine 0x00432283#32, by decide⟩,
   ⟨2, [], 4, 2, 5, 6, 3#32, W.engine 0x00332283#32, by decide⟩,
   ⟨2, [], 4, 2, 6, 7, 4#32, W.engine 0x00732223#32, by decide⟩,
   ⟨2, [], 4, 2, 6, 7, 4#32, (W.engine 0x00732223#32).updEng 2 (fun x => { x with xs := [(6, 0x20000000#32), (7, 9#32)] }), by decide⟩,
   ⟨2, [], 4, 2, 6, 7, 4#32, (W.engine 0x00732223#32).updEng 2 (fun x => { x with xs := [(6, 0x40025000#32), (7, 9#32)] }), by decide⟩,
   ⟨2, [], 4, 2, 6, 7, 3#32, W.engine 0x007321A3#32, by decide⟩,
   ⟨2, [], 4, 2, 6, 7, 4#32, (W.engine 0x00732223#32).setB (R.ENG_MPU_BASE.W 2 0) false, by decide⟩,
   ⟨2, [], 4, 2, 5, 6, 4#32, (W.engine 0x00432283#32).setB (R.ENG_MPU_BASE.R 2 0) false, by decide⟩,
   ⟨2, [], 4, 2, 5, 0, 0x340, 0#32, W.engine 0x340022F3#32, by decide⟩,
   ⟨2, [], 4, 1, 5, 7, 0#32, W.engine 0x304392F3#32, by decide⟩,
   ⟨2, [], 4, 1, 5, 7, 0#32, W.engine 0x305392F3#32, by decide⟩,
   ⟨2, [], 4, 1, 5, 7, 0#32, W.engine 0x340392F3#32, by decide⟩,
   ⟨2, [], 4, 1, 5, 7, 0#32, W.engine 0x341392F3#32, by decide⟩,
   ⟨2, [], 4, 1, 5, 7, 0#32, W.engine 0x342392F3#32, by decide⟩,
   ⟨2, [], 4, 1, 5, 7, 0#32, W.engine 0x343392F3#32, by decide⟩,
   ⟨2, [], 4, 1, 5, 7, 0x1800#32, W.engine 0x300392F3#32, by decide⟩,
   ⟨2, [], 4, 1, 5, 7, 0#32, W.engine 0xB02392F3#32, by decide⟩,
   ⟨2, [], 4, 1, 5, 7, 0#32, W.engine 0xB82392F3#32, by decide⟩,
   ⟨2, [], 4, 1, 5, 7, 0xF14, W.engine 0xF14392F3#32, by decide⟩,
   ⟨2, [], 4, W.engine 0x0FF0000F#32, by decide⟩,
   ⟨2, [], 4, W.engine 0x00000073#32, by decide⟩,
   ⟨2, [], 4, W.engine 0x00100073#32, by decide⟩,
   ⟨2, [], 4, W.engine 0x30200073#32, by decide⟩,
   ⟨2, [], 4, W.engine 0x10500073#32, by decide⟩,
   ⟨2, (W.engine 0x00000013#32).setB (R.ENG_MPU_BASE.X 2 0) false, by decide⟩,
   ⟨2, [], 4, W.engine 0xFFFFFFFF#32, by decide⟩,
   ⟨2, State.reset, by decide⟩⟩

/-- The hypotheses of LinkPortsAndTimeComplete can be met. -/
theorem test_LinkPortsAndTimeComplete_met :
    (∃ (p : Fin 4) (s : State), s.portState p = 1) ∧
    (∃ (p : Fin 4) (s : State), s.portState p ≠ 1) ∧
    (∃ (p : Fin 4) (s : State), s.portState p = 1 ∧ s.sys.pllE ≠ .out) ∧
    (∃ (p : Fin 4) (s : State), (s.portState p ≠ 1 ∨ s.sys.pllE = .out)) ∧
    (∃ (p : Fin 4) (s : State), s.portUp p = true) ∧
    (∃ (p : Fin 4) (s : State), s.portUp p = false) ∧
    (∃ (p : Fin 4) (s : State), s.runs (T.hello p) = true ∧ s.portUp p = true) ∧
    (∃ (p : Fin 4) (s : State), s.runs (T.hello p) = false) ∧
    (∃ (p : Fin 4) (s : State), s.runs (T.hello p) = true ∧ s.portUp p = false) ∧
    (∃ (p : Fin 4) (hash : BitVec 64) (s : State), s.portUp p = true ∧ s.sys.pllE ≠ .out ∧ ((s.port p).peerHash = 0#64 ∨ (s.port p).peerHash = hash)) ∧
    (∃ (p : Fin 4) (s : State), (s.portUp p = false ∨ s.sys.pllE = .out)) ∧
    (∃ (p : Fin 4) (hash : BitVec 64) (f : FrameId) (s : State), s.portUp p = true ∧ s.sys.pllE ≠ .out ∧ f.crcOk = true ∧ ((s.port p).peerHash = 0#64 ∨ (s.port p).peerHash = hash)) ∧
    (∃ (p : Fin 4) (f : FrameId) (s : State), s.portUp p = true ∧ s.sys.pllE ≠ .out ∧ f.crcOk = false ∧ (s.port p).bad + 1 < 16) ∧
    (∃ (p : Fin 4) (hash : BitVec 64) (f : FrameId) (s : State), s.portUp p = true ∧ s.sys.pllE ≠ .out ∧ f.crcOk = true ∧ s.worker = true ∧ (s.port p).peerHash ≠ 0#64 ∧ (s.port p).peerHash ≠ hash ∧ s.bestUp = s.upPort ∧ s.fld R.LINK_ID.DEPTH < 4) ∧
    (∃ (p : Fin 4) (role : Byte) (f : FrameId) (s : State), s.portUp p = true ∧ s.sys.pllE ≠ .out ∧ f.crcOk = true ∧ s.manager = true ∧ role.toNat = 1 ∧ s.fld (R.LINK_PORT_STATUS.STATE p) ≠ 4) ∧
    (∃ (p : Fin 4) (role devPin dev : Byte) (hash : BitVec 64) (toManager : Bool) (f : FrameId) (hops d : Nat) (s : State), s.portUp p = true ∧ s.sys.pllE ≠ .out ∧ f.crcOk = true ∧ s.manager = true ∧ role.toNat ≠ 1 ∧ (dev = 0xFF#8 ∨ s.link.routes.at none dev.toNat = none ∨ s.link.routes.at none dev.toNat ≠ some p.val ∧ (toManager = false ∨ (s.port p).peerHash ≠ 0#64 ∧ (s.port p).peerHash ≠ hash)) ∧ ((1 + (if (s.port p).peerHash ≠ 0#64 ∧ (s.port p).peerHash ≠ hash then max 1 hops else 0)) ≤ 4) ∧ s.numberFor devPin.toNat hash = some d) ∧
    (∃ (p : Fin 4) (role : Byte) (hash : BitVec 64) (f : FrameId) (hops : Nat) (s : State), s.portUp p = true ∧ s.sys.pllE ≠ .out ∧ f.crcOk = true ∧ s.manager = true ∧ role.toNat ≠ 1 ∧ (4 < (1 + (if (s.port p).peerHash ≠ 0#64 ∧ (s.port p).peerHash ≠ hash then max 1 hops else 0)))) ∧
    (∃ (f : FrameId) (hash : BitVec 64) (depth : Byte) (s : State), s.hears f.port = true ∧ s.manager = false ∧ f.crcOk = true ∧ hash = s.ownHash ∧ s.ackGiven f = none ∧ s.upPort.isSome = true ∧ depth.toNat ≤ 4) ∧
    (∃ (f : FrameId) (hash : BitVec 64) (depth : Byte) (s : State), s.hears f.port = true ∧ s.manager = false ∧ f.crcOk = true ∧ hash = s.ownHash ∧ s.ackGiven f = none ∧ (s.upPort = none ∨ 4 < depth.toNat)) ∧
    (∃ (f : FrameId) (hash : BitVec 64) (body : List Byte) (s : State), s.hears f.port = true ∧ s.manager = false ∧ f.crcOk = true ∧ hash = s.ownHash ∧ s.ackGiven f = some body) ∧
    (∃ (f : FrameId) (hash : BitVec 64) (q : Nat) (s : State), s.hears f.port = true ∧ s.manager = false ∧ f.crcOk = true ∧ hash ≠ s.ownHash ∧ s.link.hellos.find? (fun e => e.1 = hash) = some (hash, q)) ∧
    (∃ (f : FrameId) (hash : BitVec 64) (s : State), s.hears f.port = true ∧ s.manager = false ∧ f.crcOk = true ∧ hash ≠ s.ownHash ∧ s.link.hellos.find? (fun e => e.1 = hash) = none) ∧
    (∃ (f : FrameId) (s : State), (s.hears f.port = false ∨ s.manager = true)) ∧
    (∃ (f : FrameId) (s : State), s.hears f.port = true ∧ s.manager = false ∧ f.crcOk = false ∧ (s.port f.port).bad + 1 < 16) ∧
    (∃ (p : Nat) (s : State), s.runs T.tsync = true ∧ s.upPort = some p ∧ s.worker = true ∧ s.sys.pllE ≠ .out) ∧
    (∃ (s : State), s.runs T.tsync = false) ∧
    (∃ (p : Fin 4) (s : State), s.hears p = true ∧ s.upPort ≠ some p.val ∧ s.bit R.LINK_ID.JOINED = true ∧ BitVec.ofNat 8 s.dev ≠ 0xFF#8) ∧
    (∃ (p : Fin 4) (f : FrameId) (s : State), s.gets f = true ∧ f.dst ≠ 0xFF#8 ∧ s.upPort ≠ some p.val ∧ s.bit R.LINK_ID.JOINED = true) ∧
    (∃ (p : Fin 4) (s : State), s.hears p = true ∧ (s.upPort = some p.val ∨ s.bit R.LINK_ID.JOINED = false)) ∧
    (∃ (p : Nat) (s : State), s.worker = true ∧ s.upPort = some p ∧ s.hears p = true ∧ p < 4 ∧ s.dev ≠ 0xFF) ∧
    (∃ (p : Nat) (s : State), s.worker = true ∧ s.upPort = some p ∧ s.hears p = true ∧ p < 4 ∧ s.dev ≠ 0xFF ∧ s.fld R.LINK_TIME_STATUS.STATE = 1 ∧ s.link.first = true) ∧
    (∃ (t1 t2 t3 t4 : Int) (p : Nat) (s : State), s.worker = true ∧ s.upPort = some p ∧ s.hears p = true ∧ p < 4 ∧ s.dev ≠ 0xFF ∧ s.fld R.LINK_TIME_STATUS.STATE = 1 ∧ s.link.first = false ∧ (roundDiv ((t2 - t1) - (t4 - t3)) 4).natAbs ≤ max 1 (s.fld R.LINK_TCFG.STEP) * 1000) ∧
    (∃ (t1 t2 t3 t4 : Int) (p : Nat) (s : State), s.worker = true ∧ s.upPort = some p ∧ s.hears p = true ∧ p < 4 ∧ s.dev ≠ 0xFF ∧ s.fld R.LINK_TIME_STATUS.STATE = 1 ∧ s.link.first = false ∧ max 1 (s.fld R.LINK_TCFG.STEP) * 1000 < (roundDiv ((t2 - t1) - (t4 - t3)) 4).natAbs) ∧
    (∃ (t1 t2 t3 t4 : Int) (p : Nat) (s : State), s.worker = true ∧ s.upPort = some p ∧ s.hears p = true ∧ p < 4 ∧ s.dev ≠ 0xFF ∧ s.fld R.LINK_TIME_STATUS.STATE = 2 ∧ ((roundDiv ((t2 - t1) - (t4 - t3)) 4).natAbs ≤ 200 ∨ s.link.far < 2)) ∧
    (∃ (t1 t2 t3 t4 : Int) (p : Nat) (s : State), s.worker = true ∧ s.upPort = some p ∧ s.hears p = true ∧ p < 4 ∧ s.dev ≠ 0xFF ∧ s.fld R.LINK_TIME_STATUS.STATE = 2 ∧ 200 < (roundDiv ((t2 - t1) - (t4 - t3)) 4).natAbs ∧ 2 ≤ s.link.far) ∧
    (∃ (f : FrameId) (s : State), s.gets f = true ∧ f.dst ≠ 0xFF#8 ∧ s.worker = true ∧ s.upPort.isSome = true) ∧
    (∃ (f : FrameId) (s : State), s.gets f = true ∧ f.dst ≠ 0xFF#8 ∧ (s.worker = false ∨ s.upPort = none)) ∧
    (∃ (s : State), s.runs T.align = true ∧ s.worker = true ∧ s.upPort.isSome = true) ∧
    (∃ (s : State), s.runs T.align = false) ∧
    (∃ (s : State), s.runs T.align = true ∧ (s.worker = false ∨ s.upPort = none)) :=
  ⟨⟨1, W.link0, by decide⟩,
   ⟨1, State.reset, by decide⟩,
   ⟨1, W.link0, by decide⟩,
   ⟨1, State.reset, by decide⟩,
   ⟨1, W.worker, by decide⟩,
   ⟨1, State.reset, by decide⟩,
   ⟨1, W.worker.arm (T.hello 1) 5, by decide⟩,
   ⟨1, State.reset, by decide⟩,
   ⟨1, (W.worker.setF (R.LINK_PORT_STATUS.STATE 1) 0).arm (T.hello 1) 5, by decide⟩,
   ⟨1, 9#64, W.worker, by decide⟩,
   ⟨1, State.reset, by decide⟩,
   ⟨1, 9#64, ⟨1, 3#8, 0xFE#8, 7#16, true⟩, W.worker, by decide⟩,
   ⟨1, ⟨1, 3#8, 0xFE#8, 7#16, false⟩, W.worker, by decide⟩,
   ⟨2, 9#64, ⟨1, 3#8, 0xFE#8, 7#16, true⟩, W.worker.updPort 2 (fun x => { x with peerHash := 4#64 }) |>.setF (R.LINK_PORT_STATUS.STATE 2) 2 |>.setF R.LINK_ID.DEPTH 1 |>.updPort 1 (fun x => { x with leads := true, peerDepth := 0 }), by decide⟩,
   ⟨1, 1#8, ⟨1, 3#8, 0xFE#8, 7#16, true⟩, W.manager, by decide⟩,
   ⟨2, 0#8, 0xFF#8, 0xFF#8, 9#64, false, ⟨1, 3#8, 0xFE#8, 7#16, true⟩, 0, 1, W.manager.setF (R.LINK_PORT_STATUS.STATE 2) 2, by decide⟩,
   ⟨1, 0#8, 9#64, ⟨1, 3#8, 0xFE#8, 7#16, true⟩, 4, W.manager.updPort 1 (fun x => { x with peerHash := 4#64 }), by decide⟩,
   ⟨⟨1, 0#8, 5#8, 7#16, true⟩, W.worker.ownHash, 1#8, W.worker, by refine ⟨?_, ?_, ?_, ?_, ?_, ?_, ?_⟩ <;> first | decide | rfl⟩,
   ⟨⟨1, 0#8, 5#8, 7#16, true⟩, W.worker.ownHash, 5#8, W.worker, by refine ⟨?_, ?_, ?_, ?_, ?_, ?_⟩ <;> first | decide | rfl⟩,
   ⟨⟨1, 0#8, 5#8, 7#16, true⟩, W.worker.ownHash, [7#8, 0#8, 0#8], W.worker.updLink (fun l => { l with seen := [(0, [(7, [7#8, 0#8, 0#8])])] }), by refine ⟨?_, ?_, ?_, ?_, ?_⟩ <;> first | decide | rfl⟩,
   ⟨⟨1, 0#8, 5#8, 7#16, true⟩, W.worker.ownHash + 1#64, 2, W.worker.updLink (fun l => { l with hellos := [(W.worker.ownHash + 1#64, 2)] }), by refine ⟨?_, ?_, ?_, ?_, ?_⟩ <;> first | decide | rfl | (show W.worker.ownHash + 1#64 ≠ W.worker.ownHash; bv_omega) | simp [State.updLink]⟩,
   ⟨⟨1, 0#8, 5#8, 7#16, true⟩, W.worker.ownHash + 1#64, W.worker, by refine ⟨?_, ?_, ?_, ?_, ?_⟩ <;> first | decide | rfl | bv_omega⟩,
   ⟨⟨1, 0#8, 5#8, 7#16, true⟩, W.up, by decide⟩,
   ⟨⟨1, 0#8, 5#8, 7#16, false⟩, W.worker, by decide⟩,
   ⟨1, W.worker.arm T.tsync 5, by decide⟩,
   ⟨State.reset, by decide⟩,
   ⟨2, W.worker.setF (R.LINK_PORT_STATUS.STATE 2) 2, by decide⟩,
   ⟨2, ⟨2, 6#8, 5#8, 7#16, true⟩, W.worker.setF (R.LINK_PORT_STATUS.STATE 2) 2, by decide⟩,
   ⟨1, W.worker, by decide⟩,
   ⟨1, W.worker, by decide⟩,
   ⟨1, (W.worker.setF R.LINK_TIME_STATUS.STATE 1).updLink (fun l => { l with first := true }), by decide⟩,
   ⟨0, 40, 50, 30, 1, (W.worker.setF R.LINK_TIME_STATUS.STATE 1).updLink (fun l => { l with first := false }), by decide⟩,
   ⟨0, 400000, 0, 0, 1, (W.worker.setF R.LINK_TIME_STATUS.STATE 1).updLink (fun l => { l with first := false }), by decide⟩,
   ⟨0, 40, 50, 30, 1, W.worker.setF R.LINK_TIME_STATUS.STATE 2, by decide⟩,
   ⟨0, 4000, 0, 0, 1, (W.worker.setF R.LINK_TIME_STATUS.STATE 2).updLink (fun l => { l with far := 2 }), by decide⟩,
   ⟨⟨1, 0#8, 5#8, 7#16, true⟩, W.worker, by decide⟩,
   ⟨⟨1, 0#8, 5#8, 7#16, true⟩, W.worker.setF (R.LINK_PORT_STATUS.STATE 1) 2, by decide⟩,
   ⟨W.worker.arm T.align 5, by decide⟩,
   ⟨State.reset, by decide⟩,
   ⟨(W.worker.setF (R.LINK_PORT_STATUS.STATE 1) 2).arm T.align 5, by decide⟩⟩

/-- The hypotheses of RemoteStatusAndFramesComplete can be met. -/
theorem test_RemoteStatusAndFramesComplete_met :
    (∃ (p : Fin 4) (dev rs chk : Byte) (s : State), s.hears p = true ∧ crc8 [dev, rs] = chk ∧ dev.toNat < 64 ∧ dev.toNat ≠ s.dev) ∧
    (∃ (p : Fin 4) (s : State), s.hears p = false) ∧
    (∃ (p : Fin 4) (dev rs chk : Byte) (s : State), s.hears p = true ∧ crc8 [dev, rs] ≠ chk ∧ (s.port p).bad + 1 < 16) ∧
    (∃ (s : State), s.runs T.rvec = true) ∧
    (∃ (s : State), s.runs T.rvec = false) ∧
    (∃ (p : Fin 4) (dev : Byte) (s : State), s.hears p = true ∧ dev.toNat < 64 ∧ dev.toNat ≠ s.dev) ∧
    (∃ (p : Fin 4) (dev : Byte) (f : FrameId) (s : State), s.hears p = true ∧ f.crcOk = true ∧ dev.toNat < 64 ∧ dev.toNat ≠ s.dev) ∧
    (∃ (p : Fin 4) (f : FrameId) (s : State), s.hears p = true ∧ f.crcOk = false ∧ (s.port p).bad + 1 < 16) ∧
    (∃ (dev : Fin 64) (s : State), s.runs (T.stale dev) = true) ∧
    (∃ (dev : Fin 64) (s : State), s.runs (T.stale dev) = false) ∧
    (∃ (v : Nat) (s : State), s.nextForward = some v ∧ s.bit R.EVT_FWD.BUSY = false) ∧
    (∃ (s : State), (s.nextForward = none ∨ s.bit R.EVT_FWD.BUSY = true)) ∧
    (∃ (f : FrameId) (s : State), s.takes f = true) ∧
    (∃ (src : Byte) (seq : BitVec 16) (f : FrameId) (o : OutFrame) (s : State), s.gets f = true ∧ f.dst ≠ 0xFF#8 ∧ s.link.out.find? (fun o => decide (o.seq = seq.toNat) && o.waits.contains src.toNat) = some o ∧ o.waits = [src.toNat] ∧ o.typ = 6) ∧
    (∃ (src : Byte) (seq : BitVec 16) (result : Byte) (data : List Byte) (f : FrameId) (o : OutFrame) (s : State), s.gets f = true ∧ f.dst ≠ 0xFF#8 ∧ s.link.out.find? (fun o => decide (o.seq = seq.toNat) && o.waits.contains src.toNat) = some o ∧ o.waits = [src.toNat] ∧ o.typ = 0x0B ∧ o.engine = none ∧ s.bit R.LINK_CFG.AUTOEXP = true ∧ result.toNat = 0 ∧ src.toNat < 64 ∧ data.length = 9) ∧
    (∃ (src : Byte) (seq : BitVec 16) (f : FrameId) (o : OutFrame) (e : Nat) (s : State), s.gets f = true ∧ f.dst ≠ 0xFF#8 ∧ s.link.out.find? (fun o => decide (o.seq = seq.toNat) && o.waits.contains src.toNat) = some o ∧ o.waits = [src.toNat] ∧ o.typ = 0x12 ∧ o.engine = some e ∧ e < 16) ∧
    (∃ (src : Byte) (seq : BitVec 16) (f : FrameId) (o : OutFrame) (s : State), s.gets f = true ∧ f.dst ≠ 0xFF#8 ∧ s.link.out.find? (fun o => decide (o.seq = seq.toNat) && o.waits.contains src.toNat) = some o ∧ (o.waits.filter (fun d => d ≠ src.toNat)) ≠ [] ∧ o.typ = 6) ∧
    (∃ (src : Byte) (seq : BitVec 16) (f : FrameId) (s : State), s.gets f = true ∧ f.dst ≠ 0xFF#8 ∧ s.link.out.find? (fun o => decide (o.seq = seq.toNat) && o.waits.contains src.toNat) = none) ∧
    (∃ (src : Byte) (seq : BitVec 16) (o : OutFrame) (p : Nat) (s : State), s.portTo src.toNat = some p ∧ p < 4 ∧ s.hears p = true ∧ s.dev < 255 ∧ s.link.out.find? (fun o => decide (o.seq = seq.toNat) && o.waits.contains src.toNat) = some o ∧ o.waits = [src.toNat] ∧ o.typ = 6) ∧
    (∃ (seq : BitVec 16) (o : OutFrame) (s : State), s.runs (T.resend seq.toNat) = true ∧ s.link.out.find? (fun o => decide (o.seq = seq.toNat)) = some o ∧ 8 ≤ o.sends ∧ o.typ ≠ 0x11) ∧
    (∃ (seq : BitVec 16) (s : State), s.runs (T.resend seq.toNat) = false) ∧
    (∃ (seq : BitVec 16) (o : OutFrame) (s : State), s.runs (T.resend seq.toNat) = true ∧ s.link.out.find? (fun o => decide (o.seq = seq.toNat)) = some o ∧ o.sends < 8) ∧
    ((∃ (ak : Bool), generalFrame (.probe 0#8 0#32 10#16 (some ⟨1, 0#8, 5#8, 7#16, true⟩)) = some (⟨1, 0#8, 5#8, 7#16, true⟩, 8, leBytes 4 0 ++ leBytes 2 10, ak)) ∧ W.up.hears 1 = false) ∧
    ((∃ (ak : Bool), generalFrame (.probe 0#8 0#32 10#16 (some ⟨1, 0#8, 5#8, 7#16, false⟩)) = some (⟨1, 0#8, 5#8, 7#16, false⟩, 8, leBytes 4 0 ++ leBytes 2 10, ak)) ∧ W.worker.hears 1 = true ∧ (W.worker.port 1).bad + 1 < 16) ∧
    ((∃ (ak : Bool), generalFrame (.probe 0#8 0#32 10#16 (some ⟨1, 0#8, 5#8, 7#16, false⟩)) = some (⟨1, 0#8, 5#8, 7#16, false⟩, 8, leBytes 4 0 ++ leBytes 2 10, ak)) ∧ W.worker.hears 1 = true ∧ 15 ≤ ((W.worker.updPort 1 (fun x => { x with bad := 15 })).port 1).bad) ∧
    ((∃ (ak : Bool), generalFrame (.probe 0#8 0#32 10#16 (some ⟨1, 0#8, 6#8, 7#16, true⟩)) = some (⟨1, 0#8, 6#8, 7#16, true⟩, 8, leBytes 4 0 ++ leBytes 2 10, ak)) ∧ W.worker.hears 1 = true ∧ W.worker.dev = 5) ∧
    ((∃ (ak : Bool), generalFrame (.probe 0#8 0#32 10#16 (some ⟨1, 0#8, 0xFF#8, 7#16, true⟩)) = some (⟨1, 0#8, 0xFF#8, 7#16, true⟩, 8, leBytes 4 0 ++ leBytes 2 10, ak)) ∧ (W.worker.setB R.LINK_ID.JOINED false).hears 1 = true ∧ (W.worker.setB R.LINK_ID.JOINED false).bit R.LINK_ID.JOINED = false ∧ (W.worker.setB R.LINK_ID.JOINED false).manager = false) ∧
    ((∃ (ak : Bool), generalFrame (.probe 0#8 0#32 10#16 (some ⟨1, 0#8, 0xFF#8, 7#16, true⟩)) = some (⟨1, 0#8, 0xFF#8, 7#16, true⟩, 8, leBytes 4 0 ++ leBytes 2 10, ak)) ∧ W.worker.hears 1 = true ∧ W.worker.bit R.LINK_ID.JOINED = true) ∧
    (generalFrame (.go ⟨1, 0#8, 5#8, 7#16, true⟩ 1#32) = some (⟨1, 0#8, 5#8, 7#16, true⟩, 0x0F, leBytes 4 1, true) ∧ W.worker.gets ⟨1, 0#8, 5#8, 7#16, true⟩ = true ∧ (W.worker.updLink (fun l => { l with seen := [(0, [(7, [7#8, 0#8, 0#8])])] })).ackGiven ⟨1, 0#8, 5#8, 7#16, true⟩ = some [7#8, 0#8, 0#8]) :=
  ⟨⟨1, 7#8, 0x83#8, crc8 [7#8, 0x83#8], W.worker, by decide⟩,
   ⟨1, W.up, by decide⟩,
   ⟨1, 7#8, 0x83#8, 0#8, W.worker, by decide⟩,
   ⟨W.worker.arm T.rvec 5, by decide⟩,
   ⟨State.reset, by decide⟩,
   ⟨1, 7#8, W.worker, by decide⟩,
   ⟨1, 7#8, ⟨1, 7#8, 5#8, 9#16, true⟩, W.worker.setF (R.LINK_PORT_STATUS.STATE 2) 2, by decide⟩,
   ⟨1, ⟨1, 7#8, 5#8, 9#16, false⟩, W.worker, by decide⟩,
   ⟨7, W.worker.arm (T.stale 7) 5, by decide⟩,
   ⟨7, State.reset, by decide⟩,
   ⟨5, W.up.setBitAt R.EVT_FWD_PEND.reg 5 true, by decide⟩,
   ⟨State.reset, by decide⟩,
   ⟨⟨1, 0#8, 5#8, 7#16, true⟩, W.worker, by decide⟩,
   ⟨5#8, 7#16, ⟨1, 5#8, 5#8, 9#16, true⟩, ⟨7, 6, 5, [], 1, [5], none⟩, W.sent, by decide⟩,
   ⟨5#8, 7#16, 0#8, [0#8, 1#8, 2#8, 3#8, 4#8, 5#8, 6#8, 7#8, 8#8], ⟨1, 5#8, 5#8, 9#16, true⟩, ⟨7, 0x0B, 5, [], 1, [5], none⟩, (W.sent.updLink (fun l => { l with out := [⟨7, 0x0B, 5, [], 1, [5], none⟩] })).setB R.LINK_CFG.AUTOEXP true, by decide⟩,
   ⟨5#8, 7#16, ⟨1, 5#8, 5#8, 9#16, true⟩, ⟨7, 0x12, 5, [], 1, [5], some 2⟩, 2, W.sent.updLink (fun l => { l with out := [⟨7, 0x12, 5, [], 1, [5], some 2⟩] }), by decide⟩,
   ⟨5#8, 7#16, ⟨1, 5#8, 5#8, 9#16, true⟩, ⟨7, 6, 0xFF, [], 1, [5, 6], none⟩, W.sent.updLink (fun l => { l with out := [⟨7, 6, 0xFF, [], 1, [5, 6], none⟩] }), by decide⟩,
   ⟨6#8, 7#16, ⟨1, 5#8, 5#8, 9#16, true⟩, W.sent, by decide⟩,
   ⟨5#8, 7#16, ⟨7, 6, 5, [], 1, [5], none⟩, 1, W.sent, by decide⟩,
   ⟨7#16, ⟨7, 6, 5, [], 8, [5], none⟩, W.sent8, by decide⟩,
   ⟨7#16, State.reset, by decide⟩,
   ⟨7#16, ⟨7, 6, 5, [], 1, [5], none⟩, W.sent.arm (T.resend 7) 5, by decide⟩,
   by decide,
   by decide,
   by decide,
   by decide,
   by decide,
   by decide,
   by decide⟩

/-- The hypotheses of CoherenceAndBankFramesComplete can be met. -/
theorem test_CoherenceAndBankFramesComplete_met :
    (∃ (s : State), s.runs T.probeTick = true) ∧
    (∃ (s : State), s.runs T.probeTick = false) ∧
    (∃ (src : Byte) (p : Fin 4) (s : State), s.upPort = some p.val ∧ s.hears p = true ∧ s.worker = true ∧ src.toNat = s.link.mgr) ∧
    (∃ (src : Byte) (f : FrameId) (s : State), s.gets f = true ∧ s.upPort.isSome = true ∧ s.worker = true ∧ src.toNat = s.link.mgr) ∧
    (∃ (src : Byte) (f : FrameId) (s : State), s.gets f = true ∧ (s.upPort = none ∨ s.worker = false ∨ src.toNat ≠ s.link.mgr)) ∧
    (∃ (dev : Fin 64) (f : FrameId) (s : State), s.gets f = true ∧ s.manager = true ∧ s.expected dev = true) ∧
    (∃ (dev : Fin 64) (f : FrameId) (s : State), s.gets f = true ∧ (s.manager = false ∨ s.expected dev = false)) ∧
    (∃ (dev : Fin 64) (p : Nat) (s : State), s.portTo dev = some p ∧ p < 4 ∧ s.hears p = true ∧ s.dev ≠ 0xFF ∧ s.manager = true ∧ s.expected dev = true) ∧
    (∃ (dev : Fin 64) (p : Nat) (s : State), s.portTo dev = some p ∧ p < 4 ∧ s.hears p = true ∧ s.manager = false ∧ s.link.mgr < 64 ∧ s.link.mgr ≠ s.dev) ∧
    (∃ (s : State), s.runs T.probeMiss = true ∧ s.worker = true ∧ s.upPort.isSome = true) ∧
    (∃ (s : State), s.runs T.probeMiss = false) ∧
    (∃ (f : FrameId) (s : State), s.obeys f = true) ∧
    (∃ (f : FrameId) (off : Word) (data : List Byte) (b : Bool) (s : State), s.obeys f = true ∧ s.commandBank false = some b ∧ s.bankOpen .link b = true ∧ off.toNat + data.length ≤ imageLen) ∧
    (∃ (f : FrameId) (s : State), s.obeys f = true ∧ s.commandBank false = none) ∧
    (∃ (f : FrameId) (s : State), s.obeys f = true ∧ (s.commandBank false).isSome = true) :=
  ⟨⟨W.manager.arm T.probeTick 5, by decide⟩,
   ⟨State.reset, by decide⟩,
   ⟨0#8, 1, W.worker, by decide⟩,
   ⟨0#8, ⟨1, 0#8, 0xFF#8, 9#16, true⟩, W.worker, by decide⟩,
   ⟨3#8, ⟨1, 0#8, 0xFF#8, 9#16, true⟩, W.worker, by decide⟩,
   ⟨5, ⟨1, 5#8, 0#8, 9#16, true⟩, W.expects, by decide⟩,
   ⟨5, ⟨1, 5#8, 5#8, 9#16, true⟩, W.worker, by decide⟩,
   ⟨5, 1, W.expects, by decide⟩,
   ⟨5, 2, (W.worker.setF (R.LINK_PORT_STATUS.STATE 2) 2).updLink (fun l => { l with routes := [(5, some 2)] }) |>.setF R.LINK_ID.DEV 4, by decide⟩,
   ⟨W.worker.arm T.probeMiss 5, by decide⟩,
   ⟨State.reset, by decide⟩,
   ⟨⟨1, 0#8, 5#8, 7#16, true⟩, W.worker, by decide⟩,
   ⟨⟨1, 0#8, 5#8, 7#16, true⟩, 64#32, [1#8, 2#8], true, W.workerImage, by decide⟩,
   ⟨⟨1, 0#8, 5#8, 7#16, true⟩, W.worker, by decide⟩,
   ⟨⟨1, 0#8, 5#8, 7#16, true⟩, W.workerImage, by decide⟩⟩

/-- The hypotheses of ScheduledSwitchFramesComplete can be met. -/
theorem test_ScheduledSwitchFramesComplete_met :
    (∃ (f : FrameId) (tm : BitVec 64) (s : State), s.obeys f = true ∧ s.switchCause tm = 0) ∧
    (∃ (f : FrameId) (tm : BitVec 64) (s : State), s.obeys f = true ∧ s.switchCause tm ≠ 0) ∧
    (∃ (f : FrameId) (epoch : Word) (s : State), s.obeys f = true ∧ s.switchOpen = true ∧ epoch = s.link.swEpoch) ∧
    (∃ (f : FrameId) (epoch : Word) (s : State), s.obeys f = true ∧ (s.switchOpen = false ∨ epoch ≠ s.link.swEpoch)) ∧
    (∃ (s : State), s.runs T.selfCancel = true ∧ s.switchOpen = true ∧ s.link.swGo = false) ∧
    (∃ (s : State), s.runs T.selfCancel = false) ∧
    (∃ (s : State), s.runs T.goLead = true ∧ s.switchOpen = true ∧ s.link.swGo = false ∧ s.link.swWait ≠ []) ∧
    (∃ (s : State), s.runs T.goLead = false) ∧
    (∃ (d : Nat) (s : State), s.deadline T.goLead = some d ∧ d ≤ s.ns ∧ s.switchOpen = true ∧ s.link.swGo = false ∧ s.link.swWait = [] ∧ (s.goLeadNs : Int) ≤ (s.link.swT.toNat : Int) - s.now.toNat) :=
  ⟨⟨⟨1, 0#8, 5#8, 7#16, true⟩, 20000000#64, W.workerStaged, by decide⟩,
   ⟨⟨1, 0#8, 5#8, 7#16, true⟩, 20000000#64, W.worker, by decide⟩,
   ⟨⟨1, 0#8, 5#8, 7#16, true⟩, 0#32, W.worker.setB R.ACRD_STATUS.SWITCH_PEND true, by decide⟩,
   ⟨⟨1, 0#8, 5#8, 7#16, true⟩, 0#32, W.worker, by decide⟩,
   ⟨(W.worker.setB R.ACRD_STATUS.SWITCH_PEND true).arm T.selfCancel 5, by decide⟩,
   ⟨State.reset, by decide⟩,
   ⟨((W.manager.setB R.ACRD_STATUS.SWITCH_PEND true).updLink (fun l => { l with swWait := [5] })).arm T.goLead 5, by decide⟩,
   ⟨State.reset, by decide⟩,
   ⟨0, ((W.manager.setB R.ACRD_STATUS.SWITCH_PEND true).updLink (fun l => { l with swT := 0x10000000#64 })).arm T.goLead 0, by decide⟩⟩

/-- The hypotheses of HierarchyCommandsComplete can be met. -/
theorem test_HierarchyCommandsComplete_met :
    (∃ (f : FrameId) (s : State), s.obeys f = true ∧ s.powerOk false = true) ∧
    (∃ (f : FrameId) (s : State), s.obeys f = true ∧ s.powerOk false = false) ∧
    (∃ (f : FrameId) (vinAbove6 : Bool) (s : State), s.obeys f = true ∧ s.powerOk vinAbove6 = true) ∧
    (∃ (f : FrameId) (vinAbove6 : Bool) (s : State), s.obeys f = true ∧ s.powerOk vinAbove6 = false) ∧
    (∃ (f : FrameId) (s : State), s.obeys f = true) ∧
    (∃ (f : FrameId) (addr : Word) (data : List Byte) (s : State), s.obeys f = true ∧ (s.bit R.LINK_CFG.RMW = false ∨ linkPlace addr.toNat data.length true = false)) ∧
    (∃ (f : FrameId) (addr : Word) (data : List Byte) (s : State), s.obeys f = true ∧ s.bit R.LINK_CFG.RMW = true ∧ linkPlace addr.toNat data.length true = true ∧ inBlock addr.toNat = true) ∧
    (∃ (f : FrameId) (addr : Word) (data : List Byte) (x : RegRow) (s : State), s.obeys f = true ∧ s.bit R.LINK_CFG.RMW = true ∧ addr.toNat % 4 = 0 ∧ data.length = 4 ∧ 0x40020000 ≤ addr.toNat ∧ addr.toNat < 0x40030000 ∧ regRowOf addr.toNat = some x) ∧
    (∃ (src : Byte) (f : FrameId) (e : Nat) (s : State), s.gets f = true ∧ s.link.rdWait.at none src.toNat = some e) ∧
    (∃ (src : Byte) (f : FrameId) (s : State), s.gets f = true ∧ s.link.rdWait.at none src.toNat = none) ∧
    (∃ (src : Byte) (p e : Nat) (s : State), s.portTo src.toNat = some p ∧ p < 4 ∧ s.hears p = true ∧ s.manager = true ∧ s.dev ≠ 0xFF ∧ s.link.rdWait.at none src.toNat = some e) ∧
    (∃ (f : FrameId) (s : State), s.takes f = true) ∧
    (∃ (d : Nat) (r : List Nat) (s : State), s.runs T.casc = true ∧ s.link.cascOn = true ∧ s.link.casc = d :: r) ∧
    (∃ (s : State), s.runs T.casc = false) ∧
    (∃ (s : State), s.runs T.orphan = true ∧ s.worker = true ∧ s.upPort = none) ∧
    (∃ (s : State), s.runs T.orphan = false) ∧
    (∃ (s : State), s.runs T.orphPark = true ∧ s.bit R.LINK_ID.ORPHAN = true ∧ s.powerOk false = true) ∧
    (∃ (s : State), s.runs T.orphPark = false) :=
  ⟨⟨⟨1, 0#8, 5#8, 7#16, true⟩, W.worker, by decide⟩,
   ⟨⟨1, 0#8, 5#8, 7#16, true⟩, { W.worker with sys := { W.worker.sys with phase := .safe } }, by decide⟩,
   ⟨⟨1, 0#8, 5#8, 7#16, true⟩, false, W.worker, by decide⟩,
   ⟨⟨1, 0#8, 5#8, 7#16, true⟩, false, { W.worker with sys := { W.worker.sys with phase := .safe } }, by decide⟩,
   ⟨⟨1, 0#8, 5#8, 7#16, true⟩, W.worker, by decide⟩,
   ⟨⟨1, 0#8, 5#8, 7#16, true⟩, 0x40020000#32, [], W.worker, by decide⟩,
   ⟨⟨1, 0#8, 5#8, 7#16, true⟩, 0x40020000#32, [1#8, 2#8, 3#8, 4#8], W.worker.setB R.LINK_CFG.RMW true, by decide⟩,
   ⟨⟨1, 0#8, 5#8, 7#16, true⟩, 0x40025000#32, [0#8, 0#8, 1#8, 0#8], ⟨0x5000, 1, 0, 1, 0, 0xFFF, 0, 0, 0x10000, 0, 0, 0x31001⟩, (W.joined W.fabric).setB R.LINK_CFG.RMW true, by decide⟩,
   ⟨5#8, ⟨1, 5#8, 0#8, 9#16, true⟩, 3, W.manager.updLink (fun l => { l with rdWait := [(5, some 3)] }), by decide⟩,
   ⟨5#8, ⟨1, 5#8, 0#8, 9#16, true⟩, W.manager, by decide⟩,
   ⟨5#8, 1, 3, W.manager.updLink (fun l => { l with rdWait := [(5, some 3)] }), by decide⟩,
   ⟨⟨1, 0#8, 5#8, 7#16, true⟩, W.worker, by decide⟩,
   ⟨5, [6], (W.manager.updLink (fun l => { l with cascOn := true, casc := [5, 6] })).arm T.casc 5, by decide⟩,
   ⟨State.reset, by decide⟩,
   ⟨(W.worker.setF (R.LINK_PORT_STATUS.STATE 1) 0).arm T.orphan 5, by decide⟩,
   ⟨State.reset, by decide⟩,
   ⟨(W.worker.setB R.LINK_ID.ORPHAN true).arm T.orphPark 5, by decide⟩,
   ⟨State.reset, by decide⟩⟩

/-- The hypotheses of EngineFramesComplete can be met. -/
theorem test_EngineFramesComplete_met :
    (∃ (e : Fin 16) (s : State), s.engRuns e = true ∧ s.manager = false) ∧
    (∃ (e : Fin 16) (s : State), s.engRuns e = false) ∧
    (∃ (e : Fin 16) (dst : Byte) (s : State), s.engRuns e = true ∧ s.manager = true ∧ dst.toNat ≠ 0xFF ∧ (dst.toNat = s.dev ∨ s.portTo dst.toNat = none)) ∧
    (∃ (e : Fin 16) (dst : Byte) (s : State), s.engRuns e = true ∧ s.manager = true ∧ dst.toNat ≠ 0xFF ∧ dst.toNat ≠ s.dev ∧ (s.portTo dst.toNat).isSome = true ∧ s.link.seqNext < 65536) ∧
    (∃ (e : Fin 16) (dst : Byte) (s : State), s.engRuns e = true ∧ s.manager = true ∧ dst.toNat = 0xFF ∧ s.link.seqNext < 65536) :=
  ⟨⟨2, W.pend, by decide⟩,
   ⟨2, State.reset, by decide⟩,
   ⟨2, 6#8, W.manager, by decide⟩,
   ⟨2, 5#8, W.manager, by decide⟩,
   ⟨2, 0xFF#8, W.manager, by decide⟩⟩

/-- The hypotheses of SwitchCommandsAndTraceComplete can be met. -/
theorem test_SwitchCommandsAndTraceComplete_met :
    (∃ (r : Req) (s : State), s.may r R.LINK_SW_CMD.reg true none = true ∧ s.manager = true ∧ (s.switchCause (s.pair R.LINK_SW_T_LO.reg R.LINK_SW_T_HI.reg)) = 0) ∧
    (∃ (r : Req) (s : State), s.may r R.LINK_SW_CMD.reg true none = false) ∧
    (∃ (r : Req) (s : State), s.may r R.LINK_SW_CMD.reg true none = true ∧ s.manager = true ∧ (s.switchCause (s.pair R.LINK_SW_T_LO.reg R.LINK_SW_T_HI.reg)) ≠ 0) ∧
    (∃ (r : Req) (s : State), s.may r R.LINK_SW_CMD.reg true none = true ∧ s.manager = false) ∧
    (∃ (r : Req) (s : State), s.may r R.LINK_SW_CMD.reg true none = true ∧ s.manager = true ∧ s.switchOpen = true) ∧
    (∃ (r : Req) (s : State), s.may r R.LINK_SW_CMD.reg true none = true ∧ (s.manager = false ∨ s.switchOpen = false)) ∧
    (∃ (r : Req) (x : Nat × Nat) (rest : List (Nat × Nat)) (s : State), s.may r R.LINK_RXEV.reg false none = true ∧ s.link.rxev = x :: rest) ∧
    (∃ (r : Req) (s : State), s.may r R.LINK_RXEV.reg false none = false) ∧
    (∃ (r : Req) (source : BitVec 16) (s : State), s.topOn = true ∧ s.may r 0x400B00C8 true none = true ∧ 0x8000 ≤ source.toNat ∧ s.bit R.LINK_TRC_CFG.EN = true ∧ s.bit R.LINK_TRC_STAT.FROZEN = false ∧ s.bit R.LINK_TRC_CFG.STOP = false) ∧
    (∃ (r : Req) (s : State), s.may r 0x400B00C8 true none = false) ∧
    (∃ (r : Req) (source : BitVec 16) (s : State), s.may r 0x400B00C8 true none = true ∧ (s.topOn = false ∨ source.toNat < 0x8000)) ∧
    (∃ (r : Req) (s : State), s.may r R.LINK_TRC_CTRL.reg true none = true) ∧
    (∃ (r : Req) (s : State), s.may r R.LINK_TRC_CTRL.reg true none = false) :=
  ⟨⟨.engine 2, W.managerStaged, by decide⟩,
   ⟨.hostBus, State.reset, by decide⟩,
   ⟨.engine 2, W.manager, by decide⟩,
   ⟨.engine 2, W.worker, by decide⟩,
   ⟨.engine 2, W.manager.setB R.ACRD_STATUS.SWITCH_PEND true, by decide⟩,
   ⟨.engine 2, W.worker, by decide⟩,
   ⟨.engine 2, (1, 2), [(3, 4)], W.worker.updLink (fun l => { l with rxev := [(1, 2), (3, 4)] }), by decide⟩,
   ⟨.hostBus, W.worker.updLink (fun l => { l with rxev := [(1, 2), (3, 4)] }), by decide⟩,
   ⟨.engine 2, 0x8001#16, W.up.setB R.LINK_TRC_CFG.EN true, by decide⟩,
   ⟨.hostBus, W.up.setB R.LINK_TRC_CFG.EN true, by decide⟩,
   ⟨.engine 2, 0x8001#16, State.reset, by decide⟩,
   ⟨.engine 2, W.up, by decide⟩,
   ⟨.hostBus, W.up, by decide⟩⟩

/-- The hypotheses of SelfTestCompletes can be met. -/
theorem test_SelfTestCompletes_met :
    (∃ (s : State), s.slicesRun = true) ∧
    (∃ (s : State), s.slicesRun = false) ∧
    (∃ (dom : Fin 3) (pass : Bool) (x : Nat × Nat) (s : State), s.sliceOf dom = some x ∧ pass = true) ∧
    (∃ (dom : Fin 3) (s : State), s.sliceOf dom = none) ∧
    (∃ (dom : Fin 3) (pass : Bool) (x : Nat × Nat) (s : State), s.sliceOf dom = some x ∧ pass = false ∧ s.bist.again.at none dom ≠ some x) ∧
    (∃ (dom : Fin 3) (pass : Bool) (x : Nat × Nat) (s : State), s.sliceOf dom = some x ∧ pass = false ∧ s.bist.again.at none dom = some x ∧ x.1 < 256 ∧ x.2 < 256) ∧
    (∃ (s : State), s.sys.phase = .powerDown ∧ s.sys.dry = .idle ∧ s.link.cascOn = false ∧ s.railsOn.all s.railDown = true) ∧
    (∃ (s : State), (s.sys.phase ≠ .powerDown ∨ s.sys.dry ≠ .idle)) ∧
    (∃ (s : State), s.sys.dry = .running ∧ s.bist.direct = false) ∧
    (∃ (s : State), s.sys.dry ≠ .running) ∧
    (∃ (s : State), s.sys.dry = .running ∧ s.bist.direct = true) ∧
    (∃ (r : Req) (s : State), s.topOn = true ∧ s.may r R.BIST_CMD.reg true none = true ∧ s.fld R.SYS_STATUS.LC ≠ 1 ∧ s.fld R.SYS_STATUS.LC ≠ 4) ∧
    (∃ (r : Req) (s : State), s.may r R.BIST_CMD.reg true none = false) ∧
    (∃ (r : Req) (s : State), s.may r R.BIST_CMD.reg true none = true ∧ s.topOn = false) ∧
    (∃ (r : Req) (code index : Byte) (s : State), s.topOn = true ∧ s.may r R.BIST_CMD.reg true none = true ∧ (s.fld R.SYS_STATUS.LC = 1 ∨ s.fld R.SYS_STATUS.LC = 4) ∧ (sliceCatalogue 0 ++ (sliceCatalogue 1 ++ sliceCatalogue 2)).contains (code.toNat, index.toNat) = true ∧ s.sliceEligible code.toNat index.toNat = true ∧ s.sliceOn code.toNat index.toNat = false) ∧
    (∃ (r : Req) (code index : Byte) (s : State), s.topOn = true ∧ s.may r R.BIST_CMD.reg true none = true ∧ (s.fld R.SYS_STATUS.LC = 1 ∨ s.fld R.SYS_STATUS.LC = 4) ∧ (((sliceCatalogue 0 ++ (sliceCatalogue 1 ++ sliceCatalogue 2)).contains (code.toNat, index.toNat) = false) ∨ s.sliceEligible code.toNat index.toNat = false ∨ s.sliceOn code.toNat index.toNat = true)) ∧
    (∃ (r : Req) (fails : List Check) (s : State), s.topOn = true ∧ s.may r R.BIST_CMD.reg true none = true ∧ (s.fld R.SYS_STATUS.LC = 1 ∨ s.fld R.SYS_STATUS.LC = 4) ∧ s.railsOn.all s.railDown = true ∧ s.sys.dry = .idle ∧ fails.all (fun k => decide (k.item ≠ 0#4)) = true) ∧
    (∃ (r : Req) (fails : List Check) (n : Nat) (s : State), s.topOn = true ∧ s.may r R.BIST_CMD.reg true none = true ∧ (s.fld R.SYS_STATUS.LC = 1 ∨ s.fld R.SYS_STATUS.LC = 4) ∧ s.railsOn.all s.railDown = true ∧ s.sys.dry = .idle ∧ fails.head?.map (fun k => (k.item, k.index.toNat)) = some (0#4, n) ∧ n < 64 ∧ s.flt.collecting = true ∧ s.faultClass n = 2) ∧
    (∃ (r : Req) (s : State), s.topOn = true ∧ s.may r R.BIST_CMD.reg true none = true ∧ (s.fld R.SYS_STATUS.LC = 1 ∨ s.fld R.SYS_STATUS.LC = 4) ∧ (s.railsOn.all s.railDown = false ∨ s.sys.dry ≠ .idle)) :=
  ⟨⟨W.up.setB R.BIST_CFG.EN true, by decide⟩,
   ⟨State.reset, by decide⟩,
   ⟨1, true, (2, 3), W.slice, by decide⟩,
   ⟨1, State.reset, by decide⟩,
   ⟨1, false, (2, 3), W.slice, by decide⟩,
   ⟨1, false, (2, 3), W.slice.updBist (fun b => { b with again := [(1, some (2, 3))] }), by decide⟩,
   ⟨W.phase .powerDown, by decide⟩,
   ⟨State.reset, by decide⟩,
   ⟨(W.phase .powerDown).updSys (fun y => { y with dry := .running }), by decide⟩,
   ⟨State.reset, by decide⟩,
   ⟨(W.phase .powerDown).updSys (fun y => { y with dry := .running }) |>.updBist (fun b => { b with direct := true }), by decide⟩,
   ⟨.engine 1, W.up.setF R.SYS_STATUS.LC 3, by decide⟩,
   ⟨.hostBus, W.up.setF R.SYS_STATUS.LC 3, by decide⟩,
   ⟨.engine 1, State.reset, by decide⟩,
   ⟨.engine 1, 1#8, 2#8, W.up.setF R.SYS_STATUS.LC 1, by decide⟩,
   ⟨.engine 1, 9#8, 2#8, W.up.setF R.SYS_STATUS.LC 1, by decide⟩,
   ⟨.engine 1, [⟨1, 0⟩], W.up.setF R.SYS_STATUS.LC 1, by decide⟩,
   ⟨.engine 1, [⟨0, 5⟩], 5, (W.up.setF R.SYS_STATUS.LC 1).setF (R.FLT_CFG.CLASS 5) 2, by decide⟩,
   ⟨.engine 1, (W.up.setF R.SYS_STATUS.LC 1).updSys (fun y => { y with dry := .running }), by decide⟩⟩

/-- The hypotheses of BusEventsComplete can be met. -/
theorem test_BusEventsComplete_met :
    (∃ (e : Fin 16) (s : State), s.engRuns e = true) ∧
    (∃ (e : Fin 16) (s : State), s.engRuns e = false) ∧
    (∃ (s : State), s.busOn = true) ∧
    (∃ (s : State), s.busOn = false) ∧
    (∃ (code : Byte) (s : State), s.busOn = true ∧ knownCodes.contains code.toNat = false) ∧
    (∃ (code : Byte) (s : State), (s.busOn = false ∨ knownCodes.contains code.toNat = true)) ∧
    (∃ (lost : Bool) (e : Nat) (s : State), s.busOn = true ∧ s.bit R.HOST_CFG.HNEN = true ∧ s.host.notify = true ∧ s.host.losses = 0 ∧ s.notifyDue = true ∧ lost = false ∧ s.pendEvents.head? = some e) ∧
    (∃ (lost : Bool) (s : State), s.busOn = true ∧ s.bit R.HOST_CFG.HNEN = true ∧ s.host.notify = true ∧ s.host.losses = 0 ∧ s.notifyDue = true ∧ lost = false ∧ s.pendEvents = []) ∧
    (∃ (s : State), (s.busOn = false ∨ s.bit R.HOST_CFG.HNEN = false ∨ s.host.notify = false)) ∧
    (∃ (lost : Bool) (s : State), s.busOn = true ∧ s.bit R.HOST_CFG.HNEN = true ∧ s.host.notify = true ∧ s.host.losses = 0 ∧ s.notifyDue = true ∧ lost = true) ∧
    (∃ (lost : Bool) (e : Nat) (s : State), s.busOn = true ∧ s.host.notify = true ∧ s.host.losses ≠ 0 ∧ s.runs T.retry = true ∧ lost = false ∧ s.pendEvents.head? = some e) ∧
    (∃ (lost : Bool) (s : State), s.busOn = true ∧ s.host.notify = true ∧ s.host.losses ≠ 0 ∧ s.runs T.retry = true ∧ lost = false) ∧
    (∃ (s : State), (s.busOn = false ∨ s.host.notify = false ∨ s.runs T.retry = false)) ∧
    (∃ (lost : Bool) (s : State), s.busOn = true ∧ s.host.notify = true ∧ s.host.losses ≠ 0 ∧ s.runs T.retry = true ∧ lost = true ∧ 7 ≤ s.host.losses) ∧
    (∃ (lost : Bool) (s : State), s.busOn = true ∧ s.host.notify = true ∧ s.host.losses ≠ 0 ∧ s.runs T.retry = true ∧ lost = true ∧ s.host.losses < 7) ∧
    (∃ (lost : Bool) (s : State), s.busOn = true ∧ s.alertLow = true ∧ lost = false) ∧
    (∃ (s : State), (s.busOn = false ∨ s.alertLow = false)) ∧
    (∃ (lost : Bool) (s : State), s.busOn = true ∧ s.alertLow = true ∧ lost = true) :=
  ⟨⟨2, W.pend, by decide⟩,
   ⟨2, State.reset, by decide⟩,
   ⟨W.up, by decide⟩,
   ⟨State.reset, by decide⟩,
   ⟨0x55#8, W.up, by decide⟩,
   ⟨0x55#8, State.reset, by decide⟩,
   ⟨false, 5, ({ W.up.setB R.HOST_CFG.HNEN true with host := { W.up.host with notify := true } } : State).setBitAt R.EVT_PEND.reg 5 true, by decide⟩,
   ⟨false, { W.up.setB R.HOST_CFG.HNEN true with host := { W.up.host with notify := true } }, by decide⟩,
   ⟨State.reset, by decide⟩,
   ⟨true, { W.up.setB R.HOST_CFG.HNEN true with host := { W.up.host with notify := true } }, by decide⟩,
   ⟨false, 5, ({ W.up.arm T.retry 5 with host := { W.up.host with notify := true, losses := 7 } } : State).setBitAt R.EVT_PEND.reg 5 true, by decide⟩,
   ⟨false, ({ W.up.arm T.retry 5 with host := { W.up.host with notify := true, losses := 7 } } : State), by decide⟩,
   ⟨State.reset, by decide⟩,
   ⟨true, ({ W.up.arm T.retry 5 with host := { W.up.host with notify := true, losses := 7 } } : State), by decide⟩,
   ⟨true, ({ W.up.arm T.retry 5 with host := { W.up.host with notify := true, losses := 2 } } : State), by decide⟩,
   ⟨false, W.fabric.setBitAt R.EVT_PEND.reg 5 true, by decide⟩,
   ⟨State.reset, by decide⟩,
   ⟨true, W.fabric.setBitAt R.EVT_PEND.reg 5 true, by decide⟩⟩

/-- The hypotheses of QuadFramesComplete can be met. -/
theorem test_QuadFramesComplete_met :
    (∃ (addr : Word) (len : Nat) (q : QuadEnd) (s : State), s.quadOn = true ∧ quadCrcRight q 1 addr (len) [] = true ∧ quadOp q 1 = 1 ∧ q.flags = 0#8 ∧ q.errs = [] ∧ s.quadJudge false addr.toNat len 4 = 0xA5) ∧
    (∃ (s : State), s.quadOn = false) ∧
    (∃ (addr : Word) (len : Nat) (q : QuadEnd) (o : Nat) (s : State), s.quadOn = true ∧ quadCrcRight q 1 addr (len) [] = true ∧ quadOp q 1 = 1 ∧ q.flags = 0#8 ∧ q.errs = [] ∧ s.quadJudge false addr.toNat len 4 = 0xA5 ∧ placeOf addr.toNat = some (.sram o) ∧ s.evt.eccNext = [] ∧ s.sramPoisoned o len = false) ∧
    (∃ (addr : Word) (len : Nat) (q : QuadEnd) (o : Nat) (s : State), s.quadOn = true ∧ quadCrcRight q 1 addr (len) [] = true ∧ quadOp q 1 = 1 ∧ q.flags = 0#8 ∧ q.errs = [] ∧ s.quadJudge false addr.toNat len 4 = 0xA5 ∧ placeOf addr.toNat = some (.trace o)) ∧
    (∃ (addr : Word) (len : Nat) (q : QuadEnd) (o : Nat) (s : State), s.quadOn = true ∧ quadCrcRight q 1 addr (len) [] = true ∧ quadOp q 1 = 1 ∧ q.flags = 0#8 ∧ q.errs = [] ∧ s.quadJudge false addr.toNat len 4 = 0xA5 ∧ placeOf addr.toNat = some (.queue o)) ∧
    (∃ (addr : Word) (len : Nat) (q : QuadEnd) (b : Bool) (o : Nat) (s : State), s.quadOn = true ∧ quadCrcRight q 1 addr (len) [] = true ∧ quadOp q 1 = 1 ∧ q.flags = 0#8 ∧ q.errs = [] ∧ s.quadJudge false addr.toNat len 4 = 0xA5 ∧ placeOf addr.toNat = some (.bank b o)) ∧
    (∃ (addr : Word) (len : Nat) (q : QuadEnd) (w : Nat) (s : State), s.quadOn = true ∧ quadCrcRight q 1 addr (len) [] = true ∧ quadOp q 1 = 1 ∧ q.flags = 0#8 ∧ q.errs = [] ∧ s.quadJudge false addr.toNat len 4 = 0xA5 ∧ placeOf addr.toNat = some (.ledger (8 * w)) ∧ len = 8) ∧
    (∃ (addr : Word) (len : Nat) (q : QuadEnd) (x : RegRow) (s : State), s.quadOn = true ∧ quadCrcRight q 1 addr (len) [] = true ∧ quadOp q 1 = 1 ∧ q.flags = 0#8 ∧ q.errs = [] ∧ s.quadJudge false addr.toNat len 4 = 0xA5 ∧ 0x40020000 ≤ addr.toNat ∧ addr.toNat < 0x40030000 ∧ len = 4 ∧ regRowOf addr.toNat = some x ∧ x.wo = 0) ∧
    (∃ (addr : Word) (len : Nat) (q : QuadEnd) (s : State), s.quadOn = true ∧ quadCrcRight q 1 addr (len) [] = true ∧ quadOp q 1 = 1 ∧ q.flags = 0#8 ∧ q.errs = [] ∧ s.quadJudge false addr.toNat len 4 ≠ 0xA5) ∧
    (∃ (addr : Word) (len : Nat) (q : QuadEnd) (s : State), s.quadOn = true ∧ quadCrcRight q 1 addr (len) [] = false ∧ q.complete = true) ∧
    (∃ (addr : Word) (len : Nat) (q : QuadEnd) (s : State), s.quadOn = true ∧ quadCrcRight q 1 addr (len) [] = true ∧ (quadOp q 1 ≠ 1 ∨ q.flags ≠ 0#8) ∧ q.complete = true) ∧
    (∃ (addr : Word) (len : Nat) (q : QuadEnd), quadCrcRight q 1 addr (len) [] = false ∧ q.complete = false) ∧
    (∃ (addr : Word) (data : List Byte) (q : QuadEnd) (o : Nat) (u : State) (s : State), s.quadOn = true ∧ quadCrcRight q 2 addr (data.length) data = true ∧ quadOp q 2 = 2 ∧ q.flags = 0#8 ∧ q.errs = [] ∧ q.complete = true ∧ s.quadJudge true addr.toNat data.length 1 = 0xA5 ∧ placeOf addr.toNat = some (.sram o) ∧ s.evt.eccNext = [] ∧ s.sramWrite o data = some u) ∧
    (∃ (addr : Word) (data : List Byte) (q : QuadEnd) (x : RegRow) (s : State), s.quadOn = true ∧ quadCrcRight q 2 addr (data.length) data = true ∧ quadOp q 2 = 2 ∧ q.flags = 0#8 ∧ q.errs = [] ∧ q.complete = true ∧ s.quadJudge true addr.toNat data.length 1 = 0xA5 ∧ 0x40025000 ≤ addr.toNat ∧ addr.toNat < 0x40030000 ∧ data.length = 4 ∧ regRowOf addr.toNat = some x) ∧
    (∃ (addr : Word) (data : List Byte) (q : QuadEnd) (o : Nat) (s : State), s.quadOn = true ∧ quadCrcRight q 2 addr (data.length) data = true ∧ quadOp q 2 = 2 ∧ q.flags = 0#8 ∧ q.errs = [] ∧ q.complete = true ∧ s.quadJudge true addr.toNat data.length 1 = 0xA5 ∧ placeOf addr.toNat = some (.ledger o) ∧ (s.windowWrite (.window .quad) (o / 64) (o % 64) data).1 = .placed) ∧
    (∃ (addr : Word) (data : List Byte) (q : QuadEnd) (o : Nat) (s : State), s.quadOn = true ∧ quadCrcRight q 2 addr (data.length) data = true ∧ quadOp q 2 = 2 ∧ q.flags = 0#8 ∧ q.errs = [] ∧ q.complete = true ∧ s.quadJudge true addr.toNat data.length 1 = 0xA5 ∧ placeOf addr.toNat = some (.ledger o) ∧ (s.windowWrite (.window .quad) (o / 64) (o % 64) data).1 = .refused) ∧
    (∃ (addr : Word) (data : List Byte) (q : QuadEnd) (o : Nat) (s : State), s.quadOn = true ∧ quadCrcRight q 2 addr (data.length) data = true ∧ quadOp q 2 = 2 ∧ q.flags = 0#8 ∧ q.errs = [] ∧ q.complete = true ∧ s.quadJudge true addr.toNat data.length 1 = 0xA5 ∧ placeOf addr.toNat = some (.ledger o) ∧ (s.windowWrite (.window .quad) (o / 64) (o % 64) data).1 = .notPermitted) ∧
    (∃ (addr : Word) (data : List Byte) (q : QuadEnd) (b : Bool) (o : Nat) (s : State), s.quadOn = true ∧ quadCrcRight q 2 addr (data.length) data = true ∧ quadOp q 2 = 2 ∧ q.flags = 0#8 ∧ q.errs = [] ∧ q.complete = true ∧ s.quadJudge true addr.toNat data.length 1 = 0xA5 ∧ placeOf addr.toNat = some (.bank b o) ∧ s.host.quadStore = none ∧ s.bankOpen .quad b = true) ∧
    (∃ (addr : Word) (data : List Byte) (q : QuadEnd) (b : Bool) (o : Nat) (s : State), s.quadOn = true ∧ quadCrcRight q 2 addr (data.length) data = true ∧ quadOp q 2 = 2 ∧ q.flags = 0#8 ∧ q.errs = [] ∧ q.complete = true ∧ s.quadJudge true addr.toNat data.length 1 = 0xA5 ∧ placeOf addr.toNat = some (.bank b o) ∧ s.host.quadStore ≠ none) ∧
    (∃ (addr : Word) (data : List Byte) (q : QuadEnd) (b : Bool) (o : Nat) (s : State), s.quadOn = true ∧ quadCrcRight q 2 addr (data.length) data = true ∧ quadOp q 2 = 2 ∧ q.flags = 0#8 ∧ q.errs = [] ∧ q.complete = true ∧ s.quadJudge true addr.toNat data.length 1 = 0xA5 ∧ placeOf addr.toNat = some (.bank b o) ∧ s.host.quadStore = none ∧ s.bankOpen .quad b = false) ∧
    (∃ (addr : Word) (data : List Byte) (q : QuadEnd) (s : State), s.quadOn = true ∧ quadCrcRight q 2 addr (data.length) data = true ∧ quadOp q 2 = 2 ∧ q.flags = 0#8 ∧ q.errs = [] ∧ q.complete = true ∧ s.quadJudge true addr.toNat data.length 1 ≠ 0xA5) ∧
    (∃ (addr : Word) (data : List Byte) (q : QuadEnd) (s : State), s.quadOn = true ∧ quadCrcRight q 2 addr (data.length) data = false ∧ q.complete = true) ∧
    (∃ (q : QuadEnd) (s : State), (s.quadOn = false ∨ q.complete = false ∧ q.errs = [])) ∧
    (∃ (addr : Word) (data : List Byte) (q : QuadEnd) (s : State), s.quadOn = true ∧ quadCrcRight q 2 addr (data.length) data = true ∧ (quadOp q 2 ≠ 2 ∨ q.flags ≠ 0#8) ∧ q.complete = true) ∧
    (∃ (addr : Word) (data : List Byte) (q : QuadEnd), quadCrcRight q 2 addr (data.length) data = false ∧ q.complete = false) ∧
    (∃ (n : Nat) (q : QuadEnd) (s : State), s.quadOn = true ∧ quadCrcRight q 3 q.addr (n) [] = true ∧ quadOp q 3 = 3 ∧ q.flags = 0#8 ∧ q.errs = [] ∧ s.rangeMay true false 0x20300000 0x10000 = true ∧ 1 ≤ n ∧ n ≤ 4096) ∧
    (∃ (n : Nat) (q : QuadEnd) (s : State), s.quadOn = true ∧ quadCrcRight q 3 q.addr (n) [] = true ∧ quadOp q 3 = 3 ∧ q.flags = 0#8 ∧ q.errs = [] ∧ s.rangeMay true false 0x20300000 0x10000 = true ∧ 1 ≤ n ∧ n ≤ 4096 ∧ q.complete = true ∧ s.bit R.MEAS_Q_CFG.OWNER = false ∧ s.queueHead n ≠ []) ∧
    (∃ (n : Nat) (q : QuadEnd) (s : State), s.quadOn = true ∧ quadCrcRight q 3 q.addr (n) [] = true ∧ quadOp q 3 = 3 ∧ q.flags = 0#8 ∧ q.errs = [] ∧ s.rangeMay true false 0x20300000 0x10000 = true ∧ 1 ≤ n ∧ n ≤ 4096 ∧ (q.complete = false ∨ s.bit R.MEAS_Q_CFG.OWNER = true)) ∧
    (∃ (n : Nat) (q : QuadEnd) (s : State), s.quadOn = true ∧ quadCrcRight q 3 q.addr (n) [] = true ∧ quadOp q 3 = 3 ∧ q.flags = 0#8 ∧ q.errs = [] ∧ (n = 0 ∨ 4096 < n)) ∧
    (∃ (n : Nat) (q : QuadEnd) (s : State), s.quadOn = true ∧ quadCrcRight q 3 q.addr (n) [] = true ∧ quadOp q 3 = 3 ∧ q.flags = 0#8 ∧ q.errs = [] ∧ 1 ≤ n ∧ n ≤ 4096 ∧ s.rangeMay true false 0x20300000 0x10000 = false) ∧
    (∃ (n : Nat) (q : QuadEnd) (s : State), s.quadOn = true ∧ quadCrcRight q 3 q.addr (n) [] = false ∧ q.complete = true) ∧
    (∃ (n : Nat) (q : QuadEnd) (s : State), s.quadOn = true ∧ quadCrcRight q 3 q.addr (n) [] = true ∧ (quadOp q 3 ≠ 3 ∨ q.flags ≠ 0#8) ∧ q.complete = true) ∧
    (∃ (n : Nat) (q : QuadEnd), quadCrcRight q 3 q.addr (n) [] = false ∧ q.complete = false) ∧
    (∃ (q : QuadEnd) (s : State), s.quadOn = true ∧ quadCrcRight q 4 q.addr (q.len) [] = true ∧ quadOp q 4 = 4 ∧ q.flags = 0#8 ∧ q.errs = [] ∧ q.len = 0 ∧ s.rangeMay true false R.QP_STATUS.reg 8 = true) ∧
    (∃ (q : QuadEnd) (s : State), s.quadOn = true ∧ quadCrcRight q 4 q.addr (q.len) [] = true ∧ quadOp q 4 = 4 ∧ q.flags = 0#8 ∧ q.errs = [] ∧ q.len ≠ 0) ∧
    (∃ (q : QuadEnd) (s : State), s.quadOn = true ∧ quadCrcRight q 4 q.addr (q.len) [] = true ∧ quadOp q 4 = 4 ∧ q.flags = 0#8 ∧ q.errs = [] ∧ q.len = 0 ∧ s.rangeMay true false R.QP_STATUS.reg 8 = false) ∧
    (∃ (q : QuadEnd) (s : State), s.quadOn = true ∧ quadCrcRight q 4 q.addr (q.len) [] = false ∧ q.complete = true) ∧
    (∃ (q : QuadEnd) (s : State), s.quadOn = true ∧ quadCrcRight q 4 q.addr (q.len) [] = true ∧ (quadOp q 4 ≠ 4 ∨ q.flags ≠ 0#8) ∧ q.complete = true) ∧
    (∃ (q : QuadEnd), quadCrcRight q 4 q.addr (q.len) [] = false ∧ q.complete = false) ∧
    (∃ (b : Bool) (o : Nat) (l : List Byte) (s : State), s.host.quadStore = some (b, o, l)) ∧
    (∃ (s : State), s.host.quadStore = none) :=
  ⟨⟨0x20000000#32, 4, W.quadEnd, W.host, by decide⟩,
   ⟨State.reset, by decide⟩,
   ⟨0x20000000#32, 4, W.quadEnd, 0, W.host, by decide⟩,
   ⟨0x20200000#32, 16, W.quadEnd, 0, W.host, by decide⟩,
   ⟨0x20300000#32, 16, W.quadEnd, 0, W.host, by decide⟩,
   ⟨0x70800000#32, 16, W.quadEnd, true, 0, W.host, by decide⟩,
   ⟨0x60000000#32, 8, W.quadEnd, 0, W.host, by decide⟩,
   ⟨0x40025000#32, 4, W.quadEnd, ⟨0x5000, 1, 0, 1, 0, 0xFFF, 0, 0, 0x10000, 0, 0, 0x31001⟩, W.host, by decide⟩,
   ⟨0x20000000#32, 0, W.quadEnd, W.host, by decide⟩,
   ⟨0x20000000#32, 4, W.quadBad, W.host, by decide⟩,
   ⟨0x20000000#32, 4, { crcOk := true, complete := true, flags := 4#8 }, W.host, by decide⟩,
   ⟨0x20000000#32, 4, { crcOk := false, complete := false }, by decide⟩,
   ⟨0x20000000#32, [1#8, 2#8, 3#8, 4#8], W.quadEnd, 0, (W.host.sramWrite 0 [1#8, 2#8, 3#8, 4#8]).getD W.host, W.host, by decide⟩,
   ⟨0x40025000#32, [0#8, 0#8, 1#8, 0#8], W.quadEnd, ⟨0x5000, 1, 0, 1, 0, 0xFFF, 0, 0, 0x10000, 0, 0, 0x31001⟩, W.host, by decide⟩,
   ⟨0x60010000#32, [1#8, 2#8, 3#8, 4#8, 5#8, 6#8, 7#8, 8#8], W.quadEnd, 65536, (W.host.setF R.SYS_STATUS.LC 1), by decide⟩,
   ⟨0x60010000#32, [1#8], W.quadEnd, 65536, (W.host.setF R.SYS_STATUS.LC 1) |> fun s => { (s.setB R.LEDG_STATUS.HELD true) with ledg := { s.ledg with slots := (List.range 64).map (fun i => ⟨2000 + i, [], 1, 0, false⟩) } }, by decide⟩,
   ⟨0x60010000#32, [1#8], W.quadEnd, 65536, W.host.setF R.SYS_STATUS.LC 5, by decide⟩,
   ⟨0x70800040#32, [1#8], W.quadEnd, true, 64, W.host, by decide⟩,
   ⟨0x70800040#32, [1#8], W.quadEnd, true, 64, { W.host with host := { W.host.host with quadStore := some (true, 0, []) } }, by decide⟩,
   ⟨0x70800040#32, [1#8], W.quadEnd, true, 64, W.host.setB R.ACRD_STATUS.SWITCH_PEND true, by decide⟩,
   ⟨0x20000000#32, [], W.quadEnd, W.host, by decide⟩,
   ⟨0x20000000#32, [1#8], W.quadBad, W.host, by decide⟩,
   ⟨{ crcOk := false, complete := false }, W.host, by decide⟩,
   ⟨0x20000000#32, [1#8], { crcOk := true, complete := true, flags := 4#8 }, W.host, by decide⟩,
   ⟨0x20000000#32, [1#8], { crcOk := false, complete := false }, by decide⟩,
   ⟨3, W.quadEnd, (W.host.setB R.MEAS_Q_CFG.OWNER false).setF R.MEAS_Q_STAT.COUNT 2, by decide⟩,
   ⟨3, W.quadEnd, (W.host.setB R.MEAS_Q_CFG.OWNER false).setF R.MEAS_Q_STAT.COUNT 2, by decide⟩,
   ⟨3, { crcOk := true, complete := false }, (W.host.setB R.MEAS_Q_CFG.OWNER false).setF R.MEAS_Q_STAT.COUNT 2, by decide⟩,
   ⟨0, W.quadEnd, W.host, by decide⟩,
   ⟨3, W.quadEnd, W.up.updAcrd (fun a => { a with active := some false, image := some { W.image with hostPerm := List.replicate 288 0#8 } }), by decide⟩,
   ⟨3, W.quadBad, W.host, by decide⟩,
   ⟨3, { crcOk := true, complete := true, flags := 4#8 }, W.host, by decide⟩,
   ⟨3, { crcOk := false, complete := false }, by decide⟩,
   ⟨W.quadEnd, W.host, by decide⟩,
   ⟨{ crcOk := true, complete := true, len := 3 }, W.host, by decide⟩,
   ⟨W.quadEnd, W.up.updAcrd (fun a => { a with active := some false, image := some { W.image with hostPerm := List.replicate 288 0#8 } }), by decide⟩,
   ⟨W.quadBad, W.host, by decide⟩,
   ⟨{ crcOk := true, complete := true, flags := 4#8 }, W.host, by decide⟩,
   ⟨{ crcOk := false, complete := false }, by decide⟩,
   ⟨true, 64, [1#8], { W.host with host := { W.host.host with quadStore := some (true, 64, [1#8]) } }, by decide⟩,
   ⟨State.reset, by decide⟩⟩

/-- The hypotheses of BusReadsOfLoopsComplete can be met. -/
theorem test_BusReadsOfLoopsComplete_met :
    (∃ (m : BusMsg) (s : State), s.takesRead m 0x00 false 0 = true) ∧
    (∃ (s : State), s.busOn = false) ∧
    (∃ (m : BusMsg) (s : State), s.takesRead m 0x01 true 0 = true) ∧
    (∃ (m : BusMsg) (s : State), s.busOn = true ∧ s.codeMay 0x01 false = true ∧ m.read = true ∧ m.data = [] ∧ s.fld R.HOST_STATUS.PAGE = 0xFF) ∧
    (∃ (m : BusMsg) (s : State), s.takesRead m 0x19 false 0 = true) ∧
    (∃ (m : BusMsg) (s : State), s.takesRead m 0x20 true 0 = true) ∧
    (∃ (m : BusMsg) (s : State), s.busOn = true ∧ s.codeMay 0x20 false = true ∧ m.read = true ∧ m.data = [] ∧ s.fld R.HOST_STATUS.PAGE = 0xFF) ∧
    (∃ (m : BusMsg) (s : State), s.takesRead m 0x21 true 0 = true) ∧
    (∃ (m : BusMsg) (s : State), s.busOn = true ∧ s.codeMay 0x21 false = true ∧ m.read = true ∧ m.data = [] ∧ s.fld R.HOST_STATUS.PAGE = 0xFF) ∧
    (∃ (m : BusMsg) (s : State), s.takesRead m 0x24 true 0 = true) ∧
    (∃ (m : BusMsg) (s : State), s.busOn = true ∧ s.codeMay 0x24 false = true ∧ m.read = true ∧ m.data = [] ∧ s.fld R.HOST_STATUS.PAGE = 0xFF) ∧
    (∃ (m : BusMsg) (s : State), s.takesRead m 0x27 true 0 = true) ∧
    (∃ (m : BusMsg) (s : State), s.busOn = true ∧ s.codeMay 0x27 false = true ∧ m.read = true ∧ m.data = [] ∧ s.fld R.HOST_STATUS.PAGE = 0xFF) ∧
    (∃ (m : BusMsg) (s : State), s.takesRead m 0x2B true 0 = true) ∧
    (∃ (m : BusMsg) (s : State), s.busOn = true ∧ s.codeMay 0x2B false = true ∧ m.read = true ∧ m.data = [] ∧ s.fld R.HOST_STATUS.PAGE = 0xFF) ∧
    (∃ (m : BusMsg) (s : State), s.takesRead m 0x40 true 0 = true ∧ ((s.fld (R.LOOP_VREF.TARGET s.page) * 1000 + marginMilli (s.fld (R.LOOP_PROT.OVM s.page))) / 1000) < 65536) ∧
    (∃ (m : BusMsg) (s : State), s.busOn = true ∧ s.codeMay 0x40 false = true ∧ m.read = true ∧ m.data = [] ∧ s.fld R.HOST_STATUS.PAGE = 0xFF) ∧
    (∃ (m : BusMsg) (s : State), s.takesRead m 0x40 true 0 = true ∧ 65536 ≤ ((s.fld (R.LOOP_VREF.TARGET s.page) * 1000 + marginMilli (s.fld (R.LOOP_PROT.OVM s.page))) / 1000)) ∧
    (∃ (m : BusMsg) (s : State), s.takesRead m 0x44 true 0 = true) ∧
    (∃ (m : BusMsg) (s : State), s.busOn = true ∧ s.codeMay 0x44 false = true ∧ m.read = true ∧ m.data = [] ∧ s.fld R.HOST_STATUS.PAGE = 0xFF) ∧
    (∃ (m : BusMsg) (s : State), s.takesRead m 0x46 true 0 = true) ∧
    (∃ (m : BusMsg) (s : State), s.busOn = true ∧ s.codeMay 0x46 false = true ∧ m.read = true ∧ m.data = [] ∧ s.fld R.HOST_STATUS.PAGE = 0xFF) ∧
    (∃ (m : BusMsg) (s : State), s.takesRead m 0x78 true 0 = true) ∧
    (∃ (m : BusMsg) (s : State), s.busOn = true ∧ s.codeMay 0x78 false = true ∧ m.read = true ∧ m.data = [] ∧ s.fld R.HOST_STATUS.PAGE = 0xFF) ∧
    (∃ (m : BusMsg) (s : State), s.takesRead m 0x79 true 0 = true) ∧
    (∃ (m : BusMsg) (s : State), s.busOn = true ∧ s.codeMay 0x79 false = true ∧ m.read = true ∧ m.data = [] ∧ s.fld R.HOST_STATUS.PAGE = 0xFF) ∧
    (∃ (m : BusMsg) (s : State), s.takesRead m 0x7A true 0 = true) ∧
    (∃ (m : BusMsg) (s : State), s.busOn = true ∧ s.codeMay 0x7A false = true ∧ m.read = true ∧ m.data = [] ∧ s.fld R.HOST_STATUS.PAGE = 0xFF) ∧
    (∃ (m : BusMsg) (s : State), s.takesRead m 0x7B true 0 = true) ∧
    (∃ (m : BusMsg) (s : State), s.busOn = true ∧ s.codeMay 0x7B false = true ∧ m.read = true ∧ m.data = [] ∧ s.fld R.HOST_STATUS.PAGE = 0xFF) ∧
    (∃ (m : BusMsg) (s : State), s.takesRead m 0x7D true 0 = true) ∧
    (∃ (m : BusMsg) (s : State), s.busOn = true ∧ s.codeMay 0x7D false = true ∧ m.read = true ∧ m.data = [] ∧ s.fld R.HOST_STATUS.PAGE = 0xFF) ∧
    (∃ (m : BusMsg) (s : State), s.takesRead m 0x80 true 0 = true) ∧
    (∃ (m : BusMsg) (s : State), s.busOn = true ∧ s.codeMay 0x80 false = true ∧ m.read = true ∧ m.data = [] ∧ s.fld R.HOST_STATUS.PAGE = 0xFF) ∧
    (∃ (m : BusMsg) (s : State), s.takesRead m 0x7E false 0 = true) :=
  ⟨⟨⟨true, [], 40, .good, true, []⟩, W.host, by decide⟩,
   ⟨State.reset, by decide⟩,
   ⟨⟨true, [], 40, .good, true, []⟩, W.host, by decide⟩,
   ⟨⟨true, [], 40, .good, true, []⟩, W.host.setF R.HOST_STATUS.PAGE 0xFF, by decide⟩,
   ⟨⟨true, [], 40, .good, true, []⟩, W.host, by decide⟩,
   ⟨⟨true, [], 40, .good, true, []⟩, W.host, by decide⟩,
   ⟨⟨true, [], 40, .good, true, []⟩, W.host.setF R.HOST_STATUS.PAGE 0xFF, by decide⟩,
   ⟨⟨true, [], 40, .good, true, []⟩, W.host, by decide⟩,
   ⟨⟨true, [], 40, .good, true, []⟩, W.host.setF R.HOST_STATUS.PAGE 0xFF, by decide⟩,
   ⟨⟨true, [], 40, .good, true, []⟩, W.host, by decide⟩,
   ⟨⟨true, [], 40, .good, true, []⟩, W.host.setF R.HOST_STATUS.PAGE 0xFF, by decide⟩,
   ⟨⟨true, [], 40, .good, true, []⟩, W.host, by decide⟩,
   ⟨⟨true, [], 40, .good, true, []⟩, W.host.setF R.HOST_STATUS.PAGE 0xFF, by decide⟩,
   ⟨⟨true, [], 40, .good, true, []⟩, W.host, by decide⟩,
   ⟨⟨true, [], 40, .good, true, []⟩, W.host.setF R.HOST_STATUS.PAGE 0xFF, by decide⟩,
   ⟨⟨true, [], 40, .good, true, []⟩, W.host, by decide⟩,
   ⟨⟨true, [], 40, .good, true, []⟩, W.host.setF R.HOST_STATUS.PAGE 0xFF, by decide⟩,
   ⟨⟨true, [], 40, .good, true, []⟩, (W.host.setF (R.LOOP_VREF.TARGET 0) 65535).setF (R.LOOP_PROT.OVM 0) 50, by decide⟩,
   ⟨⟨true, [], 40, .good, true, []⟩, W.host, by decide⟩,
   ⟨⟨true, [], 40, .good, true, []⟩, W.host.setF R.HOST_STATUS.PAGE 0xFF, by decide⟩,
   ⟨⟨true, [], 40, .good, true, []⟩, W.host, by decide⟩,
   ⟨⟨true, [], 40, .good, true, []⟩, W.host.setF R.HOST_STATUS.PAGE 0xFF, by decide⟩,
   ⟨⟨true, [], 40, .good, true, []⟩, W.host, by decide⟩,
   ⟨⟨true, [], 40, .good, true, []⟩, W.host.setF R.HOST_STATUS.PAGE 0xFF, by decide⟩,
   ⟨⟨true, [], 40, .good, true, []⟩, W.host, by decide⟩,
   ⟨⟨true, [], 40, .good, true, []⟩, W.host.setF R.HOST_STATUS.PAGE 0xFF, by decide⟩,
   ⟨⟨true, [], 40, .good, true, []⟩, W.host, by decide⟩,
   ⟨⟨true, [], 40, .good, true, []⟩, W.host.setF R.HOST_STATUS.PAGE 0xFF, by decide⟩,
   ⟨⟨true, [], 40, .good, true, []⟩, W.host, by decide⟩,
   ⟨⟨true, [], 40, .good, true, []⟩, W.host.setF R.HOST_STATUS.PAGE 0xFF, by decide⟩,
   ⟨⟨true, [], 40, .good, true, []⟩, W.host, by decide⟩,
   ⟨⟨true, [], 40, .good, true, []⟩, W.host.setF R.HOST_STATUS.PAGE 0xFF, by decide⟩,
   ⟨⟨true, [], 40, .good, true, []⟩, W.host, by decide⟩,
   ⟨⟨true, [], 40, .good, true, []⟩, W.host.setF R.HOST_STATUS.PAGE 0xFF, by decide⟩,
   ⟨⟨true, [], 40, .good, true, []⟩, W.host, by decide⟩⟩

/-- The hypotheses of BusReadsOfValuesComplete can be met. -/
theorem test_BusReadsOfValuesComplete_met :
    (∃ (m : BusMsg) (s : State), s.takesRead m 0x88 false 0 = true ∧ s.bit (R.MEAS_CH_STATUS.LV 63) = true) ∧
    (∃ (s : State), s.busOn = false) ∧
    (∃ (m : BusMsg) (s : State), s.takesRead m 0x8B true 0 = true) ∧
    (∃ (m : BusMsg) (s : State), s.busOn = true ∧ s.codeMay 0x8B false = true ∧ m.read = true ∧ m.data = [] ∧ s.fld R.HOST_STATUS.PAGE = 0xFF) ∧
    (∃ (m : BusMsg) (s : State), s.takesRead m 0x8C true 0 = true) ∧
    (∃ (m : BusMsg) (s : State), s.busOn = true ∧ s.codeMay 0x8C false = true ∧ m.read = true ∧ m.data = [] ∧ s.fld R.HOST_STATUS.PAGE = 0xFF) ∧
    (∃ (x : Int) (m : BusMsg) (s : State), s.takesRead m 0x8D true 0 = true ∧ maxOf ((s.assigned s.page).map (fun p => s.sfld (R.PH_TEMP.TEMP p))) = some x) ∧
    (∃ (m : BusMsg) (s : State), s.busOn = true ∧ s.codeMay 0x8D false = true ∧ m.read = true ∧ m.data = [] ∧ s.fld R.HOST_STATUS.PAGE = 0xFF) ∧
    (∃ (x : Int) (m : BusMsg) (s : State), s.takesRead m 0x8E false 0 = true ∧ maxOf ((([29, 30, 61, 90, 122] : List Nat).filter (fun c => s.bit (R.MEAS_CH_STATUS.LV c))).map s.latest) = some x) ∧
    (∃ (m : BusMsg) (s : State), s.takesRead m 0x8E false 0 = true ∧ (∀ k ∈ ([29, 30, 61, 90, 122] : List Nat), s.bit (R.MEAS_CH_STATUS.LV k) = false)) ∧
    (∃ (m : BusMsg) (s : State), s.takesRead m 0x88 false 0 = true ∧ s.bit (R.MEAS_CH_STATUS.LV 63) = false) ∧
    (∃ (m : BusMsg) (s : State), s.takesRead m 0x8D true 0 = true ∧ s.assigned s.page = []) ∧
    (∃ (m : BusMsg) (s : State), s.takesRead m 0x98 false 0 = true) ∧
    (∃ (m : BusMsg) (s : State), s.takesRead m 0x99 false 0 = true) ∧
    (∃ (m : BusMsg) (s : State), s.takesRead m 0x9A false 0 = true) ∧
    (∃ (m : BusMsg) (s : State), s.takesRead m 0x9B false 0 = true) ∧
    (∃ (m : BusMsg) (s : State), s.takesRead m 0x9E false 0 = true) :=
  ⟨⟨⟨true, [], 40, .good, true, []⟩, W.host.setB (R.MEAS_CH_STATUS.LV 63) true, by decide⟩,
   ⟨State.reset, by decide⟩,
   ⟨⟨true, [], 40, .good, true, []⟩, W.host, by decide⟩,
   ⟨⟨true, [], 40, .good, true, []⟩, W.host.setF R.HOST_STATUS.PAGE 0xFF, by decide⟩,
   ⟨⟨true, [], 40, .good, true, []⟩, W.host, by decide⟩,
   ⟨⟨true, [], 40, .good, true, []⟩, W.host.setF R.HOST_STATUS.PAGE 0xFF, by decide⟩,
   ⟨0, ⟨true, [], 40, .good, true, []⟩, W.hostLoop, by decide⟩,
   ⟨⟨true, [], 40, .good, true, []⟩, W.host.setF R.HOST_STATUS.PAGE 0xFF, by decide⟩,
   ⟨0, ⟨true, [], 40, .good, true, []⟩, W.host.setB (R.MEAS_CH_STATUS.LV 29) true, by decide⟩,
   ⟨⟨true, [], 40, .good, true, []⟩, W.host, by decide⟩,
   ⟨⟨true, [], 40, .good, true, []⟩, W.host, by decide⟩,
   ⟨⟨true, [], 40, .good, true, []⟩, W.host, by decide⟩,
   ⟨⟨true, [], 40, .good, true, []⟩, W.host, by decide⟩,
   ⟨⟨true, [], 40, .good, true, []⟩, W.host, by decide⟩,
   ⟨⟨true, [], 40, .good, true, []⟩, W.host, by decide⟩,
   ⟨⟨true, [], 40, .good, true, []⟩, W.host, by decide⟩,
   ⟨⟨true, [], 40, .good, true, []⟩, W.host, by decide⟩⟩

/-- The hypotheses of BusReadsOfTheDeviceComplete can be met. -/
theorem test_BusReadsOfTheDeviceComplete_met :
    (∃ (m : BusMsg) (s : State), s.takesRead m 0xD0 false 0 = true) ∧
    (∃ (s : State), s.busOn = false) ∧
    (∃ (m : BusMsg) (s : State), s.takesRead m 0xD3 false 0 = true) ∧
    (∃ (m : BusMsg) (s : State), s.takesRead m 0xDA false 0 = true) ∧
    (∃ (m : BusMsg) (s : State), s.takesRead m 0xDC false 0 = true) ∧
    (∃ (m : BusMsg) (s : State), s.takesRead m 0xDE false 0 = true) ∧
    (∃ (m : BusMsg) (s : State), s.takesRead m 0xE1 false 0 = true) ∧
    (∃ (m : BusMsg) (s : State), s.takesRead m 0xE2 false 0 = true) ∧
    (∃ (m : BusMsg) (s : State), s.takesRead m 0xE3 false 0 = true) ∧
    (∃ (m : BusMsg) (s : State), s.takesRead m 0xE6 false 1 = true ∧ bytesLE m.data < 64) ∧
    (∃ (m : BusMsg) (s : State), s.takesRead m 0xD9 false 1 = true ∧ s.bit (R.MEAS_CH_STATUS.LV (bytesLE m.data)) = true) ∧
    (∃ (m : BusMsg) (s : State), s.takesRead m 0xD2 false 0 = true) ∧
    (∃ (m : BusMsg) (s : State), s.takesRead m 0xD2 false 0 = true ∧ (s.hostEntries 15) ≠ [] ∧ (blockOf ((s.hostEntries 15).flatMap QEntry.bytes)).length < m.clocked ∧ m.pec ≠ .bad) ∧
    (∃ (m : BusMsg) (s : State), s.takesRead m 0xD2 false 0 = true ∧ m.clocked < (blockOf ((s.hostEntries 15).flatMap QEntry.bytes)).length) ∧
    (∃ (m : BusMsg) (s : State), s.takesRead m 0xE8 false 0 = true ∧ s.fld R.HOST_MBOX_STAT.OUTLEN ≠ 0) ∧
    (∃ (buf : Fin 4) (m : BusMsg) (s : State), s.takesRead m (0xD5 + buf.val) false 1 = true ∧ s.bit (R.MEAS_SNAP_STAT.READY buf) = false) ∧
    (∃ (buf : Fin 4) (m : BusMsg) (s : State), s.takesRead m (0xD5 + buf.val) false 1 = true ∧ s.bit (R.MEAS_SNAP_STAT.READY buf) = true) ∧
    (∃ (m : BusMsg) (s : State), s.takesRead m 0xD9 false 1 = true ∧ s.bit (R.MEAS_CH_STATUS.LV (bytesLE m.data)) = false) ∧
    (∃ (m : BusMsg) (s : State), s.takesRead m 0xE8 false 0 = true ∧ s.fld R.HOST_MBOX_STAT.OUTLEN = 0) ∧
    (∃ (o : Nat) (m : BusMsg) (s : State), s.takesRead m 0xD1 false 0 = true ∧ placeFits s.host.winAddr.toNat s.host.winLen = true ∧ s.rangeMay false false s.host.winAddr.toNat s.host.winLen = true ∧ m.errs = [] ∧ placeOf s.host.winAddr.toNat = some (.sram o) ∧ s.sramPoisoned o s.host.winLen = false ∧ s.evt.eccNext = []) ∧
    (∃ (o : Nat) (m : BusMsg) (s : State), s.takesRead m 0xD1 false 0 = true ∧ placeFits s.host.winAddr.toNat s.host.winLen = true ∧ s.rangeMay false false s.host.winAddr.toNat s.host.winLen = true ∧ m.errs = [] ∧ placeOf s.host.winAddr.toNat = some (.trace o)) ∧
    (∃ (o : Nat) (m : BusMsg) (s : State), s.takesRead m 0xD1 false 0 = true ∧ placeFits s.host.winAddr.toNat s.host.winLen = true ∧ s.rangeMay false false s.host.winAddr.toNat s.host.winLen = true ∧ m.errs = [] ∧ placeOf s.host.winAddr.toNat = some (.queue o)) ∧
    (∃ (b : Bool) (o : Nat) (m : BusMsg) (s : State), s.takesRead m 0xD1 false 0 = true ∧ placeFits s.host.winAddr.toNat s.host.winLen = true ∧ s.rangeMay false false s.host.winAddr.toNat s.host.winLen = true ∧ m.errs = [] ∧ placeOf s.host.winAddr.toNat = some (.bank b o)) ∧
    (∃ (w : Nat) (m : BusMsg) (s : State), s.takesRead m 0xD1 false 0 = true ∧ placeFits s.host.winAddr.toNat s.host.winLen = true ∧ s.rangeMay false false s.host.winAddr.toNat s.host.winLen = true ∧ m.errs = [] ∧ placeOf s.host.winAddr.toNat = some (.ledger (8 * w)) ∧ s.host.winLen = 8) ∧
    (∃ (x : RegRow) (m : BusMsg) (s : State), s.takesRead m 0xD1 false 0 = true ∧ placeFits s.host.winAddr.toNat s.host.winLen = true ∧ s.rangeMay false false s.host.winAddr.toNat s.host.winLen = true ∧ m.errs = [] ∧ 0x40020000 ≤ s.host.winAddr.toNat ∧ s.host.winAddr.toNat < 0x40030000 ∧ s.host.winAddr.toNat % 4 = 0 ∧ s.host.winLen = 4 ∧ regRowOf s.host.winAddr.toNat = some x ∧ x.wo = 0) ∧
    (∃ (m : BusMsg) (s : State), s.busOn = true ∧ s.codeMay 0xD1 (!m.read) = true ∧ m.read = true ∧ m.errs = [] ∧ (placeFits s.host.winAddr.toNat s.host.winLen = false ∨ inBlock s.host.winAddr.toNat = true ∧ (s.host.winAddr.toNat % 4 ≠ 0 ∨ s.host.winLen % 4 ≠ 0))) ∧
    (∃ (m : BusMsg) (s : State), s.busOn = true ∧ s.codeMay 0xD1 (!m.read) = true ∧ m.read = true ∧ m.errs = [] ∧ placeFits s.host.winAddr.toNat s.host.winLen = true ∧ inBlock s.host.winAddr.toNat = false ∧ s.rangeMay false false s.host.winAddr.toNat s.host.winLen = false) :=
  ⟨⟨⟨true, [], 40, .good, true, []⟩, W.host, by decide⟩,
   ⟨State.reset, by decide⟩,
   ⟨⟨true, [], 40, .good, true, []⟩, W.host, by decide⟩,
   ⟨⟨true, [], 40, .good, true, []⟩, W.host, by decide⟩,
   ⟨⟨true, [], 40, .good, true, []⟩, W.host, by decide⟩,
   ⟨⟨true, [], 40, .good, true, []⟩, W.host, by decide⟩,
   ⟨⟨true, [], 40, .good, true, []⟩, W.host, by decide⟩,
   ⟨⟨true, [], 40, .good, true, []⟩, W.host, by decide⟩,
   ⟨⟨true, [], 40, .good, true, []⟩, W.host, by decide⟩,
   ⟨⟨true, [3#8], 40, .good, true, []⟩, W.host, by decide⟩,
   ⟨⟨true, [3#8], 40, .good, true, []⟩, W.host.setB (R.MEAS_CH_STATUS.LV 3) true, by decide⟩,
   ⟨⟨true, [], 40, .good, true, []⟩, W.host, by decide⟩,
   ⟨⟨true, [], 90, .good, true, []⟩, (W.host.setB R.MEAS_Q_CFG.OWNER false).setF R.MEAS_Q_STAT.COUNT 2, by decide⟩,
   ⟨⟨true, [], 3, .good, true, []⟩, (W.host.setB R.MEAS_Q_CFG.OWNER false).setF R.MEAS_Q_STAT.COUNT 2, by decide⟩,
   ⟨⟨true, [], 40, .good, true, []⟩, W.host.setF R.HOST_MBOX_STAT.OUTLEN 4, by decide⟩,
   ⟨1, ⟨true, [3#8], 40, .good, true, []⟩, W.host.setB (R.MEAS_SNAP_STAT.READY 1) false, by decide⟩,
   ⟨1, ⟨true, [3#8], 40, .good, true, []⟩, W.host.setB (R.MEAS_SNAP_STAT.READY 1) true, by decide⟩,
   ⟨⟨true, [3#8], 40, .good, true, []⟩, W.host, by decide⟩,
   ⟨⟨true, [], 40, .good, true, []⟩, W.host, by decide⟩,
   ⟨0, ⟨true, [], 40, .good, true, []⟩, W.hostWin, by decide⟩,
   ⟨0, ⟨true, [], 40, .good, true, []⟩, { W.host with host := { W.host.host with winAddr := 0x20200000#32, winLen := 16 } }, by decide⟩,
   ⟨0, ⟨true, [], 40, .good, true, []⟩, { W.host with host := { W.host.host with winAddr := 0x20300000#32, winLen := 16 } }, by decide⟩,
   ⟨true, 0, ⟨true, [], 40, .good, true, []⟩, { W.host with host := { W.host.host with winAddr := 0x70800000#32, winLen := 16 } }, by decide⟩,
   ⟨0, ⟨true, [], 40, .good, true, []⟩, { W.host with host := { W.host.host with winAddr := 0x60000000#32, winLen := 8 } }, by decide⟩,
   ⟨⟨0x5000, 1, 0, 1, 0, 0xFFF, 0, 0, 0x10000, 0, 0, 0x31001⟩, ⟨true, [], 40, .good, true, []⟩, { W.host with host := { W.host.host with winAddr := 0x40025000#32, winLen := 4 } }, by decide⟩,
   ⟨⟨true, [], 40, .good, true, []⟩, W.host, by decide⟩,
   ⟨⟨true, [], 40, .good, true, []⟩, { (W.up.updAcrd (fun a => { a with active := some false, image := some { W.image with hostPerm := List.replicate 256 3#8 ++ List.replicate 32 0#8 } })) with host := { W.up.host with winAddr := 0x70800000#32, winLen := 4 } }, by decide⟩⟩

/-- The hypotheses of BusWritesComplete can be met. -/
theorem test_BusWritesComplete_met :
    (∃ (m : BusMsg) (s : State), s.takesWrite m 0x00 1 1 = true ∧ 0x17 < bytesLE m.data ∧ bytesLE m.data ≠ 0xFF) ∧
    (∃ (m : BusMsg) (s : State), s.takesWrite m 0x01 1 1 = true ∧ bytesLE m.data ≠ 0x80 ∧ bytesLE m.data ≠ 0) ∧
    (∃ (m : BusMsg) (s : State), s.takesWrite m 0x01 1 1 = true ∧ (bytesLE m.data = 0x80 ∨ bytesLE m.data = 0) ∧ s.page < 24 ∧ s.railOfLoop s.page = none) ∧
    (∃ (m : BusMsg) (s : State), s.takesWrite m 0x27 2 2 = true ∧ (ofLinear11 (BitVec.ofNat 16 (wordOf m.data)) ≤ 0 ∨ 50 * 65536 < ofLinear11 (BitVec.ofNat 16 (wordOf m.data)))) ∧
    (∃ (m : BusMsg) (s : State), s.takesWrite m 0xD0 4 5 = true ∧ m.data.length = 5 ∧ (m.data.getD 4 0#8).toNat = 0) ∧
    (∃ (m : BusMsg) (s : State), s.takesWrite m 0x00 1 1 = true ∧ (bytesLE m.data ≤ 0x17 ∨ bytesLE m.data = 0xFF)) ∧
    (∃ (r : Nat) (m : BusMsg) (s : State), s.takesWrite m 0x01 1 1 = true ∧ s.page < 24 ∧ s.railOfLoop s.page = some r ∧ s.railCtrlOk r = true ∧ bytesLE m.data = 0x80) ∧
    (∃ (r : Nat) (m : BusMsg) (s : State), s.takesWrite m 0x01 1 1 = true ∧ s.page < 24 ∧ s.railOfLoop s.page = some r ∧ s.railCtrlOk r = true ∧ bytesLE m.data = 0) ∧
    (∃ (m : BusMsg) (s : State), s.takesWrite m 0x03 0 0 = true) ∧
    (∃ (s : State), s.busOn = false) ∧
    (∃ (m : BusMsg) (s : State), s.takesWrite m 0x21 2 2 = true ∧ s.page < 24 ∧ s.lstate s.page = L.off ∧ s.refusal s.page .hostBus (wordOf m.data) = none) ∧
    (∃ (m : BusMsg) (s : State), s.takesWrite m 0x27 2 2 = true ∧ s.page < 24 ∧ 0 < (ofLinear11 (BitVec.ofNat 16 (wordOf m.data))) ∧ (ofLinear11 (BitVec.ofNat 16 (wordOf m.data))) ≤ 50 * 65536) ∧
    (∃ (m : BusMsg) (s : State), s.takesWrite m 0x27 2 2 = true ∧ s.page = 0xFF ∧ 0 < (ofLinear11 (BitVec.ofNat 16 (wordOf m.data))) ∧ (ofLinear11 (BitVec.ofNat 16 (wordOf m.data))) ≤ 50 * 65536) ∧
    (∃ (m : BusMsg) (s : State), s.takesWrite m 0x21 2 2 = true ∧ s.page = 0xFF) ∧
    (∃ (m : BusMsg) (s : State), s.takesWrite m 0x03 0 0 = true ∧ s.page = 0xFF) ∧
    (∃ (m : BusMsg) (s : State), s.takesWrite m 0x03 0 0 = true ∧ s.page < 24) ∧
    (∃ (r k : Nat) (m : BusMsg) (s : State), s.takesWrite m 0x01 1 1 = true ∧ s.page = 0xFF ∧ s.railOfLoop k = some r ∧ k < 24 ∧ s.railCtrlOk r = true ∧ (bytesLE m.data = 0x80 ∨ bytesLE m.data = 0)) ∧
    (∃ (m : BusMsg) (s : State), s.takesWrite m 0x78 1 1 = true ∧ s.page = 0xFF) ∧
    (∃ (m : BusMsg) (s : State), s.takesWrite m 0x79 2 2 = true ∧ s.page = 0xFF) ∧
    (∃ (m : BusMsg) (s : State), s.takesWrite m 0x7A 1 1 = true ∧ s.page = 0xFF) ∧
    (∃ (m : BusMsg) (s : State), s.takesWrite m 0x7B 1 1 = true ∧ s.page = 0xFF) ∧
    (∃ (m : BusMsg) (s : State), s.takesWrite m 0x7D 1 1 = true ∧ s.page = 0xFF) ∧
    (∃ (m : BusMsg) (s : State), s.takesWrite m 0x80 1 1 = true ∧ s.page = 0xFF) ∧
    (∃ (m : BusMsg) (s : State), s.takesWrite m 0x78 1 1 = true ∧ s.page < 24) ∧
    (∃ (m : BusMsg) (s : State), s.takesWrite m 0x79 2 2 = true ∧ s.page < 24) ∧
    (∃ (m : BusMsg) (s : State), s.takesWrite m 0x7A 1 1 = true ∧ s.page < 24) ∧
    (∃ (m : BusMsg) (s : State), s.takesWrite m 0x7B 1 1 = true ∧ s.page < 24) ∧
    (∃ (m : BusMsg) (s : State), s.takesWrite m 0x7D 1 1 = true ∧ s.page < 24) ∧
    (∃ (m : BusMsg) (s : State), s.takesWrite m 0x80 1 1 = true ∧ s.page < 24) ∧
    (∃ (m : BusMsg) (s : State), s.takesWrite m 0x7E 1 1 = true) ∧
    (∃ (m : BusMsg) (s : State), s.takesWrite m 0xD0 4 5 = true ∧ (m.data.length = 5 → (m.data.getD 4 0#8).toNat ≠ 0)) ∧
    (∃ (o : Nat) (u : State) (m : BusMsg) (s : State), s.takesWrite m 0xD1 1 255 = true ∧ s.rangeMay false true (winSpan true s.host.winAddr.toNat m.data.length).1 (winSpan true s.host.winAddr.toNat m.data.length).2 = true ∧ placeFits (winSpan true s.host.winAddr.toNat m.data.length).1 (winSpan true s.host.winAddr.toNat m.data.length).2 = true ∧ m.errs = [] ∧ placeOf s.host.winAddr.toNat = some (.sram o) ∧ s.evt.eccNext = [] ∧ s.sramWrite o m.data = some u) ∧
    (∃ (x : RegRow) (m : BusMsg) (s : State), s.takesWrite m 0xD1 1 255 = true ∧ s.rangeMay false true (winSpan true s.host.winAddr.toNat m.data.length).1 (winSpan true s.host.winAddr.toNat m.data.length).2 = true ∧ placeFits (winSpan true s.host.winAddr.toNat m.data.length).1 (winSpan true s.host.winAddr.toNat m.data.length).2 = true ∧ m.errs = [] ∧ 0x40025000 ≤ s.host.winAddr.toNat ∧ s.host.winAddr.toNat < 0x40030000 ∧ s.host.winAddr.toNat % 4 = 0 ∧ m.data.length = 4 ∧ regRowOf s.host.winAddr.toNat = some x) ∧
    (∃ (o : Nat) (m : BusMsg) (s : State), s.takesWrite m 0xD1 1 255 = true ∧ s.rangeMay false true (winSpan true s.host.winAddr.toNat m.data.length).1 (winSpan true s.host.winAddr.toNat m.data.length).2 = true ∧ placeFits (winSpan true s.host.winAddr.toNat m.data.length).1 (winSpan true s.host.winAddr.toNat m.data.length).2 = true ∧ m.errs = [] ∧ placeOf s.host.winAddr.toNat = some (.ledger o) ∧ (s.openBus.windowWrite (.window .hostBus) (o / 64) (o % 64) m.data).1 = .placed) ∧
    (∃ (o : Nat) (m : BusMsg) (s : State), s.takesWrite m 0xD1 1 255 = true ∧ s.rangeMay false true (winSpan true s.host.winAddr.toNat m.data.length).1 (winSpan true s.host.winAddr.toNat m.data.length).2 = true ∧ placeFits (winSpan true s.host.winAddr.toNat m.data.length).1 (winSpan true s.host.winAddr.toNat m.data.length).2 = true ∧ m.errs = [] ∧ placeOf s.host.winAddr.toNat = some (.ledger o) ∧ ((s.openBus.windowWrite (.window .hostBus) (o / 64) (o % 64) m.data).1 = .refused ∨ (s.openBus.windowWrite (.window .hostBus) (o / 64) (o % 64) m.data).1 = .waits)) ∧
    (∃ (o : Nat) (m : BusMsg) (s : State), s.takesWrite m 0xD1 1 255 = true ∧ s.rangeMay false true (winSpan true s.host.winAddr.toNat m.data.length).1 (winSpan true s.host.winAddr.toNat m.data.length).2 = true ∧ placeFits (winSpan true s.host.winAddr.toNat m.data.length).1 (winSpan true s.host.winAddr.toNat m.data.length).2 = true ∧ m.errs = [] ∧ placeOf s.host.winAddr.toNat = some (.ledger o) ∧ (s.openBus.windowWrite (.window .hostBus) (o / 64) (o % 64) m.data).1 = .notPermitted) ∧
    (∃ (b : Bool) (o : Nat) (m : BusMsg) (s : State), s.takesWrite m 0xD1 1 255 = true ∧ s.rangeMay false true (winSpan true s.host.winAddr.toNat m.data.length).1 (winSpan true s.host.winAddr.toNat m.data.length).2 = true ∧ placeFits (winSpan true s.host.winAddr.toNat m.data.length).1 (winSpan true s.host.winAddr.toNat m.data.length).2 = true ∧ m.errs = [] ∧ placeOf s.host.winAddr.toNat = some (.bank b o) ∧ s.bankOpen .hostBus b = true) ∧
    (∃ (b : Bool) (o : Nat) (m : BusMsg) (s : State), s.takesWrite m 0xD1 1 255 = true ∧ s.rangeMay false true (winSpan true s.host.winAddr.toNat m.data.length).1 (winSpan true s.host.winAddr.toNat m.data.length).2 = true ∧ placeFits (winSpan true s.host.winAddr.toNat m.data.length).1 (winSpan true s.host.winAddr.toNat m.data.length).2 = true ∧ m.errs = [] ∧ placeOf s.host.winAddr.toNat = some (.bank b o) ∧ s.bankOpen .hostBus b = false) ∧
    (∃ (o : Nat) (m : BusMsg) (s : State), s.busOn = true ∧ s.codeMay 0xD1 true = true ∧ m.read = false ∧ m.errs = [] ∧ placeOf s.host.winAddr.toNat = some (.sram o) ∧ placeFits s.host.winAddr.toNat (max m.data.length 1) = true ∧ s.rangeMay false true s.host.winAddr.toNat (max m.data.length 1) = true ∧ m.data.length ≤ 255 ∧ 1 ≤ m.data.length ∧ m.complete = true ∧ s.pecWrong m 0xD1 = true ∧ s.evt.eccNext = [] ∧ (s.openBus.sramPortWrite o m.data).1 = true) ∧
    (∃ (m : BusMsg) (s : State), s.takesWrite m 0xE7 1 64 = true ∧ s.bit R.HOST_MBOX_STAT.INFULL = false) ∧
    (∃ (m : BusMsg) (s : State), s.busOn = true ∧ s.codeMay 0xE7 true = true ∧ m.read = false ∧ s.bit R.HOST_MBOX_STAT.INFULL = true) ∧
    (busCode (.page ⟨false, [5#8, 6#8], 0, .good, true, []⟩) = some (0, ⟨false, [5#8, 6#8], 0, .good, true, []⟩) ∧ writeSizes 0 = some (1, 1) ∧ W.host.busOn = true ∧ W.host.codeMay 0 (decide (0 ≠ 3)) = true) ∧
    (busCode (.page ⟨false, [5#8], 0, .bad, true, []⟩) = some (0, ⟨false, [5#8], 0, .bad, true, []⟩) ∧ writeSizes 0 = some (1, 1) ∧ W.host.busOn = true ∧ W.host.codeMay 0 (decide (0 ≠ 3)) = true ∧ W.host.pecWrong ⟨false, [5#8], 0, .bad, true, []⟩ 0 = true) ∧
    (busCode (.capability ⟨false, [5#8, 6#8], 0, .good, true, []⟩) = some (0x19, ⟨false, [5#8, 6#8], 0, .good, true, []⟩) ∧ writeSizes 0x19 = none ∧ W.host.busOn = true ∧ W.host.codeMay 0x19 true = true) :=
  ⟨⟨⟨false, [0x18#8], 0, .good, true, []⟩, W.host, by decide⟩,
   ⟨⟨false, [3#8], 0, .good, true, []⟩, W.host, by decide⟩,
   ⟨⟨false, [0x80#8], 0, .good, true, []⟩, W.host, by decide⟩,
   ⟨⟨false, [0#8, 0#8], 0, .good, true, []⟩, W.host, by decide⟩,
   ⟨⟨false, [0#8, 0#8, 0#8, 0x20#8, 0#8], 0, .good, true, []⟩, W.host, by decide⟩,
   ⟨⟨false, [5#8], 0, .good, true, []⟩, W.host, by decide⟩,
   ⟨3, ⟨false, [0x80#8], 0, .good, true, []⟩, W.hostRail, by decide⟩,
   ⟨3, ⟨false, [0#8], 0, .good, true, []⟩, W.hostRail, by decide⟩,
   ⟨⟨false, [], 0, .good, true, []⟩, W.host, by decide⟩,
   ⟨State.reset, by decide⟩,
   ⟨⟨false, [0#8, 8#8], 0, .good, true, []⟩, W.hostLoop0, by decide⟩,
   ⟨⟨false, [1#8, 0#8], 0, .good, true, []⟩, W.host, by decide⟩,
   ⟨⟨false, [1#8, 0#8], 0, .good, true, []⟩, W.host.setF R.HOST_STATUS.PAGE 0xFF, by decide⟩,
   ⟨⟨false, [0#8, 8#8], 0, .good, true, []⟩, W.hostLoop0.setF R.HOST_STATUS.PAGE 0xFF, by decide⟩,
   ⟨⟨false, [], 0, .good, true, []⟩, W.host.setF R.HOST_STATUS.PAGE 0xFF, by decide⟩,
   ⟨⟨false, [], 0, .good, true, []⟩, W.host, by decide⟩,
   ⟨3, 0, ⟨false, [0x80#8], 0, .good, true, []⟩, W.hostRail.setF R.HOST_STATUS.PAGE 0xFF, by decide⟩,
   ⟨⟨false, [1#8], 0, .good, true, []⟩, W.host.setF R.HOST_STATUS.PAGE 0xFF, by decide⟩,
   ⟨⟨false, [1#8, 0#8], 0, .good, true, []⟩, W.host.setF R.HOST_STATUS.PAGE 0xFF, by decide⟩,
   ⟨⟨false, [1#8], 0, .good, true, []⟩, W.host.setF R.HOST_STATUS.PAGE 0xFF, by decide⟩,
   ⟨⟨false, [1#8], 0, .good, true, []⟩, W.host.setF R.HOST_STATUS.PAGE 0xFF, by decide⟩,
   ⟨⟨false, [1#8], 0, .good, true, []⟩, W.host.setF R.HOST_STATUS.PAGE 0xFF, by decide⟩,
   ⟨⟨false, [1#8], 0, .good, true, []⟩, W.host.setF R.HOST_STATUS.PAGE 0xFF, by decide⟩,
   ⟨⟨false, [1#8], 0, .good, true, []⟩, W.host, by decide⟩,
   ⟨⟨false, [1#8, 0#8], 0, .good, true, []⟩, W.host, by decide⟩,
   ⟨⟨false, [1#8], 0, .good, true, []⟩, W.host, by decide⟩,
   ⟨⟨false, [1#8], 0, .good, true, []⟩, W.host, by decide⟩,
   ⟨⟨false, [1#8], 0, .good, true, []⟩, W.host, by decide⟩,
   ⟨⟨false, [1#8], 0, .good, true, []⟩, W.host, by decide⟩,
   ⟨⟨false, [1#8], 0, .good, true, []⟩, W.host, by decide⟩,
   ⟨⟨false, [0#8, 0#8, 0#8, 0x20#8], 0, .good, true, []⟩, W.host, by decide⟩,
   ⟨0, (W.hostWin.sramWrite 0 [1#8]).getD W.hostWin, ⟨false, [1#8], 0, .good, true, []⟩, W.hostWin, by decide⟩,
   ⟨⟨0x5000, 1, 0, 1, 0, 0xFFF, 0, 0, 0x10000, 0, 0, 0x31001⟩, ⟨false, [0#8, 0#8, 1#8, 0#8], 0, .good, true, []⟩, { W.host with host := { W.host.host with winAddr := 0x40025000#32, winLen := 4 } }, by decide⟩,
   ⟨65536, ⟨false, [1#8, 2#8, 3#8, 4#8, 5#8, 6#8, 7#8, 8#8], 0, .good, true, []⟩, ({ W.host with host := { W.host.host with winAddr := 0x60010000#32, winLen := 8 } } : State).setF R.SYS_STATUS.LC 1, by decide⟩,
   ⟨65536, ⟨false, [1#8, 2#8, 3#8, 4#8, 5#8, 6#8, 7#8, 8#8], 0, .good, true, []⟩, { ((({ W.host with host := { W.host.host with winAddr := 0x60010000#32, winLen := 8 } } : State).setF R.SYS_STATUS.LC 1).setB R.LEDG_STATUS.HELD true) with ledg := { State.reset.ledg with slots := (List.range 64).map (fun i => ⟨2000 + i, [], 1, 0, false⟩) } }, by decide⟩,
   ⟨65536, ⟨false, [1#8, 2#8, 3#8, 4#8, 5#8, 6#8, 7#8, 8#8], 0, .good, true, []⟩, (({ W.host with host := { W.host.host with winAddr := 0x60010000#32, winLen := 8 } } : State).setF R.SYS_STATUS.LC 1).setF R.SYS_STATUS.LC 5, by decide⟩,
   ⟨true, 64, ⟨false, [1#8], 0, .good, true, []⟩, { W.host with host := { W.host.host with winAddr := 0x70800040#32, winLen := 4 } }, by decide⟩,
   ⟨true, 64, ⟨false, [1#8], 0, .good, true, []⟩, ({ W.host with host := { W.host.host with winAddr := 0x70800040#32, winLen := 4 } } : State).setB R.ACRD_STATUS.SWITCH_PEND true, by decide⟩,
   ⟨0, ⟨false, [1#8], 0, .bad, true, []⟩, W.hostWin, by decide⟩,
   ⟨⟨false, [1#8], 0, .good, true, []⟩, W.host, by decide⟩,
   ⟨⟨false, [1#8], 0, .good, true, []⟩, W.host.setB R.HOST_MBOX_STAT.INFULL true, by decide⟩,
   by decide,
   by decide,
   by decide⟩

/-- The hypotheses of RegisterWriteMergesByAccessCode can be met. -/
theorem test_RegisterWriteMergesByAccessCode_met :
    (∃ (r : Req) (addr : Word) (k : Nat) (x : RegRow) (s : State), s.topOn = true ∧ addr.toNat % 4 = 0 ∧ 0x40000000 ≤ addr.toNat ∧ addr.toNat < 0x400E0000 ∧ s.may r addr.toNat true none = true ∧ portHidden r addr.toNat 4 = false ∧ regKey r addr.toNat = some k ∧ commandKey k = false ∧ regRowOf (k % 2 ^ 32) = some x ∧ (noteKey k = false ∨ r ≠ .hostBus)) ∧
    (∃ (s : State), s.topOn = false) ∧
    (∃ (addr : Word) (s : State), (s.topOn = true ∧ (addr.toNat % 4 ≠ 0 ∨ addr.toNat < 0x40000000 ∨ 0x400E0000 ≤ addr.toNat))) ∧
    (∃ (r : Req) (addr : Word) (s : State), (s.topOn = true ∧ addr.toNat % 4 = 0 ∧ 0x40000000 ≤ addr.toNat ∧ addr.toNat < 0x400E0000 ∧ s.may r addr.toNat true none = false)) ∧
    (∃ (r : Req) (addr w : Word) (k : Nat) (x : RegRow) (s : State), s.topOn = true ∧ addr.toNat % 4 = 0 ∧ 0x40000000 ≤ addr.toNat ∧ addr.toNat < 0x400E0000 ∧ s.may r addr.toNat true none = true ∧ portHidden r addr.toNat 4 = false ∧ regKey r addr.toNat = some k ∧ commandKey k = false ∧ regRowOf (k % 2 ^ 32) = some x ∧ (s.sys.stage ≠ .released ∨ (s.reg k ^^^ w) &&& (if s.rwlOpen then BitVec.ofNat 32 x.rwl else 0#32) = 0#32)) :=
  ⟨⟨.engine 0, 0x40025000#32, 0x40025000, ⟨0x5000, 1, 0, 1, 0, 0xFFF, 0, 0, 0x10000, 0, 0, 0x31001⟩, W.image0, by decide⟩,
   ⟨State.reset, by decide⟩,
   ⟨0x30000000#32, W.image0, by decide⟩,
   ⟨.hostBus, 0x40025000#32, W.up, by decide⟩,
   ⟨.engine 0, 0x40025000#32, 0x10000#32, 0x40025000, ⟨0x5000, 1, 0, 1, 0, 0xFFF, 0, 0, 0x10000, 0, 0, 0x31001⟩, W.image0, by decide⟩⟩

end Sys2Proof.Machine
end

section
/-! SUPPORT.  What each command keeps, over all commands: the lemmas of `Keeps`, one for each command, put together. -/

namespace Sys2Proof.Machine

variable {s t : State}

/-- A command changes the memories, the running image and the life phase only where its lists say so. -/
theorem exec_keeps {c : Instr} (h : exec c s = .next t) :
    Keeps (!changesMemory c) (!changesImage c) (!changesPhase c) s t := by
  cases c with
  | vinRiseStart => exact execVinRiseStart_keeps (.refl _ _ _ s) h
  | flaconExit svc => exact execFlaconExit_keeps (x0 := svc) (.refl _ _ _ s) h
  | startBegin => exact execStartBegin_keeps (.refl _ _ _ s) h
  | strapReadingDone => exact execStrapReadingDone_keeps (.refl _ _ _ s) h
  | startLedgerRead => exact execStartLedgerRead_keeps (.refl _ _ _ s) h
  | startupSelfTestEnd => exact execStartupSelfTestEnd_keeps (.refl _ _ _ s) h
  | accordLoadStart => exact execAccordLoadStart_keeps (.refl _ _ _ s) h
  | banksJudged => exact execBanksJudged_keeps (.refl _ _ _ s) h
  | fabricConfigured => exact execFabricConfigured_keeps (.refl _ _ _ s) h
  | sequencerRelease => exact execSequencerRelease_keeps (.refl _ _ _ s) h
  | logScanEnd => exact execLogScanEnd_keeps (.refl _ _ _ s) h
  | uvlo => exact execUvlo_keeps (.refl _ _ _ s) h
  | brownOut => exact execBrownOut_keeps (.refl _ _ _ s) h
  | brownOutRestart => exact execBrownOutRestart_keeps (.refl _ _ _ s) h
  | bnPor => exact execBnPor_keeps (.refl _ _ _ s) h
  | hsupOvervoltage => exact execHsupOvervoltage_keeps (.refl _ _ _ s) h
  | hsupOvRecover => exact execHsupOvRecover_keeps (.refl _ _ _ s) h
  | houseRailExcursion => exact execHouseRailExcursion_keeps (.refl _ _ _ s) h
  | xinQualified => exact execXinQualified_keeps (.refl _ _ _ s) h
  | xinQualifyTimeout => exact execXinQualifyTimeout_keeps (.refl _ _ _ s) h
  | xinMonitorFail => exact execXinMonitorFail_keeps (.refl _ _ _ s) h
  | ref100MonitorFail => exact execRef100MonitorFail_keeps (.refl _ _ _ s) h
  | bnoMonitorFail => exact execBnoMonitorFail_keeps (.refl _ _ _ s) h
  | pllpUnlock => exact execPllpUnlock_keeps (.refl _ _ _ s) h
  | pllpRelock => exact execPllpRelock_keeps (.refl _ _ _ s) h
  | pllpUnlockTimeout => exact execPllpUnlockTimeout_keeps (.refl _ _ _ s) h
  | plleUnlock => exact execPlleUnlock_keeps (.refl _ _ _ s) h
  | plleRelock => exact execPlleRelock_keeps (.refl _ _ _ s) h
  | plleReconfigDone => exact execPlleReconfigDone_keeps (.refl _ _ _ s) h
  | pllmUnlock => exact execPllmUnlock_keeps (.refl _ _ _ s) h
  | pllmRelock => exact execPllmRelock_keeps (.refl _ _ _ s) h
  | powerDownToPark => exact execPowerDownToPark_keeps (.refl _ _ _ s) h
  | powerDownToFlacon => exact execPowerDownToFlacon_keeps (.refl _ _ _ s) h
  | parkEntry => exact execParkEntry_keeps (.refl _ _ _ s) h
  | flaconEntry => exact execFlaconEntry_keeps (.refl _ _ _ s) h
  | wakeInputWake => exact execWakeInputWake_keeps (.refl _ _ _ s) h
  | busAddressWake => exact execBusAddressWake_keeps (.refl _ _ _ s) h
  | linkActivityWake => exact execLinkActivityWake_keeps (.refl _ _ _ s) h
  | svcNWake => exact execSvcNWake_keeps (.refl _ _ _ s) h
  | parkAlarmWake => exact execParkAlarmWake_keeps (.refl _ _ _ s) h
  | lcTransitionRequest => exact execLcTransitionRequest_keeps (.refl _ _ _ s) h
  | returnRequestJudged => exact execReturnRequestJudged_keeps (.refl _ _ _ s) h
  | scrubFrameRead => exact execScrubFrameRead_keeps (.refl _ _ _ s) h
  | tileReloadRequest => exact execTileReloadRequest_keeps (.refl _ _ _ s) h
  | tileReloadDone => exact execTileReloadDone_keeps (.refl _ _ _ s) h
  | verifyStaged => exact execVerifyStaged_keeps (.refl _ _ _ s) h
  | verifyStagedDone => exact execVerifyStagedDone_keeps (.refl _ _ _ s) h
  | selectStaged => exact execSelectStaged_keeps (.refl _ _ _ s) h
  | paramWrite => exact execParamWrite_keeps (.refl _ _ _ s) h
  | paramRead => exact execParamRead_keeps (.refl _ _ _ s) h
  | paramReadDefault => exact execParamReadDefault_keeps (.refl _ _ _ s) h
  | scheduledSwitch => exact execScheduledSwitch_keeps (.refl _ _ _ s) h
  | switchRelease => exact execSwitchRelease_keeps (.refl _ _ _ s) h
  | fabricTermChange => exact execFabricTermChange_keeps (.refl _ _ _ s) h
  | fabricGroupShutdown => exact execFabricGroupShutdown_keeps (.refl _ _ _ s) h
  | fabricUrgentRequest => exact execFabricUrgentRequest_keeps (.refl _ _ _ s) h
  | fabricFs63Raise => exact execFabricFs63Raise_keeps (.refl _ _ _ s) h
  | fabricGpLevel => exact execFabricGpLevel_keeps (.refl _ _ _ s) h
  | fabricRstoAssert => exact execFabricRstoAssert_keeps (.refl _ _ _ s) h
  | fabricSetpointCommand => exact execFabricSetpointCommand_keeps (.refl _ _ _ s) h
  | fabricEventRaise => exact execFabricEventRaise_keeps (.refl _ _ _ s) h
  | fabricSnapshotRequest => exact execFabricSnapshotRequest_keeps (.refl _ _ _ s) h
  | tileTimerExpiry => exact execTileTimerExpiry_keeps (.refl _ _ _ s) h
  | setpointCommand => exact execSetpointCommand_keeps (.refl _ _ _ s) h
  | slewTick => exact execSlewTick_keeps (.refl _ _ _ s) h
  | compensatorUpdate => exact execCompensatorUpdate_keeps (.refl _ _ _ s) h
  | telemetryUpdate => exact execTelemetryUpdate_keeps (.refl _ _ _ s) h
  | pgMaskEnd => exact execPgMaskEnd_keeps (.refl _ _ _ s) h
  | loopOvervoltage => exact execLoopOvervoltage_keeps (.refl _ _ _ s) h
  | loopOvClear => exact execLoopOvClear_keeps (.refl _ _ _ s) h
  | loopUndervoltage => exact execLoopUndervoltage_keeps (.refl _ _ _ s) h
  | loopOcFault => exact execLoopOcFault_keeps (.refl _ _ _ s) h
  | nlEntry => exact execNlEntry_keeps (.refl _ _ _ s) h
  | nlExit => exact execNlExit_keeps (.refl _ _ _ s) h
  | phaseShed => exact execPhaseShed_keeps (.refl _ _ _ s) h
  | respacing => exact execRespacing_keeps (.refl _ _ _ s) h
  | lockTake => exact execLockTake_keeps (.refl _ _ _ s) h
  | lockRelease => exact execLockRelease_keeps (.refl _ _ _ s) h
  | lockTimeout => exact execLockTimeout_keeps (.refl _ _ _ s) h
  | syncInLost => exact execSyncInLost_keeps (.refl _ _ _ s) h
  | syncInEdge => exact execSyncInEdge_keeps (.refl _ _ _ s) h
  | phasePosLimit => exact execPhasePosLimit_keeps (.refl _ _ _ s) h
  | phaseNegLimit => exact execPhaseNegLimit_keeps (.refl _ _ _ s) h
  | phaseOpen => exact execPhaseOpen_keeps (.refl _ _ _ s) h
  | phaseStageFault => exact execPhaseStageFault_keeps (.refl _ _ _ s) h
  | stageBlankEnd => exact execStageBlankEnd_keeps (.refl _ _ _ s) h
  | phaseHot => exact execPhaseHot_keeps (.refl _ _ _ s) h
  | phaseTempWarning => exact execPhaseTempWarning_keeps (.refl _ _ _ s) h
  | phaseTempWarningEnd => exact execPhaseTempWarningEnd_keeps (.refl _ _ _ s) h
  | senseSuspectRange => exact execSenseSuspectRange_keeps (.refl _ _ _ s) h
  | senseSuspectFlux => exact execSenseSuspectFlux_keeps (.refl _ _ _ s) h
  | isnsRefFail => exact execIsnsRefFail_keeps (.refl _ _ _ s) h
  | surveyBurstStart => exact execSurveyBurstStart_keeps (.refl _ _ _ s) h
  | surveyForce => exact execSurveyForce_keeps (.refl _ _ _ s) h
  | surveyPause => exact execSurveyPause_keeps (.refl _ _ _ s) h
  | surveyResume => exact execSurveyResume_keeps (.refl _ _ _ s) h
  | surveyTimeout => exact execSurveyTimeout_keeps (.refl _ _ _ s) h
  | surveyBurstEnd => exact execSurveyBurstEnd_keeps (.refl _ _ _ s) h
  | surveyResult => exact execSurveyResult_keeps (.refl _ _ _ s) h
  | intentSetpoint => exact execIntentSetpoint_keeps (.refl _ _ _ s) h
  | intentForecast => exact execIntentForecast_keeps (.refl _ _ _ s) h
  | intentBadFrame => exact execIntentBadFrame_keeps (.refl _ _ _ s) h
  | intentShortTransaction => exact execIntentShortTransaction_keeps (.refl _ _ _ s) h
  | forecastPreposition => exact execForecastPreposition_keeps (.refl _ _ _ s) h
  | forecastUnfulfilled => exact execForecastUnfulfilled_keeps (.refl _ _ _ s) h
  | preraiseHoldEnd => exact execPreraiseHoldEnd_keeps (.refl _ _ _ s) h
  | sequencerTick => exact execSequencerTick_keeps (.refl _ _ _ s) h
  | railOnRequest => exact execRailOnRequest_keeps (.refl _ _ _ s) h
  | railOffRequest => exact execRailOffRequest_keeps (.refl _ _ _ s) h
  | railClearLatch => exact execRailClearLatch_keeps (.refl _ _ _ s) h
  | railQualified => exact execRailQualified_keeps (.refl _ _ _ s) h
  | railStartTimeout => exact execRailStartTimeout_keeps (.refl _ _ _ s) h
  | railChatterLimit => exact execRailChatterLimit_keeps (.refl _ _ _ s) h
  | railDischargeTimeout => exact execRailDischargeTimeout_keeps (.refl _ _ _ s) h
  | retryDelayEnd => exact execRetryDelayEnd_keeps (.refl _ _ _ s) h
  | retryCountClear => exact execRetryCountClear_keeps (.refl _ _ _ s) h
  | groupShutdownRequest => exact execGroupShutdownRequest_keeps (.refl _ _ _ s) h
  | groupClosureOff => exact execGroupClosureOff_keeps (.refl _ _ _ s) h
  | groupResequence => exact execGroupResequence_keeps (.refl _ _ _ s) h
  | groupStable => exact execGroupStable_keeps (.refl _ _ _ s) h
  | systemResetHoldEnd => exact execSystemResetHoldEnd_keeps (.refl _ _ _ s) h
  | systemStable => exact execSystemStable_keeps (.refl _ _ _ s) h
  | seqResume => exact execSeqResume_keeps (.refl _ _ _ s) h
  | snapshotPlaced => exact execSnapshotPlaced_keeps (.refl _ _ _ s) h
  | monCrossing => exact execMonCrossing_keeps (.refl _ _ _ s) h
  | monFilterExpiry => exact execMonFilterExpiry_keeps (.refl _ _ _ s) h
  | vinLossSet => exact execVinLossSet_keeps (.refl _ _ _ s) h
  | vinLossClear => exact execVinLossClear_keeps (.refl _ _ _ s) h
  | vinWindowExit => exact execVinWindowExit_keeps (.refl _ _ _ s) h
  | vinWindowReturn => exact execVinWindowReturn_keeps (.refl _ _ _ s) h
  | rstoMinwEnd => exact execRstoMinwEnd_keeps (.refl _ _ _ s) h
  | rstoRelease => exact execRstoRelease_keeps (.refl _ _ _ s) h
  | wdAnswer => exact execWdAnswer_keeps (.refl _ _ _ s) h
  | wdClosedEnd => exact execWdClosedEnd_keeps (.refl _ _ _ s) h
  | wdTimeout => exact execWdTimeout_keeps (.refl _ _ _ s) h
  | softStartEnd => exact execSoftStartEnd_keeps (.refl _ _ _ s) h
  | softStartTimeout => exact execSoftStartTimeout_keeps (.refl _ _ _ s) h
  | vinStable => exact execVinStable_keeps (.refl _ _ _ s) h
  | reverseDetect => exact execReverseDetect_keeps (.refl _ _ _ s) h
  | vsysLowDetect => exact execVsysLowDetect_keeps (.refl _ _ _ s) h
  | handoverComplete => exact execHandoverComplete_keeps (.refl _ _ _ s) h
  | bswReverseOff => exact execBswReverseOff_keeps (.refl _ _ _ s) h
  | packWarning => exact execPackWarning_keeps (.refl _ _ _ s) h
  | packWarningEnd => exact execPackWarningEnd_keeps (.refl _ _ _ s) h
  | packCut => exact execPackCut_keeps (.refl _ _ _ s) h
  | packCutEnd => exact execPackCutEnd_keeps (.refl _ _ _ s) h
  | returnTransfer => exact execReturnTransfer_keeps (.refl _ _ _ s) h
  | returnNoTransfer => exact execReturnNoTransfer_keeps (.refl _ _ _ s) h
  | chargerSourceReturn => exact execChargerSourceReturn_keeps (.refl _ _ _ s) h
  | prechargeExit => exact execPrechargeExit_keeps (.refl _ _ _ s) h
  | prechargeTimeout => exact execPrechargeTimeout_keeps (.refl _ _ _ s) h
  | chargerStepEnd => exact execChargerStepEnd_keeps (.refl _ _ _ s) h
  | chargerTermination => exact execChargerTermination_keeps (.refl _ _ _ s) h
  | chargerRecharge => exact execChargerRecharge_keeps (.refl _ _ _ s) h
  | fastChargeTimeout => exact execFastChargeTimeout_keeps (.refl _ _ _ s) h
  | packZoneChange => exact execPackZoneChange_keeps (.refl _ _ _ s) h
  | chargerFault => exact execChargerFault_keeps (.refl _ _ _ s) h
  | chargerClear => exact execChargerClear_keeps (.refl _ _ _ s) h
  | chargerRestart => exact execChargerRestart_keeps (.refl _ _ _ s) h
  | chargerSoftLimit => exact execChargerSoftLimit_keeps (.refl _ _ _ s) h
  | packPresent => exact execPackPresent_keeps (.refl _ _ _ s) h
  | packAbsent => exact execPackAbsent_keeps (.refl _ _ _ s) h
  | presenceProbe => exact execPresenceProbe_keeps (.refl _ _ _ s) h
  | peerModeOff => exact execPeerModeOff_keeps (.refl _ _ _ s) h
  | peerModeIn => exact execPeerModeIn_keeps (.refl _ _ _ s) h
  | peerModeOut => exact execPeerModeOut_keeps (.refl _ _ _ s) h
  | peerOutEstablished => exact execPeerOutEstablished_keeps (.refl _ _ _ s) h
  | peerOutUndervoltage => exact execPeerOutUndervoltage_keeps (.refl _ _ _ s) h
  | longPress => exact execLongPress_keeps (.refl _ _ _ s) h
  | longPressEnd => exact execLongPressEnd_keeps (.refl _ _ _ s) h
  | converterWord => exact execConverterWord_keeps (.refl _ _ _ s) h
  | urgentRequest => exact execUrgentRequest_keeps (.refl _ _ _ s) h
  | snapshotTake => exact execSnapshotTake_keeps (.refl _ _ _ s) h
  | snapshotClear => exact execSnapshotClear_keeps (.refl _ _ _ s) h
  | snapshotTakeClear => exact execSnapshotTakeClear_keeps (.refl _ _ _ s) h
  | snapshotReady => exact execSnapshotReady_keeps (.refl _ _ _ s) h
  | queueRelease e => exact execQueueRelease_keeps (x0 := e) (.refl _ _ _ s) h
  | graceExpiry => exact execGraceExpiry_keeps (.refl _ _ _ s) h
  | immediateEscalation => exact execImmediateEscalation_keeps (.refl _ _ _ s) h
  | faultAck => exact execFaultAck_keeps (.refl _ _ _ s) h
  | faultClear => exact execFaultClear_keeps (.refl _ _ _ s) h
  | faultInject => exact execFaultInject_keeps (.refl _ _ _ s) h
  | restartCommand => exact execRestartCommand_keeps (.refl _ _ _ s) h
  | restartDrained => exact execRestartDrained_keeps (.refl _ _ _ s) h
  | dieTempWarning => exact execDieTempWarning_keeps (.refl _ _ _ s) h
  | dieTempShutdown => exact execDieTempShutdown_keeps (.refl _ _ _ s) h
  | engineInstruction => exact execEngineInstruction_keeps (.refl _ _ _ s) h
  | sramScrub => exact execSramScrub_keeps (.refl _ _ _ s) h
  | interruptTaken => exact execInterruptTaken_keeps (.refl _ _ _ s) h
  | eicClaim => exact execEicClaim_keeps (.refl _ _ _ s) h
  | eicComplete => exact execEicComplete_keeps (.refl _ _ _ s) h
  | lockstepMismatch => exact execLockstepMismatch_keeps (.refl _ _ _ s) h
  | takeover => exact execTakeover_keeps (.refl _ _ _ s) h
  | takeoverRelease => exact execTakeoverRelease_keeps (.refl _ _ _ s) h
  | semAcquire => exact execSemAcquire_keeps (.refl _ _ _ s) h
  | semRelease => exact execSemRelease_keeps (.refl _ _ _ s) h
  | dmaStart => exact execDmaStart_keeps (.refl _ _ _ s) h
  | dmaSuspend => exact execDmaSuspend_keeps (.refl _ _ _ s) h
  | dmaAbort => exact execDmaAbort_keeps (.refl _ _ _ s) h
  | dmaBeat => exact execDmaBeat_keeps (.refl _ _ _ s) h
  | eventForward => exact execEventForward_keeps (.refl _ _ _ s) h
  | forwardTimeout => exact execForwardTimeout_keeps (.refl _ _ _ s) h
  | softwareEventRaise => exact execSoftwareEventRaise_keeps (.refl _ _ _ s) h
  | hostEventClear => exact execHostEventClear_keeps (.refl _ _ _ s) h
  | doorbell => exact execDoorbell_keeps (.refl _ _ _ s) h
  | timerCompareMatch => exact execTimerCompareMatch_keeps (.refl _ _ _ s) h
  | waitingWritePlaced => exact execWaitingWritePlaced_keeps (.refl _ _ _ s) h
  | commitCommand => exact execCommitCommand_keeps (.refl _ _ _ s) h
  | commitAgeExpiry => exact execCommitAgeExpiry_keeps (.refl _ _ _ s) h
  | commitGuardRelease => exact execCommitGuardRelease_keeps (.refl _ _ _ s) h
  | commitEnd => exact execCommitEnd_keeps (.refl _ _ _ s) h
  | recordRead => exact execRecordRead_keeps (.refl _ _ _ s) h
  | recordSet => exact execRecordSet_keeps (.refl _ _ _ s) h
  | recordAdd => exact execRecordAdd_keeps (.refl _ _ _ s) h
  | logRecordAdd => exact execLogRecordAdd_keeps (.refl _ _ _ s) h
  | page => exact execPage_keeps (.refl _ _ _ s) h
  | operation => exact execOperation_keeps (.refl _ _ _ s) h
  | clearFaults => exact execClearFaults_keeps (.refl _ _ _ s) h
  | capability => exact execCapability_keeps (.refl _ _ _ s) h
  | voutMode => exact execVoutMode_keeps (.refl _ _ _ s) h
  | voutCommand => exact execVoutCommand_keeps (.refl _ _ _ s) h
  | voutMax => exact execVoutMax_keeps (.refl _ _ _ s) h
  | voutTransitionRate => exact execVoutTransitionRate_keeps (.refl _ _ _ s) h
  | voutMin => exact execVoutMin_keeps (.refl _ _ _ s) h
  | voutOvFaultLimit => exact execVoutOvFaultLimit_keeps (.refl _ _ _ s) h
  | voutUvFaultLimit => exact execVoutUvFaultLimit_keeps (.refl _ _ _ s) h
  | ioutOcFaultLimit => exact execIoutOcFaultLimit_keeps (.refl _ _ _ s) h
  | statusByte => exact execStatusByte_keeps (.refl _ _ _ s) h
  | statusWord => exact execStatusWord_keeps (.refl _ _ _ s) h
  | statusVout => exact execStatusVout_keeps (.refl _ _ _ s) h
  | statusIout => exact execStatusIout_keeps (.refl _ _ _ s) h
  | statusTemperature => exact execStatusTemperature_keeps (.refl _ _ _ s) h
  | statusCml => exact execStatusCml_keeps (.refl _ _ _ s) h
  | statusMfrSpecific => exact execStatusMfrSpecific_keeps (.refl _ _ _ s) h
  | readVin => exact execReadVin_keeps (.refl _ _ _ s) h
  | readVout => exact execReadVout_keeps (.refl _ _ _ s) h
  | readIout => exact execReadIout_keeps (.refl _ _ _ s) h
  | readTemperature1 => exact execReadTemperature1_keeps (.refl _ _ _ s) h
  | readTemperature2 => exact execReadTemperature2_keeps (.refl _ _ _ s) h
  | pmbusRevision => exact execPmbusRevision_keeps (.refl _ _ _ s) h
  | mfrId => exact execMfrId_keeps (.refl _ _ _ s) h
  | mfrModel => exact execMfrModel_keeps (.refl _ _ _ s) h
  | mfrRevision => exact execMfrRevision_keeps (.refl _ _ _ s) h
  | mfrSerial => exact execMfrSerial_keeps (.refl _ _ _ s) h
  | winAddr => exact execWinAddr_keeps (.refl _ _ _ s) h
  | winData => exact execWinData_keeps (.refl _ _ _ s) h
  | qRead => exact execQRead_keeps (.refl _ _ _ s) h
  | qStatus => exact execQStatus_keeps (.refl _ _ _ s) h
  | snapRead => exact execSnapRead_keeps (.refl _ _ _ s) h
  | latest => exact execLatest_keeps (.refl _ _ _ s) h
  | evtPend => exact execEvtPend_keeps (.refl _ _ _ s) h
  | fstat => exact execFstat_keeps (.refl _ _ _ s) h
  | wdChal => exact execWdChal_keeps (.refl _ _ _ s) h
  | paramStat => exact execParamStat_keeps (.refl _ _ _ s) h
  | digest => exact execDigest_keeps (.refl _ _ _ s) h
  | sysInfo => exact execSysInfo_keeps (.refl _ _ _ s) h
  | railStatus => exact execRailStatus_keeps (.refl _ _ _ s) h
  | mboxWrite => exact execMboxWrite_keeps (.refl _ _ _ s) h
  | mboxRead => exact execMboxRead_keeps (.refl _ _ _ s) h
  | mboxInboundRelease => exact execMboxInboundRelease_keeps (.refl _ _ _ s) h
  | mboxOutboundPost => exact execMboxOutboundPost_keeps (.refl _ _ _ s) h
  | unknownCommand => exact execUnknownCommand_keeps (.refl _ _ _ s) h
  | busTransactionAbandon => exact execBusTransactionAbandon_keeps (.refl _ _ _ s) h
  | busTimeout => exact execBusTimeout_keeps (.refl _ _ _ s) h
  | hostNotify => exact execHostNotify_keeps (.refl _ _ _ s) h
  | alertResponse => exact execAlertResponse_keeps (.refl _ _ _ s) h
  | controllerRetry => exact execControllerRetry_keeps (.refl _ _ _ s) h
  | quadWinRead => exact execQuadWinRead_keeps (.refl _ _ _ s) h
  | quadWinWrite => exact execQuadWinWrite_keeps (.refl _ _ _ s) h
  | quadQRead => exact execQuadQRead_keeps (.refl _ _ _ s) h
  | quadStatus => exact execQuadStatus_keeps (.refl _ _ _ s) h
  | quadBankStoreDone => exact execQuadBankStoreDone_keeps (.refl _ _ _ s) h
  | linkBringupBurst => exact execLinkBringupBurst_keeps (.refl _ _ _ s) h
  | linkUp => exact execLinkUp_keeps (.refl _ _ _ s) h
  | linkDown => exact execLinkDown_keeps (.refl _ _ _ s) h
  | helloTimer => exact execHelloTimer_keeps (.refl _ _ _ s) h
  | hello => exact execHello_keeps (.refl _ _ _ s) h
  | assign => exact execAssign_keeps (.refl _ _ _ s) h
  | tsyncTimer => exact execTsyncTimer_keeps (.refl _ _ _ s) h
  | tsyncReq => exact execTsyncReq_keeps (.refl _ _ _ s) h
  | tsyncRsp => exact execTsyncRsp_keeps (.refl _ _ _ s) h
  | alignmentTimeout => exact execAlignmentTimeout_keeps (.refl _ _ _ s) h
  | statusFrame => exact execStatusFrame_keeps (.refl _ _ _ s) h
  | rvecTimer => exact execRvecTimer_keeps (.refl _ _ _ s) h
  | rvec => exact execRvec_keeps (.refl _ _ _ s) h
  | remoteStatusStale => exact execRemoteStatusStale_keeps (.refl _ _ _ s) h
  | eventFrame => exact execEventFrame_keeps (.refl _ _ _ s) h
  | ackFrame => exact execAckFrame_keeps (.refl _ _ _ s) h
  | frameResend => exact execFrameResend_keeps (.refl _ _ _ s) h
  | probeTimer => exact execProbeTimer_keeps (.refl _ _ _ s) h
  | probe => exact execProbe_keeps (.refl _ _ _ s) h
  | answer => exact execAnswer_keeps (.refl _ _ _ s) h
  | probeMissing => exact execProbeMissing_keeps (.refl _ _ _ s) h
  | mismatch => exact execMismatch_keeps (.refl _ _ _ s) h
  | paramFrame => exact execParamFrame_keeps (.refl _ _ _ s) h
  | bankWr => exact execBankWr_keeps (.refl _ _ _ s) h
  | verifyFrame => exact execVerifyFrame_keeps (.refl _ _ _ s) h
  | switchAt => exact execSwitchAt_keeps (.refl _ _ _ s) h
  | go => exact execGo_keeps (.refl _ _ _ s) h
  | cancel => exact execCancel_keeps (.refl _ _ _ s) h
  | switchSelfCancel => exact execSwitchSelfCancel_keeps (.refl _ _ _ s) h
  | goLeadReached => exact execGoLeadReached_keeps (.refl _ _ _ s) h
  | linkCmdPark => exact execLinkCmdPark_keeps (.refl _ _ _ s) h
  | linkCmdFlacon => exact execLinkCmdFlacon_keeps (.refl _ _ _ s) h
  | linkCmdRestart => exact execLinkCmdRestart_keeps (.refl _ _ _ s) h
  | linkCmdSelectStaged => exact execLinkCmdSelectStaged_keeps (.refl _ _ _ s) h
  | rdFrame => exact execRdFrame_keeps (.refl _ _ _ s) h
  | wrFrame => exact execWrFrame_keeps (.refl _ _ _ s) h
  | rdata => exact execRdata_keeps (.refl _ _ _ s) h
  | pdone => exact execPdone_keeps (.refl _ _ _ s) h
  | cascadeWaitExpiry => exact execCascadeWaitExpiry_keeps (.refl _ _ _ s) h
  | linkTxParam => exact execLinkTxParam_keeps (.refl _ _ _ s) h
  | linkTxBankWr => exact execLinkTxBankWr_keeps (.refl _ _ _ s) h
  | linkTxVerify => exact execLinkTxVerify_keeps (.refl _ _ _ s) h
  | linkTxCommand => exact execLinkTxCommand_keeps (.refl _ _ _ s) h
  | linkTxRd => exact execLinkTxRd_keeps (.refl _ _ _ s) h
  | linkTxWr => exact execLinkTxWr_keeps (.refl _ _ _ s) h
  | switchArm => exact execSwitchArm_keeps (.refl _ _ _ s) h
  | switchCancel => exact execSwitchCancel_keeps (.refl _ _ _ s) h
  | orphanDetect => exact execOrphanDetect_keeps (.refl _ _ _ s) h
  | orphanPark => exact execOrphanPark_keeps (.refl _ _ _ s) h
  | rxevRead => exact execRxevRead_keeps (.refl _ _ _ s) h
  | traceWrite => exact execTraceWrite_keeps (.refl _ _ _ s) h
  | traceUnfreeze => exact execTraceUnfreeze_keeps (.refl _ _ _ s) h
  | sliceInstant => exact execSliceInstant_keeps (.refl _ _ _ s) h
  | sliceEnd => exact execSliceEnd_keeps (.refl _ _ _ s) h
  | drydownStart => exact execDrydownStart_keeps (.refl _ _ _ s) h
  | drydownChecksDone => exact execDrydownChecksDone_keeps (.refl _ _ _ s) h
  | bistRunSlice => exact execBistRunSlice_keeps (.refl _ _ _ s) h
  | bistRunDrydown => exact execBistRunDrydown_keeps (.refl _ _ _ s) h
  | registerWrite => exact execRegisterWrite_keeps (.refl _ _ _ s) h
  | topNoteDomainUp => exact execTopNoteDomainUp_keeps (.refl _ _ _ s) h
  | cellUpset => exact execCellUpset_keeps (.refl _ _ _ s) h
  | tapOperation => exact execTapOperation_keeps (.refl _ _ _ s) h
  | pinStateLineChange => exact execPinStateLineChange_keeps (.refl _ _ _ s) h
  | hierarchyTimeBitEdge => exact execHierarchyTimeBitEdge_keeps (.refl _ _ _ s) h
  | vcc5OvRecover => exact execVcc5OvRecover_keeps (.refl _ _ _ s) h
  | parkVinUvloChange => exact execParkVinUvloChange_keeps (.refl _ _ _ s) h
  | switchingCycleEnd => exact execSwitchingCycleEnd_keeps (.refl _ _ _ s) h
  | tmfReading => exact execTmfReading_keeps (.refl _ _ _ s) h
  | vinExcursion => exact execVinExcursion_keeps (.refl _ _ _ s) h
  | vsysOkChange => exact execVsysOkChange_keeps (.refl _ _ _ s) h
  | svcNChange => exact execSvcNChange_keeps (.refl _ _ _ s) h
  | dieTempCool => exact execDieTempCool_keeps (.refl _ _ _ s) h

end Sys2Proof.Machine
end

section
/-! SUPPORT.  What a change leaves alone, as the statements say it: the parts of the state and the registers. -/

namespace Sys2Proof.Machine

variable {l l' : List Part} {ks ks' : List Nat} {s t u : State}

/-- Only the parts `l` differ, and of the registers that no record or raise may change only `ks`. -/
structure Within (l : List Part) (ks : List Nat) (s t : State) : Prop where
  frame : Frame l s t
  regs : RegsOnly ks s t

theorem Same.trans {p : Part} (h : Same s t p) (g : Same t u p) : Same s u p := by
  cases p <;> exact Eq.trans g h

theorem Within.refl (l : List Part) (ks : List Nat) (s : State) : Within l ks s s :=
  ⟨fun p _ => by cases p <;> rfl, fun _ _ _ => rfl⟩

theorem Within.trans (h : Within l ks s t) (g : Within l ks t u) : Within l ks s u :=
  ⟨fun p hp => (h.frame p hp).trans (g.frame p hp), fun k hk hn => (g.regs k hk hn).trans (h.regs k hk hn)⟩

theorem Within.mono (h : Within l ks s t) (hl : l ⊆ l') (hk : ks ⊆ ks') : Within l' ks' s t :=
  ⟨fun p hp => h.frame p fun m => hp (hl m), fun k hm => h.regs k fun m => hm (hk m)⟩

theorem Within.setReg (h : Within l ks s t) {k : Nat} (v : Word) (hl : .regs ∈ l) (hk : k ∈ ks) :
    Within l ks s (t.setReg k v) := by
  refine h.trans ⟨fun p hp => ?_, fun j hj _ => State.reg_setReg_ne t v fun e => hj (e ▸ hk)⟩
  cases p
  case regs => exact absurd hl hp
  all_goals rfl

theorem Within.updLink (h : Within l ks s t) (f : LinkState → LinkState) (hl : .link ∈ l) :
    Within l ks s (t.updLink f) := by
  refine h.trans ⟨fun p hp => ?_, fun _ _ _ => rfl⟩
  cases p
  case link => exact absurd hl hp
  all_goals rfl

theorem Within.disarm (h : Within l ks s t) (k : Nat) (hl : .timers ∈ l) : Within l ks s (t.disarm k) := by
  refine h.trans ⟨fun p hp => ?_, fun _ _ _ => rfl⟩
  cases p
  case timers => exact absurd hl hp
  all_goals rfl

/-- Records, events, raises and interrupt sources change the parts of `notes` alone. -/
theorem Marks.frame (h : Marks s t) : Frame notes s t := by
  intro p hp
  cases p
  case pending => exact h.pending
  case clock => exact h.clock
  case htOfs => exact h.htOfs
  case freeCount => exact h.freeCount
  case sys => exact h.sys
  case acrd => exact h.acrd
  case loops => exact h.loops
  case phases => exact h.phases
  case ilReply => exact h.ilReply
  case rails => exact h.rails
  case groups => exact h.groups
  case seq => exact h.seq
  case sup => exact h.sup
  case path => exact h.path
  case meas => exact h.meas
  case link => exact h.link
  case hiLatch => exact h.hiLatch
  case loLatch => exact h.loLatch
  all_goals exact absurd (by decide) hp

theorem Within.marks (h : Within l ks s t) (g : Marks t u) (hl : notes ⊆ l) : Within l ks s u :=
  h.trans ⟨fun p hp => g.frame p fun m => hp (hl m), fun k _ hn => g.regs k hn⟩

theorem RegsOnly.regsIn {bs : List Nat} (h : RegsOnly ks s t) (hb : ∀ k ∈ ks, k % 2 ^ 32 / 0x10000 - 0x4000 ∈ bs) :
    RegsIn bs s t := fun k hk => h k fun m => hk (hb k m)

/-- A command that took effect leaves its time and its record. -/
theorem State.hostWrite_within (s : State) (r : Req) (code d : Nat) :
    Within notes [R.HOST_LAST_TS_LO.reg, R.HOST_LAST_TS_HI.reg] s (s.hostWrite r code d) := by
  have k0 := Within.refl notes [R.HOST_LAST_TS_LO.reg, R.HOST_LAST_TS_HI.reg] s
  unfold State.hostWrite
  split
  · unfold State.applied
    extract_lets s1
    have k1 : Within notes [R.HOST_LAST_TS_LO.reg, R.HOST_LAST_TS_HI.reg] s s1 :=
      (k0.setReg _ (by decide) (by decide)).setReg _ (by decide) (by decide)
    clear_value s1
    split
    · exact k1.marks (State.traceRec_marks _ _ _ _) (List.Subset.refl _)
    · exact k1
  · exact k0

@[simp] theorem State.hostWrite_link (s : State) (r : Req) (code d : Nat) : (s.hostWrite r code d).link = s.link :=
  (s.hostWrite_within r code d).frame .link (by decide)

theorem State.bit_of_reg {f : Field} (h : t.reg f.key = s.reg f.key) : t.bit f = s.bit f := by
  unfold State.bit State.fld
  rw [h]

theorem State.bit_of_regs (h : t.regs = s.regs) (f : Field) : t.bit f = s.bit f := by
  unfold State.bit State.fld State.reg
  rw [h]

end Sys2Proof.Machine
end

section
/-! SUPPORT.  General frames of the hierarchy links (R291, R300): to which state one is applied, and what its
acknowledgement leaves. -/

namespace Sys2Proof.Machine

/-- A frame was heard: the counts of the ports' failed frames, and what is sent, may differ. -/
def State.heard (s : State) (ps : Cells PortState) (fs : List SentFrame) : State :=
  s.updLink (fun l => { l with ports := ps, sent := fs })

theorem State.frameGood_ports (s : State) (p : Nat) :
    ∃ ps, s.frameGood p = s.updLink (fun l => { l with ports := ps }) := by
  unfold State.frameGood
  split
  · exact ⟨s.link.ports, rfl⟩
  · exact ⟨_, rfl⟩

theorem State.emitAs_sent (s : State) (p typ src dst seq : Nat) (payload : List Byte) :
    ∃ fs, s.emitAs p typ src dst seq payload = s.updLink (fun l => { l with sent := fs }) := by
  unfold State.emitAs
  split
  · exact ⟨s.link.sent, rfl⟩
  · exact ⟨_, rfl⟩

theorem State.relay_sent (s : State) (f : FrameId) (typ : Nat) (payload : List Byte) :
    ∃ fs, s.relay f typ payload = s.updLink (fun l => { l with sent := fs }) := by
  unfold State.relay
  extract_lets ports
  generalize ports.filter (fun p => p ≠ f.port.val) = l
  induction l generalizing s with
  | nil => exact ⟨s.link.sent, rfl⟩
  | cons p l ih =>
    obtain ⟨fs, e⟩ := s.emitAs_sent p typ f.src.toNat f.dst.toNat f.seq.toNat payload
    obtain ⟨fs', e'⟩ := ih (s.updLink (fun l => { l with sent := fs }))
    exact ⟨fs', by rw [List.foldl_cons, e, e']; rfl⟩

/-- A general frame that reaches this device is applied to the state that heard it. -/
theorem State.take_of_gets {s : State} {f : FrameId} (h : s.gets f = true) (typ : Nat) (payload : List Byte) :
    ∃ ps fs, ∀ go, s.take f typ payload go = go (s.heard ps fs) := by
  obtain ⟨ps, e⟩ := s.clearSent.frameGood_ports f.port
  obtain ⟨fs, e'⟩ := (s.clearSent.updLink (fun l => { l with ports := ps })).relay_sent f typ payload
  simp only [State.gets, Bool.and_eq_true] at h
  obtain ⟨⟨hears, crc⟩, dst⟩ := h
  have hears' : s.clearSent.hears f.port = true := hears
  unfold State.take
  simp only [hears', crc, e, e', Bool.not_true, Bool.false_eq_true, if_false]
  by_cases hd : f.dst = 0xFF#8
  · rw [if_pos hd] at dst
    refine ⟨ps, fs, fun go => ?_⟩
    rw [if_pos hd]
    exact if_pos dst
  · rw [if_neg hd, decide_eq_true_eq] at dst
    refine ⟨ps, [], fun go => ?_⟩
    rw [if_neg hd]
    exact if_neg (not_not.2 dst)

/-- One that does not reach it is not applied. -/
theorem State.take_of_not_gets {s : State} {f : FrameId} (h : s.gets f = false) (typ : Nat) (payload : List Byte)
    (go go' : State → State) : s.take f typ payload go = s.take f typ payload go' := by
  obtain ⟨ps, e⟩ := s.clearSent.frameGood_ports f.port
  obtain ⟨fs, e'⟩ := (s.clearSent.updLink (fun l => { l with ports := ps })).relay_sent f typ payload
  unfold State.take
  simp only [e, e']
  refine ite_congr rfl (fun _ => rfl) fun hears => ite_congr rfl (fun _ => rfl) fun crc => ?_
  have hears' : s.hears f.port = true := by rw [Bool.not_eq_true', Bool.not_eq_false] at hears; exact hears
  simp only [State.gets, hears', Bool.true_and, Bool.and_eq_false_iff] at h
  replace h := h.resolve_left (by simpa using crc)
  by_cases hd : f.dst = 0xFF#8
  · rw [if_pos hd] at h ⊢
    rw [if_pos hd]
    have hj : ¬((s.manager || s.bit R.LINK_ID.JOINED) = true) := by simp [h]
    exact (if_neg hj).trans (if_neg hj).symm
  · rw [if_neg hd, decide_eq_false_iff_not] at h
    rw [if_neg hd, if_neg hd]
    exact (if_pos h).trans (if_pos h).symm

/-- What a frame of the MANAGER does where it is applied. -/
theorem State.fromManager_of_obeys {s : State} {f : FrameId} (h : s.obeys f = true) (typ : Nat) (payload : List Byte) :
    ∃ ps fs, ∀ go, s.fromManager f typ payload go = go (s.heard ps fs) := by
  simp only [State.obeys, State.takes, Bool.and_eq_true, Option.isNone_iff_eq_none, decide_eq_true_eq] at h
  obtain ⟨⟨⟨gets, fresh⟩, worker⟩, mgr⟩ := h
  obtain ⟨ps, fs, e⟩ := State.take_of_gets gets typ payload
  refine ⟨ps, fs, fun go => ?_⟩
  unfold State.fromManager State.receive
  rw [e]
  have fresh' : (s.heard ps fs).ackGiven f = none := fresh
  have hm : ((s.heard ps fs).worker && decide (f.src.toNat = (s.heard ps fs).link.mgr)) = true :=
    Bool.and_eq_true_iff.2 ⟨worker, decide_eq_true mgr⟩
  simp only [fresh', hm, if_true]

/-- A frame of the MANAGER that is not applied does the same whatever it asks for. -/
theorem State.fromManager_of_not_obeys {s : State} {f : FrameId} (h : s.obeys f = false) (typ : Nat)
    (payload : List Byte) (go go' : State → State) :
    s.fromManager f typ payload go = s.fromManager f typ payload go' := by
  unfold State.fromManager State.receive
  cases hg : s.gets f with
  | false => exact State.take_of_not_gets hg typ payload _ _
  | true =>
    obtain ⟨ps, fs, e⟩ := State.take_of_gets hg typ payload
    rw [e, e]
    split
    · rfl
    · have fresh : s.ackGiven f = none := ‹_›
      have hm : (s.worker && decide (f.src.toNat = s.link.mgr)) = false := by
        simpa [State.obeys, State.takes, hg, fresh] using h
      have hn : ¬((s.worker && decide (f.src.toNat = s.link.mgr)) = true) := by simp [hm]
      exact (if_neg hn).trans (if_neg hn).symm

/-- An acknowledgement is remembered, and sent. -/
theorem State.acknowledge_link (s : State) (f : FrameId) (result : Nat) (data : List Byte) :
    ∃ n fs, s.acknowledge f result data = s.updLink (fun l => { l with
      seqNext := n, sent := fs
      seen := l.seen.upd [] f.src.toNat (fun r =>
        ((f.seq.toNat, leBytes 2 f.seq.toNat ++ [BitVec.ofNat 8 result] ++ data) :: r).take 64) }) := by
  unfold State.acknowledge State.emit
  extract_lets body s1 p x
  obtain ⟨fs, e⟩ := x.2.emitAs_sent p 7 x.2.dev f.src.toNat x.1 body
  rw [e]
  exact ⟨_, fs, rfl⟩

theorem State.ackResult_acknowledge (s : State) (f : FrameId) (result : Nat) (data : List Byte) :
    (s.acknowledge f result data).ackResult f = some (BitVec.ofNat 8 result) := by
  obtain ⟨n, fs, e⟩ := s.acknowledge_link f result data
  rw [e]
  unfold State.ackResult State.ackGiven State.updLink
  dsimp only
  rw [Cells.at_upd_self, List.take_succ_cons, List.find?_cons_of_pos (by simp)]
  simp [leBytes]

end Sys2Proof.Machine
end

section
/-! SUPPORT.  Who writes the two banks: every operation but `State.bankWrite` and every command but those that use it
keep their bytes, and a command that uses it asks `State.bankOpen` first (R29, R30). -/

namespace Sys2Proof.Machine

variable {a s t : State}

/-- `s` has the bytes of the banks that `a` has. -/
structure BanksKept (a s : State) : Prop where
  bankA : s.acrd.bankA = a.acrd.bankA
  bankB : s.acrd.bankB = a.acrd.bankB


theorem BanksKept.refl (s : State) : BanksKept s s := ⟨rfl, rfl⟩

/-- A change of parts other than the loader's. -/
theorem BanksKept.of_acrd (h : BanksKept a s) (e : t.acrd = s.acrd) : BanksKept a t :=
  ⟨e ▸ h.bankA, e ▸ h.bankB⟩

theorem BanksKept.setEvt (h : BanksKept a s) (v : EvtState) : BanksKept a { s with evt := v } := h.of_acrd rfl
theorem BanksKept.setHost (h : BanksKept a s) (v : HostState) : BanksKept a { s with host := v } := h.of_acrd rfl
theorem BanksKept.setLink (h : BanksKept a s) (f : LinkState → LinkState) : BanksKept a (s.updLink f) := h.of_acrd rfl

theorem Keeps.self : Keeps true false false s s := .refl _ _ _ s

/-- What leaves the memories alone leaves the banks alone. -/
theorem Keeps.banks {i p : Bool} (k : Keeps true i p a s) : BanksKept a s :=
  have ⟨hA, hB, _⟩ := k.mem rfl
  ⟨hA, hB⟩

theorem BanksKept.keep {i p : Bool} (h : BanksKept a s) (k : Keeps true i p s t) : BanksKept a t :=
  ⟨k.banks.bankA.trans h.bankA, k.banks.bankB.trans h.bankB⟩

theorem banksKept_ite {c : Prop} [Decidable c] (h : BanksKept a s) (g : BanksKept a t) :
    BanksKept a (if c then s else t) := by split <;> assumption

theorem banksKept_foldl {β : Type} {l : List β} {f : State → β → State}
    (hf : ∀ s x, BanksKept a s → BanksKept a (f s x)) (h : BanksKept a s) : BanksKept a (l.foldl f s) := by
  induction l generalizing s with
  | nil => exact h
  | cons x r ih => exact ih (hf s x h)

/-! ## Reads through check bits, DMA and halts -/

theorem State.eccMark_banks (h : BanksKept a s) (m : EccMem) (k : Nat) : BanksKept a (s.eccMark m k) := by
  cases m <;> exact h.of_acrd rfl

theorem State.eccRead_banks (h : BanksKept a s) (m : EccMem) (k : Nat) (err : EccErr) :
    BanksKept a (s.eccRead m k err).2 := by
  unfold State.eccRead
  split
  · exact h.keep (State.raise_keeps .self)
  · cases err with
    | none => exact h
    | single => exact h.keep (State.raise_keeps .self)
    | double => exact (State.eccMark_banks h m k).keep (State.raise_keeps .self)

theorem State.eccTake_banks (h : BanksKept a s) (m : EccMem) (k : Nat) : BanksKept a (s.eccTake m k).2 := by
  unfold State.eccTake
  refine State.eccRead_banks ?_ m k _
  exact h.of_acrd rfl

theorem State.partRead_banks (h : BanksKept a s) (m : EccMem) (k : Nat) (part : Bool) :
    BanksKept a (s.partRead m k part).2 := by
  unfold State.partRead
  split
  · exact h
  · split
    · exact h
    · exact State.eccTake_banks h m k

theorem State.readDesc_banks (h : BanksKept a s) (e : Fin 16) (k x : Nat) : BanksKept a (s.readDesc e k x).2 := by
  induction k generalizing s x with
  | zero => exact h
  | succ k ih =>
    unfold State.readDesc
    split
    · exact h
    · dsimp only
      split
      · exact ih (State.eccTake_banks h _ _) _
      · exact State.eccTake_banks h _ _

theorem State.setOwnWord_banks (h : BanksKept a s) (e x : Nat) (w : Word) : BanksKept a (s.setOwnWord e x w) :=
  banksKept_ite (h.of_acrd rfl) (banksKept_ite (banksKept_ite h (h.of_acrd rfl)) h)

theorem State.dmaStop_banks (h : BanksKept a s) (c st cause : Nat) : BanksKept a (s.dmaStop c st cause) := by
  unfold State.dmaStop
  extract_lets o d s1 s2 s3
  have k2 : BanksKept a s2 :=
    State.setOwnWord_banks (h.keep (State.updDma_keeps (State.setF_keeps (State.setF_keeps .self)))) _ _ _
  have k3 : BanksKept a s3 := banksKept_ite (k2.keep (State.localSource_keeps .self)) k2
  exact banksKept_ite (k3.keep (State.raise_keeps .self)) k3

theorem State.dmaLoad_banks (h : BanksKept a s) (e c x : Nat) (r : Bool) : BanksKept a (s.dmaLoad e c x r) := by
  unfold State.dmaLoad
  extract_lets d s1
  have k1 : BanksKept a s1 := State.readDesc_banks h _ _ _
  clear_value s1
  split
  · extract_lets st done y s2 s3
    have k3 : BanksKept a s3 :=
      k1.keep (State.setF_keeps (State.setF_keeps (State.setF_keeps (State.updDma_keeps .self))))
    exact banksKept_ite (State.dmaStop_banks (k3.keep (State.mpuRefuse_keeps .self)) _ _ _)
      (banksKept_ite k3 (State.dmaStop_banks k3 _ _ _))
  · exact State.dmaStop_banks (k1.keep (State.setF_keeps (State.setF_keeps (State.updDma_keeps .self)))) _ _ _

theorem State.withErrs_banks (errs : List EccErr) {f : State → State}
    (hf : ∀ v, BanksKept a (f { s with evt := v })) : BanksKept a (s.withErrs errs f) := by
  have k : BanksKept a (f { s with evt := { s.evt with eccNext := errs } }) := hf _
  exact k.of_acrd rfl

theorem State.meeting_banks (errs : List EccErr) {f : State → State}
    (hf : ∀ v, BanksKept a (f { s with evt := v })) : BanksKept a (s.meeting errs f) :=
  banksKept_ite (hf s.evt) (State.withErrs_banks errs hf)

theorem State.haltEngine_banks (h : BanksKept a s) (e st : Nat) : BanksKept a (s.haltEngine e st) := by
  unfold State.haltEngine
  extract_lets s1 s2 s3 s4 s5
  have k2 : BanksKept a s2 := banksKept_foldl (fun _ _ g => banksKept_ite (State.dmaStop_banks g _ _ _) g)
    (h.keep (State.setF_keeps (State.setReg_keeps (State.disarm_keeps .self))))
  have k3 : BanksKept a s3 := banksKept_foldl
    (fun _ _ g => banksKept_ite (g.keep (State.setB_keeps (State.setF_keeps (State.setB_keeps .self)))) g) k2
  have k4 : BanksKept a s4 := banksKept_foldl (fun _ _ g => g.keep (State.setReg_keeps .self)) k3
  have k5 : BanksKept a s5 := k4.keep (State.showClaims_keeps (State.updEng_keeps .self))
  exact k5.keep (State.event_keeps (State.ackForward_keeps .self))

theorem State.haltAll_banks (h : BanksKept a s) : BanksKept a s.haltAll := by
  unfold State.haltAll
  exact banksKept_foldl (fun _ _ g => banksKept_ite (State.haltEngine_banks g _ _) g) h

/-! ## The Ledger's array and losses of power -/

theorem State.writeWords_banks (h : BanksKept a s) (ws : List (Nat × BitVec 64)) : BanksKept a (s.writeWords ws) :=
  banksKept_foldl (fun _ _ g => g.of_acrd rfl) h

theorem State.cutLedger_banks (h : BanksKept a s) (c : Cut) : BanksKept a (s.cutLedger c) := by
  unfold State.cutLedger
  extract_lets ws s1
  have k1 : BanksKept a s1 := by
    unfold s1
    clear_value ws
    split
    · exact State.writeWords_banks h ws
    · extract_lets s2
      have k2 : BanksKept a s2 := State.writeWords_banks h _
      clear_value s2
      split
      · exact k2
      · extract_lets s3
        have k3 : BanksKept a s3 := k2.of_acrd rfl
        clear_value s3
        split
        · exact k3
        · exact State.writeWords_banks k3 _
        · exact k3.of_acrd rfl
  exact k1.of_acrd rfl

theorem State.endCommit_banks (h : BanksKept a s) : BanksKept a s.endCommit := by
  unfold State.endCommit
  extract_lets run s1 ledg s2 s3 s4 s5 l6 s6 l7 s7
  have k1 : BanksKept a s1 := (State.writeWords_banks h _).keep (State.settleRecords_keeps .self)
  clear_value s1
  have k2 : BanksKept a s2 := k1.of_acrd rfl
  clear_value s2
  have k3 : BanksKept a s3 := k2.keep (State.showPages_keeps (State.setB_keeps .self))
  clear_value s3
  have k5 : BanksKept a s5 := k3.keep (State.count_keeps (State.disarm_keeps .self))
  clear_value s5
  have k6 : BanksKept a s6 := banksKept_ite (k5.keep (State.setF_keeps (State.setB_keeps
    (keeps_mk .self (eL := LedgState.array_mk) (eP := LedgState.poison_mk))))) k5
  clear_value s6
  have k7 : BanksKept a s7 := banksKept_ite (k6.keep
    (keeps_mk .self (eL := LedgState.array_mk) (eP := LedgState.poison_mk))) k6
  clear_value s7
  exact k7.keep (State.wearUpdate_keeps (State.event_keeps .self))

theorem State.topOff_banks (h : BanksKept a s) : BanksKept a s.topOff := by
  unfold State.topOff
  extract_lets s1 s2
  have k1 : BanksKept a s1 := h.keep (State.pathIdle_keeps (State.rebase_keeps .self))
  clear_value s1
  have k2 : BanksKept a s2 := k1.keep (State.setB_keeps (State.setF_keeps .self))
  clear_value s2
  exact ⟨k2.bankA, k2.bankB⟩

theorem State.topBrown_banks (h : BanksKept a s) : BanksKept a s.topBrown := by
  unfold State.topBrown
  exact banksKept_foldl (fun _ _ g => g.keep (State.setReg_keeps .self)) ((State.topOff_banks h).of_acrd rfl)

theorem State.baseOff_banks (h : BanksKept a s) (p : Phase) : BanksKept a (s.baseOff p) := by
  unfold State.baseOff
  extract_lets s1
  have k1 : BanksKept a s1 := h.keep (State.rebase_keeps .self)
  clear_value s1
  exact ⟨k1.bankA, k1.bankB⟩

theorem State.basePor_banks (h : BanksKept a s) (c : Cut) : BanksKept a (s.basePor c) :=
  State.baseOff_banks (State.cutLedger_banks h c) _

theorem State.brownOut_banks (h : BanksKept a s) (c : Cut) : BanksKept a (s.brownOut c) := by
  unfold State.brownOut
  extract_lets s1 s2 n s3
  have k1 : BanksKept a s1 := State.topBrown_banks (State.cutLedger_banks h c)
  clear_value s1
  have k3 : BanksKept a s3 := k1.keep (State.setF_keeps (State.updSys_keepsP .self))
  exact banksKept_ite (k3.keep (State.lockout_keeps .self))
    (k3.keep (State.updSys_keepsP (State.arm_keeps .self)))

/-! ## Registers and windows -/

theorem State.writeDma_banks (h : BanksKept a s) (e c k : Nat) (w : Word) : BanksKept a (s.writeDma e c k w) := by
  unfold State.writeDma
  exact banksKept_ite h (banksKept_ite
    (banksKept_ite (banksKept_ite (h.keep (State.dmaAsk_keeps .self)) (banksKept_ite (h.keep (State.dmaAsk_keeps .self)) h))
      (banksKept_ite (State.dmaLoad_banks h _ _ _ _) h))
    (h.keep (State.plainWrite_keeps .self)))

theorem State.writeEvt_banks (h : BanksKept a s) (r : Req) (k : Nat) (w : Word) : BanksKept a (s.writeEvt r k w) := by
  have plain : BanksKept a (s.plainWrite k w) := h.keep (State.plainWrite_keeps .self)
  unfold State.writeEvt
  refine banksKept_ite (banksKept_ite plain h) (banksKept_ite (h.keep (State.raiseSoft_keeps .self))
    (banksKept_ite (h.keep (State.semWrite_keeps .self)) (banksKept_ite ?_ (banksKept_ite ?_ plain))))
  · split
    · exact State.writeDma_banks h _ _ _ _
    · exact h
  · split
    · exact banksKept_ite (h.keep (State.writeEng_keeps .self)) h
    · exact h

theorem State.writeReg_banks (h : BanksKept a s) (r : Req) (x : Nat) (w : Word) : BanksKept a (s.writeReg r x w) := by
  unfold State.writeReg
  split
  · exact h
  · refine banksKept_ite (banksKept_ite (h.of_acrd rfl) h)
      (banksKept_ite (banksKept_ite (h.keep (State.writeHi_keeps .self)) h) ?_)
    split
    · exact h.keep (State.writeSys_keeps .self)
    · exact h.keep (State.writeLoop_keeps .self)
    · exact h.keep (State.writeSeq_keeps .self)
    · exact banksKept_ite (banksKept_ite (h.keep (State.wdJudge_keeps .self)) h) (h.keep (State.plainWrite_keeps .self))
    · exact h.keep (State.writeMeas_keeps .self)
    · exact h.keep (State.writePath_keeps .self)
    · exact h.keep (State.writeFlt_keeps .self)
    · exact State.writeEvt_banks h _ _ _
    · exact h.keep (State.writeLedg_keeps .self)
    · exact h.keep (State.writeHost_keeps .self)
    · exact h.keep (State.writeLink_keeps .self)
    · exact h.keep (State.writeBist_keeps .self)
    · exact h.keep (State.writeAcrd_keeps .self)
    · exact h.keep (State.plainWrite_keeps .self)

theorem State.writePart_banks (h : BanksKept a s) (r : Req) (x n v : Nat) : BanksKept a (s.writePart r x n v) := by
  unfold State.writePart
  dsimp only
  split
  · exact h
  · exact State.writeReg_banks h _ _ _

theorem State.writeRegs_banks (h : BanksKept a s) (r : Req) (x : Nat) (l : List Byte) :
    BanksKept a (s.writeRegs r x l) := by
  fun_induction State.writeRegs s r x l with
  | case1 s x b0 b1 b2 b3 l ih => exact ih (State.writeReg_banks h _ _ _)
  | case2 s => exact h

theorem State.sramTake_banks (h : BanksKept a s) (ws : List Nat) : BanksKept a (s.sramTake ws).2 := by
  induction ws generalizing s with
  | nil => exact h
  | cons k ws ih => exact ih (State.eccTake_banks h _ _)

theorem State.sramPortRead_banks (h : BanksKept a s) (o n : Nat) : BanksKept a (s.sramPortRead o n).2 := by
  have k := State.sramTake_banks h (touched o n)
  unfold State.sramPortRead
  dsimp only
  split
  · exact k
  · exact k.keep (State.freeBytes_keeps (x1 := n) .self)

theorem State.partReads_banks (h : BanksKept a s) (ws : List Nat) : BanksKept a (s.partReads ws).2 := by
  induction ws generalizing s with
  | nil => exact h
  | cons k ws ih =>
    have k1 := State.partRead_banks h .sram k true
    unfold State.partReads
    dsimp only
    split
    · exact ih k1
    · exact k1

theorem State.sramWrite_banks (h : BanksKept a s) {o : Nat} {l : List Byte} (ht : s.sramWrite o l = some t) :
    BanksKept a t := by
  unfold State.sramWrite at ht
  dsimp only at ht
  split at ht
  · cases ht
  · rw [← Option.some.inj ht]
    exact banksKept_foldl (fun _ _ g => g.of_acrd rfl) h

theorem State.sramPortWrite_banks (h : BanksKept a s) (o : Nat) (l : List Byte) :
    BanksKept a (s.sramPortWrite o l).2 := by
  have k := State.partReads_banks h ((touched o l.length).filter (fun k => !wholeWord k o l.length))
  unfold State.sramPortWrite
  dsimp only
  split
  · split
    · exact State.sramWrite_banks k ‹_›
    · exact k
  · exact k

theorem State.winRead_banks (h : BanksKept a s) (r : Req) (x n : Nat) : BanksKept a (s.winRead r x n).2 := by
  unfold State.winRead
  split
  · exact State.sramPortRead_banks h _ _
  · exact h
  · exact h
  · exact h.keep (State.readRegs_keeps .self)
  · exact h.keep (State.ledgRead_keeps .self)
  · exact h
  · exact h

/-- A window write leaves the banks alone where the bank it names, if any, is closed to it. -/
theorem State.winWrite_banks (h : BanksKept a s) (r : Req) (x : Nat) (l : List Byte)
    (hb : ∀ b o, placeOf x = some (.bank b o) → s.bankOpen r b = false) : BanksKept a (s.winWrite r x l).2 := by
  unfold State.winWrite
  split
  · exact State.sramPortWrite_banks h _ _
  · exact State.writeRegs_banks h _ _ _
  · exact h.keep (State.ledgWindow_keeps .self)
  · rename_i b o e
    rw [hb b o e]
    exact h
  · exact h

/-! ## Engines -/

theorem State.tcmRead_banks (h : BanksKept a s) (e : Fin 16) (d : Bool) (o n : Nat) :
    BanksKept a (s.tcmRead e d o n).2.2 := by
  have k := State.eccTake_banks h (tcmOf e d) (o / 4)
  unfold State.tcmRead
  dsimp only
  split <;> exact k

theorem State.sramRead_banks (h : BanksKept a s) (o n : Nat) : BanksKept a (s.sramRead o n).2.2 := by
  have k := State.eccTake_banks h .sram (o / 8)
  unfold State.sramRead
  dsimp only
  split <;> exact k

theorem State.memRead_banks (h : BanksKept a s) (e : Fin 16) (x n : Nat) : BanksKept a (s.memRead e x n).2.2 := by
  unfold State.memRead
  split
  · exact State.tcmRead_banks h _ _ _ _
  · split
    · exact State.tcmRead_banks h _ _ _ _
    · split
      · exact h.keep (State.readReg_keeps .self)
      · exact State.sramRead_banks h _ _
      · exact State.winRead_banks h _ _ _
      · exact h.keep (State.raise_keeps .self)

theorem State.sramStore_banks (h : BanksKept a s) (o n v : Nat) : BanksKept a (s.sramStore o n v).2 := by
  have k := State.partRead_banks h .sram (o / 8) (decide (n < 8))
  unfold State.sramStore
  dsimp only
  split
  · exact k
  · split
    · exact State.sramWrite_banks k ‹_›
    · exact k

theorem State.tcmWrite_banks (h : BanksKept a s) (e : Fin 16) (d : Bool) (o n v : Nat) :
    BanksKept a (s.tcmWrite e d o n v).2 := by
  have k := State.partRead_banks h (tcmOf e d) (o / 4) (decide (n < 4))
  unfold State.tcmWrite
  dsimp only
  split
  · exact k
  · exact k.keep (State.updEng_keeps .self)

theorem State.placeWrite_banks (h : BanksKept a s) (e : Fin 16) (w : Writer) (x n v : Nat) :
    BanksKept a (s.placeWrite e w x n v).2 := by
  unfold State.placeWrite
  split
  · exact State.sramStore_banks h _ _ _
  · exact banksKept_ite (State.writeReg_banks h _ _ _) (State.writePart_banks h _ _ _ _)
  · rename_i o _
    have k : BanksKept a (s.ledgWindow (.engine e) w o (leBytes n v)).2 := h.keep (State.ledgWindow_keeps .self)
    dsimp only
    split
    · exact k
    · exact k.keep (State.raise_keeps .self)
    · exact k
  · exact h.keep (State.raise_keeps .self)

theorem State.memWrite_banks (h : BanksKept a s) (e : Fin 16) (w : Writer) (x n v : Nat) :
    BanksKept a (s.memWrite e w x n v).2 := by
  unfold State.memWrite
  split
  · exact State.tcmWrite_banks h _ _ _ _ _
  · split
    · exact State.tcmWrite_banks h _ _ _ _ _
    · exact State.placeWrite_banks h _ _ _ _ _

theorem State.engLoad_banks (h : BanksKept a s) (e : Fin 16) (x : Word) (n : Nat) :
    BanksKept a (s.engLoad e x n).2 := by
  have k := State.memRead_banks h e x.toNat n
  unfold State.engLoad
  dsimp only
  split_ifs
  · exact h.keep (State.trap_keeps .self)
  · exact h.keep (State.trap_keeps (State.mpuRefuse_keeps .self))
  · exact k
  · exact k.keep (State.trap_keeps .self)

theorem State.engStore_banks (h : BanksKept a s) (e : Fin 16) (x : Word) (n v : Nat) :
    BanksKept a (s.engStore e x n v).2 := by
  have k := State.memWrite_banks h e (.window (.engine e)) x.toNat n v
  unfold State.engStore
  dsimp only
  split_ifs
  · exact h.keep (State.trap_keeps .self)
  · exact h.keep (State.trap_keeps (State.mpuRefuse_keeps .self))
  · exact k
  · exact k.keep (State.trap_keeps .self)

theorem State.fetchParcel_banks (h : BanksKept a s) (e : Fin 16) (x : Word) : BanksKept a (s.fetchParcel e x).2 := by
  have k := State.memRead_banks h e x.toNat 2
  unfold State.fetchParcel
  dsimp only
  split_ifs
  · exact h.keep (State.trap_keeps (State.mpuRefuse_keeps .self))
  · exact k
  · exact k.keep (State.trap_keeps .self)
  · exact h.keep (State.trap_keeps (State.raise_keeps .self))

theorem State.fetch_banks (h : BanksKept a s) (e : Fin 16) : BanksKept a (s.fetch e).2 := by
  have k := State.fetchParcel_banks h e (s.eng e).pc
  have k2 := State.fetchParcel_banks k e ((s.eng e).pc + 2#32)
  unfold State.fetch
  dsimp only
  split
  · exact k
  · split
    · exact k
    · split <;> exact k2

theorem State.runRv_banks (h : BanksKept a s) (e : Fin 16) (i : Rv) (len : Nat) : BanksKept a (s.runRv e i len) := by
  have put (rd : Nat) (v pc : Word) : BanksKept a ((s.setX e rd v).nextPc e pc) :=
    h.keep (State.nextPc_keeps (State.setX_keeps .self))
  unfold State.runRv
  dsimp only
  split
  · exact put _ _ _
  · exact put _ _ _
  · exact put _ _ _
  · exact put _ _ _
  · exact h.keep (State.nextPc_keeps .self)
  · have k := State.engLoad_banks h e
    split
    · exact (k _ _).keep (State.nextPc_keeps (State.setX_keeps .self))
    · exact k _ _
  · have k := State.engStore_banks h e
    exact banksKept_ite ((k _ _ _).keep (State.nextPc_keeps .self)) (k _ _ _)
  · exact put _ _ _
  · exact put _ _ _
  · exact put _ _ _
  · exact h.keep (State.execCsr_keeps .self)
  · exact h.keep (State.nextPc_keeps .self)
  · exact h.keep (State.trap_keeps .self)
  · exact h.keep (State.trapFree_keeps .self)
  · exact h.keep (State.nextPc_keeps (State.updEng_keeps .self))
  · exact h.keep (State.setF_keeps (State.nextPc_keeps .self))

theorem State.runOne_banks (h : BanksKept a s) (e : Fin 16) : BanksKept a (s.runOne e) := by
  have k := State.fetch_banks h e
  unfold State.runOne
  dsimp only
  split
  · exact k
  · exact State.runRv_banks k _ _ _
  · exact k.keep (State.trapFree_keeps .self)

theorem State.beatRead_banks (h : BanksKept a s) (o : Fin 16) (x n : Nat) : BanksKept a (s.beatRead o x n).2.2 := by
  have k := State.memRead_banks h o x 4
  unfold State.beatRead
  dsimp only
  split
  · exact h
  · split
    · split
      · exact State.sramRead_banks h _ _
      · exact State.winRead_banks h _ _ _
      · split
        · exact k
        · exact State.memRead_banks k _ _ _
    · exact State.memRead_banks h _ _ _

theorem State.beatWrite_banks (h : BanksKept a s) (o : Fin 16) (c x n v : Nat) :
    BanksKept a (s.beatWrite o c x n v).2 := by
  unfold State.beatWrite
  split
  · exact State.memWrite_banks h _ _ _ _ _
  · split
    · exact State.sramStore_banks h _ _ _
    · rename_i k _
      have k : BanksKept a (s.ledgWindow (.engine o) (.dma c) k (leBytes 8 v)).2 := h.keep (State.ledgWindow_keeps .self)
      dsimp only
      split
      · exact k
      · exact k.keep (State.raise_keeps .self)
      · exact k
    · have k := State.memWrite_banks h o (.dma c) x 4 (v % 2 ^ 32)
      dsimp only
      split
      · exact State.memWrite_banks k _ _ _ _ _
      · exact k

theorem State.beatDone_banks (h : BanksKept a s) (o c : Nat) (d : DmaState) : BanksKept a (s.beatDone o c d) := by
  unfold State.beatDone
  extract_lets done s1 s2
  have k1 : BanksKept a s1 := h.keep (State.setF_keeps .self)
  have k2 : BanksKept a s2 := State.dmaStop_banks k1 _ _ _
  exact banksKept_ite k1 (banksKept_ite (State.dmaLoad_banks k2 _ _ _ _) k2)

theorem State.moveBeat_banks (h : BanksKept a s) (o : Fin 16) (c : Nat) : BanksKept a (s.moveBeat o c) := by
  unfold State.moveBeat
  extract_lets d n done src dst x y
  have kx : BanksKept a x.2.2 := State.beatRead_banks h _ _ _
  clear_value x
  have ky : BanksKept a y.2 := State.beatWrite_banks kx _ _ _ _ _
  clear_value y
  have km (m x : Nat) : BanksKept a ((s.mpuRefuse o 3 x c).dmaStop c 4 m) :=
    State.dmaStop_banks (h.keep (State.mpuRefuse_keeps .self)) _ _ _
  exact banksKept_ite (km _ _) (banksKept_ite (km _ _) (banksKept_ite (State.dmaStop_banks kx _ _ _)
    (banksKept_ite (State.dmaStop_banks ky _ _ _) (State.beatDone_banks ky _ _ _))))

/-! ## While a scheduled switch is open -/

/-- A scheduled switch is acknowledged or under way. -/
def State.switchTaken (s : State) : Prop := s.bit R.ACRD_STATUS.SWITCH_PEND = true ∨ s.acrd.switching = true

/-- Meanwhile no bank is open to any requester (R30). -/
theorem State.switchTaken.bankOpen (h : s.switchTaken) (r : Req) (b : Bool) : s.bankOpen r b = false := by
  rcases h with h | h <;> simp [State.bankOpen, h]

theorem State.switchTaken.of_same (hs : s.switchTaken) (hr : t.reg R.ACRD_STATUS.reg = s.reg R.ACRD_STATUS.reg)
    (ha : t.acrd = s.acrd) : t.switchTaken := by
  unfold State.switchTaken
  rw [State.bit_of_reg (f := R.ACRD_STATUS.SWITCH_PEND) hr, ha]
  exact hs

/-! ## Frames of the hierarchy and register writes -/

/-- What a frame of the MANAGER does keeps the banks where what it asks for does. -/
theorem State.fromManager_banks (h : BanksKept a s) (f : FrameId) (typ : Nat) (payload : List Byte) {go : State → State}
    (hg : ∀ ps fs, BanksKept a (go (s.heard ps fs))) : BanksKept a (s.fromManager f typ payload go) := by
  cases ho : s.obeys f with
  | true =>
    obtain ⟨ps, fs, e⟩ := State.fromManager_of_obeys ho typ payload
    rw [e]
    exact hg ps fs
  | false =>
    rw [State.fromManager_of_not_obeys ho typ payload go id]
    exact h.keep (State.fromManager_keeps .self fun _ k => k)

theorem execRegisterWrite_banks (r : Req) (x w : Word) (ht : execRegisterWrite r x w s = .next t) : BanksKept s t := by
  obtain rfl := Host.Outcome.next.inj ht
  exact banksKept_ite (.refl s) (banksKept_ite (Keeps.banks (State.misplaced_keeps .self)) (banksKept_ite
    ((State.writeReg_banks (.refl s) _ _ _).keep (State.hostWrite_keeps .self))
    (Keeps.banks (State.denied_keeps .self))))

theorem execRdFrame_banks (f : FrameId) (x : Word) (n : Nat) (ht : execRdFrame f x n s = .next t) : BanksKept s t := by
  obtain rfl := Host.Outcome.next.inj ht
  refine State.fromManager_banks (.refl s) _ _ _ fun ps fs => ?_
  have k : BanksKept s (s.heard ps fs) := (BanksKept.refl s).setLink _
  exact banksKept_ite ((State.winRead_banks k _ _ _).keep (State.sendPlain_keeps (State.acknowledge_keeps .self)))
    (k.keep (State.acknowledge_keeps .self))

/-- RD and WR do not reach the banks (R300). -/
theorem linkPlace_not_bank {x n : Nat} {write : Bool} (h : linkPlace x n write = true) (b : Bool) (o : Nat) :
    placeOf x ≠ some (.bank b o) := by
  intro e
  simp [linkPlace, e] at h

theorem execWrFrame_banks (f : FrameId) (x : Word) (l : List Byte) (ht : execWrFrame f x l s = .next t) :
    BanksKept s t := by
  obtain rfl := Host.Outcome.next.inj ht
  refine State.fromManager_banks (.refl s) _ _ _ fun ps fs => ?_
  have k : BanksKept s (s.heard ps fs) := (BanksKept.refl s).setLink _
  dsimp only
  split
  · rename_i hp
    have place := linkPlace_not_bank (Bool.and_eq_true_iff.1 hp).2
    exact (State.winWrite_banks (k.keep (State.clearSent_keeps .self)) _ _ _
      fun b o e => absurd e (place b o)).keep (State.acknowledge_keeps (State.updLink_keeps .self))
  · exact k.keep (State.acknowledge_keeps .self)

theorem execBankWr_banks (hs : s.switchTaken) (f : FrameId) (off : Word) (l : List Byte)
    (ht : execBankWr f off l s = .next t) : BanksKept s t := by
  obtain rfl := Host.Outcome.next.inj ht
  refine State.fromManager_banks (.refl s) _ _ _ fun ps fs => ?_
  have k : BanksKept s (s.heard ps fs) := (BanksKept.refl s).setLink _
  have shut : ∀ b, (s.heard ps fs).bankOpen .link b = false := State.switchTaken.bankOpen hs .link
  split
  · rw [shut, Bool.false_and]
    exact k.keep (State.acknowledge_keeps .self)
  · exact k.keep (State.acknowledge_keeps .self)

/-! ## The host ports -/

theorem State.busCmd_banks (h : BanksKept a s) (m : BusMsg) (code : Nat) {go : State → State}
    (hg : ∀ v, BanksKept a (go { s with host := v })) : BanksKept a (s.busCmd m code go) :=
  banksKept_ite h (banksKept_ite (h.keep (State.refuse_keeps .self)) (hg _))

theorem State.busWrite_banks (h : BanksKept a s) (m : BusMsg) (code lo hi : Nat) {apply : State → List Byte → Option State}
    (ha : ∀ l t, apply s l = some t → BanksKept a t) : BanksKept a (s.busWrite m code lo hi apply) := by
  unfold State.busWrite
  refine banksKept_ite (h.keep (State.protoFail_keeps .self)) (banksKept_ite (h.keep (State.pecFail_keeps .self)) ?_)
  split
  · exact (ha _ _ ‹_›).keep (State.applied_keeps .self)
  · exact h.keep (State.cml_keeps .self)

theorem State.busRead_banks (h : BanksKept a s) (m : BusMsg) (code : Nat) (paged : Bool) (args : Nat)
    {body : State → BusAns × State} {done : State → State} (hb : BanksKept a (body s).2)
    (hd : ∀ u, BanksKept a u → BanksKept a (done u)) : BanksKept a (s.busRead m code paged args body done) := by
  unfold State.busRead
  extract_lets x w
  have hx : BanksKept a x.2 := hb
  clear_value x
  refine banksKept_ite (h.keep (State.protoFail_keeps .self)) (banksKept_ite (h.keep (State.refuse_keeps .self)) ?_)
  split
  · exact hx.keep (State.refuse_keeps .self)
  · exact hx.keep (State.refuse_keeps .self)
  · extract_lets u
    have k : BanksKept a u := hx.of_acrd rfl
    exact banksKept_ite (k.keep (State.protoFail_keeps .self)) (banksKept_ite (hd u k) k)

theorem State.quadFrame_banks (h : BanksKept a s) (op : Nat) (q : QuadEnd) (x : Word) (len : Nat) (l : List Byte)
    {go : State → State} (hg : ∀ v, BanksKept a (go { s with evt := v })) : BanksKept a (s.quadFrame op q x len l go) := by
  have answered (st : Nat) : BanksKept a (if q.complete then s.quadAnswer (quadOp q op) st none else s) :=
    banksKept_ite (h.keep (State.quadAnswer_keeps .self)) h
  exact banksKept_ite h (banksKept_ite (answered _) (banksKept_ite (answered _) (State.meeting_banks _ hg)))

theorem State.winDataRead_banks (h : BanksKept a s) (m : BusMsg) : BanksKept a (s.winDataRead m) := by
  unfold State.winDataRead
  dsimp only
  have refused (x : Nat) : BanksKept a (s.refuse x false) := h.keep (State.refuse_keeps .self)
  refine banksKept_ite (refused _) (banksKept_ite (refused _) (banksKept_ite (refused _) ?_))
  exact State.busRead_banks h _ _ _ _ (State.winRead_banks h _ _ _) fun u k => k.of_acrd rfl

theorem State.winDataWrite_banks (h : BanksKept a s) (hs : s.switchTaken) (m : BusMsg) :
    BanksKept a (s.winDataWrite m) := by
  unfold State.winDataWrite
  extract_lets x n p y
  have ky : BanksKept a y.2 := State.winWrite_banks h _ _ _ fun b o _ => hs.bankOpen _ b
  clear_value y
  refine banksKept_ite (h.keep (State.refuse_keeps .self)) (banksKept_ite (h.keep (State.refuse_keeps .self))
    (banksKept_ite (h.keep (State.protoFail_keeps .self)) ?_))
  split
  · exact ky.keep (State.refuse_keeps .self)
  · exact ky.keep (State.refuse_keeps .self)
  · refine State.busWrite_banks h _ _ _ _ fun l t e => ?_
    cases e
    exact ky.of_acrd rfl

theorem State.quadWrite_banks (h : BanksKept a s) (x : Nat) (l : List Byte) : BanksKept a (s.quadWrite x l) := by
  unfold State.quadWrite
  have answer (op st : Nat) : BanksKept a (s.quadAnswer op st none) := h.keep (State.quadAnswer_keeps .self)
  split
  · refine banksKept_ite (answer _ _) (banksKept_ite (answer _ _) ?_)
    exact h.keep (State.quadAnswer_keeps (State.arm_keeps (State.setB_keeps (keeps_mk .self))))
  · rename_i place
    have k := State.winWrite_banks h .quad x l fun b o e => absurd e (place b o)
    dsimp only
    split <;> exact k.keep (State.quadAnswer_keeps .self)

theorem execWinData_banks (hs : s.switchTaken) (m : BusMsg) (ht : execWinData m s = .next t) : BanksKept s t := by
  obtain rfl := Host.Outcome.next.inj ht
  refine State.meeting_banks _ fun v => ?_
  refine State.busCmd_banks ((BanksKept.refl s).setEvt v) _ _ fun w => ?_
  have k := ((BanksKept.refl s).setEvt v).setHost w
  exact banksKept_ite (State.winDataRead_banks k m) (State.winDataWrite_banks k hs m)

theorem execQuadWinRead_banks (x : Word) (n : Nat) (q : QuadEnd) (ht : execQuadWinRead x n q s = .next t) :
    BanksKept s t := by
  obtain rfl := Host.Outcome.next.inj ht
  refine State.quadFrame_banks (.refl s) _ _ _ _ _ fun v => ?_
  have k := (BanksKept.refl s).setEvt v
  exact banksKept_ite (k.keep (State.quadAnswer_keeps .self))
    ((State.winRead_banks k _ _ _).keep (State.quadAnswer_keeps .self))

theorem execQuadWinWrite_banks (x : Word) (l : List Byte) (q : QuadEnd) (ht : execQuadWinWrite x l q s = .next t) :
    BanksKept s t := by
  obtain rfl := Host.Outcome.next.inj ht
  refine State.quadFrame_banks (.refl s) _ _ _ _ _ fun v => ?_
  have k := (BanksKept.refl s).setEvt v
  exact banksKept_ite k (banksKept_ite (k.keep (State.quadAnswer_keeps .self)) (State.quadWrite_banks k _ _))

/-! ## Commands -/

theorem execUvlo_banks (c : Cut) (ht : execUvlo c s = .next t) : BanksKept s t := by
  obtain rfl := Host.Outcome.next.inj ht
  exact banksKept_ite ((State.topBrown_banks (State.cutLedger_banks (.refl s) c)).keep
    (State.updSys_keepsP (State.disarm_keeps (State.clearLatch_keeps .self)))) (.refl s)

theorem execBrownOut_banks (rail : HouseRail) (c : Cut) (ht : execBrownOut rail c s = .next t) : BanksKept s t := by
  obtain rfl := Host.Outcome.next.inj ht
  exact banksKept_ite (banksKept_ite (.refl s) (State.basePor_banks (.refl s) c))
    (banksKept_ite (State.brownOut_banks (.refl s) c) (.refl s))

theorem execBnPor_banks (c : Cut) (ht : execBnPor c s = .next t) : BanksKept s t := by
  obtain rfl := Host.Outcome.next.inj ht
  exact banksKept_ite (.refl s) (State.basePor_banks (.refl s) c)

theorem execRestartDrained_banks (ht : execRestartDrained s = .next t) : BanksKept s t := by
  obtain rfl := Host.Outcome.next.inj ht
  exact banksKept_ite ((State.topBrown_banks (Keeps.banks (State.clearLatch_keeps .self))).keep
    (State.updSys_keepsP (State.arm_keeps .self))) (.refl s)

theorem execParkEntry_banks (n : Nat) (ht : execParkEntry n s = .next t) : BanksKept s t := by
  obtain rfl := Host.Outcome.next.inj ht
  extract_lets s1 src
  have k1 : BanksKept s s1 := (State.topOff_banks (.refl s)).keep (State.updSys_keepsP .self)
  exact banksKept_ite (banksKept_ite k1 (k1.keep (State.wake_keeps .self))) (.refl s)

theorem execFlaconEntry_banks (ht : execFlaconEntry s = .next t) : BanksKept s t := by
  obtain rfl := Host.Outcome.next.inj ht
  exact banksKept_ite (State.baseOff_banks (.refl s) _) (.refl s)

theorem execParkVinUvloChange_banks (below b : Bool) (ht : execParkVinUvloChange below b s = .next t) :
    BanksKept s t := by
  obtain rfl := Host.Outcome.next.inj ht
  exact banksKept_ite (banksKept_ite (State.baseOff_banks (.refl s) _) (Keeps.banks (State.updSys_keepsP .self)))
    (.refl s)

theorem execLongPressEnd_banks (lost : Bool) (ht : execLongPressEnd lost s = .next t) : BanksKept s t := by
  obtain rfl := Host.Outcome.next.inj ht
  split
  · exact .refl s
  · rename_i u e
    have k : BanksKept s u := Keeps.banks (State.expire_keeps .self e)
    exact banksKept_ite ((State.baseOff_banks k _).keep
        (State.toStart_keeps (State.zeroTime_keeps (State.freshStable_keeps .self))))
      (banksKept_ite k (k.keep (State.updSys_keepsP (State.longPressOver_keeps .self))))

theorem State.startBlocks_banks (h : BanksKept a s) : BanksKept a s.startBlocks := by
  unfold State.startBlocks
  refine banksKept_ite (h.keep (State.fltStart_keeps .self)) ?_
  extract_lets s1 s2
  have k1 : BanksKept a s1 := by
    unfold s1
    split
    · exact h.keep (State.engStart_keeps .self)
    · exact h
  clear_value s1
  have k2 : BanksKept a s2 := banksKept_ite (State.haltAll_banks k1) k1
  exact k2.keep (State.fltStart_keeps (State.pathStart_keeps (State.measStart_keeps (State.supStart_keeps
    (State.seqRelease_keeps .self)))))

theorem State.release_banks (h : BanksKept a s) : BanksKept a s.release := by
  unfold State.release
  extract_lets s1 s2 s3 s4 s5
  have k2 : BanksKept a s2 := h.keep (State.setF_keeps (State.loadImage_keeps (State.updSys_keepsP .self)))
  clear_value s2
  have k5 : BanksKept a s5 := k2.keep (State.setB_keeps (State.arm_keeps (State.setF_keeps (State.queueLog_keeps .self))))
  exact (State.startBlocks_banks (k5.keep (State.raiseFloor_keeps .self))).keep
    (State.rstoRefresh_keeps (State.firstTick_keeps (State.safeReentry_keeps .self)))

theorem execSequencerRelease_banks (ht : execSequencerRelease s = .next t) : BanksKept s t := by
  obtain rfl := Host.Outcome.next.inj ht
  refine banksKept_ite ?_ (.refl s)
  split
  · exact State.release_banks (Keeps.banks (State.expire_keeps .self ‹_›))
  · exact .refl s

theorem execPlleUnlock_banks (ht : execPlleUnlock s = .next t) : BanksKept s t := by
  obtain rfl := Host.Outcome.next.inj ht
  extract_lets s1 s2 s3
  have k2 : BanksKept s s2 := Keeps.banks (State.showLocked_keeps (State.disarm_keeps (State.updSys_keepsP
    (State.safeLines_keeps .self))))
  have k3 : BanksKept s s3 := banksKept_ite k2 (k2.keep (State.updAcrd_keeps .self))
  exact banksKept_ite ((State.haltAll_banks (k3.keep (State.setB_keeps .self))).keep (State.raise_keeps .self)) (.refl s)

theorem execLockstepMismatch_banks (e : Fin 16) (ht : execLockstepMismatch e s = .next t) : BanksKept s t := by
  obtain rfl := Host.Outcome.next.inj ht
  exact banksKept_ite ((State.haltEngine_banks (.refl s) _ _).keep (State.traceRec_keeps (State.raise_keeps .self)))
    (.refl s)

theorem execDmaStart_banks (e : Fin 16) (c : Fin 32) (errs : List EccErr) (ht : execDmaStart e c s errs = .next t) :
    BanksKept s t := by
  obtain rfl := Host.Outcome.next.inj ht
  exact banksKept_ite (State.meeting_banks _ fun v => State.dmaLoad_banks ((BanksKept.refl s).setEvt v) _ _ _ _)
    (.refl s)

theorem execDmaBeat_banks (c : Fin 32) (errs : List EccErr) (ht : execDmaBeat c s errs = .next t) :
    BanksKept s t := by
  obtain rfl := Host.Outcome.next.inj ht
  refine banksKept_ite (.refl s) (banksKept_ite (State.dmaStop_banks (.refl s) _ _ _) (banksKept_ite (.refl s) ?_))
  split
  · exact State.withErrs_banks _ fun v => State.moveBeat_banks (BanksKept.setEvt ((BanksKept.refl s).setEvt _) v) _ _
  · exact .refl s

theorem execEngineInstruction_banks (e : Fin 16) (errs : List EccErr) (ht : execEngineInstruction e s errs = .next t) :
    BanksKept s t := by
  obtain rfl := Host.Outcome.next.inj ht
  have k := (BanksKept.refl s).setEvt
  exact banksKept_ite (State.withErrs_banks _ fun v => State.runOne_banks (k v) _)
    (banksKept_ite (State.withErrs_banks _ fun v => State.runOne_banks ((k v).keep (State.setF_keeps .self)) _) (.refl s))

theorem execSramScrub_banks (m : EccMem) (k : Nat) (err : EccErr) (ht : execSramScrub m k err s = .next t) :
    BanksKept s t := by
  obtain rfl := Host.Outcome.next.inj ht
  exact banksKept_ite (.refl s) (State.eccRead_banks (.refl s) _ _ _)

theorem execCommitEnd_banks (ht : execCommitEnd s = .next t) : BanksKept s t := by
  obtain rfl := Host.Outcome.next.inj ht
  split
  · exact .refl s
  · rename_i u e
    have k : BanksKept s u := Keeps.banks (State.expire_keeps .self e)
    extract_lets again s1
    have k1 : BanksKept s s1 := (State.endCommit_banks k).keep (State.pay_keeps (State.drainLog_keeps .self))
    exact BanksKept.keep (banksKept_ite (k1.keep (State.nextCommit_keeps .self)) k1) (State.dryStored_keeps .self)

/-- Only the completion of a bank frame that was taken before writes a bank then. -/
theorem exec_banks {c : Instr} (hs : s.switchTaken) (hc : c ≠ .quadBankStoreDone) (h : exec c s = .next t) :
    BanksKept s t := by
  cases hm : changesMemory c with
  | false =>
    have k := exec_keeps h
    rw [hm] at k
    exact k.banks
  | true =>
    cases c with
    | uvlo => exact execUvlo_banks _ h
    | brownOut => exact execBrownOut_banks _ _ h
    | bnPor => exact execBnPor_banks _ h
    | plleUnlock => exact execPlleUnlock_banks h
    | parkEntry => exact execParkEntry_banks _ h
    | flaconEntry => exact execFlaconEntry_banks h
    | longPressEnd => exact execLongPressEnd_banks _ h
    | restartDrained => exact execRestartDrained_banks h
    | engineInstruction => exact execEngineInstruction_banks _ _ h
    | sramScrub => exact execSramScrub_banks _ _ _ h
    | lockstepMismatch => exact execLockstepMismatch_banks _ h
    | dmaStart => exact execDmaStart_banks _ _ _ h
    | dmaBeat => exact execDmaBeat_banks _ _ h
    | commitEnd => exact execCommitEnd_banks h
    | winData => exact execWinData_banks hs _ h
    | quadWinRead => exact execQuadWinRead_banks _ _ _ h
    | quadWinWrite => exact execQuadWinWrite_banks _ _ _ h
    | quadBankStoreDone => exact absurd rfl hc
    | bankWr => exact execBankWr_banks hs _ _ _ h
    | rdFrame => exact execRdFrame_banks _ _ _ h
    | wrFrame => exact execWrFrame_banks _ _ _ h
    | sequencerRelease => exact execSequencerRelease_banks h
    | registerWrite => exact execRegisterWrite_banks _ _ _ h
    | parkVinUvloChange => exact execParkVinUvloChange_banks _ _ h
    | _ => exact Bool.noConfusion hm

end Sys2Proof.Machine
end

section
/-! SUPPORT.  The scheduled switch, its refusal and what it closes meanwhile (R30). -/

namespace Sys2Proof.Machine

variable {s t : State}

/-! ## Parameter writes -/

/-- A parameter write is refused: the device is not running or a switch is open (R21, R30). -/
theorem State.paramJudge_of_switchTaken (hs : s.switchTaken) (r : Req) (id : Nat) (v : Word) (persist : Bool) :
    s.paramJudge r id v persist = 6 ∨ s.paramJudge r id v persist = 7 := by
  have open' : (s.bit R.ACRD_STATUS.SWITCH_PEND || s.acrd.switching) = true := Bool.or_eq_true_iff.2 hs
  rw [State.paramJudge, if_pos open']
  split
  · exact .inr rfl
  · exact .inl rfl

theorem State.paramWrite_of_switchTaken (hs : s.switchTaken) (r : Req) (id : Nat) (v : Word) (persist : Bool) :
    ((s.paramWrite r id v persist).1 = 6 ∨ (s.paramWrite r id v persist).1 = 7) ∧ (s.paramWrite r id v persist).2 = s := by
  have code := State.paramJudge_of_switchTaken hs r id v persist
  have refused : s.paramJudge r id v persist ≠ 0 := by omega
  unfold State.paramWrite
  split
  · exact ⟨code, if_neg refused⟩
  · exact ⟨code, rfl⟩

/-- No register beyond the trace's is one that a record or a raise may change. -/
theorem noteKey_above {k : Nat} (h : 0x400B00D0 ≤ k) : noteKey k = false := by
  simp only [noteKey, Bool.or_eq_false_iff, Bool.and_eq_false_iff, decide_eq_false_iff_not]
  omega

/-- The end of a parameter command shows its code in the requester's own copy. -/
theorem State.paramDone_within (s : State) (r : Req) (code : Nat) :
    Within notes [R.ACRD_PARAM_STAT.reg (reqCode r)] s (s.paramDone r code) := by
  unfold State.paramDone
  extract_lets q s1
  have k1 : Within notes [R.ACRD_PARAM_STAT.reg (reqCode r)] s s1 :=
    ((Within.refl _ _ s).setReg _ (by decide) (List.mem_singleton_self _)).setReg _ (by decide) (List.mem_singleton_self _)
  clear_value s1
  split
  · exact k1.marks (State.localSource_marks _ (Fin.isLt _) (by decide)) (List.Subset.refl _)
  · exact k1

theorem State.paramDone_result (s : State) (r : Req) {code : Nat} (h : code < 8) :
    (s.paramDone r code).fld (R.ACRD_PARAM_STAT.RESULT (reqCode r)) = code := by
  have shown : ((s.setB (R.ACRD_PARAM_STAT.DONE (reqCode r)) true).setF (R.ACRD_PARAM_STAT.RESULT (reqCode r)) code).fld
      (R.ACRD_PARAM_STAT.RESULT (reqCode r)) = code :=
    (State.fld_setF_self _ _ (by show 16 + 3 ≤ 32; decide)).trans (Nat.mod_eq_of_lt h)
  cases r with
  | engine e =>
    refine Eq.trans ?_ shown
    exact congrArg (Word.field · 16 3) (State.localSource_reg _ e.isLt (by decide) (noteKey_above (by
      show 0x400B00D0 ≤ copyKey _ _
      unfold copyKey
      omega)))
  | hostBus => exact shown
  | quad => exact shown
  | link => exact shown

/-- With a switch acknowledged or under way a parameter command shows a refusal, and that is all it does (R30). -/
theorem State.paramCommand_of_switchTaken (hs : s.switchTaken) (r : Req) (id : Nat) (v : Word) (persist : Bool) :
    ∃ code, (code = 6 ∨ code = 7) ∧
      s.paramCommand r id v persist = (s.setReg (R.ACRD_PARAM_VAL.reg (reqCode r)) v).paramDone r code := by
  have hv : R.ACRD_STATUS.SWITCH_PEND.key ≠ R.ACRD_PARAM_VAL.reg (reqCode r) := by
    simp only [R.ACRD_STATUS.SWITCH_PEND, R.ACRD_STATUS.reg, R.ACRD_PARAM_VAL.reg, copyKey]
    omega
  have hs' : (s.setReg (R.ACRD_PARAM_VAL.reg (reqCode r)) v).switchTaken :=
    hs.of_same (State.reg_setReg_ne s v hv) (State.setReg_acrd s _ v)
  obtain ⟨code, same⟩ := State.paramWrite_of_switchTaken hs' r id v persist
  refine ⟨_, code, ?_⟩
  unfold State.paramCommand
  dsimp only
  rw [same]

theorem execParamWrite_of_switchTaken (hs : s.switchTaken) (r : Req) (id : BitVec 12) (v : Word) (persist : Bool)
    (hm : s.may r 0x400D0034 true (some 0xE0) = true) :
    Does (.paramWrite r id v persist) s (fun t =>
      (t.fld (R.ACRD_PARAM_STAT.RESULT (reqCode r)) = 6 ∨ t.fld (R.ACRD_PARAM_STAT.RESULT (reqCode r)) = 7) ∧
      Within notes [R.ACRD_PARAM_STAT.reg (reqCode r), R.ACRD_PARAM_VAL.reg (reqCode r), R.HOST_LAST_TS_LO.reg,
        R.HOST_LAST_TS_HI.reg] s t) := by
  obtain ⟨code, hc, e⟩ := State.paramCommand_of_switchTaken hs r id.toNat v persist
  refine ⟨(s.paramCommand r id.toNat v persist).hostWrite r 0xE0 id.toNat, ?_, ?_, ?_⟩
  · show Host.Outcome.next _ = _
    cases r <;> simp only [sentAs, hm, if_true]
  · have stat : R.ACRD_PARAM_STAT.reg (reqCode r) ∉ [R.HOST_LAST_TS_LO.reg, R.HOST_LAST_TS_HI.reg] := by
      simp only [R.ACRD_PARAM_STAT.reg, copyKey, R.HOST_LAST_TS_LO.reg, R.HOST_LAST_TS_HI.reg, List.mem_cons,
        List.not_mem_nil, or_false]
      omega
    have kept := (State.hostWrite_within (s.paramCommand r id.toNat v persist) r 0xE0 id.toNat).regs _ stat
      (noteKey_above (by simp only [R.ACRD_PARAM_STAT.reg, copyKey]; omega))
    have shown : ((s.paramCommand r id.toNat v persist).hostWrite r 0xE0 id.toNat).fld
        (R.ACRD_PARAM_STAT.RESULT (reqCode r)) = code := by
      refine (congrArg (Word.field · 16 3) kept).trans ?_
      rw [e]
      exact State.paramDone_result _ r (by omega)
    rw [shown]
    exact hc
  · refine .trans ?_ ((State.hostWrite_within _ r 0xE0 id.toNat).mono (List.Subset.refl _) (by simp))
    rw [e]
    exact ((Within.refl _ _ s).setReg _ (by decide) (by simp)).trans
      ((State.paramDone_within _ r code).mono (List.Subset.refl _) (by simp))

/-! ## A switch that this device refuses -/

/-- A switch is taken with an equal TOPO_SIG alone, or with every rail down (R30). -/
theorem State.topoEq_of_switchCause (x : BitVec 64) (h : s.switchCause x = 0) :
    s.topoEq = true ∨ s.railsOn.all s.railDown = true := by
  by_contra hn
  obtain ⟨topo, rails⟩ := not_or.1 hn
  have both : (!s.topoEq && !s.railsOn.all s.railDown) = true := by simp [topo, rails]
  unfold State.switchCause at h
  dsimp only at h
  rw [if_pos both] at h
  split at h <;> cases h

theorem State.switchCause_of_topo (x : BitVec 64) (staged : s.bit R.ACRD_STATUS.STAGED_OK = true)
    (topo : s.topoEq = false) (rails : s.railsOn.all s.railDown = false) : s.switchCause x = 2 := by
  simp only [State.switchCause, staged, topo, rails, Bool.not_true, Bool.not_false, Bool.and_self,
    Bool.false_eq_true, if_false, if_true]

theorem execSwitchAt_refused (f : FrameId) (x : BitVec 64) (epoch : Word) (hf : s.obeys f = true)
    (staged : s.bit R.ACRD_STATUS.STAGED_OK = true) (topo : s.topoEq = false)
    (rails : s.railsOn.all s.railDown = false) :
    Does (.switchAt f x epoch) s (fun t =>
      t.ackResult f = some 1#8 ∧ t.link.swT = s.link.swT ∧ Within [.link] [] s t) := by
  obtain ⟨ps, fs, e⟩ := State.fromManager_of_obeys hf 0x0E (leBytes 8 x.toNat ++ leBytes 4 epoch.toNat)
  have cause : (s.heard ps fs).switchCause x = 2 := State.switchCause_of_topo x staged topo rails
  refine ⟨(s.heard ps fs).acknowledge f 1 [2#8], ?_, State.ackResult_acknowledge _ f 1 _, ?_⟩
  · show Host.Outcome.next _ = _
    rw [e, cause]
    rfl
  · obtain ⟨n, fs', e'⟩ := (s.heard ps fs).acknowledge_link f 1 [2#8]
    rw [e']
    exact ⟨rfl, ((Within.refl _ _ s).updLink _ (by simp)).updLink _ (by simp)⟩

theorem State.switchRecord_marks (s : State) (code dev cause : Nat) : Marks s (s.switchRecord code dev cause) :=
  (s.traceRec_marks _ _ _).trans (State.event_marks _ (by decide))

/-- A switch that is dropped closes. -/
theorem State.switchDrop_within (s : State) (dev cause : Nat) :
    Within (.link :: notes) [R.ACRD_STATUS.reg, R.LINK_SW_STATUS.reg] s (s.switchDrop dev cause) := by
  unfold State.switchDrop
  extract_lets s1 s2
  have k1 : Within (.link :: notes) [R.ACRD_STATUS.reg, R.LINK_SW_STATUS.reg] s s1 :=
    ((Within.refl _ _ s).setReg _ (by decide) (by decide)).updLink _ (by decide)
  clear_value s1
  have k2 : Within (.link :: notes) [R.ACRD_STATUS.reg, R.LINK_SW_STATUS.reg] s s2 :=
    ((k1.setReg _ (by decide) (by decide)).setReg _ (by decide) (by decide)).setReg _ (by decide) (by decide)
  clear_value s2
  exact ((k2.disarm _ (by decide)).disarm _ (by decide)).marks (State.switchRecord_marks _ _ _ _) (by decide)

theorem State.switchDrop_pend (s : State) (dev cause : Nat) :
    (s.switchDrop dev cause).bit R.ACRD_STATUS.SWITCH_PEND = false := by
  unfold State.switchDrop
  extract_lets s1 s2
  have k1 : s1.bit R.ACRD_STATUS.SWITCH_PEND = false :=
    (State.bit_of_regs (State.updLink_regs _ _) _).trans (State.bit_setB_self s false (by decide) rfl)
  clear_value s1
  have k2 : s2.bit R.ACRD_STATUS.SWITCH_PEND = false := by
    unfold s2
    rw [State.bit_setF_ne _ _ (by decide) (.inl (by decide)), State.bit_setF_ne _ _ (by decide) (.inl (by decide)),
      State.bit_setF_ne _ _ (by decide) (.inl (by decide))]
    exact k1
  clear_value s2
  exact (State.bit_of_reg ((State.switchRecord_marks _ 5 dev cause).regs _ (by decide))).trans
    ((State.bit_of_regs (by rw [State.disarm_regs, State.disarm_regs]) _).trans k2)

theorem State.switchDrop_swT (s : State) (dev cause : Nat) : (s.switchDrop dev cause).link.swT = s.link.swT := by
  unfold State.switchDrop
  extract_lets s1 s2
  have k1 : s1.link.swT = s.link.swT := rfl
  clear_value s1
  rw [(State.switchRecord_marks _ 5 dev cause).link, State.disarm_link, State.disarm_link, State.setF_link,
    State.setF_link, State.setF_link]
  exact k1

/-- An ARM that this device refuses leaves no switch open that was not open before (R30, R305). -/
theorem State.switchArmAll_refused (h : s.switchCause (s.pair R.LINK_SW_T_LO.reg R.LINK_SW_T_HI.reg) ≠ 0) :
    Within (.link :: notes) [R.ACRD_STATUS.reg, R.LINK_SW_STATUS.reg] s s.switchArmAll ∧
    s.switchArmAll.bit R.ACRD_STATUS.SWITCH_PEND = s.bit R.ACRD_STATUS.SWITCH_PEND ∧
    s.switchArmAll.link.swT = s.link.swT := by
  unfold State.switchArmAll
  dsimp only
  rw [if_pos h]
  split
  · exact ⟨(Within.refl _ _ s).setReg _ (by decide) (by decide),
      State.bit_setF_ne _ _ (by decide) (.inl (by decide)), rfl⟩
  · rename_i shut
    exact ⟨s.switchDrop_within _ _, (s.switchDrop_pend _ _).trans (Bool.eq_false_of_not_eq_true shut).symm,
      s.switchDrop_swT _ _⟩

theorem execSwitchArm_refused (r : Req) (hm : s.may r R.LINK_SW_CMD.reg true none = true) (manager : s.manager = true)
    (staged : s.bit R.ACRD_STATUS.STAGED_OK = true) (topo : s.topoEq = false)
    (rails : s.railsOn.all s.railDown = false) :
    Does (.switchArm r) s (fun t =>
      t.bit R.ACRD_STATUS.SWITCH_PEND = s.bit R.ACRD_STATUS.SWITCH_PEND ∧ t.link.swT = s.link.swT ∧
      Within (.link :: notes)
        [R.ACRD_STATUS.reg, R.LINK_SW_STATUS.reg, R.HOST_LAST_TS_LO.reg, R.HOST_LAST_TS_HI.reg] s t) := by
  have command : s.switchCommand 0x7E000001#32 = s.clearSent.switchArmAll := by
    have manager' : s.clearSent.manager = true := manager
    unfold State.switchCommand
    simp [manager', Word.field]
  have cause : s.clearSent.switchCause (s.clearSent.pair R.LINK_SW_T_LO.reg R.LINK_SW_T_HI.reg) = 2 :=
    State.switchCause_of_topo _ staged topo rails
  obtain ⟨within, pend, swT⟩ := State.switchArmAll_refused (s := s.clearSent) (by rw [cause]; decide)
  have wrote := s.clearSent.switchArmAll.hostWrite_within r 0xD1 1
  refine ⟨s.clearSent.switchArmAll.hostWrite r 0xD1 1, ?_, ?_, ?_, ?_⟩
  · show Host.Outcome.next (if _ then _ else _) = _
    rw [if_pos hm, command]
  · exact (State.bit_of_reg (wrote.regs _ (by decide) (by decide))).trans pend
  · rw [State.hostWrite_link]
    exact swT
  · have sent : Within (.link :: notes) [R.ACRD_STATUS.reg, R.LINK_SW_STATUS.reg] s s.clearSent :=
      (Within.refl _ _ s).updLink _ (by decide)
    exact ((sent.trans within).mono (by decide) (by decide)).trans (wrote.mono (by decide) (by decide))

/-- Settles O17: a refused request leaves by the acknowledgement of the frame, or by the drop of ARM; the open switch
closes the parameters and every bank. -/
theorem switchNeedsEqualTopology : Obligations.SwitchNeedsEqualTopology := by
  refine ⟨?_, ?_, fun x s => s.topoEq_of_switchCause x, ?_, fun r id v persist s hs =>
    State.paramWrite_of_switchTaken hs r id v persist, ?_⟩
  · intro f x epoch s hf staged topo rails
    obtain ⟨t, ht, ack, swT, within⟩ := execSwitchAt_refused f x epoch hf staged topo rails
    exact ⟨t, ht, ack, State.bit_of_regs (within.frame .regs (by decide)) _,
      within.frame .acrd (by decide), swT, within.frame⟩
  · intro r s hm manager staged topo rails
    obtain ⟨t, ht, pend, swT, within⟩ := execSwitchArm_refused r hm manager staged topo rails
    exact ⟨t, ht, pend, within.frame .acrd (by decide), swT, (within.mono (by decide) (List.Subset.refl _)).frame,
      within.regs.regsIn (by decide)⟩
  · intro c s t hs hc ht
    obtain ⟨hA, hB⟩ := exec_banks hs hc ht
    exact ⟨hA, hB⟩
  · intro r id v persist s hm hs
    obtain ⟨t, ht, result, within⟩ := execParamWrite_of_switchTaken hs r id v persist hm
    exact ⟨t, ht, result, within.frame .acrd (by decide), within.frame, within.regs⟩

end Sys2Proof.Machine
end

section
/-! SUPPORT.  Set-point commands (R73 to R77): when one of the fabric is refused, what an accepted one leaves, and what
the rise of the fabric's line does. -/

namespace Sys2Proof.Machine

variable {s : State}

/-! ## Acceptance -/

/-- The lock is no condition of a command of the fabric (R77). -/
theorem State.refusal_fabric_eq_none_iff (s : State) (n v : Nat) : s.refusal n .fabric v = none ↔
    1024 ≤ v ∧ v ≤ 22528 ∧ s.fld (R.LOOP_VLIM.VMIN n) ≤ v ∧ v ≤ s.fld (R.LOOP_VLIM.VMAX n) ∧ s.lstate n ≠ L.fault := by
  simp [State.refusal, ite_eq_iff, and_assoc]

/-- No source ranks above the fabric (R76). -/
theorem srcRank_le_fabric (src : Src) : srcRank src ≤ srcRank .fabric := by
  cases src <;> simp only [srcRank] <;> omega

@[simp] theorem State.restartLock_regs (s : State) (n : Nat) : (s.restartLock n).regs = s.regs := by
  unfold State.restartLock
  exact (apply_ite State.regs _ _ _).trans (ite_self _)

@[simp] theorem State.restartLock_loops (s : State) (n : Nat) : (s.restartLock n).loops = s.loops := by
  unfold State.restartLock
  exact (apply_ite State.loops _ _ _).trans (ite_self _)

theorem State.reg_of_regs {t : State} (h : t.regs = s.regs) (k : Nat) : t.reg k = s.reg k := by
  unfold State.reg
  rw [h]

theorem State.loop_of_loops {t : State} (h : t.loops = s.loops) (n : Nat) : t.loop n = s.loop n := by
  unfold State.loop
  rw [h]

theorem State.target_setTarget (s : State) (n t : Nat) : (s.setTarget n t).target n = t % 2 ^ 16 :=
  (State.fld_setF_ne _ _ (by simp [R.LOOP_VSET.TARGET])
    (.inl (by simp only [R.LOOP_VREF.TARGET, R.LOOP_VSET.TARGET, R.LOOP_VREF.reg, R.LOOP_VSET.reg]; omega))).trans
    (State.fld_setF_self s t (by simp [R.LOOP_VREF.TARGET]))

theorem State.reg_setTarget (s : State) {n k : Nat} (t : Nat) (hr : k ≠ R.LOOP_VREF.reg n) (hs : k ≠ R.LOOP_VSET.reg n) :
    (s.setTarget n t).reg k = s.reg k :=
  (State.reg_setF_ne _ _ hs).trans (State.reg_setF_ne _ _ hr)

/-- A command waits for the next slew tick in the order of R76. -/
def State.enqueueSetpoint (s : State) (n : Nat) (c : QueuedCmd) : State :=
  s.updLoop n (fun x => { x with queued := enqueueCmd c x.queued })

/-- What an accepted command does, from the state `u` in which the holder's own command has restarted the lock's
time-out (R73, R76, R78). -/
theorem State.acceptSetpoint_cases (s : State) (n : Nat) (src : Src) (t rate : Nat) :
    ∃ u : State, u.regs = s.regs ∧ u.loops = s.loops ∧ s.acceptSetpoint n src t rate =
      if s.lstate n = L.off ∨ s.lbase n = L.stop then
        if srcRank src < (s.loop n).lastRank then u
        else (u.updLoop n (fun x => { x with lastRank := srcRank src })).setTarget n t
      else u.enqueueSetpoint n
        ⟨srcRank src, t, slewCode (if rate = 0 then s.fld (R.LOOP_SLEW.RATE n) else rate)⟩ := by
  unfold State.acceptSetpoint
  extract_lets u r
  have regs : u.regs = s.regs := by
    unfold u
    split
    · exact s.restartLock_regs n
    · rfl
  have loops : u.loops = s.loops := by
    unfold u
    split
    · exact s.restartLock_loops n
    · rfl
  refine ⟨u, regs, loops, ?_⟩
  have row : u.loop n = s.loop n := State.loop_of_loops loops n
  have fld (f : Field) : u.fld f = s.fld f := by
    unfold State.fld
    rw [State.reg_of_regs regs]
  have idle : ((decide (u.lstate n = L.off) || decide (u.lbase n = L.stop)) = true) =
      (s.lstate n = L.off ∨ s.lbase n = L.stop) := by
    simp only [State.lbase, State.lstate, row, fld, Bool.or_eq_true, decide_eq_true_eq]
  exact ite_congr idle (fun _ => by rw [row]) (fun _ => by unfold r; rw [fld]; rfl)

/-- A command writes the two registers that show the target alone (R332). -/
theorem State.reg_acceptSetpoint (s : State) {n k : Nat} (src : Src) (t rate : Nat) (hr : k ≠ R.LOOP_VREF.reg n)
    (hs : k ≠ R.LOOP_VSET.reg n) : (s.acceptSetpoint n src t rate).reg k = s.reg k := by
  obtain ⟨u, regs, -, e⟩ := s.acceptSetpoint_cases n src t rate
  rw [e]
  split
  · split
    · exact State.reg_of_regs regs k
    · exact (State.reg_setTarget _ t hr hs).trans (State.reg_of_regs regs k)
  · exact State.reg_of_regs regs k

theorem State.lock_acceptSetpoint (s : State) (n : Nat) (src : Src) (t rate : Nat) :
    (s.acceptSetpoint n src t rate).reg (R.LOOP_LOCK.reg n) = s.reg (R.LOOP_LOCK.reg n) :=
  s.reg_acceptSetpoint src t rate (by simp only [R.LOOP_LOCK.reg, R.LOOP_VREF.reg]; omega)
    (by simp only [R.LOOP_LOCK.reg, R.LOOP_VSET.reg]; omega)

/-- In OFF and STOP the target follows at once a source that none since the last slew tick outranks (R73, R76). -/
theorem State.target_acceptSetpoint {n : Nat} {src : Src} (t rate : Nat)
    (idle : s.lstate n = L.off ∨ s.lbase n = L.stop) (rank : (s.loop n).lastRank ≤ srcRank src) :
    (s.acceptSetpoint n src t rate).target n = t % 2 ^ 16 := by
  obtain ⟨u, -, -, e⟩ := s.acceptSetpoint_cases n src t rate
  rw [e, if_pos idle, if_neg (Nat.not_lt.2 rank)]
  exact State.target_setTarget _ n t

/-- In OFF and STOP a source that a later one of R76's order has preceded since the last slew tick sets no target. -/
theorem State.regs_acceptSetpoint_of_outranked {n : Nat} {src : Src} (t rate : Nat)
    (idle : s.lstate n = L.off ∨ s.lbase n = L.stop) (rank : srcRank src < (s.loop n).lastRank) :
    (s.acceptSetpoint n src t rate).regs = s.regs := by
  obtain ⟨u, regs, -, e⟩ := s.acceptSetpoint_cases n src t rate
  rw [e, if_pos idle, if_pos rank]
  exact regs

/-- Outside OFF and STOP the command waits for the next slew tick (R73, R75). -/
theorem State.queued_acceptSetpoint {n : Nat} (src : Src) (t rate : Nat) (off : s.lstate n ≠ L.off)
    (stop : s.lbase n ≠ L.stop) : ((s.acceptSetpoint n src t rate).loop n).queued =
      enqueueCmd ⟨srcRank src, t, slewCode (if rate = 0 then s.fld (R.LOOP_SLEW.RATE n) else rate)⟩
        (s.loop n).queued := by
  obtain ⟨u, -, loops, e⟩ := s.acceptSetpoint_cases n src t rate
  rw [e, if_neg (not_or.2 ⟨off, stop⟩)]
  unfold State.enqueueSetpoint State.loop State.updLoop
  dsimp only
  rw [Cells.at_upd_self, loops]

/-- No accepted command leaves a rank above the fabric's. -/
theorem State.lastRank_acceptSetpoint_le {n : Nat} (src : Src) (t rate : Nat)
    (rank : (s.loop n).lastRank ≤ srcRank .fabric) :
    ((s.acceptSetpoint n src t rate).loop n).lastRank ≤ srcRank .fabric := by
  obtain ⟨u, -, loops, e⟩ := s.acceptSetpoint_cases n src t rate
  rw [e]
  split
  · split
    · rw [State.loop_of_loops loops]
      exact rank
    · simp only [State.loop, State.setTarget, State.setF_loops, State.updLoop, Cells.at_upd_self]
      exact srcRank_le_fabric src
  · simp only [State.enqueueSetpoint, State.loop, State.updLoop, Cells.at_upd_self, loops]
    exact rank

/-! ## The fabric's line -/

/-- Action line `i` has risen: its tile's logic has run and the line reads 1. -/
def State.lineRisen (s : State) (k i : Nat) : State :=
  (s.stirTile k).updAcrd (fun a => { a with act := lineAt a.act i true })

@[simp] theorem State.lineRisen_regs (s : State) (k i : Nat) : (s.lineRisen k i).regs = s.regs := rfl
@[simp] theorem State.lineRisen_loops (s : State) (k i : Nat) : (s.lineRisen k i).loops = s.loops := rfl
@[simp] theorem State.lineRisen_sys (s : State) (k i : Nat) : (s.lineRisen k i).sys = s.sys := rfl

/-- The rising edge of a line acts where the line is not held (R329, R330). -/
theorem State.line_rises {k i : Nat} (driven : s.driver i = some k) (runs : s.tileRuns k = true)
    (free : s.linesHeld = false) (low : s.acrd.act.getLsbD i = false) :
    s.line i true = (s.lineRisen k i).lineEdge i := by
  have free' : (s.stirTile k).linesHeld = false := free
  have low' : (s.stirTile k).acrd.act.getLsbD i = false := low
  simp only [State.line, driven, runs, State.driveLine, free', low', if_true, Bool.false_eq_true, if_false,
    Bool.not_false, Bool.and_self]
  rfl

/-- The rising edge of a set-point line is a command for LOOP_FSET (R77, Table 1.9). -/
theorem State.lineEdge_setpoint (s : State) (n : Fin 24) (safe : s.sys.phase ≠ .safe)
    (released : s.sys.stage = .released) :
    s.lineEdge (192 + n) = s.setpoint n .fabric (s.fld (R.LOOP_FSET.TARGET n)) 0 := by
  have hn := n.isLt
  have index : 192 + n.val - 192 = n.val := by omega
  unfold State.lineEdge
  rw [if_neg (by omega), if_neg (by omega), if_neg (by omega), if_neg (by omega), if_neg (by omega),
    if_pos (by omega), index]
  simp [safe, released]

/-- The rise of the line of an accepted command of the fabric. -/
theorem exec_fabricSetpointCommand_accepted {n : Fin 24} {k : Nat} (driven : s.driver (192 + n.val) = some k)
    (runs : s.tileRuns k = true) (free : s.linesHeld = false) (low : s.acrd.act.getLsbD (192 + n) = false)
    (safe : s.sys.phase ≠ .safe) (released : s.sys.stage = .released)
    (accepted : s.refusal n .fabric (s.fld (R.LOOP_FSET.TARGET n)) = none) :
    exec (.fabricSetpointCommand n true) s = .next
      ((s.lineRisen k (192 + n)).acceptSetpoint n .fabric (s.fld (R.LOOP_FSET.TARGET n)) 0) := by
  have target : (s.lineRisen k (192 + n)).fld (R.LOOP_FSET.TARGET n) = s.fld (R.LOOP_FSET.TARGET n) := rfl
  have accepted' : (s.lineRisen k (192 + n)).refusal n .fabric (s.fld (R.LOOP_FSET.TARGET n)) = none := accepted
  have edge := (s.lineRisen k (192 + n)).lineEdge_setpoint n safe released
  show Host.Outcome.next (s.line (192 + n) true) = _
  rw [State.line_rises driven runs free low, edge, target, State.setpoint, accepted']

end Sys2Proof.Machine
end

section
/-! SUPPORT.  The fabric's command and the lock of a loop (R77): what it does whatever LOOP_LOCK says, and a state that
no source can bring about in which it sets no target. -/

namespace Sys2Proof.Machine

variable {s : State}

/-- A code of 16 bits is what the target reads. -/
theorem State.fset_mod (s : State) (n : Nat) :
    s.fld (R.LOOP_FSET.TARGET n) % 2 ^ 16 = s.fld (R.LOOP_FSET.TARGET n) :=
  Nat.mod_mod _ _

section
variable {n : Fin 24} {k : Nat} (driven : s.driver (192 + n.val) = some k)
  (runs : s.tileRuns k = true) (free : s.linesHeld = false) (low : s.acrd.act.getLsbD (192 + n) = false)
  (safe : s.sys.phase ≠ .safe) (released : s.sys.stage = .released)
  (accepted : s.refusal n .fabric (s.fld (R.LOOP_FSET.TARGET n)) = none)
include driven runs free low safe released accepted

/-- In OFF and STOP the target follows LOOP_FSET at once, and the lock stands, where no rank above the fabric's is
kept. -/
theorem fabricSetpointCommand_atOnce (idle : s.lstate n = L.off ∨ s.lbase n = L.stop)
    (rank : (s.loop n).lastRank ≤ srcRank .fabric) : Does (.fabricSetpointCommand n true) s (fun t =>
      t.target n = s.fld (R.LOOP_FSET.TARGET n) ∧ t.reg (R.LOOP_LOCK.reg n) = s.reg (R.LOOP_LOCK.reg n)) :=
  ⟨_, exec_fabricSetpointCommand_accepted driven runs free low safe released accepted,
    (State.target_acceptSetpoint (s := s.lineRisen k (192 + n)) _ 0 idle rank).trans (s.fset_mod n),
    State.lock_acceptSetpoint (s.lineRisen k (192 + n)) n .fabric _ 0⟩

/-- Outside OFF and STOP the command waits for the next slew tick, and the lock stands. -/
theorem fabricSetpointCommand_queued (off : s.lstate n ≠ L.off) (stop : s.lbase n ≠ L.stop) :
    Does (.fabricSetpointCommand n true) s (fun t =>
      (t.loop n).queued = enqueueCmd ⟨srcRank .fabric, s.fld (R.LOOP_FSET.TARGET n),
        slewCode (s.fld (R.LOOP_SLEW.RATE n))⟩ (s.loop n).queued ∧
      t.reg (R.LOOP_LOCK.reg n) = s.reg (R.LOOP_LOCK.reg n)) :=
  ⟨_, exec_fabricSetpointCommand_accepted driven runs free low safe released accepted,
    State.queued_acceptSetpoint (s := s.lineRisen k (192 + n)) .fabric _ 0 off stop,
    State.lock_acceptSetpoint (s.lineRisen k (192 + n)) n .fabric _ 0⟩

/-- In OFF and STOP a rank above the fabric's keeps the target as it was. -/
theorem fabricSetpointCommand_outranked (idle : s.lstate n = L.off ∨ s.lbase n = L.stop)
    (rank : srcRank .fabric < (s.loop n).lastRank) : Does (.fabricSetpointCommand n true) s (fun t =>
      t.target n = s.target n) := by
  refine ⟨_, exec_fabricSetpointCommand_accepted driven runs free low safe released accepted, ?_⟩
  have regs := State.regs_acceptSetpoint_of_outranked (s := s.lineRisen k (192 + n)) (src := .fabric)
    (s.fld (R.LOOP_FSET.TARGET n)) 0 idle rank
  exact congrArg (Word.field · 16 16) (State.reg_of_regs regs (R.LOOP_VREF.reg n))

end

/-- An image whose output 0 of tile 9 drives the set-point line of loop 0. -/
def outrankedImage : Image where
  version := 0
  svn := 0
  role := 0
  devPin := 0xFF
  flags := 0
  bound := 0
  topo := 0
  hash := []
  params := []
  hostPerm := []
  regs := []
  hier := []
  engines := []
  safe := []
  outputs := [(9, 0, 192)]
  checkAt := 0

/-- A running device with loop 0 in OFF, a good LOOP_FSET, and a last rank of 21, one above the fabric's. -/
def outranked : State :=
  (({ State.reset with
    sys := { SysState.reset with phase := .run, stage := .released, pllE := .locked }
    acrd := { AcrdState.reset with active := some false, image := some outrankedImage } } : State).setF
      (R.LOOP_FSET.TARGET 0) 1024).updLoop 0 (fun x => { x with lastRank := 21 })

/-- Refutes O15: the second clause asks no bound of the rank kept since the last slew tick.  In a state that keeps one
above the fabric's, which no source has (`srcRank_le_fabric`) and no accepted command leaves
(`State.lastRank_acceptSetpoint_le`), the accepted command of the fabric sets no target.  The lock plays no part:
where no such rank is kept all three clauses hold (`State.refusal_fabric_eq_none_iff`, `fabricSetpointCommand_atOnce`,
`fabricSetpointCommand_queued`). -/
theorem not_lockNeverRefusesTheFabric : ¬ Obligations.LockNeverRefusesTheFabric := by
  unfold Obligations.LockNeverRefusesTheFabric
  rintro ⟨-, atOnce, -⟩
  have driven : outranked.driver (192 + (0 : Fin 24).val) = some 9 := by decide
  have runs : outranked.tileRuns 9 = true := by decide
  have low : outranked.acrd.act.getLsbD (192 + (0 : Fin 24)) = false := by decide
  have accepted : outranked.refusal (0 : Fin 24) .fabric (outranked.fld (R.LOOP_FSET.TARGET (0 : Fin 24))) = none := by
    decide
  have off : outranked.lstate (0 : Fin 24) = L.off := by decide
  obtain ⟨t, ht, target, -⟩ := atOnce 0 9 outranked driven runs rfl low (by decide) rfl accepted (.inl off)
  obtain ⟨t', ht', kept⟩ := fabricSetpointCommand_outranked driven runs rfl low (by decide) rfl accepted (.inl off)
    (by decide)
  obtain rfl : t = t' := Host.Outcome.next.inj (ht.symm.trans ht')
  have unchanged : outranked.fld (R.LOOP_FSET.TARGET (0 : Fin 24)) = outranked.target (0 : Fin 24) :=
    target.symm.trans kept
  exact absurd unchanged (by decide)

end Sys2Proof.Machine
end

section
/-! SUPPORT.  Counters of a register field, and which of a list of fields a write leaves as they read. -/

namespace Sys2Proof.Machine

variable {f g sat : Field} {s t u : State}

/-- Two fields share no bit. -/
abbrev Apart (f g : Field) : Prop := g.key ≠ f.key ∨ f.lo + f.width ≤ g.lo ∨ g.lo + g.width ≤ f.lo

theorem State.fld_lt (s : State) (f : Field) : s.fld f < 2 ^ f.width := Nat.mod_lt _ (Nat.two_pow_pos _)

theorem State.fld_of_reg (h : t.reg f.key = s.reg f.key) : t.fld f = s.fld f := by
  unfold State.fld
  rw [h]

/-- A counter counts one and stays at all ones (spec/00, Conventions). -/
theorem State.count_counts (s : State) (b : Nat) (hf : f.lo + f.width ≤ 32) (hs : sat.lo + sat.width ≤ 32)
    (apart : Apart sat f) (hn : noteKey f.key = false) : Counts f s (s.count b f sat) := by
  have bound := s.fld_lt f
  unfold Counts State.count
  extract_lets n m
  split
  next below =>
    rw [State.fld_setF_self _ _ hf, Nat.mod_eq_of_lt (by omega)]
    omega
  next =>
    split
    next last =>
      rw [State.fld_of_reg (State.saturated_reg _ _ hn), State.fld_setB_ne _ _ hs apart, State.fld_setF_self _ _ hf,
        Nat.mod_eq_of_lt (by omega)]
      omega
    next => omega

theorem State.fld_count_ne (s : State) (b : Nat) (hf : f.lo + f.width ≤ 32) (hs : sat.lo + sat.width ≤ 32)
    (apart : Apart f g) (apartSat : Apart sat g) (hn : noteKey g.key = false) : (s.count b f sat).fld g = s.fld g := by
  unfold State.count
  extract_lets n m
  split
  · exact State.fld_setF_ne _ _ hf apart
  · split
    · rw [State.fld_of_reg (State.saturated_reg _ _ hn), State.fld_setB_ne _ _ hs apartSat,
        State.fld_setF_ne _ _ hf apart]
    · rfl

/-- What a counter counts is the same where it reads the same before and after. -/
theorem Counts.congr {s' t' : State} (h : Counts f s t) (hs : s.fld f = s'.fld f) (ht : t'.fld f = t.fld f) :
    Counts f s' t' := by
  unfold Counts at h ⊢
  rw [ht, h, hs]

end Sys2Proof.Machine
end

section
/-! SUPPORT.  What the watchdog and the reset outputs write (R157 to R165), and that of these only the judged answer,
the end of a window and the expiry touch the error counters (R163). -/

namespace Sys2Proof.Machine

/-- The error count and the counters of bad writes, time-outs and expiries. -/
def wdCounters : List Field :=
  [R.SUP_WD_STATUS.ERRCNT, R.SUP_WD_CNT.BAD, R.SUP_WD_CNT.TOUT, R.SUP_WD_CNT.EXPC]

/-- The registers that the watchdog and the reset outputs write. -/
def wdKeys : List Nat :=
  [R.SUP_WD_STATUS.reg, R.SUP_WD_CHAL.reg, R.SUP_WD_CNT.reg] ++ (List.range 8).map R.SUP_RSTO_STATUS.reg

/-- The watchdog and the reset outputs were at work, and the fields `fs` read as before. -/
structure WdKeeps (fs : List Field) (s t : State) : Prop where
  within : Within (.sup :: notes) wdKeys s t
  flds : ∀ g ∈ fs, t.fld g = s.fld g

/-- A field that they may write without a change of the fields `fs`. -/
abbrev WdField (fs : List Field) (f : Field) : Prop :=
  f.key ∈ wdKeys ∧ f.lo + f.width ≤ 32 ∧ ∀ g ∈ fs, Apart f g

variable {fs gs : List Field} {f sat : Field} {s t u : State} {n : Nat}

/-- The fields of SUP_RSTO_STATUS are no error counters. -/
theorem wdField_rsto {lo w : Nat} (hn : n < 8) (bits : lo + w ≤ 32) :
    WdField wdCounters ⟨R.SUP_RSTO_STATUS.reg n, lo, w⟩ := by
  have below : R.SUP_RSTO_STATUS.reg n < R.SUP_WD_STATUS.reg := by
    simp only [R.SUP_RSTO_STATUS.reg, R.SUP_WD_STATUS.reg]
    omega
  have above : ∀ g ∈ wdCounters, R.SUP_WD_STATUS.reg ≤ g.key := by decide
  exact ⟨List.mem_append_right _ (List.mem_map_of_mem (List.mem_range.2 hn)), bits,
    fun g hg => .inl (Nat.ne_of_gt (Nat.lt_of_lt_of_le below (above g hg)))⟩

namespace WdKeeps

theorem refl (fs : List Field) (s : State) : WdKeeps fs s s := ⟨.refl _ _ s, fun _ _ => rfl⟩

theorem trans (h : WdKeeps fs s t) (k : WdKeeps fs t u) : WdKeeps fs s u :=
  ⟨h.within.trans k.within, fun g hg => (k.flds g hg).trans (h.flds g hg)⟩

theorem mono (h : WdKeeps fs s t) (sub : gs ⊆ fs) : WdKeeps gs s t := ⟨h.within, fun g hg => h.flds g (sub hg)⟩

theorem ite {c : Prop} [Decidable c] (h : WdKeeps fs s t) (k : WdKeeps fs s u) : WdKeeps fs s (if c then t else u) := by
  split <;> assumption

theorem setF (h : WdKeeps fs s t) (v : Nat) (hf : WdField fs f) : WdKeeps fs s (t.setF f v) := by
  obtain ⟨key, bits, apart⟩ := hf
  exact ⟨h.within.setReg _ (by decide) key,
    fun g hg => (State.fld_setF_ne t v bits (apart g hg)).trans (h.flds g hg)⟩

theorem setB (h : WdKeeps fs s t) (b : Bool) (hf : WdField fs f) : WdKeeps fs s (t.setB f b) := h.setF _ hf

theorem marks (h : WdKeeps wdCounters s t) (m : Marks t u) : WdKeeps wdCounters s u := by
  have plain : ∀ g ∈ wdCounters, noteKey g.key = false := by decide
  exact ⟨h.within.marks m (List.subset_cons_self _ _),
    fun g hg => (State.fld_of_reg (m.regs _ (plain g hg))).trans (h.flds g hg)⟩

theorem arm (h : WdKeeps wdCounters s t) (k d : Nat) : WdKeeps wdCounters s (t.arm k d) :=
  h.marks ((Marks.refl t).arm k d)

theorem disarm (h : WdKeeps wdCounters s t) (k : Nat) : WdKeeps wdCounters s (t.disarm k) :=
  h.marks (Marks.refl t).rest

theorem count (h : WdKeeps fs s t) (b : Nat) (hf : WdField fs f) (hs : WdField fs sat)
    (plain : ∀ g ∈ fs, noteKey g.key = false) : WdKeeps fs s (t.count b f sat) := by
  obtain ⟨key, bits, apart⟩ := hf
  obtain ⟨keyS, bitsS, apartS⟩ := hs
  refine ⟨?_, fun g hg =>
    (State.fld_count_ne t b bits bitsS (apart g hg) (apartS g hg) (plain g hg)).trans (h.flds g hg)⟩
  have written (v : Nat) : Within (.sup :: notes) wdKeys s (t.setF f v) := h.within.setReg _ (by decide) key
  unfold State.count
  extract_lets c m
  split
  · exact written _
  · split
    · exact ((written _).setReg _ (by decide) keyS).marks (State.saturated_marks _ b) (List.subset_cons_self _ _)
    · exact h.within

/-- What the supervisors hold outside the registers is no error counter. -/
theorem setSup (h : WdKeeps fs s t) (x : SupState) : WdKeeps fs s { t with sup := x } := by
  refine ⟨h.within.trans ⟨fun p hp => ?_, fun _ _ _ => rfl⟩, h.flds⟩
  cases p
  case sup => exact absurd List.mem_cons_self hp
  all_goals rfl

theorem foldl {l : List Nat} {op : State → Nat → State}
    (step : ∀ u, ∀ x ∈ l, WdKeeps fs s u → WdKeeps fs s (op u x)) (h : WdKeeps fs s t) :
    WdKeeps fs s (l.foldl op t) := by
  induction l generalizing t with
  | nil => exact h
  | cons x r ih =>
    exact ih (fun u y hy => step u y (List.mem_cons_of_mem _ hy)) (step t x List.mem_cons_self h)

/-! ## The watchdog's windows and its arming (R160, R161, R165) -/

theorem wdChallenge (h : WdKeeps wdCounters s t) : WdKeeps wdCounters s t.wdChallenge := h.setF _ (by decide)

theorem wdArm (h : WdKeeps wdCounters s t) : WdKeeps wdCounters s t.wdArm := by
  unfold State.wdArm
  extract_lets cfg sup taken challenged
  have k1 : WdKeeps wdCounters s taken := h.setSup _
  have k2 : WdKeeps wdCounters s challenged := (k1.setF _ (by decide)).wdChallenge
  exact ite ((k1.setF _ (by decide)).disarm _)
    (ite ((k2.setF _ (by decide)).disarm _) ((k2.setF _ (by decide)).arm _ _))

theorem wdOpen (h : WdKeeps wdCounters s t) : WdKeeps wdCounters s t.wdOpen := (h.setF _ (by decide)).arm _ _

theorem wdClosed (h : WdKeeps wdCounters s t) : WdKeeps wdCounters s t.wdClosed :=
  ite h.wdOpen ((h.setF _ (by decide)).arm _ _)

theorem wdIdle (h : WdKeeps wdCounters s t) (n : Nat) : WdKeeps wdCounters s (t.wdIdle n) :=
  ite ((h.setF _ (by decide)).disarm _) h

/-! ## The reset outputs (R157, R158) -/

section
variable (hn : n < 8)
include hn

theorem rstoLow (h : WdKeeps wdCounters s t) (b : Bool) :
    WdKeeps wdCounters s (t.setB (R.SUP_RSTO_STATUS.LOW n) b) := h.setB b (wdField_rsto hn (by decide))

theorem rstoDelayed (h : WdKeeps wdCounters s t) (b : Bool) :
    WdKeeps wdCounters s (t.setB (R.SUP_RSTO_STATUS.DELAY n) b) := h.setB b (wdField_rsto hn (by decide))

theorem rstoActive (h : WdKeeps wdCounters s t) (v : Nat) :
    WdKeeps wdCounters s (t.setF (R.SUP_RSTO_STATUS.ACT n) v) := h.setF v (wdField_rsto hn (by decide))

theorem rstoCount (h : WdKeeps wdCounters s t) (b : Nat) :
    WdKeeps wdCounters s (t.count b (R.SUP_RSTO_STATUS.COUNT n) (R.SUP_RSTO_STATUS.SAT n)) :=
  h.count b (wdField_rsto hn (by decide)) (wdField_rsto hn (by decide)) (by decide)

theorem rstoFollow (h : WdKeeps wdCounters s t) : WdKeeps wdCounters s (t.rstoFollow n) := by
  unfold State.rstoFollow
  extract_lets act shown lowered
  have k1 : WdKeeps wdCounters s shown := h.rstoActive hn _
  have k2 : WdKeeps wdCounters s lowered := (k1.rstoLow hn _).rstoCount hn _
  clear_value shown lowered
  exact ite (ite ((k1.rstoDelayed hn _).disarm _) ((k2.arm _ _).wdIdle n)) (ite ((k1.rstoDelayed hn _).arm _ _) k1)

theorem rstoRelease (h : WdKeeps wdCounters s t) : WdKeeps wdCounters s (t.rstoRelease n) := by
  have k := (h.rstoLow hn false).rstoDelayed hn false
  exact ite k.wdArm k

theorem rstoFree (h : WdKeeps wdCounters s t) : WdKeeps wdCounters s (t.rstoFree n) := by
  have k := ((h.rstoActive hn 0).disarm (T.rstoMin n)).disarm (T.rstoRel n)
  exact ite (k.rstoRelease hn) (k.rstoDelayed hn false)

end

theorem rstoRefresh (h : WdKeeps wdCounters s t) : WdKeeps wdCounters s t.rstoRefresh :=
  ite (h.foldl fun _ _ hn k => ite (k.rstoFollow (List.mem_range.1 hn)) (k.rstoFree (List.mem_range.1 hn))) h

end WdKeeps

end Sys2Proof.Machine
end

section
/-! SUPPORT.  What an error, a good answer and an expiry of the watchdog count (R163, R164), and O12. -/

namespace Sys2Proof.Machine

variable {f g : Field} {s t u : State} {ans : Nat}

/-- ERRCNT takes a value of its three bits, and the counters of SUP_WD_CNT stay. -/
theorem State.setErrcnt_counts (s : State) {v : Nat} (hv : v < 8) :
    WdKeeps [R.SUP_WD_CNT.BAD, R.SUP_WD_CNT.TOUT, R.SUP_WD_CNT.EXPC] s (s.setF R.SUP_WD_STATUS.ERRCNT v) ∧
    (s.setF R.SUP_WD_STATUS.ERRCNT v).fld R.SUP_WD_STATUS.ERRCNT = v :=
  ⟨(WdKeeps.refl _ s).setF v (by decide), (State.fld_setF_self s v (by decide)).trans (Nat.mod_eq_of_lt hv)⟩

/-- A fresh challenge after SEQ was written touches no error counter (R161). -/
theorem WdKeeps.setSeq (h : WdKeeps wdCounters s t) (v : Nat) :
    WdKeeps wdCounters s (t.setF R.SUP_WD_STATUS.SEQ v).wdChallenge := (h.setF v (by decide)).wdChallenge

/-- The expiry counts in EXPC and leaves no error counted; bad writes and time-outs stay as counted (R163, R164). -/
theorem State.wdExpire_counts (s : State) : WdKeeps [R.SUP_WD_CNT.BAD, R.SUP_WD_CNT.TOUT] s s.wdExpire ∧
    s.wdExpire.fld R.SUP_WD_STATUS.ERRCNT = 0 ∧ Counts R.SUP_WD_CNT.EXPC s s.wdExpire := by
  unfold State.wdExpire
  extract_lets n raised counted held
  have k1 : WdKeeps wdCounters s raised :=
    ((WdKeeps.refl _ s).marks (s.raise_marks (by decide))).setB _ (by decide)
  clear_value raised
  have k2 : WdKeeps [R.SUP_WD_STATUS.ERRCNT, R.SUP_WD_CNT.BAD, R.SUP_WD_CNT.TOUT] raised
      (raised.count B.sup R.SUP_WD_CNT.EXPC R.SUP_WD_CNT.SAT_E) :=
    (WdKeeps.refl _ raised).count _ (by decide) (by decide) (by decide)
  have expc : Counts R.SUP_WD_CNT.EXPC raised (raised.count B.sup R.SUP_WD_CNT.EXPC R.SUP_WD_CNT.SAT_E) :=
    raised.count_counts B.sup (by decide) (by decide) (by decide) (by decide)
  have k3 : WdKeeps wdCounters (raised.count B.sup R.SUP_WD_CNT.EXPC R.SUP_WD_CNT.SAT_E) counted :=
    (WdKeeps.refl _ _).marks (State.event_marks _ (by decide))
  have k4 : WdKeeps wdCounters counted held :=
    WdKeeps.ite ((WdKeeps.refl _ counted).arm _ _).rstoRefresh (WdKeeps.refl _ counted)
  clear_value counted held
  obtain ⟨k5, zero⟩ := held.setErrcnt_counts (v := 0) (by decide)
  have k6 := ((WdKeeps.refl wdCounters (held.setF R.SUP_WD_STATUS.ERRCNT 0)).setSeq 0).wdArm
  have expired : WdKeeps [R.SUP_WD_CNT.BAD, R.SUP_WD_CNT.TOUT, R.SUP_WD_CNT.EXPC]
      (raised.count B.sup R.SUP_WD_CNT.EXPC R.SUP_WD_CNT.SAT_E)
      (((held.setF R.SUP_WD_STATUS.ERRCNT 0).setF R.SUP_WD_STATUS.SEQ 0).wdChallenge).wdArm :=
    ((k3.trans k4).mono (by decide)).trans (k5.trans (k6.mono (by decide)))
  exact ⟨((k1.mono (by decide)).trans (k2.mono (by decide))).trans (expired.mono (by decide)),
    (k6.flds _ (by decide)).trans zero,
    expc.congr (k1.flds _ (by decide)) (expired.flds _ (by decide))⟩

theorem State.wdError_eq (s : State) : s.wdError =
    if max 1 (s.sup.wdCfg.field 24 3) ≤ s.fld R.SUP_WD_STATUS.ERRCNT + 1
    then (s.setF R.SUP_WD_STATUS.ERRCNT (s.fld R.SUP_WD_STATUS.ERRCNT + 1)).wdExpire
    else s.setF R.SUP_WD_STATUS.ERRCNT (s.fld R.SUP_WD_STATUS.ERRCNT + 1) := by
  unfold State.wdError
  dsimp only
  rw [State.setF_sup]

/-- An error below the limit counts in ERRCNT (R163). -/
theorem State.wdError_below (below : s.fld R.SUP_WD_STATUS.ERRCNT + 1 < max 1 (s.sup.wdCfg.field 24 3)) :
    WdKeeps [R.SUP_WD_CNT.BAD, R.SUP_WD_CNT.TOUT, R.SUP_WD_CNT.EXPC] s s.wdError ∧
    s.wdError.fld R.SUP_WD_STATUS.ERRCNT = s.fld R.SUP_WD_STATUS.ERRCNT + 1 := by
  have limit : s.sup.wdCfg.field 24 3 < 8 := Nat.mod_lt _ (by decide)
  rw [State.wdError_eq, if_neg (Nat.not_le.2 below)]
  exact s.setErrcnt_counts (by omega)

/-- An error that reaches the limit expires the watchdog (R163, R164). -/
theorem State.wdError_reaches (reaches : max 1 (s.sup.wdCfg.field 24 3) ≤ s.fld R.SUP_WD_STATUS.ERRCNT + 1) :
    WdKeeps [R.SUP_WD_CNT.BAD, R.SUP_WD_CNT.TOUT] s s.wdError ∧ s.wdError.fld R.SUP_WD_STATUS.ERRCNT = 0 ∧
    Counts R.SUP_WD_CNT.EXPC s s.wdError := by
  rw [State.wdError_eq, if_pos reaches]
  have k : WdKeeps [R.SUP_WD_CNT.BAD, R.SUP_WD_CNT.TOUT, R.SUP_WD_CNT.EXPC] s
      (s.setF R.SUP_WD_STATUS.ERRCNT (s.fld R.SUP_WD_STATUS.ERRCNT + 1)) := (WdKeeps.refl _ s).setF _ (by decide)
  obtain ⟨keeps, zero, expc⟩ :=
    (s.setF R.SUP_WD_STATUS.ERRCNT (s.fld R.SUP_WD_STATUS.ERRCNT + 1)).wdExpire_counts
  exact ⟨(k.mono (by decide)).trans keeps, zero, expc.congr (k.flds _ (by decide)) rfl⟩

/-! ## An error by its kind -/

/-- An error was counted in `f`, the counter of its kind, and not in `g`, the counter of the other kind; ERRCNT has
still to take it. -/
structure WdErrorSeen (f g : Field) (s u : State) : Prop where
  kind : f ∈ [R.SUP_WD_CNT.BAD, R.SUP_WD_CNT.TOUT]
  other : g ∈ [R.SUP_WD_CNT.BAD, R.SUP_WD_CNT.TOUT]
  keeps : WdKeeps [R.SUP_WD_STATUS.ERRCNT, g, R.SUP_WD_CNT.EXPC] s u
  counts : Counts f s u
  cfg : u.sup.wdCfg = s.sup.wdCfg

namespace WdErrorSeen

theorem errcnt (h : WdErrorSeen f g s u) : u.fld R.SUP_WD_STATUS.ERRCNT = s.fld R.SUP_WD_STATUS.ERRCNT :=
  h.keeps.flds _ List.mem_cons_self

/-- Below the limit the error counts in its own counter and in ERRCNT alone. -/
theorem below (h : WdErrorSeen f g s u)
    (below : s.fld R.SUP_WD_STATUS.ERRCNT + 1 < max 1 (s.sup.wdCfg.field 24 3)) :
    WdKeeps [g, R.SUP_WD_CNT.EXPC] s u.wdError ∧ Counts f s u.wdError ∧
    u.wdError.fld R.SUP_WD_STATUS.ERRCNT = s.fld R.SUP_WD_STATUS.ERRCNT + 1 := by
  rw [← h.errcnt, ← h.cfg] at below
  obtain ⟨keeps, errcnt⟩ := State.wdError_below below
  have kinds : [R.SUP_WD_CNT.BAD, R.SUP_WD_CNT.TOUT] ⊆ [R.SUP_WD_CNT.BAD, R.SUP_WD_CNT.TOUT, R.SUP_WD_CNT.EXPC] := by
    decide
  have sub : [g, R.SUP_WD_CNT.EXPC] ⊆ [R.SUP_WD_CNT.BAD, R.SUP_WD_CNT.TOUT, R.SUP_WD_CNT.EXPC] :=
    List.cons_subset.2 ⟨kinds h.other, by decide⟩
  exact ⟨(h.keeps.mono (List.subset_cons_self _ _)).trans (keeps.mono sub),
    h.counts.congr rfl (keeps.flds f (kinds h.kind)), errcnt.trans (congrArg (· + 1) h.errcnt)⟩

/-- At the limit the error counts in its own counter and in EXPC, and none is left in ERRCNT. -/
theorem reaches (h : WdErrorSeen f g s u)
    (reaches : max 1 (s.sup.wdCfg.field 24 3) ≤ s.fld R.SUP_WD_STATUS.ERRCNT + 1) :
    WdKeeps [g] s u.wdError ∧ Counts f s u.wdError ∧ Counts R.SUP_WD_CNT.EXPC s u.wdError ∧
    u.wdError.fld R.SUP_WD_STATUS.ERRCNT = 0 := by
  rw [← h.errcnt, ← h.cfg] at reaches
  obtain ⟨keeps, errcnt, expc⟩ := State.wdError_reaches reaches
  have kept : WdKeeps [g] s u := h.keeps.mono (List.cons_subset.2 ⟨by simp, List.nil_subset _⟩)
  have same : u.fld R.SUP_WD_CNT.EXPC = s.fld R.SUP_WD_CNT.EXPC := h.keeps.flds _ (by simp)
  exact ⟨kept.trans (keeps.mono (List.cons_subset.2 ⟨h.other, List.nil_subset _⟩)),
    h.counts.congr rfl (keeps.flds f h.kind), expc.congr same rfl, errcnt⟩

end WdErrorSeen

/-- A bad write counts in BAD. -/
theorem State.wdBad_seen (s : State) : WdErrorSeen R.SUP_WD_CNT.BAD R.SUP_WD_CNT.TOUT s
    (s.count B.sup R.SUP_WD_CNT.BAD R.SUP_WD_CNT.SAT_B) where
  kind := by decide
  other := by decide
  keeps := (WdKeeps.refl _ s).count _ (by decide) (by decide) (by decide)
  counts := s.count_counts _ (by decide) (by decide) (by decide) (by decide)
  cfg := congrArg SupState.wdCfg (s.count_sup _ _ _)

@[simp] theorem State.wdClosed_sup (s : State) : s.wdClosed.sup = s.sup := by
  unfold State.wdClosed
  extract_lets c
  split
  · unfold State.wdOpen
    rw [State.arm_sup, State.setF_sup]
  · rw [State.arm_sup, State.setF_sup]

/-- A time-out counts in TOUT, and the next window begins. -/
theorem State.wdTimeout_seen (s : State) : WdErrorSeen R.SUP_WD_CNT.TOUT R.SUP_WD_CNT.BAD s
    (s.count B.sup R.SUP_WD_CNT.TOUT R.SUP_WD_CNT.SAT_T).wdClosed where
  kind := by decide
  other := by decide
  keeps := ((WdKeeps.refl _ s).count _ (by decide) (by decide) (by decide)).trans
    ((WdKeeps.refl wdCounters _).wdClosed.mono (by decide))
  counts := (s.count_counts B.sup (by decide) (by decide) (by decide) (by decide)).congr rfl
    ((WdKeeps.refl wdCounters _).wdClosed.flds _ (by decide))
  cfg := congrArg SupState.wdCfg ((State.wdClosed_sup _).trans (s.count_sup _ _ _))

/-! ## The answer -/

/-- A good service takes one off ERRCNT and counts nothing else (R163). -/
theorem State.wdJudge_good (window : s.fld R.SUP_WD_STATUS.STATE = 2 ∨ s.fld R.SUP_WD_STATUS.STATE = 4)
    (good : ans = s.wdExpected) :
    WdKeeps [R.SUP_WD_CNT.BAD, R.SUP_WD_CNT.TOUT, R.SUP_WD_CNT.EXPC] s (s.wdJudge ans) ∧
    (s.wdJudge ans).fld R.SUP_WD_STATUS.ERRCNT = s.fld R.SUP_WD_STATUS.ERRCNT - 1 := by
  have bound : s.fld R.SUP_WD_STATUS.ERRCNT < 8 := s.fld_lt R.SUP_WD_STATUS.ERRCNT
  obtain ⟨keeps, errcnt⟩ := s.setErrcnt_counts (v := s.fld R.SUP_WD_STATUS.ERRCNT - 1) (by omega)
  have judged (v : Nat) := ((WdKeeps.refl wdCounters
    (s.setF R.SUP_WD_STATUS.ERRCNT (s.fld R.SUP_WD_STATUS.ERRCNT - 1))).setSeq v).wdClosed
  unfold State.wdJudge
  extract_lets st u
  have open' : (decide (st = 2) || decide (st = 3) || decide (st = 4)) = true := by
    simp only [Bool.or_eq_true, decide_eq_true_eq]
    omega
  have served : (decide (st ≠ 3) && decide (ans = s.wdExpected)) = true := by
    simp only [Bool.and_eq_true, decide_eq_true_eq]
    exact ⟨by omega, good⟩
  rw [if_pos open', if_pos served]
  exact ⟨keeps.trans ((judged _).mono (by decide)), ((judged _).flds _ (by decide)).trans errcnt⟩

/-- Any write in the closed window, and a wrong one in the open or the first window, is an error (R160, R163). -/
theorem State.wdJudge_bad (bad : s.fld R.SUP_WD_STATUS.STATE = 3 ∨
      (s.fld R.SUP_WD_STATUS.STATE = 2 ∨ s.fld R.SUP_WD_STATUS.STATE = 4) ∧ ans ≠ s.wdExpected) :
    s.wdJudge ans = (s.count B.sup R.SUP_WD_CNT.BAD R.SUP_WD_CNT.SAT_B).wdError := by
  unfold State.wdJudge
  extract_lets st u
  have open' : (decide (st = 2) || decide (st = 3) || decide (st = 4)) = true := by
    simp only [Bool.or_eq_true, decide_eq_true_eq]
    omega
  have refused : ¬ (decide (st ≠ 3) && decide (ans = s.wdExpected)) = true := by
    simp only [Bool.and_eq_true, decide_eq_true_eq]
    rintro ⟨window, good⟩
    exact bad.elim window fun wrong => wrong.2 good
  rw [if_pos open', if_neg refused]

/-- An answer from the host that a port takes is judged (R160, R162). -/
theorem exec_wdAnswer {r : Req} {ans : BitVec 16} (host : r = .hostBus ∨ r = .quad)
    (may : s.may r R.SUP_WD_ANS.reg true (some 0xDF) = true) :
    exec (.wdAnswer r ans) s = .next ((s.wdJudge ans.toNat).hostWrite r 0xDF ans.toNat) := by
  show execWdAnswer r ans s = _
  unfold execWdAnswer sentAs
  obtain rfl | rfl := host
  · exact congrArg Host.Outcome.next (if_pos may)
  · exact congrArg Host.Outcome.next (if_pos may)

/-- The record of the host's write is no error counter. -/
theorem State.hostWrite_counter (s : State) (r : Req) (code d : Nat) (hg : g ∈ wdCounters) :
    (s.hostWrite r code d).fld g = s.fld g := by
  have plain : ∀ g ∈ wdCounters,
      g.key ∉ [R.HOST_LAST_TS_LO.reg, R.HOST_LAST_TS_HI.reg] ∧ noteKey g.key = false := by decide
  obtain ⟨key, note⟩ := plain g hg
  exact State.fld_of_reg ((s.hostWrite_within r code d).regs _ key note)

/-- The command leaves the counters as the judgement did, and what it may change beside them. -/
theorem WdKeeps.answer {fs : List Field} {r : Req} {ans : BitVec 16} (h : WdKeeps fs s (s.wdJudge ans.toNat))
    (host : r = .hostBus ∨ r = .quad) (may : s.may r R.SUP_WD_ANS.reg true (some 0xDF) = true) :
    Does (.wdAnswer r ans) s (fun t => (∀ g ∈ wdCounters, t.fld g = (s.wdJudge ans.toNat).fld g) ∧
      Frame (.seq :: .sup :: .link :: notes) s t ∧ RegsIn [B.evt, B.host, B.link, B.sup] s t) := by
  have w : Within (.seq :: .sup :: .link :: notes) (wdKeys ++ [R.HOST_LAST_TS_LO.reg, R.HOST_LAST_TS_HI.reg]) s
      ((s.wdJudge ans.toNat).hostWrite r 0xDF ans.toNat) :=
    (h.within.mono (by decide) (List.subset_append_left _ _)).trans
      ((State.hostWrite_within _ r _ _).mono (by decide) (List.subset_append_right _ _))
  exact ⟨_, exec_wdAnswer host may, fun g hg => State.hostWrite_counter _ r _ _ hg, w.frame,
    w.regs.regsIn (by decide)⟩

/-! ## The end of a window -/

/-- The end of the open or the first window (R160, R163). -/
theorem exec_wdTimeout (window : s.fld R.SUP_WD_STATUS.STATE = 2 ∨ s.fld R.SUP_WD_STATUS.STATE = 4)
    (runs : s.runs T.wd = true) : ∃ d, exec .wdTimeout s = .next
      ((((s.notBefore d).disarm T.wd).count B.sup R.SUP_WD_CNT.TOUT R.SUP_WD_CNT.SAT_T).wdClosed).wdError := by
  obtain ⟨d, hd⟩ := (s.runs_iff T.wd).1 runs
  refine ⟨d, ?_⟩
  show execWdTimeout s = _
  unfold execWdTimeout
  extract_lets st
  have open' : (decide (st = 2) || decide (st = 4)) = true := by
    simp only [Bool.or_eq_true, decide_eq_true_eq]
    exact window
  rw [if_pos open', s.expire_of_deadline hd]

/-- What the end of a window may change beside the counters. -/
theorem WdKeeps.timeout_frame {fs : List Field} {d k : Nat} (h : WdKeeps fs ((s.notBefore d).disarm k) t) :
    Frame (.clock :: .seq :: .sup :: .link :: notes) s t ∧ RegsIn [B.sup] s t := by
  have time : Within (.clock :: .seq :: .sup :: .link :: notes) wdKeys s (s.notBefore d) := by
    refine ⟨fun p hp => ?_, fun _ _ _ => rfl⟩
    cases p
    case clock => exact absurd List.mem_cons_self hp
    all_goals rfl
  have w := (time.disarm k (by decide)).trans (h.within.mono (by decide) (List.Subset.refl _))
  exact ⟨w.frame, w.regs.regsIn (by decide)⟩

/-- Settles O12: the judged answer and the end of a window each count by their kind, and the expiry counts on top. -/
theorem watchdogErrorsCount : Obligations.WatchdogErrorsCount := by
  unfold Obligations.WatchdogErrorsCount
  refine ⟨fun r ans s host may window good => ?good, fun r ans s host may bad below => ?bad,
    fun r ans s host may bad reaches => ?badLast, fun s window runs below => ?timeout,
    fun s window runs reaches => ?timeoutLast⟩
  case good =>
    obtain ⟨keeps, errcnt⟩ := State.wdJudge_good window good
    obtain ⟨t, run, recorded, frame⟩ := keeps.answer host may
    exact ⟨t, run, (recorded _ (by decide)).trans errcnt,
      (recorded _ (by decide)).trans (keeps.flds _ (by decide)),
      (recorded _ (by decide)).trans (keeps.flds _ (by decide)),
      (recorded _ (by decide)).trans (keeps.flds _ (by decide)), frame⟩
  case bad =>
    obtain ⟨keeps, counts, errcnt⟩ := s.wdBad_seen.below below
    rw [← State.wdJudge_bad bad] at keeps counts errcnt
    obtain ⟨t, run, recorded, frame⟩ := keeps.answer host may
    exact ⟨t, run, (recorded _ (by decide)).trans errcnt, counts.congr rfl (recorded _ (by decide)),
      (recorded _ (by decide)).trans (keeps.flds _ (by decide)),
      (recorded _ (by decide)).trans (keeps.flds _ (by decide)), frame⟩
  case badLast =>
    obtain ⟨keeps, counts, expc, errcnt⟩ := s.wdBad_seen.reaches reaches
    rw [← State.wdJudge_bad bad] at keeps counts expc errcnt
    obtain ⟨t, run, recorded, frame⟩ := keeps.answer host may
    exact ⟨t, run, (recorded _ (by decide)).trans errcnt, counts.congr rfl (recorded _ (by decide)),
      expc.congr rfl (recorded _ (by decide)), (recorded _ (by decide)).trans (keeps.flds _ (by decide)), frame⟩
  case timeout =>
    obtain ⟨d, run⟩ := exec_wdTimeout window runs
    obtain ⟨keeps, counts, errcnt⟩ := ((s.notBefore d).disarm T.wd).wdTimeout_seen.below below
    exact ⟨_, run, errcnt, counts, keeps.flds _ (by decide), keeps.flds _ (by decide), keeps.timeout_frame⟩
  case timeoutLast =>
    obtain ⟨d, run⟩ := exec_wdTimeout window runs
    obtain ⟨keeps, counts, expc, errcnt⟩ := ((s.notBefore d).disarm T.wd).wdTimeout_seen.reaches reaches
    exact ⟨_, run, errcnt, counts, expc, keeps.flds _ (by decide), keeps.timeout_frame⟩

end Sys2Proof.Machine
end

section
/-! SUPPORT.  What counting, an event, a sillage record, an event-log record and the raise of a fault source leave of
the host's block: all of it but the notice that a newly pending event brings (R275). -/

namespace Sys2Proof.Machine

variable {s t u : State}

/-- Of the host's block nothing differs but whether a Host Notify is due. -/
def HostKept (s t : State) : Prop := ∃ due, t.host = { s.host with notify := due }

namespace HostKept

theorem refl (s : State) : HostKept s s := ⟨s.host.notify, rfl⟩

theorem trans (h : HostKept s t) (g : HostKept t u) : HostKept s u := by
  obtain ⟨_, ht⟩ := h
  obtain ⟨due, hu⟩ := g
  exact ⟨due, by rw [hu, ht]⟩

theorem notify (h : HostKept s t) (due : Bool) : HostKept s { t with host := { t.host with notify := due } } :=
  h.trans ⟨due, rfl⟩

/-- A change of parts other than the host's block. -/
theorem rest (h : HostKept s t) {regs : Cells Word} {timers : Cells (Option Nat)} {trace : Cells TraceRec}
    {post : Option Nat} {flt : FltState} {ledg : LedgState} {evt : EvtState} {bist : BistState} :
    HostKept s { t with regs := regs, timers := timers, trace := trace, tracePost := post, flt := flt, ledg := ledg,
                        evt := evt, bist := bist } := h

theorem setReg (h : HostKept s t) {k : Nat} (v : Word) : HostKept s (t.setReg k v) := h.rest
theorem setF (h : HostKept s t) {f : Field} (v : Nat) : HostKept s (t.setF f v) := h.setReg _
theorem setB (h : HostKept s t) {f : Field} (b : Bool) : HostKept s (t.setB f b) := h.setF _
theorem setBitAt (h : HostKept s t) {r : Nat → Nat} {i : Nat} (b : Bool) : HostKept s (t.setBitAt r i b) := h.setReg _
theorem setPair (h : HostKept s t) {j k : Nat} (v : BitVec 64) : HostKept s (t.setPair j k v) := (h.setReg _).setReg _
theorem arm (h : HostKept s t) (k d : Nat) : HostKept s (t.arm k d) := h.rest
theorem disarm (h : HostKept s t) (k : Nat) : HostKept s (t.disarm k) := h.rest

theorem ite {c : Prop} [Decidable c] (h : HostKept s t) (g : HostKept s u) : HostKept s (if c then t else u) := by
  split <;> assumption

theorem foldl {β : Type} {l : List β} {f : State → β → State} (h : HostKept s t)
    (each : ∀ u x, HostKept u (f u x)) : HostKept s (l.foldl f t) := by
  induction l generalizing t with
  | nil => exact h
  | cons x r ih => exact ih (h.trans (each t x))

/-! ## Events, counters and the trace -/

theorem eventCount (h : HostKept s t) (e : Nat) : HostKept s (t.eventCount e) := by
  unfold State.eventCount
  exact (h.setF _).ite ((h.setF _).setB _)

theorem eventMarks (h : HostKept s t) (e : Nat) : HostKept s (t.eventMarks e) := by
  unfold State.eventMarks
  extract_lets v1 new r1 v2 r2 v3 v4 r3 v5
  have k1 : HostKept s v1 := h.arm _ _
  have k2 : HostKept s v2 := k1.rest.ite k1
  have k3 : HostKept s v3 := k2.rest.ite k2
  have k4 : HostKept s v4 := (k3.setBitAt _).ite k3
  have k5 : HostKept s v5 := (k4.notify _).ite k4
  exact (k5.setBitAt _).ite k4

theorem saturated (h : HostKept s t) (b : Nat) : HostKept s (t.saturated b) := by
  unfold State.saturated
  exact ((h.setReg _).eventCount _).eventMarks _

theorem event (h : HostKept s t) (e : Nat) : HostKept s (t.event e) := by
  have k := (h.eventCount e).eventMarks e
  unfold State.event
  exact (k.saturated _).ite k

theorem count (h : HostKept s t) (b : Nat) (f sat : Field) : HostKept s (t.count b f sat) := by
  unfold State.count
  exact (h.setF _).ite ((((h.setF _).setB _).saturated _).ite h)

theorem traceRec (h : HostKept s t) (a b c : Nat) : HostKept s (t.traceRec a b c) := by
  unfold State.traceRec State.traceAt
  extract_lets full n n2 wr r v1 v2 v3 n3 v4
  have k2 : HostKept s v2 := h.rest.setF _
  have k3 : HostKept s v3 := (k2.setB _).ite k2
  have k4 : HostKept s v4 := (k3.setF _).ite (k3.ite (((k3.setF _).setB _).saturated _))
  clear_value v4
  refine h.ite (((h.setF _).ite (h.ite (((h.setF _).setB _).saturated _))).ite ?_)
  split
  · exact k4
  · exact (k4.rest.setB _).ite k4.rest

/-! ## The Ledger's buffer -/

theorem noteErr (h : HostKept s t) (w : Nat) : HostKept s (t.noteErr w) := by
  unfold State.noteErr
  exact ((h.setF _).count _ _ _).rest.ite ((h.count _ _ _).ite h)

theorem fillErrs (h : HostKept s t) (page full : Nat) : HostKept s (t.fillErrs page full) :=
  h.foldl fun u _ => (refl u).ite ((refl u).noteErr _)

theorem placeBytes {out late : Bool} {page off : Nat} {l : List Byte} (h : HostKept s t)
    (placed : t.placeBytes out late page off l = some u) : HostKept s u := by
  unfold State.placeBytes at placed
  extract_lets v1 v2 v3 v4 v5 v6 v7 v8 v9 v10 at placed
  split at placed
  · cases placed; exact h
  · split at placed
    · cases placed
    · split at placed
      · cases placed; exact h.rest
      · split at placed
        · cases placed
        · cases placed
          have k : HostKept s v9 := (h.fillErrs _ _).rest
          exact ((k.arm _ _).ite k).setF _

theorem placeRecord {r : Nat} {v : BitVec 64} (h : HostKept s t) (placed : t.placeRecord r v = some u) :
    HostKept s u := by
  unfold State.placeRecord at placed
  split at placed
  · cases placed; exact h
  · extract_lets read at placed
    split at placed
    · cases placed
    · next bytes =>
      cases placed
      have k := h.placeBytes bytes
      exact (((k.noteErr _).noteErr _).ite k).rest

theorem bumpRecord (h : HostKept s t) (r : Nat) : HostKept s (t.bumpRecord r) := by
  unfold State.bumpRecord
  extract_lets v
  split
  · next placed => exact h.placeRecord placed
  · exact h.rest

theorem placeLog (h : HostKept s t) (placed : t.placeLog = some u) : HostKept s u := by
  unfold State.placeLog at placed
  split at placed
  · cases placed
  · split at placed
    · cases placed
    · extract_lets i pass at placed
      split at placed
      · cases placed
      · next bytes =>
        have k := h.placeBytes bytes
        obtain ⟨w, wraps, rfl⟩ := Option.map_eq_some_iff.1 placed
        have kw : HostKept s w := by
          split at wraps
          · obtain ⟨x, record, rfl⟩ := Option.map_eq_some_iff.1 wraps
            exact (k.placeRecord record).rest
          · cases wraps; exact k
        exact ((((kw.setB _).ite kw).rest).setF _).setF _

theorem placeLogs (n : Nat) (h : HostKept s t) : HostKept s (State.placeLogs n t) := by
  induction n generalizing t with
  | zero => exact h
  | succ n ih =>
    unfold State.placeLogs
    split
    · next placed => exact ih (h.placeLog placed)
    · exact h

theorem commitParts (h : HostKept s t) : HostKept s t.commitParts := by
  unfold State.commitParts
  extract_lets has window v1 v2 v3 move own keep r1 v4
  have k1 : HostKept s v1 := (h.bumpRecord 5).ite h
  have k2 : HostKept s v2 := (k1.bumpRecord _).ite k1
  have k3 : HostKept s v3 := (k2.ite (k2.fillErrs _ _)).ite k2
  have k4 : HostKept s v4 := k3.rest
  exact k4.rest.ite k4

theorem runCommit (h : HostKept s t) (run rest : List Slot) : HostKept s (t.runCommit run rest) := by
  unfold State.runCommit
  extract_lets r v1 v2 v3
  have k3 : HostKept s v3 := ((h.rest.setB _).setB _).arm _ _
  exact ((k3.disarm _).ite k3).setF _

theorem holdCommit (h : HostKept s t) : HostKept s t.holdCommit := h.ite ((h.setB _).event _)

theorem beginCommit (h : HostKept s t) : HostKept s t.beginCommit := by
  unfold State.beginCommit
  exact h.rest.ite (h.rest.ite (h.rest.holdCommit.ite (h.rest.commitParts.runCommit _ _)))

theorem drainLog (h : HostKept s t) : HostKept s t.drainLog :=
  (h.placeLogs 32).beginCommit.ite (h.placeLogs 32)

/-! ## Entries of the event log and raises -/

theorem enterLog (h : HostKept s t) (a b c d : Nat) : HostKept s (t.enterLog a b c d) := by
  refine HostKept.drainLog ?_
  unfold State.waitLog
  exact (h.rest.setF _).ite (h.count _ _ _).rest

theorem logRaise (h : HostKept s t) (n cause : Nat) (pd : Bool) : HostKept s (t.logRaise n cause pd) := by
  unfold State.logRaise
  exact (h.enterLog _ _ _ _).ite (((h.rest.arm _ _).enterLog _ _ _ _).ite h.rest)

theorem noteFirst (h : HostKept s t) (n : Nat) : HostKept s (t.noteFirst n) := by
  unfold State.noteFirst
  exact (((h.rest.setB _).setF _).setPair _).ite h

theorem startGrace (h : HostKept s t) (n cause : Nat) : HostKept s (t.startGrace n cause) := by
  unfold State.startGrace
  exact (h.rest.ite h).ite (((h.rest.arm _ _).setBitAt _).ite h)

theorem collect (h : HostKept s t) (n cause code : Nat) (pd : Bool) : HostKept s (t.collect n cause code pd) := by
  unfold State.collect
  extract_lets v1 v2 c v3 v4 v5 r6 v6
  have k2 : HostKept s v2 := (h.noteFirst n).setBitAt _
  have k3 : HostKept s v3 := (k2.setF _).ite ((((k2.setF _).setB _).saturated _).ite k2)
  have k5 : HostKept s v5 := (k3.traceRec _ _ _).logRaise _ _ _
  have k6 : HostKept s v6 := k5.rest.ite k5
  have k7 := k6.startGrace n cause
  exact h.ite ((k7.ite k6).ite (k7.event _))

theorem payReads (n : Nat) (h : HostKept s t) : HostKept s (State.payReads n t) := by
  induction n generalizing t with
  | zero => exact h
  | succ n ih => exact h.ite (ih (h.rest.collect _ _ _ _))

theorem raise (h : HostKept s t) (n : Nat) : HostKept s (t.raise n) := (h.collect _ _ _ _).payReads 64

/-- The window and the latched PMBus status (R281, R283) are no notice. -/
theorem window_status (h : HostKept s t) :
    t.host.winAddr = s.host.winAddr ∧ t.host.winLen = s.host.winLen ∧ t.host.pm = s.host.pm := by
  obtain ⟨due, host⟩ := h
  rw [host]
  exact ⟨rfl, rfl, rfl⟩

end HostKept

end Sys2Proof.Machine
end

section
/-! SUPPORT.  What counting leaves as it was: the other parts and registers, and the fault collector with FSTAT. -/

namespace Sys2Proof.Machine

variable {l : List Part} {ks : List Nat} {f sat : Field} {s t : State} {k : Nat}

/-- A count changes its counter's register and its saturation bit's, beside what the event of a full counter changes. -/
theorem Within.count (h : Within l ks s t) (b : Nat) (hl : notes ⊆ l) (hf : f.key ∈ ks) (hs : sat.key ∈ ks) :
    Within l ks s (t.count b f sat) := by
  have regs : Part.regs ∈ l := hl (by decide)
  have counted (v : Nat) : Within l ks s (t.setF f v) := h.setReg _ regs hf
  unfold State.count
  extract_lets n m
  split
  · exact counted _
  · split
    · exact ((counted _).setReg _ regs hs).marks (State.saturated_marks _ b) hl
    · exact h

/-! ## The fault collector -/

theorem State.eventCount_reg_ne (s : State) {e : Nat} (hk : k ≠ R.EVT_CNT.reg e) :
    (s.eventCount e).reg k = s.reg k := by
  unfold State.eventCount
  extract_lets n
  split
  · exact State.reg_setF_ne _ _ hk
  · exact (State.reg_setB_ne _ _ hk).trans (State.reg_setF_ne _ _ hk)

theorem State.eventMarks_reg_ne (s : State) {e : Nat} (pend : k ≠ R.EVT_PEND.reg (e / 32))
    (forward : k ≠ R.EVT_FWD_PEND.reg (e / 32)) : (s.eventMarks e).reg k = s.reg k := by
  unfold State.eventMarks
  extract_lets v1 new r1 v2 r2 v3 v4 r3 v5
  have k2 : v2.reg k = s.reg k := by unfold v2; split <;> rfl
  have k3 : v3.reg k = s.reg k := by unfold v3; split <;> exact k2
  have k4 : v4.reg k = s.reg k := by
    unfold v4
    split
    · exact (State.reg_setBitAt_ne _ _ forward).trans k3
    · exact k3
  have k5 : v5.reg k = s.reg k := by unfold v5; split <;> exact k4
  split
  · exact (State.reg_setBitAt_ne _ _ pend).trans k5
  · exact k4

/-- The registers that EV_073, the event of a full counter, changes (R239). -/
def saturatedKeys : List Nat := [R.EVT_SATSRC.reg, R.EVT_CNT.reg 73, R.EVT_PEND.reg 2, R.EVT_FWD_PEND.reg 2]

theorem State.saturated_reg_ne (s : State) (b : Nat) (hk : k ∉ saturatedKeys) : (s.saturated b).reg k = s.reg k := by
  simp only [saturatedKeys, List.mem_cons, List.not_mem_nil, or_false, not_or] at hk
  obtain ⟨source, counter, pend, forward⟩ := hk
  exact ((State.eventMarks_reg_ne _ pend forward).trans (State.eventCount_reg_ne _ counter)).trans
    (State.reg_setReg_ne _ _ source)

theorem State.count_reg_ne (s : State) (b : Nat) (hf : k ≠ f.key) (hs : k ≠ sat.key) (hk : k ∉ saturatedKeys) :
    (s.count b f sat).reg k = s.reg k := by
  unfold State.count
  extract_lets n m
  split
  · exact State.reg_setF_ne _ _ hf
  · split
    · exact ((State.saturated_reg_ne _ b hk).trans (State.reg_setB_ne _ _ hs)).trans (State.reg_setF_ne _ _ hf)
    · rfl

/-- No counter outside FSTAT touches it. -/
theorem State.count_fstat (s : State) (b : Nat) (hf : f.key ∉ [R.FLT_STAT_LO.reg, R.FLT_STAT_HI.reg])
    (hs : sat.key ∉ [R.FLT_STAT_LO.reg, R.FLT_STAT_HI.reg]) : (s.count b f sat).fstat = s.fstat := by
  simp only [List.mem_cons, List.not_mem_nil, or_false, not_or] at hf hs
  unfold State.fstat State.pair
  rw [s.count_reg_ne b (Ne.symm hf.1) (Ne.symm hs.1) (by decide),
    s.count_reg_ne b (Ne.symm hf.2) (Ne.symm hs.2) (by decide)]

@[simp] theorem State.eventCount_flt (s : State) (e : Nat) : (s.eventCount e).flt = s.flt := by
  unfold State.eventCount
  extract_lets n
  split
  · exact State.setF_flt _ _ _
  · exact (State.setB_flt _ _ _).trans (State.setF_flt _ _ _)

@[simp] theorem State.eventMarks_flt (s : State) (e : Nat) : (s.eventMarks e).flt = s.flt := by
  simp [State.eventMarks, apply_ite State.flt]

@[simp] theorem State.saturated_flt (s : State) (b : Nat) : (s.saturated b).flt = s.flt := by
  simp [State.saturated]

@[simp] theorem State.count_flt (s : State) (b : Nat) (f sat : Field) : (s.count b f sat).flt = s.flt := by
  simp [State.count, apply_ite State.flt]

end Sys2Proof.Machine
end

section
/-! A protocol failure on the two-wire bus, and the transaction that ends inside a byte (R267). -/

namespace Sys2Proof.Machine

variable {s t : State}

theorem State.protoFail_counts (s : State) : Counts R.HOST_CNT.PROTO s s.protoFail :=
  (s.count_counts B.host (by decide) (by decide) (by decide) (by decide)).congr rfl
    (State.fld_of_reg (State.raise_reg _ (by decide) (by decide)))

theorem State.protoFail_raises (s : State) : Raises 57 s s.protoFail :=
  ⟨s.count B.host R.HOST_CNT.PROTO R.HOST_CNT.SAT_R, rfl, s.count_fstat _ (by decide) (by decide),
    congrArg FltState.collecting (s.count_flt _ _ _)⟩

theorem State.protoFail_within (s : State) : Within notes [R.HOST_CNT.reg] s s.protoFail :=
  ((Within.refl _ _ s).count _ (List.Subset.refl _) (by decide) (by decide)).marks (State.raise_marks _ (by decide))
    (List.Subset.refl _)

theorem State.protoFail_hostKept (s : State) : HostKept s s.protoFail := ((HostKept.refl s).count _ _ _).raise _

/-- Whether the device answers on the bus follows from the start stage and the state of PLL_E. -/
theorem State.busOn_of_sys (h : t.sys = s.sys) : t.busOn = s.busOn := by
  unfold State.busOn State.topOn
  rw [h]

/-- A device that answers on the bus takes the abandoned transaction as a protocol failure. -/
theorem exec_busTransactionAbandon (on : s.busOn = true) : exec .busTransactionAbandon s = .next s.protoFail := by
  show execBusTransactionAbandon s = _
  exact congrArg Host.Outcome.next (if_pos on)

/-- Settles O14: the abandoned transaction is a protocol failure, which counts, raises FS_57 and leaves the rest. -/
theorem abandonedTransactionAppliesNothing : Obligations.AbandonedTransactionAppliesNothing := by
  unfold Obligations.AbandonedTransactionAppliesNothing
  intro s on
  obtain ⟨frame, regs⟩ := s.protoFail_within
  have answers : s.protoFail.busOn = true := (State.busOn_of_sys (frame .sys (by decide))).trans on
  exact ⟨_, exec_busTransactionAbandon on, s.protoFail_counts, s.protoFail_raises, frame, regs, answers,
    s.protoFail_hostKept.window_status⟩

end Sys2Proof.Machine
end
